-- ==== Sys2Proof/Word.lean ====
section
/-! DEFINITION. The word and byte types of the device and the plainest arithmetic on their bit fields.
A word is 32 bits (chapter 00, Numbers, bits and units); multi-byte values are little-endian (R5). -/
namespace Sys2Proof

/-- A structure-map word (chapter 00). -/
abbrev Word := BitVec 32

/-- One byte. -/
abbrev Byte := BitVec 8

/-- The number a field [hi:lo] of a word holds. -/
def Word.field (w : Word) (hi lo : Nat) : Nat := (w.toNat / 2 ^ lo) % 2 ^ (hi + 1 - lo)

/-- The word with field [hi:lo] replaced by the low bits of `v`, every other bit unchanged. -/
def Word.setField (w : Word) (hi lo v : Nat) : Word :=
  BitVec.ofNat 32 (w.toNat - w.field hi lo * 2 ^ lo + (v % 2 ^ (hi + 1 - lo)) * 2 ^ lo)

/-- Bit `i` of a word. -/
def Word.bit (w : Word) (i : Nat) : Bool := w.field i i == 1

/-- Saturating increment of a count whose largest value is `max`. -/
def satAdd (max old n : Nat) : Nat := min max (old + n)

/-- 1 for true, 0 for false. -/
def boolNat (b : Bool) : Nat := if b then 1 else 0

/-- ceil(a / b) for b > 0 (chapter 00, pseudocode). -/
def ceilDiv (a b : Nat) : Nat := (a + (b - 1)) / b

/-- The value of a two's complement field of `n` bits. -/
def signed (n v : Nat) : Int := if v % 2 ^ n < 2 ^ (n - 1) then (v % 2 ^ n : Int) else (v % 2 ^ n : Int) - 2 ^ n

/-- An integer as a two's complement field of `n` bits. -/
def unsignedOf (n : Nat) (z : Int) : Nat := (z % (2 ^ n : Int)).toNat

/-- The `n` bytes of a number, least significant first (R5). -/
def bytesLE : Nat → Nat → List Byte
  | 0, _ => []
  | n + 1, v => BitVec.ofNat 8 v :: bytesLE n (v / 256)

/-- The number whose bytes, least significant first, are the list (R5). -/
def natLE : List Byte → Nat
  | [] => 0
  | b :: bs => b.toNat + 256 * natLE bs

/-- The number whose bytes, most significant first, are the list. -/
def natBE (bs : List Byte) : Nat := bs.foldl (fun a b => a * 256 + b.toNat) 0

/-- The `n` bytes of a number, most significant first. -/
def bytesBE (n v : Nat) : List Byte := (bytesLE n v).reverse

/-- The words of a byte string, four bytes a word, little-endian; a short end is padded with zeros. -/
def wordsOfBytes (bs : List Byte) : List Word :=
  (List.range (ceilDiv bs.length 4)).map fun i => BitVec.ofNat 32 (natLE ((bs.drop (4 * i)).take 4))

/-- The bytes of a list of words, little-endian. -/
def bytesOfWords (ws : List Word) : List Byte := ws.flatMap fun w => bytesLE 4 w.toNat

/-- Element `i` of a list of numbers, zero past its end. -/
def nthD (l : List Nat) (i : Nat) : Nat := l.getD i 0

/-- Word `i` of a list of words, zero past its end. -/
def wordAt (l : List Word) (i : Nat) : Word := l.getD i 0

/-- The low and the high word of a 64-bit number. -/
def lo32 (n : Nat) : Word := BitVec.ofNat 32 n
def hi32 (n : Nat) : Word := BitVec.ofNat 32 (n / 2 ^ 32)

end Sys2Proof
end

