-- ==== Sys2Proof/Syntax.lean ====
section
/-! DEFINITION. The commands and events the block takes, one constructor of `Instr` per row of the opcode table, and the
types of their operands. A number the spec bounds is a `Fin`, a fixed set of names an inductive type; what the device
reads from outside itself (host memory, a medium, a neighbour) is an operand: the outside world's answer. -/
namespace Sys2Proof

/-! ## Units and numbers (R13, R299, R373) -/

abbrev LinePort := Fin 96
abbrev RfPort := Fin 32
abbrev RfcLink := Fin 16
abbrev Lane := Fin 104
abbrev Session := Fin 16
abbrev QueueId := Fin 16384
abbrev RingId := Fin 256
abbrev CardPort := Fin 8
abbrev Member := Fin 32
abbrev EntryId := Fin 2048
abbrev RouteId := Fin 65536
abbrev EndpointId := Fin 131072
abbrev LinkId := Fin 16384
abbrev DlqId := Fin 16
abbrev OpTag := Fin 8192
abbrev TxnSlot := Fin 512
abbrev EventPin := Fin 16
abbrev PhysBank := Fin 68
abbrev LedgerBlock := Fin 512
abbrev LogIndex := Fin 256
/-- Domains 0 to 42, the ones that can be switched (R75), and 63, the unswitched core (R72). -/
abbrev Domain := Fin 64
/-- Lane groups: 0 east, 1 west, 2 to 5 peer ports 0 to 3 (R345). -/
abbrev Group := Fin 6
/-- The spared unit kinds 0x0 to 0x6 (R373). -/
abbrev SparedKind := Fin 7

/-- The four power-line bands, in their number order (R97). -/
inductive Band where
  | A | B | C | F
  deriving DecidableEq, Repr

/-- The number of a band (R97). -/
def Band.num : Band → Nat
  | .A => 0 | .B => 1 | .C => 2 | .F => 3

/-- The band of a number. -/
def Band.ofNum : Nat → Band
  | 0 => .A | 1 => .B | 2 => .C | _ => .F

/-- A command's word 0 but for its opcode (R303): session, sequence tag and the four flags. -/
structure Cmd where
  session : Session
  tag : BitVec 16
  quiet : Bool := false
  fence : Bool := false
  f17 : Bool := false
  f16 : Bool := false
  deriving DecidableEq, Repr

/-- Where a direct register write comes from (R34, R297): a command, or a BAR0 access of the host. -/
inductive Src where
  | cmd (c : Cmd)
  | bar0
  deriving DecidableEq, Repr

/-- The host memory's answer to a read the device issues (R320): the bytes, or no good answer. -/
inductive HostAnswer where
  | data (bytes : List Byte)
  | failed
  deriving DecidableEq, Repr

/-- How a host image read ended (R48). -/
inductive ReadFailure where
  | dmaError | windowViolation | linkLoss
  deriving DecidableEq, Repr

/-- Other sources of a full reset acting in the same core tick (R71). -/
structure ResetSources where
  pin : Bool := false
  watchdog : Bool := false
  directive : Bool := false
  command : Bool := false
  deriving DecidableEq, Repr

/-- A physical unit by kind and number (R373). -/
structure UnitRef where
  kind : Fin 11
  unit : Nat
  deriving DecidableEq, Repr

/-- A session, the notice ring or a DMA ring (R299). -/
inductive RingRef where
  | session (s : Session)
  | notice
  | dma (r : RingId)
  deriving DecidableEq, Repr

/-- What a memory read found (R276, R277): nothing, one bit or two bits in error. -/
inductive Upset where
  | none | single | double
  deriving DecidableEq, Repr

/-- A hardware producer (R285): the source block code of R311 and the unit's index. -/
structure HwUnit where
  block : Fin 15
  index : Nat
  deriving DecidableEq, Repr

/-- A launch-queue entry as eight words (R96). -/
abbrev EntryWords := List Word

/-- A key slot: a drawer or an endpoint key (R252). -/
inductive KeySlot where
  | drawer (d : Fin 4096)
  | endpoint (e : EndpointId)
  deriving DecidableEq, Repr

/-- The slot's 18-bit name (R252). -/
def KeySlot.name : KeySlot → Nat
  | .drawer d => 2 ^ 17 + d.val
  | .endpoint e => e.val

/-- A front-end's answer on a control link (R136, R138): 0xAC with its RDATA, 0x5A, or no response. -/
inductive RfcResponse where
  | accept (rdata : Word)
  | nak | none
  deriving DecidableEq, Repr

/-- A character of an RF sample link (R129): 8b/10b, bit 8 says a control character K. -/
abbrev LinkChar := BitVec 9

/-- One LINE cycle of a line port's modulator (R115, R120): the level, -2 to 2 as 0 to 4, and whether the overload detector
fired. -/
structure ModSample where
  level : Fin 5
  overload : Bool := false
  deriving DecidableEq, Repr

/-- What a power-line receiver decoded (R156, R158, R164): the PSDU, none where a Reed-Solomon block was uncorrectable, bytes
corrected, the output samples tagged OVL as indices from the frame's first prefix sample, and each active carrier's SNR in
0.25 dB (none for a carrier without an estimate). -/
structure PlcRx where
  psdu : Option (List Byte)
  rsCorr : Nat := 0
  overloads : List Nat := []
  snr : List Int := []
  deriving DecidableEq, Repr

/-- A completed search transform (R175, R182): the DT in ns at which it completed, and the mean power per active carrier, or the
level on carriers 84 to 86, as a number of -0.5 dB steps in dBFS. -/
structure Spectrum where
  at_ : Nat
  level : Nat
  deriving DecidableEq, Repr

/-- What the two windows of a line detection give (R156): the band, the metric, and the DT in ns at which the second ends. -/
structure DetWindows where
  band : Band
  metric : Nat
  end_ : Nat
  deriving DecidableEq, Repr

/-- A slot that a band channel has drawn (R176, R180): the round, the slot within the class's window, and the search transforms of the
last while, newest first. -/
structure SlotDraw where
  round : Nat
  draw : Nat
  spectra : List Spectrum
  deriving DecidableEq, Repr

/-- Band C's access (R182): the draw of its access time and the search transforms, newest first. -/
structure BandcDraw where
  draw : Fin 16
  spectra : List Spectrum
  deriving DecidableEq, Repr

/-- A chirp detection's measurements (R204, R207): peak to mean ratio and power in dBm. -/
structure DetLevel where
  ratio : Nat
  power : Int
  deriving DecidableEq, Repr

/-- A physical demodulator (R373). -/
abbrev DemodRef := Fin 2176

/-- Why a held chirp frame ends (R206): no chirp and no sync word, or too many INV samples in the symbol whose start is stamped `t`. -/
inductive ChirpLoss where
  | lost
  | invalid (t : Nat)
  deriving DecidableEq, Repr

/-- What a chirp demodulator decided and measured (R201, R213, R214): the values of the symbols of the further blocks, in order, SNR in
0.25 dB, CEER in percent, FOFS in Hz. -/
structure ChirpRx where
  values : List Nat
  snr : Int := 0
  ceer : Nat := 0
  fofs : Int := 0
  deriving DecidableEq, Repr

/-! ## The bench (chapters 13 and 14) -/

/-- The age of a transaction (R323): the DT of its opening in ns with its 16-bit fraction, and the opening member. -/
structure Age where
  time : Nat
  frac : Nat
  member : Nat
  deriving DecidableEq, Repr

/-- A bench-wide transaction's action as its member receives it (R337): the master's handle, the age, the index, the
action record and the staged item. -/
structure BenchAction where
  handle : Nat
  age : Age
  members : Nat
  index : Nat
  record : List Word
  item : List Word
  deriving DecidableEq, Repr

/-- A frame carried to the member that owns its next target, or handed back by a lender (R245, R364). -/
structure BenchFrame where
  medium : Nat
  port : Nat
  band : Nat := 0
  record : List Word
  body : List Byte
  /-- The stream of a leased demodulator the frame ends, if it comes from a lender. -/
  stream : Option Nat := none
  deriving DecidableEq, Repr

/-- One record of a TWIN message (R356). -/
inductive TwinRecord where
  | queueWrite (q : QueueId) (item : List Word)
  | queueRelease (q : QueueId) (words : Nat)
  | launchInsert (e : EntryId) (gen : Nat) (words : List Word)
  | launchRemoval (e : EntryId)
  | beacon (port : LinePort) (band : Band) (bsn : Word)
  | eventCounter (ep : EndpointId) (tx rx : Word)
  | duty (pair : RfPort) (band : Fin 8) (second used : Nat)
  deriving DecidableEq, Repr

/-- A LEASE message (R362, R364): a credit, the start of a stream (port, channel, SF − 5, BW, FE_STEP, G, stamp of sample 0),
its end by the owner with a status, and its end by the lender without a frame. -/
inductive LeaseMsg where
  | credit
  | start (stream port chan sf bw step gain time : Nat)
  | end_ (stream status : Nat)
  | failed (stream status : Nat)
  deriving DecidableEq, Repr

/-- What a message of the bench or the fabric carries (R353). -/
inductive BenchContent where
  | ack (tag status : Nat) (words : List Word)
  | launch (entry : List Word)
  | cancel (handle : Nat)
  | read (addr count : Nat)
  | write (addr : Nat) (data : List Word)
  | reset (graceful hostLoad : Bool)
  | action (a : BenchAction)
  | prepare (handle time : Nat)
  | vote (handle : Nat) (yes : Bool) (status index : Nat)
  | decision (handle : Nat) (commit : Bool)
  | outcome (handle status : Nat)
  | wound (slot wounder wounderMember : Nat)
  | frame (f : BenchFrame)
  | enqueue (ring q : Nat) (start : Bool) (words : List Word)
  | twin (records : List TwinRecord)
  | lease (m : LeaseMsg)
  | route (entries : List (Nat × Nat))
  | peerFrame (dst src : Nat) (f : BenchFrame)
  | peerHandover (dst src : Nat) (entry : EndpointId) (words : List Word)
  | peerAck (dst src tag status : Nat)
  deriving DecidableEq, Repr

/-- A received message (R353, R354): its header, its content, and under which key generations its GCM tag checks. -/
structure BenchMsg where
  kind : Nat
  src : Member
  dst : Member
  chan : Nat := 0
  /-- Cells it came in. -/
  cells : Nat := 1
  tag : OpTag
  retry : Bool := false
  hops : Nat := 0
  counter : Nat
  tagCur : Bool := true
  tagPrev : Bool := false
  content : BenchContent
  deriving DecidableEq, Repr

/-- A time cell as it arrives (R355): the sender's DT and fraction at its departure, hops, the sender's REFSTATE, and the
stamp of its arrival. -/
structure TimeCell where
  dt : Nat
  frac : Nat
  hops : Nat
  refState : Nat
  arrival : Nat
  deriving DecidableEq, Repr

/-- An echo cell with the stamp of the arrival of its frame (R355); a request also with the stamp of the departure of the frame
that carries its response, the transmitter's own. -/
inductive EchoCell where
  | request (sequence arrival departs : Nat)
  | response (sequence t2 t3 t4 : Nat)
  deriving DecidableEq, Repr

/-- What the neighbour's frame overhead reports (R349). -/
structure Neighbour where
  member : Nat
  master : Bool
  prefix_ : Nat
  nmemb : Nat
  lanes : Nat
  skew : Nat
  rdi : Bool
  linkmap : Word
  deriving DecidableEq, Repr

/-- Why a lane group cannot be UP any more (R348, R350, R351). -/
inductive LaneFail where
  | lock | frame | multiframe | skew | index | count
  deriving DecidableEq, Repr

/-- A HELLO cell (R367). -/
structure HelloCell where
  addr : Nat
  prefix_ : Nat
  port : Nat
  nmemb : Nat
  deriving DecidableEq, Repr

/-! ## The service tag (R385) -/

/-- The envelope of an ISO/IEC 15693 request: the Address and Select flags, the UID, AFI, and the inventory mask. -/
structure FieldCmd where
  twoSubcarriers : Bool := false
  addressed : Bool := false
  selectFlag : Bool := false
  uid : Nat := 0
  afi : Option Nat := none
  maskLen : Nat := 0
  mask : Nat := 0
  /-- Option flag: send the block security status. -/
  option : Bool := false
  /-- Information fields asked for by the extended system-information request. -/
  fields : Nat := 0
  /-- The field at the antenna is below 0.5 A/m (R421). -/
  weak : Bool := false
  deriving DecidableEq, Repr


/-! ## The commands and events -/

/-- One constructor per row of the opcode table, in the table's order. -/
inductive Instr where
  /-- NOP (R304): Command that completes OK and returns payload words 2 to 11 as result words. -/
  | nop (c : Cmd) (payload : List Word)
  /-- READ (R306): Command that reads 1 to 8 structure-map words captured in one core tick. -/
  | read (c : Cmd) (addr : Nat) (count : Nat)
  /-- WRITE (R306): Command that writes 1 to 13 structure-map words in one core tick, refused whole under R11. -/
  | write (c : Cmd) (addr : Nat) (data : List Word)
  /-- READ_BLOCK (R306): Command that copies a structure-map range into host memory in groups of 8 words. -/
  | readBlock (c : Cmd) (addr : Nat) (host : Nat) (len : Nat)
  /-- WRITE_BLOCK (R306): Command that copies host memory into a structure-map range, stopping at the first refused group. -/
  | writeBlock (c : Cmd) (addr : Nat) (host : Nat) (len : Nat) (ans : HostAnswer)
  /-- ENQUEUE (R285): Command that makes a producer write of 1 to 13 words into a queue. -/
  | enqueue (c : Cmd) (addr : Nat) (start : Bool) (data : List Word)
  /-- LAUNCH (R98): Command that inserts a launch-queue entry or refuses it with the first applicable status. -/
  | launch (c : Cmd) (entry : List Word)
  /-- LAUNCH_CANCEL (R101): Command that removes a launch-queue entry by handle, or completes TOO_LATE or NOT_FOUND. -/
  | launchCancel (c : Cmd) (entry : List Word) (handle : Nat)
  /-- ROUTE_INSERT (R244): Command that inserts a route into the lowest free entry as a confined amendment. -/
  | routeInsert (c : Cmd) (words : List Word)
  /-- ROUTE_REMOVE (R244): Command that removes a route entry as a confined amendment. -/
  | routeRemove (c : Cmd) (entry : RouteId)
  /-- KEY_LOAD (R257): Command that unwraps and loads, rolls, ends a roll of or clears a key slot after ordered checks. -/
  | keyLoad (c : Cmd) (request : List Word)
  /-- CIPHER (R265): Command that runs a host CCM*, GCM or CMAC request from IN_Q to OUT_Q. -/
  | cipher (c : Cmd) (request : List Word)
  /-- LOAD_IMAGE (R46): Command that offers an image buffer in host memory to the loader in LOAD. -/
  | loadImage (c : Cmd) (host : Nat) (len : Nat)
  /-- FULL_RESET (R71): Command that resets the device, through DRAIN when GRACEFUL is set. -/
  | fullReset (c : Cmd)
  /-- TXN_OPEN (R322): Command that opens a hardware transaction in the least recently freed slot and fixes its age. -/
  | txnOpen (c : Cmd) (payload : List Word)
  /-- TXN_ADD (R327): Command that checks an action, claims its lock and adds it to an open transaction. -/
  | txnAdd (c : Cmd) (payload : List Word)
  /-- TXN_COMMIT (R341): Command that commits a transaction at once, schedules its COMMIT entry, or seals a bench-wide one. -/
  | txnCommit (c : Cmd) (payload : List Word)
  /-- TXN_ABORT (R341): Command that aborts a transaction and releases its locks, reservations and staged items. -/
  | txnAbort (c : Cmd) (payload : List Word)
  /-- TXN_STATUS (R341): Command that returns the TN_SLOT words of a transaction. -/
  | txnStatus (c : Cmd) (payload : List Word)
  /-- MEMBER_RESET (R369): Master command that sends a reset directive to the named bench members. -/
  | memberReset (c : Cmd) (payload : List Word)
  /-- REMOTE_READ (R369): Master command that reads words of a member's structure map over the bench. -/
  | remoteRead (c : Cmd) (addr : Nat) (payload : List Word)
  /-- REMOTE_WRITE (R369): Master command that writes words of a member's structure map over the bench. -/
  | remoteWrite (c : Cmd) (addr : Nat) (payload : List Word)
  /-- HANDOVER (R369): Master command that sends an endpoint entry, without key slot or offset, to another fabric address. -/
  | handover (c : Cmd) (payload : List Word)
  /-- LEDGER_READ (R390): Command that reads one service-ledger block under the block claim. -/
  | ledgerRead (c : Cmd) (block : Nat)
  /-- LEDGER_WRITE (R390): Privileged command that writes one technician-area ledger block. -/
  | ledgerWrite (c : Cmd) (block : Nat) (data : List Word)
  /-- FAULT_CLOSE (R390): Command that closes one open fault record or every open record. -/
  | faultClose (c : Cmd) (value : Nat)
  /-- REQ_RUN (R63): Mode request RUN that leaves the STANDBY hold or returns from QUIET. -/
  | reqRun (c : Cmd) (lineLow : Bool)
  /-- REQ_QUIET (R64): Mode request that enters QUIET, letting transmissions on the medium finish. -/
  | reqQuiet (c : Cmd)
  /-- REQ_SHADOW (R63): Mode request that hands over to the twin and enters SHADOW. -/
  | reqShadow (c : Cmd)
  /-- REQ_DRAIN (R72): Mode request that enters DRAIN for power-down. -/
  | reqDrain (c : Cmd)
  /-- FAULT_ACK (R67): Mode request that stops the FAULT-mode watchdog. -/
  | faultAck (c : Cmd)
  /-- OPTAG_HW_CLEAR (R25): Write of MD_OPTAG.HW_CLEAR that sets HIGH_WATER to IN_FLIGHT. -/
  | optagHwClear (c : Cmd)
  /-- POOL_HW_CLEAR (R219): Write of CH_POOLSTAT.HW_CLEAR that sets HIGH_WATER to BUSY. -/
  | poolHwClear (c : Cmd)
  /-- ABORTINFO_CLEAR (R79): Write to MD_ABORTINFO that clears LENGTH and OVERFLOW and increments EPOCH. -/
  | abortinfoClear (c : Cmd) (value : Word)
  /-- COUNTER_CLEAR (R139): Write of any value to a count-only register, which clears its counts. -/
  | counterClear (c : Cmd) (addr : Nat) (value : Word)
  /-- W1C_CLEAR (R9): Write of one to a W1C bit, which clears it unless the device sets it in the same tick. -/
  | w1cClear (src : Src) (addr : Nat) (mask : Word) (racing : Word)
  /-- REGISTER_WRITE (R7): Direct write to a register with no row of its own, applying RW fields and ignoring RO fields. -/
  | registerWrite (src : Src) (addr : Nat) (value : Word)
  /-- FUSE_ARM (R53): Write of 0xA5E1 to CF_FUSECTL.CODE that arms fuse blowing. -/
  | fuseArm (c : Cmd)
  /-- FUSE_BLOW (R53): Write of 0xB10C after arm that starts fuse programming or sets REFUSED. -/
  | fuseBlow (c : Cmd)
  /-- FUSE_PROGRAM_DONE (R53): Fuse programming completes within 50 ms, clearing BUSY and setting DONE. -/
  | fuseProgramDone
  /-- STEP_SET (R83): Write of TB_STEPCTL.SET that steps DT to TB_SETTIME or is refused with STEP_REFUSED. -/
  | stepSet (c : Cmd)
  /-- STEP_ACCEPT (R88): Write of TB_STEPCTL.ACCEPT that clears REJECTED and starts slewing to the reference. -/
  | stepAccept (c : Cmd)
  /-- QCTL_ADVANCE (R283): Queue operation that advances R by COUNT or is refused with QUEUE_UNDERRUN. -/
  | qctlAdvance (c : Cmd) (q : QueueId) (count : Nat)
  /-- QCTL_RELEASE (R283): Queue operation that sets REL and M to R, freeing words before R. -/
  | qctlRelease (c : Cmd) (q : QueueId)
  /-- QCTL_MARK (R283): Queue operation that sets M to R. -/
  | qctlMark (c : Cmd) (q : QueueId)
  /-- QCTL_REWIND (R283): Queue operation that sets R to M so items are read again. -/
  | qctlRewind (c : Cmd) (q : QueueId)
  /-- QCTL_FLUSH (R288): Queue flush that discards items, sets pointers to W and may orphan a producer. -/
  | qctlFlush (c : Cmd) (q : QueueId)
  /-- QCTL_CLRCNT (R293): Queue operation that clears ORPHANS and QM_QCFG.CORR. -/
  | qctlClrcnt (c : Cmd) (q : QueueId)
  /-- QCFG_STALE_WRITE (R290): Write of QM_QCFG.STALE that recomputes the stale deadline. -/
  | qcfgStaleWrite (c : Cmd) (q : QueueId) (value : Word)
  /-- LANE_RUN (R124): Write of SC_LANECTL.RUN that stops a lane or starts it with its INV count. -/
  | laneRun (c : Cmd) (lane : Lane) (run : Bool)
  /-- LPGAIN_WRITE (R117): Direct write to SC_LPGAIN that changes receive gain or attenuation at the next LINE cycle. -/
  | lpgainWrite (c : Cmd) (port : LinePort) (value : Word)
  /-- RING_ENABLE (R318): Write setting EN of a session or ring, checked against host windows. -/
  | ringEnable (src : Src) (ring : RingRef) (value : Word)
  /-- EP_STATE_ACTIVE (R226): Host write of STATE ACTIVE to an endpoint entry, setting LASTRX. -/
  | epStateActive (c : Cmd) (ep : EndpointId) (value : Word)
  /-- EP_STATE_FREE (R226): Host write of STATE FREE to an endpoint entry, dropping its mailbox frames. -/
  | epStateFree (c : Cmd) (ep : EndpointId) (value : Word)
  /-- NOW_LO_READ (R108): BAR0 read of TB_NOW_LO or the first word of an RS pair that latches the partners for the requester. -/
  | nowLoRead (req : Nat) (addr : Nat) (wide : Bool)
  /-- RS_SHADOW_READ (R108): BAR0 read of an RS partner word that returns and consumes the requester's shadow. -/
  | rsShadowRead (req : Nat) (addr : Nat)
  /-- HL_CDB (R300): Command doorbell write that sets a session's producer count or is ignored as a session error. -/
  | hlCdb (s : Session) (count : Nat)
  /-- HL_NDB (R301): Notice-ring doorbell write that returns notice entries to the device. -/
  | hlNdb (count : Nat)
  /-- HL_DDB (R315): DMA ring doorbell write that hands descriptors to the device. -/
  | hlDdb (r : RingId) (count : Nat)
  /-- SUPPLIES_UP (R408): Supplies reach range and the device goes from OFF to COLD. -/
  | suppliesUp
  /-- SUPPLY_LOSS (R409): A rail leaves range for more than 1 µs and the device passes to OFF. -/
  | supplyLoss
  /-- RESET_PIN (R71): RESET_N low recognised, causing an immediate full reset. -/
  | resetPin (others : ResetSources)
  /-- COLD_TO_LOAD (R63): RESET_N high, PLLs locked and fuses read: straps sampled and the loader starts. -/
  | coldToLoad (bootSrc : Bool) (benchMasterN : Bool)
  /-- IMAGE_READ_DONE (R47): The loader has all TOTAL_LEN bytes and applies the checks in order. -/
  | imageReadDone (image : List Byte)
  /-- LOAD_ATTEMPT_FAILED (R48): A host image read ends in DMA_ERROR, WINDOW_VIOLATION or link loss, discarding staged bytes. -/
  | loadAttemptFailed (why : ReadFailure)
  /-- LOAD_TIMEOUT (R46): No LOAD_IMAGE within 10 s of LOAD entry takes the check-failure path with NO_IMAGE. -/
  | loadTimeout
  /-- SELF_TEST_DONE (R68): CHECK ends: failed units retired and replaced, then STANDBY or FAULT. -/
  | selfTestDone (failed : List UnitRef)
  /-- DEFAULTED_TEST_DONE (R62): The DEFAULTED entry test ends, retiring failed units or entering FAULT. -/
  | defaultedTestDone (failed : List UnitRef)
  /-- DEF_TX_START (R62): In DEFAULTED both acquisition conditions hold and MD_STATE.DEF_TX is set. -/
  | defTxStart
  /-- ACQUIRE_COMPLETE (R92): Time and mains conditions hold and ACQUIRE passes to RUN, QUIET or SHADOW. -/
  | acquireComplete
  /-- TWIN_TAKEOVER (R70): A shadow senses TWIN_ACTIVE_N high for 2 µs and takes over as active twin. -/
  | twinTakeover
  /-- TWIN_RECHECK (R69): A SECONDARY shadow senses the line again after a further 5 µs. -/
  | twinRecheck (low : Bool)
  /-- TWIN_LINK_LOST (R69): Twin-state cells stop for TWIN_MISS ms while the line stays low. -/
  | twinLinkLost
  /-- TWIN_SEND (R356): The active twin sends a TWIN message at MFI 0 or when 4 KiB of updates accumulate. -/
  | twinSend (group : Group)
  /-- TWIN_MESSAGE (R356): A twin receives a TWIN message and applies its records in order. -/
  | twinMessage (group : Group) (records : List TwinRecord)
  /-- DOMAIN_DRAINED (R78): A draining domain has no work left and passes to CLAMPING. -/
  | domainDrained (d : Domain)
  /-- DRAIN_LIMIT_EXPIRY (R78): DRAIN_LIMIT elapses and remaining operations complete with ABORTED_POWER. -/
  | drainLimitExpiry (d : Domain)
  /-- DOMAIN_OFF (R77): A clamping domain reaches OFF. -/
  | domainOff (d : Domain)
  /-- DOMAIN_ON (R77): A powering-up domain reaches ON and its units start from the structure. -/
  | domainOn (d : Domain)
  /-- UNIT_WEDGED (R379): A unit exceeds its progress limit; its work ends and a record and notice are written. -/
  | unitWedged (u : UnitRef)
  /-- AUTOSPARE_SUBST (R379): In the tick after a wedge, the lowest free spare replaces the unit by confined amendment. -/
  | autospareSubst (u : UnitRef)
  /-- WATCHDOG_RESET (R67): The FAULT-mode watchdog expires and performs a full reset. -/
  | watchdogReset (others : ResetSources)
  /-- RESET_DIRECTIVE (R71): A member receives a reset directive, acknowledges it and drains or resets. -/
  | resetDirective (graceful : Bool) (hostLoad : Bool) (from_ : Member) (tag : OpTag)
  /-- PPS_EDGE (R86): A selected PPS_IN edge is stamped and drives the reference state machine. -/
  | ppsEdge (input : Nat) (rising : Bool)
  /-- TOD_SENTENCE (R86): A TOD sentence ends with its line feed, is checked and labels a pulse. -/
  | todSentence (input : Nat) (chars : List Byte)
  /-- TIME_CELL (R87): A bench time cell arrives and disciplines or steps a member's DT. -/
  | timeCell (group : Group) (cell : TimeCell)
  /-- REF_LOSS (R87): No accepted pulse for 1.5 s or no time cell for 10 ms: ACQUIRING to FREE or LOCKED to HOLDOVER. -/
  | refLoss
  /-- HOLDOVER_EXPIRED (R90): HOLDOVER has lasted LIMIT minutes and EXPIRED is set. -/
  | holdoverExpired
  /-- PPS0_RETURN (R87): After 60 s of accepted PPS_IN[0] pulses the reference returns to PPS_IN[0]. -/
  | pps0Return
  /-- MAINS_CROSSING (R93): A rising zero crossing is detected, tested and fitted by the port's tracker. -/
  | mainsCrossing (p : LinePort) (back : Nat)
  /-- MAINS_CROSSING_MISSED (R95): An expected crossing is missing, moving the tracker toward COASTING. -/
  | mainsCrossingMissed (p : LinePort)
  /-- COAST_EXPIRY (R95): A tracker has coasted COAST cycles and falls to UNLOCKED. -/
  | coastExpiry (p : LinePort)
  /-- LOCKING_TIMEOUT (R95): A LOCKING tracker accepts no crossing within 44.44 ms and falls to UNLOCKED. -/
  | lockingTimeout (p : LinePort)
  /-- MAINS_CYCLE_BOUNDARY (R187): A port's mains angle wraps and pending access amendments and fallback ends take effect. -/
  | mainsCycleBoundary (p : LinePort)
  /-- LAUNCH_STAGE (R100): The launch unit stages an entry 2 µs ahead of its launch time. -/
  | launchStage (e : EntryId)
  /-- COMMIT (R333): A launched COMMIT applies a transaction's actions in one tick after commit-tick checks. -/
  | commit (e : EntryId)
  /-- PLC_BAND (R161): Launched action that replaces a port's live band set. -/
  | plcBand (e : EntryId)
  /-- RF_TUNE (R102): Launched action that writes the front-end synthesiser frequency over the control link. -/
  | rfTune (e : EntryId)
  /-- GAIN (R117): Launched action that changes line-port or RF front-end gain. -/
  | gain (e : EntryId)
  /-- RF_PROFILE (R217): Launched action that changes an RF pair's current PA ramp profile. -/
  | rfProfile (e : EntryId)
  /-- PLC_FRAME (R163): Launched action that starts a power-line frame on a band channel. -/
  | plcFrame (e : EntryId)
  /-- RF_TX (R218): Launched action whose first preamble sample leaves the transmit link. -/
  | rfTx (e : EntryId)
  /-- EVENT_EDGE (R110): Launched action that drives an edge on an EVENT_IO output. -/
  | eventEdge (e : EntryId)
  /-- MARKER (R113): Launched action that sets MRK on one output sample of each named stream. -/
  | marker (e : EntryId)
  /-- EVENT_CAPTURE (R110): An input EVENT_IO edge is stamped and reported in EVENT_CAPTURED. -/
  | eventCapture (pin : EventPin) (rising : Bool)
  /-- RF_RX_FRAME (R131): A receive-link frame arrives, is CRC-checked and aligns, realigns or feeds the channeliser. -/
  | rfRxFrame (n : RfPort) (chars : List LinkChar)
  /-- RF_FRAME_MISSING (R131): A frame is not complete 12.5 µs after its pair-0 stamp and the link enters GAP. -/
  | rfFrameMissing (n : RfPort)
  /-- RFC_TRANSACTION (R138): A control-link transaction to a front-end completes with accept, NAK or no response. -/
  | rfcTransaction (k : RfcLink) (resp : RfcResponse)
  /-- LANE_PARITY_ERROR (R124): A coefficient parity error stops a lane and is reported as a fault. -/
  | laneParityError (lane : Lane) (word : Nat)
  /-- CAPTURE_ITEM (R127): 64 lane words are written as one capture item or dropped whole. -/
  | captureItem (p : LinePort) (levels : List ModSample)
  /-- PLC_DETECT (R156): A search-transform pair meets DETTHR and a receiver enters SYNC. -/
  | plcDetect (p : LinePort) (w : DetWindows)
  /-- PLC_SYNCM (R156): SYNCM is found, symbol timing is fixed and the receiver enters HEADER. -/
  | plcSyncm (p : LinePort) (b : Band) (deep : Bool) (start : Nat)
  /-- PLC_SYNC_TIMEOUT (R156): No SYNCM within 16 symbols of detection; the receiver returns to SEARCH. -/
  | plcSyncTimeout (p : LinePort) (b : Band)
  /-- PLC_HEADER_DECIDED (R156): The header is decided and the receiver enters PAYLOAD or returns to SEARCH. -/
  | plcHeaderDecided (p : LinePort) (b : Band) (header : Word)
  /-- PLC_FRAME_DUE (R156): The last payload symbol is decoded and the frame is delivered or dropped. -/
  | plcFrameDue (p : LinePort) (b : Band) (rx : PlcRx)
  /-- PLC_SUSPEND_END (R155): 50 µs after the last DAC sample, suspended receivers return to SEARCH. -/
  | plcSuspendEnd (p : LinePort)
  /-- PLC_ITEM_READ (R163): The modem engine reads a PLC_FRAME's item 100 µs before launch and it is secured. -/
  | plcItemRead (e : EntryId)
  /-- PLC_TX_DONE (R174): A power-line transmission completes and the access controller acts on its outcome. -/
  | plcTxDone (p : LinePort) (b : Band)
  /-- CONTENTION_DECISION (R176): At slot start minus 2 µs a band channel launches or defers from its busy state. -/
  | contentionDecision (p : LinePort) (b : Band) (d : SlotDraw)
  /-- PLC_ACK_SEND (R178): The device launches an ACK 680 µs after a verified frame requesting one. -/
  | plcAckSend (p : LinePort) (b : Band)
  /-- PLC_ACK_RX (R179): A matching ACK arrives and resolves the outstanding attempt. -/
  | plcAckRx (p : LinePort) (b : Band) (psdu : List Byte)
  /-- PLC_ACK_EXPIRY (R179): An ACK deadline expires and the attempt is rewound or released. -/
  | plcAckExpiry (p : LinePort) (b : Band)
  /-- BANDC_ACCESS (R182): A band-C access time expires and the device launches if the band stayed idle. -/
  | bandcAccess (p : LinePort) (d : BandcDraw)
  /-- BEACON_LAUNCH (R183): A beacon launches at a superframe start, or NO_MAINS puts the port in fallback. -/
  | beaconLaunch (p : LinePort) (b : Band)
  /-- GRANT_LAUNCH (R184): Within the device's grant, the next frame that fits the usable part is launched. -/
  | grantLaunch (p : LinePort) (b : Band)
  /-- CHIRP_DETECT (R204): Four matching windows declare a chirp detection. -/
  | chirpDetect (n : RfPort) (ch : Fin 32) (sf : Fin 8) (bin : Nat) (start : Nat) (m : DetLevel)
  /-- DEMOD_GRANT (R205): The allocator grants a demodulator or credit to a detection, or refuses it. -/
  | demodGrant (n : RfPort) (ch : Fin 32) (sf : Fin 8)
  /-- SYNC_DECIDED (R206): The sync word is decided and the demodulator enters FIRST or frees. -/
  | syncDecided (d : DemodRef) (v0 : Nat) (v1 : Nat) (delim : Bool) (syncT : Nat)
  /-- FIRST_BLOCK_DECIDED (R206): The first block is decided; header checked and the demodulator enters PAYLOAD or frees. -/
  | firstBlockDecided (d : DemodRef) (values : List Nat)
  /-- CHIRP_LOST (R206): Two symbol periods without chirp or sync word end a preamble as LOST. -/
  | chirpLost (d : DemodRef) (why : ChirpLoss)
  /-- CHIRP_FRAME_DUE (R206): The last block is decided and the frame is due or dropped on CRC. -/
  | chirpFrameDue (d : DemodRef) (rx : ChirpRx)
  /-- RF_TX_ITEM_READ (R218): The modulator reads an RF_TX item at launch minus 164 µs and fixes the profile. -/
  | rfTxItemRead (e : EntryId)
  /-- RF_ITEM_DEADLINE (R218): The item is not complete by launch minus DUR minus 20 µs and completes MISSED_LAUNCH. -/
  | rfItemDeadline (e : EntryId)
  /-- DUTY_CHECK (R241): At the refusal point a radio transmission is charged or refused DUTY_REFUSED. -/
  | dutyCheck (e : EntryId)
  /-- UPRAMP_START (R208): The PA up-ramp starts, preempting held frames and suspending detectors. -/
  | uprampStart (e : EntryId)
  /-- RF_TX_END (R218): The down-ramp ends and the transmission completes. -/
  | rfTxEnd (n : RfPort)
  /-- CHIRP_SUSPEND_END (R208): 50 µs after the down-ramp, the port's detectors resume. -/
  | chirpSuspendEnd (n : RfPort)
  /-- FRAME_VERIFIED (R262): Verification of a received frame completes under either key generation or fails. -/
  | frameVerified (tag : OpTag)
  /-- FRAME_SECURED (R263): Securing of an outbound frame completes and its counter is assigned. -/
  | frameSecured (tag : OpTag)
  /-- SUPERVISION_EXPIRY (R229): An entry's supervision deadline expires and it goes to LOST. -/
  | supervisionExpiry (ep : EndpointId)
  /-- PROVISIONAL_EXPIRY (R226): A provisional entry without a host STATE write for PROVTTL s returns to FREE. -/
  | provisionalExpiry (ep : EndpointId)
  /-- SLOT_PREPARE (R232): At slot start minus 2 ms the served link's offset, guard and class S writes are set up. -/
  | slotPrepare (link : LinkId)
  /-- SLOT_START (R230): A slot starts, ASN advances and the previous slot's links end. -/
  | slotStart
  /-- SCHED_TX (R234): A TX link offers its queue item, launching it or releasing it with SLOT_OVERRUN. -/
  | schedTx (link : LinkId)
  /-- SCHED_ACK_SEND (R234): A scheduled receiver answers a frame requesting acknowledgement with an ACK. -/
  | schedAckSend (n : RfPort)
  /-- RF_ACK_EXPIRY (R234): A radio ACK window closes without the ACK and the item is rewound or released. -/
  | rfAckExpiry (n : RfPort)
  /-- DLQ_SERVE (R236): The MAC moves a downlink item into a mailbox or link queue, or completes MAILBOX_FULL. -/
  | dlqServe (k : DlqId)
  /-- MBX_EXPIRED (R237): A mailbox frame older than MBXTTL is dropped and its cell freed. -/
  | mbxExpired (ep : EndpointId)
  /-- POLL_RESPONSE (R238): The poll response window opens and the oldest mailbox frame or an ACK is launched. -/
  | pollResponse (ep : EndpointId)
  /-- DC_SECOND (R240): At each second boundary the oldest duty-cycle bucket leaves the sum. -/
  | dcSecond
  /-- CIPHER_DONE (R250): A cipher request's blocks are compared and the request completes. -/
  | cipherDone (tag : OpTag) (agree : Bool) (spare : Nat)
  /-- ROLL_WINDOW_EXPIRY (R256): WINDOW minutes after a ROLL the previous generation empties. -/
  | rollWindowExpiry (slot : KeySlot)
  /-- CARD_EXCHANGE (R270): An EXCHANGE descriptor on a card port's ring starts a card exchange. -/
  | cardExchange (k : CardPort) (cmd : List Byte)
  /-- CARD_ACTIVATE (R266): A card port runs the activation sequence to reset. -/
  | cardActivate (k : CardPort)
  /-- CARD_ATR (R267): The answer to reset is received, decoded and PPS negotiated. -/
  | cardAtr (k : CardPort) (begin_ : Nat) (atr : List Byte) (pps : List Byte)
  /-- CARD_CHARACTER (R268): A card character is received whole, with parity handling. -/
  | cardCharacter (k : CardPort) (char : Byte) (parityOk : Bool)
  /-- CARD_TIMEOUT (R269): WT, CWT or BWT expires, sending an R-block or ending the exchange. -/
  | cardTimeout (k : CardPort)
  /-- CARD_EXCHANGE_END (R270): A card exchange ends, capturing a key or writing the response header. -/
  | cardExchangeEnd (k : CardPort)
  /-- CARD_DEACTIVATED (R266): The deactivation sequence finishes and the port is OFF. -/
  | cardDeactivated (k : CardPort)
  /-- QUEUE_STALE (R290): A queue's stale deadline expires without a read and STALE is set. -/
  | queueStale (q : QueueId)
  /-- QUEUE_OPEN_EXPIRED (R287): A host item open beyond QM_OPENLIM is discarded and its producer orphaned. -/
  | queueOpenExpired (q : QueueId)
  /-- HW_ITEM_WRITE (R286): A hardware producer reserves room and writes a whole item, or sets OVERRUN. -/
  | hwItemWrite (q : QueueId) (unit : HwUnit) (body : List Word)
  /-- SCRUB_READ (R276): A bank's scrub read falls due and corrects or poisons its word. -/
  | scrubRead (bank : PhysBank) (upset : Upset)
  /-- BANK_COPY_DONE (R278): The copy of a logical bank to its spare ends. -/
  | bankCopyDone (bank : Nat)
  /-- HOST_LINK_LOSS (R296): The host link drops; sessions and rings stop and completions are discarded. -/
  | hostLinkLoss
  /-- HOST_LINK_STATE (R296): The host link trains again and HOST_LINK_STATE is written. -/
  | hostLinkState (speed : Nat) (width : Nat)
  /-- COMMAND_FETCH (R300): The device takes a command from a session ring when a slot is free. -/
  | commandFetch (s : Session) (ans : HostAnswer)
  /-- NOTICE_WRITE (R301): A notice is written to the ring when space and a token are available. -/
  | noticeWrite
  /-- IRQ_TIMER (R301): IRQ_TIME passes since the first unsignalled notice and vector 0 is signalled. -/
  | irqTimer
  /-- TOKEN_REFILL (R313): At each millisecond a block's bucket gains RATE tokens. -/
  | tokenRefill
  /-- SPAN_EXPIRY (R384): A gathering span's gap passes and its held notice is handed to the writer. -/
  | spanExpiry (span : Nat)
  /-- DESCRIPTOR_FETCH (R315): The device reads DMA descriptors in ring order. -/
  | descriptorFetch (r : RingId) (ans : HostAnswer)
  /-- DMA_TO_QUEUE (R316): A TO_QUEUE descriptor's buffer is read and written into a queue. -/
  | dmaToQueue (r : RingId) (ans : HostAnswer)
  /-- DMA_FROM_QUEUE (R316): A FROM_QUEUE descriptor waits for a complete item and writes it to host memory. -/
  | dmaFromQueue (r : RingId)
  /-- DMA_WRITE_RESPONSE (R317): The zero-length read completes, releasing the item and writing back the descriptor. -/
  | dmaWriteResponse (r : RingId)
  /-- DMA_TIMEOUT (R320): A read fails or is unanswered within CPL_TIMEOUT and ends with DMA_ERROR. -/
  | dmaTimeout (r : RingId)
  /-- LOCK_GRANT (R329): A released lock is granted to the oldest waiter. -/
  | lockGrant (t : TxnSlot) (action : Nat)
  /-- LOCK_TIMEOUT (R329): A lock wait exceeds WAIT_LIMIT; the action is refused or the reclaim aborted. -/
  | lockTimeout (t : TxnSlot) (action : Nat)
  /-- WOUND_REQUEST (R332): A bench wound reaches the victim's member, which aborts or reclaims it. -/
  | woundRequest (from_ : Member) (tag : OpTag) (t : TxnSlot) (wounder : Nat)
  /-- BENCH_ACTION (R337): A member receives a bench-wide transaction action and checks and stages it. -/
  | benchAction (from_ : Member) (tag : OpTag) (action : BenchAction)
  /-- PREPARE (R338): A member makes commit-tick checks, inserts its COMMIT entry and votes. -/
  | prepare (from_ : Member) (tag : OpTag) (handle : Nat) (commit : Nat)
  /-- VOTE (R339): A member's vote arrives at the master, which may send the decision. -/
  | vote (from_ : Member) (tag : OpTag) (handle : Nat) (yes : Bool) (status : Nat) (index : Nat)
  /-- VOTE_DEADLINE (R339): The vote deadline passes with a vote missing and the master sends ABORT. -/
  | voteDeadline (t : TxnSlot)
  /-- DECISION (R339): A member receives the master's COMMIT or ABORT decision. -/
  | decision (from_ : Member) (tag : OpTag) (handle : Nat) (commit : Bool)
  /-- DECISION_DEADLINE (R339): No decision by C minus GUARD; the member aborts with DECISION_MISSING. -/
  | decisionDeadline (t : TxnSlot)
  /-- OUTCOME_REPORT (R340): A member's outcome report arrives and TXN_DONE is written when all have reported. -/
  | outcomeReport (from_ : Member) (tag : OpTag) (handle : Nat) (status : Nat)
  /-- OUTCOME_TIMEOUT (R340): A member has not reported within 1 ms of C and TXN_DONE carries OUTCOME_SPLIT. -/
  | outcomeTimeout (t : TxnSlot)
  /-- GROUP_UP (R351): Every condition of UP holds and a lane group becomes UP. -/
  | groupUp (g : Group) (neighbour : Neighbour)
  /-- GROUP_DOWN (R360): A lane loses lock or alignment and its group leaves UP, losing partial messages. -/
  | groupDown (g : Group) (lane : Nat) (why : LaneFail) (lost : Nat)
  /-- BENCH_MESSAGE (R353): A complete bench message is received, authenticated and acted on or forwarded. -/
  | benchMessage (g : Group) (msg : BenchMsg)
  /-- BENCH_ACK (R357): The ACK of a bench request arrives and frees its tag. -/
  | benchAck (g : Group) (tag : OpTag) (status : Nat) (words : List Word)
  /-- BENCH_TIMEOUT (R357): A bench request's ACK deadline expires; it is retried the other way or fails. -/
  | benchTimeout (tag : OpTag)
  /-- ECHO_CELL (R355): An ECHO request or response is received and the link delay measured. -/
  | echoCell (g : Group) (cell : EchoCell)
  /-- WTR_EXPIRY (R358): A link has stayed usable for WTR s and paths revert to include it. -/
  | wtrExpiry (link : Nat)
  /-- PERF_SECOND (R361): 10 s after a second ends it is classified into ES, SES and unavailable time. -/
  | perfSecond (g : Group)
  /-- LEASE_CREDIT (R362): A lender grants a set-aside demodulator as a credit to its borrower. -/
  | leaseCredit (k : Nat)
  /-- LEASE_START (R364): A lender receives a LEASE start for a frame on a credit. -/
  | leaseStart (from_ : Member) (stream : Nat) (port : RfPort) (chan : Fin 32) (sf : Fin 8) (bw : Fin 3) (step : Nat) (gain : Nat) (time : Nat)
  /-- SAMPLE_CELL (R364): A SAMPLE cell of a leased stream reaches the lender's demodulator. -/
  | sampleCell (from_ : Member) (stream : Nat) (first : Nat) (samples : List (BitVec 56))
  /-- LEASE_END (R364): The owner ends a leased stream with a status. -/
  | leaseEnd (from_ : Member) (stream : Nat) (status : Nat)
  /-- LEASE_IDLE_FREE (R365): A lent demodulator receives no SAMPLE cell for 1 ms and is freed. -/
  | leaseIdleFree (from_ : Member) (stream : Nat)
  /-- HELLO_SEND (R367): A peer group sends a HELLO cell every 100 ms. -/
  | helloSend (g : Group)
  /-- HELLO_CELL (R367): A HELLO is received and the peer neighbour is UP or DUPADDR set. -/
  | helloCell (g : Group) (cell : HelloCell)
  /-- PEER_DOWN (R367): 350 ms pass without a HELLO and the neighbour goes DOWN. -/
  | peerDown (g : Group)
  /-- ROUTE_ADVERTISE (R368): A peer port sends its distance vector every 1 s or after a change. -/
  | routeAdvertise (g : Group)
  /-- ROUTE_MESSAGE (R368): A peer ROUTE message is received and learned routes updated. -/
  | routeMessage (g : Group) (entries : List (Nat × Nat))
  /-- ROUTE_EXPIRY (R368): A learned peer route is removed after 3 s without refresh. -/
  | routeExpiry (a : Nat)
  /-- HANDOVER_IN (R369): A HANDOVER message is received and written as an item into HANDQ. -/
  | handoverIn (tag : OpTag) (src : Nat) (entry : EndpointId) (words : List Word)
  /-- FAULT_DETECT (R375): An error is detected and a fault record created or repeated. -/
  | faultDetect (code : Nat) (u : UnitRef) (detail : Word)
  /-- FAULT_AUTOCLOSE (R375): AUTOCLOSE seconds after LAST an open record closes. -/
  | faultAutoclose (index : LogIndex)
  /-- AUDIT_STEP (R381): An audit step's DWELL ends and the next spare and live unit are compared. -/
  | auditStep (kind : SparedKind)
  /-- AUDIT_MISMATCH (R382): An audit mismatch is judged with a second spare and a unit may be retired. -/
  | auditMismatch (kind : SparedKind) (agrees : Bool)
  /-- LIFE_COUNTER_UPDATE (R386): At each whole hour of powered time the life counters are written to the ledger. -/
  | lifeCounterUpdate
  /-- LEDGER_PROGRAMMED (R387): A ledger copy finishes programming and is verified, retried or failed. -/
  | ledgerProgrammed (block : LedgerBlock) (ok : Bool)
  /-- LEDGER_CLAIM_TIMEOUT (R388): A host access waits 10 ms for a field-held block and completes SV_BUSY. -/
  | ledgerClaimTimeout (block : LedgerBlock)
  /-- LEDGER_DUMP (R389): An EXCHANGE descriptor on the ledger ring dumps ledger blocks to host memory. -/
  | ledgerDump (cmd : List Byte)
  /-- FIELD_STATE (R388): An NFC field appears or is removed while the device is powered. -/
  | fieldState (present : Bool)
  /-- INVENTORY (R385): ISO/IEC 15693 Inventory command answered by the service tag. -/
  | inventory (f : FieldCmd)
  /-- STAY_QUIET (R385): ISO/IEC 15693 Stay Quiet command. -/
  | stayQuiet (f : FieldCmd)
  /-- READ_SINGLE_BLOCK (R385): Field read of one ledger block 0 to 255. -/
  | readSingleBlock (f : FieldCmd) (block : Nat)
  /-- WRITE_SINGLE_BLOCK (R388): Field write of one ledger block under claim and field-energy limits. -/
  | writeSingleBlock (f : FieldCmd) (block : Nat) (data : List Byte)
  /-- READ_MULTIPLE_BLOCKS (R385): Field read of up to 8 ledger blocks. -/
  | readMultipleBlocks (f : FieldCmd) (first : Nat) (count : Nat)
  /-- SELECT (R385): ISO/IEC 15693 Select command. -/
  | select (f : FieldCmd)
  /-- RESET_TO_READY (R385): ISO/IEC 15693 Reset to Ready command. -/
  | resetToReady (f : FieldCmd)
  /-- GET_SYSTEM_INFORMATION (R385): Field command that returns DSFID, AFI, block size, count and IC reference. -/
  | getSystemInformation (f : FieldCmd)
  /-- EXTENDED_READ_SINGLE_BLOCK (R385): Field read of one ledger block 0 to 511. -/
  | extendedReadSingleBlock (f : FieldCmd) (block : Nat)
  /-- EXTENDED_WRITE_SINGLE_BLOCK (R388): Field write of one ledger block 0 to 511. -/
  | extendedWriteSingleBlock (f : FieldCmd) (block : Nat) (data : List Byte)
  /-- EXTENDED_READ_MULTIPLE_BLOCKS (R385): Field read of up to 8 ledger blocks 0 to 511. -/
  | extendedReadMultipleBlocks (f : FieldCmd) (first : Nat) (count : Nat)
  /-- EXTENDED_GET_SYSTEM_INFORMATION (R385): Extended field system-information command. -/
  | extendedGetSystemInformation (f : FieldCmd)
  /-- UNSUPPORTED_FIELD_COMMAND (R385): A lock or other unsupported field command answered with error code 0x01. -/
  | unsupportedFieldCommand (f : FieldCmd) (code : Nat)
  /-- NO_IMAGE (R48): The boot flash gives no answer, or stops answering during the image read, and the loader at once takes the check-failure path with cause NO_IMAGE. -/
  | noImage
  /-- BUS_MASTER_ENABLE (R295): The host sets Bus Master Enable, so the device resumes fetching commands and descriptors and writing waiting notices. -/
  | busMasterEnable
  /-- ATR_FAIL (R266): No answer to reset begins within 40,000 card clocks of CARD_RST_N rising, and the port deactivates with ATR_FAIL. -/
  | atrFail (k : CardPort)
  /-- CARD_ERROR_SIGNAL (R269): Under T=0 the card drives the error signal seen at 11 etu on a sent character, and the port sends the character again or ends with CARD_PARITY. -/
  | cardErrorSignal (k : CardPort) (index : Nat)
  /-- MULTIFRAME (R355): At the fixed frames of each 1 ms multiframe the device sends its own fixed-slot cells: TIME cells at MFI 0 and the ECHO request at MFI 50. -/
  | multiframe (mfi : Nat)
  /-- RDI_RX (R358): A received frame's overhead reports RDI or a changed LINKMAP bit, making a link usable or not and changing paths with RING_PATH notices. -/
  | rdiRx (g : Group) (lane : Nat) (rdi : Bool) (linkmap : Word) (errored : Bool) (badCells : Nat)
  deriving DecidableEq, Repr

end Sys2Proof
end

