-- ==== Sys2Proof/Decode.lean ====
section
/-! DEFINITION. The commands a bare word spells. The opcode table gives no row any bits: a command of the host is sixteen
words of a ring and an event is no word at all, so no word of the table spells one. -/
namespace Sys2Proof

/-- The command that the bits of a table row spell: none, since no row has bits. -/
def decodeTableWord (_nbits _w : Nat) : Option Instr := none

end Sys2Proof
end

