-- ==== Sys2Proof/Machine/CipherCode.lean ====
section
/-! DEFINITION. The algorithms of the cipher engine: AES (FIPS 197), CCM* (IEEE 802.15.4), GCM (SP 800-38D), CMAC
(SP 800-38B) and the key wrap of RFC 3394, as the standards that chapter 10 cites give them. A block is 16 bytes. -/
namespace Sys2Proof.Machine
open Sys2Proof

/-! ## AES -/

/-- Multiplication in GF(2^8) modulo x^8 + x^4 + x^3 + x + 1 over the low `n` bits of the second factor. The cipher's
factors are below 16. -/
def aesMulAux : Nat → Nat → Nat → Nat
  | 0, _, _ => 0
  | n + 1, a, b =>
    let r := aesMulAux n (let a2 := a * 2; if 256 ≤ a2 then a2 ^^^ 0x11B else a2) (b / 2)
    if b % 2 = 1 then r ^^^ a else r
def aesMul (a b : Nat) : Nat := aesMulAux 4 a b

/-- The S-box (FIPS 197): row x / 16, entry x % 16 in the row's byte of that number, the lowest byte first. -/
def sboxRows : List Nat := [
  0x76ABD7FE2B670130C56F6BF27B777C63,
  0xC072A49CAFA2D4ADF04759FA7DC982CA,
  0x1531D871F1E5A534CCF73F362693FDB7,
  0x75B227EBE28012079A059618C323C704,
  0x842FE329B3D63B52A05A6E1B1A2C8309,
  0xCF584C4A39BECB6A5BB1FC20ED00D153,
  0xA89F3C507F02F94585334D43FBAAEFD0,
  0xD2F3FF1021DAB6BCF5389D928F40A351,
  0x73195D643D7EA7C41744975FEC130CCD,
  0xDB0B5EDE14B8EE4688902A22DC4F8160,
  0x79E4959162ACD3C25C2406490A3A32E0,
  0x08AE7A65EAF4566CA94ED58D6D37C8E7,
  0x8A8BBD4B1F74DDE8C6B4A61C2E2578BA,
  0x9E1DC186B95735610EF6034866B53E70,
  0xDF2855CEE9871E9B948ED9691198F8E1,
  0x16BB54B00F2D99416842E6BF0D89A18C]

/-- The inverse S-box, laid out the same way. -/
def invSboxRows : List Nat := [
  0xFBD7F3819EA340BF38A53630D56A0952,
  0xCBE9DEC444438E3487FF2F9B8239E37C,
  0x4EC3FA420B954CEE3D23C2A632947B54,
  0x25D18B6D49A25B76B224D92866A12E08,
  0x92B6655DCC5CA4D41698688664F6F872,
  0x849D8DA75746155EDAB9EDFD5048706C,
  0x0645B3B80558E4F70AD3BC8C00ABD890,
  0x6B8A130103BDAFC1020F3FCA8F1E2CD0,
  0x73E6B4F0CECFF297EADC674F4111913A,
  0x6EDF751CE837F9E28535ADE72274AC96,
  0x1BBE18AA0E62B76F89C5291D711AF147,
  0xF45ACD78FEC0DB9A2079D2C64B3E56FC,
  0x5FEC8027591012B131C7078833A8DD1F,
  0xEF9CC9939F7AE52D0D4AB519A97F5160,
  0x619953833CBBEBC8B0F52AAE4D3BE0A0,
  0x7D0C2155631469E126D677BA7E042B17]

/-- Substitution of a byte. -/
def sbox (x : Nat) : Nat := sboxRows.getD (x / 16) 0 / 256 ^ (x % 16) % 256
def invSbox (y : Nat) : Nat := invSboxRows.getD (y / 16) 0 / 256 ^ (y % 16) % 256

/-- Exclusive or of two byte strings, as long as the shorter. -/
def xorN (a b : List Nat) : List Nat := List.zipWith (· ^^^ ·) a b

/-- Round words still to come from the last `nk` words (newest first) at word index `i`, `n` of them. -/
def aesExpand (nk : Nat) : Nat → Nat → Nat → List (List Nat) → List (List Nat)
  | 0, _, _, acc => acc
  | n + 1, i, rc, acc =>
    let prev := acc.headD []
    let old := acc.getD (nk - 1) []
    if i % nk = 0 then
      let t := (prev.drop 1 ++ prev.take 1).map sbox
      let t' := xorN t [rc, 0, 0, 0]
      aesExpand nk n (i + 1) (aesMul rc 2) (xorN old t' :: acc)
    else if nk = 8 ∧ i % nk = 4 then aesExpand nk n (i + 1) rc (xorN old (prev.map sbox) :: acc)
    else aesExpand nk n (i + 1) rc (xorN old prev :: acc)

/-- Consecutive pieces of four, `n` of them. -/
def chunk4 {α : Type} : Nat → List α → List (List α)
  | 0, _ => []
  | n + 1, l => l.take 4 :: chunk4 n (l.drop 4)

/-- The round keys of a 16- or 32-byte key, 16 bytes each. -/
def aesKeys (key : List Nat) : List (List Nat) :=
  let nk := key.length / 4
  let rounds := nk + 6
  let ws := (aesExpand nk (4 * (rounds + 1) - nk) nk 1 (chunk4 nk key).reverse).reverse
  (chunk4 (rounds + 1) ws).map (·.flatten)

/-- Shift rows: byte r + 4c comes from column c + r. -/
def shiftRows (s : List Nat) : List Nat := (List.range 16).map fun i => s.getD ((i % 4) + 4 * ((i / 4 + i % 4) % 4)) 0
def invShiftRows (s : List Nat) : List Nat :=
  (List.range 16).map fun i => s.getD ((i % 4) + 4 * ((i / 4 + 4 - i % 4) % 4)) 0

/-- Mix columns with the coefficients of row 0. -/
def mixCols (m0 m1 m2 m3 : Nat) (s : List Nat) : List Nat :=
  (List.range 16).map fun i =>
    let c := 4 * (i / 4)
    let g := fun k => s.getD (c + (i + k) % 4) 0
    aesMul (g 0) m0 ^^^ aesMul (g 1) m1 ^^^ aesMul (g 2) m2 ^^^ aesMul (g 3) m3

/-- The forward cipher on one block. -/
def aesEnc (keys : List (List Nat)) (blk : List Nat) : List Nat :=
  match keys with
  | [] => blk
  | k0 :: ks =>
    let mid := ks.dropLast.foldl (fun s k => xorN (mixCols 2 3 1 1 (shiftRows (s.map sbox))) k) (xorN blk k0)
    xorN (shiftRows (mid.map sbox)) (ks.getLastD [])

/-- The inverse cipher on one block. -/
def aesDec (keys : List (List Nat)) (blk : List Nat) : List Nat :=
  match keys.reverse with
  | [] => blk
  | k0 :: ks =>
    let mid := ks.dropLast.foldl (fun s k => mixCols 14 11 13 9 (xorN ((invShiftRows s).map invSbox) k)) (xorN blk k0)
    xorN ((invShiftRows mid).map invSbox) (ks.getLastD [])

/-! ## Byte strings -/

def toN (l : List Byte) : List Nat := l.map BitVec.toNat
def ofN (l : List Nat) : List Byte := l.map (BitVec.ofNat 8)

/-- `n` bytes of a number, most significant first. -/
def be (n v : Nat) : List Nat := toN (bytesBE n v)

/-- The blocks of a string, the last padded with zeros. -/
def blocks16 (l : List Nat) : List (List Nat) :=
  (List.range (ceilDiv l.length 16)).map fun i =>
    let b := (l.drop (16 * i)).take 16
    b ++ List.replicate (16 - b.length) 0

/-- CBC-MAC over whole blocks from a zero state. -/
def cbcMac (ks : List (List Nat)) (bs : List (List Nat)) : List Nat :=
  bs.foldl (fun x b => aesEnc ks (xorN x b)) (List.replicate 16 0)

/-- Counter-mode key stream over a message, block `i` from `ctr i`. -/
def ctrXor (ks : List (List Nat)) (ctr : Nat → List Nat) (m : List Nat) : List Nat :=
  xorN m ((List.range (ceilDiv m.length 16)).flatMap fun i => aesEnc ks (ctr i))

/-! ## CCM* (IEEE 802.15.4): 13-byte nonce, two-byte length, tag of 0, 4, 8 or 16 bytes -/

def ccmCtr (nonce : List Nat) (i : Nat) : List Nat := 1 :: (nonce ++ be 2 i)

/-- The associated data with its length in front (RFC 3610 and IEEE 802.15.4). -/
def ccmAad (a : List Nat) : List Nat :=
  if a.isEmpty then [] else if a.length < 0xFF00 then be 2 a.length ++ a else [0xFF, 0xFE] ++ be 4 a.length ++ a

/-- The authentication value before encryption. -/
def ccmTag (ks : List (List Nat)) (nonce a m : List Nat) (tl : Nat) : List Nat :=
  let flags := (if a.isEmpty then 0 else 64) + (if tl = 0 then 0 else 8 * ((tl - 2) / 2)) + 1
  let b0 := flags :: (nonce ++ be 2 m.length)
  (cbcMac ks (b0 :: (blocks16 (ccmAad a) ++ blocks16 m))).take tl

/-- Encrypt: the ciphertext and the encrypted tag. -/
def ccmSeal (key nonce a m : List Nat) (tl : Nat) : List Nat × List Nat :=
  let ks := aesKeys key
  (ctrXor ks (fun i => ccmCtr nonce (i + 1)) m, xorN (ccmTag ks nonce a m tl) (aesEnc ks (ccmCtr nonce 0)))

/-- Decrypt and verify: the message, none where the tag differs. -/
def ccmOpen (key nonce a c tag : List Nat) : Option (List Nat) :=
  let ks := aesKeys key
  let m := ctrXor ks (fun i => ccmCtr nonce (i + 1)) c
  if xorN (ccmTag ks nonce a m tag.length) (aesEnc ks (ccmCtr nonce 0)) = tag then some m else none

/-! ## GCM (SP 800-38D), 12-byte IV -/

/-- Multiplication of two 128-bit blocks (most significant bit first) by steps over the bits of `x`. -/
def ghashMulAux : Nat → Nat → Nat → Nat → Nat
  | 0, _, _, z => z
  | n + 1, x, v, z =>
    ghashMulAux n x (if v % 2 = 1 then (v / 2) ^^^ (0xE1 * 2 ^ 120) else v / 2) (if x / 2 ^ n % 2 = 1 then z ^^^ v else z)
def ghashMul (x y : Nat) : Nat := ghashMulAux 128 x y 0

def natOfN (l : List Nat) : Nat := l.foldl (fun a b => a * 256 + b) 0

/-- GHASH of a sequence of blocks. -/
def ghash (h : Nat) (bs : List (List Nat)) : Nat := bs.foldl (fun y b => ghashMul (y ^^^ natOfN b) h) 0

def gcmCtr (iv : List Nat) (i : Nat) : List Nat := iv ++ be 4 i

def gcmTag (ks : List (List Nat)) (iv a c : List Nat) (tl : Nat) : List Nat :=
  let h := natOfN (aesEnc ks (List.replicate 16 0))
  let s := ghash h (blocks16 a ++ blocks16 c ++ [be 8 (8 * a.length) ++ be 8 (8 * c.length)])
  (xorN (be 16 s) (aesEnc ks (gcmCtr iv 1))).take tl

def gcmSeal (key iv a m : List Nat) (tl : Nat) : List Nat × List Nat :=
  let ks := aesKeys key
  let c := ctrXor ks (fun i => gcmCtr iv (i + 2)) m
  (c, gcmTag ks iv a c tl)

def gcmOpen (key iv a c tag : List Nat) : Option (List Nat) :=
  let ks := aesKeys key
  if gcmTag ks iv a c tag.length = tag then some (ctrXor ks (fun i => gcmCtr iv (i + 2)) c) else none

/-! ## CMAC (SP 800-38B) -/

/-- Doubling in GF(2^128). -/
def cmacDbl (l : Nat) : Nat := if l / 2 ^ 127 = 1 then (l * 2 % 2 ^ 128) ^^^ 0x87 else l * 2

def cmac (key m : List Nat) (tl : Nat) : List Nat :=
  let ks := aesKeys key
  let k1 := cmacDbl (natOfN (aesEnc ks (List.replicate 16 0)))
  let whole := !m.isEmpty && m.length % 16 == 0
  let p := if whole then m else m ++ [0x80]
  let bs := blocks16 p
  let last := xorN (bs.getLastD []) (be 16 (if whole then k1 else cmacDbl k1))
  (cbcMac ks (bs.dropLast ++ [last])).take tl

/-! ## Key wrap (RFC 3394) -/

abbrev wrapIV : List Nat := List.replicate 8 0xA6

/-- One unwrap step for block `t` (from n * 6 down to 1) over A and the blocks R. -/
def unwrapStep (ks : List (List Nat)) (n : Nat) (ar : List Nat × List (List Nat)) (t : Nat) :
    List Nat × List (List Nat) :=
  let i := (t - 1) % n
  let b := aesDec ks (xorN ar.1 (be 8 t) ++ ar.2.getD i [])
  (b.take 8, ar.2.set i (b.drop 8))

def wrapStep (ks : List (List Nat)) (n : Nat) (ar : List Nat × List (List Nat)) (t : Nat) :
    List Nat × List (List Nat) :=
  let i := (t - 1) % n
  let b := aesEnc ks (ar.1 ++ ar.2.getD i [])
  (xorN (b.take 8) (be 8 t), ar.2.set i (b.drop 8))

/-- The 8-byte pieces of a string. -/
def pieces8 (l : List Nat) : List (List Nat) := (List.range (l.length / 8)).map fun i => (l.drop (8 * i)).take 8

/-- Unwrap: the integrity value and the key. -/
def keyUnwrapRaw (kek w : List Nat) : List Nat × List Nat :=
  let ks := aesKeys kek
  let r := (pieces8 w).drop 1
  let n := r.length
  let out := ((List.range (6 * n)).map fun i => 6 * n - i).foldl (unwrapStep ks n) (w.take 8, r)
  (out.1, out.2.flatten)

/-- The key a wrapping holds; none where the integrity value differs. -/
def keyUnwrap (kek w : List Nat) : Option (List Nat) :=
  let (a, k) := keyUnwrapRaw kek w
  if a = wrapIV then some k else none

/-- The wrapping of a key. -/
def keyWrap (kek k : List Nat) : List Nat :=
  let ks := aesKeys kek
  let r := pieces8 k
  let n := r.length
  let out := ((List.range (6 * n)).map fun i => i + 1).foldl (wrapStep ks n) (wrapIV, r)
  out.1 ++ out.2.flatten

end Sys2Proof.Machine
end

