-- ==== Sys2Proof/Config.lean ====
section
/-! DEFINITION. What an implementation fixes and the values the spec leaves open. A free value is a constant
without a body: nothing can evaluate it, so a claim about it holds for every value it may have. -/
namespace Sys2Proof

/-- FREE VALUE. The n-th value that the spec leaves open while the machine goes on: a word nothing constrains.
`State.fresh` is the counter it is applied to. -/
opaque Config.freeWord : Nat → Word

/-- FREE VALUE. The load of the message engine over the last ms at a core tick (HL_ENGSTAT.BUSY_PCT, R321): typical figures
do not bind. -/
opaque Config.engineLoad : Nat → Nat

/-- FREE VALUE. A value of a channelised sample (R134): of the n-th mapping of a link, the sample of an input pair, on a channel, I or
Q. The spec gives the channeliser's rates and tags and no arithmetic. -/
opaque Config.channelValue : Nat → Nat → Nat → Bool → BitVec 20

/-- FREE VALUE. The taps of a filter lane at a delay of a number of 64ths of a modulator cycle (R116): the spec says that the FIR
applies FRAC by interpolation, and gives no interpolation. -/
opaque Config.fracTaps : Nat → List Int → List Int

/-- FREE VALUE. A pair of a transmit-link frame inside a transmission (R135, R217): of the n-th frame, the pair's place. The spec
gives the waveform and its magnitude, and no phase or rounding. -/
opaque Config.transmitPair : Nat → Nat → BitVec 40

/-- FREE VALUE. Output sample of a power-line frame at the preset rate (R153): of a frame with a level, a preset, carriers and phases
per symbol, the sample of an index. The spec gives the waveform and no rounding. -/
opaque Config.lineSample : Nat → Nat → List Nat → List (List Nat) → Nat → Int

/-- The 48-bit serial number of the UID, taken from fuses (R385): each device has its own. -/
opaque Config.uidSerial : Nat

/-- The 8-bit IC manufacturer code registered to Hormund under ISO/IEC 7816-6 (R385): the spec gives no number. -/
opaque Config.manufacturer : Nat

end Sys2Proof
end

