-- ==== Sys2Proof/Machine/RegMap.lean ====
section
/-! DEFINITION. The register tables of the structure map (R394, chapters 00 to 16): for every register group its name,
its address formula, and every field with its bits, access code (R7), reset value and permitted values (R11); then the
address of every register and the place of every field under the names the spec gives them. -/
namespace Sys2Proof.Machine

/-- The register groups of the structure map, under the spec's names (chapter 16). Words of one register that carry
different fields are separate groups (HL_SESS0 is word 0 of HL_SESSs). QMEM is the queue-memory window (R275). -/
inductive Reg where
  | MD_ID | MD_STATE | MD_RESETCAUSE | MD_MODECTL | MD_OPTAG | MD_OPSTALL
  | MD_DOMCTL | MD_DOMSTAT | MD_ABORTINFO | MD_BOOTCFG | MD_DOMCFG0 | MD_DOMCFG1
  | MD_ABORTLIST | CF_STATUS | CF_IMAGEID | CF_SEQ | CF_STREFUSED | CF_AMEND
  | CF_KEYSTAGE | CF_FUSEKEY | CF_FUSECTL | FT_MAP0 | FT_MAP1 | FT_MAP2
  | FT_MAP4 | FT_MAP5 | FT_MAP6 | FT_MAP6_LAST | FT_MAP3 | FT_AUDCFG
  | FT_CFG | FT_LOGSTAT | FT_LOGPOS | FT_AGGSTAT | FT_AUDSTAT | FT_AUDPASS
  | FT_LOG | TB_NOW_LO | TB_NOW_HI | TB_NOW_FRAC | TB_STATUS | TB_FREQOFS
  | TB_PHASEERR | TB_REFCFG | TB_PPSCOMP | TB_UTCOFS | TB_HOLDCFG | TB_SLEWCFG
  | TB_SETTIME_LO | TB_SETTIME_HI | TB_STEPCTL | TB_LATCHSTAT | TB_BENCHASYM | TB_BENCHDLY
  | TB_LQSTAT | TB_LQMISS | TB_MAINSCFG | TB_EVTCFG | TB_MANGLE | TB_MFREQ
  | TB_MZC_LO | TB_MZC_HI | SC_LPCFG | SC_LPDLY | SC_LPGAIN | SC_LPSTAT
  | SC_LPCAP | SC_RFCFG | SC_RFSTAT | SC_RFCNT_LO | SC_RFCNT_HI | SC_RFERR
  | SC_RFCSTAT | SC_LANECFG | SC_LANECTL | SC_LANESTAT | SC_LANECOEF | SC_STATUS
  | PL_FGCFG | PL_BLANK | PL_PORTLIVE | PL_PORTSTAT | PL_BANDCFG | PL_RXCNT
  | PL_RXERR | PL_RXQUAL | PL_RXLOSS | PL_TXCNT | PL_CORR | PL_ACCCFG
  | PL_ACCWIN | PL_BCNCFG | PL_BCTHR | PL_ACCSTAT | PL_ACCQ | PL_CSTHR
  | PL_ACCCNT | PL_ACCERR | PL_BSN | PL_ACKCNT | PL_GRADDR | PL_GRSLOT
  | PL_RPTCFG | PL_RPTSTAT0 | PL_RPTSTAT1 | PL_REGIONCFG | PL_FMASK | PL_FMASK6
  | CH_PORTCFG | CH_FREQ | CH_CHEN | CH_IMPL | CH_SCFG | CH_DETCFG
  | CH_RSSICAL | CH_SFMASK | CH_DETCNT | CH_RXCNT | CH_RXERR | CH_RXLOSS
  | CH_STACK | CH_TXCNT | CH_PAIRSTAT | CH_TUNED | CH_OFSNOW | CH_POOLMISS
  | CH_POOLSTAT | CH_POOLCFG | CH_RAMP | CH_RAMPDUR | MC_SCHEDCFG | MC_EPOCH_LO
  | MC_EPOCH_HI | MC_TIMING | MC_ASN_LO | MC_ASN_HI | MC_RESPCFG | MC_GUARDCFG
  | MC_SFRAME | MC_HOPLEN | MC_HOP | MC_LINK0 | MC_LINK1 | MC_LINK2
  | MC_LINK3 | MC_ADDRCFG | MC_JOINCFG | MC_PART0 | MC_PART1 | MC_PART2
  | MC_QMAP | MC_DLQ | MC_PFX | MC_EPSTAT | MC_HOPDROP | MC_MBXFULL
  | MC_RXSTAT | MC_RXSTAT2 | MC_ROUTESTAT | MC_SCHEDSTAT | MC_MBXSTAT | MC_SUPSTAT
  | MC_RELAYSTAT | MC_DCCFG | MC_SUBBAND_LO | MC_SUBBAND_HI | MC_DCUSED | MC_DCREF
  | QM_QPLACE | QM_QCFG | QM_QWP | QM_QRP | QM_QMP | QM_QREL
  | QM_QCTL | QM_QSTAT | QM_SHELF | QM_OPENLIM | QM_SCRUB | QM_BANKSTAT
  | CX_QSTAT | CX_DUALKEY | CX_AUTHFAIL | CX_FAULTSTAT | CX_SECCFG | CX_BCASTCNT
  | CX_ROLLCFG | CX_DPART0 | CX_DPART1 | CX_DRSTAT | CX_EKSTAT | CX_CARDCFG
  | CX_CARDSTAT | CX_CARDETU | CX_CARDERR | HL_SESS0 | HL_SESS1 | HL_SESS2
  | HL_SESS3 | HL_SESS4 | HL_SESS5 | HL_SESS6 | HL_NRING0 | HL_NRING1
  | HL_NRING2 | HL_NRING3 | HL_NRING4 | HL_NRING5 | HL_NRING6 | HL_NRING7
  | HL_NSTAT | HL_SESSERR | HL_DMACFG | HL_ENGSTAT | HL_LINKSTAT | HL_NRATE
  | HL_WIN0 | HL_WIN1 | HL_WIN2 | HL_WIN3 | HL_DRING0 | HL_DRING1
  | HL_DRING2 | HL_DRING3 | HL_DRING4 | HL_DRING5 | TN_CTL | TN_STAT
  | TN_CNT | TN_WOUND | TN_CUT | TN_BCFG | TN_SPLIT | TN_SLOT0
  | TN_SLOT1 | TN_SLOT2 | TN_SLOT3 | BN_CFG | BN_GRPCFG | BN_GRPSTAT
  | BN_GRPERR | BN_LANESTAT | BN_PERF | BN_UAS | BN_REACH | BN_REQSTAT
  | BN_LEASESTAT | BN_LEASE | BN_CREDIT | PF_CFG | PF_STAT | PF_PORTCFG
  | PF_PORTSTAT | PF_TIMEOFS | PF_RT | SV_CFG | SV_STAT | SV_CNT
  | SV_UID_LO | SV_UID_HI | SV_LDGSTAT | QMEM | EP0 | EP1
  | EP2 | EP3 | EP4 | EP5 | EP6 | EP7
  | EP8 | EP9 | EP10 | EP11 | EP12 | EP13
  | EP14 | EP15 | RT0 | RT1 | RT2 | RT3
  deriving DecidableEq, Repr

/-- The access codes of R7. -/
inductive Acc where
  | RO | RW | ST | W1C | WO | RS
  deriving DecidableEq, Repr

/-- One row of a field table: bits [hi:lo], access code, reset value, and the permitted values as inclusive ranges
(empty: every value). `image` and `fuse` say that the Reset column has that entry in place of a value; for an image
field `reset` is zero where permitted and otherwise the smallest permitted value (R50). `clear` marks a count that a
write of any value to the register clears. -/
structure FieldDef where
  hi : Nat
  lo : Nat
  acc : Acc
  reset : Nat
  image : Bool
  clear : Bool
  legal : List (Nat × Nat)
  deriving DecidableEq, Repr

/-- One register group: instance indices i, j, ... of counts n at byte strides s give the address
base + i s + j s' + ... -/
structure RegDef where
  reg : Reg
  base : Nat
  dims : List (Nat × Nat)
  fields : List FieldDef
  deriving DecidableEq, Repr

/-- The registers of block MD. -/
def regDefsMD : List RegDef := [
  -- R3: PART, STEPPING, AUTHBOOT, GRADE
  ⟨.MD_ID, 0x0, [], [⟨31, 16, .RO, 38976, false, false, []⟩, ⟨15, 11, .RO, 4, false, false, []⟩, ⟨7, 7, .RO, 0, false, false, []⟩, ⟨6, 4, .RO, 1, false, false, []⟩]⟩,
  -- R80: MODE, PREV_MODE, TWIN_ACTIVE, HOLD, WDOG_RUNNING, REFUSED, DEF_TX, WDOG_LEFT
  ⟨.MD_STATE, 0x4, [], [⟨3, 0, .RO, 1, false, false, []⟩, ⟨7, 4, .RO, 0, false, false, []⟩, ⟨8, 8, .RO, 0, false, false, []⟩, ⟨9, 9, .RO, 0, false, false, []⟩, ⟨10, 10, .RO, 0, false, false, []⟩, ⟨11, 11, .W1C, 0, false, false, []⟩, ⟨12, 12, .RO, 0, false, false, []⟩, ⟨31, 16, .RO, 0, false, false, []⟩]⟩,
  -- R80: CAUSE, GRACEFUL, HOST_LOAD, SEEN
  ⟨.MD_RESETCAUSE, 0x8, [], [⟨2, 0, .RO, 0, false, false, []⟩, ⟨3, 3, .RO, 0, false, false, []⟩, ⟨4, 4, .RO, 0, false, false, []⟩, ⟨11, 8, .RO, 0, false, false, []⟩]⟩,
  -- R80: REQ
  ⟨.MD_MODECTL, 0xc, [], [⟨3, 0, .WO, 0, false, false, []⟩]⟩,
  -- R25: IN_FLIGHT, HIGH_WATER, HW_CLEAR
  ⟨.MD_OPTAG, 0x40, [], [⟨13, 0, .RO, 0, false, false, []⟩, ⟨29, 16, .RO, 0, false, false, []⟩, ⟨31, 31, .WO, 0, false, false, []⟩]⟩,
  -- R26: DMA, BENCH
  ⟨.MD_OPSTALL, 0x44, [], [⟨15, 0, .RO, 0, false, true, []⟩, ⟨31, 16, .RO, 0, false, true, []⟩]⟩,
  -- R80: DRAIN_LIMIT
  ⟨.MD_DOMCTL, 0x50, [], [⟨15, 0, .RW, 500, false, false, [(1, 65535)]⟩]⟩,
  -- R80: STATE0, STATE1, STATE2, STATE3, STATE4, STATE5, STATE6, STATE7
  ⟨.MD_DOMSTAT, 0x60, [(6, 4)], [⟨3, 0, .RO, 2, false, false, []⟩, ⟨7, 4, .RO, 2, false, false, []⟩, ⟨11, 8, .RO, 2, false, false, []⟩, ⟨15, 12, .RO, 2, false, false, []⟩, ⟨19, 16, .RO, 2, false, false, []⟩, ⟨23, 20, .RO, 2, false, false, []⟩, ⟨27, 24, .RO, 2, false, false, []⟩, ⟨31, 28, .RO, 2, false, false, []⟩]⟩,
  -- R80: LENGTH, OVERFLOW, EPOCH
  ⟨.MD_ABORTINFO, 0x78, [], [⟨13, 0, .RO, 0, false, true, []⟩, ⟨15, 15, .RO, 0, false, true, []⟩, ⟨31, 16, .RO, 0, false, false, []⟩]⟩,
  -- R80: HOLD_STANDBY, START_QUIET, TWIN_ROLE, TWIN_MISS, WDOG
  ⟨.MD_BOOTCFG, 0x100, [], [⟨0, 0, .ST, 0, true, false, []⟩, ⟨1, 1, .ST, 0, true, false, []⟩, ⟨3, 2, .ST, 0, true, false, [(0, 2)]⟩, ⟨7, 4, .ST, 0, true, false, []⟩, ⟨15, 8, .ST, 0, true, false, []⟩]⟩,
  -- R80: FG
  ⟨.MD_DOMCFG0, 0x104, [], [⟨31, 0, .ST, 0, true, false, []⟩]⟩,
  -- R80: RFD, CHC, CPH, BPL
  ⟨.MD_DOMCFG1, 0x108, [], [⟨7, 0, .ST, 0, true, false, []⟩, ⟨8, 8, .ST, 0, true, false, []⟩, ⟨9, 9, .ST, 0, true, false, []⟩, ⟨10, 10, .ST, 0, true, false, []⟩]⟩,
  -- R80: TAG0, TAG1
  ⟨.MD_ABORTLIST, 0x4000, [(4096, 4)], [⟨12, 0, .RO, 0, false, false, []⟩, ⟨28, 16, .RO, 0, false, false, []⟩]⟩]

/-- The registers of block CF. -/
def regDefsCF : List RegDef := [
  -- R51: DEFAULTED, SIGNED, KEYMATCH, SOURCE, CAUSE, FAILTYPE
  ⟨.CF_STATUS, 0x1000, [], [⟨0, 0, .RO, 0, false, false, []⟩, ⟨1, 1, .RO, 0, false, false, []⟩, ⟨2, 2, .RO, 0, false, false, []⟩, ⟨3, 3, .RO, 0, false, false, []⟩, ⟨7, 4, .RO, 0, false, false, []⟩, ⟨15, 8, .RO, 0, false, false, []⟩]⟩,
  -- R52: ID
  ⟨.CF_IMAGEID, 0x1004, [], [⟨31, 0, .RO, 0, false, false, []⟩]⟩,
  -- R52: SEQ
  ⟨.CF_SEQ, 0x1008, [], [⟨31, 0, .RO, 0, false, false, []⟩]⟩,
  -- R52: COUNT
  ⟨.CF_STREFUSED, 0x100c, [], [⟨15, 0, .RO, 0, false, true, []⟩]⟩,
  -- R52: APPLIED, REFUSED
  ⟨.CF_AMEND, 0x1010, [], [⟨15, 0, .RO, 0, false, true, []⟩, ⟨31, 16, .RO, 0, false, true, []⟩]⟩,
  -- R52: DIGEST
  ⟨.CF_KEYSTAGE, 0x1040, [(12, 4)], [⟨31, 0, .WO, 0, false, false, []⟩]⟩,
  -- R52: DIGEST
  ⟨.CF_FUSEKEY, 0x1080, [(12, 4)], [⟨31, 0, .RO, 0, false, false, []⟩]⟩,
  -- R52: CODE, ARMED, BUSY, DONE, REFUSED
  ⟨.CF_FUSECTL, 0x10c0, [], [⟨15, 0, .WO, 0, false, false, []⟩, ⟨16, 16, .RO, 0, false, false, []⟩, ⟨17, 17, .RO, 0, false, false, []⟩, ⟨18, 18, .RO, 0, false, false, []⟩, ⟨19, 19, .W1C, 0, false, false, []⟩]⟩]

/-- The registers of block FT. -/
def regDefsFT : List RegDef := [
  -- R393: LOGICAL0, ROLE0, LOGICAL1, ROLE1
  ⟨.FT_MAP0, 0x2000, [(52, 4)], [⟨11, 0, .ST, 0, true, false, []⟩, ⟨13, 12, .ST, 0, true, false, [(0, 2)]⟩, ⟨27, 16, .ST, 0, true, false, []⟩, ⟨29, 28, .ST, 0, true, false, [(0, 2)]⟩]⟩,
  -- R393: LOGICAL0, ROLE0, LOGICAL1, ROLE1
  ⟨.FT_MAP1, 0x2100, [(52, 4)], [⟨11, 0, .ST, 0, true, false, []⟩, ⟨13, 12, .ST, 0, true, false, [(0, 2)]⟩, ⟨27, 16, .ST, 0, true, false, []⟩, ⟨29, 28, .ST, 0, true, false, [(0, 2)]⟩]⟩,
  -- R393: LOGICAL0, ROLE0, LOGICAL1, ROLE1
  ⟨.FT_MAP2, 0x2200, [(18, 4)], [⟨11, 0, .ST, 0, true, false, []⟩, ⟨13, 12, .ST, 0, true, false, [(0, 2)]⟩, ⟨27, 16, .ST, 0, true, false, []⟩, ⟨29, 28, .ST, 0, true, false, [(0, 2)]⟩]⟩,
  -- R393: LOGICAL0, ROLE0, LOGICAL1, ROLE1
  ⟨.FT_MAP4, 0x2280, [(34, 4)], [⟨11, 0, .ST, 0, true, false, []⟩, ⟨13, 12, .ST, 0, true, false, [(0, 2)]⟩, ⟨27, 16, .ST, 0, true, false, []⟩, ⟨29, 28, .ST, 0, true, false, [(0, 2)]⟩]⟩,
  -- R393: LOGICAL0, ROLE0, LOGICAL1, ROLE1
  ⟨.FT_MAP5, 0x2310, [(17, 4)], [⟨11, 0, .ST, 0, true, false, []⟩, ⟨13, 12, .ST, 0, true, false, [(0, 2)]⟩, ⟨27, 16, .ST, 0, true, false, []⟩, ⟨29, 28, .ST, 0, true, false, [(0, 2)]⟩]⟩,
  -- R393: LOGICAL0, ROLE0, LOGICAL1, ROLE1
  ⟨.FT_MAP6, 0x2380, [(2, 4)], [⟨11, 0, .ST, 0, true, false, []⟩, ⟨13, 12, .ST, 0, true, false, [(0, 2)]⟩, ⟨27, 16, .ST, 0, true, false, []⟩, ⟨29, 28, .ST, 0, true, false, [(0, 2)]⟩]⟩,
  -- R393: LOGICAL0, ROLE0
  ⟨.FT_MAP6_LAST, 0x2388, [], [⟨11, 0, .ST, 0, true, false, []⟩, ⟨13, 12, .ST, 0, true, false, [(0, 2)]⟩]⟩,
  -- R393: LOGICAL0, ROLE0, LOGICAL1, ROLE1
  ⟨.FT_MAP3, 0x2400, [(1088, 4)], [⟨11, 0, .ST, 0, true, false, []⟩, ⟨13, 12, .ST, 0, true, false, [(0, 2)]⟩, ⟨27, 16, .ST, 0, true, false, []⟩, ⟨29, 28, .ST, 0, true, false, [(0, 2)]⟩]⟩,
  -- R393: EN, DWELL
  ⟨.FT_AUDCFG, 0x3f00, [(7, 4)], [⟨0, 0, .ST, 0, true, false, []⟩, ⟨16, 1, .ST, 1, true, false, [(1, 65535)]⟩]⟩,
  -- R393: AUTOCLOSE, AUTOSPARE
  ⟨.FT_CFG, 0x8000, [], [⟨15, 0, .RW, 60, false, false, []⟩, ⟨16, 16, .RW, 1, false, false, []⟩]⟩,
  -- R393: OPEN, REPLACED
  ⟨.FT_LOGSTAT, 0x8004, [], [⟨8, 0, .RO, 0, false, false, []⟩, ⟨31, 16, .RO, 0, false, true, []⟩]⟩,
  -- R393: NEWEST, SEQ
  ⟨.FT_LOGPOS, 0x8008, [], [⟨7, 0, .RO, 0, false, false, []⟩, ⟨31, 16, .RO, 0, false, false, []⟩]⟩,
  -- R393: SPANS, NOSPAN
  ⟨.FT_AGGSTAT, 0x800c, [], [⟨6, 0, .RO, 0, false, false, []⟩, ⟨31, 16, .RO, 0, false, true, []⟩]⟩,
  -- R393: LIVE, SPARE, ACTIVE, MISMATCH
  ⟨.FT_AUDSTAT, 0x8020, [(7, 4)], [⟨11, 0, .RO, 0, false, false, []⟩, ⟨23, 12, .RO, 0, false, false, []⟩, ⟨24, 24, .RO, 0, false, false, []⟩, ⟨31, 25, .RO, 0, false, false, []⟩]⟩,
  -- R393: PASSES
  ⟨.FT_AUDPASS, 0x8040, [(7, 4)], [⟨15, 0, .RO, 0, false, false, []⟩]⟩,
  -- R374: WORD
  ⟨.FT_LOG, 0xa000, [(256, 32), (8, 4)], [⟨31, 0, .RO, 0, false, false, []⟩]⟩]

/-- The registers of block TB. -/
def regDefsTB : List RegDef := [
  -- R111: NOW
  ⟨.TB_NOW_LO, 0x100000, [], [⟨31, 0, .RS, 0, false, false, []⟩]⟩,
  -- R111: NOW
  ⟨.TB_NOW_HI, 0x100004, [], [⟨31, 0, .RS, 0, false, false, []⟩]⟩,
  -- R111: FRAC
  ⟨.TB_NOW_FRAC, 0x100008, [], [⟨15, 0, .RS, 0, false, false, []⟩]⟩,
  -- R111: REFSTATE, TIME_VALID, EXPIRED, ACTIVE_PPS, REJECTED, SLEWING, MAINS_OK
  ⟨.TB_STATUS, 0x10000c, [], [⟨2, 0, .RO, 0, false, false, []⟩, ⟨3, 3, .RO, 0, false, false, []⟩, ⟨4, 4, .RO, 0, false, false, []⟩, ⟨5, 5, .RO, 0, false, false, []⟩, ⟨6, 6, .RO, 0, false, false, []⟩, ⟨7, 7, .RO, 0, false, false, []⟩, ⟨8, 8, .RO, 0, false, false, []⟩]⟩,
  -- R111: OFS
  ⟨.TB_FREQOFS, 0x100010, [], [⟨31, 0, .RO, 0, false, false, []⟩]⟩,
  -- R111: ERR
  ⟨.TB_PHASEERR, 0x100014, [], [⟨31, 0, .RO, 0, false, false, []⟩]⟩,
  -- R111: SEL, PPS_EDGE, TOD_LABEL, TOD_BAUD, LOOP_BW, ACQ_WAIT
  ⟨.TB_REFCFG, 0x100020, [], [⟨2, 0, .ST, 0, true, false, [(0, 4)]⟩, ⟨3, 3, .ST, 0, true, false, []⟩, ⟨4, 4, .ST, 0, true, false, []⟩, ⟨7, 5, .ST, 0, true, false, [(0, 5)]⟩, ⟨9, 8, .ST, 0, true, false, [(0, 2)]⟩, ⟨15, 12, .ST, 0, true, false, []⟩]⟩,
  -- R111: DELAY0, DELAY1
  ⟨.TB_PPSCOMP, 0x100028, [], [⟨15, 0, .RW, 0, true, false, []⟩, ⟨31, 16, .RW, 0, true, false, []⟩]⟩,
  -- R111: OFS
  ⟨.TB_UTCOFS, 0x100030, [], [⟨7, 0, .RW, 0, true, false, []⟩]⟩,
  -- R111: LIMIT, STEP_LIMIT
  ⟨.TB_HOLDCFG, 0x100034, [], [⟨15, 0, .ST, 1, true, false, [(1, 65535)]⟩, ⟨31, 16, .ST, 1, true, false, [(1, 65535)]⟩]⟩,
  -- R111: MAXRATE
  ⟨.TB_SLEWCFG, 0x100038, [], [⟨7, 0, .ST, 1, true, false, [(1, 255)]⟩]⟩,
  -- R111: TIME
  ⟨.TB_SETTIME_LO, 0x10003c, [], [⟨31, 0, .RW, 0, false, false, []⟩]⟩,
  -- R111: TIME
  ⟨.TB_SETTIME_HI, 0x100040, [], [⟨31, 0, .RW, 0, false, false, []⟩]⟩,
  -- R111: SET, ACCEPT
  ⟨.TB_STEPCTL, 0x100044, [], [⟨0, 0, .WO, 0, false, false, []⟩, ⟨1, 1, .WO, 0, false, false, []⟩]⟩,
  -- R111: EVICTIONS
  ⟨.TB_LATCHSTAT, 0x100048, [], [⟨15, 0, .RO, 0, false, true, []⟩]⟩,
  -- R111: EAST, WEST
  ⟨.TB_BENCHASYM, 0x100050, [], [⟨15, 0, .RW, 0, true, false, []⟩, ⟨31, 16, .RW, 0, true, false, []⟩]⟩,
  -- R111: DELAY
  ⟨.TB_BENCHDLY, 0x100054, [], [⟨23, 0, .RO, 0, false, false, []⟩]⟩,
  -- R111: PENDING, REFUSED
  ⟨.TB_LQSTAT, 0x100060, [], [⟨11, 0, .RO, 0, false, false, []⟩, ⟨31, 16, .RO, 0, false, true, []⟩]⟩,
  -- R111: LATE, MISSED
  ⟨.TB_LQMISS, 0x100064, [], [⟨15, 0, .RO, 0, false, true, []⟩, ⟨31, 16, .RO, 0, false, true, []⟩]⟩,
  -- R111: NOMINAL, COAST
  ⟨.TB_MAINSCFG, 0x100080, [], [⟨0, 0, .ST, 0, true, false, []⟩, ⟨15, 8, .ST, 0, true, false, []⟩]⟩,
  -- R111: DIR, CAPTURE
  ⟨.TB_EVTCFG, 0x100100, [(16, 4)], [⟨0, 0, .ST, 0, true, false, []⟩, ⟨2, 1, .ST, 0, true, false, []⟩]⟩,
  -- R111: ANGLE, STATE
  ⟨.TB_MANGLE, 0x101000, [(96, 16)], [⟨15, 0, .RS, 0, false, false, []⟩, ⟨17, 16, .RS, 0, false, false, []⟩]⟩,
  -- R111: FREQ
  ⟨.TB_MFREQ, 0x101004, [(96, 16)], [⟨16, 0, .RS, 0, false, false, []⟩]⟩,
  -- R111: ZC
  ⟨.TB_MZC_LO, 0x101008, [(96, 16)], [⟨31, 0, .RS, 0, false, false, []⟩]⟩,
  -- R111: ZC
  ⟨.TB_MZC_HI, 0x10100c, [(96, 16)], [⟨31, 0, .RS, 0, false, false, []⟩]⟩]

/-- The registers of block SC. -/
def regDefsSC : List RegDef := [
  -- R139: ACTIVE, PRESET, BANDS, LANE, RXGAIN_DEF, TXATT_DEF
  ⟨.SC_LPCFG, 0x200000, [(96, 1024)], [⟨0, 0, .ST, 0, true, false, []⟩, ⟨2, 1, .ST, 0, true, false, []⟩, ⟨7, 4, .ST, 0, true, false, []⟩, ⟨14, 8, .ST, 0, true, false, []⟩, ⟨19, 16, .ST, 0, true, false, []⟩, ⟨28, 24, .ST, 0, true, false, []⟩]⟩,
  -- R139: DELAY, FRAC
  ⟨.SC_LPDLY, 0x200004, [(96, 1024)], [⟨11, 0, .ST, 0, true, false, []⟩, ⟨17, 12, .ST, 0, true, false, []⟩]⟩,
  -- R139: RXGAIN, TXATT
  ⟨.SC_LPGAIN, 0x200008, [(96, 1024)], [⟨3, 0, .RW, 0, true, false, []⟩, ⟨12, 8, .RW, 0, true, false, []⟩]⟩,
  -- R139: OVL, CAPDROP
  ⟨.SC_LPSTAT, 0x20000c, [(96, 1024)], [⟨15, 0, .RO, 0, false, true, []⟩, ⟨31, 16, .RO, 0, false, true, []⟩]⟩,
  -- R139: QUEUE, EN
  ⟨.SC_LPCAP, 0x200010, [(96, 1024)], [⟨13, 0, .RW, 0, false, false, []⟩, ⟨31, 31, .RW, 0, false, false, []⟩]⟩,
  -- R139: ACTIVE, CHMODE, FELAT
  ⟨.SC_RFCFG, 0x220000, [(32, 2048)], [⟨0, 0, .ST, 0, true, false, []⟩, ⟨2, 1, .ST, 0, true, false, [(0, 2)]⟩, ⟨31, 16, .ST, 0, true, false, []⟩]⟩,
  -- R139: STATE, CRCERR
  ⟨.SC_RFSTAT, 0x220004, [(32, 2048)], [⟨1, 0, .RO, 0, false, false, []⟩, ⟨31, 16, .RO, 0, false, false, []⟩]⟩,
  -- R139: CNT
  ⟨.SC_RFCNT_LO, 0x220008, [(32, 2048)], [⟨31, 0, .RS, 0, false, false, []⟩]⟩,
  -- R139: CNT
  ⟨.SC_RFCNT_HI, 0x22000c, [(32, 2048)], [⟨31, 0, .RS, 0, false, false, []⟩]⟩,
  -- R139: GAPS, LATE
  ⟨.SC_RFERR, 0x220010, [(32, 2048)], [⟨15, 0, .RO, 0, false, true, []⟩, ⟨31, 16, .RO, 0, false, true, []⟩]⟩,
  -- R139: MISSED, NAK, TIMEOUT, RETRY
  ⟨.SC_RFCSTAT, 0x220020, [(16, 4096)], [⟨7, 0, .RO, 0, false, true, []⟩, ⟨15, 8, .RO, 0, false, true, []⟩, ⟨23, 16, .RO, 0, false, true, []⟩, ⟨31, 24, .RO, 0, false, true, []⟩]⟩,
  -- R139: ORDER, TAPS, SHIFT, PORT
  ⟨.SC_LANECFG, 0x230000, [(104, 512)], [⟨2, 0, .ST, 3, true, false, [(3, 5)]⟩, ⟨16, 8, .ST, 1, true, false, []⟩, ⟨23, 18, .ST, 0, true, false, []⟩, ⟨30, 24, .ST, 0, true, false, [(0, 95), (127, 127)]⟩]⟩,
  -- R139: RUN
  ⟨.SC_LANECTL, 0x230004, [(104, 512)], [⟨0, 0, .RW, 0, false, false, []⟩]⟩,
  -- R139: PARERR, SAT
  ⟨.SC_LANESTAT, 0x230008, [(104, 512)], [⟨0, 0, .W1C, 0, false, false, []⟩, ⟨31, 16, .RO, 0, false, false, []⟩]⟩,
  -- R139: COEF
  ⟨.SC_LANECOEF, 0x230080, [(104, 512), (96, 4)], [⟨19, 0, .ST, 0, true, false, []⟩]⟩,
  -- R139: CLASS, ACTIVE_LINE, ACTIVE_RF
  ⟨.SC_STATUS, 0x23f000, [], [⟨0, 0, .RO, 0, false, false, []⟩, ⟨14, 8, .RO, 0, false, false, []⟩, ⟨21, 16, .RO, 0, false, false, []⟩]⟩]

/-- The registers of block PL. -/
def regDefsPL : List RegDef := [
  -- R166: COUPLING, TXPHASE, COMB, PHOFS1, PHOFS2, PHOFS3
  ⟨.PL_FGCFG, 0x400000, [(32, 16)], [⟨0, 0, .ST, 0, true, false, []⟩, ⟨2, 1, .ST, 0, true, false, [(0, 2)]⟩, ⟨4, 3, .ST, 0, true, false, [(0, 2)]⟩, ⟨13, 8, .ST, 0, true, false, []⟩, ⟨21, 16, .ST, 0, true, false, []⟩, ⟨29, 24, .ST, 0, true, false, []⟩]⟩,
  -- R166: START, LEN, EN
  ⟨.PL_BLANK, 0x401000, [(96, 16), (2, 4)], [⟨15, 0, .RW, 0, true, false, []⟩, ⟨27, 16, .RW, 0, true, false, []⟩, ⟨31, 31, .RW, 0, true, false, []⟩]⟩,
  -- R166: LIVE
  ⟨.PL_PORTLIVE, 0x401008, [(96, 16)], [⟨3, 0, .RO, 0, false, false, []⟩]⟩,
  -- R166: CLIP
  ⟨.PL_PORTSTAT, 0x40100c, [(96, 16)], [⟨15, 0, .RO, 0, false, true, []⟩]⟩,
  -- R166: ANGLE, ANGLE_EN, SNRMAP, DEFMODE, TXLVL, DETTHR
  ⟨.PL_BANDCFG, 0x410000, [(96, 256), (4, 64)], [⟨15, 0, .ST, 0, true, false, []⟩, ⟨16, 16, .ST, 0, true, false, []⟩, ⟨17, 17, .ST, 0, true, false, []⟩, ⟨20, 18, .ST, 0, true, false, [(0, 4)]⟩, ⟨26, 22, .ST, 0, true, false, []⟩, ⟨31, 28, .RW, 1, true, false, [(1, 15)]⟩]⟩,
  -- R166: DETECT, OK
  ⟨.PL_RXCNT, 0x410004, [(96, 256), (4, 64)], [⟨15, 0, .RO, 0, false, true, []⟩, ⟨31, 16, .RO, 0, false, true, []⟩]⟩,
  -- R166: HDRFAIL, RSFAIL
  ⟨.PL_RXERR, 0x410008, [(96, 256), (4, 64)], [⟨15, 0, .RO, 0, false, true, []⟩, ⟨31, 16, .RO, 0, false, true, []⟩]⟩,
  -- R166: LQI, MEAN_SNR, STATE
  ⟨.PL_RXQUAL, 0x41000c, [(96, 256), (4, 64)], [⟨7, 0, .RO, 0, false, false, []⟩, ⟨15, 8, .RO, 0, false, false, []⟩, ⟨18, 16, .RO, 0, false, false, []⟩]⟩,
  -- R166: PREEMPT, FALSEDET
  ⟨.PL_RXLOSS, 0x410010, [(96, 256), (4, 64)], [⟨15, 0, .RO, 0, false, true, []⟩, ⟨31, 16, .RO, 0, false, true, []⟩]⟩,
  -- R166: SENT, REFUSED
  ⟨.PL_TXCNT, 0x410014, [(96, 256), (4, 64)], [⟨15, 0, .RO, 0, false, true, []⟩, ⟨31, 16, .RO, 0, false, true, []⟩]⟩,
  -- R166: RSCORR, ERASED
  ⟨.PL_CORR, 0x410018, [(96, 256), (4, 64)], [⟨15, 0, .RO, 0, false, true, []⟩, ⟨31, 16, .RO, 0, false, true, []⟩]⟩,
  -- R166: BANDB_EN, BANDC_EN, BANDF_EN
  ⟨.PL_REGIONCFG, 0x7f0000, [], [⟨0, 0, .ST, 0, true, false, []⟩, ⟨1, 1, .ST, 0, true, false, []⟩, ⟨2, 2, .ST, 0, true, false, []⟩]⟩,
  -- R166: MASK
  ⟨.PL_FMASK, 0x7f0010, [(6, 4)], [⟨31, 0, .ST, 0, true, false, []⟩]⟩,
  -- R166: MASK
  ⟨.PL_FMASK6, 0x7f0028, [], [⟨21, 0, .ST, 0, true, false, []⟩]⟩]

/-- The registers of block PM. -/
def regDefsPM : List RegDef := [
  -- R193: DISC, MSYNC, ACK_EN, RETRIES, RPT_CLASS
  ⟨.PL_ACCCFG, 0x600000, [(96, 32)], [⟨1, 0, .ST, 0, true, false, [(0, 1)]⟩, ⟨2, 2, .ST, 0, true, false, []⟩, ⟨3, 3, .ST, 0, true, false, []⟩, ⟨7, 4, .ST, 0, true, false, []⟩, ⟨9, 8, .ST, 0, true, false, []⟩]⟩,
  -- R193: S0, S1, S2, S3
  ⟨.PL_ACCWIN, 0x600004, [(96, 32)], [⟨3, 0, .ST, 0, true, false, []⟩, ⟨7, 4, .ST, 0, true, false, []⟩, ⟨11, 8, .ST, 0, true, false, []⟩, ⟨15, 12, .ST, 0, true, false, []⟩]⟩,
  -- R193: PERIOD, CFP_START
  ⟨.PL_BCNCFG, 0x600008, [(96, 32)], [⟨11, 0, .ST, 0, true, false, []⟩, ⟨29, 12, .ST, 0, true, false, []⟩]⟩,
  -- R193: BUSYTHR
  ⟨.PL_BCTHR, 0x60000c, [(96, 32)], [⟨7, 0, .RW, 0, true, false, []⟩]⟩,
  -- R193: FALLBACK
  ⟨.PL_ACCSTAT, 0x600010, [(96, 32)], [⟨0, 0, .RO, 0, false, false, []⟩]⟩,
  -- R193: Q0, EN0, Q1, EN1
  ⟨.PL_ACCQ, 0x610000, [(96, 256), (4, 64), (2, 4)], [⟨13, 0, .ST, 0, true, false, []⟩, ⟨14, 14, .ST, 0, true, false, []⟩, ⟨29, 16, .ST, 0, true, false, []⟩, ⟨30, 30, .ST, 0, true, false, []⟩]⟩,
  -- R193: CSTHR
  ⟨.PL_CSTHR, 0x610008, [(96, 256), (4, 64)], [⟨7, 0, .RW, 0, true, false, []⟩]⟩,
  -- R193: WON, DEFER
  ⟨.PL_ACCCNT, 0x61000c, [(96, 256), (4, 64)], [⟨15, 0, .RO, 0, false, true, []⟩, ⟨31, 16, .RO, 0, false, true, []⟩]⟩,
  -- R193: RETRY, NOACK
  ⟨.PL_ACCERR, 0x610010, [(96, 256), (4, 64)], [⟨15, 0, .RO, 0, false, true, []⟩, ⟨31, 16, .RO, 0, false, true, []⟩]⟩,
  -- R193: BSN
  ⟨.PL_BSN, 0x610014, [(96, 256), (4, 64)], [⟨31, 0, .RO, 0, false, false, []⟩]⟩,
  -- R193: ACKSENT, BUSYSENT
  ⟨.PL_ACKCNT, 0x610018, [(96, 256), (4, 64)], [⟨15, 0, .RO, 0, false, true, []⟩, ⟨31, 16, .RO, 0, false, true, []⟩]⟩,
  -- R193: ADDR
  ⟨.PL_GRADDR, 0x680000, [(96, 2048), (4, 512), (32, 8)], [⟨31, 0, .ST, 0, true, false, []⟩]⟩,
  -- R193: START, LEN
  ⟨.PL_GRSLOT, 0x680004, [(96, 2048), (4, 512), (32, 8)], [⟨17, 0, .ST, 0, true, false, []⟩, ⟨27, 18, .ST, 0, true, false, []⟩]⟩,
  -- R193: DUPWIN
  ⟨.PL_RPTCFG, 0x7e0000, [], [⟨7, 0, .RW, 0, true, false, []⟩]⟩,
  -- R193: RELAYED, DUP
  ⟨.PL_RPTSTAT0, 0x7e0004, [], [⟨15, 0, .RO, 0, false, true, []⟩, ⟨31, 16, .RO, 0, false, true, []⟩]⟩,
  -- R193: OVERHEARD, SAMEGROUP
  ⟨.PL_RPTSTAT1, 0x7e0008, [], [⟨15, 0, .RO, 0, false, true, []⟩, ⟨31, 16, .RO, 0, false, true, []⟩]⟩]

/-- The registers of block CH. -/
def regDefsCH : List RegDef := [
  -- R219: SYNC, GCLASS, RXGAIN_U, TXGAIN_DEF, PROFILE_DEF
  ⟨.CH_PORTCFG, 0x800000, [(32, 256)], [⟨7, 0, .ST, 0, true, false, []⟩, ⟨8, 8, .ST, 0, true, false, []⟩, ⟨15, 10, .ST, 0, true, false, []⟩, ⟨21, 16, .ST, 0, true, false, []⟩, ⟨25, 22, .ST, 0, true, false, []⟩]⟩,
  -- R219: FREQ
  ⟨.CH_FREQ, 0x800004, [(32, 256)], [⟨31, 0, .ST, 0, true, false, []⟩]⟩,
  -- R219: EN
  ⟨.CH_CHEN, 0x800008, [(32, 256)], [⟨31, 0, .ST, 0, true, false, []⟩]⟩,
  -- R219: LEN, CR, CRC_ON, SFMASK
  ⟨.CH_IMPL, 0x80000c, [(32, 256)], [⟨7, 0, .ST, 1, true, false, [(1, 255)]⟩, ⟨10, 8, .ST, 1, true, false, [(1, 4)]⟩, ⟨11, 11, .ST, 0, true, false, []⟩, ⟨23, 16, .ST, 0, true, false, []⟩]⟩,
  -- R219: HYS, TARGET, MAXOFS
  ⟨.CH_SCFG, 0x800010, [(32, 256)], [⟨3, 0, .ST, 0, true, false, []⟩, ⟨15, 8, .ST, 0, true, false, []⟩, ⟨31, 16, .ST, 0, true, false, []⟩]⟩,
  -- R219: DETTHR
  ⟨.CH_DETCFG, 0x800014, [(32, 256)], [⟨3, 0, .RW, 0, true, false, []⟩]⟩,
  -- R219: CAL
  ⟨.CH_RSSICAL, 0x800018, [(32, 256)], [⟨15, 0, .RW, 0, true, false, []⟩]⟩,
  -- R219: SF0, SF1, SF2, SF3
  ⟨.CH_SFMASK, 0x800020, [(32, 256), (8, 4)], [⟨7, 0, .ST, 0, true, false, []⟩, ⟨15, 8, .ST, 0, true, false, []⟩, ⟨23, 16, .ST, 0, true, false, []⟩, ⟨31, 24, .ST, 0, true, false, []⟩]⟩,
  -- R219: DETECT, FALSEDET
  ⟨.CH_DETCNT, 0x800040, [(32, 256)], [⟨15, 0, .RO, 0, false, true, []⟩, ⟨31, 16, .RO, 0, false, true, []⟩]⟩,
  -- R219: OK, CRCFAIL
  ⟨.CH_RXCNT, 0x800044, [(32, 256)], [⟨15, 0, .RO, 0, false, true, []⟩, ⟨31, 16, .RO, 0, false, true, []⟩]⟩,
  -- R219: SYNCMISS, HDRFAIL
  ⟨.CH_RXERR, 0x800048, [(32, 256)], [⟨15, 0, .RO, 0, false, true, []⟩, ⟨31, 16, .RO, 0, false, true, []⟩]⟩,
  -- R219: PREEMPT, INPUT
  ⟨.CH_RXLOSS, 0x80004c, [(32, 256)], [⟨15, 0, .RO, 0, false, true, []⟩, ⟨31, 16, .RO, 0, false, true, []⟩]⟩,
  -- R219: STACKED, STACKMISS
  ⟨.CH_STACK, 0x800050, [(32, 256)], [⟨15, 0, .RO, 0, false, true, []⟩, ⟨31, 16, .RO, 0, false, true, []⟩]⟩,
  -- R219: SENT, REFUSED
  ⟨.CH_TXCNT, 0x800054, [(32, 256)], [⟨15, 0, .RO, 0, false, true, []⟩, ⟨31, 16, .RO, 0, false, true, []⟩]⟩,
  -- R219: TXBUSY, SUSPENDED, PROFILE, RXSTEP
  ⟨.CH_PAIRSTAT, 0x800058, [(32, 256)], [⟨0, 0, .RO, 0, false, false, []⟩, ⟨1, 1, .RO, 0, false, false, []⟩, ⟨5, 2, .RO, 0, false, false, []⟩, ⟨13, 8, .RO, 0, false, false, []⟩]⟩,
  -- R219: FREQ
  ⟨.CH_TUNED, 0x80005c, [(32, 256)], [⟨31, 0, .RO, 0, false, false, []⟩]⟩,
  -- R219: OFS
  ⟨.CH_OFSNOW, 0x800060, [(32, 256)], [⟨23, 0, .RO, 0, false, false, []⟩]⟩,
  -- R219: EMPTY, RESERVED
  ⟨.CH_POOLMISS, 0x830000, [], [⟨15, 0, .RO, 0, false, true, []⟩, ⟨31, 16, .RO, 0, false, true, []⟩]⟩,
  -- R219: BUSY, HIGH_WATER, HW_CLEAR
  ⟨.CH_POOLSTAT, 0x830004, [], [⟨11, 0, .RO, 0, false, false, []⟩, ⟨27, 16, .RO, 0, false, false, []⟩, ⟨31, 31, .WO, 0, false, false, []⟩]⟩,
  -- R219: RESERVE
  ⟨.CH_POOLCFG, 0x830008, [], [⟨9, 0, .ST, 0, true, false, [(0, 512)]⟩]⟩,
  -- R219: LEVEL0, LEVEL1, LEVEL2, LEVEL3
  ⟨.CH_RAMP, 0x830100, [(16, 16), (4, 4)], [⟨7, 0, .ST, 0, true, false, []⟩, ⟨15, 8, .ST, 0, true, false, []⟩, ⟨23, 16, .ST, 0, true, false, []⟩, ⟨31, 24, .ST, 0, true, false, []⟩]⟩,
  -- R219: DUR
  ⟨.CH_RAMPDUR, 0x830200, [(16, 4)], [⟨5, 0, .ST, 1, true, false, [(1, 63)]⟩]⟩]

/-- The registers of block MC. -/
def regDefsMC : List RegDef := [
  -- R246: SLOT_LEN, ENABLE, RETRIES
  ⟨.MC_SCHEDCFG, 0xc00000, [], [⟨8, 0, .ST, 10, true, false, [(10, 500)]⟩, ⟨9, 9, .ST, 0, true, false, []⟩, ⟨13, 10, .ST, 0, true, false, []⟩]⟩,
  -- R246: EPOCH
  ⟨.MC_EPOCH_LO, 0xc00004, [], [⟨31, 0, .ST, 0, true, false, []⟩]⟩,
  -- R246: EPOCH
  ⟨.MC_EPOCH_HI, 0xc00008, [], [⟨31, 0, .ST, 0, true, false, []⟩]⟩,
  -- R246: TXOFS, ACKGAP
  ⟨.MC_TIMING, 0xc0000c, [], [⟨15, 0, .ST, 0, true, false, []⟩, ⟨23, 16, .ST, 1, true, false, [(1, 255)]⟩]⟩,
  -- R246: ASN
  ⟨.MC_ASN_LO, 0xc00010, [], [⟨31, 0, .RS, 0, false, false, []⟩]⟩,
  -- R246: ASN
  ⟨.MC_ASN_HI, 0xc00014, [], [⟨7, 0, .RS, 0, false, false, []⟩]⟩,
  -- R246: RESPDLY
  ⟨.MC_RESPCFG, 0xc00018, [], [⟨9, 0, .ST, 10, true, false, [(10, 1000)]⟩]⟩,
  -- R246: MIN, UNC, MAX
  ⟨.MC_GUARDCFG, 0xc0001c, [], [⟨11, 0, .ST, 0, true, false, []⟩, ⟨19, 12, .ST, 0, true, false, []⟩, ⟨31, 20, .ST, 0, true, false, []⟩]⟩,
  -- R246: LEN, EN
  ⟨.MC_SFRAME, 0xc00040, [(8, 4)], [⟨15, 0, .ST, 1, true, false, [(1, 65535)]⟩, ⟨16, 16, .ST, 0, true, false, []⟩]⟩,
  -- R246: L
  ⟨.MC_HOPLEN, 0xc00080, [(16, 4)], [⟨6, 0, .ST, 1, true, false, [(1, 64)]⟩]⟩,
  -- R246: CH0, CH1, CH2, CH3
  ⟨.MC_HOP, 0xc01000, [(16, 64), (16, 4)], [⟨4, 0, .ST, 0, true, false, []⟩, ⟨12, 8, .ST, 0, true, false, []⟩, ⟨20, 16, .ST, 0, true, false, []⟩, ⟨28, 24, .ST, 0, true, false, []⟩]⟩,
  -- R246: SLOT_OFS, SFRAME, EN, DIR, PAIR, HOP
  ⟨.MC_LINK0, 0xc10000, [(16384, 16)], [⟨15, 0, .ST, 0, true, false, []⟩, ⟨18, 16, .ST, 0, true, false, []⟩, ⟨19, 19, .ST, 0, true, false, []⟩, ⟨20, 20, .ST, 0, true, false, []⟩, ⟨25, 21, .ST, 0, true, false, []⟩, ⟨29, 26, .ST, 0, true, false, []⟩]⟩,
  -- R246: NEIGH, ANY, CHOFS
  ⟨.MC_LINK1, 0xc10004, [(16384, 16)], [⟨16, 0, .ST, 0, true, false, []⟩, ⟨17, 17, .ST, 0, true, false, []⟩, ⟨23, 18, .ST, 0, true, false, []⟩]⟩,
  -- R246: QUEUE, SF, CR
  ⟨.MC_LINK2, 0xc10008, [(16384, 16)], [⟨13, 0, .ST, 0, true, false, []⟩, ⟨16, 14, .ST, 0, true, false, []⟩, ⟨19, 17, .ST, 1, true, false, [(1, 4)]⟩]⟩,
  -- R246: 
  ⟨.MC_LINK3, 0xc1000c, [(16384, 16)], []⟩,
  -- R246: PREFIX
  ⟨.MC_ADDRCFG, 0xd00000, [], [⟨8, 0, .ST, 1, true, false, [(1, 511)]⟩]⟩,
  -- R246: PROVTTL
  ⟨.MC_JOINCFG, 0xd00004, [], [⟨7, 0, .ST, 1, true, false, [(1, 255)]⟩]⟩,
  -- R246: BASE, KIND, JOIN, MBXTTL
  ⟨.MC_PART0, 0xd00040, [(8, 16)], [⟨16, 0, .ST, 0, true, false, []⟩, ⟨18, 17, .ST, 0, true, false, [(0, 2)]⟩, ⟨19, 19, .ST, 0, true, false, []⟩, ⟨31, 20, .ST, 0, true, false, []⟩]⟩,
  -- R246: SIZE
  ⟨.MC_PART1, 0xd00044, [(8, 16)], [⟨17, 0, .ST, 0, true, false, [(0, 131072)]⟩]⟩,
  -- R246: MBXQ
  ⟨.MC_PART2, 0xd00048, [(8, 16)], [⟨13, 0, .ST, 0, true, false, []⟩]⟩,
  -- R246: DELIVQ, FALLQ
  ⟨.MC_QMAP, 0xd00200, [(128, 4)], [⟨13, 0, .ST, 0, true, false, []⟩, ⟨29, 16, .ST, 0, true, false, []⟩]⟩,
  -- R246: QUEUE, EN
  ⟨.MC_DLQ, 0xd00400, [(16, 4)], [⟨13, 0, .ST, 0, true, false, []⟩, ⟨14, 14, .ST, 0, true, false, []⟩]⟩,
  -- R246: PREFIX, ROUTE, EN
  ⟨.MC_PFX, 0xd00500, [(64, 4)], [⟨8, 0, .ST, 0, true, false, []⟩, ⟨24, 9, .ST, 0, true, false, []⟩, ⟨25, 25, .ST, 0, true, false, []⟩]⟩,
  -- R246: ACTIVE, FULL
  ⟨.MC_EPSTAT, 0xd01000, [], [⟨17, 0, .RO, 0, false, false, []⟩, ⟨31, 18, .RO, 0, false, true, []⟩]⟩,
  -- R246: COUNT
  ⟨.MC_HOPDROP, 0xd01004, [], [⟨15, 0, .RO, 0, false, true, []⟩]⟩,
  -- R246: ENDPOINT, STORE
  ⟨.MC_MBXFULL, 0xd01008, [], [⟨15, 0, .RO, 0, false, true, []⟩, ⟨31, 16, .RO, 0, false, true, []⟩]⟩,
  -- R246: OVERHEARD, UNKNOWN
  ⟨.MC_RXSTAT, 0xd0100c, [], [⟨15, 0, .RO, 0, false, true, []⟩, ⟨31, 16, .RO, 0, false, true, []⟩]⟩,
  -- R246: REPLAY, DUP
  ⟨.MC_RXSTAT2, 0xd01010, [], [⟨15, 0, .RO, 0, false, true, []⟩, ⟨31, 16, .RO, 0, false, true, []⟩]⟩,
  -- R246: MISS, NEXTHOP
  ⟨.MC_ROUTESTAT, 0xd01014, [], [⟨15, 0, .RO, 0, false, true, []⟩, ⟨31, 16, .RO, 0, false, true, []⟩]⟩,
  -- R246: COLLIDE, SKIPPED
  ⟨.MC_SCHEDSTAT, 0xd01018, [], [⟨15, 0, .RO, 0, false, true, []⟩, ⟨31, 16, .RO, 0, false, true, []⟩]⟩,
  -- R246: MISSED, EXPIRED
  ⟨.MC_MBXSTAT, 0xd0101c, [], [⟨15, 0, .RO, 0, false, true, []⟩, ⟨31, 16, .RO, 0, false, true, []⟩]⟩,
  -- R246: LOST, EVTEXH
  ⟨.MC_SUPSTAT, 0xd01020, [], [⟨15, 0, .RO, 0, false, true, []⟩, ⟨31, 16, .RO, 0, false, true, []⟩]⟩,
  -- R246: RELAYED, BENCH
  ⟨.MC_RELAYSTAT, 0xd01024, [], [⟨15, 0, .RO, 0, false, true, []⟩, ⟨31, 16, .RO, 0, false, true, []⟩]⟩,
  -- R246: PROFILE
  ⟨.MC_DCCFG, 0xf00000, [], [⟨1, 0, .ST, 0, true, false, [(0, 2)]⟩]⟩,
  -- R246: LO
  ⟨.MC_SUBBAND_LO, 0xf00010, [(8, 8)], [⟨19, 0, .ST, 0, true, false, []⟩]⟩,
  -- R246: HI, LIMIT
  ⟨.MC_SUBBAND_HI, 0xf00014, [(8, 8)], [⟨19, 0, .ST, 0, true, false, []⟩, ⟨31, 20, .ST, 1, true, false, [(1, 4095)]⟩]⟩,
  -- R246: USED
  ⟨.MC_DCUSED, 0xf01000, [(32, 32), (8, 4)], [⟨31, 0, .RO, 0, false, false, []⟩]⟩,
  -- R246: REFUSED, NOBAND
  ⟨.MC_DCREF, 0xf02000, [(32, 4)], [⟨15, 0, .RO, 0, false, true, []⟩, ⟨31, 16, .RO, 0, false, true, []⟩]⟩]

/-- The registers of block QM. -/
def regDefsQM : List RegDef := [
  -- R293: BASE, SIZE, EN, STORE
  ⟨.QM_QPLACE, 0x1000000, [(16384, 32)], [⟨15, 0, .ST, 0, true, false, []⟩, ⟨19, 16, .ST, 0, true, false, [(0, 12)]⟩, ⟨20, 20, .ST, 0, true, false, []⟩, ⟨21, 21, .ST, 0, true, false, []⟩]⟩,
  -- R293: STALE, OVR_NOTE, CORR
  ⟨.QM_QCFG, 0x1000004, [(16384, 32)], [⟨15, 0, .RW, 0, true, false, []⟩, ⟨16, 16, .RW, 0, true, false, []⟩, ⟨31, 24, .RO, 0, false, false, []⟩]⟩,
  -- R293: PTR
  ⟨.QM_QWP, 0x1000008, [(16384, 32)], [⟨18, 0, .RO, 0, false, false, []⟩]⟩,
  -- R293: PTR
  ⟨.QM_QRP, 0x100000c, [(16384, 32)], [⟨18, 0, .RO, 0, false, false, []⟩]⟩,
  -- R293: PTR
  ⟨.QM_QMP, 0x1000010, [(16384, 32)], [⟨18, 0, .RO, 0, false, false, []⟩]⟩,
  -- R293: PTR
  ⟨.QM_QREL, 0x1000014, [(16384, 32)], [⟨18, 0, .RO, 0, false, false, []⟩]⟩,
  -- R293: ADVANCE, RELEASE, MARK, REWIND, FLUSH, CLRCNT, COUNT
  ⟨.QM_QCTL, 0x1000018, [(16384, 32)], [⟨0, 0, .WO, 0, false, false, []⟩, ⟨1, 1, .WO, 0, false, false, []⟩, ⟨2, 2, .WO, 0, false, false, []⟩, ⟨3, 3, .WO, 0, false, false, []⟩, ⟨4, 4, .WO, 0, false, false, []⟩, ⟨5, 5, .WO, 0, false, false, []⟩, ⟨30, 12, .WO, 0, false, false, []⟩]⟩,
  -- R293: OVERRUN, UNCORR, OPEN, STALE, ORPHAN, ORPHANS
  ⟨.QM_QSTAT, 0x100001c, [(16384, 32)], [⟨0, 0, .W1C, 0, false, false, []⟩, ⟨1, 1, .W1C, 0, false, false, []⟩, ⟨2, 2, .RO, 0, false, false, []⟩, ⟨3, 3, .RO, 0, false, false, []⟩, ⟨4, 4, .RO, 0, false, false, []⟩, ⟨31, 16, .RO, 0, false, false, []⟩]⟩,
  -- R293: BASE, LEN
  ⟨.QM_SHELF, 0x1080000, [(256, 4)], [⟨13, 0, .ST, 0, true, false, []⟩, ⟨28, 14, .ST, 0, true, false, [(0, 16384)]⟩]⟩,
  -- R293: LIMIT
  ⟨.QM_OPENLIM, 0x1081000, [], [⟨15, 0, .RW, 0, true, false, []⟩]⟩,
  -- R293: PASSES
  ⟨.QM_SCRUB, 0x1081004, [], [⟨15, 0, .RO, 0, false, true, []⟩]⟩,
  -- R293: CORR, UNCORR
  ⟨.QM_BANKSTAT, 0x1081100, [(68, 4)], [⟨15, 0, .RO, 0, false, true, []⟩, ⟨31, 16, .RO, 0, false, true, []⟩]⟩]

/-- The registers of block CX. -/
def regDefsCX : List RegDef := [
  -- R274: PENDING, FULL
  ⟨.CX_QSTAT, 0x1400000, [], [⟨10, 0, .RO, 0, false, false, []⟩, ⟨31, 16, .RO, 0, false, false, []⟩]⟩,
  -- R274: COUNT
  ⟨.CX_DUALKEY, 0x1400004, [], [⟨15, 0, .RO, 0, false, true, []⟩]⟩,
  -- R274: FRAME, HOST
  ⟨.CX_AUTHFAIL, 0x1400008, [], [⟨15, 0, .RO, 0, false, true, []⟩, ⟨31, 16, .RO, 0, false, true, []⟩]⟩,
  -- R274: LIVE, RETIRED, MISMATCH
  ⟨.CX_FAULTSTAT, 0x140000c, [], [⟨4, 0, .RO, 15, false, false, []⟩, ⟨9, 5, .RO, 0, false, false, []⟩, ⟨23, 16, .RO, 0, false, false, []⟩]⟩,
  -- R274: MINLVL, TXLVL, BCDRAWER
  ⟨.CX_SECCFG, 0x1400010, [], [⟨2, 0, .ST, 1, true, false, [(1, 3), (5, 7)]⟩, ⟨5, 3, .ST, 1, true, false, [(1, 3), (5, 7)]⟩, ⟨17, 6, .ST, 0, true, false, []⟩]⟩,
  -- R274: COUNT
  ⟨.CX_BCASTCNT, 0x1400014, [], [⟨31, 0, .RO, 0, false, false, []⟩]⟩,
  -- R274: WINDOW
  ⟨.CX_ROLLCFG, 0x1400018, [], [⟨15, 0, .ST, 0, true, false, []⟩]⟩,
  -- R274: BASE, SIZE, USE
  ⟨.CX_DPART0, 0x1400100, [(16, 8)], [⟨11, 0, .ST, 0, true, false, []⟩, ⟨24, 12, .ST, 0, true, false, [(0, 4096)]⟩, ⟨28, 25, .ST, 0, true, false, []⟩]⟩,
  -- R274: SESSIONS
  ⟨.CX_DPART1, 0x1400104, [(16, 8)], [⟨15, 0, .ST, 0, true, false, []⟩]⟩,
  -- R274: CUR, PREV, ROLLING, GEN, AUTHFAIL
  ⟨.CX_DRSTAT, 0x1410000, [(4096, 4)], [⟨1, 0, .RO, 0, false, false, []⟩, ⟨3, 2, .RO, 0, false, false, []⟩, ⟨4, 4, .RO, 0, false, false, []⟩, ⟨15, 8, .RO, 0, false, false, []⟩, ⟨31, 16, .RO, 0, false, false, []⟩]⟩,
  -- R274: CUR, PREV, ROLLING, GEN, AUTHFAIL
  ⟨.CX_EKSTAT, 0x1500000, [(131072, 4)], [⟨1, 0, .RO, 0, false, false, []⟩, ⟨3, 2, .RO, 0, false, false, []⟩, ⟨4, 4, .RO, 0, false, false, []⟩, ⟨15, 8, .RO, 0, false, false, []⟩, ⟨31, 16, .RO, 0, false, false, []⟩]⟩,
  -- R274: EN, DIV, PPS_EN, TPREF, RING
  ⟨.CX_CARDCFG, 0x1600000, [(8, 32)], [⟨0, 0, .ST, 0, true, false, []⟩, ⟨10, 1, .ST, 31, true, false, [(31, 614)]⟩, ⟨11, 11, .ST, 0, true, false, []⟩, ⟨12, 12, .ST, 0, true, false, []⟩, ⟨20, 13, .ST, 0, true, false, []⟩]⟩,
  -- R274: STATE, INVERSE, PROTOCOL, LAST
  ⟨.CX_CARDSTAT, 0x1600004, [(8, 32)], [⟨2, 0, .RO, 0, false, false, []⟩, ⟨3, 3, .RO, 0, false, false, []⟩, ⟨4, 4, .RO, 0, false, false, []⟩, ⟨15, 8, .RO, 0, false, false, []⟩]⟩,
  -- R274: F, D
  ⟨.CX_CARDETU, 0x1600008, [(8, 32)], [⟨11, 0, .RO, 0, false, false, []⟩, ⟨18, 12, .RO, 0, false, false, []⟩]⟩,
  -- R274: PARITY, TIMEOUT
  ⟨.CX_CARDERR, 0x160000c, [(8, 32)], [⟨15, 0, .RO, 0, false, true, []⟩, ⟨31, 16, .RO, 0, false, true, []⟩]⟩]

/-- The registers of block HL. -/
def regDefsHL : List RegDef := [
  -- R321: CBASE_LO
  ⟨.HL_SESS0, 0x1800000, [(16, 32)], [⟨31, 6, .RW, 0, false, false, []⟩]⟩,
  -- R321: CBASE_HI
  ⟨.HL_SESS1, 0x1800004, [(16, 32)], [⟨31, 0, .RW, 0, false, false, []⟩]⟩,
  -- R321: SIZE, EN, PRIV
  ⟨.HL_SESS2, 0x1800008, [(16, 32)], [⟨3, 0, .RW, 0, false, false, [(0, 8)]⟩, ⟨4, 4, .RW, 0, false, false, []⟩, ⟨5, 5, .RW, 0, false, false, []⟩]⟩,
  -- R321: WB_LO
  ⟨.HL_SESS3, 0x180000c, [(16, 32)], [⟨31, 2, .RW, 0, false, false, []⟩]⟩,
  -- R321: WB_HI
  ⟨.HL_SESS4, 0x1800010, [(16, 32)], [⟨31, 0, .RW, 0, false, false, []⟩]⟩,
  -- R321: CONS, PROD
  ⟨.HL_SESS5, 0x1800014, [(16, 32)], [⟨15, 0, .RO, 0, false, false, []⟩, ⟨31, 16, .RO, 0, false, false, []⟩]⟩,
  -- R321: 
  ⟨.HL_SESS6, 0x1800018, [(16, 32), (2, 4)], []⟩,
  -- R321: NBASE_LO
  ⟨.HL_NRING0, 0x1800200, [], [⟨31, 6, .RW, 0, false, false, []⟩]⟩,
  -- R321: NBASE_HI
  ⟨.HL_NRING1, 0x1800204, [], [⟨31, 0, .RW, 0, false, false, []⟩]⟩,
  -- R321: SIZE, EN
  ⟨.HL_NRING2, 0x1800208, [], [⟨3, 0, .RW, 0, false, false, [(0, 9)]⟩, ⟨4, 4, .RW, 0, false, false, []⟩]⟩,
  -- R321: WB_LO
  ⟨.HL_NRING3, 0x180020c, [], [⟨31, 2, .RW, 0, false, false, []⟩]⟩,
  -- R321: WB_HI
  ⟨.HL_NRING4, 0x1800210, [], [⟨31, 0, .RW, 0, false, false, []⟩]⟩,
  -- R321: PROD, CONS
  ⟨.HL_NRING5, 0x1800214, [], [⟨15, 0, .RO, 0, false, false, []⟩, ⟨31, 16, .RO, 0, false, false, []⟩]⟩,
  -- R321: IRQ_COUNT, IRQ_TIME
  ⟨.HL_NRING6, 0x1800218, [], [⟨13, 0, .RW, 1, false, false, [(1, 8192)]⟩, ⟨31, 16, .RW, 0, false, false, []⟩]⟩,
  -- R321: 
  ⟨.HL_NRING7, 0x180021c, [], []⟩,
  -- R321: LOST, BUFFERED, WINDOW
  ⟨.HL_NSTAT, 0x1800220, [], [⟨15, 0, .RO, 0, false, true, []⟩, ⟨25, 16, .RO, 0, false, false, []⟩, ⟨26, 26, .RO, 0, false, true, []⟩]⟩,
  -- R321: COUNT, KIND, INDEX
  ⟨.HL_SESSERR, 0x1800224, [], [⟨15, 0, .RO, 0, false, false, []⟩, ⟨17, 16, .RO, 0, false, false, []⟩, ⟨25, 18, .RO, 0, false, false, []⟩]⟩,
  -- R321: CPL_TIMEOUT
  ⟨.HL_DMACFG, 0x1800228, [], [⟨15, 0, .RW, 100, false, false, [(1, 65535)]⟩]⟩,
  -- R321: BUSY_PCT, SLOTS
  ⟨.HL_ENGSTAT, 0x180022c, [], [⟨6, 0, .RO, 0, false, false, []⟩, ⟨16, 8, .RO, 0, false, false, []⟩]⟩,
  -- R321: SPEED, WIDTH, UP, BME, DOWNS
  ⟨.HL_LINKSTAT, 0x1800230, [], [⟨2, 0, .RO, 0, false, false, []⟩, ⟨5, 3, .RO, 0, false, false, []⟩, ⟨6, 6, .RO, 0, false, false, []⟩, ⟨7, 7, .RO, 0, false, false, []⟩, ⟨31, 16, .RO, 0, false, false, []⟩]⟩,
  -- R321: RATE, BURST, DELAYED
  ⟨.HL_NRATE, 0x1800300, [(15, 4)], [⟨7, 0, .RW, 0, false, false, []⟩, ⟨15, 8, .RW, 64, false, false, [(1, 255)]⟩, ⟨31, 16, .RO, 0, false, true, []⟩]⟩,
  -- R321: RD, WR, BASE_LO
  ⟨.HL_WIN0, 0x1800400, [(32, 16)], [⟨0, 0, .RW, 0, false, false, []⟩, ⟨1, 1, .RW, 0, false, false, []⟩, ⟨31, 12, .RW, 0, false, false, []⟩]⟩,
  -- R321: BASE_HI
  ⟨.HL_WIN1, 0x1800404, [(32, 16)], [⟨31, 0, .RW, 0, false, false, []⟩]⟩,
  -- R321: LIMIT_LO
  ⟨.HL_WIN2, 0x1800408, [(32, 16)], [⟨31, 12, .RW, 0, false, false, []⟩]⟩,
  -- R321: LIMIT_HI
  ⟨.HL_WIN3, 0x180040c, [(32, 16)], [⟨31, 0, .RW, 0, false, false, []⟩]⟩,
  -- R321: BASE_LO
  ⟨.HL_DRING0, 0x1810000, [(256, 32)], [⟨31, 5, .RW, 0, false, false, []⟩]⟩,
  -- R321: BASE_HI
  ⟨.HL_DRING1, 0x1810004, [(256, 32)], [⟨31, 0, .RW, 0, false, false, []⟩]⟩,
  -- R321: SIZE, EN, VECTOR, PERIPH
  ⟨.HL_DRING2, 0x1810008, [(256, 32)], [⟨3, 0, .RW, 0, false, false, [(0, 8)]⟩, ⟨4, 4, .RW, 0, false, false, []⟩, ⟨10, 5, .RW, 0, false, false, []⟩, ⟨11, 11, .RO, 0, false, false, []⟩]⟩,
  -- R321: CONS, PROD
  ⟨.HL_DRING3, 0x181000c, [(256, 32)], [⟨15, 0, .RO, 0, false, false, []⟩, ⟨31, 16, .RO, 0, false, false, []⟩]⟩,
  -- R321: DONE, ERRORS
  ⟨.HL_DRING4, 0x1810010, [(256, 32)], [⟨15, 0, .RO, 0, false, false, []⟩, ⟨31, 16, .RO, 0, false, false, []⟩]⟩,
  -- R321: 
  ⟨.HL_DRING5, 0x1810014, [(256, 32), (3, 4)], []⟩]

/-- The registers of block TN. -/
def regDefsTN : List RegDef := [
  -- R344: AUTORETRY, RETRIES, WAIT_LIMIT
  ⟨.TN_CTL, 0x1a00000, [], [⟨0, 0, .RW, 1, false, false, []⟩, ⟨4, 1, .RW, 4, false, false, []⟩, ⟨15, 8, .RW, 10, false, false, []⟩]⟩,
  -- R344: OPEN, REFUSED
  ⟨.TN_STAT, 0x1a00004, [], [⟨9, 0, .RO, 0, false, false, []⟩, ⟨31, 16, .RO, 0, false, false, []⟩]⟩,
  -- R344: COMMITTED, ABORTED
  ⟨.TN_CNT, 0x1a00008, [], [⟨15, 0, .RO, 0, false, true, []⟩, ⟨31, 16, .RO, 0, false, true, []⟩]⟩,
  -- R344: WOUNDS, RETRIES
  ⟨.TN_WOUND, 0x1a0000c, [], [⟨15, 0, .RO, 0, false, true, []⟩, ⟨31, 16, .RO, 0, false, true, []⟩]⟩,
  -- R344: PLC, CHIRP
  ⟨.TN_CUT, 0x1a00010, [], [⟨15, 0, .RO, 0, false, true, []⟩, ⟨31, 16, .RO, 0, false, true, []⟩]⟩,
  -- R344: VOTE_LEAD, GUARD, BSTAGEQ, BSTAGE_EN
  ⟨.TN_BCFG, 0x1a00014, [], [⟨7, 0, .RW, 10, false, false, [(1, 19)]⟩, ⟨15, 8, .RW, 20, false, false, [(1, 255)]⟩, ⟨29, 16, .RW, 0, false, false, []⟩, ⟨30, 30, .RW, 0, false, false, []⟩]⟩,
  -- R344: COUNT
  ⟨.TN_SPLIT, 0x1a00018, [], [⟨15, 0, .RO, 0, false, true, []⟩]⟩,
  -- R344: STATE, BENCH, ACTIONS, WOUNDS, WAITAT, GEN
  ⟨.TN_SLOT0, 0x1a01000, [(512, 16)], [⟨2, 0, .RO, 0, false, false, []⟩, ⟨3, 3, .RO, 0, false, false, []⟩, ⟨10, 4, .RO, 0, false, false, []⟩, ⟨14, 11, .RO, 0, false, false, []⟩, ⟨22, 16, .RO, 127, false, false, []⟩, ⟨29, 23, .RO, 0, false, false, []⟩]⟩,
  -- R344: AGE
  ⟨.TN_SLOT1, 0x1a01004, [(512, 16)], [⟨31, 0, .RO, 0, false, false, []⟩]⟩,
  -- R344: AGE
  ⟨.TN_SLOT2, 0x1a01008, [(512, 16)], [⟨31, 0, .RO, 0, false, false, []⟩]⟩,
  -- R344: FRAC, MEMBER
  ⟨.TN_SLOT3, 0x1a0100c, [(512, 16)], [⟨15, 0, .RO, 0, false, false, []⟩, ⟨20, 16, .RO, 0, false, false, []⟩]⟩]

/-- The registers of block BN. -/
def regDefsBN : List RegDef := [
  -- R372: ROLE, MEMBER, NMEMB, TOPO, TWIN_PORT, BORROW, ACK_TIMEOUT, WTR
  ⟨.BN_CFG, 0x1c00000, [], [⟨1, 0, .ST, 0, true, false, [(0, 2)]⟩, ⟨6, 2, .ST, 0, true, false, []⟩, ⟨11, 7, .ST, 0, true, false, []⟩, ⟨12, 12, .ST, 0, true, false, []⟩, ⟨13, 13, .ST, 0, true, false, []⟩, ⟨14, 14, .ST, 0, true, false, []⟩, ⟨23, 16, .ST, 1, true, false, [(1, 255)]⟩, ⟨31, 24, .ST, 0, true, false, []⟩]⟩,
  -- R372: LANES, GCM, DRAWER
  ⟨.BN_GRPCFG, 0x1c00010, [(2, 4)], [⟨4, 0, .ST, 0, true, false, [(0, 16)]⟩, ⟨5, 5, .ST, 0, true, false, []⟩, ⟨17, 6, .ST, 0, true, false, []⟩]⟩,
  -- R372: STATE, RDI_RX, MISMATCH, SKEW
  ⟨.BN_GRPSTAT, 0x1c00020, [(2, 4)], [⟨1, 0, .RO, 0, false, false, []⟩, ⟨2, 2, .RO, 0, false, false, []⟩, ⟨3, 3, .RO, 0, false, false, []⟩, ⟨16, 8, .RO, 0, false, false, []⟩]⟩,
  -- R372: CELLERR, AUTHFAIL, MSGLOST
  ⟨.BN_GRPERR, 0x1c00028, [(2, 4)], [⟨11, 0, .RO, 0, false, true, []⟩, ⟨21, 12, .RO, 0, false, true, []⟩, ⟨31, 22, .RO, 0, false, true, []⟩]⟩,
  -- R372: LOCK, INFRAME, INMF, ERRFR
  ⟨.BN_LANESTAT, 0x1c00100, [(32, 4)], [⟨0, 0, .RO, 0, false, false, []⟩, ⟨1, 1, .RO, 0, false, false, []⟩, ⟨2, 2, .RO, 0, false, false, []⟩, ⟨31, 16, .RO, 0, false, false, []⟩]⟩,
  -- R372: ES, SES
  ⟨.BN_PERF, 0x1c00200, [(2, 8)], [⟨15, 0, .RO, 0, false, true, []⟩, ⟨31, 16, .RO, 0, false, true, []⟩]⟩,
  -- R372: UAS, UNAVAIL
  ⟨.BN_UAS, 0x1c00204, [(2, 8)], [⟨15, 0, .RO, 0, false, false, []⟩, ⟨16, 16, .RO, 0, false, false, []⟩]⟩,
  -- R372: REACH
  ⟨.BN_REACH, 0x1c00300, [], [⟨31, 0, .RO, 0, false, false, []⟩]⟩,
  -- R372: RETRY, UNROUTABLE
  ⟨.BN_REQSTAT, 0x1c00304, [], [⟨15, 0, .RO, 0, false, true, []⟩, ⟨31, 16, .RO, 0, false, true, []⟩]⟩,
  -- R372: LENT, LOST
  ⟨.BN_LEASESTAT, 0x1c00308, [], [⟨15, 0, .RO, 0, false, true, []⟩, ⟨31, 16, .RO, 0, false, true, []⟩]⟩,
  -- R372: BORROWER, COUNT
  ⟨.BN_LEASE, 0x1c00400, [(8, 4)], [⟨4, 0, .ST, 0, true, false, []⟩, ⟨13, 5, .ST, 0, true, false, [(0, 256)]⟩]⟩,
  -- R372: CREDITS
  ⟨.BN_CREDIT, 0x1c00440, [(32, 4)], [⟨8, 0, .RO, 0, false, false, []⟩]⟩]

/-- The registers of block PF. -/
def regDefsPF : List RegDef := [
  -- R372: ADDR, HANDQ
  ⟨.PF_CFG, 0x1d00000, [], [⟨15, 0, .ST, 0, true, false, []⟩, ⟨29, 16, .ST, 0, true, false, []⟩]⟩,
  -- R372: RTFULL, NOROUTE
  ⟨.PF_STAT, 0x1d00004, [], [⟨15, 0, .RO, 0, false, true, []⟩, ⟨31, 16, .RO, 0, false, true, []⟩]⟩,
  -- R372: LANES, GCM, DRAWER
  ⟨.PF_PORTCFG, 0x1d00010, [(4, 16)], [⟨2, 0, .ST, 0, true, false, [(0, 4)]⟩, ⟨3, 3, .ST, 0, true, false, []⟩, ⟨15, 4, .ST, 0, true, false, []⟩]⟩,
  -- R372: STATE, NEIGH_UP, DUPADDR, NEIGH
  ⟨.PF_PORTSTAT, 0x1d00014, [(4, 16)], [⟨1, 0, .RO, 0, false, false, []⟩, ⟨2, 2, .RO, 0, false, false, []⟩, ⟨3, 3, .RO, 0, false, false, []⟩, ⟨31, 16, .RO, 0, false, false, []⟩]⟩,
  -- R372: OFS
  ⟨.PF_TIMEOFS, 0x1d00018, [(4, 16)], [⟨31, 0, .RO, 0, false, false, []⟩]⟩,
  -- R372: ADDR, METRIC, PORT, VALID
  ⟨.PF_RT, 0x1d01000, [(256, 4)], [⟨15, 0, .RO, 0, false, false, []⟩, ⟨20, 16, .RO, 0, false, false, []⟩, ⟨22, 21, .RO, 0, false, false, []⟩, ⟨23, 23, .RO, 0, false, false, []⟩]⟩]

/-- The registers of block SV. -/
def regDefsSV : List RegDef := [
  -- R393: RING, FIELD_WR
  ⟨.SV_CFG, 0x1e00000, [], [⟨7, 0, .RW, 247, false, false, []⟩, ⟨8, 8, .RW, 1, false, false, []⟩]⟩,
  -- R393: FIELD
  ⟨.SV_STAT, 0x1e00004, [], [⟨0, 0, .RO, 0, false, false, []⟩]⟩,
  -- R393: BUSY, LOCKED
  ⟨.SV_CNT, 0x1e00008, [], [⟨15, 0, .RO, 0, false, true, []⟩, ⟨31, 16, .RO, 0, false, true, []⟩]⟩,
  -- R393: UID
  ⟨.SV_UID_LO, 0x1e00010, [], [⟨31, 0, .RO, 0, false, false, []⟩]⟩,
  -- R393: UID
  ⟨.SV_UID_HI, 0x1e00014, [], [⟨31, 0, .RO, 0, false, false, []⟩]⟩,
  -- R393: FAILS, BADCOPY
  ⟨.SV_LDGSTAT, 0x1e00018, [], [⟨15, 0, .RO, 0, false, true, []⟩, ⟨31, 16, .RO, 0, false, true, []⟩]⟩]

/-- The registers of block QW. -/
def regDefsQW : List RegDef := [
  -- R275: WORD
  ⟨.QMEM, 0x10000000, [(4194304, 4)], [⟨31, 0, .RW, 0, false, false, []⟩]⟩]

/-- The registers of block EP. EP0.CR resets to 0 and lists the values 1 to 4; that 0 may also be written, 5 to 7 not, is the
model's choice (DESIGN CHOICE, log entry 156). -/
def regDefsEP : List RegDef := [
  -- R225: STATE, SLEEPY, MEDIUM, SF, CHANNEL, PORT, BAND, CR, DLEARNED, MBXN
  ⟨.EP0, 0x20000000, [(131072, 64)], [⟨1, 0, .RW, 0, false, false, []⟩, ⟨2, 2, .RW, 0, false, false, []⟩, ⟨3, 3, .RW, 0, false, false, []⟩, ⟨6, 4, .RW, 0, false, false, []⟩, ⟨11, 7, .RW, 0, false, false, []⟩, ⟨18, 12, .RW, 0, false, false, [(0, 95)]⟩, ⟨20, 19, .RW, 0, false, false, []⟩, ⟨23, 21, .RW, 0, false, false, [(0, 4)]⟩, ⟨24, 24, .RW, 0, false, false, []⟩, ⟨27, 25, .RO, 0, false, false, []⟩]⟩,
  -- R225: KEY, DRAWER, KEYSEL
  ⟨.EP1, 0x20000004, [(131072, 64)], [⟨16, 0, .RW, 0, false, false, []⟩, ⟨17, 17, .RW, 0, false, false, []⟩, ⟨18, 18, .RW, 0, false, false, []⟩]⟩,
  -- R225: ROUTE, RT_EN
  ⟨.EP2, 0x20000008, [(131072, 64)], [⟨15, 0, .RW, 0, false, false, []⟩, ⟨16, 16, .RW, 0, false, false, []⟩]⟩,
  -- R225: EVT_TX
  ⟨.EP3, 0x2000000c, [(131072, 64)], [⟨31, 0, .RW, 0, false, false, []⟩]⟩,
  -- R225: EVT_RX
  ⟨.EP4, 0x20000010, [(131072, 64)], [⟨31, 0, .RW, 0, false, false, []⟩]⟩,
  -- R225: CHMAP
  ⟨.EP5, 0x20000014, [(131072, 64)], [⟨31, 0, .RW, 0, false, false, []⟩]⟩,
  -- R225: CHMAP
  ⟨.EP6, 0x20000018, [(131072, 64)], [⟨31, 0, .RW, 0, false, false, []⟩]⟩,
  -- R225: SUPERV
  ⟨.EP7, 0x2000001c, [(131072, 64)], [⟨24, 0, .RW, 0, false, false, [(0, 0), (10, 17280000)]⟩]⟩,
  -- R225: LASTRX
  ⟨.EP8, 0x20000020, [(131072, 64)], [⟨31, 0, .RO, 0, false, false, []⟩]⟩,
  -- R225: LASTRX
  ⟨.EP9, 0x20000024, [(131072, 64)], [⟨31, 0, .RO, 0, false, false, []⟩]⟩,
  -- R225: FOFS, GSTEP
  ⟨.EP10, 0x20000028, [(131072, 64)], [⟨23, 0, .RW, 0, false, false, []⟩, ⟨29, 24, .RW, 0, false, false, []⟩]⟩,
  -- R225: DRIFT, TOFS
  ⟨.EP11, 0x2000002c, [(131072, 64)], [⟨15, 0, .RW, 0, false, false, []⟩, ⟨31, 16, .RW, 0, false, false, []⟩]⟩,
  -- R225: MBX0, MBX1
  ⟨.EP12, 0x20000030, [(131072, 64)], [⟨15, 0, .RO, 0, false, false, []⟩, ⟨31, 16, .RO, 0, false, false, []⟩]⟩,
  -- R225: MBX2, MBX3
  ⟨.EP13, 0x20000034, [(131072, 64)], [⟨15, 0, .RO, 0, false, false, []⟩, ⟨31, 16, .RO, 0, false, false, []⟩]⟩,
  -- R225: LASTSYNC
  ⟨.EP14, 0x20000038, [(131072, 64)], [⟨31, 0, .RO, 0, false, false, []⟩]⟩,
  -- R225: LASTSYNC
  ⟨.EP15, 0x2000003c, [(131072, 64)], [⟨31, 0, .RO, 0, false, false, []⟩]⟩]

/-- The registers of block RT. -/
def regDefsRT : List RegDef := [
  -- R244: VALID, MEDIUM, PORT, BAND, MEMBER, TXQ
  ⟨.RT0, 0x20800000, [(65536, 16)], [⟨0, 0, .ST, 0, true, false, []⟩, ⟨2, 1, .ST, 0, true, false, [(0, 2)]⟩, ⟨9, 3, .ST, 0, true, false, []⟩, ⟨11, 10, .ST, 0, true, false, []⟩, ⟨16, 12, .ST, 0, true, false, []⟩, ⟨30, 17, .ST, 0, true, false, []⟩]⟩,
  -- R244: NEXT_HOP
  ⟨.RT1, 0x20800004, [(65536, 16)], [⟨31, 0, .ST, 0, true, false, []⟩]⟩,
  -- R244: USES
  ⟨.RT2, 0x20800008, [(65536, 16)], [⟨31, 0, .RO, 0, false, false, []⟩]⟩,
  -- R244: 
  ⟨.RT3, 0x2080000c, [(65536, 16)], []⟩]

/-- The register table that holds an address (R394). -/
def regBlock (a : Nat) : List RegDef :=
  if a ≥ 0x20800000 then regDefsRT
  else if a ≥ 0x20000000 then regDefsEP
  else if a ≥ 0x10000000 then regDefsQW
  else match a / 0x100000 with
    | 0 => if a < 0x1000 then regDefsMD else if a < 0x2000 then regDefsCF
           else if 0x4000 ≤ a ∧ a < 0x8000 then regDefsMD else regDefsFT
    | 1 => regDefsTB
    | 2 | 3 => regDefsSC
    | 4 | 5 => regDefsPL
    | 6 => regDefsPM
    | 7 => if a ≥ 0x7F0000 then regDefsPL else regDefsPM
    | 8 | 9 | 10 | 11 => regDefsCH
    | 12 | 13 | 14 | 15 => regDefsMC
    | 16 | 17 | 18 | 19 => regDefsQM
    | 20 | 21 | 22 | 23 => regDefsCX
    | 24 | 25 => regDefsHL
    | 26 | 27 => regDefsTN
    | 28 => regDefsBN
    | 29 => regDefsPF
    | 30 => regDefsSV
    | _ => []

/-- The indices of the instance at offset `off` of a group with these dimensions, if there is one there. -/
def dimIndex : List (Nat × Nat) → Nat → Option (List Nat)
  | [], off => if off = 0 then some [] else none
  | (n, st) :: ds, off =>
    if off / st < n then (dimIndex ds (off % st)).map (off / st :: ·) else none

/-- A register found at an address: its group and its indices. -/
structure RegHit where
  rd : RegDef
  idx : List Nat
  deriving DecidableEq, Repr

/-- The first group of a table that has an instance at the address. -/
def findReg : List RegDef → Nat → Option RegHit
  | [], _ => none
  | d :: ds, a =>
    match (if d.base ≤ a then dimIndex d.dims (a - d.base) else none) with
    | some ix => some ⟨d, ix⟩
    | none => findReg ds a

/-- The register at a word-aligned address of the structure map; none where no register is listed (R394, R305). -/
def regAt (a : Nat) : Option RegHit := findReg (regBlock a) a

end Sys2Proof.Machine
end

