-- ==== Sys2Proof/Machine/Factory.lean ====
section
/-! DEFINITION. The factory default structure (R50 and the factory values the register tables state): what every image
field holds while no image has written it (R41), and with the Reset columns what every word of the map holds at reset. -/
namespace Sys2Proof.Machine
open Sys2Proof

/-- The word whose fields have their reset values; an image field has the value of R50's last paragraph. -/
def RegDef.resetWord (rd : RegDef) : Nat := rd.fields.foldl (fun w f => w + f.reset * 2 ^ f.lo) 0

/-- The halfword of FT_MAPk for unit `u`, where the first `live` units are LIVE and carry work `work u` (R50, R380). -/
def mapHalf (live : Nat) (work : Nat → Nat) (u : Nat) : Nat := if u < live then work u + 0x1000 else 0

/-- Two neighbouring halfwords of a SPARE map as one word. -/
def mapWord (live : Nat) (work : Nat → Nat) (j : Nat) : Nat :=
  mapHalf live work (2 * j) + mapHalf live work (2 * j + 1) * 65536

/-- binom(m, 2) for m at least 2, else 0 (R423). -/
def binom2 (m : Int) : Int := if m < 2 then 0 else m * (m - 1) / 2

/-- Coefficient t of the band-A FIR of the factory-default ROM (R423). -/
def romCoef (t : Nat) : Nat :=
  (binom2 (t + 2) - 3 * binom2 (t - 128 + 2) + 3 * binom2 (t - 256 + 2) - binom2 (t - 384 + 2)).toNat

/-- The value of a register word in the factory default structure: `auto` (the reset values) but for these. -/
def factoryWord (r : Reg) (ix : List Nat) (auto : Nat) : Nat :=
  let i := nthD ix 0
  let j := nthD ix 1
  match r with
  | .MD_BOOTCFG => 50 * 256
  | .MD_DOMCFG0 => 0x7
  | .MD_DOMCFG1 => 0x301
  | .FT_MAP0 => mapWord 96 id i
  | .FT_MAP1 => mapWord 96 id i
  | .FT_MAP2 => mapWord 32 id i
  | .FT_MAP3 => mapWord 2048 (fun _ => 0) i
  | .FT_MAP4 => mapWord 64 id i
  | .FT_MAP5 => mapWord 32 id i
  | .FT_MAP6 => mapWord 4 id i
  | .FT_AUDCFG => 100 * 2
  | .TB_REFCFG => 1
  | .TB_UTCOFS => 37
  | .TB_HOLDCFG => 240 + 1000 * 65536
  | .TB_SLEWCFG => 100
  | .TB_MAINSCFG => 25 * 256
  | .QM_QPLACE => 4 * i + 2 * 2 ^ 16 + 2 ^ 20 + (if i = 16383 then 2 ^ 21 else 0)
  | .QM_SHELF => 64 * i + 64 * 2 ^ 14
  | .QM_OPENLIM => 100
  | .HL_WIN0 => if i = 0 then 3 else 0
  | .HL_WIN2 => if i = 0 then 0xFFFFF000 else 0
  | .HL_WIN3 => if i = 0 then 0xFFFFFFFF else 0
  | .HL_SESS2 => if i = 0 then 0x20 else 0
  | .SC_LPCFG => if i < 8 then 1 + 16 + 4 * i * 256 else 0
  | .SC_RFCFG => 2000 * 65536 + (if i < 2 then 1 else 0)
  | .SC_LANECFG => 3 + (if i < 32 then i / 4 else 0x7F) * 2 ^ 24 +
      (if i % 4 ≠ 0 then 0 else if i < 32 then 384 * 256 + 3 * 2 ^ 18 else 256)
  | .SC_LANECOEF => if i < 32 then romCoef (96 * (i % 4) + j) else 0
  | .PL_FGCFG => 8
  | .PL_BANDCFG => 2 ^ 18 + 8 * 2 ^ 28
  | .PL_ACCCFG => 8 + 3 * 16
  | .PL_ACCWIN => 0x3333
  | .PL_BCTHR => 60
  | .PL_ACCQ => if j = 0 ∧ nthD ix 2 = 0 then 4 * i + 2 ^ 14 else 0
  | .PL_CSTHR => 120
  | .PL_RPTCFG => 200
  | .PL_REGIONCFG => 4
  | .CH_PORTCFG => 0x2B + 32 * 2 ^ 10 + 20 * 2 ^ 16
  | .CH_FREQ => if i < 2 then 866650000 else 0
  | .CH_CHEN => if i < 2 then 0x49BFFF7F else 0
  | .CH_SFMASK => if i < 2 then 0xFFFFFFFF else 0
  | .CH_DETCFG => 8
  | .CH_RSSICAL => 65536 - 400
  | .CH_RAMP => 15 + 64 * j + (31 + 64 * j) * 256 + (47 + 64 * j) * 65536 + (63 + 64 * j) * 2 ^ 24
  | .CH_RAMPDUR => 15
  | .MC_SCHEDCFG => 10 + 2 * 2 ^ 10
  | .MC_TIMING => 2 ^ 16
  | .MC_RESPCFG => 1000
  | .MC_GUARDCFG => 500 + 10 * 2 ^ 12 + 200 * 2 ^ 20
  | .MC_ADDRCFG => 1
  | .MC_JOINCFG => 60
  | .MC_PART0 => if i = 0 then 2 ^ 19 else 0
  | .MC_PART1 => if i = 0 then 131072 else 0
  | .MC_PART2 => if i = 0 then 16383 else 0
  | .MC_QMAP => 16000 + 2 * i + (16001 + 2 * i) * 65536
  | .MC_DLQ => 16256 + i + 2 ^ 14
  | .CX_SECCFG => 5 + 6 * 8
  | .CX_ROLLCFG => 1440
  | .CX_DPART0 => if i = 0 then 4096 * 2 ^ 12 + 0xF * 2 ^ 25 else 0
  | .CX_DPART1 => if i = 0 then 0xFFFF else 0
  | .CX_CARDCFG => 1 + 128 * 2 + 2 ^ 11 + 2 ^ 12 + (248 + i) * 2 ^ 13
  | .BN_CFG => 50 * 2 ^ 16 + 10 * 2 ^ 24
  | _ => auto


/-- What a word of the structure map holds at reset and while nothing has written it. -/
def defaultWord (a : Nat) : Word :=
  match regAt a with
  | none => 0
  | some h => BitVec.ofNat 32 (factoryWord h.rd.reg h.idx h.rd.resetWord)

end Sys2Proof.Machine
end

