-- ==== Sys2Proof/Machine/Fields.lean ====
section
/-! DEFINITION. The place of every field of the structure map under the spec's names: `F.QM_QSTAT_OVERRUN q` is field
OVERRUN of QM_QSTATq. An address is written from the register's address formula in its chapter (chapter 16 lists them). -/
namespace Sys2Proof.Machine

/-- A field of the structure map: the word's address and the bits [hi:lo]. -/
structure Fld where
  addr : Nat
  hi : Nat
  lo : Nat
  deriving DecidableEq, Repr

namespace F
/-- The address of MD_ID (R3). -/
abbrev MD_ID : Nat := 0x0
abbrev MD_ID_PART : Fld := ⟨MD_ID, 31, 16⟩
abbrev MD_ID_STEPPING : Fld := ⟨MD_ID, 15, 11⟩
abbrev MD_ID_AUTHBOOT : Fld := ⟨MD_ID, 7, 7⟩
abbrev MD_ID_GRADE : Fld := ⟨MD_ID, 6, 4⟩
/-- The address of MD_STATE (R80). -/
abbrev MD_STATE : Nat := 0x4
abbrev MD_STATE_MODE : Fld := ⟨MD_STATE, 3, 0⟩
abbrev MD_STATE_PREV_MODE : Fld := ⟨MD_STATE, 7, 4⟩
abbrev MD_STATE_TWIN_ACTIVE : Fld := ⟨MD_STATE, 8, 8⟩
abbrev MD_STATE_HOLD : Fld := ⟨MD_STATE, 9, 9⟩
abbrev MD_STATE_WDOG_RUNNING : Fld := ⟨MD_STATE, 10, 10⟩
abbrev MD_STATE_REFUSED : Fld := ⟨MD_STATE, 11, 11⟩
abbrev MD_STATE_DEF_TX : Fld := ⟨MD_STATE, 12, 12⟩
abbrev MD_STATE_WDOG_LEFT : Fld := ⟨MD_STATE, 31, 16⟩
/-- The address of MD_RESETCAUSE (R80). -/
abbrev MD_RESETCAUSE : Nat := 0x8
abbrev MD_RESETCAUSE_CAUSE : Fld := ⟨MD_RESETCAUSE, 2, 0⟩
abbrev MD_RESETCAUSE_GRACEFUL : Fld := ⟨MD_RESETCAUSE, 3, 3⟩
abbrev MD_RESETCAUSE_HOST_LOAD : Fld := ⟨MD_RESETCAUSE, 4, 4⟩
abbrev MD_RESETCAUSE_SEEN : Fld := ⟨MD_RESETCAUSE, 11, 8⟩
/-- The address of MD_MODECTL (R80). -/
abbrev MD_MODECTL : Nat := 0xc
abbrev MD_MODECTL_REQ : Fld := ⟨MD_MODECTL, 3, 0⟩
/-- The address of MD_OPTAG (R25). -/
abbrev MD_OPTAG : Nat := 0x40
abbrev MD_OPTAG_IN_FLIGHT : Fld := ⟨MD_OPTAG, 13, 0⟩
abbrev MD_OPTAG_HIGH_WATER : Fld := ⟨MD_OPTAG, 29, 16⟩
abbrev MD_OPTAG_HW_CLEAR : Fld := ⟨MD_OPTAG, 31, 31⟩
/-- The address of MD_OPSTALL (R26). -/
abbrev MD_OPSTALL : Nat := 0x44
abbrev MD_OPSTALL_DMA : Fld := ⟨MD_OPSTALL, 15, 0⟩
abbrev MD_OPSTALL_BENCH : Fld := ⟨MD_OPSTALL, 31, 16⟩
/-- The address of MD_DOMCTL (R80). -/
abbrev MD_DOMCTL : Nat := 0x50
abbrev MD_DOMCTL_DRAIN_LIMIT : Fld := ⟨MD_DOMCTL, 15, 0⟩
/-- The address of MD_DOMSTAT (R80). -/
abbrev MD_DOMSTAT (i : Nat) : Nat := 0x60 + 4 * i
abbrev MD_DOMSTAT_STATE0 (i : Nat) : Fld := ⟨MD_DOMSTAT i, 3, 0⟩
abbrev MD_DOMSTAT_STATE1 (i : Nat) : Fld := ⟨MD_DOMSTAT i, 7, 4⟩
abbrev MD_DOMSTAT_STATE2 (i : Nat) : Fld := ⟨MD_DOMSTAT i, 11, 8⟩
abbrev MD_DOMSTAT_STATE3 (i : Nat) : Fld := ⟨MD_DOMSTAT i, 15, 12⟩
abbrev MD_DOMSTAT_STATE4 (i : Nat) : Fld := ⟨MD_DOMSTAT i, 19, 16⟩
abbrev MD_DOMSTAT_STATE5 (i : Nat) : Fld := ⟨MD_DOMSTAT i, 23, 20⟩
abbrev MD_DOMSTAT_STATE6 (i : Nat) : Fld := ⟨MD_DOMSTAT i, 27, 24⟩
abbrev MD_DOMSTAT_STATE7 (i : Nat) : Fld := ⟨MD_DOMSTAT i, 31, 28⟩
/-- The address of MD_ABORTINFO (R80). -/
abbrev MD_ABORTINFO : Nat := 0x78
abbrev MD_ABORTINFO_LENGTH : Fld := ⟨MD_ABORTINFO, 13, 0⟩
abbrev MD_ABORTINFO_OVERFLOW : Fld := ⟨MD_ABORTINFO, 15, 15⟩
abbrev MD_ABORTINFO_EPOCH : Fld := ⟨MD_ABORTINFO, 31, 16⟩
/-- The address of MD_BOOTCFG (R80). -/
abbrev MD_BOOTCFG : Nat := 0x100
abbrev MD_BOOTCFG_HOLD_STANDBY : Fld := ⟨MD_BOOTCFG, 0, 0⟩
abbrev MD_BOOTCFG_START_QUIET : Fld := ⟨MD_BOOTCFG, 1, 1⟩
abbrev MD_BOOTCFG_TWIN_ROLE : Fld := ⟨MD_BOOTCFG, 3, 2⟩
abbrev MD_BOOTCFG_TWIN_MISS : Fld := ⟨MD_BOOTCFG, 7, 4⟩
abbrev MD_BOOTCFG_WDOG : Fld := ⟨MD_BOOTCFG, 15, 8⟩
/-- The address of MD_DOMCFG0 (R80). -/
abbrev MD_DOMCFG0 : Nat := 0x104
abbrev MD_DOMCFG0_FG : Fld := ⟨MD_DOMCFG0, 31, 0⟩
/-- The address of MD_DOMCFG1 (R80). -/
abbrev MD_DOMCFG1 : Nat := 0x108
abbrev MD_DOMCFG1_RFD : Fld := ⟨MD_DOMCFG1, 7, 0⟩
abbrev MD_DOMCFG1_CHC : Fld := ⟨MD_DOMCFG1, 8, 8⟩
abbrev MD_DOMCFG1_CPH : Fld := ⟨MD_DOMCFG1, 9, 9⟩
abbrev MD_DOMCFG1_BPL : Fld := ⟨MD_DOMCFG1, 10, 10⟩
/-- The address of MD_ABORTLIST (R80). -/
abbrev MD_ABORTLIST (i : Nat) : Nat := 0x4000 + 4 * i
abbrev MD_ABORTLIST_TAG0 (i : Nat) : Fld := ⟨MD_ABORTLIST i, 12, 0⟩
abbrev MD_ABORTLIST_TAG1 (i : Nat) : Fld := ⟨MD_ABORTLIST i, 28, 16⟩
/-- The address of CF_STATUS (R51). -/
abbrev CF_STATUS : Nat := 0x1000
abbrev CF_STATUS_DEFAULTED : Fld := ⟨CF_STATUS, 0, 0⟩
abbrev CF_STATUS_SIGNED : Fld := ⟨CF_STATUS, 1, 1⟩
abbrev CF_STATUS_KEYMATCH : Fld := ⟨CF_STATUS, 2, 2⟩
abbrev CF_STATUS_SOURCE : Fld := ⟨CF_STATUS, 3, 3⟩
abbrev CF_STATUS_CAUSE : Fld := ⟨CF_STATUS, 7, 4⟩
abbrev CF_STATUS_FAILTYPE : Fld := ⟨CF_STATUS, 15, 8⟩
/-- The address of CF_IMAGEID (R52). -/
abbrev CF_IMAGEID : Nat := 0x1004
abbrev CF_IMAGEID_ID : Fld := ⟨CF_IMAGEID, 31, 0⟩
/-- The address of CF_SEQ (R52). -/
abbrev CF_SEQ : Nat := 0x1008
abbrev CF_SEQ_SEQ : Fld := ⟨CF_SEQ, 31, 0⟩
/-- The address of CF_STREFUSED (R52). -/
abbrev CF_STREFUSED : Nat := 0x100c
abbrev CF_STREFUSED_COUNT : Fld := ⟨CF_STREFUSED, 15, 0⟩
/-- The address of CF_AMEND (R52). -/
abbrev CF_AMEND : Nat := 0x1010
abbrev CF_AMEND_APPLIED : Fld := ⟨CF_AMEND, 15, 0⟩
abbrev CF_AMEND_REFUSED : Fld := ⟨CF_AMEND, 31, 16⟩
/-- The address of CF_KEYSTAGE (R52). -/
abbrev CF_KEYSTAGE (i : Nat) : Nat := 0x1040 + 4 * i
abbrev CF_KEYSTAGE_DIGEST (i : Nat) : Fld := ⟨CF_KEYSTAGE i, 31, 0⟩
/-- The address of CF_FUSEKEY (R52). -/
abbrev CF_FUSEKEY (i : Nat) : Nat := 0x1080 + 4 * i
abbrev CF_FUSEKEY_DIGEST (i : Nat) : Fld := ⟨CF_FUSEKEY i, 31, 0⟩
/-- The address of CF_FUSECTL (R52). -/
abbrev CF_FUSECTL : Nat := 0x10c0
abbrev CF_FUSECTL_CODE : Fld := ⟨CF_FUSECTL, 15, 0⟩
abbrev CF_FUSECTL_ARMED : Fld := ⟨CF_FUSECTL, 16, 16⟩
abbrev CF_FUSECTL_BUSY : Fld := ⟨CF_FUSECTL, 17, 17⟩
abbrev CF_FUSECTL_DONE : Fld := ⟨CF_FUSECTL, 18, 18⟩
abbrev CF_FUSECTL_REFUSED : Fld := ⟨CF_FUSECTL, 19, 19⟩
/-- The address of FT_MAP0 (R393). -/
abbrev FT_MAP0 (i : Nat) : Nat := 0x2000 + 4 * i
abbrev FT_MAP0_LOGICAL0 (i : Nat) : Fld := ⟨FT_MAP0 i, 11, 0⟩
abbrev FT_MAP0_ROLE0 (i : Nat) : Fld := ⟨FT_MAP0 i, 13, 12⟩
abbrev FT_MAP0_LOGICAL1 (i : Nat) : Fld := ⟨FT_MAP0 i, 27, 16⟩
abbrev FT_MAP0_ROLE1 (i : Nat) : Fld := ⟨FT_MAP0 i, 29, 28⟩
/-- The address of FT_MAP1 (R393). -/
abbrev FT_MAP1 (i : Nat) : Nat := 0x2100 + 4 * i
abbrev FT_MAP1_LOGICAL0 (i : Nat) : Fld := ⟨FT_MAP1 i, 11, 0⟩
abbrev FT_MAP1_ROLE0 (i : Nat) : Fld := ⟨FT_MAP1 i, 13, 12⟩
abbrev FT_MAP1_LOGICAL1 (i : Nat) : Fld := ⟨FT_MAP1 i, 27, 16⟩
abbrev FT_MAP1_ROLE1 (i : Nat) : Fld := ⟨FT_MAP1 i, 29, 28⟩
/-- The address of FT_MAP2 (R393). -/
abbrev FT_MAP2 (i : Nat) : Nat := 0x2200 + 4 * i
abbrev FT_MAP2_LOGICAL0 (i : Nat) : Fld := ⟨FT_MAP2 i, 11, 0⟩
abbrev FT_MAP2_ROLE0 (i : Nat) : Fld := ⟨FT_MAP2 i, 13, 12⟩
abbrev FT_MAP2_LOGICAL1 (i : Nat) : Fld := ⟨FT_MAP2 i, 27, 16⟩
abbrev FT_MAP2_ROLE1 (i : Nat) : Fld := ⟨FT_MAP2 i, 29, 28⟩
/-- The address of FT_MAP4 (R393). -/
abbrev FT_MAP4 (i : Nat) : Nat := 0x2280 + 4 * i
abbrev FT_MAP4_LOGICAL0 (i : Nat) : Fld := ⟨FT_MAP4 i, 11, 0⟩
abbrev FT_MAP4_ROLE0 (i : Nat) : Fld := ⟨FT_MAP4 i, 13, 12⟩
abbrev FT_MAP4_LOGICAL1 (i : Nat) : Fld := ⟨FT_MAP4 i, 27, 16⟩
abbrev FT_MAP4_ROLE1 (i : Nat) : Fld := ⟨FT_MAP4 i, 29, 28⟩
/-- The address of FT_MAP5 (R393). -/
abbrev FT_MAP5 (i : Nat) : Nat := 0x2310 + 4 * i
abbrev FT_MAP5_LOGICAL0 (i : Nat) : Fld := ⟨FT_MAP5 i, 11, 0⟩
abbrev FT_MAP5_ROLE0 (i : Nat) : Fld := ⟨FT_MAP5 i, 13, 12⟩
abbrev FT_MAP5_LOGICAL1 (i : Nat) : Fld := ⟨FT_MAP5 i, 27, 16⟩
abbrev FT_MAP5_ROLE1 (i : Nat) : Fld := ⟨FT_MAP5 i, 29, 28⟩
/-- The address of FT_MAP6 (R393). -/
abbrev FT_MAP6 (i : Nat) : Nat := 0x2380 + 4 * i
abbrev FT_MAP6_LOGICAL0 (i : Nat) : Fld := ⟨FT_MAP6 i, 11, 0⟩
abbrev FT_MAP6_ROLE0 (i : Nat) : Fld := ⟨FT_MAP6 i, 13, 12⟩
abbrev FT_MAP6_LOGICAL1 (i : Nat) : Fld := ⟨FT_MAP6 i, 27, 16⟩
abbrev FT_MAP6_ROLE1 (i : Nat) : Fld := ⟨FT_MAP6 i, 29, 28⟩
/-- The address of FT_MAP6_LAST (R393). -/
abbrev FT_MAP6_LAST : Nat := 0x2388
abbrev FT_MAP6_LAST_LOGICAL0 : Fld := ⟨FT_MAP6_LAST, 11, 0⟩
abbrev FT_MAP6_LAST_ROLE0 : Fld := ⟨FT_MAP6_LAST, 13, 12⟩
/-- The address of FT_MAP3 (R393). -/
abbrev FT_MAP3 (i : Nat) : Nat := 0x2400 + 4 * i
abbrev FT_MAP3_LOGICAL0 (i : Nat) : Fld := ⟨FT_MAP3 i, 11, 0⟩
abbrev FT_MAP3_ROLE0 (i : Nat) : Fld := ⟨FT_MAP3 i, 13, 12⟩
abbrev FT_MAP3_LOGICAL1 (i : Nat) : Fld := ⟨FT_MAP3 i, 27, 16⟩
abbrev FT_MAP3_ROLE1 (i : Nat) : Fld := ⟨FT_MAP3 i, 29, 28⟩
/-- The address of FT_AUDCFG (R393). -/
abbrev FT_AUDCFG (i : Nat) : Nat := 0x3f00 + 4 * i
abbrev FT_AUDCFG_EN (i : Nat) : Fld := ⟨FT_AUDCFG i, 0, 0⟩
abbrev FT_AUDCFG_DWELL (i : Nat) : Fld := ⟨FT_AUDCFG i, 16, 1⟩
/-- The address of FT_CFG (R393). -/
abbrev FT_CFG : Nat := 0x8000
abbrev FT_CFG_AUTOCLOSE : Fld := ⟨FT_CFG, 15, 0⟩
abbrev FT_CFG_AUTOSPARE : Fld := ⟨FT_CFG, 16, 16⟩
/-- The address of FT_LOGSTAT (R393). -/
abbrev FT_LOGSTAT : Nat := 0x8004
abbrev FT_LOGSTAT_OPEN : Fld := ⟨FT_LOGSTAT, 8, 0⟩
abbrev FT_LOGSTAT_REPLACED : Fld := ⟨FT_LOGSTAT, 31, 16⟩
/-- The address of FT_LOGPOS (R393). -/
abbrev FT_LOGPOS : Nat := 0x8008
abbrev FT_LOGPOS_NEWEST : Fld := ⟨FT_LOGPOS, 7, 0⟩
abbrev FT_LOGPOS_SEQ : Fld := ⟨FT_LOGPOS, 31, 16⟩
/-- The address of FT_AGGSTAT (R393). -/
abbrev FT_AGGSTAT : Nat := 0x800c
abbrev FT_AGGSTAT_SPANS : Fld := ⟨FT_AGGSTAT, 6, 0⟩
abbrev FT_AGGSTAT_NOSPAN : Fld := ⟨FT_AGGSTAT, 31, 16⟩
/-- The address of FT_AUDSTAT (R393). -/
abbrev FT_AUDSTAT (i : Nat) : Nat := 0x8020 + 4 * i
abbrev FT_AUDSTAT_LIVE (i : Nat) : Fld := ⟨FT_AUDSTAT i, 11, 0⟩
abbrev FT_AUDSTAT_SPARE (i : Nat) : Fld := ⟨FT_AUDSTAT i, 23, 12⟩
abbrev FT_AUDSTAT_ACTIVE (i : Nat) : Fld := ⟨FT_AUDSTAT i, 24, 24⟩
abbrev FT_AUDSTAT_MISMATCH (i : Nat) : Fld := ⟨FT_AUDSTAT i, 31, 25⟩
/-- The address of FT_AUDPASS (R393). -/
abbrev FT_AUDPASS (i : Nat) : Nat := 0x8040 + 4 * i
abbrev FT_AUDPASS_PASSES (i : Nat) : Fld := ⟨FT_AUDPASS i, 15, 0⟩
/-- The address of FT_LOG (R374). -/
abbrev FT_LOG (i j : Nat) : Nat := 0xa000 + 32 * i + 4 * j
abbrev FT_LOG_WORD (i j : Nat) : Fld := ⟨FT_LOG i j, 31, 0⟩
/-- The address of TB_NOW_LO (R111). -/
abbrev TB_NOW_LO : Nat := 0x100000
abbrev TB_NOW_LO_NOW : Fld := ⟨TB_NOW_LO, 31, 0⟩
/-- The address of TB_NOW_HI (R111). -/
abbrev TB_NOW_HI : Nat := 0x100004
abbrev TB_NOW_HI_NOW : Fld := ⟨TB_NOW_HI, 31, 0⟩
/-- The address of TB_NOW_FRAC (R111). -/
abbrev TB_NOW_FRAC : Nat := 0x100008
abbrev TB_NOW_FRAC_FRAC : Fld := ⟨TB_NOW_FRAC, 15, 0⟩
/-- The address of TB_STATUS (R111). -/
abbrev TB_STATUS : Nat := 0x10000c
abbrev TB_STATUS_REFSTATE : Fld := ⟨TB_STATUS, 2, 0⟩
abbrev TB_STATUS_TIME_VALID : Fld := ⟨TB_STATUS, 3, 3⟩
abbrev TB_STATUS_EXPIRED : Fld := ⟨TB_STATUS, 4, 4⟩
abbrev TB_STATUS_ACTIVE_PPS : Fld := ⟨TB_STATUS, 5, 5⟩
abbrev TB_STATUS_REJECTED : Fld := ⟨TB_STATUS, 6, 6⟩
abbrev TB_STATUS_SLEWING : Fld := ⟨TB_STATUS, 7, 7⟩
abbrev TB_STATUS_MAINS_OK : Fld := ⟨TB_STATUS, 8, 8⟩
/-- The address of TB_FREQOFS (R111). -/
abbrev TB_FREQOFS : Nat := 0x100010
abbrev TB_FREQOFS_OFS : Fld := ⟨TB_FREQOFS, 31, 0⟩
/-- The address of TB_PHASEERR (R111). -/
abbrev TB_PHASEERR : Nat := 0x100014
abbrev TB_PHASEERR_ERR : Fld := ⟨TB_PHASEERR, 31, 0⟩
/-- The address of TB_REFCFG (R111). -/
abbrev TB_REFCFG : Nat := 0x100020
abbrev TB_REFCFG_SEL : Fld := ⟨TB_REFCFG, 2, 0⟩
abbrev TB_REFCFG_PPS_EDGE : Fld := ⟨TB_REFCFG, 3, 3⟩
abbrev TB_REFCFG_TOD_LABEL : Fld := ⟨TB_REFCFG, 4, 4⟩
abbrev TB_REFCFG_TOD_BAUD : Fld := ⟨TB_REFCFG, 7, 5⟩
abbrev TB_REFCFG_LOOP_BW : Fld := ⟨TB_REFCFG, 9, 8⟩
abbrev TB_REFCFG_ACQ_WAIT : Fld := ⟨TB_REFCFG, 15, 12⟩
/-- The address of TB_PPSCOMP (R111). -/
abbrev TB_PPSCOMP : Nat := 0x100028
abbrev TB_PPSCOMP_DELAY0 : Fld := ⟨TB_PPSCOMP, 15, 0⟩
abbrev TB_PPSCOMP_DELAY1 : Fld := ⟨TB_PPSCOMP, 31, 16⟩
/-- The address of TB_UTCOFS (R111). -/
abbrev TB_UTCOFS : Nat := 0x100030
abbrev TB_UTCOFS_OFS : Fld := ⟨TB_UTCOFS, 7, 0⟩
/-- The address of TB_HOLDCFG (R111). -/
abbrev TB_HOLDCFG : Nat := 0x100034
abbrev TB_HOLDCFG_LIMIT : Fld := ⟨TB_HOLDCFG, 15, 0⟩
abbrev TB_HOLDCFG_STEP_LIMIT : Fld := ⟨TB_HOLDCFG, 31, 16⟩
/-- The address of TB_SLEWCFG (R111). -/
abbrev TB_SLEWCFG : Nat := 0x100038
abbrev TB_SLEWCFG_MAXRATE : Fld := ⟨TB_SLEWCFG, 7, 0⟩
/-- The address of TB_SETTIME_LO (R111). -/
abbrev TB_SETTIME_LO : Nat := 0x10003c
abbrev TB_SETTIME_LO_TIME : Fld := ⟨TB_SETTIME_LO, 31, 0⟩
/-- The address of TB_SETTIME_HI (R111). -/
abbrev TB_SETTIME_HI : Nat := 0x100040
abbrev TB_SETTIME_HI_TIME : Fld := ⟨TB_SETTIME_HI, 31, 0⟩
/-- The address of TB_STEPCTL (R111). -/
abbrev TB_STEPCTL : Nat := 0x100044
abbrev TB_STEPCTL_SET : Fld := ⟨TB_STEPCTL, 0, 0⟩
abbrev TB_STEPCTL_ACCEPT : Fld := ⟨TB_STEPCTL, 1, 1⟩
/-- The address of TB_LATCHSTAT (R111). -/
abbrev TB_LATCHSTAT : Nat := 0x100048
abbrev TB_LATCHSTAT_EVICTIONS : Fld := ⟨TB_LATCHSTAT, 15, 0⟩
/-- The address of TB_BENCHASYM (R111). -/
abbrev TB_BENCHASYM : Nat := 0x100050
abbrev TB_BENCHASYM_EAST : Fld := ⟨TB_BENCHASYM, 15, 0⟩
abbrev TB_BENCHASYM_WEST : Fld := ⟨TB_BENCHASYM, 31, 16⟩
/-- The address of TB_BENCHDLY (R111). -/
abbrev TB_BENCHDLY : Nat := 0x100054
abbrev TB_BENCHDLY_DELAY : Fld := ⟨TB_BENCHDLY, 23, 0⟩
/-- The address of TB_LQSTAT (R111). -/
abbrev TB_LQSTAT : Nat := 0x100060
abbrev TB_LQSTAT_PENDING : Fld := ⟨TB_LQSTAT, 11, 0⟩
abbrev TB_LQSTAT_REFUSED : Fld := ⟨TB_LQSTAT, 31, 16⟩
/-- The address of TB_LQMISS (R111). -/
abbrev TB_LQMISS : Nat := 0x100064
abbrev TB_LQMISS_LATE : Fld := ⟨TB_LQMISS, 15, 0⟩
abbrev TB_LQMISS_MISSED : Fld := ⟨TB_LQMISS, 31, 16⟩
/-- The address of TB_MAINSCFG (R111). -/
abbrev TB_MAINSCFG : Nat := 0x100080
abbrev TB_MAINSCFG_NOMINAL : Fld := ⟨TB_MAINSCFG, 0, 0⟩
abbrev TB_MAINSCFG_COAST : Fld := ⟨TB_MAINSCFG, 15, 8⟩
/-- The address of TB_EVTCFG (R111). -/
abbrev TB_EVTCFG (i : Nat) : Nat := 0x100100 + 4 * i
abbrev TB_EVTCFG_DIR (i : Nat) : Fld := ⟨TB_EVTCFG i, 0, 0⟩
abbrev TB_EVTCFG_CAPTURE (i : Nat) : Fld := ⟨TB_EVTCFG i, 2, 1⟩
/-- The address of TB_MANGLE (R111). -/
abbrev TB_MANGLE (i : Nat) : Nat := 0x101000 + 16 * i
abbrev TB_MANGLE_ANGLE (i : Nat) : Fld := ⟨TB_MANGLE i, 15, 0⟩
abbrev TB_MANGLE_STATE (i : Nat) : Fld := ⟨TB_MANGLE i, 17, 16⟩
/-- The address of TB_MFREQ (R111). -/
abbrev TB_MFREQ (i : Nat) : Nat := 0x101004 + 16 * i
abbrev TB_MFREQ_FREQ (i : Nat) : Fld := ⟨TB_MFREQ i, 16, 0⟩
/-- The address of TB_MZC_LO (R111). -/
abbrev TB_MZC_LO (i : Nat) : Nat := 0x101008 + 16 * i
abbrev TB_MZC_LO_ZC (i : Nat) : Fld := ⟨TB_MZC_LO i, 31, 0⟩
/-- The address of TB_MZC_HI (R111). -/
abbrev TB_MZC_HI (i : Nat) : Nat := 0x10100c + 16 * i
abbrev TB_MZC_HI_ZC (i : Nat) : Fld := ⟨TB_MZC_HI i, 31, 0⟩
/-- The address of SC_LPCFG (R139). -/
abbrev SC_LPCFG (i : Nat) : Nat := 0x200000 + 1024 * i
abbrev SC_LPCFG_ACTIVE (i : Nat) : Fld := ⟨SC_LPCFG i, 0, 0⟩
abbrev SC_LPCFG_PRESET (i : Nat) : Fld := ⟨SC_LPCFG i, 2, 1⟩
abbrev SC_LPCFG_BANDS (i : Nat) : Fld := ⟨SC_LPCFG i, 7, 4⟩
abbrev SC_LPCFG_LANE (i : Nat) : Fld := ⟨SC_LPCFG i, 14, 8⟩
abbrev SC_LPCFG_RXGAIN_DEF (i : Nat) : Fld := ⟨SC_LPCFG i, 19, 16⟩
abbrev SC_LPCFG_TXATT_DEF (i : Nat) : Fld := ⟨SC_LPCFG i, 28, 24⟩
/-- The address of SC_LPDLY (R139). -/
abbrev SC_LPDLY (i : Nat) : Nat := 0x200004 + 1024 * i
abbrev SC_LPDLY_DELAY (i : Nat) : Fld := ⟨SC_LPDLY i, 11, 0⟩
abbrev SC_LPDLY_FRAC (i : Nat) : Fld := ⟨SC_LPDLY i, 17, 12⟩
/-- The address of SC_LPGAIN (R139). -/
abbrev SC_LPGAIN (i : Nat) : Nat := 0x200008 + 1024 * i
abbrev SC_LPGAIN_RXGAIN (i : Nat) : Fld := ⟨SC_LPGAIN i, 3, 0⟩
abbrev SC_LPGAIN_TXATT (i : Nat) : Fld := ⟨SC_LPGAIN i, 12, 8⟩
/-- The address of SC_LPSTAT (R139). -/
abbrev SC_LPSTAT (i : Nat) : Nat := 0x20000c + 1024 * i
abbrev SC_LPSTAT_OVL (i : Nat) : Fld := ⟨SC_LPSTAT i, 15, 0⟩
abbrev SC_LPSTAT_CAPDROP (i : Nat) : Fld := ⟨SC_LPSTAT i, 31, 16⟩
/-- The address of SC_LPCAP (R139). -/
abbrev SC_LPCAP (i : Nat) : Nat := 0x200010 + 1024 * i
abbrev SC_LPCAP_QUEUE (i : Nat) : Fld := ⟨SC_LPCAP i, 13, 0⟩
abbrev SC_LPCAP_EN (i : Nat) : Fld := ⟨SC_LPCAP i, 31, 31⟩
/-- The address of SC_RFCFG (R139). -/
abbrev SC_RFCFG (i : Nat) : Nat := 0x220000 + 2048 * i
abbrev SC_RFCFG_ACTIVE (i : Nat) : Fld := ⟨SC_RFCFG i, 0, 0⟩
abbrev SC_RFCFG_CHMODE (i : Nat) : Fld := ⟨SC_RFCFG i, 2, 1⟩
abbrev SC_RFCFG_FELAT (i : Nat) : Fld := ⟨SC_RFCFG i, 31, 16⟩
/-- The address of SC_RFSTAT (R139). -/
abbrev SC_RFSTAT (i : Nat) : Nat := 0x220004 + 2048 * i
abbrev SC_RFSTAT_STATE (i : Nat) : Fld := ⟨SC_RFSTAT i, 1, 0⟩
abbrev SC_RFSTAT_CRCERR (i : Nat) : Fld := ⟨SC_RFSTAT i, 31, 16⟩
/-- The address of SC_RFCNT_LO (R139). -/
abbrev SC_RFCNT_LO (i : Nat) : Nat := 0x220008 + 2048 * i
abbrev SC_RFCNT_LO_CNT (i : Nat) : Fld := ⟨SC_RFCNT_LO i, 31, 0⟩
/-- The address of SC_RFCNT_HI (R139). -/
abbrev SC_RFCNT_HI (i : Nat) : Nat := 0x22000c + 2048 * i
abbrev SC_RFCNT_HI_CNT (i : Nat) : Fld := ⟨SC_RFCNT_HI i, 31, 0⟩
/-- The address of SC_RFERR (R139). -/
abbrev SC_RFERR (i : Nat) : Nat := 0x220010 + 2048 * i
abbrev SC_RFERR_GAPS (i : Nat) : Fld := ⟨SC_RFERR i, 15, 0⟩
abbrev SC_RFERR_LATE (i : Nat) : Fld := ⟨SC_RFERR i, 31, 16⟩
/-- The address of SC_RFCSTAT (R139). -/
abbrev SC_RFCSTAT (i : Nat) : Nat := 0x220020 + 4096 * i
abbrev SC_RFCSTAT_MISSED (i : Nat) : Fld := ⟨SC_RFCSTAT i, 7, 0⟩
abbrev SC_RFCSTAT_NAK (i : Nat) : Fld := ⟨SC_RFCSTAT i, 15, 8⟩
abbrev SC_RFCSTAT_TIMEOUT (i : Nat) : Fld := ⟨SC_RFCSTAT i, 23, 16⟩
abbrev SC_RFCSTAT_RETRY (i : Nat) : Fld := ⟨SC_RFCSTAT i, 31, 24⟩
/-- The address of SC_LANECFG (R139). -/
abbrev SC_LANECFG (i : Nat) : Nat := 0x230000 + 512 * i
abbrev SC_LANECFG_ORDER (i : Nat) : Fld := ⟨SC_LANECFG i, 2, 0⟩
abbrev SC_LANECFG_TAPS (i : Nat) : Fld := ⟨SC_LANECFG i, 16, 8⟩
abbrev SC_LANECFG_SHIFT (i : Nat) : Fld := ⟨SC_LANECFG i, 23, 18⟩
abbrev SC_LANECFG_PORT (i : Nat) : Fld := ⟨SC_LANECFG i, 30, 24⟩
/-- The address of SC_LANECTL (R139). -/
abbrev SC_LANECTL (i : Nat) : Nat := 0x230004 + 512 * i
abbrev SC_LANECTL_RUN (i : Nat) : Fld := ⟨SC_LANECTL i, 0, 0⟩
/-- The address of SC_LANESTAT (R139). -/
abbrev SC_LANESTAT (i : Nat) : Nat := 0x230008 + 512 * i
abbrev SC_LANESTAT_PARERR (i : Nat) : Fld := ⟨SC_LANESTAT i, 0, 0⟩
abbrev SC_LANESTAT_SAT (i : Nat) : Fld := ⟨SC_LANESTAT i, 31, 16⟩
/-- The address of SC_LANECOEF (R139). -/
abbrev SC_LANECOEF (i j : Nat) : Nat := 0x230080 + 512 * i + 4 * j
abbrev SC_LANECOEF_COEF (i j : Nat) : Fld := ⟨SC_LANECOEF i j, 19, 0⟩
/-- The address of SC_STATUS (R139). -/
abbrev SC_STATUS : Nat := 0x23f000
abbrev SC_STATUS_CLASS : Fld := ⟨SC_STATUS, 0, 0⟩
abbrev SC_STATUS_ACTIVE_LINE : Fld := ⟨SC_STATUS, 14, 8⟩
abbrev SC_STATUS_ACTIVE_RF : Fld := ⟨SC_STATUS, 21, 16⟩
/-- The address of PL_FGCFG (R166). -/
abbrev PL_FGCFG (i : Nat) : Nat := 0x400000 + 16 * i
abbrev PL_FGCFG_COUPLING (i : Nat) : Fld := ⟨PL_FGCFG i, 0, 0⟩
abbrev PL_FGCFG_TXPHASE (i : Nat) : Fld := ⟨PL_FGCFG i, 2, 1⟩
abbrev PL_FGCFG_COMB (i : Nat) : Fld := ⟨PL_FGCFG i, 4, 3⟩
abbrev PL_FGCFG_PHOFS1 (i : Nat) : Fld := ⟨PL_FGCFG i, 13, 8⟩
abbrev PL_FGCFG_PHOFS2 (i : Nat) : Fld := ⟨PL_FGCFG i, 21, 16⟩
abbrev PL_FGCFG_PHOFS3 (i : Nat) : Fld := ⟨PL_FGCFG i, 29, 24⟩
/-- The address of PL_BLANK (R166). -/
abbrev PL_BLANK (i j : Nat) : Nat := 0x401000 + 16 * i + 4 * j
abbrev PL_BLANK_START (i j : Nat) : Fld := ⟨PL_BLANK i j, 15, 0⟩
abbrev PL_BLANK_LEN (i j : Nat) : Fld := ⟨PL_BLANK i j, 27, 16⟩
abbrev PL_BLANK_EN (i j : Nat) : Fld := ⟨PL_BLANK i j, 31, 31⟩
/-- The address of PL_PORTLIVE (R166). -/
abbrev PL_PORTLIVE (i : Nat) : Nat := 0x401008 + 16 * i
abbrev PL_PORTLIVE_LIVE (i : Nat) : Fld := ⟨PL_PORTLIVE i, 3, 0⟩
/-- The address of PL_PORTSTAT (R166). -/
abbrev PL_PORTSTAT (i : Nat) : Nat := 0x40100c + 16 * i
abbrev PL_PORTSTAT_CLIP (i : Nat) : Fld := ⟨PL_PORTSTAT i, 15, 0⟩
/-- The address of PL_BANDCFG (R166). -/
abbrev PL_BANDCFG (i j : Nat) : Nat := 0x410000 + 256 * i + 64 * j
abbrev PL_BANDCFG_ANGLE (i j : Nat) : Fld := ⟨PL_BANDCFG i j, 15, 0⟩
abbrev PL_BANDCFG_ANGLE_EN (i j : Nat) : Fld := ⟨PL_BANDCFG i j, 16, 16⟩
abbrev PL_BANDCFG_SNRMAP (i j : Nat) : Fld := ⟨PL_BANDCFG i j, 17, 17⟩
abbrev PL_BANDCFG_DEFMODE (i j : Nat) : Fld := ⟨PL_BANDCFG i j, 20, 18⟩
abbrev PL_BANDCFG_TXLVL (i j : Nat) : Fld := ⟨PL_BANDCFG i j, 26, 22⟩
abbrev PL_BANDCFG_DETTHR (i j : Nat) : Fld := ⟨PL_BANDCFG i j, 31, 28⟩
/-- The address of PL_RXCNT (R166). -/
abbrev PL_RXCNT (i j : Nat) : Nat := 0x410004 + 256 * i + 64 * j
abbrev PL_RXCNT_DETECT (i j : Nat) : Fld := ⟨PL_RXCNT i j, 15, 0⟩
abbrev PL_RXCNT_OK (i j : Nat) : Fld := ⟨PL_RXCNT i j, 31, 16⟩
/-- The address of PL_RXERR (R166). -/
abbrev PL_RXERR (i j : Nat) : Nat := 0x410008 + 256 * i + 64 * j
abbrev PL_RXERR_HDRFAIL (i j : Nat) : Fld := ⟨PL_RXERR i j, 15, 0⟩
abbrev PL_RXERR_RSFAIL (i j : Nat) : Fld := ⟨PL_RXERR i j, 31, 16⟩
/-- The address of PL_RXQUAL (R166). -/
abbrev PL_RXQUAL (i j : Nat) : Nat := 0x41000c + 256 * i + 64 * j
abbrev PL_RXQUAL_LQI (i j : Nat) : Fld := ⟨PL_RXQUAL i j, 7, 0⟩
abbrev PL_RXQUAL_MEAN_SNR (i j : Nat) : Fld := ⟨PL_RXQUAL i j, 15, 8⟩
abbrev PL_RXQUAL_STATE (i j : Nat) : Fld := ⟨PL_RXQUAL i j, 18, 16⟩
/-- The address of PL_RXLOSS (R166). -/
abbrev PL_RXLOSS (i j : Nat) : Nat := 0x410010 + 256 * i + 64 * j
abbrev PL_RXLOSS_PREEMPT (i j : Nat) : Fld := ⟨PL_RXLOSS i j, 15, 0⟩
abbrev PL_RXLOSS_FALSEDET (i j : Nat) : Fld := ⟨PL_RXLOSS i j, 31, 16⟩
/-- The address of PL_TXCNT (R166). -/
abbrev PL_TXCNT (i j : Nat) : Nat := 0x410014 + 256 * i + 64 * j
abbrev PL_TXCNT_SENT (i j : Nat) : Fld := ⟨PL_TXCNT i j, 15, 0⟩
abbrev PL_TXCNT_REFUSED (i j : Nat) : Fld := ⟨PL_TXCNT i j, 31, 16⟩
/-- The address of PL_CORR (R166). -/
abbrev PL_CORR (i j : Nat) : Nat := 0x410018 + 256 * i + 64 * j
abbrev PL_CORR_RSCORR (i j : Nat) : Fld := ⟨PL_CORR i j, 15, 0⟩
abbrev PL_CORR_ERASED (i j : Nat) : Fld := ⟨PL_CORR i j, 31, 16⟩
/-- The address of PL_ACCCFG (R193). -/
abbrev PL_ACCCFG (i : Nat) : Nat := 0x600000 + 32 * i
abbrev PL_ACCCFG_DISC (i : Nat) : Fld := ⟨PL_ACCCFG i, 1, 0⟩
abbrev PL_ACCCFG_MSYNC (i : Nat) : Fld := ⟨PL_ACCCFG i, 2, 2⟩
abbrev PL_ACCCFG_ACK_EN (i : Nat) : Fld := ⟨PL_ACCCFG i, 3, 3⟩
abbrev PL_ACCCFG_RETRIES (i : Nat) : Fld := ⟨PL_ACCCFG i, 7, 4⟩
abbrev PL_ACCCFG_RPT_CLASS (i : Nat) : Fld := ⟨PL_ACCCFG i, 9, 8⟩
/-- The address of PL_ACCWIN (R193). -/
abbrev PL_ACCWIN (i : Nat) : Nat := 0x600004 + 32 * i
abbrev PL_ACCWIN_S0 (i : Nat) : Fld := ⟨PL_ACCWIN i, 3, 0⟩
abbrev PL_ACCWIN_S1 (i : Nat) : Fld := ⟨PL_ACCWIN i, 7, 4⟩
abbrev PL_ACCWIN_S2 (i : Nat) : Fld := ⟨PL_ACCWIN i, 11, 8⟩
abbrev PL_ACCWIN_S3 (i : Nat) : Fld := ⟨PL_ACCWIN i, 15, 12⟩
/-- The address of PL_BCNCFG (R193). -/
abbrev PL_BCNCFG (i : Nat) : Nat := 0x600008 + 32 * i
abbrev PL_BCNCFG_PERIOD (i : Nat) : Fld := ⟨PL_BCNCFG i, 11, 0⟩
abbrev PL_BCNCFG_CFP_START (i : Nat) : Fld := ⟨PL_BCNCFG i, 29, 12⟩
/-- The address of PL_BCTHR (R193). -/
abbrev PL_BCTHR (i : Nat) : Nat := 0x60000c + 32 * i
abbrev PL_BCTHR_BUSYTHR (i : Nat) : Fld := ⟨PL_BCTHR i, 7, 0⟩
/-- The address of PL_ACCSTAT (R193). -/
abbrev PL_ACCSTAT (i : Nat) : Nat := 0x600010 + 32 * i
abbrev PL_ACCSTAT_FALLBACK (i : Nat) : Fld := ⟨PL_ACCSTAT i, 0, 0⟩
/-- The address of PL_ACCQ (R193). -/
abbrev PL_ACCQ (i j k : Nat) : Nat := 0x610000 + 256 * i + 64 * j + 4 * k
abbrev PL_ACCQ_Q0 (i j k : Nat) : Fld := ⟨PL_ACCQ i j k, 13, 0⟩
abbrev PL_ACCQ_EN0 (i j k : Nat) : Fld := ⟨PL_ACCQ i j k, 14, 14⟩
abbrev PL_ACCQ_Q1 (i j k : Nat) : Fld := ⟨PL_ACCQ i j k, 29, 16⟩
abbrev PL_ACCQ_EN1 (i j k : Nat) : Fld := ⟨PL_ACCQ i j k, 30, 30⟩
/-- The address of PL_CSTHR (R193). -/
abbrev PL_CSTHR (i j : Nat) : Nat := 0x610008 + 256 * i + 64 * j
abbrev PL_CSTHR_CSTHR (i j : Nat) : Fld := ⟨PL_CSTHR i j, 7, 0⟩
/-- The address of PL_ACCCNT (R193). -/
abbrev PL_ACCCNT (i j : Nat) : Nat := 0x61000c + 256 * i + 64 * j
abbrev PL_ACCCNT_WON (i j : Nat) : Fld := ⟨PL_ACCCNT i j, 15, 0⟩
abbrev PL_ACCCNT_DEFER (i j : Nat) : Fld := ⟨PL_ACCCNT i j, 31, 16⟩
/-- The address of PL_ACCERR (R193). -/
abbrev PL_ACCERR (i j : Nat) : Nat := 0x610010 + 256 * i + 64 * j
abbrev PL_ACCERR_RETRY (i j : Nat) : Fld := ⟨PL_ACCERR i j, 15, 0⟩
abbrev PL_ACCERR_NOACK (i j : Nat) : Fld := ⟨PL_ACCERR i j, 31, 16⟩
/-- The address of PL_BSN (R193). -/
abbrev PL_BSN (i j : Nat) : Nat := 0x610014 + 256 * i + 64 * j
abbrev PL_BSN_BSN (i j : Nat) : Fld := ⟨PL_BSN i j, 31, 0⟩
/-- The address of PL_ACKCNT (R193). -/
abbrev PL_ACKCNT (i j : Nat) : Nat := 0x610018 + 256 * i + 64 * j
abbrev PL_ACKCNT_ACKSENT (i j : Nat) : Fld := ⟨PL_ACKCNT i j, 15, 0⟩
abbrev PL_ACKCNT_BUSYSENT (i j : Nat) : Fld := ⟨PL_ACKCNT i j, 31, 16⟩
/-- The address of PL_GRADDR (R193). -/
abbrev PL_GRADDR (i j k : Nat) : Nat := 0x680000 + 2048 * i + 512 * j + 8 * k
abbrev PL_GRADDR_ADDR (i j k : Nat) : Fld := ⟨PL_GRADDR i j k, 31, 0⟩
/-- The address of PL_GRSLOT (R193). -/
abbrev PL_GRSLOT (i j k : Nat) : Nat := 0x680004 + 2048 * i + 512 * j + 8 * k
abbrev PL_GRSLOT_START (i j k : Nat) : Fld := ⟨PL_GRSLOT i j k, 17, 0⟩
abbrev PL_GRSLOT_LEN (i j k : Nat) : Fld := ⟨PL_GRSLOT i j k, 27, 18⟩
/-- The address of PL_RPTCFG (R193). -/
abbrev PL_RPTCFG : Nat := 0x7e0000
abbrev PL_RPTCFG_DUPWIN : Fld := ⟨PL_RPTCFG, 7, 0⟩
/-- The address of PL_RPTSTAT0 (R193). -/
abbrev PL_RPTSTAT0 : Nat := 0x7e0004
abbrev PL_RPTSTAT0_RELAYED : Fld := ⟨PL_RPTSTAT0, 15, 0⟩
abbrev PL_RPTSTAT0_DUP : Fld := ⟨PL_RPTSTAT0, 31, 16⟩
/-- The address of PL_RPTSTAT1 (R193). -/
abbrev PL_RPTSTAT1 : Nat := 0x7e0008
abbrev PL_RPTSTAT1_OVERHEARD : Fld := ⟨PL_RPTSTAT1, 15, 0⟩
abbrev PL_RPTSTAT1_SAMEGROUP : Fld := ⟨PL_RPTSTAT1, 31, 16⟩
/-- The address of PL_REGIONCFG (R166). -/
abbrev PL_REGIONCFG : Nat := 0x7f0000
abbrev PL_REGIONCFG_BANDB_EN : Fld := ⟨PL_REGIONCFG, 0, 0⟩
abbrev PL_REGIONCFG_BANDC_EN : Fld := ⟨PL_REGIONCFG, 1, 1⟩
abbrev PL_REGIONCFG_BANDF_EN : Fld := ⟨PL_REGIONCFG, 2, 2⟩
/-- The address of PL_FMASK (R166). -/
abbrev PL_FMASK (i : Nat) : Nat := 0x7f0010 + 4 * i
abbrev PL_FMASK_MASK (i : Nat) : Fld := ⟨PL_FMASK i, 31, 0⟩
/-- The address of PL_FMASK6 (R166). -/
abbrev PL_FMASK6 : Nat := 0x7f0028
abbrev PL_FMASK6_MASK : Fld := ⟨PL_FMASK6, 21, 0⟩
/-- The address of CH_PORTCFG (R219). -/
abbrev CH_PORTCFG (i : Nat) : Nat := 0x800000 + 256 * i
abbrev CH_PORTCFG_SYNC (i : Nat) : Fld := ⟨CH_PORTCFG i, 7, 0⟩
abbrev CH_PORTCFG_GCLASS (i : Nat) : Fld := ⟨CH_PORTCFG i, 8, 8⟩
abbrev CH_PORTCFG_RXGAIN_U (i : Nat) : Fld := ⟨CH_PORTCFG i, 15, 10⟩
abbrev CH_PORTCFG_TXGAIN_DEF (i : Nat) : Fld := ⟨CH_PORTCFG i, 21, 16⟩
abbrev CH_PORTCFG_PROFILE_DEF (i : Nat) : Fld := ⟨CH_PORTCFG i, 25, 22⟩
/-- The address of CH_FREQ (R219). -/
abbrev CH_FREQ (i : Nat) : Nat := 0x800004 + 256 * i
abbrev CH_FREQ_FREQ (i : Nat) : Fld := ⟨CH_FREQ i, 31, 0⟩
/-- The address of CH_CHEN (R219). -/
abbrev CH_CHEN (i : Nat) : Nat := 0x800008 + 256 * i
abbrev CH_CHEN_EN (i : Nat) : Fld := ⟨CH_CHEN i, 31, 0⟩
/-- The address of CH_IMPL (R219). -/
abbrev CH_IMPL (i : Nat) : Nat := 0x80000c + 256 * i
abbrev CH_IMPL_LEN (i : Nat) : Fld := ⟨CH_IMPL i, 7, 0⟩
abbrev CH_IMPL_CR (i : Nat) : Fld := ⟨CH_IMPL i, 10, 8⟩
abbrev CH_IMPL_CRC_ON (i : Nat) : Fld := ⟨CH_IMPL i, 11, 11⟩
abbrev CH_IMPL_SFMASK (i : Nat) : Fld := ⟨CH_IMPL i, 23, 16⟩
/-- The address of CH_SCFG (R219). -/
abbrev CH_SCFG (i : Nat) : Nat := 0x800010 + 256 * i
abbrev CH_SCFG_HYS (i : Nat) : Fld := ⟨CH_SCFG i, 3, 0⟩
abbrev CH_SCFG_TARGET (i : Nat) : Fld := ⟨CH_SCFG i, 15, 8⟩
abbrev CH_SCFG_MAXOFS (i : Nat) : Fld := ⟨CH_SCFG i, 31, 16⟩
/-- The address of CH_DETCFG (R219). -/
abbrev CH_DETCFG (i : Nat) : Nat := 0x800014 + 256 * i
abbrev CH_DETCFG_DETTHR (i : Nat) : Fld := ⟨CH_DETCFG i, 3, 0⟩
/-- The address of CH_RSSICAL (R219). -/
abbrev CH_RSSICAL (i : Nat) : Nat := 0x800018 + 256 * i
abbrev CH_RSSICAL_CAL (i : Nat) : Fld := ⟨CH_RSSICAL i, 15, 0⟩
/-- The address of CH_SFMASK (R219). -/
abbrev CH_SFMASK (i j : Nat) : Nat := 0x800020 + 256 * i + 4 * j
abbrev CH_SFMASK_SF0 (i j : Nat) : Fld := ⟨CH_SFMASK i j, 7, 0⟩
abbrev CH_SFMASK_SF1 (i j : Nat) : Fld := ⟨CH_SFMASK i j, 15, 8⟩
abbrev CH_SFMASK_SF2 (i j : Nat) : Fld := ⟨CH_SFMASK i j, 23, 16⟩
abbrev CH_SFMASK_SF3 (i j : Nat) : Fld := ⟨CH_SFMASK i j, 31, 24⟩
/-- The address of CH_DETCNT (R219). -/
abbrev CH_DETCNT (i : Nat) : Nat := 0x800040 + 256 * i
abbrev CH_DETCNT_DETECT (i : Nat) : Fld := ⟨CH_DETCNT i, 15, 0⟩
abbrev CH_DETCNT_FALSEDET (i : Nat) : Fld := ⟨CH_DETCNT i, 31, 16⟩
/-- The address of CH_RXCNT (R219). -/
abbrev CH_RXCNT (i : Nat) : Nat := 0x800044 + 256 * i
abbrev CH_RXCNT_OK (i : Nat) : Fld := ⟨CH_RXCNT i, 15, 0⟩
abbrev CH_RXCNT_CRCFAIL (i : Nat) : Fld := ⟨CH_RXCNT i, 31, 16⟩
/-- The address of CH_RXERR (R219). -/
abbrev CH_RXERR (i : Nat) : Nat := 0x800048 + 256 * i
abbrev CH_RXERR_SYNCMISS (i : Nat) : Fld := ⟨CH_RXERR i, 15, 0⟩
abbrev CH_RXERR_HDRFAIL (i : Nat) : Fld := ⟨CH_RXERR i, 31, 16⟩
/-- The address of CH_RXLOSS (R219). -/
abbrev CH_RXLOSS (i : Nat) : Nat := 0x80004c + 256 * i
abbrev CH_RXLOSS_PREEMPT (i : Nat) : Fld := ⟨CH_RXLOSS i, 15, 0⟩
abbrev CH_RXLOSS_INPUT (i : Nat) : Fld := ⟨CH_RXLOSS i, 31, 16⟩
/-- The address of CH_STACK (R219). -/
abbrev CH_STACK (i : Nat) : Nat := 0x800050 + 256 * i
abbrev CH_STACK_STACKED (i : Nat) : Fld := ⟨CH_STACK i, 15, 0⟩
abbrev CH_STACK_STACKMISS (i : Nat) : Fld := ⟨CH_STACK i, 31, 16⟩
/-- The address of CH_TXCNT (R219). -/
abbrev CH_TXCNT (i : Nat) : Nat := 0x800054 + 256 * i
abbrev CH_TXCNT_SENT (i : Nat) : Fld := ⟨CH_TXCNT i, 15, 0⟩
abbrev CH_TXCNT_REFUSED (i : Nat) : Fld := ⟨CH_TXCNT i, 31, 16⟩
/-- The address of CH_PAIRSTAT (R219). -/
abbrev CH_PAIRSTAT (i : Nat) : Nat := 0x800058 + 256 * i
abbrev CH_PAIRSTAT_TXBUSY (i : Nat) : Fld := ⟨CH_PAIRSTAT i, 0, 0⟩
abbrev CH_PAIRSTAT_SUSPENDED (i : Nat) : Fld := ⟨CH_PAIRSTAT i, 1, 1⟩
abbrev CH_PAIRSTAT_PROFILE (i : Nat) : Fld := ⟨CH_PAIRSTAT i, 5, 2⟩
abbrev CH_PAIRSTAT_RXSTEP (i : Nat) : Fld := ⟨CH_PAIRSTAT i, 13, 8⟩
/-- The address of CH_TUNED (R219). -/
abbrev CH_TUNED (i : Nat) : Nat := 0x80005c + 256 * i
abbrev CH_TUNED_FREQ (i : Nat) : Fld := ⟨CH_TUNED i, 31, 0⟩
/-- The address of CH_OFSNOW (R219). -/
abbrev CH_OFSNOW (i : Nat) : Nat := 0x800060 + 256 * i
abbrev CH_OFSNOW_OFS (i : Nat) : Fld := ⟨CH_OFSNOW i, 23, 0⟩
/-- The address of CH_POOLMISS (R219). -/
abbrev CH_POOLMISS : Nat := 0x830000
abbrev CH_POOLMISS_EMPTY : Fld := ⟨CH_POOLMISS, 15, 0⟩
abbrev CH_POOLMISS_RESERVED : Fld := ⟨CH_POOLMISS, 31, 16⟩
/-- The address of CH_POOLSTAT (R219). -/
abbrev CH_POOLSTAT : Nat := 0x830004
abbrev CH_POOLSTAT_BUSY : Fld := ⟨CH_POOLSTAT, 11, 0⟩
abbrev CH_POOLSTAT_HIGH_WATER : Fld := ⟨CH_POOLSTAT, 27, 16⟩
abbrev CH_POOLSTAT_HW_CLEAR : Fld := ⟨CH_POOLSTAT, 31, 31⟩
/-- The address of CH_POOLCFG (R219). -/
abbrev CH_POOLCFG : Nat := 0x830008
abbrev CH_POOLCFG_RESERVE : Fld := ⟨CH_POOLCFG, 9, 0⟩
/-- The address of CH_RAMP (R219). -/
abbrev CH_RAMP (i j : Nat) : Nat := 0x830100 + 16 * i + 4 * j
abbrev CH_RAMP_LEVEL0 (i j : Nat) : Fld := ⟨CH_RAMP i j, 7, 0⟩
abbrev CH_RAMP_LEVEL1 (i j : Nat) : Fld := ⟨CH_RAMP i j, 15, 8⟩
abbrev CH_RAMP_LEVEL2 (i j : Nat) : Fld := ⟨CH_RAMP i j, 23, 16⟩
abbrev CH_RAMP_LEVEL3 (i j : Nat) : Fld := ⟨CH_RAMP i j, 31, 24⟩
/-- The address of CH_RAMPDUR (R219). -/
abbrev CH_RAMPDUR (i : Nat) : Nat := 0x830200 + 4 * i
abbrev CH_RAMPDUR_DUR (i : Nat) : Fld := ⟨CH_RAMPDUR i, 5, 0⟩
/-- The address of MC_SCHEDCFG (R246). -/
abbrev MC_SCHEDCFG : Nat := 0xc00000
abbrev MC_SCHEDCFG_SLOT_LEN : Fld := ⟨MC_SCHEDCFG, 8, 0⟩
abbrev MC_SCHEDCFG_ENABLE : Fld := ⟨MC_SCHEDCFG, 9, 9⟩
abbrev MC_SCHEDCFG_RETRIES : Fld := ⟨MC_SCHEDCFG, 13, 10⟩
/-- The address of MC_EPOCH_LO (R246). -/
abbrev MC_EPOCH_LO : Nat := 0xc00004
abbrev MC_EPOCH_LO_EPOCH : Fld := ⟨MC_EPOCH_LO, 31, 0⟩
/-- The address of MC_EPOCH_HI (R246). -/
abbrev MC_EPOCH_HI : Nat := 0xc00008
abbrev MC_EPOCH_HI_EPOCH : Fld := ⟨MC_EPOCH_HI, 31, 0⟩
/-- The address of MC_TIMING (R246). -/
abbrev MC_TIMING : Nat := 0xc0000c
abbrev MC_TIMING_TXOFS : Fld := ⟨MC_TIMING, 15, 0⟩
abbrev MC_TIMING_ACKGAP : Fld := ⟨MC_TIMING, 23, 16⟩
/-- The address of MC_ASN_LO (R246). -/
abbrev MC_ASN_LO : Nat := 0xc00010
abbrev MC_ASN_LO_ASN : Fld := ⟨MC_ASN_LO, 31, 0⟩
/-- The address of MC_ASN_HI (R246). -/
abbrev MC_ASN_HI : Nat := 0xc00014
abbrev MC_ASN_HI_ASN : Fld := ⟨MC_ASN_HI, 7, 0⟩
/-- The address of MC_RESPCFG (R246). -/
abbrev MC_RESPCFG : Nat := 0xc00018
abbrev MC_RESPCFG_RESPDLY : Fld := ⟨MC_RESPCFG, 9, 0⟩
/-- The address of MC_GUARDCFG (R246). -/
abbrev MC_GUARDCFG : Nat := 0xc0001c
abbrev MC_GUARDCFG_MIN : Fld := ⟨MC_GUARDCFG, 11, 0⟩
abbrev MC_GUARDCFG_UNC : Fld := ⟨MC_GUARDCFG, 19, 12⟩
abbrev MC_GUARDCFG_MAX : Fld := ⟨MC_GUARDCFG, 31, 20⟩
/-- The address of MC_SFRAME (R246). -/
abbrev MC_SFRAME (i : Nat) : Nat := 0xc00040 + 4 * i
abbrev MC_SFRAME_LEN (i : Nat) : Fld := ⟨MC_SFRAME i, 15, 0⟩
abbrev MC_SFRAME_EN (i : Nat) : Fld := ⟨MC_SFRAME i, 16, 16⟩
/-- The address of MC_HOPLEN (R246). -/
abbrev MC_HOPLEN (i : Nat) : Nat := 0xc00080 + 4 * i
abbrev MC_HOPLEN_L (i : Nat) : Fld := ⟨MC_HOPLEN i, 6, 0⟩
/-- The address of MC_HOP (R246). -/
abbrev MC_HOP (i j : Nat) : Nat := 0xc01000 + 64 * i + 4 * j
abbrev MC_HOP_CH0 (i j : Nat) : Fld := ⟨MC_HOP i j, 4, 0⟩
abbrev MC_HOP_CH1 (i j : Nat) : Fld := ⟨MC_HOP i j, 12, 8⟩
abbrev MC_HOP_CH2 (i j : Nat) : Fld := ⟨MC_HOP i j, 20, 16⟩
abbrev MC_HOP_CH3 (i j : Nat) : Fld := ⟨MC_HOP i j, 28, 24⟩
/-- The address of MC_LINK0 (R246). -/
abbrev MC_LINK0 (i : Nat) : Nat := 0xc10000 + 16 * i
abbrev MC_LINK0_SLOT_OFS (i : Nat) : Fld := ⟨MC_LINK0 i, 15, 0⟩
abbrev MC_LINK0_SFRAME (i : Nat) : Fld := ⟨MC_LINK0 i, 18, 16⟩
abbrev MC_LINK0_EN (i : Nat) : Fld := ⟨MC_LINK0 i, 19, 19⟩
abbrev MC_LINK0_DIR (i : Nat) : Fld := ⟨MC_LINK0 i, 20, 20⟩
abbrev MC_LINK0_PAIR (i : Nat) : Fld := ⟨MC_LINK0 i, 25, 21⟩
abbrev MC_LINK0_HOP (i : Nat) : Fld := ⟨MC_LINK0 i, 29, 26⟩
/-- The address of MC_LINK1 (R246). -/
abbrev MC_LINK1 (i : Nat) : Nat := 0xc10004 + 16 * i
abbrev MC_LINK1_NEIGH (i : Nat) : Fld := ⟨MC_LINK1 i, 16, 0⟩
abbrev MC_LINK1_ANY (i : Nat) : Fld := ⟨MC_LINK1 i, 17, 17⟩
abbrev MC_LINK1_CHOFS (i : Nat) : Fld := ⟨MC_LINK1 i, 23, 18⟩
/-- The address of MC_LINK2 (R246). -/
abbrev MC_LINK2 (i : Nat) : Nat := 0xc10008 + 16 * i
abbrev MC_LINK2_QUEUE (i : Nat) : Fld := ⟨MC_LINK2 i, 13, 0⟩
abbrev MC_LINK2_SF (i : Nat) : Fld := ⟨MC_LINK2 i, 16, 14⟩
abbrev MC_LINK2_CR (i : Nat) : Fld := ⟨MC_LINK2 i, 19, 17⟩
/-- The address of MC_LINK3 (R246). -/
abbrev MC_LINK3 (i : Nat) : Nat := 0xc1000c + 16 * i
/-- The address of MC_ADDRCFG (R246). -/
abbrev MC_ADDRCFG : Nat := 0xd00000
abbrev MC_ADDRCFG_PREFIX : Fld := ⟨MC_ADDRCFG, 8, 0⟩
/-- The address of MC_JOINCFG (R246). -/
abbrev MC_JOINCFG : Nat := 0xd00004
abbrev MC_JOINCFG_PROVTTL : Fld := ⟨MC_JOINCFG, 7, 0⟩
/-- The address of MC_PART0 (R246). -/
abbrev MC_PART0 (i : Nat) : Nat := 0xd00040 + 16 * i
abbrev MC_PART0_BASE (i : Nat) : Fld := ⟨MC_PART0 i, 16, 0⟩
abbrev MC_PART0_KIND (i : Nat) : Fld := ⟨MC_PART0 i, 18, 17⟩
abbrev MC_PART0_JOIN (i : Nat) : Fld := ⟨MC_PART0 i, 19, 19⟩
abbrev MC_PART0_MBXTTL (i : Nat) : Fld := ⟨MC_PART0 i, 31, 20⟩
/-- The address of MC_PART1 (R246). -/
abbrev MC_PART1 (i : Nat) : Nat := 0xd00044 + 16 * i
abbrev MC_PART1_SIZE (i : Nat) : Fld := ⟨MC_PART1 i, 17, 0⟩
/-- The address of MC_PART2 (R246). -/
abbrev MC_PART2 (i : Nat) : Nat := 0xd00048 + 16 * i
abbrev MC_PART2_MBXQ (i : Nat) : Fld := ⟨MC_PART2 i, 13, 0⟩
/-- The address of MC_QMAP (R246). -/
abbrev MC_QMAP (i : Nat) : Nat := 0xd00200 + 4 * i
abbrev MC_QMAP_DELIVQ (i : Nat) : Fld := ⟨MC_QMAP i, 13, 0⟩
abbrev MC_QMAP_FALLQ (i : Nat) : Fld := ⟨MC_QMAP i, 29, 16⟩
/-- The address of MC_DLQ (R246). -/
abbrev MC_DLQ (i : Nat) : Nat := 0xd00400 + 4 * i
abbrev MC_DLQ_QUEUE (i : Nat) : Fld := ⟨MC_DLQ i, 13, 0⟩
abbrev MC_DLQ_EN (i : Nat) : Fld := ⟨MC_DLQ i, 14, 14⟩
/-- The address of MC_PFX (R246). -/
abbrev MC_PFX (i : Nat) : Nat := 0xd00500 + 4 * i
abbrev MC_PFX_PREFIX (i : Nat) : Fld := ⟨MC_PFX i, 8, 0⟩
abbrev MC_PFX_ROUTE (i : Nat) : Fld := ⟨MC_PFX i, 24, 9⟩
abbrev MC_PFX_EN (i : Nat) : Fld := ⟨MC_PFX i, 25, 25⟩
/-- The address of MC_EPSTAT (R246). -/
abbrev MC_EPSTAT : Nat := 0xd01000
abbrev MC_EPSTAT_ACTIVE : Fld := ⟨MC_EPSTAT, 17, 0⟩
abbrev MC_EPSTAT_FULL : Fld := ⟨MC_EPSTAT, 31, 18⟩
/-- The address of MC_HOPDROP (R246). -/
abbrev MC_HOPDROP : Nat := 0xd01004
abbrev MC_HOPDROP_COUNT : Fld := ⟨MC_HOPDROP, 15, 0⟩
/-- The address of MC_MBXFULL (R246). -/
abbrev MC_MBXFULL : Nat := 0xd01008
abbrev MC_MBXFULL_ENDPOINT : Fld := ⟨MC_MBXFULL, 15, 0⟩
abbrev MC_MBXFULL_STORE : Fld := ⟨MC_MBXFULL, 31, 16⟩
/-- The address of MC_RXSTAT (R246). -/
abbrev MC_RXSTAT : Nat := 0xd0100c
abbrev MC_RXSTAT_OVERHEARD : Fld := ⟨MC_RXSTAT, 15, 0⟩
abbrev MC_RXSTAT_UNKNOWN : Fld := ⟨MC_RXSTAT, 31, 16⟩
/-- The address of MC_RXSTAT2 (R246). -/
abbrev MC_RXSTAT2 : Nat := 0xd01010
abbrev MC_RXSTAT2_REPLAY : Fld := ⟨MC_RXSTAT2, 15, 0⟩
abbrev MC_RXSTAT2_DUP : Fld := ⟨MC_RXSTAT2, 31, 16⟩
/-- The address of MC_ROUTESTAT (R246). -/
abbrev MC_ROUTESTAT : Nat := 0xd01014
abbrev MC_ROUTESTAT_MISS : Fld := ⟨MC_ROUTESTAT, 15, 0⟩
abbrev MC_ROUTESTAT_NEXTHOP : Fld := ⟨MC_ROUTESTAT, 31, 16⟩
/-- The address of MC_SCHEDSTAT (R246). -/
abbrev MC_SCHEDSTAT : Nat := 0xd01018
abbrev MC_SCHEDSTAT_COLLIDE : Fld := ⟨MC_SCHEDSTAT, 15, 0⟩
abbrev MC_SCHEDSTAT_SKIPPED : Fld := ⟨MC_SCHEDSTAT, 31, 16⟩
/-- The address of MC_MBXSTAT (R246). -/
abbrev MC_MBXSTAT : Nat := 0xd0101c
abbrev MC_MBXSTAT_MISSED : Fld := ⟨MC_MBXSTAT, 15, 0⟩
abbrev MC_MBXSTAT_EXPIRED : Fld := ⟨MC_MBXSTAT, 31, 16⟩
/-- The address of MC_SUPSTAT (R246). -/
abbrev MC_SUPSTAT : Nat := 0xd01020
abbrev MC_SUPSTAT_LOST : Fld := ⟨MC_SUPSTAT, 15, 0⟩
abbrev MC_SUPSTAT_EVTEXH : Fld := ⟨MC_SUPSTAT, 31, 16⟩
/-- The address of MC_RELAYSTAT (R246). -/
abbrev MC_RELAYSTAT : Nat := 0xd01024
abbrev MC_RELAYSTAT_RELAYED : Fld := ⟨MC_RELAYSTAT, 15, 0⟩
abbrev MC_RELAYSTAT_BENCH : Fld := ⟨MC_RELAYSTAT, 31, 16⟩
/-- The address of MC_DCCFG (R246). -/
abbrev MC_DCCFG : Nat := 0xf00000
abbrev MC_DCCFG_PROFILE : Fld := ⟨MC_DCCFG, 1, 0⟩
/-- The address of MC_SUBBAND_LO (R246). -/
abbrev MC_SUBBAND_LO (i : Nat) : Nat := 0xf00010 + 8 * i
abbrev MC_SUBBAND_LO_LO (i : Nat) : Fld := ⟨MC_SUBBAND_LO i, 19, 0⟩
/-- The address of MC_SUBBAND_HI (R246). -/
abbrev MC_SUBBAND_HI (i : Nat) : Nat := 0xf00014 + 8 * i
abbrev MC_SUBBAND_HI_HI (i : Nat) : Fld := ⟨MC_SUBBAND_HI i, 19, 0⟩
abbrev MC_SUBBAND_HI_LIMIT (i : Nat) : Fld := ⟨MC_SUBBAND_HI i, 31, 20⟩
/-- The address of MC_DCUSED (R246). -/
abbrev MC_DCUSED (i j : Nat) : Nat := 0xf01000 + 32 * i + 4 * j
abbrev MC_DCUSED_USED (i j : Nat) : Fld := ⟨MC_DCUSED i j, 31, 0⟩
/-- The address of MC_DCREF (R246). -/
abbrev MC_DCREF (i : Nat) : Nat := 0xf02000 + 4 * i
abbrev MC_DCREF_REFUSED (i : Nat) : Fld := ⟨MC_DCREF i, 15, 0⟩
abbrev MC_DCREF_NOBAND (i : Nat) : Fld := ⟨MC_DCREF i, 31, 16⟩
/-- The address of QM_QPLACE (R293). -/
abbrev QM_QPLACE (i : Nat) : Nat := 0x1000000 + 32 * i
abbrev QM_QPLACE_BASE (i : Nat) : Fld := ⟨QM_QPLACE i, 15, 0⟩
abbrev QM_QPLACE_SIZE (i : Nat) : Fld := ⟨QM_QPLACE i, 19, 16⟩
abbrev QM_QPLACE_EN (i : Nat) : Fld := ⟨QM_QPLACE i, 20, 20⟩
abbrev QM_QPLACE_STORE (i : Nat) : Fld := ⟨QM_QPLACE i, 21, 21⟩
/-- The address of QM_QCFG (R293). -/
abbrev QM_QCFG (i : Nat) : Nat := 0x1000004 + 32 * i
abbrev QM_QCFG_STALE (i : Nat) : Fld := ⟨QM_QCFG i, 15, 0⟩
abbrev QM_QCFG_OVR_NOTE (i : Nat) : Fld := ⟨QM_QCFG i, 16, 16⟩
abbrev QM_QCFG_CORR (i : Nat) : Fld := ⟨QM_QCFG i, 31, 24⟩
/-- The address of QM_QWP (R293). -/
abbrev QM_QWP (i : Nat) : Nat := 0x1000008 + 32 * i
abbrev QM_QWP_PTR (i : Nat) : Fld := ⟨QM_QWP i, 18, 0⟩
/-- The address of QM_QRP (R293). -/
abbrev QM_QRP (i : Nat) : Nat := 0x100000c + 32 * i
abbrev QM_QRP_PTR (i : Nat) : Fld := ⟨QM_QRP i, 18, 0⟩
/-- The address of QM_QMP (R293). -/
abbrev QM_QMP (i : Nat) : Nat := 0x1000010 + 32 * i
abbrev QM_QMP_PTR (i : Nat) : Fld := ⟨QM_QMP i, 18, 0⟩
/-- The address of QM_QREL (R293). -/
abbrev QM_QREL (i : Nat) : Nat := 0x1000014 + 32 * i
abbrev QM_QREL_PTR (i : Nat) : Fld := ⟨QM_QREL i, 18, 0⟩
/-- The address of QM_QCTL (R293). -/
abbrev QM_QCTL (i : Nat) : Nat := 0x1000018 + 32 * i
abbrev QM_QCTL_ADVANCE (i : Nat) : Fld := ⟨QM_QCTL i, 0, 0⟩
abbrev QM_QCTL_RELEASE (i : Nat) : Fld := ⟨QM_QCTL i, 1, 1⟩
abbrev QM_QCTL_MARK (i : Nat) : Fld := ⟨QM_QCTL i, 2, 2⟩
abbrev QM_QCTL_REWIND (i : Nat) : Fld := ⟨QM_QCTL i, 3, 3⟩
abbrev QM_QCTL_FLUSH (i : Nat) : Fld := ⟨QM_QCTL i, 4, 4⟩
abbrev QM_QCTL_CLRCNT (i : Nat) : Fld := ⟨QM_QCTL i, 5, 5⟩
abbrev QM_QCTL_COUNT (i : Nat) : Fld := ⟨QM_QCTL i, 30, 12⟩
/-- The address of QM_QSTAT (R293). -/
abbrev QM_QSTAT (i : Nat) : Nat := 0x100001c + 32 * i
abbrev QM_QSTAT_OVERRUN (i : Nat) : Fld := ⟨QM_QSTAT i, 0, 0⟩
abbrev QM_QSTAT_UNCORR (i : Nat) : Fld := ⟨QM_QSTAT i, 1, 1⟩
abbrev QM_QSTAT_OPEN (i : Nat) : Fld := ⟨QM_QSTAT i, 2, 2⟩
abbrev QM_QSTAT_STALE (i : Nat) : Fld := ⟨QM_QSTAT i, 3, 3⟩
abbrev QM_QSTAT_ORPHAN (i : Nat) : Fld := ⟨QM_QSTAT i, 4, 4⟩
abbrev QM_QSTAT_ORPHANS (i : Nat) : Fld := ⟨QM_QSTAT i, 31, 16⟩
/-- The address of QM_SHELF (R293). -/
abbrev QM_SHELF (i : Nat) : Nat := 0x1080000 + 4 * i
abbrev QM_SHELF_BASE (i : Nat) : Fld := ⟨QM_SHELF i, 13, 0⟩
abbrev QM_SHELF_LEN (i : Nat) : Fld := ⟨QM_SHELF i, 28, 14⟩
/-- The address of QM_OPENLIM (R293). -/
abbrev QM_OPENLIM : Nat := 0x1081000
abbrev QM_OPENLIM_LIMIT : Fld := ⟨QM_OPENLIM, 15, 0⟩
/-- The address of QM_SCRUB (R293). -/
abbrev QM_SCRUB : Nat := 0x1081004
abbrev QM_SCRUB_PASSES : Fld := ⟨QM_SCRUB, 15, 0⟩
/-- The address of QM_BANKSTAT (R293). -/
abbrev QM_BANKSTAT (i : Nat) : Nat := 0x1081100 + 4 * i
abbrev QM_BANKSTAT_CORR (i : Nat) : Fld := ⟨QM_BANKSTAT i, 15, 0⟩
abbrev QM_BANKSTAT_UNCORR (i : Nat) : Fld := ⟨QM_BANKSTAT i, 31, 16⟩
/-- The address of CX_QSTAT (R274). -/
abbrev CX_QSTAT : Nat := 0x1400000
abbrev CX_QSTAT_PENDING : Fld := ⟨CX_QSTAT, 10, 0⟩
abbrev CX_QSTAT_FULL : Fld := ⟨CX_QSTAT, 31, 16⟩
/-- The address of CX_DUALKEY (R274). -/
abbrev CX_DUALKEY : Nat := 0x1400004
abbrev CX_DUALKEY_COUNT : Fld := ⟨CX_DUALKEY, 15, 0⟩
/-- The address of CX_AUTHFAIL (R274). -/
abbrev CX_AUTHFAIL : Nat := 0x1400008
abbrev CX_AUTHFAIL_FRAME : Fld := ⟨CX_AUTHFAIL, 15, 0⟩
abbrev CX_AUTHFAIL_HOST : Fld := ⟨CX_AUTHFAIL, 31, 16⟩
/-- The address of CX_FAULTSTAT (R274). -/
abbrev CX_FAULTSTAT : Nat := 0x140000c
abbrev CX_FAULTSTAT_LIVE : Fld := ⟨CX_FAULTSTAT, 4, 0⟩
abbrev CX_FAULTSTAT_RETIRED : Fld := ⟨CX_FAULTSTAT, 9, 5⟩
abbrev CX_FAULTSTAT_MISMATCH : Fld := ⟨CX_FAULTSTAT, 23, 16⟩
/-- The address of CX_SECCFG (R274). -/
abbrev CX_SECCFG : Nat := 0x1400010
abbrev CX_SECCFG_MINLVL : Fld := ⟨CX_SECCFG, 2, 0⟩
abbrev CX_SECCFG_TXLVL : Fld := ⟨CX_SECCFG, 5, 3⟩
abbrev CX_SECCFG_BCDRAWER : Fld := ⟨CX_SECCFG, 17, 6⟩
/-- The address of CX_BCASTCNT (R274). -/
abbrev CX_BCASTCNT : Nat := 0x1400014
abbrev CX_BCASTCNT_COUNT : Fld := ⟨CX_BCASTCNT, 31, 0⟩
/-- The address of CX_ROLLCFG (R274). -/
abbrev CX_ROLLCFG : Nat := 0x1400018
abbrev CX_ROLLCFG_WINDOW : Fld := ⟨CX_ROLLCFG, 15, 0⟩
/-- The address of CX_DPART0 (R274). -/
abbrev CX_DPART0 (i : Nat) : Nat := 0x1400100 + 8 * i
abbrev CX_DPART0_BASE (i : Nat) : Fld := ⟨CX_DPART0 i, 11, 0⟩
abbrev CX_DPART0_SIZE (i : Nat) : Fld := ⟨CX_DPART0 i, 24, 12⟩
abbrev CX_DPART0_USE (i : Nat) : Fld := ⟨CX_DPART0 i, 28, 25⟩
/-- The address of CX_DPART1 (R274). -/
abbrev CX_DPART1 (i : Nat) : Nat := 0x1400104 + 8 * i
abbrev CX_DPART1_SESSIONS (i : Nat) : Fld := ⟨CX_DPART1 i, 15, 0⟩
/-- The address of CX_DRSTAT (R274). -/
abbrev CX_DRSTAT (i : Nat) : Nat := 0x1410000 + 4 * i
abbrev CX_DRSTAT_CUR (i : Nat) : Fld := ⟨CX_DRSTAT i, 1, 0⟩
abbrev CX_DRSTAT_PREV (i : Nat) : Fld := ⟨CX_DRSTAT i, 3, 2⟩
abbrev CX_DRSTAT_ROLLING (i : Nat) : Fld := ⟨CX_DRSTAT i, 4, 4⟩
abbrev CX_DRSTAT_GEN (i : Nat) : Fld := ⟨CX_DRSTAT i, 15, 8⟩
abbrev CX_DRSTAT_AUTHFAIL (i : Nat) : Fld := ⟨CX_DRSTAT i, 31, 16⟩
/-- The address of CX_EKSTAT (R274). -/
abbrev CX_EKSTAT (i : Nat) : Nat := 0x1500000 + 4 * i
abbrev CX_EKSTAT_CUR (i : Nat) : Fld := ⟨CX_EKSTAT i, 1, 0⟩
abbrev CX_EKSTAT_PREV (i : Nat) : Fld := ⟨CX_EKSTAT i, 3, 2⟩
abbrev CX_EKSTAT_ROLLING (i : Nat) : Fld := ⟨CX_EKSTAT i, 4, 4⟩
abbrev CX_EKSTAT_GEN (i : Nat) : Fld := ⟨CX_EKSTAT i, 15, 8⟩
abbrev CX_EKSTAT_AUTHFAIL (i : Nat) : Fld := ⟨CX_EKSTAT i, 31, 16⟩
/-- The address of CX_CARDCFG (R274). -/
abbrev CX_CARDCFG (i : Nat) : Nat := 0x1600000 + 32 * i
abbrev CX_CARDCFG_EN (i : Nat) : Fld := ⟨CX_CARDCFG i, 0, 0⟩
abbrev CX_CARDCFG_DIV (i : Nat) : Fld := ⟨CX_CARDCFG i, 10, 1⟩
abbrev CX_CARDCFG_PPS_EN (i : Nat) : Fld := ⟨CX_CARDCFG i, 11, 11⟩
abbrev CX_CARDCFG_TPREF (i : Nat) : Fld := ⟨CX_CARDCFG i, 12, 12⟩
abbrev CX_CARDCFG_RING (i : Nat) : Fld := ⟨CX_CARDCFG i, 20, 13⟩
/-- The address of CX_CARDSTAT (R274). -/
abbrev CX_CARDSTAT (i : Nat) : Nat := 0x1600004 + 32 * i
abbrev CX_CARDSTAT_STATE (i : Nat) : Fld := ⟨CX_CARDSTAT i, 2, 0⟩
abbrev CX_CARDSTAT_INVERSE (i : Nat) : Fld := ⟨CX_CARDSTAT i, 3, 3⟩
abbrev CX_CARDSTAT_PROTOCOL (i : Nat) : Fld := ⟨CX_CARDSTAT i, 4, 4⟩
abbrev CX_CARDSTAT_LAST (i : Nat) : Fld := ⟨CX_CARDSTAT i, 15, 8⟩
/-- The address of CX_CARDETU (R274). -/
abbrev CX_CARDETU (i : Nat) : Nat := 0x1600008 + 32 * i
abbrev CX_CARDETU_F (i : Nat) : Fld := ⟨CX_CARDETU i, 11, 0⟩
abbrev CX_CARDETU_D (i : Nat) : Fld := ⟨CX_CARDETU i, 18, 12⟩
/-- The address of CX_CARDERR (R274). -/
abbrev CX_CARDERR (i : Nat) : Nat := 0x160000c + 32 * i
abbrev CX_CARDERR_PARITY (i : Nat) : Fld := ⟨CX_CARDERR i, 15, 0⟩
abbrev CX_CARDERR_TIMEOUT (i : Nat) : Fld := ⟨CX_CARDERR i, 31, 16⟩
/-- The address of HL_SESS0 (R321). -/
abbrev HL_SESS0 (i : Nat) : Nat := 0x1800000 + 32 * i
abbrev HL_SESS0_CBASE_LO (i : Nat) : Fld := ⟨HL_SESS0 i, 31, 6⟩
/-- The address of HL_SESS1 (R321). -/
abbrev HL_SESS1 (i : Nat) : Nat := 0x1800004 + 32 * i
abbrev HL_SESS1_CBASE_HI (i : Nat) : Fld := ⟨HL_SESS1 i, 31, 0⟩
/-- The address of HL_SESS2 (R321). -/
abbrev HL_SESS2 (i : Nat) : Nat := 0x1800008 + 32 * i
abbrev HL_SESS2_SIZE (i : Nat) : Fld := ⟨HL_SESS2 i, 3, 0⟩
abbrev HL_SESS2_EN (i : Nat) : Fld := ⟨HL_SESS2 i, 4, 4⟩
abbrev HL_SESS2_PRIV (i : Nat) : Fld := ⟨HL_SESS2 i, 5, 5⟩
/-- The address of HL_SESS3 (R321). -/
abbrev HL_SESS3 (i : Nat) : Nat := 0x180000c + 32 * i
abbrev HL_SESS3_WB_LO (i : Nat) : Fld := ⟨HL_SESS3 i, 31, 2⟩
/-- The address of HL_SESS4 (R321). -/
abbrev HL_SESS4 (i : Nat) : Nat := 0x1800010 + 32 * i
abbrev HL_SESS4_WB_HI (i : Nat) : Fld := ⟨HL_SESS4 i, 31, 0⟩
/-- The address of HL_SESS5 (R321). -/
abbrev HL_SESS5 (i : Nat) : Nat := 0x1800014 + 32 * i
abbrev HL_SESS5_CONS (i : Nat) : Fld := ⟨HL_SESS5 i, 15, 0⟩
abbrev HL_SESS5_PROD (i : Nat) : Fld := ⟨HL_SESS5 i, 31, 16⟩
/-- The address of HL_SESS6 (R321). -/
abbrev HL_SESS6 (i j : Nat) : Nat := 0x1800018 + 32 * i + 4 * j
/-- The address of HL_NRING0 (R321). -/
abbrev HL_NRING0 : Nat := 0x1800200
abbrev HL_NRING0_NBASE_LO : Fld := ⟨HL_NRING0, 31, 6⟩
/-- The address of HL_NRING1 (R321). -/
abbrev HL_NRING1 : Nat := 0x1800204
abbrev HL_NRING1_NBASE_HI : Fld := ⟨HL_NRING1, 31, 0⟩
/-- The address of HL_NRING2 (R321). -/
abbrev HL_NRING2 : Nat := 0x1800208
abbrev HL_NRING2_SIZE : Fld := ⟨HL_NRING2, 3, 0⟩
abbrev HL_NRING2_EN : Fld := ⟨HL_NRING2, 4, 4⟩
/-- The address of HL_NRING3 (R321). -/
abbrev HL_NRING3 : Nat := 0x180020c
abbrev HL_NRING3_WB_LO : Fld := ⟨HL_NRING3, 31, 2⟩
/-- The address of HL_NRING4 (R321). -/
abbrev HL_NRING4 : Nat := 0x1800210
abbrev HL_NRING4_WB_HI : Fld := ⟨HL_NRING4, 31, 0⟩
/-- The address of HL_NRING5 (R321). -/
abbrev HL_NRING5 : Nat := 0x1800214
abbrev HL_NRING5_PROD : Fld := ⟨HL_NRING5, 15, 0⟩
abbrev HL_NRING5_CONS : Fld := ⟨HL_NRING5, 31, 16⟩
/-- The address of HL_NRING6 (R321). -/
abbrev HL_NRING6 : Nat := 0x1800218
abbrev HL_NRING6_IRQ_COUNT : Fld := ⟨HL_NRING6, 13, 0⟩
abbrev HL_NRING6_IRQ_TIME : Fld := ⟨HL_NRING6, 31, 16⟩
/-- The address of HL_NRING7 (R321). -/
abbrev HL_NRING7 : Nat := 0x180021c
/-- The address of HL_NSTAT (R321). -/
abbrev HL_NSTAT : Nat := 0x1800220
abbrev HL_NSTAT_LOST : Fld := ⟨HL_NSTAT, 15, 0⟩
abbrev HL_NSTAT_BUFFERED : Fld := ⟨HL_NSTAT, 25, 16⟩
abbrev HL_NSTAT_WINDOW : Fld := ⟨HL_NSTAT, 26, 26⟩
/-- The address of HL_SESSERR (R321). -/
abbrev HL_SESSERR : Nat := 0x1800224
abbrev HL_SESSERR_COUNT : Fld := ⟨HL_SESSERR, 15, 0⟩
abbrev HL_SESSERR_KIND : Fld := ⟨HL_SESSERR, 17, 16⟩
abbrev HL_SESSERR_INDEX : Fld := ⟨HL_SESSERR, 25, 18⟩
/-- The address of HL_DMACFG (R321). -/
abbrev HL_DMACFG : Nat := 0x1800228
abbrev HL_DMACFG_CPL_TIMEOUT : Fld := ⟨HL_DMACFG, 15, 0⟩
/-- The address of HL_ENGSTAT (R321). -/
abbrev HL_ENGSTAT : Nat := 0x180022c
abbrev HL_ENGSTAT_BUSY_PCT : Fld := ⟨HL_ENGSTAT, 6, 0⟩
abbrev HL_ENGSTAT_SLOTS : Fld := ⟨HL_ENGSTAT, 16, 8⟩
/-- The address of HL_LINKSTAT (R321). -/
abbrev HL_LINKSTAT : Nat := 0x1800230
abbrev HL_LINKSTAT_SPEED : Fld := ⟨HL_LINKSTAT, 2, 0⟩
abbrev HL_LINKSTAT_WIDTH : Fld := ⟨HL_LINKSTAT, 5, 3⟩
abbrev HL_LINKSTAT_UP : Fld := ⟨HL_LINKSTAT, 6, 6⟩
abbrev HL_LINKSTAT_BME : Fld := ⟨HL_LINKSTAT, 7, 7⟩
abbrev HL_LINKSTAT_DOWNS : Fld := ⟨HL_LINKSTAT, 31, 16⟩
/-- The address of HL_NRATE (R321). -/
abbrev HL_NRATE (i : Nat) : Nat := 0x1800300 + 4 * i
abbrev HL_NRATE_RATE (i : Nat) : Fld := ⟨HL_NRATE i, 7, 0⟩
abbrev HL_NRATE_BURST (i : Nat) : Fld := ⟨HL_NRATE i, 15, 8⟩
abbrev HL_NRATE_DELAYED (i : Nat) : Fld := ⟨HL_NRATE i, 31, 16⟩
/-- The address of HL_WIN0 (R321). -/
abbrev HL_WIN0 (i : Nat) : Nat := 0x1800400 + 16 * i
abbrev HL_WIN0_RD (i : Nat) : Fld := ⟨HL_WIN0 i, 0, 0⟩
abbrev HL_WIN0_WR (i : Nat) : Fld := ⟨HL_WIN0 i, 1, 1⟩
abbrev HL_WIN0_BASE_LO (i : Nat) : Fld := ⟨HL_WIN0 i, 31, 12⟩
/-- The address of HL_WIN1 (R321). -/
abbrev HL_WIN1 (i : Nat) : Nat := 0x1800404 + 16 * i
abbrev HL_WIN1_BASE_HI (i : Nat) : Fld := ⟨HL_WIN1 i, 31, 0⟩
/-- The address of HL_WIN2 (R321). -/
abbrev HL_WIN2 (i : Nat) : Nat := 0x1800408 + 16 * i
abbrev HL_WIN2_LIMIT_LO (i : Nat) : Fld := ⟨HL_WIN2 i, 31, 12⟩
/-- The address of HL_WIN3 (R321). -/
abbrev HL_WIN3 (i : Nat) : Nat := 0x180040c + 16 * i
abbrev HL_WIN3_LIMIT_HI (i : Nat) : Fld := ⟨HL_WIN3 i, 31, 0⟩
/-- The address of HL_DRING0 (R321). -/
abbrev HL_DRING0 (i : Nat) : Nat := 0x1810000 + 32 * i
abbrev HL_DRING0_BASE_LO (i : Nat) : Fld := ⟨HL_DRING0 i, 31, 5⟩
/-- The address of HL_DRING1 (R321). -/
abbrev HL_DRING1 (i : Nat) : Nat := 0x1810004 + 32 * i
abbrev HL_DRING1_BASE_HI (i : Nat) : Fld := ⟨HL_DRING1 i, 31, 0⟩
/-- The address of HL_DRING2 (R321). -/
abbrev HL_DRING2 (i : Nat) : Nat := 0x1810008 + 32 * i
abbrev HL_DRING2_SIZE (i : Nat) : Fld := ⟨HL_DRING2 i, 3, 0⟩
abbrev HL_DRING2_EN (i : Nat) : Fld := ⟨HL_DRING2 i, 4, 4⟩
abbrev HL_DRING2_VECTOR (i : Nat) : Fld := ⟨HL_DRING2 i, 10, 5⟩
abbrev HL_DRING2_PERIPH (i : Nat) : Fld := ⟨HL_DRING2 i, 11, 11⟩
/-- The address of HL_DRING3 (R321). -/
abbrev HL_DRING3 (i : Nat) : Nat := 0x181000c + 32 * i
abbrev HL_DRING3_CONS (i : Nat) : Fld := ⟨HL_DRING3 i, 15, 0⟩
abbrev HL_DRING3_PROD (i : Nat) : Fld := ⟨HL_DRING3 i, 31, 16⟩
/-- The address of HL_DRING4 (R321). -/
abbrev HL_DRING4 (i : Nat) : Nat := 0x1810010 + 32 * i
abbrev HL_DRING4_DONE (i : Nat) : Fld := ⟨HL_DRING4 i, 15, 0⟩
abbrev HL_DRING4_ERRORS (i : Nat) : Fld := ⟨HL_DRING4 i, 31, 16⟩
/-- The address of HL_DRING5 (R321). -/
abbrev HL_DRING5 (i j : Nat) : Nat := 0x1810014 + 32 * i + 4 * j
/-- The address of TN_CTL (R344). -/
abbrev TN_CTL : Nat := 0x1a00000
abbrev TN_CTL_AUTORETRY : Fld := ⟨TN_CTL, 0, 0⟩
abbrev TN_CTL_RETRIES : Fld := ⟨TN_CTL, 4, 1⟩
abbrev TN_CTL_WAIT_LIMIT : Fld := ⟨TN_CTL, 15, 8⟩
/-- The address of TN_STAT (R344). -/
abbrev TN_STAT : Nat := 0x1a00004
abbrev TN_STAT_OPEN : Fld := ⟨TN_STAT, 9, 0⟩
abbrev TN_STAT_REFUSED : Fld := ⟨TN_STAT, 31, 16⟩
/-- The address of TN_CNT (R344). -/
abbrev TN_CNT : Nat := 0x1a00008
abbrev TN_CNT_COMMITTED : Fld := ⟨TN_CNT, 15, 0⟩
abbrev TN_CNT_ABORTED : Fld := ⟨TN_CNT, 31, 16⟩
/-- The address of TN_WOUND (R344). -/
abbrev TN_WOUND : Nat := 0x1a0000c
abbrev TN_WOUND_WOUNDS : Fld := ⟨TN_WOUND, 15, 0⟩
abbrev TN_WOUND_RETRIES : Fld := ⟨TN_WOUND, 31, 16⟩
/-- The address of TN_CUT (R344). -/
abbrev TN_CUT : Nat := 0x1a00010
abbrev TN_CUT_PLC : Fld := ⟨TN_CUT, 15, 0⟩
abbrev TN_CUT_CHIRP : Fld := ⟨TN_CUT, 31, 16⟩
/-- The address of TN_BCFG (R344). -/
abbrev TN_BCFG : Nat := 0x1a00014
abbrev TN_BCFG_VOTE_LEAD : Fld := ⟨TN_BCFG, 7, 0⟩
abbrev TN_BCFG_GUARD : Fld := ⟨TN_BCFG, 15, 8⟩
abbrev TN_BCFG_BSTAGEQ : Fld := ⟨TN_BCFG, 29, 16⟩
abbrev TN_BCFG_BSTAGE_EN : Fld := ⟨TN_BCFG, 30, 30⟩
/-- The address of TN_SPLIT (R344). -/
abbrev TN_SPLIT : Nat := 0x1a00018
abbrev TN_SPLIT_COUNT : Fld := ⟨TN_SPLIT, 15, 0⟩
/-- The address of TN_SLOT0 (R344). -/
abbrev TN_SLOT0 (i : Nat) : Nat := 0x1a01000 + 16 * i
abbrev TN_SLOT0_STATE (i : Nat) : Fld := ⟨TN_SLOT0 i, 2, 0⟩
abbrev TN_SLOT0_BENCH (i : Nat) : Fld := ⟨TN_SLOT0 i, 3, 3⟩
abbrev TN_SLOT0_ACTIONS (i : Nat) : Fld := ⟨TN_SLOT0 i, 10, 4⟩
abbrev TN_SLOT0_WOUNDS (i : Nat) : Fld := ⟨TN_SLOT0 i, 14, 11⟩
abbrev TN_SLOT0_WAITAT (i : Nat) : Fld := ⟨TN_SLOT0 i, 22, 16⟩
abbrev TN_SLOT0_GEN (i : Nat) : Fld := ⟨TN_SLOT0 i, 29, 23⟩
/-- The address of TN_SLOT1 (R344). -/
abbrev TN_SLOT1 (i : Nat) : Nat := 0x1a01004 + 16 * i
abbrev TN_SLOT1_AGE (i : Nat) : Fld := ⟨TN_SLOT1 i, 31, 0⟩
/-- The address of TN_SLOT2 (R344). -/
abbrev TN_SLOT2 (i : Nat) : Nat := 0x1a01008 + 16 * i
abbrev TN_SLOT2_AGE (i : Nat) : Fld := ⟨TN_SLOT2 i, 31, 0⟩
/-- The address of TN_SLOT3 (R344). -/
abbrev TN_SLOT3 (i : Nat) : Nat := 0x1a0100c + 16 * i
abbrev TN_SLOT3_FRAC (i : Nat) : Fld := ⟨TN_SLOT3 i, 15, 0⟩
abbrev TN_SLOT3_MEMBER (i : Nat) : Fld := ⟨TN_SLOT3 i, 20, 16⟩
/-- The address of BN_CFG (R372). -/
abbrev BN_CFG : Nat := 0x1c00000
abbrev BN_CFG_ROLE : Fld := ⟨BN_CFG, 1, 0⟩
abbrev BN_CFG_MEMBER : Fld := ⟨BN_CFG, 6, 2⟩
abbrev BN_CFG_NMEMB : Fld := ⟨BN_CFG, 11, 7⟩
abbrev BN_CFG_TOPO : Fld := ⟨BN_CFG, 12, 12⟩
abbrev BN_CFG_TWIN_PORT : Fld := ⟨BN_CFG, 13, 13⟩
abbrev BN_CFG_BORROW : Fld := ⟨BN_CFG, 14, 14⟩
abbrev BN_CFG_ACK_TIMEOUT : Fld := ⟨BN_CFG, 23, 16⟩
abbrev BN_CFG_WTR : Fld := ⟨BN_CFG, 31, 24⟩
/-- The address of BN_GRPCFG (R372). -/
abbrev BN_GRPCFG (i : Nat) : Nat := 0x1c00010 + 4 * i
abbrev BN_GRPCFG_LANES (i : Nat) : Fld := ⟨BN_GRPCFG i, 4, 0⟩
abbrev BN_GRPCFG_GCM (i : Nat) : Fld := ⟨BN_GRPCFG i, 5, 5⟩
abbrev BN_GRPCFG_DRAWER (i : Nat) : Fld := ⟨BN_GRPCFG i, 17, 6⟩
/-- The address of BN_GRPSTAT (R372). -/
abbrev BN_GRPSTAT (i : Nat) : Nat := 0x1c00020 + 4 * i
abbrev BN_GRPSTAT_STATE (i : Nat) : Fld := ⟨BN_GRPSTAT i, 1, 0⟩
abbrev BN_GRPSTAT_RDI_RX (i : Nat) : Fld := ⟨BN_GRPSTAT i, 2, 2⟩
abbrev BN_GRPSTAT_MISMATCH (i : Nat) : Fld := ⟨BN_GRPSTAT i, 3, 3⟩
abbrev BN_GRPSTAT_SKEW (i : Nat) : Fld := ⟨BN_GRPSTAT i, 16, 8⟩
/-- The address of BN_GRPERR (R372). -/
abbrev BN_GRPERR (i : Nat) : Nat := 0x1c00028 + 4 * i
abbrev BN_GRPERR_CELLERR (i : Nat) : Fld := ⟨BN_GRPERR i, 11, 0⟩
abbrev BN_GRPERR_AUTHFAIL (i : Nat) : Fld := ⟨BN_GRPERR i, 21, 12⟩
abbrev BN_GRPERR_MSGLOST (i : Nat) : Fld := ⟨BN_GRPERR i, 31, 22⟩
/-- The address of BN_LANESTAT (R372). -/
abbrev BN_LANESTAT (i : Nat) : Nat := 0x1c00100 + 4 * i
abbrev BN_LANESTAT_LOCK (i : Nat) : Fld := ⟨BN_LANESTAT i, 0, 0⟩
abbrev BN_LANESTAT_INFRAME (i : Nat) : Fld := ⟨BN_LANESTAT i, 1, 1⟩
abbrev BN_LANESTAT_INMF (i : Nat) : Fld := ⟨BN_LANESTAT i, 2, 2⟩
abbrev BN_LANESTAT_ERRFR (i : Nat) : Fld := ⟨BN_LANESTAT i, 31, 16⟩
/-- The address of BN_PERF (R372). -/
abbrev BN_PERF (i : Nat) : Nat := 0x1c00200 + 8 * i
abbrev BN_PERF_ES (i : Nat) : Fld := ⟨BN_PERF i, 15, 0⟩
abbrev BN_PERF_SES (i : Nat) : Fld := ⟨BN_PERF i, 31, 16⟩
/-- The address of BN_UAS (R372). -/
abbrev BN_UAS (i : Nat) : Nat := 0x1c00204 + 8 * i
abbrev BN_UAS_UAS (i : Nat) : Fld := ⟨BN_UAS i, 15, 0⟩
abbrev BN_UAS_UNAVAIL (i : Nat) : Fld := ⟨BN_UAS i, 16, 16⟩
/-- The address of BN_REACH (R372). -/
abbrev BN_REACH : Nat := 0x1c00300
abbrev BN_REACH_REACH : Fld := ⟨BN_REACH, 31, 0⟩
/-- The address of BN_REQSTAT (R372). -/
abbrev BN_REQSTAT : Nat := 0x1c00304
abbrev BN_REQSTAT_RETRY : Fld := ⟨BN_REQSTAT, 15, 0⟩
abbrev BN_REQSTAT_UNROUTABLE : Fld := ⟨BN_REQSTAT, 31, 16⟩
/-- The address of BN_LEASESTAT (R372). -/
abbrev BN_LEASESTAT : Nat := 0x1c00308
abbrev BN_LEASESTAT_LENT : Fld := ⟨BN_LEASESTAT, 15, 0⟩
abbrev BN_LEASESTAT_LOST : Fld := ⟨BN_LEASESTAT, 31, 16⟩
/-- The address of BN_LEASE (R372). -/
abbrev BN_LEASE (i : Nat) : Nat := 0x1c00400 + 4 * i
abbrev BN_LEASE_BORROWER (i : Nat) : Fld := ⟨BN_LEASE i, 4, 0⟩
abbrev BN_LEASE_COUNT (i : Nat) : Fld := ⟨BN_LEASE i, 13, 5⟩
/-- The address of BN_CREDIT (R372). -/
abbrev BN_CREDIT (i : Nat) : Nat := 0x1c00440 + 4 * i
abbrev BN_CREDIT_CREDITS (i : Nat) : Fld := ⟨BN_CREDIT i, 8, 0⟩
/-- The address of PF_CFG (R372). -/
abbrev PF_CFG : Nat := 0x1d00000
abbrev PF_CFG_ADDR : Fld := ⟨PF_CFG, 15, 0⟩
abbrev PF_CFG_HANDQ : Fld := ⟨PF_CFG, 29, 16⟩
/-- The address of PF_STAT (R372). -/
abbrev PF_STAT : Nat := 0x1d00004
abbrev PF_STAT_RTFULL : Fld := ⟨PF_STAT, 15, 0⟩
abbrev PF_STAT_NOROUTE : Fld := ⟨PF_STAT, 31, 16⟩
/-- The address of PF_PORTCFG (R372). -/
abbrev PF_PORTCFG (i : Nat) : Nat := 0x1d00010 + 16 * i
abbrev PF_PORTCFG_LANES (i : Nat) : Fld := ⟨PF_PORTCFG i, 2, 0⟩
abbrev PF_PORTCFG_GCM (i : Nat) : Fld := ⟨PF_PORTCFG i, 3, 3⟩
abbrev PF_PORTCFG_DRAWER (i : Nat) : Fld := ⟨PF_PORTCFG i, 15, 4⟩
/-- The address of PF_PORTSTAT (R372). -/
abbrev PF_PORTSTAT (i : Nat) : Nat := 0x1d00014 + 16 * i
abbrev PF_PORTSTAT_STATE (i : Nat) : Fld := ⟨PF_PORTSTAT i, 1, 0⟩
abbrev PF_PORTSTAT_NEIGH_UP (i : Nat) : Fld := ⟨PF_PORTSTAT i, 2, 2⟩
abbrev PF_PORTSTAT_DUPADDR (i : Nat) : Fld := ⟨PF_PORTSTAT i, 3, 3⟩
abbrev PF_PORTSTAT_NEIGH (i : Nat) : Fld := ⟨PF_PORTSTAT i, 31, 16⟩
/-- The address of PF_TIMEOFS (R372). -/
abbrev PF_TIMEOFS (i : Nat) : Nat := 0x1d00018 + 16 * i
abbrev PF_TIMEOFS_OFS (i : Nat) : Fld := ⟨PF_TIMEOFS i, 31, 0⟩
/-- The address of PF_RT (R372). -/
abbrev PF_RT (i : Nat) : Nat := 0x1d01000 + 4 * i
abbrev PF_RT_ADDR (i : Nat) : Fld := ⟨PF_RT i, 15, 0⟩
abbrev PF_RT_METRIC (i : Nat) : Fld := ⟨PF_RT i, 20, 16⟩
abbrev PF_RT_PORT (i : Nat) : Fld := ⟨PF_RT i, 22, 21⟩
abbrev PF_RT_VALID (i : Nat) : Fld := ⟨PF_RT i, 23, 23⟩
/-- The address of SV_CFG (R393). -/
abbrev SV_CFG : Nat := 0x1e00000
abbrev SV_CFG_RING : Fld := ⟨SV_CFG, 7, 0⟩
abbrev SV_CFG_FIELD_WR : Fld := ⟨SV_CFG, 8, 8⟩
/-- The address of SV_STAT (R393). -/
abbrev SV_STAT : Nat := 0x1e00004
abbrev SV_STAT_FIELD : Fld := ⟨SV_STAT, 0, 0⟩
/-- The address of SV_CNT (R393). -/
abbrev SV_CNT : Nat := 0x1e00008
abbrev SV_CNT_BUSY : Fld := ⟨SV_CNT, 15, 0⟩
abbrev SV_CNT_LOCKED : Fld := ⟨SV_CNT, 31, 16⟩
/-- The address of SV_UID_LO (R393). -/
abbrev SV_UID_LO : Nat := 0x1e00010
abbrev SV_UID_LO_UID : Fld := ⟨SV_UID_LO, 31, 0⟩
/-- The address of SV_UID_HI (R393). -/
abbrev SV_UID_HI : Nat := 0x1e00014
abbrev SV_UID_HI_UID : Fld := ⟨SV_UID_HI, 31, 0⟩
/-- The address of SV_LDGSTAT (R393). -/
abbrev SV_LDGSTAT : Nat := 0x1e00018
abbrev SV_LDGSTAT_FAILS : Fld := ⟨SV_LDGSTAT, 15, 0⟩
abbrev SV_LDGSTAT_BADCOPY : Fld := ⟨SV_LDGSTAT, 31, 16⟩
/-- The address of QMEM (R275). -/
abbrev QMEM (i : Nat) : Nat := 0x10000000 + 4 * i
abbrev QMEM_WORD (i : Nat) : Fld := ⟨QMEM i, 31, 0⟩
/-- The address of EP0 (R225). -/
abbrev EP0 (i : Nat) : Nat := 0x20000000 + 64 * i
abbrev EP0_STATE (i : Nat) : Fld := ⟨EP0 i, 1, 0⟩
abbrev EP0_SLEEPY (i : Nat) : Fld := ⟨EP0 i, 2, 2⟩
abbrev EP0_MEDIUM (i : Nat) : Fld := ⟨EP0 i, 3, 3⟩
abbrev EP0_SF (i : Nat) : Fld := ⟨EP0 i, 6, 4⟩
abbrev EP0_CHANNEL (i : Nat) : Fld := ⟨EP0 i, 11, 7⟩
abbrev EP0_PORT (i : Nat) : Fld := ⟨EP0 i, 18, 12⟩
abbrev EP0_BAND (i : Nat) : Fld := ⟨EP0 i, 20, 19⟩
abbrev EP0_CR (i : Nat) : Fld := ⟨EP0 i, 23, 21⟩
abbrev EP0_DLEARNED (i : Nat) : Fld := ⟨EP0 i, 24, 24⟩
abbrev EP0_MBXN (i : Nat) : Fld := ⟨EP0 i, 27, 25⟩
/-- The address of EP1 (R225). -/
abbrev EP1 (i : Nat) : Nat := 0x20000004 + 64 * i
abbrev EP1_KEY (i : Nat) : Fld := ⟨EP1 i, 16, 0⟩
abbrev EP1_DRAWER (i : Nat) : Fld := ⟨EP1 i, 17, 17⟩
abbrev EP1_KEYSEL (i : Nat) : Fld := ⟨EP1 i, 18, 18⟩
/-- The address of EP2 (R225). -/
abbrev EP2 (i : Nat) : Nat := 0x20000008 + 64 * i
abbrev EP2_ROUTE (i : Nat) : Fld := ⟨EP2 i, 15, 0⟩
abbrev EP2_RT_EN (i : Nat) : Fld := ⟨EP2 i, 16, 16⟩
/-- The address of EP3 (R225). -/
abbrev EP3 (i : Nat) : Nat := 0x2000000c + 64 * i
abbrev EP3_EVT_TX (i : Nat) : Fld := ⟨EP3 i, 31, 0⟩
/-- The address of EP4 (R225). -/
abbrev EP4 (i : Nat) : Nat := 0x20000010 + 64 * i
abbrev EP4_EVT_RX (i : Nat) : Fld := ⟨EP4 i, 31, 0⟩
/-- The address of EP5 (R225). -/
abbrev EP5 (i : Nat) : Nat := 0x20000014 + 64 * i
abbrev EP5_CHMAP (i : Nat) : Fld := ⟨EP5 i, 31, 0⟩
/-- The address of EP6 (R225). -/
abbrev EP6 (i : Nat) : Nat := 0x20000018 + 64 * i
abbrev EP6_CHMAP (i : Nat) : Fld := ⟨EP6 i, 31, 0⟩
/-- The address of EP7 (R225). -/
abbrev EP7 (i : Nat) : Nat := 0x2000001c + 64 * i
abbrev EP7_SUPERV (i : Nat) : Fld := ⟨EP7 i, 24, 0⟩
/-- The address of EP8 (R225). -/
abbrev EP8 (i : Nat) : Nat := 0x20000020 + 64 * i
abbrev EP8_LASTRX (i : Nat) : Fld := ⟨EP8 i, 31, 0⟩
/-- The address of EP9 (R225). -/
abbrev EP9 (i : Nat) : Nat := 0x20000024 + 64 * i
abbrev EP9_LASTRX (i : Nat) : Fld := ⟨EP9 i, 31, 0⟩
/-- The address of EP10 (R225). -/
abbrev EP10 (i : Nat) : Nat := 0x20000028 + 64 * i
abbrev EP10_FOFS (i : Nat) : Fld := ⟨EP10 i, 23, 0⟩
abbrev EP10_GSTEP (i : Nat) : Fld := ⟨EP10 i, 29, 24⟩
/-- The address of EP11 (R225). -/
abbrev EP11 (i : Nat) : Nat := 0x2000002c + 64 * i
abbrev EP11_DRIFT (i : Nat) : Fld := ⟨EP11 i, 15, 0⟩
abbrev EP11_TOFS (i : Nat) : Fld := ⟨EP11 i, 31, 16⟩
/-- The address of EP12 (R225). -/
abbrev EP12 (i : Nat) : Nat := 0x20000030 + 64 * i
abbrev EP12_MBX0 (i : Nat) : Fld := ⟨EP12 i, 15, 0⟩
abbrev EP12_MBX1 (i : Nat) : Fld := ⟨EP12 i, 31, 16⟩
/-- The address of EP13 (R225). -/
abbrev EP13 (i : Nat) : Nat := 0x20000034 + 64 * i
abbrev EP13_MBX2 (i : Nat) : Fld := ⟨EP13 i, 15, 0⟩
abbrev EP13_MBX3 (i : Nat) : Fld := ⟨EP13 i, 31, 16⟩
/-- The address of EP14 (R225). -/
abbrev EP14 (i : Nat) : Nat := 0x20000038 + 64 * i
abbrev EP14_LASTSYNC (i : Nat) : Fld := ⟨EP14 i, 31, 0⟩
/-- The address of EP15 (R225). -/
abbrev EP15 (i : Nat) : Nat := 0x2000003c + 64 * i
abbrev EP15_LASTSYNC (i : Nat) : Fld := ⟨EP15 i, 31, 0⟩
/-- The address of RT0 (R244). -/
abbrev RT0 (i : Nat) : Nat := 0x20800000 + 16 * i
abbrev RT0_VALID (i : Nat) : Fld := ⟨RT0 i, 0, 0⟩
abbrev RT0_MEDIUM (i : Nat) : Fld := ⟨RT0 i, 2, 1⟩
abbrev RT0_PORT (i : Nat) : Fld := ⟨RT0 i, 9, 3⟩
abbrev RT0_BAND (i : Nat) : Fld := ⟨RT0 i, 11, 10⟩
abbrev RT0_MEMBER (i : Nat) : Fld := ⟨RT0 i, 16, 12⟩
abbrev RT0_TXQ (i : Nat) : Fld := ⟨RT0 i, 30, 17⟩
/-- The address of RT1 (R244). -/
abbrev RT1 (i : Nat) : Nat := 0x20800004 + 16 * i
abbrev RT1_NEXT_HOP (i : Nat) : Fld := ⟨RT1 i, 31, 0⟩
/-- The address of RT2 (R244). -/
abbrev RT2 (i : Nat) : Nat := 0x20800008 + 16 * i
abbrev RT2_USES (i : Nat) : Fld := ⟨RT2 i, 31, 0⟩
/-- The address of RT3 (R244). -/
abbrev RT3 (i : Nat) : Nat := 0x2080000c + 16 * i
end F

end Sys2Proof.Machine
end

