-- ==== Sys2Proof/Machine/Flags.lean ====
section
/-! DEFINITION. The statuses of commands, actions and descriptors (R308, R309 and the tables of the other chapters), the
notice codes (R312) and the source blocks (R311, R424). A status is GROUP in [15:8] and VALUE in [7:0]. -/
namespace Sys2Proof.Machine

/-! ## Group 0x00 (R309) -/
abbrev stOK : Nat := 0x00
abbrev stINVALID_VALUE : Nat := 0x01
abbrev stBAD_OPCODE : Nat := 0x02
abbrev stBAD_ADDRESS : Nat := 0x03
abbrev stNOT_PRIVILEGED : Nat := 0x04
abbrev stREAD_ONLY : Nat := 0x05
abbrev stMODE_REFUSED : Nat := 0x06
abbrev stMODE_SILENT : Nat := 0x07
abbrev stDOMAIN_DOWN : Nat := 0x08
abbrev stABORTED_POWER : Nat := 0x09
abbrev stMISSED_LAUNCH : Nat := 0x0A
abbrev stLAUNCH_FULL : Nat := 0x0B
abbrev stLAUNCH_LATE : Nat := 0x0C
abbrev stLAUNCH_RANGE : Nat := 0x0D
abbrev stTOO_LATE : Nat := 0x0E
abbrev stNOT_FOUND : Nat := 0x0F
abbrev stCANCELLED : Nat := 0x10
abbrev stNO_MAINS : Nat := 0x11
abbrev stTIME_STEPPED : Nat := 0x12
abbrev stSTEP_REFUSED : Nat := 0x13
abbrev stRF_BUSY : Nat := 0x14
abbrev stRFC_NAK : Nat := 0x15
abbrev stRFC_TIMEOUT : Nat := 0x16
abbrev stTXN_LIMIT : Nat := 0x17
abbrev stACTIONS_FULL : Nat := 0x18
abbrev stAMEND_INVALID : Nat := 0x19
abbrev stAMEND_STALE : Nat := 0x1A
abbrev stAMEND_FORBIDDEN : Nat := 0x1B
abbrev stAMEND_CONFLICT : Nat := 0x1C
abbrev stROUTE_FULL : Nat := 0x1D
abbrev stMAILBOX_FULL : Nat := 0x1E
abbrev stEVT_EXHAUSTED : Nat := 0x1F
abbrev stCIPHER_FULL : Nat := 0x20
abbrev stCIPHER_FAULT : Nat := 0x21
abbrev stKEY_USE : Nat := 0x22
abbrev stNO_KEY : Nat := 0x23
abbrev stKEY_UNWRAP_FAIL : Nat := 0x24
abbrev stKEYSTAGE_FULL : Nat := 0x25
abbrev stAUTH_FAIL : Nat := 0x26
abbrev stITEM_SHORT : Nat := 0x27
abbrev stOUT_FULL : Nat := 0x28
abbrev stQUEUE_OFF : Nat := 0x29
abbrev stQUEUE_BUSY : Nat := 0x2A
abbrev stQUEUE_FULL : Nat := 0x2B
abbrev stITEM_FORMAT : Nat := 0x2C
abbrev stFLUSHED_MID_ITEM : Nat := 0x2D
abbrev stQUEUE_UNDERRUN : Nat := 0x2E
abbrev stQUEUE_ECC : Nat := 0x2F
abbrev stWINDOW_VIOLATION : Nat := 0x30
abbrev stBUFFER_SHORT : Nat := 0x31
abbrev stREQUEST_WITHDRAWN : Nat := 0x32
abbrev stDMA_ERROR : Nat := 0x33
abbrev stSV_BUSY : Nat := 0x34

/-! ## Group 0x04, transactions (R343) -/
abbrev stTXN_ABORTED : Nat := 0x401
abbrev stWOUNDED : Nat := 0x402
abbrev stVOTE_NO : Nat := 0x403
abbrev stVOTE_MISSING : Nat := 0x404
abbrev stDECISION_MISSING : Nat := 0x405
abbrev stOUTCOME_SPLIT : Nat := 0x406
abbrev stCOMMIT_TOO_SOON : Nat := 0x407
abbrev stNOT_OPEN : Nat := 0x408
abbrev stLOCK_TIMEOUT : Nat := 0x409
abbrev stSTAGE_MISSING : Nat := 0x40A
abbrev stSTAGE_LOST : Nat := 0x40B

/-! ## Group 0x05, bench (chapter 14) -/
abbrev stBENCH_TIMEOUT : Nat := 0x501
abbrev stNO_MEMBER : Nat := 0x502
abbrev stNOT_MASTER : Nat := 0x503
abbrev stPEER_UNREACHABLE : Nat := 0x504
abbrev stBENCH_LOST : Nat := 0x505

/-! ## Group 0x06, faults and service (R391) -/
abbrev stUNIT_FAULT : Nat := 0x601
abbrev stNO_RECORD : Nat := 0x602
abbrev stLEDGER_RANGE : Nat := 0x603
abbrev stLEDGER_ACCESS : Nat := 0x604
abbrev stLEDGER_FAIL : Nat := 0x605

/-! ## Notice codes (R312, R342, R370, R392) -/
abbrev ncCOMPLETION : Nat := 0x01
abbrev ncNOTICES_LOST : Nat := 0x02
abbrev ncSESSION_ERROR : Nat := 0x03
abbrev ncHOST_LINK_STATE : Nat := 0x04
abbrev ncMODE_CHANGE : Nat := 0x10
abbrev ncDOMAIN_STATE : Nat := 0x11
abbrev ncDOMAIN_ABORTED : Nat := 0x12
abbrev ncTWIN_TAKEOVER : Nat := 0x13
abbrev ncTWIN_LINK_LOST : Nat := 0x14
abbrev ncTWIN_CONFLICT : Nat := 0x15
abbrev ncFAULT_ENTERED : Nat := 0x16
abbrev ncIMAGE_DEFAULTED : Nat := 0x18
abbrev ncSTRUCT_WRITE_REFUSED : Nat := 0x19
abbrev ncTIME_STEPPED : Nat := 0x20
abbrev ncTIME_REF_STATE : Nat := 0x21
abbrev ncTIME_REF_REJECTED : Nat := 0x22
abbrev ncTOD_MISMATCH : Nat := 0x23
abbrev ncHOLDOVER_EXPIRED : Nat := 0x24
abbrev ncMAINS_STATE : Nat := 0x25
abbrev ncLAUNCH_DONE : Nat := 0x26
abbrev ncEVENT_CAPTURED : Nat := 0x27
abbrev ncRF_LINK_STATE : Nat := 0x28
abbrev ncRF_GAP : Nat := 0x29
abbrev ncPLC_NOACK : Nat := 0x30
abbrev ncACCESS_FALLBACK : Nat := 0x31
abbrev ncEP_LOST : Nat := 0x38
abbrev ncEP_PROVISIONAL : Nat := 0x39
abbrev ncEVT_EXHAUSTED : Nat := 0x3A
abbrev ncSLOT_OVERRUN : Nat := 0x3B
abbrev ncRF_NOACK : Nat := 0x3C
abbrev ncMBX_EXPIRED : Nat := 0x3D
abbrev ncAUTH_FAIL : Nat := 0x40
abbrev ncQUEUE_ECC : Nat := 0x48
abbrev ncQUEUE_OVERRUN : Nat := 0x49
abbrev ncQUEUE_OPEN_EXPIRED : Nat := 0x4A
abbrev ncQUEUE_STALE : Nat := 0x4B
abbrev ncUNIT_RETIRED : Nat := 0x50
abbrev ncFAULT_RECORD : Nat := 0x51
abbrev ncFAULT_CLOSED : Nat := 0x52
abbrev ncUNIT_WEDGED : Nat := 0x53
abbrev ncAUDIT_MISMATCH : Nat := 0x54
abbrev ncFIELD_WRITE : Nat := 0x55
abbrev ncFIELD_STATE : Nat := 0x56
abbrev ncLEDGER_FAIL : Nat := 0x57
abbrev ncTXN_DONE : Nat := 0x60
abbrev ncTXN_WOUNDED : Nat := 0x61
abbrev ncGROUP_STATE : Nat := 0x70
abbrev ncRING_PATH : Nat := 0x71
abbrev ncPERF_UAS : Nat := 0x72
abbrev ncBENCH_MISMATCH : Nat := 0x73
abbrev ncPEER_STATE : Nat := 0x74
abbrev ncPEER_ROUTE : Nat := 0x75
abbrev ncHANDOVER_IN : Nat := 0x76

/-- The source block of a notice code (R311, R424); GROUP_STATE of groups 2 to 5 is of block PF. -/
def blockOfCode (code unit : Nat) : Nat :=
  if code < 0x10 then 9
  else if code < 0x18 then 0
  else if code < 0x20 then 1
  else if code < 0x28 then 2
  else if code < 0x30 then 3
  else if code < 0x38 then 4
  else if code < 0x40 then 6
  else if code < 0x48 then 7
  else if code < 0x50 then 8
  else if code < 0x55 then 13
  else if code < 0x60 then 14
  else if code < 0x70 then 10
  else if code = 0x70 then (if unit < 2 then 11 else 12)
  else if code < 0x74 then 11
  else 12

/-- The notices R383 never merges. -/
def neverMerged (code : Nat) : Bool :=
  [ncCOMPLETION, ncNOTICES_LOST, ncSESSION_ERROR, ncHOST_LINK_STATE, ncMODE_CHANGE, ncFAULT_ENTERED,
   ncTIME_STEPPED, ncLAUNCH_DONE, ncTXN_DONE].contains code

/-- The gap of a key in ns (R383): 1 µs for EVENT_CAPTURED, else 1 ms. -/
def spanGap (code : Nat) : Nat := if code = ncEVENT_CAPTURED then 1000 else 1000000

end Sys2Proof.Machine
end

