-- ==== Sys2Proof/Machine/Types.lean ====
section
/-! DEFINITION. The pieces of the machine's state that are not words of the structure map: what the spec's rules hold
between steps, grouped by the chapter that names them. All plain data. -/
namespace Sys2Proof.Machine
open Sys2Proof

/-! ## Sparse tables -/

/-- The value a sparse table holds under a key, or `d`. -/
def aget {α : Type} (d : α) : List (Nat × α) → Nat → α
  | [], _ => d
  | (k, v) :: t, i => if k = i then v else aget d t i

/-- The table with `v` under key `i`; keys stay in rising order. -/
def aset {α : Type} : List (Nat × α) → Nat → α → List (Nat × α)
  | [], i, v => [(i, v)]
  | (k, w) :: t, i, v => if k = i then (i, v) :: t else if i < k then (i, v) :: (k, w) :: t else (k, w) :: aset t i v

/-- The table without key `i`. -/
def adel {α : Type} (l : List (Nat × α)) (i : Nat) : List (Nat × α) := l.filter (fun p => p.1 != i)

/-- The entry under key `i`, if there is one. -/
def afind {α : Type} (l : List (Nat × α)) (i : Nat) : Option α := (l.find? (fun p => p.1 == i)).map (·.2)

/-- A set of interchangeable numbered places taken in least-recently-freed order (R24, R98, R322). Places from `next`
up have never been used; `freed` lists the freed ones, oldest first; `gens` the reuse count of each reused place. -/
structure Pool where
  next : Nat := 0
  freed : List Nat := []
  gens : List (Nat × Nat) := []
  deriving DecidableEq, Repr

/-! ## Notices (R310, R383) -/

/-- A notice before it is written: header fields, payload as (bits, value) fields in order (R310), LAST_DELTA, the key
extension of R383, and whether its wait for a token has been counted (R313). -/
structure Notice where
  code : Nat
  block : Nat
  count : Nat := 1
  time : Nat
  unit : Nat := 0
  member : Nat := 0
  ext : Nat := 0
  payload : List (Nat × Nat) := []
  lastDelta : Nat := 0
  delayed : Bool := false
  deriving DecidableEq, Repr

/-- A gathering span (R384): the key, the DT in ns of its latest occurrence, its gap in ns and its held notice. -/
structure Span where
  code : Nat
  block : Nat
  unit : Nat
  member : Nat
  ext : Nat
  last : Nat
  gap : Nat
  held : Option Notice := none
  /-- The end of a gap that an occurrence came too late for, while its expiry is not yet evaluated (R106, R384). -/
  lapsed : Option Nat := none
  deriving DecidableEq, Repr

/-- The notice path: what waits to be written (completions among it, oldest first), the open spans, the count lost since
the last NOTICES_LOST (R21), the tokens of each source block (R313), and the interrupt state of R301. -/
structure NoticeState where
  buffer : List Notice := []
  spans : List Span := []
  lostSince : Nat := 0
  tokens : List (Nat × Nat) := []
  lastMs : Nat := 0
  unsignalled : Nat := 0
  firstUnsignalled : Nat := 0
  deriving DecidableEq, Repr

/-! ## Host link (chapter 12) -/

/-- A command taken from a ring: it holds a command slot until its completion is written (R300). -/
structure Taken where
  session : Nat
  opcode : Nat
  tag : Nat
  fence : Bool
  /-- Completed, its completion not yet written. -/
  done : Bool := false
  deriving DecidableEq, Repr

/-- A DMA descriptor as read, with its count in the ring (R314). -/
structure Desc where
  index : Nat
  words : List Word
  deriving DecidableEq, Repr

/-- A DMA read, an operation that holds a tag (R22, R23): the fetch of a ring's descriptors; the read of its descriptor in
progress, of a buffer or of zero length (R317); a block command's; the loader's (R46). -/
inductive DmaRead where
  | fetch (r : Nat)
  | run (r : Nat)
  | block (c : Cmd)
  | image
  deriving DecidableEq, Repr

/-- The descriptor a ring has in progress: bytes moved, the status met so far, and whether the device waits for the
zero-length read or the bench acknowledgement that completes it (R317). -/
structure DescRun where
  desc : Desc
  moved : Nat := 0
  status : Nat := 0
  started : Bool := false
  waiting : Bool := false
  /-- REMOTE: bench acknowledgements still to come (R317). -/
  acks : Nat := 0
  /-- A ledger dump waits for a field-held block since this DT (R389). -/
  held : Option Nat := none
  deriving DecidableEq, Repr

/-- A DMA ring: descriptors fetched ahead, the one in progress, and whether the ring stands at an entry read with OWN
clear until the next doorbell (R315). -/
structure RingState where
  fetched : List Desc := []
  run : Option DescRun := none
  stopped : Bool := false
  deriving DecidableEq, Repr

/-- A requester's shadow of one RS group (R108): the words latched and not yet consumed. -/
structure Shadow where
  requester : Nat
  words : List (Nat × Word)
  deriving DecidableEq, Repr

structure HostState where
  taken : List Taken := []
  lastServed : Nat := 15
  lossesSince : Nat := 0
  discardedSince : Nat := 0
  rings : List (Nat × RingState) := []
  /-- DMA reads issued and not completed, with the tag each holds (R22), and those held for want of one, in issue order (R23). -/
  reads : List (DmaRead × Nat) := []
  heldDma : List DmaRead := []
  shadows : List (Nat × List Shadow) := []
  msix : List (Nat × Word) := []
  pba : List Nat := []
  readData : List Word := []
  deriving DecidableEq, Repr

/-! ## Queues (chapter 11) -/

/-- A producer of items (R285), in notices kind in [31:28] and number in [27:0]. -/
inductive Producer where
  | hw (block index : Nat)
  | session (s : Nat)
  | ring (r : Nat)
  | txn (handle : Nat)
  deriving DecidableEq, Repr

/-- The item a queue has open: its producer, the pointer of its header, its length and the words written, and the DT
in ns of its header's write (R285, R287). -/
structure OpenItem where
  producer : Producer
  header : Nat
  len : Nat
  written : Nat
  since : Nat
  deriving DecidableEq, Repr

/-- What a queue holds beside its descriptor: the open item, the producers in orphan state (R289; true while the first
write after the flush, which is dropped whatever it carries, is still to come), reserved words
(R282, R328), Tr and Tn (R290) in ns, the DT of the last write of STALE, a stale deadline that passed before the latest read
and is still to be evaluated (R290), and the items of committed ENQUEUE actions waiting behind an open item (R328). -/
structure QueueState where
  open_ : Option OpenItem := none
  orphans : List (Producer × Bool) := []
  reserved : Nat := 0
  tr : Nat := 0
  tn : Nat := 0
  /-- Writes of the last 20 ms, newest first: when, and the end of the complete items before (R172). -/
  ends : List (Nat × Nat) := []
  staleSet : Nat := 0
  late : Option Nat := none
  behind : List (List Word) := []
  deriving DecidableEq, Repr

/-- A bank copy of R278 or R380: the logical bank, the spare, the transaction that asked, whether the copy has ended. -/
structure BankCopy where
  kind : Nat
  bank : Nat
  spare : Nat
  txn : Nat
  started : Nat
  ended : Bool := false
  deriving DecidableEq, Repr

structure QueueMemState where
  queues : List (Nat × QueueState) := []
  poison : List Nat := []
  scrubAt : List (Nat × Nat) := []
  scrubDue : List (Nat × Nat) := []
  scrubbed : List Nat := []
  copies : List BankCopy := []
  deriving DecidableEq, Repr

/-! ## Faults and spares (chapter 15) -/

/-- A fault record (R374); `serial` is the creation order the device keeps (R375). -/
structure FaultRec where
  serial : Nat
  code : Nat
  kind : Nat
  secondary : Bool
  isOpen : Bool
  escalated : Bool
  retired : Bool
  count : Nat
  unit : Nat
  primary : Nat
  first : Nat
  last : Nat
  detail : Nat
  mode : Nat
  seq : Nat
  /-- A deadline of AUTOCLOSE that a repeat came too late for, while its expiry is not yet evaluated (R106, R375). -/
  lapsed : Option Nat := none
  deriving DecidableEq, Repr

/-- One audit sequencer (R381): step number, the pair under audit, when the step's DWELL ends, and the first spare of a
mismatch being judged (R382). -/
structure Audit where
  step : Nat := 0
  live : Nat := 0
  spare : Nat := 0
  active : Bool := false
  dwellEnd : Nat := 0
  suspect : Option Nat := none
  deriving DecidableEq, Repr

structure FaultState where
  log : List (Nat × FaultRec) := []
  serial : Nat := 0
  audits : List (Nat × Audit) := []
  /-- Units that have stopped and wait for a substitution or a fragment (R379). -/
  wedged : List UnitRef := []
  /-- The core tick in which a unit wedged last, by 4,096 times its kind plus its number (R379). -/
  wedgedAt : List (Nat × Nat) := []
  /-- Units retired since the last full reset (R56, R73). -/
  retired : List UnitRef := []
  deriving DecidableEq, Repr

/-! ## The service ledger and the tag (chapter 15) -/

/-- One of the two copies of a ledger block (R387): 32 data bytes, the sequence byte, and whether its CRC is right. -/
structure LedgerCopy where
  data : List Byte := []
  seq : Nat := 0
  valid : Bool := true
  deriving DecidableEq, Repr

/-- Who holds a block's claim (R388). -/
inductive ClaimSide where
  | host | field
  deriving DecidableEq, Repr

/-- A write of a ledger block in programming: who asked, its data, and how often it was programmed. -/
structure LedgerWriteOp where
  block : Nat
  data : List Byte
  /-- The LEDGER_WRITE command that asked, if one did. -/
  cmd : Option Cmd := none
  /-- A field command asked: its claim is the field's, and a response follows. -/
  field : Bool := false
  tries : Nat := 0
  /-- The core tick of its claim (R29). -/
  tick : Nat := 0
  deriving DecidableEq, Repr

/-- A host access that waits for a field-held block (R388). -/
structure LedgerWait where
  block : Nat
  cmd : Cmd
  write : Option (List Byte)
  since : Nat
  deriving DecidableEq, Repr

/-- The ISO/IEC 15693 state of the tag. -/
inductive TagMode where
  | ready | quiet | selected
  deriving DecidableEq, Repr

structure ServiceState where
  copies : List (Nat × LedgerCopy) := []
  claims : List (Nat × ClaimSide) := []
  writes : List LedgerWriteOp := []
  waits : List LedgerWait := []
  /-- The device's own updates that wait for a field-held block: block, DT of the next retry, data (R388). -/
  retries : List (Nat × Nat × List Byte) := []
  tag : TagMode := .ready
  powered : Nat := 0
  resets : List (Nat × Nat) := []
  faultEntries : Nat := 0
  retirements : List (Nat × Nat) := []
  lifeHour : Nat := 0
  ledgerSeq : Nat := 0
  takeovers : Nat := 0
  takeoverTime : Nat := 0
  conflictTime : Nat := 0
  deriving DecidableEq, Repr

/-! ## Modes, domains, loader (chapters 02 and 03) -/

/-- The twelve modes (R59). -/
inductive Mode where
  | OFF | COLD | LOAD | CHECK | DEFAULTED | STANDBY | ACQUIRE | RUN | QUIET | SHADOW | DRAIN | FAULT
  deriving DecidableEq, Repr

/-- The encoding of R59. -/
def Mode.num : Mode → Nat
  | .OFF => 0 | .COLD => 1 | .LOAD => 2 | .CHECK => 3 | .DEFAULTED => 4 | .STANDBY => 5 | .ACQUIRE => 6
  | .RUN => 7 | .QUIET => 8 | .SHADOW => 9 | .DRAIN => 10 | .FAULT => 11

/-- A reset that a drain ends in (R72): the source of the request and the flag it carried. -/
structure PendingReset where
  cause : Nat
  hostLoad : Bool
  deriving DecidableEq, Repr

structure ModeState where
  mode : Mode := .COLD
  prev : Nat := 0
  refused : Bool := false
  defTx : Bool := false
  /-- The other twin pulls TWIN_ACTIVE_N low, as last sensed. -/
  twinOther : Bool := false
  /-- This device pulls TWIN_ACTIVE_N low. -/
  twinDriven : Bool := false
  /-- TWIN_ACTIVE_N is released once the last transmission has ended (R63, R72). -/
  twinReleasing : Bool := false
  /-- A SECONDARY shadow has sensed the line high once, at this DT in ns, and senses it again 5 µs later (R69). -/
  twinRecheck : Option Nat := none
  /-- A takeover in its first microsecond (R70): t0 in ns. -/
  takeoverAt : Option Nat := none
  /-- The last tick in which a request or an entry to FAULT changed the mode, and whether the device transmitted before it: the
  launched actions of that tick come first (R19, R65, R66). -/
  before : Option (Nat × Bool) := none
  twinLost : Bool := false
  lastTwin : Nat := 0
  wdogStart : Option Nat := none
  cause : Nat := 0
  graceful : Bool := false
  hostLoad : Bool := false
  seen : Nat := 0
  drainStart : Option Nat := none
  drainReset : Option PendingReset := none
  /-- FAULT was entered from a drain that was to end in a reset: the reset follows in the next tick (R72). -/
  resetNext : Option PendingReset := none
  bootSrc : Bool := false
  benchMasterN : Bool := true
  firstNoticeOwed : Bool := true
  loadCmd : Option (Cmd × Nat) := none
  loadFailures : Nat := 0
  loadLimit : Nat := 0
  /-- The self-test of CHECK or of the DEFAULTED entry has not ended (R68, R62). -/
  testing : Bool := false
  /-- Entry to ACQUIRE, or the end of the DEFAULTED test, with NOMINAL and ACQ_WAIT as they then were (R91, R92). -/
  acquireSince : Int := 0
  acquiring : Bool := false
  acqNominal : Nat := 0
  acqWait : Nat := 0
  deriving DecidableEq, Repr

/-- Power domains (R77): the state of each switched domain under its index (2, ON, where not listed). -/
structure DomainState where
  states : List (Nat × Nat) := []
  /-- The end of the down-ramp of a transmission cut at the drain limit, by domain (R78). -/
  rampTo : List (Nat × Nat) := []
  drainSince : List (Nat × Nat) := []
  abortList : List Nat := []
  overflow : Bool := false
  epoch : Nat := 0
  deriving DecidableEq, Repr

/-- The fuses (R53) and the loader's standing facts about the live structure. -/
structure FuseState where
  blown : Bool := false
  digest : List Byte := []
  armed : Bool := false
  busy : Bool := false
  refused : Bool := false
  /-- The staged words of CF_KEYSTAGE, and the digest in programming. -/
  stage : List (Nat × Word) := []
  burning : List Byte := []
  deriving DecidableEq, Repr

/-- What is known of the live structure beside its words: whether one is live, its public-key digest when it was signed,
its STEP_MASK and the DT of its load in ns (R386). -/
structure StructState where
  live : Bool := false
  keyDigest : List Byte := []
  stepMask : Nat := 0
  loadedAt : Nat := 0
  deriving DecidableEq, Repr

/-- The operation tags (R22): one pool per class and the tags in use. -/
structure TagState where
  txn : Pool := {}
  cipher : Pool := {}
  dma : Pool := {}
  bench : Pool := {}
  shared : Pool := {}
  inUse : List Nat := []
  highWater : Nat := 0
  deriving DecidableEq, Repr

/-! ## Time, mains and launch (chapter 04) -/

/-- The time reference (R87). Stamps are DT in ns. -/
structure RefTime where
  state : Nat := 0
  timeValid : Bool := false
  expired : Bool := false
  activePps : Nat := 0
  rejected : Bool := false
  /-- After ACCEPT the device takes the reference whatever the size of the error (R88). -/
  accepting : Bool := false
  freqOfs : Int := 0
  phaseErr : Int := 0
  /-- Phase still to be slewed out, in units of `State.dt`. -/
  slew : Int := 0
  lastGood : Nat := 0
  good : Nat := 0
  bad : Nat := 0
  /-- DT was set by TB_STEPCTL.SET and no labelled pulse or time cell has come since (R83). -/
  wasSet : Bool := false
  /-- The compensated stamp of the first pulse in ACQUIRING, until the second sets the frequency. -/
  firstPulse : Option Nat := none
  /-- By input, a second decoded from a sentence and the DT in ns of its line feed, for the next pulse (R86). -/
  labels : List (Nat × Nat × Nat) := []
  /-- The DT in ns of the latest commit that changed TB_REFCFG (R91). -/
  amendedAt : Option Nat := none
  /-- The group time cells were last taken from, 2 before the first (R104). -/
  side : Nat := 2
  lastStamp : List (Nat × Nat) := []
  mismatches : Nat := 0
  mismatchRun : Nat := 0
  holdSince : Int := 0
  pps0Since : Option Nat := none
  /-- The reference was found again on PPS_IN[1]: consecutive accepted pulses of the input not in use. -/
  otherGood : Nat := 0
  otherLast : Nat := 0
  /-- Frequency corrections of the last hour, newest first: the DT from which each was in force. -/
  history : List (Nat × Int) := []
  deriving DecidableEq, Repr

/-- A mains tracker (R93): the accepted crossings as (cycle number, stamp in ns), newest first, at most 8. -/
structure Tracker where
  state : Nat := 0
  crossings : List (Nat × Nat) := []
  /-- Expected crossings missing or rejected in a row, and those accepted while COASTING (R95). -/
  missed : Nat := 0
  run : Nat := 0
  /-- The last cycle whose crossing was accepted, rejected or missed. -/
  lastCycle : Nat := 0
  coastFrom : Nat := 0
  /-- The cycle whose boundary was acted on last (R93). -/
  boundary : Int := 0
  /-- A crossing was accepted since entry to ACQUIRE (R92). -/
  accepted : Bool := false
  deriving DecidableEq, Repr

/-- Who inserted a launch-queue entry (R96). -/
inductive Inserter where
  | host
  | access (port band : Nat)
  | beacon (port band : Nat)
  | ack (port band : Nat)
  | sched (link : Nat)
  | radioAck (pair : Nat)
  | poll (ep : Nat)
  | txn (slot : Nat)
  deriving DecidableEq, Repr

/-- A pending launch-queue entry (R96): its place, generation and eight words, in insertion order `seq`. `outside` says
that the action has begun outside the device (R101). -/
structure LqEntry where
  entry : Nat
  gen : Nat
  words : List Word
  inserter : Inserter
  seq : Nat
  staged : Bool := false
  outside : Bool := false
  /-- The core tick in which it took effect (R99), the effective launch time in 2^-16 ns, none where its tracker was UNLOCKED,
  and whether a transmission's frame was ready then (R18). -/
  due : Option Nat := none
  dueAt : Option Nat := none
  ready : Bool := false
  /-- With ANGLE set, the phase at which it takes effect, in 2^-16 cycles of the tracker's count, from the launch time on. -/
  goal : Option Int := none
  /-- An RF control-link write of the action (R138): 0 not sent, 1 accepted, 2 sent once without an answer. -/
  rfc : Nat := 0
  /-- The transmit item as read by its transmitter, and R before the read (R163, R218). -/
  item : Option (List Word) := none
  readFrom : Nat := 0
  /-- Securing of the item (R263): not asked, in the cipher engine, or ended with the frame's bytes. -/
  securing : Bool := false
  secured : Option (List Byte) := none
  /-- The ramp profile a chirp transmission took at its item read (R218), and whether its charge was made (R241). -/
  profile : Nat := 0
  charged : Bool := false
  /-- The up-ramp of the transmission has started (R217). -/
  ramped : Bool := false
  /-- FREQOFS in force before the transmission's own write (R213). -/
  ofsPrev : Nat := 0
  deriving DecidableEq, Repr

structure LaunchState where
  pool : Pool := {}
  entries : List LqEntry := []
  seq : Nat := 0
  /-- Entries mirrored from the active twin, live from a takeover on (R70, R356): place, generation, words. -/
  mirrored : List (Nat × Nat × List Word) := []
  /-- The words of the entry last freed at each place: a cancel of it is TOO_LATE (R101). -/
  past : List (Nat × List Word) := []
  /-- EVENT_IO outputs that an EVENT_EDGE action has driven high (R110). -/
  levels : List Nat := []
  deriving DecidableEq, Repr

/-! ## Sample chain (chapter 05) -/

/-- The first of two consecutive good frames (R131): its counter, the arrival of its pair 0 in 2^-16 ns, FELAT taken off, and its
characters 6 and 7. -/
structure RfCandidate where
  counter : Nat
  arrival : Int
  flags : Nat
  chg : Nat
  deriving DecidableEq, Repr

/-- An RF receive link (R131, R133): the extended counter of the last good frame, the first of two consecutive good frames, the
mapping of pair c0 to a moment of REFCLK (in 2^-16 of 1/384 ns), the first missing pair of an open gap, whether the last frame
had LOCK set; of its channelised stream the first input pair not yet channelised, the GAP samples emitted before alignment and
the moment they began, the stamps (2^-16 ns, from and before) at which samples are INV, and the launch times of MARKERs whose
sample is still to come. -/
structure RfLink where
  last : Option Nat := none
  cand : Option RfCandidate := none
  mapped : Bool := false
  c0 : Nat := 0
  ref0 : Int := 0
  missing : Option Nat := none
  locked : Bool := true
  next : Nat := 0
  begun : Nat := 0
  idle : Nat := 0
  inv : List (Int × Int) := []
  /-- The stamps at which samples are OVL (R134), and the number of the mapping, to which sample values belong. -/
  ovl : List (Int × Int) := []
  gen : Nat := 0
  marks : List Nat := []
  deriving DecidableEq, Repr

/-- The registers of a filter lane or gang (R120, R121): integrators, combs, and the FIR's inputs, newest first. -/
structure LaneRegs where
  integ : List Int := []
  comb : List Int := []
  fir : List Int := []
  deriving DecidableEq, Repr

/-- A line port's sample stream: the stamps (2^-16 ns, from and before) at which output samples are INV, the stamps at which its
lane stopped or ran again, newest first, with capture on the index of the next item's first sample (R127), the launch times of
MARKERs whose sample is still to come, the modulator's samples, newest first, up to LINE cycle `fed`, and its lane. -/
structure PortStream where
  inv : List (Nat × Nat) := []
  runs : List (Nat × Bool) := []
  capNext : Option Nat := none
  marks : List Nat := []
  levels : List ModSample := []
  fed : Nat := 0
  regs : LaneRegs := {}
  deriving DecidableEq, Repr

/-- A control-link write that no launch-queue entry carries (R137): front-end register, data and counter value. -/
structure RfcWrite where
  pair : Nat
  reg : Nat
  data : Nat
  at_ : Nat
  /-- Applied on receipt (R136). -/
  imm : Bool := false
  /-- A read (R136). -/
  rd : Bool := false
  /-- The launch-queue place of the transmission the write belongs to (R218). -/
  entry : Option Nat := none
  /-- The DT in ns of its counter: a FREQOFS write that would apply inside a transmit interval of its pair is not sent (R213). -/
  time : Option Nat := none
  retried : Bool := false
  deriving DecidableEq, Repr

structure SampleState where
  ports : List (Nat × PortStream) := []
  links : List (Nat × RfLink) := []
  /-- ID of each RF pair's front-end, as read at link bring-up (R137). -/
  frontId : List (Nat × Word) := []
  rfc : List RfcWrite := []
  /-- Writes the front-end has accepted and applies at their counters (R136, R137). -/
  accepted : List RfcWrite := []
  /-- Front-end transmit gain step per RF pair, as last written (R137). -/
  txGain : List (Nat × Nat) := []
  deriving DecidableEq, Repr

/-! ## Power line (chapters 06 and 07) -/

/-- A reception on a band channel (R156): detection, the frame's first prefix sample, the form of its preamble, the
port used, the header once decided. -/
structure PlcReception where
  detected : Nat
  start : Nat := 0
  deep : Bool := false
  port : Nat
  header : Word := 0
  nsym : Nat := 0
  deriving DecidableEq, Repr

/-- What a power-line transmission is (R173, R174, R178, R183); an attempt names the port whose class queue it serves. -/
inductive PlcTxKind where
  | host (e : LqEntry)
  | attempt (holder : Nat)
  | ack
  | beacon
  deriving DecidableEq, Repr

/-- The waveform of a power-line frame on one port (R140, R143, R152, R153, R159): its carriers k, of every symbol from the preamble on
each carrier's phase in units of 2 pi / 64, TXLVL, the port's preset, and the DT in ns of its first sample. -/
structure PlcWave where
  carriers : List Nat
  phases : List (List Nat)
  level : Nat
  preset : Nat
  start : Nat
  deriving DecidableEq, Repr

/-- A transmission on a band channel: first sample and the end of its final taper in ns, what it is, its PSDU, its
launch-queue entry and whether it asks for an acknowledgement, and its waveform on each port it is sent on (R159). -/
structure PlcSending where
  start : Nat
  end_ : Nat
  kind : PlcTxKind
  entry : LqEntry
  psdu : List Byte
  mode : Nat
  ackReq : Bool
  waves : List (Nat × PlcWave) := []
  deriving DecidableEq, Repr

/-- An attempt from a class queue (R174): the queue and class, the port it is sent on (R159), the RETRIES it began with (R187), and,
while an ACK is awaited, its deadline and the SEQ and DST it answers. -/
structure PlcAttempt where
  queue : Nat
  cls : Nat
  on_ : Nat := 0
  retries : Nat := 0
  launched : Bool := false
  waiting : Bool := false
  deadline : Nat := 0
  seq : Nat := 0
  dst : Nat := 0
  deriving DecidableEq, Repr

/-- An ACK the device owes (R178). -/
structure PlcAckDue where
  at_ : Nat
  dst : Nat
  seq : Nat
  mode : Nat
  verifiedBy : Nat
  busy : Bool := false
  ready : Bool := false
  deriving DecidableEq, Repr

structure PlcChan where
  rx : Option PlcReception := none
  tx : Option PlcSending := none
  seed : Nat := 1
  attempt : Option PlcAttempt := none
  /-- Class queues are not served until the band rejoins the live set, or transmission is permitted again (R174). -/
  blocked : Bool := false
  /-- The ACK reservation runs to this DT (R177). -/
  reservedTo : Nat := 0
  ack : Option PlcAckDue := none
  /-- End of the last own frame (R180, R182). -/
  lastEnd : Option Nat := none
  /-- When the receiver last left SYNC, HEADER and PAYLOAD, and when it last left HEADER and PAYLOAD (R175, R180). -/
  rxIdle : Nat := 0
  hpIdle : Nat := 0
  /-- A change of access settings took this mains cycle boundary as its idle start (R187). -/
  idleMin : Nat := 0
  /-- Beacon discipline: start of the superframe in progress, the end of its beacon, and whether one was sent (R183, R184). -/
  superframe : Option Nat := none
  beaconEnd : Nat := 0
  beaconSent : Bool := false
  deriving DecidableEq, Repr

/-- The duplicate table of R191: source, sequence number, when, oldest first. -/
structure DupEntry where
  src : Nat
  seq : Nat
  time : Nat
  deriving DecidableEq, Repr

structure PlcState where
  chans : List (Nat × PlcChan) := []
  /-- Per port, the DT until which detection is suspended after the last transmission (R155). -/
  suspendTo : List (Nat × Nat) := []
  dups : List DupEntry := []
  /-- Attempts used for the item at R, per class queue (R174). -/
  used : List (Nat × Nat) := []
  /-- Relayed items in class queues, by queue and pointer: they are sent on the port of TXPHASE (R159, R190). -/
  relayed : List (Nat × Nat) := []
  /-- Per port, the saturated transmit sums (R154), and the stamp in 2^-16 ns to which they are counted. -/
  clip : List (Nat × Nat) := []
  clipFrom : List (Nat × Nat) := []
  /-- Per port, the changes of PL_BLANK, newest first: when, and both words before (R158). -/
  blankWas : List (Nat × List (Nat × Word × Word)) := []
  /-- Ports whose amended access settings take effect at the next mains cycle boundary (R187), with the words that hold
  the settings still in force: ACCCFG, ACCWIN, BCNCFG and the four CSTHR. -/
  access : List (Nat × List Word) := []
  /-- Ports whose access controllers resume at the next mains cycle boundary after a takeover (R70). -/
  resuming : List Nat := []
  /-- Feeder groups whose LINE_TXEN is high, and the DT in ns at which it goes low where no transmission is left (R119). -/
  txen : List Nat := []
  txenLow : List (Nat × Nat) := []
  /-- By 4 * port + band, the grants in force to the next superframe start after an amendment of them (R187). -/
  grants : List (Nat × List (Nat × Nat × Nat)) := []
  deriving DecidableEq, Repr

/-! ## Received frames (R15, R16) -/

/-- A frame on its way from a receiver to its queue: medium (0 power line, 1 radio), receiving port and band, the receive
record's words, the PSDU or payload, the frame's end in ns and the tick in which it became due (its arrival stamp). -/
structure RxFrame where
  medium : Nat
  port : Nat
  band : Nat := 0
  record : List Word
  body : List Byte
  due : Nat
  end_ : Nat
  /-- Radio: coding rate, spreading factor − 5, channel, start of the sync word (SYNC_T), the scheduled link that took it. -/
  cr : Nat := 0
  sf : Nat := 0
  chan : Nat := 0
  sync : Nat := 0
  link : Option Nat := none
  /-- Radio: mean channel power in 0.25 dB of full scale and the front-end step at frame start (R212). -/
  power : Int := 0
  step : Nat := 0
  /-- A frame handed over by a bench member: it is routed as if received on `port` and `medium` (R245). -/
  relayed : Bool := false
  deriving DecidableEq, Repr

/-! ## Cipher engine (chapter 10) -/

/-- The two generations of a key slot (R252): key bytes, 16 or 32 of them, and the DT of the ROLL that filled the previous
one (R256). -/
structure KeyGens where
  cur : Option (List Byte) := none
  prev : Option (List Byte) := none
  rolled : Nat := 0
  deriving DecidableEq, Repr

/-- A frame the device builds and secures before it writes it (R190, R245). -/
structure RelayOut where
  src : RxFrame
  /-- Outbound medium, port, band or transmit queue, and next hop; a mailbox of entry `ep` when `mailbox`. -/
  medium : Nat
  port : Nat
  queue : Nat
  ep : Nat
  mailbox : Bool := false
  /-- Words of the item between its header and its payload, and the payload up to the security header. -/
  desc : List Word
  header : List Byte
  payload : List Byte
  /-- The route entry used. -/
  route : Option Nat := none
  deriving DecidableEq, Repr

/-- What a cipher request is for (R248). -/
inductive CipherJob where
  | verify (f : RxFrame) (ep slot : Nat)
  | secure (entry gen size : Nat)
  | relay (o : RelayOut)
  | host (c : Cmd) (words : List Word)
  deriving DecidableEq, Repr

/-- A requester of R248: sessions 0 to 15, receive paths of line ports from 0x100, of RF pairs from 0x200, access
controllers from 0x300, the slot scheduler 0x400, card ports from 0x500. -/
abbrev Requester := Nat

/-- A cipher request in the engine (R249): its tag, requester, job, the keys captured at its start (R259), the pair it
runs on, when it started, and how it ended while an earlier request of its requester holds it (R248). -/
structure CipherReq where
  tag : Nat
  requester : Requester
  cls : Nat
  job : CipherJob
  cur : Option (List Byte)
  prev : Option (List Byte)
  slot : Nat := 0
  counter : Nat := 0
  pair : Nat
  started : Nat
  ended : Option Bool := none
  deriving DecidableEq, Repr

/-- Where a T=0 command stands: a procedure byte awaited, so many data characters to come, SW2 awaited after SW1. -/
inductive T0Stage where
  | proc
  | data (left : Nat)
  | sw2 (sw1 : Byte)
  deriving DecidableEq, Repr

/-- A card port's exchange (R270): its ring, control header and APDU, the response so far, the bursts of it written, and
where the protocol stands. -/
structure CardRun where
  ring : Nat
  header : List Byte := []
  apdu : List Byte := []
  response : List Byte := []
  /-- Bytes of the response written to host memory in bursts. -/
  flushed : Nat := 0
  /-- The APDU is on the wire, and the response is complete. -/
  sent : Bool := false
  complete : Bool := false
  /-- T=0: the commands still to send after the one in progress, that one, the data characters of it that have crossed,
  where it stands, and the response length the APDU asks for (0 none). -/
  tpdus : List (List Byte) := []
  tpdu : List Byte := []
  crossed : Nat := 0
  stage : T0Stage := .proc
  le : Nat := 0
  /-- T=0: repeats of the character in reception (R269). T=1: a block has been answered by an R-block once. -/
  repeats : Nat := 0
  rblock : Bool := false
  /-- T=1: the characters of the block in reception, whether one had a parity error, and the APDU bytes not yet sent. -/
  block : List Byte := []
  bad : Bool := false
  rest : List Byte := []
  deriving DecidableEq, Repr

/-- A card port beside its registers: its exchange, its outputs, what the answer to reset gave, the T=1 sequence numbers,
the characters last sent and the repeats of one of them. -/
structure CardState where
  run : Option CardRun := none
  /-- DT in ns at which the current activation step, wait or deactivation began. -/
  since : Nat := 0
  rstHigh : Bool := false
  vccEn : Bool := false
  clkOn : Bool := false
  /-- T=0 work waiting time WI; T=1 CWI, BWI and IFSC; extra guard time. -/
  wi : Nat := 10
  cwi : Nat := 13
  bwi : Nat := 4
  ifsc : Nat := 32
  guard : Nat := 0
  ns : Nat := 0
  nr : Nat := 0
  /-- T=1: the answer to S(IFS request) has come; the waiting-time multiplier the card asked for. -/
  ifsDone : Bool := false
  wtx : Nat := 1
  lastSent : List Byte := []
  /-- The character of `lastSent` the card signalled an error on, and how often it was sent again (R269). -/
  signalled : Option (Nat × Nat) := none
  deriving DecidableEq, Repr

structure CipherState where
  keys : List (Nat × KeyGens) := []
  reqs : List CipherReq := []
  /-- Jobs of hardware requesters held at the limit of the queue (R20), oldest first. -/
  held : List (Requester × Nat × CipherJob) := []
  /-- Mismatches charged to each pipeline in the last hour, as DT in ns (R251). -/
  charges : List (Nat × List Nat) := []
  cards : List (Nat × CardState) := []
  deriving DecidableEq, Repr

/-! ## Chirp radio (chapters 08 and 09) -/

/-- A detection that waits for the allocator (R204, R205): where, the peak's bin, the stamp of its first up-chirp, the
mean channel power in 0.25 dB of full scale, and the tick of its declaration. -/
structure Detection where
  port : Nat
  chan : Nat
  sf : Nat
  bin : Nat
  start : Nat
  power : Int
  tick : Nat
  deriving DecidableEq, Repr

/-- States of a held demodulator (R206). -/
inductive DemodStage where
  | preamble | first | payload
  deriving DecidableEq, Repr

/-- A held demodulator: the detection it serves, its stage, what the header gave, the gain step at its start, how many
stronger frames are cancelled for it (R209), and the borrower whose frame it serves (R364). -/
structure Demod where
  slot : Nat
  det : Detection
  stage : DemodStage := .preamble
  syncT : Nat := 0
  len : Nat := 0
  cr : Nat := 0
  crcOn : Bool := false
  implicit : Bool := false
  step : Nat := 0
  stack : Nat := 0
  /-- What the first block gave (R201): its payload nibbles, and the codewords corrected in it (R200). -/
  nibbles : List Nat := []
  corrected : Nat := 0
  /-- A lent demodulator: the borrower, the stream and the DT of its latest SAMPLE cell (R364, R365). -/
  lent : Option (Nat × Nat × Nat) := none
  /-- BW of a lent demodulator's stream, as a channel mode, and the stamps (2^-16 ns) at which its samples are INV and OVL (R364). -/
  bw : Nat := 0
  inv : List (Int × Int) := []
  ovl : List (Int × Int) := []
  /-- A borrowed credit: the lender that demodulates (R363); such a frame holds no demodulator of the device. -/
  lender : Option Nat := none
  /-- The first input pair of sample 0 of such a frame's stream, and that of the next sample to be streamed (R364). -/
  first : Nat := 0
  next : Nat := 0
  deriving DecidableEq, Repr

/-- A radio transmission: its entry, the end of its down-ramp, the ramp in ns, and the frequency offset it set. -/
structure RfSending where
  entry : LqEntry
  start : Nat
  end_ : Nat
  dur : Nat
  ofs : Bool
  deriving DecidableEq, Repr

structure ChirpState where
  waiting : List Detection := []
  demods : List Demod := []
  sending : List (Nat × RfSending) := []
  /-- Per RF pair, the DT until which detection is suspended (R208). -/
  suspendTo : List (Nat × Nat) := []
  deriving DecidableEq, Repr

/-- The link that serves a pair in the slot in progress (R232), with its slot, channel and the scheduler's figures in
ns. -/
structure SlotServe where
  link : Nat
  asn : Nat
  start : Nat
  chan : Nat
  delta : Int
  guard : Nat
  expect : Int
  /-- Class S writes were made for the slot (R212, R213). -/
  classS : Bool := false
  deriving DecidableEq, Repr

/-- An attempt from a link's queue (R234). -/
structure RfAttempt where
  link : Nat
  queue : Nat
  pair : Nat
  launched : Bool := false
  waiting : Bool := false
  deadline : Nat := 0
  seq : Nat := 0
  dst : Nat := 0
  deriving DecidableEq, Repr

/-- An ACK the scheduled receiver owes on a pair (R234). -/
structure RfAckDue where
  at_ : Nat
  chan : Nat
  sf : Nat
  cr : Nat
  dst : Nat
  seq : Nat
  deriving DecidableEq, Repr

/-- A mailbox frame (R237): partition, cell, entry, sends made, whether it waits for ACKD. -/
structure MbxFrame where
  part : Nat
  cell : Nat
  ep : Nat
  sends : Nat := 0
  /-- The frame of this cell is being sent, under the launch handle. -/
  sending : Option Nat := none
  deriving DecidableEq, Repr

/-- An open poll response window (R238). -/
structure PollWindow where
  ep : Nat
  pair : Nat
  chan : Nat
  sf : Nat
  cr : Nat
  opens : Nat
  closes : Nat
  /-- SEQ to acknowledge, if the poll asked for it. -/
  ackSeq : Option Nat
  deriving DecidableEq, Repr

structure RadioState where
  /-- Slots prepared or in progress, by pair. -/
  serve : List (Nat × SlotServe) := []
  asn : Nat := 0
  attempts : List RfAttempt := []
  /-- Attempts used for the item at the read pointer of a link queue. -/
  used : List (Nat × Nat) := []
  acks : List (Nat × RfAckDue) := []
  polls : List PollWindow := []
  mbx : List MbxFrame := []
  /-- Downlink queues stopped at a full mailbox, with its entry (R236). -/
  dlqStopped : List (Nat × Nat) := []
  /-- Provisional entries not yet written by the host, with the DT of their creation (R226). -/
  prov : List (Nat × Nat) := []
  /-- Supervised entries whose deadline passed before a frame that renewed it: the deadline still to be evaluated (R106). -/
  lapsed : List (Nat × Nat) := []
  /-- Duty-cycle buckets by 8 * pair + sub-band, and dwell buckets by 32 * pair + channel (R240, R242): second and
  charge in ns. -/
  duty : List (Nat × List (Nat × Nat)) := []
  dwell : List (Nat × List (Nat × Nat)) := []
  /-- Links changed or removed at a commit keep their words to the end of the slot in progress (R235). -/
  oldLinks : List (Nat × List Word) := []
  deriving DecidableEq, Repr

/-! ## Bench and fabric (chapter 14) -/

/-- What a bench request was sent for: whom its ACK answers. -/
inductive BenchPurpose where
  /-- A copy of a LAUNCH entry for member `m` (R103): the command and the master's entry. -/
  | launch (c : Cmd) (m : Nat)
  /-- Withdraws a copy for a LAUNCH_CANCEL of the host (R305). -/
  | cancel (c : Cmd)
  /-- Withdraws a copy; nobody waits for the answer. -/
  | none
  | read (c : Cmd)
  | write (c : Cmd)
  | reset (c : Cmd)
  | handover (c : Cmd)
  | txnAction (slot index : Nat)
  | txnPrepare (slot : Nat)
  | txnOther (slot : Nat)
  | wound (slot : Nat)
  | dma (ring : Nat)
  deriving DecidableEq, Repr

/-- A bench request that holds its tag until its ACK (R357). -/
structure BenchReq where
  tag : Nat
  dst : Nat
  content : BenchContent
  purpose : BenchPurpose
  east : Bool
  deadline : Nat
  retried : Bool := false
  deriving DecidableEq, Repr

/-- A LAUNCH with BENCH set in progress (R103): the command, the entry, members still to answer, copies accepted as
(member, handle), and the first refusal as (member, status). -/
structure BenchLaunch where
  cmd : Cmd
  entry : List Word
  waiting : List Nat
  accepted : List (Nat × Nat) := []
  refused : Option (Nat × Nat) := none
  deriving DecidableEq, Repr

/-- A LAUNCH_CANCEL of an entry with BENCH set in progress (R305): the command, how many members have still to answer, and
the first status other than OK. -/
structure BenchCancel where
  cmd : Cmd
  handle : Nat
  waiting : Nat
  status : Nat
  deriving DecidableEq, Repr

/-- A request executed for another member within the last 10 ms (R357): sender, tag, when, and the ACK given. -/
structure BenchDone where
  src : Nat
  tag : Nat
  time : Nat
  status : Nat
  words : List Word
  deriving DecidableEq, Repr

/-- Performance of a receiving group (R361): errored frames by second of DT, changes into and out of UP as (DT, UP now), latest
first, the last second classified, and whether it lies in unavailable time. -/
structure PerfState where
  errored : List (Nat × Nat) := []
  changes : List (Nat × Bool) := []
  last : Option Nat := none
  unavail : Bool := false
  deriving DecidableEq, Repr

structure BenchState where
  reqs : List BenchReq := []
  /-- Requests held for want of a tag (R23). -/
  heldReqs : List (Nat × BenchContent × BenchPurpose) := []
  launches : List BenchLaunch := []
  cancels : List BenchCancel := []
  /-- The copies of each entry inserted with BENCH set, by its handle: (member, handle). -/
  copies : List (Nat × List (Nat × Nat)) := []
  /-- MEMBER_RESET commands: how many members have still to acknowledge, and the first status other than OK. -/
  resets : List (Cmd × Nat × Nat) := []
  done : List BenchDone := []
  /-- Usable links by LINKMAP bit, and those that wait for WTR since a DT (R358). -/
  linkmap : Nat := 0
  wtr : List (Nat × Nat) := []
  /-- Links that have been usable before (R358), and the LINKMAP last received on each group. -/
  everUp : List Nat := []
  maps : List (Nat × Nat) := []
  /-- The path in force to each member: 0 east, 1 west, 2 none. -/
  paths : List (Nat × Nat) := []
  /-- Message counters sent by group, and last accepted by (group, SRC) as 64 * group + SRC (R353, R354). -/
  counters : List (Nat × Nat) := []
  accepted : List (Nat × Nat) := []
  perf : List (Nat × PerfState) := []
  /-- Sequence of the latest echo request, and its departure stamp, by group; the delay measured last, in units of 0.0625 ns
  (R355). -/
  echo : List (Nat × Nat × Nat) := []
  delays : List (Nat × Nat) := []
  /-- Credits granted by this lender and not in use, by borrower (R362). -/
  granted : List (Nat × Nat) := []
  /-- Number of the next stream this borrower opens (R364). -/
  streams : Nat := 0
  /-- By lane group: DT of the last HELLO received, DT of the last ROUTE message sent; groups a change has still to be
  advertised on; DT of the last refresh of each PF_RT entry (R367, R368). -/
  hello : List (Nat × Nat) := []
  routeSent : List (Nat × Nat) := []
  routeChanged : List Nat := []
  refresh : List (Nat × Nat) := []
  /-- Mirrored updates not yet sent to the twin (R356). -/
  twin : List TwinRecord := []
  deriving DecidableEq, Repr

/-! ## Transactions (chapter 13) -/

/-- States of a transaction that occupies its slot (R324). -/
inductive TxnPhase where
  | opened | waiting | reclaim | scheduled | sealed
  deriving DecidableEq, Repr

/-- An action held (R325, R326): its record, its staged item with the header, and the key a KEY_LOAD unwrapped (R258). -/
structure TxnAction where
  record : List Word
  item : List Word := []
  key : List Byte := []
  /-- Its index in the transaction: of a bench-wide one, the master's. -/
  index : Nat := 0
  deriving DecidableEq, Repr

/-- Who asked for an action that waits: a TXN_ADD command, or the master of a bench-wide transaction by (member, tag). -/
inductive TxnAsker where
  | host (c : Cmd)
  | bench (src tag : Nat)
  deriving DecidableEq, Repr

/-- A transaction in its slot (R322 to R341). -/
structure Txn where
  slot : Nat
  gen : Nat
  tag : Nat
  phase : TxnPhase := .opened
  age : Age
  /-- The session that opened it. -/
  session : Nat := 0
  members : Nat := 0
  stageQ : Option Nat := none
  actions : List TxnAction := []
  /-- Actions, by index, whose lock is held. -/
  locked : List Nat := []
  /-- The action that waits to be added, who asked, and since when the wait (or the claim in RECLAIM) runs. -/
  adding : Option (TxnAction × TxnAsker) := none
  since : Nat := 0
  wounds : Nat := 0
  /-- RECLAIM was entered from SCHEDULED, and the TXN_COMMIT that arrived during RECLAIM. -/
  wasScheduled : Bool := false
  heldCommit : Option (Cmd × List Word) := none
  /-- The handle of its COMMIT entry, and the commit time in ns. -/
  entry : Option Nat := none
  commitAt : Nat := 0
  /-- Words reserved in each target queue (R328). -/
  reserved : List (Nat × Nat) := []
  /-- Sealed on the master: members that voted YES, the decision sent, reports as (member, status). -/
  votes : List Nat := []
  decided : Option Bool := none
  reports : List (Nat × Nat) := []
  /-- A member's part: the master's member number and its handle, and whether this member has prepared. -/
  master : Option (Nat × Nat) := none
  prepared : Bool := false
  deriving DecidableEq, Repr

/-- The outcome of a member's part that ended before its commit tick, reported to the master after it (R340): when, the master, its
handle, the status. -/
structure OutcomeDue where
  at_ : Nat
  master : Nat
  handle : Nat
  status : Nat
  deriving DecidableEq, Repr

structure TxnState where
  pool : Pool := {}
  slots : List Txn := []
  /-- DT of the tick of the last opening, with its fraction (R323). -/
  lastOpen : Option (Nat × Nat) := none
  /-- Handles whose slot no later transaction has taken and whose commit tick has passed (R341). -/
  late : List Nat := []
  outcomes : List OutcomeDue := []
  /-- Queues whose flush waits until their holder is FREE (R336). -/
  flushes : List Nat := []
  deriving DecidableEq, Repr

/-! ## What leaves the device -/

/-- A chirp frame on a transmit link (R196): its channel and spreading factor − 5, twice the channel's centre in Hz with the front-end
offset in force (R194), the up-chirps of value 0, the sync symbols (R197), the delimiter's down-chirps, the last of which is cut
after a quarter of its chips, the values of the payload's up-chirps (R201, R202), the launch time and the time on air in ns. -/
structure ChirpWave where
  chan : Nat
  sf : Nat
  centre2 : Int
  preamble : Nat
  sync : Nat × Nat
  delimiter : List Nat
  symbols : List Nat
  start : Nat
  dur : Nat
  deriving DecidableEq, Repr

/-- One thing the device put outside itself, in order: a posted write into host memory (R295), an MSI-X signal, an edge
on a pin, and what other chapters name. -/
inductive Out where
  | hostWrite (addr : Nat) (bytes : List Byte)
  | msix (vector : Nat)
  | edge (pin : Nat) (level : Bool) (time : Nat)
  | field (bytes : List Byte)
  /-- A transmit attenuation of a line port from a LINE cycle on, in 2^-16 ns (R117). -/
  | lineAtt (port step time : Nat)
  /-- The DAC of a line port outputs its mid-scale code (R119). -/
  | dacMid (port time : Nat)
  /-- A channelised sample of every channel of an RF pair: its stamp in 2^-16 ns, and of each channel the lane words I and Q
  (R112, R134). -/
  | channels (pair : Nat) (stamp : Int) (words : List (Word × Word))
  /-- A frame on an RF transmit link (R129, R135). -/
  | rfFrame (pair : Nat) (chars : List LinkChar)
  /-- A power-line frame on a port, at the port's transmit attenuation (R117, R153, R163). -/
  | plcFrame (port band att : Nat) (wave : PlcWave)
  /-- LINE_TXEN of a feeder group (R119). -/
  | lineTxen (g : Nat) (on_ : Bool) (time : Nat)
  /-- A control-link transaction (R136). -/
  | rfc (link : Nat) (bits : BitVec 80)
  /-- A chirp frame on an RF pair (R196). -/
  | chirpFrame (pair : Nat) (wave : ChirpWave)
  /-- A message of the bench or the fabric on a group, with its destination, tag, RETRY bit, HOPS and counter (R353). -/
  | benchMsg (group dst tag : Nat) (retry : Bool) (hops counter : Nat) (content : BenchContent)
  /-- A message forwarded out of a group (R357). -/
  | forward (group : Nat) (msg : BenchMsg)
  /-- The overhead of a frame on a lane of a group (R349): bytes 8 to 11 and 13 to 19. -/
  | overhead (group lane : Nat) (bytes : List Byte)
  /-- A fixed-slot cell (R355, R367): type and payload fields. -/
  | cell (group type : Nat) (payload : List Nat)
  /-- The up- or down-ramp of a PA profile from a time on: of each step the pair it ends before and its level, in 255ths of the
  magnitude 262,144 of a transmission (R217). -/
  | ramp (pair : Nat) (up : Bool) (time : Nat) (steps : List (Nat × Nat))
  /-- An output of card port `k` (R266): 0 VCCEN, 1 CLK running, 2 RST_N, 3 IO released to reception. -/
  | card (k line : Nat) (level : Bool)
  /-- Characters a card port sends (R268). -/
  | cardSend (k : Nat) (chars : List Byte)
  deriving DecidableEq, Repr

end Sys2Proof.Machine
end

