-- ==== Sys2Proof/Machine/State.lean ====
section
/-! DEFINITION. The whole state of the block, its reset value, and the ways a step can stop. -/
namespace Sys2Proof.Machine
open Sys2Proof

/-- The ways a command stops with a fault. None: the spec gives every row of the opcode table its effect, and every
value it leaves open is a free value or a value an assumption-log entry names. -/
inductive Fault where
  deriving DecidableEq, Repr

/-- The ways a command is refused. -/
inductive Refusal where
  /-- Raised by an arm of `exec` whose command has no meaning yet. Safe: nothing is claimed of it. -/
  | notModelled (mnemonic : String)
  deriving DecidableEq, Repr

/-- The state of the block. `map` holds every word of the structure map that differs from its reset or factory value
(registers, endpoint table, route table), `qmem` every byte of queue memory that is not zero; both in canonical form.
`tick` counts core ticks, `dt` is device time in units of 1/(384 * 10^12) ns (R82), `fresh` counts the free values
taken (the model's own field), `out` is what left the device, `pending` the commands that wait. The other fields are
what the chapters hold beside their registers. -/
structure State where
  map : List (Nat × Word) := []
  qmem : List Host.Cell := []
  tick : Nat := 0
  dt : Nat := 0
  fresh : Nat := 0
  out : List Out := []
  pending : List Instr := []
  notices : NoticeState := {}
  host : HostState := {}
  queues : QueueMemState := {}
  faults : FaultState := {}
  service : ServiceState := {}
  mode : ModeState := {}
  domains : DomainState := {}
  fuse : FuseState := {}
  struct_ : StructState := {}
  tags : TagState := {}
  ref : RefTime := {}
  mains : List (Nat × Tracker) := []
  launch : LaunchState := {}
  sample : SampleState := {}
  plc : PlcState := {}
  chirp : ChirpState := {}
  radio : RadioState := {}
  cipher : CipherState := {}
  bench : BenchState := {}
  txn : TxnState := {}
  deriving DecidableEq, Repr

/-- The block right after power-on: mode COLD, every register at its Reset value, nothing waiting (R73, chapter 00). -/
def State.reset : State := {}

end Sys2Proof.Machine
end

