-- ==== Sys2Proof/Machine/Memory.lean ====
section
/-! DEFINITION. Sparse memories in one canonical form: cells in strictly rising order of address, none equal to what an
unlisted address reads as. The structure map is such a memory of words, queue memory one of bytes. -/
namespace Sys2Proof.Machine
open Sys2Proof

/-- What address `a` reads as, where an unlisted address reads as `d a`. -/
def Memory.read {α : Type} (d : Nat → α) : List (Nat × α) → Nat → α
  | [], a => d a
  | (k, v) :: t, a => if k = a then v else Memory.read d t a

/-- The memory without a cell at `a`. -/
def Memory.erase {α : Type} : List (Nat × α) → Nat → List (Nat × α)
  | [], _ => []
  | (k, v) :: t, a => if k = a then t else (k, v) :: Memory.erase t a

/-- The memory with a cell `v` at `a`, in order. -/
def Memory.insert {α : Type} : List (Nat × α) → Nat → α → List (Nat × α)
  | [], a, v => [(a, v)]
  | (k, w) :: t, a, v => if k = a then (a, v) :: t else if a < k then (a, v) :: (k, w) :: t
                         else (k, w) :: Memory.insert t a v

/-- The memory after writing `v` at `a`: a value equal to the unlisted one removes the cell. -/
def Memory.write {α : Type} [DecidableEq α] (d : Nat → α) (l : List (Nat × α)) (a : Nat) (v : α) : List (Nat × α) :=
  if v = d a then Memory.erase l a else Memory.insert l a v

/-- The addresses rise strictly from a bound up. -/
def Memory.rising {α : Type} : Nat → List (Nat × α) → Bool
  | _, [] => true
  | b, (k, _) :: t => decide (b ≤ k) && Memory.rising (k + 1) t

/-- The canonical form: addresses strictly rising, no cell equal to what an unlisted address reads as. -/
def Memory.wf {α : Type} [DecidableEq α] (d : Nat → α) (l : List (Nat × α)) : Bool :=
  Memory.rising 0 l && l.all (fun c => decide (c.2 ≠ d c.1))

end Sys2Proof.Machine
end

