-- ==== Sys2Proof/Machine/Ops.lean ====
section
/-! DEFINITION. The named operations every meaning is built from: words and fields of the structure map, queue-memory
words, device time, least-recently-freed places, notices, completions and what leaves the device. -/
namespace Sys2Proof.Machine
open Sys2Proof

/-- The outcome of a command that runs. -/
abbrev Result := Host.Outcome State Fault Refusal

/-! ## The structure map -/

/-- The stored word at a structure address. -/
def State.word (s : State) (a : Nat) : Word := Memory.read defaultWord s.map a

/-- Store a word at a structure address. -/
def State.setWord (s : State) (a : Nat) (w : Word) : State := { s with map := Memory.write defaultWord s.map a w }

/-- The number field `f` holds. -/
def State.getF (s : State) (f : Fld) : Nat := (s.word f.addr).field f.hi f.lo

/-- Field `f` set to `v` (its low bits), the word's other fields unchanged. -/
def State.setF (s : State) (f : Fld) (v : Nat) : State :=
  s.setWord f.addr ((s.word f.addr).setField f.hi f.lo v)

/-- Whether a one-bit field is set. -/
def State.flag (s : State) (f : Fld) : Bool := s.getF f != 0

/-- A count raised by `n`, saturating at the field's largest value (R321 and the like). -/
def State.bump (s : State) (f : Fld) (n : Nat := 1) : State :=
  s.setF f (satAdd (2 ^ (f.hi + 1 - f.lo) - 1) (s.getF f) n)

/-! ## Queue memory (R275) -/

/-- The byte of queue memory at a byte offset; a byte nothing has written reads zero (R47: cleared at load). -/
def State.qbyte (s : State) (a : Nat) : Byte := Memory.read (fun _ => 0) s.qmem a

/-- Logical word `w` of queue memory. -/
def State.qword (s : State) (w : Nat) : Word :=
  BitVec.ofNat 32 (natLE [s.qbyte (4 * w), s.qbyte (4 * w + 1), s.qbyte (4 * w + 2), s.qbyte (4 * w + 3)])

/-- The bytes stored from offset `a` on. -/
def writeBytes (m : List Host.Cell) : Nat → List Byte → List Host.Cell
  | _, [] => m
  | a, b :: bs => writeBytes (Memory.write (fun _ => 0) m a b) (a + 1) bs

/-- Logical word `w` written; a write removes the word's poison (R277). -/
def State.setQword (s : State) (w : Nat) (v : Word) : State :=
  { s with qmem := writeBytes s.qmem (4 * w) (bytesLE 4 v.toNat),
           queues := { s.queues with poison := s.queues.poison.filter (· != w) } }

/-! ## Device time (R81, R82, R106) -/

/-- Units of `dt` in one nanosecond: 384 * 10^12, so that a core tick of 625/384 ns times (1 + OFS * 10^-12) is the
whole number 625 * (10^12 + OFS). -/
abbrev dtUnit : Nat := 384000000000000

/-- DT in whole nanoseconds. -/
def State.ns (s : State) : Nat := s.dt / dtUnit

/-- The 16-bit fraction of DT (R81). -/
def State.frac (s : State) : Nat := s.dt % dtUnit * 65536 / dtUnit

/-- DT in units of 2^-16 ns. -/
def State.now16 (s : State) : Nat := s.ns * 65536 + s.frac

/-- The tick of a deadline at which a competing expiry is evaluated has come (R106): deadline + 2,000 ns. -/
def State.expired (s : State) (deadline : Nat) : Bool := decide (deadline + 2000 ≤ s.ns)

/-- Core ticks in so many nanoseconds, rounded up: a tick is 625/384 ns. -/
def ticksOfNs (n : Nat) : Nat := ceilDiv (n * 384) 625

/-- AON cycles of 32.768 kHz counted up to core tick `t` (R28): the counter that reaches CORE resolves to 30.518 µs. -/
def aonCount (t : Nat) : Nat := t * 32768 / 614400000

/-- The device's bench member number, 0 without a bench (R310, R372). -/
def State.memberNo (s : State) : Nat := if s.getF F.BN_CFG_ROLE = 0 then 0 else s.getF F.BN_CFG_MEMBER

/-! ## Places taken in least-recently-freed order (R24, R98, R322) -/

/-- Take a place of a pool of `size`: the lowest never used, else the one freed longest ago; with its reuse count. -/
def Pool.take (size gens : Nat) (p : Pool) : Option (Nat × Nat × Pool) :=
  if p.next < size then some (p.next, 0, { p with next := p.next + 1 })
  else match p.freed with
    | [] => none
    | i :: rest =>
      let g := (aget 0 p.gens i + 1) % gens
      some (i, g, { p with freed := rest, gens := aset p.gens i g })

/-- Place `i` is in use without a taking (R70): the places below it that were never used stay takeable, first among the freed. -/
def Pool.reserve (p : Pool) (i : Nat) : Pool :=
  if i < p.next then { p with freed := p.freed.filter (· != i) }
  else { p with next := i + 1, freed := (List.range i).drop p.next ++ p.freed }

/-- Give a place back. -/
def Pool.give (p : Pool) (i : Nat) : Pool := { p with freed := p.freed ++ [i] }

/-! ## What leaves the device -/

def State.emitOut (s : State) (o : Out) : State := { s with out := s.out ++ [o] }

/-! ## Notices (R310, R383, R384) -/

/-- Two notices have one key (R383). -/
def Notice.sameKey (n m : Notice) : Bool :=
  n.code == m.code && n.block == m.block && n.member == m.member && n.unit == m.unit && n.ext == m.ext

/-- The notice has the span's key. -/
def Span.hasKey (sp : Span) (n : Notice) : Bool :=
  sp.code == n.code && sp.block == n.block && sp.member == n.member && sp.unit == n.unit && sp.ext == n.ext

/-- An occurrence at DT `t` merged into a notice (R384). -/
def Notice.mergeAt (n : Notice) (t : Nat) : Notice :=
  { n with count := min 65535 (n.count + 1), lastDelta := min 0xFFFFFFFF (t - n.time) }

/-- Whether a notice counts against the 512 entries of the notice buffer (R21, R307): completions do not. -/
def Notice.buffered (n : Notice) : Bool := n.code != ncCOMPLETION

/-- Notices in the buffer (HL_NSTAT.BUFFERED). -/
def NoticeState.count (q : NoticeState) : Nat := (q.buffer.filter Notice.buffered).length

/-- Hand a notice to the writer: it waits in the buffer, or is lost where the buffer holds 512 (R21). -/
def NoticeState.hand (q : NoticeState) (n : Notice) : NoticeState :=
  if n.buffered && decide (512 ≤ q.count) then { q with lostSince := q.lostSince + 1 }
  else { q with buffer := q.buffer ++ [n] }

/-- Whether `hand` loses the notice. -/
def NoticeState.loses (q : NoticeState) (n : Notice) : Bool := n.buffered && decide (512 ≤ q.count)

/-- Hand a notice to the writer, counting a loss in HL_NSTAT.LOST. -/
def State.hand (s : State) (n : Notice) : State :=
  let s' := { s with notices := s.notices.hand n }
  if s.notices.loses n then s'.bump F.HL_NSTAT_LOST else s'

/-- The first element with a property changed by `f`. -/
def changeFirst {α : Type} (p : α → Bool) (f : α → α) : List α → List α
  | [] => []
  | a :: t => if p a then f a :: t else a :: changeFirst p f t

/-- The end of the span's gap: an occurrence stamped after it does not put it off (R106). -/
def Span.due (sp : Span) : Nat := sp.lapsed.getD (sp.last + sp.gap)

/-- The occurrence merged into the open span of its key; a held notice that reaches 65,535 is handed over and a new one
begins at the next occurrence (R384). -/
def State.mergeSpan (s : State) (sp : Span) (n : Notice) : State :=
  let h := match sp.held with
    | none => n
    | some h => h.mergeAt n.time
  let full := decide (65535 ≤ h.count)
  let sp' := { sp with last := n.time, held := if full then none else some h,
                       lapsed := if sp.last + sp.gap < n.time then some sp.due else sp.lapsed }
  let s' := { s with notices := { s.notices with spans := changeFirst (·.hasKey n) (fun _ => sp') s.notices.spans } }
  if full then s'.hand h else s'

/-- A first occurrence (R384): handed to the writer at once; it opens a span unless 64 are open. -/
def State.firstOccurrence (s : State) (n : Notice) : State :=
  let s' := s.hand n
  if s.notices.spans.length < 64 then
    { s' with notices := { s'.notices with spans := s'.notices.spans ++
        [{ code := n.code, block := n.block, unit := n.unit, member := n.member, ext := n.ext,
           last := n.time, gap := spanGap n.code }] } }
  else s'.bump F.FT_AGGSTAT_NOSPAN

/-- Place one occurrence of a notice by the cases of R384. -/
def State.place (s : State) (n : Notice) : State :=
  if neverMerged n.code then s.hand n
  else if s.notices.buffer.any (·.sameKey n) then
    { s with notices := { s.notices with buffer := changeFirst (·.sameKey n) (·.mergeAt n.time) s.notices.buffer } }
  else match s.notices.spans.find? (·.hasKey n) with
    | some sp => s.mergeSpan sp n
    | none => s.firstOccurrence n

/-- One occurrence of notice `code` from `unit` with a payload of (bits, value) fields, at DT `t`. -/
def State.noticeAt (s : State) (t code unit : Nat) (payload : List (Nat × Nat)) (ext : Nat := 0) : State :=
  s.place { code := code, block := blockOfCode code unit, time := t, unit := unit, member := s.memberNo,
            ext := ext, payload := payload }

/-- One occurrence of notice `code` now. -/
def State.notice (s : State) (code unit : Nat) (payload : List (Nat × Nat)) (ext : Nat := 0) : State :=
  s.noticeAt s.ns code unit payload ext

/-! ## Completions (R303, R307) -/

/-- The completion notice of a command (R307): sequence tag, session and opcode, status, result words. -/
def completionNotice (t mem : Nat) (c : Cmd) (op st : Nat) (res : List Word) : Notice :=
  { code := ncCOMPLETION, block := 9, time := t, unit := c.session.val, member := mem,
    payload := (32, c.tag.toNat + c.session.val * 2 ^ 16 + op * 2 ^ 24) :: (32, st) ::
      res.map (fun w => (32, w.toNat)) }

/-- The command slot entry of a command. -/
def Taken.isOf (t : Taken) (c : Cmd) (op : Nat) : Bool :=
  t.session == c.session.val && t.tag == c.tag.toNat && t.opcode == op && !t.done

/-- Whether the host link is up. -/
def State.linkUp (s : State) : Bool := s.flag F.HL_LINKSTAT_UP

/-- A command completes: a QUIET command that ends OK writes nothing and gives its slot back; while the link is down
the completion is discarded and counted (R296); else the completion waits to be written, its slot still held. -/
def State.complete (s : State) (c : Cmd) (op st : Nat) (res : List Word := []) : State :=
  if !s.linkUp then
    { s with host := { s.host with taken := s.host.taken.eraseP (·.isOf c op),
                                   discardedSince := s.host.discardedSince + 1 } }
  else if c.quiet && st == stOK then
    { s with host := { s.host with taken := s.host.taken.eraseP (·.isOf c op) } }
  else
    { s with host := { s.host with taken := changeFirst (·.isOf c op) (fun t => { t with done := true }) s.host.taken },
             notices := s.notices.hand (completionNotice s.ns s.memberNo c op st res) }

/-! ## Twins (R70, R356) -/

/-- An update of the active twin is mirrored: it waits for the next TWIN message. -/
def State.mirror (s : State) (r : TwinRecord) : State :=
  if s.mode.twinDriven then { s with bench := { s.bench with twin := s.bench.twin ++ [r] } } else s

/-! ## Free values -/

/-- The next free word, and the state that has taken it. -/
def State.freshWord (s : State) : Word × State := (Config.freeWord s.fresh, { s with fresh := s.fresh + 1 })

end Sys2Proof.Machine
end

