-- ==== Sys2Proof/Machine/QueueOps.lean ====
section
/-! DEFINITION. Queues (chapter 11): pointers and room, items, producer writes, consumer operations, flush, poison. Every
meaning that touches a queue, in any chapter, does so through these. -/
namespace Sys2Proof.Machine
open Sys2Proof

/-! ## Placement and pointers (R280, R282) -/

/-- What queue `q` holds beside its descriptor. -/
def State.qst (s : State) (q : Nat) : QueueState := aget {} s.queues.queues q

def State.setQst (s : State) (q : Nat) (x : QueueState) : State :=
  { s with queues := { s.queues with queues := aset s.queues.queues q x } }

/-- log2 of the queue's words: 64 * 2^SIZE (R280). -/
def State.qLog (s : State) (q : Nat) : Nat := s.getF (F.QM_QPLACE_SIZE q) + 6

/-- The queue's words. -/
def State.qSize (s : State) (q : Nat) : Nat := 2 ^ s.qLog q

/-- Pointers are modulo twice the size (R282). -/
def State.qMod (s : State) (q : Nat) : Nat := 2 ^ (s.qLog q + 1)

/-- A live structure enables the queue and it is no store queue (R280). -/
def State.qUsable (s : State) (q : Nat) : Bool :=
  s.struct_.live && s.flag (F.QM_QPLACE_EN q) && !s.flag (F.QM_QPLACE_STORE q)

def State.qW (s : State) (q : Nat) : Nat := s.getF (F.QM_QWP_PTR q)
def State.qR (s : State) (q : Nat) : Nat := s.getF (F.QM_QRP_PTR q)
def State.qM (s : State) (q : Nat) : Nat := s.getF (F.QM_QMP_PTR q)
def State.qRel (s : State) (q : Nat) : Nat := s.getF (F.QM_QREL_PTR q)

/-- (a - b) modulo twice the queue size. -/
def State.qDiff (s : State) (q a b : Nat) : Nat := (a + s.qMod q - b % s.qMod q) % s.qMod q

def State.qUsed (s : State) (q : Nat) : Nat := s.qDiff q (s.qW q) (s.qRel q) + (s.qst q).reserved
def State.qRoom (s : State) (q : Nat) : Nat := s.qSize q - s.qUsed q
def State.qUnread (s : State) (q : Nat) : Nat := s.qDiff q (s.qW q) (s.qR q)

/-- Empty: w = rel, no item open, nothing reserved (R282). -/
def State.qEmpty (s : State) (q : Nat) : Bool :=
  s.qW q == s.qRel q && (s.qst q).open_.isNone && (s.qst q).reserved == 0

/-- The logical word a pointer addresses (R282). -/
def State.qAddr (s : State) (q p : Nat) : Nat := 64 * s.getF (F.QM_QPLACE_BASE q) + p % s.qSize q

/-! ## Items (R284) -/

def itemLen (h : Word) : Nat := h.field 17 0
def itemStart (h : Word) : Bool := h.bit 31

/-- The header of an item of `n` words, header included, as the device builds it (R284). -/
def itemHeader (n : Nat) : Word := BitVec.ofNat 32 (n + 2 ^ 31)

/-- An item whose words after the header are `body`. -/
def itemOf (body : List Word) : List Word := itemHeader (body.length + 1) :: body

/-- `n` words of the queue from pointer `p` on. -/
def State.qWords (s : State) (q p n : Nat) : List Word := (List.range n).map fun i => s.qword (s.qAddr q (p + i))

/-- The length of the complete item at pointer `p`, if there is one before the end of the complete items. -/
def State.qItemAt (s : State) (q p : Nat) : Option Nat :=
  let n := itemLen (s.qword (s.qAddr q p))
  let stop := match (s.qst q).open_ with
    | some o => o.header
    | none => s.qW q
  if 0 < n && decide (n ≤ s.qDiff q stop p) then some n else none

/-- The complete item at R, header included (R284). -/
def State.qFront (s : State) (q : Nat) : Option (List Word) := (s.qItemAt q (s.qR q)).map (s.qWords q (s.qR q))

/-- Whether an unread complete item stands in the queue. -/
def State.qHasItem (s : State) (q : Nat) : Bool := (s.qItemAt q (s.qR q)).isSome

/-- Whether any of the `n` words from pointer `p` is poisoned (R277). -/
def State.qPoisoned (s : State) (q p n : Nat) : Bool :=
  (List.range n).any fun i => s.queues.poison.contains (s.qAddr q (p + i))

/-! ## Producer field of a notice (R285) -/

def Producer.field : Producer → Nat
  | .hw b i => b * 2 ^ 24 + i
  | .session n => 2 ^ 28 + n
  | .ring n => 2 * 2 ^ 28 + n
  | .txn h => 3 * 2 ^ 28 + h

/-- Host sessions and DMA rings are host producers (R285). -/
def Producer.isHost : Producer → Bool
  | .session _ => true
  | .ring _ => true
  | _ => false

/-! ## Writing (R285, R286) -/

/-- Store words at a pointer of the queue. -/
def State.qPut (s : State) (q p : Nat) : List Word → State
  | [] => s
  | w :: ws => (s.setQword (s.qAddr q p) w).qPut q (p + 1) ws

/-- The item header at R is poisoned (R277): no item can be delimited. -/
def State.qHeadLost (s : State) (q : Nat) : Bool := s.qUnread q != 0 && s.qPoisoned q (s.qR q) 1

/-- The end of the complete items. -/
def State.qStop (s : State) (q : Nat) : Nat :=
  match (s.qst q).open_ with
  | some o => o.header
  | none => s.qW q

/-- The item of `n` words at R was complete at DT `t` (R172), which lies no more than 20 ms back. -/
def State.qCompleteBy (s : State) (q n t : Nat) : Bool :=
  let stop := match ((s.qst q).ends.filter fun x => decide (t < x.1)).getLast? with
    | some x => x.2
    | none => s.qStop q
  decide (n ≤ s.qDiff q stop (s.qR q)) && decide (s.qDiff q stop (s.qR q) ≤ s.qSize q)

/-- Set W, and Tn when the queue goes from no unread complete item to one (R290). -/
def State.qAdvanceW (s : State) (q n : Nat) (op : Option OpenItem) : State :=
  let had := s.qHasItem q
  let s1 := s.setF (F.QM_QWP_PTR q) ((s.qW q + n) % s.qMod q)
  let s2 := s1.setQst q { s1.qst q with
    open_ := op, ends := (s.ns, s.qStop q) :: (s.qst q).ends.filter fun x => decide (s.ns < x.1 + 20000000) }
  if !had && s2.qHasItem q then s2.setQst q { s2.qst q with tn := s2.ns } else s2

/-- How a write lies over items (R285): with `left` words of an item still to come, each following word is a header, with
START set and LEN from 1 to the queue size. Answers the position of the last header met and its length, and the words of
the last item still to come; none where a header is bad. -/
def parseItems (size : Nat) : Nat → Nat → Option (Nat × Nat) → List Word → Option (Option (Nat × Nat) × Nat)
  | left, _, last, [] => some (last, left)
  | 0, pos, _, w :: ws =>
    if itemStart w && decide (0 < itemLen w) && decide (itemLen w ≤ size)
    then parseItems size (itemLen w - 1) (pos + 1) (some (pos, itemLen w)) ws else none
  | left + 1, pos, last, _ :: ws => parseItems size left (pos + 1) last ws

/-- An item of a committed ENQUEUE action that waited behind an open item is written (R288, R328); its words leave the
reservation. -/
def State.qDrainBehind (s : State) (q : Nat) : List (List Word) → State
  | [] => s.setQst q { s.qst q with behind := [] }
  | it :: rest =>
    let s1 := s.setQst q { s.qst q with reserved := (s.qst q).reserved - it.length }
    (((s1.qPut q (s1.qW q) it).qAdvanceW q it.length none).mirror (.queueWrite (Fin.ofNat 16384 q) it)).qDrainBehind q rest

/-- After a change of the open item: what waited behind it is written once no item is open. -/
def State.qSettle (s : State) (q : Nat) : State :=
  if (s.qst q).open_.isNone && !(s.qst q).behind.isEmpty then s.qDrainBehind q (s.qst q).behind else s

/-- Drop a write of a producer in orphan state (R289). -/
def State.qDrop (s : State) (q n : Nat) (prod : Producer) : State :=
  let x := s.qst q
  (s.setQst q { x with orphans := x.orphans.map fun o => if o.1 = prod then (prod, false) else o }).bump
    (F.QM_QSTAT_ORPHANS q) n

/-- A host producer's write (R285), after the orphan row: the first condition of the table that applies. -/
def State.qWriteLive (s : State) (q : Nat) (prod : Producer) (start : Bool) (ws : List Word) : State × Nat :=
  let x := s.qst q
  let own := match x.open_ with
    | some o => o.producer == prod
    | none => false
  if start && x.open_.isSome && !own then (s, stQUEUE_BUSY)
  else if start == own then (s, stITEM_FORMAT)
  else
    let left := match x.open_ with
      | some o => o.len - o.written
      | none => 0
    match parseItems (s.qSize q) left 0 none ws with
    | none => (s, stITEM_FORMAT)
    | some (last, togo) =>
      if s.qRoom q < ws.length then (s.setF (F.QM_QSTAT_OVERRUN q) 1, stQUEUE_FULL)
      else
        let w := s.qW q
        let op := if togo = 0 then none else match last, x.open_ with
          | some (pos, len), _ => some { producer := prod, header := (w + pos) % s.qMod q, len := len,
                                         written := len - togo, since := s.ns }
          | none, some o => some { o with written := o.written + ws.length }
          | none, none => none
        ((((s.qPut q w ws).qAdvanceW q ws.length op).mirror (.queueWrite (Fin.ofNat 16384 q) ws)).qSettle q, stOK)

/-- A producer write of a host producer (R285, R289; R336 while a flush is postponed): the new state and the status. -/
def State.qProduce (s : State) (q : Nat) (prod : Producer) (start : Bool) (ws : List Word) : State × Nat :=
  if !s.qUsable q then (s, stQUEUE_OFF)
  else if s.txn.flushes.contains q then (s, stQUEUE_BUSY)
  else match (s.qst q).orphans.find? (·.1 == prod) with
    | some (_, first) =>
      if first || !start then (s.qDrop q ws.length prod, stFLUSHED_MID_ITEM)
      else
        let x := s.qst q
        (s.setQst q { x with orphans := x.orphans.filter (·.1 != prod) }).qWriteLive q prod start ws
    | none => s.qWriteLive q prod start ws

/-- A host producer's words as successive writes of 512 bytes, START on the first only (R316): the state, the status and the
words written. A refusal other than FLUSHED_MID_ITEM ends it. `n` bounds the writes. -/
def State.qStream : Nat → State → (q : Nat) → Producer → (start : Bool) → List Word → (st moved : Nat) → State × Nat × Nat
  | 0, s, _, _, _, _, st, moved => (s, st, moved)
  | n + 1, s, q, prod, start, ws, st, moved =>
    if ws.isEmpty then (s, st, moved)
    else match s.qProduce q prod start (ws.take 128) with
      | (s1, e) =>
        if e = stOK then State.qStream n s1 q prod false (ws.drop 128) st (moved + (ws.take 128).length)
        else if e = stFLUSHED_MID_ITEM then State.qStream n s1 q prod false (ws.drop 128) e moved
        else (s1, e, moved)

/-- A hardware producer finds no room, QUEUE_OFF or QUEUE_BUSY (R286): OVERRUN is set, and the first time since the flag
was clear QUEUE_OVERRUN is written where OVR_NOTE asks for it. -/
def State.qOverrun (s : State) (q : Nat) (prod : Producer) : State :=
  let s1 := s.setF (F.QM_QSTAT_OVERRUN q) 1
  if s.flag (F.QM_QCFG_OVR_NOTE q) && !s.flag (F.QM_QSTAT_OVERRUN q)
  then s1.notice ncQUEUE_OVERRUN q [(16, q), (32, prod.field)] else s1

/-- Whether a hardware producer could write an item of `n` words now (R286). -/
def State.qCanTake (s : State) (q n : Nat) : Bool :=
  s.qUsable q && !s.txn.flushes.contains q && (s.qst q).open_.isNone && decide (n ≤ s.qRoom q)

/-- A hardware producer writes a whole item, header first (R286): the new state and whether it was written. -/
def State.qHwItem (s : State) (q : Nat) (prod : Producer) (item : List Word) : State × Bool :=
  if s.qCanTake q item.length then
    (((s.qPut q (s.qW q) item).qAdvanceW q item.length none).mirror (.queueWrite (Fin.ofNat 16384 q) item), true)
  else (s.qOverrun q prod, false)

/-! ## Reading (R283, R290) -/

/-- The stale deadline D of a queue, if it has one (R290). -/
def State.qStaleAt (s : State) (q : Nat) : Option Nat :=
  if s.getF (F.QM_QCFG_STALE q) ≠ 0 ∧ s.qHasItem q then
    some (max (s.qst q).tr (s.qst q).tn + 10000 * s.getF (F.QM_QCFG_STALE q))
  else none

/-- A read: R moves to `r`, Tr is now and STALE clears (R290). A deadline that has passed is still evaluated. -/
def State.qRead (s : State) (q r : Nat) : State :=
  let late := match s.qStaleAt q with
    | some d => if d < s.ns ∧ !s.flag (F.QM_QSTAT_STALE q) then some d else (s.qst q).late
    | none => (s.qst q).late
  ((s.setQst q { s.qst q with tr := s.ns, late := late }).setF (F.QM_QRP_PTR q) r).setF (F.QM_QSTAT_STALE q) 0

/-- Words between R and the end of the last complete item. -/
def State.qAhead (s : State) (q : Nat) : Nat :=
  match (s.qst q).open_ with
  | some o => s.qDiff q o.header (s.qR q)
  | none => s.qUnread q

/-- ADVANCE c (R283): the new state, or none where it is refused with QUEUE_UNDERRUN. -/
def State.qAdvance (s : State) (q c : Nat) : Option State :=
  if s.qAhead q < c then none
  else if c = 0 then some s
  else some (s.qRead q ((s.qR q + c) % s.qMod q))

def State.qMark (s : State) (q : Nat) : State := s.setF (F.QM_QMP_PTR q) (s.qR q)

/-- An item read at pointer `p` still lies between REL and R: no flush or release has freed it since (R288). -/
def State.qStill (s : State) (q p : Nat) : Bool := decide (s.qDiff q p (s.qRel q) ≤ s.qDiff q (s.qR q) (s.qRel q))

/-- R moves back to `r`; Tn where the queue goes from no unread complete item to one (R290). -/
def State.qBack (s : State) (q r : Nat) : State :=
  let s1 := s.setF (F.QM_QRP_PTR q) r
  if !s.qHasItem q && s1.qHasItem q then s1.setQst q { s1.qst q with tn := s1.ns } else s1

/-- REWIND. -/
def State.qRewind (s : State) (q : Nat) : State := s.qBack q (s.qM q)

/-- Marks of relayed items that have left a queue are forgotten (R190). -/
def State.pruneRelayed (s : State) (q : Nat) : State :=
  let here := fun (x : Nat × Nat) => x.1 != q || decide (s.qDiff q x.2 (s.qRel q) < s.qDiff q (s.qW q) (s.qRel q))
  { s with plc := { s.plc with relayed := s.plc.relayed.filter here } }

def State.qRelease (s : State) (q : Nat) : State :=
  let s1 := (s.setF (F.QM_QREL_PTR q) (s.qR q)).setF (F.QM_QMP_PTR q) (s.qR q)
  (s1.pruneRelayed q).mirror (.queueRelease (Fin.ofNat 16384 q) (s.qDiff q (s.qR q) (s.qRel q)))

/-- A hardware consumer reads the item at R whole: R advances by LEN (R283). -/
def State.qConsume (s : State) (q : Nat) : State :=
  match s.qItemAt q (s.qR q) with
  | some n => s.qRead q ((s.qR q + n) % s.qMod q)
  | none => s

/-! ## Flush (R288, R289) -/

/-- Discard the open item: W returns to its header; a host producer enters orphan state (R288, R289). -/
def State.qDiscardOpen (s : State) (q : Nat) : State :=
  let x := s.qst q
  match x.open_ with
  | none => s
  | some o =>
    let orph := if o.producer.isHost then x.orphans.filter (·.1 != o.producer) ++ [(o.producer, true)] else x.orphans
    (s.setF (F.QM_QWP_PTR q) o.header).setQst q { x with open_ := none, orphans := orph }

/-- Flush in the order of R288. Reservations of transactions not yet committed stay (R328). -/
def State.qFlush (s : State) (q : Nat) : State :=
  let s1 := s.qDiscardOpen q
  let s2 := ((s1.setF (F.QM_QRP_PTR q) (s1.qW q)).setF (F.QM_QMP_PTR q) (s1.qW q)).setF (F.QM_QREL_PTR q) (s1.qW q)
  let s3 := s2.setF (F.QM_QSTAT_STALE q) 0
  ((s3.setQst q { s3.qst q with late := none }).pruneRelayed q).qSettle q

/-- An open item alone is discarded, as at the open limit (R287); what waited behind it is written. -/
def State.qExpireOpen (s : State) (q : Nat) : State := (s.qDiscardOpen q).qSettle q

/-! ## Errors in queue memory (R276, R277) -/

/-- The queue whose placement holds a logical word, if an enabled queue does: the search is over the shelves' queues. -/
def State.qOfWord (s : State) (w : Nat) : Option Nat :=
  if !s.struct_.live then none
  else (List.range 16384).find? fun q =>
    s.flag (F.QM_QPLACE_EN q) && decide (64 * s.getF (F.QM_QPLACE_BASE q) ≤ w) &&
      decide (w < 64 * s.getF (F.QM_QPLACE_BASE q) + s.qSize q)

/-- The unit of kind `k` that carries work `l`: the first LIVE one of the SPARE map (R380). -/
def mapBase : Nat → Nat
  | 0 => 0x2000 | 1 => 0x2100 | 2 => 0x2200 | 3 => 0x2400 | 4 => 0x2280 | 5 => 0x2310 | _ => 0x2380

/-- Physical units of each spared kind (R373). -/
def kindUnits : Nat → Nat
  | 0 => 104 | 1 => 104 | 2 => 36 | 3 => 2176 | 4 => 68 | 5 => 34 | _ => 5

/-- The fields of FT_MAPk_u, two halfwords to a word. -/
def mapRole (k u : Nat) : Fld := ⟨mapBase k + 4 * (u / 2), 16 * (u % 2) + 13, 16 * (u % 2) + 12⟩
def mapLogical (k u : Nat) : Fld := ⟨mapBase k + 4 * (u / 2), 16 * (u % 2) + 11, 16 * (u % 2)⟩

/-- The physical unit that is LIVE for logical slot `l` of kind `k` (R380). -/
def State.unitOf (s : State) (k l : Nat) : Option Nat :=
  (List.range (kindUnits k)).find? fun u => s.getF (mapRole k u) == 1 && s.getF (mapLogical k u) == l

end Sys2Proof.Machine
end

