-- ==== Sys2Proof/Machine/FaultOps.lean ====
section
/-! DEFINITION. The service ledger's copies and claims (R386 to R388) and the fault log (R374 to R377): reading and
writing a block, creating, repeating and closing a record. -/
namespace Sys2Proof.Machine
open Sys2Proof

/-- Error codes of a record (R374). -/
abbrev fcWEDGE : Nat := 3
abbrev fcAUDIT : Nat := 4
abbrev fcPLL_UNLOCK : Nat := 7
abbrev fcREPORT_PATH : Nat := 8

/-! ## The ledger (R387) -/

/-- A copy of a ledger block; one nothing has programmed holds zeros, sequence byte 0, and is valid. -/
def State.lcopy (s : State) (b c : Nat) : LedgerCopy :=
  aget { data := List.replicate 32 0 } s.service.copies (2 * b + c)

/-- The copy a read takes (R387): the newer of two valid ones, else the valid one; none where neither is. -/
def State.lnewer (s : State) (b : Nat) : Option Nat :=
  let c0 := s.lcopy b 0
  let c1 := s.lcopy b 1
  if c0.valid && c1.valid then
    let d := (c1.seq + 256 - c0.seq) % 256
    some (if 1 ≤ d && d ≤ 127 then 1 else 0)
  else if c0.valid then some 0
  else if c1.valid then some 1
  else none

/-- The data and the sequence byte a read of a block takes; zeros where no copy is valid. -/
def State.lread (s : State) (b : Nat) : Option (List Byte × Nat) :=
  (s.lnewer b).map fun c => ((s.lcopy b c).data, (s.lcopy b c).seq)

def State.setLcopy (s : State) (b c : Nat) (x : LedgerCopy) : State :=
  { s with service := { s.service with copies := aset s.service.copies (2 * b + c) x } }

/-- The copy a write programs: the older or the invalid one, and the sequence byte it takes. -/
def State.ltarget (s : State) (b : Nat) : Nat × Nat :=
  match s.lnewer b with
  | some c => (1 - c, ((s.lcopy b c).seq + 1) % 256)
  | none => (0, 1)

/-- Who holds the claim on a block. -/
def State.lclaim (s : State) (b : Nat) : Option ClaimSide := afind s.service.claims b

/-- Programming of a block begins under a claim (R388). -/
def State.lbegin (s : State) (op : LedgerWriteOp) : State :=
  { s with service := { s.service with
      writes := s.service.writes ++ [{ op with tick := s.tick }],
      claims := aset s.service.claims op.block (if op.field then .field else .host) } }

/-- An update that found its block field-held is tried again 10 ms later (R388). -/
def State.lretry (s : State) (b : Nat) (data : List Byte) : State :=
  { s with service := { s.service with retries := aset s.service.retries b (s.ns + 10000000, data) } }

/-- One of the device's own updates of a block (R386): begun, or kept for a retry while the field holds the block. -/
def State.lupdate (s : State) (b : Nat) (data : List Byte) : State :=
  if s.lclaim b = some .field then s.lretry b data
  else ({ s with service := { s.service with retries := adel s.service.retries b } } : State).lbegin { block := b, data := data }

/-- The updates whose retry has come (R388). -/
def State.ledgerRetries (s : State) : State :=
  (s.service.retries.filter fun x => decide (x.2.1 ≤ s.ns)).foldl (fun a x => a.lupdate x.1 x.2.2) s

/-! ## The tag (R385) -/

/-- The UID (R385): 0xE0, the manufacturer code, the serial number. -/
def tagUid : Nat := 0xE0 * 2 ^ 56 + Config.manufacturer % 256 * 2 ^ 48 + Config.uidSerial % 2 ^ 48

/-! ## Fault records (R374, R375) -/

/-- The eight words of a record at index `i` (R374). -/
def FaultRec.words (r : FaultRec) (i : Nat) : List Word :=
  [BitVec.ofNat 32 (r.code + r.kind * 2 ^ 8 + boolNat r.secondary * 2 ^ 12 + boolNat r.isOpen * 2 ^ 13 +
      boolNat r.escalated * 2 ^ 14 + boolNat r.retired * 2 ^ 15 + r.count * 2 ^ 16),
   BitVec.ofNat 32 (r.unit + i * 2 ^ 16 + r.primary * 2 ^ 24),
   lo32 r.first, hi32 r.first, lo32 r.last, hi32 r.last, BitVec.ofNat 32 r.detail,
   BitVec.ofNat 32 (r.mode + r.seq * 2 ^ 16)]

/-- The record's copy in the ledger, at block 16 + (SEQ mod 64) (R386). -/
def State.recordToLedger (s : State) (r : FaultRec) (i : Nat) : State :=
  ({ s with service := { s.service with ledgerSeq := r.seq } }).lupdate (16 + r.seq % 64) (bytesOfWords (r.words i))

/-- One FAULT_RECORD occurrence of a record (R377). -/
def State.recordNotice (s : State) (r : FaultRec) (i : Nat) : State :=
  s.notice ncFAULT_RECORD (r.kind * 2 ^ 12 + r.unit % 2 ^ 12) ((r.words i).map fun w => (32, w.toNat))

/-- The record with the least serial among those with a property. -/
def oldestRec (p : FaultRec → Bool) : List (Nat × FaultRec) → Option (Nat × FaultRec)
  | [] => none
  | x :: t =>
    match oldestRec p t with
    | some y => if p x.2 && decide (x.2.serial < y.2.serial) then some x else some y
    | none => if p x.2 then some x else none

/-- The index a new record takes (R375): the next free one, else that of the closed record created earliest; none where
all 256 are open. True says that a record is replaced. -/
def State.recordPlace (s : State) : Option (Nat × Bool) :=
  if s.faults.log.length < 256 then some (s.faults.log.length, false)
  else (oldestRec (fun r => !r.isOpen) s.faults.log).map fun x => (x.1, true)

/-- The open record of the same KIND, UNIT and CODE (R375). -/
def State.openRecord (s : State) (code kind unit : Nat) : Option (Nat × FaultRec) :=
  s.faults.log.find? fun x => x.2.isOpen && x.2.code == code && x.2.kind == kind && x.2.unit == unit

def State.setRecord (s : State) (i : Nat) (r : FaultRec) : State :=
  { s with faults := { s.faults with log := aset s.faults.log i r } }

/-- When a record closes by AUTOCLOSE (R375): a repeat stamped after that does not put it off (R106). -/
def State.closeDue (s : State) (r : FaultRec) : Nat := r.lapsed.getD (r.last + s.getF F.FT_CFG_AUTOCLOSE * 1000000000)

/-- A repeat of an open record (R375): COUNT and LAST. One that escalates is copied to the ledger (R376). -/
def State.repeatRecord (s : State) (i : Nat) (r : FaultRec) (esc : Bool) : State :=
  let due := s.closeDue r
  let r' := { r with count := min 65535 (r.count + 1), last := s.ns, escalated := r.escalated || esc,
                     lapsed := if s.getF F.FT_CFG_AUTOCLOSE ≠ 0 ∧ due < s.ns then some due else r.lapsed }
  let s1 := s.setRecord i r'
  (if esc then s1.recordToLedger r' i else s1).recordNotice r' i

/-- A new record at index `i` (R375), copied to the ledger and reported (R377). -/
def State.newRecord (s : State) (i : Nat) (replaced : Bool) (code kind unit detail : Nat) (esc : Bool) : State :=
  let old := oldestRec (·.isOpen) s.faults.log
  let r : FaultRec := {
    serial := s.faults.serial + 1, code := code, kind := kind, secondary := old.isSome,
    isOpen := true, escalated := esc, retired := false, count := 1, unit := unit,
    primary := (old.map (·.1)).getD i,
    first := s.ns, last := s.ns, detail := detail % 2 ^ 32, mode := s.mode.mode.num,
    seq := (s.faults.serial + 1) % 65536 }
  let s1 := { s with faults := { s.faults with log := aset s.faults.log i r, serial := s.faults.serial + 1 } }
  let s2 := if replaced then s1.bump F.FT_LOGSTAT_REPLACED else s1
  (s2.recordToLedger r i).recordNotice r i

/-- An error recorded (R375): the index of its record, none where all 256 records are open. -/
def State.recordError (s : State) (code kind unit detail : Nat) (esc : Bool) : State × Option Nat :=
  match s.openRecord code kind unit with
  | some (i, r) => (s.repeatRecord i r esc, some i)
  | none =>
    match s.recordPlace with
    | some (i, rep) => (s.newRecord i rep code kind unit detail esc, some i)
    | none => (s, none)

/-- An open record closes (R375, R377): FAULT_CLOSED, and the ledger's copy again. -/
def State.closeRecord (s : State) (i : Nat) : State :=
  match afind s.faults.log i with
  | none => s
  | some r =>
    let r' := { r with isOpen := false }
    ((s.setRecord i r').recordToLedger r' i).notice ncFAULT_CLOSED (r.kind * 2 ^ 12 + r.unit % 2 ^ 12)
      [(8, i), (16, r.seq), (16, r.count)]

/-- A record's ESCALATED is set: the fault caused entry to FAULT (R374). -/
def State.escalateRecord (s : State) (i : Nat) : State :=
  match afind s.faults.log i with
  | none => s
  | some r => s.setRecord i { r with escalated := true }

/-- A record's unit was retired because of it (R374 RETIRED). -/
def State.markRetired (s : State) (i : Nat) : State :=
  match afind s.faults.log i with
  | none => s
  | some r => s.setRecord i { r with retired := true }

end Sys2Proof.Machine
end

