-- ==== Sys2Proof/Machine/Operands.lean ====
section
/-! DEFINITION. Operand forms: the fields of a launch-queue entry (R96), of a DMA descriptor (R314) and of the other
multi-word operands, read where they lie. -/
namespace Sys2Proof.Machine
open Sys2Proof

/-- a / b rounded to the nearest, ties away from zero. -/
def roundDiv (a : Int) (b : Nat) : Int :=
  if 0 ≤ a then (2 * a + b) / (2 * b) else -((2 * -a + b) / (2 * b))

/-! ## Launch-queue entries (R96) -/
def leType (e : List Word) : Nat := (wordAt e 0).field 31 24
def leBench (e : List Word) : Bool := (wordAt e 0).bit 18
def leNotify (e : List Word) : Bool := (wordAt e 0).bit 17
def leHasAngle (e : List Word) : Bool := (wordAt e 0).bit 16
def leAnglePort (e : List Word) : Nat := (wordAt e 0).field 6 0
def leTime (e : List Word) : Nat := (wordAt e 1).toNat + (wordAt e 2).toNat * 2 ^ 32
def leAngle (e : List Word) : Nat := (wordAt e 3).field 31 16
def leFrac (e : List Word) : Nat := (wordAt e 3).field 15 0
def leKind (e : List Word) : Nat := (wordAt e 4).field 31 28
def leIndex (e : List Word) : Nat := (wordAt e 4).field 27 0
def leQueue (e : List Word) : Nat := (wordAt e 5).field 13 0
def leBand (e : List Word) : Nat := (wordAt e 5).field 17 16
def leMembers (e : List Word) : Nat := (wordAt e 7).toNat

/-- The launch time in units of 2^-16 ns. -/
def leTime16 (e : List Word) : Nat := leTime e * 65536 + leFrac e

/-- An entry of a type for a target at a launch time (R96), as a hardware inserter builds it. -/
def entryWords (type kind index time : Nat) (op5 : Nat := 0) (op6 : Nat := 0) : List Word :=
  [BitVec.ofNat 32 (type * 2 ^ 24), lo32 time, hi32 time, 0, BitVec.ofNat 32 (kind * 2 ^ 28 + index),
   BitVec.ofNat 32 op5, BitVec.ofNat 32 op6, 0]

abbrev leTypePLC_FRAME : Nat := 1
abbrev leTypeRF_TX : Nat := 2
abbrev leTypePLC_BAND : Nat := 3
abbrev leTypeRF_TUNE : Nat := 4
abbrev leTypeGAIN : Nat := 5
abbrev leTypeCOMMIT : Nat := 6
abbrev leTypeEVENT_EDGE : Nat := 7
abbrev leTypeMARKER : Nat := 8
abbrev leTypeRF_PROFILE : Nat := 9

/-- TYPE and KIND match, and the target exists (R97, R13). -/
def leTargetOk (e : List Word) : Bool :=
  match leType e, leKind e with
  | 1, 0 => decide (leIndex e < 96)
  | 2, 2 => decide (leIndex e < 32)
  | 3, 0 => decide (leIndex e < 96)
  | 4, 3 => decide (leIndex e < 32)
  | 5, 0 => decide (leIndex e < 96)
  | 5, 3 => decide (leIndex e < 32)
  | 6, 4 => true
  | 7, 5 => decide (leIndex e < 16)
  | 8, 0 => decide (leIndex e < 96)
  | 8, 1 => decide (leIndex e < 32)
  | 9, 3 => decide (leIndex e < 32)
  | _, _ => false

/-- The step of a GAIN is one its target has (R117, R137). -/
def leGainOk (e : List Word) : Bool :=
  if leKind e = 0 then (wordAt e 5).bit 7 || decide ((wordAt e 5).field 4 0 ≤ 15) else !(wordAt e 5).bit 6

/-- The entry without BENCH and MEMBERS: as a member, or the master once every member has accepted, checks it (R103). -/
def leUnbench (e : List Word) : List Word := (e.set 0 ((wordAt e 0).setField 18 18 0)).set 7 0

/-- OK as an action's target reports it (R308): in group 0x01 for a line port, 0x02 for an RF pair. -/
def leOK (e : List Word) : Nat := if leKind e = 0 then 0x100 else if leKind e < 4 then 0x200 else 0

/-- The minimum lead of an entry in ns (R97, R98). -/
def leLead (e : List Word) : Nat :=
  if leBench e then 100000
  else match leType e with
    | 4 => 10000
    | 9 => 10000
    | 5 => if leKind e = 3 then 10000 else 1000
    | _ => 1000

/-- The class of R100: commits, then band, tune, gain and profile, then frames, then edges and markers. -/
def leClass (e : List Word) : Nat :=
  match leType e with
  | 6 => 1
  | 3 => 2
  | 4 => 2
  | 5 => 2
  | 9 => 2
  | 1 => 3
  | 2 => 3
  | _ => 4

/-! ## DMA descriptors (R314) -/
def dOwn (d : List Word) : Bool := (wordAt d 0).bit 31
def dInt (d : List Word) : Bool := (wordAt d 0).bit 30
def dKind (d : List Word) : Nat := (wordAt d 0).field 29 28
def dStart (d : List Word) : Bool := (wordAt d 0).bit 27
def dLen (d : List Word) : Nat := (wordAt d 0).field 20 0
def dQueue (d : List Word) : Nat := (wordAt d 1).field 13 0
def dRemote (d : List Word) : Bool := (wordAt d 1).bit 14
def dMember (d : List Word) : Nat := (wordAt d 1).field 19 15
def dRespLen (d : List Word) : Nat := (wordAt d 1).field 20 0
def dAddr (d : List Word) : Nat := (wordAt d 2).toNat + (wordAt d 3).toNat * 2 ^ 32
def dRespAddr (d : List Word) : Nat := (wordAt d 6).toNat + (wordAt d 7).toNat * 2 ^ 32

/-- A descriptor's reserved bits, KIND and lengths are in order (R314, R315). -/
def dValid (d : List Word) : Bool :=
  let rsv0 := (wordAt d 0).field 26 21 == 0
  match dKind d with
  | 0 => rsv0 && (wordAt d 1).field 31 20 == 0 && decide (4 ≤ dLen d) && decide (dLen d ≤ 1048576) && dLen d % 4 == 0
  | 1 => rsv0 && (wordAt d 1).field 31 20 == 0 && decide (4 ≤ dLen d) && decide (dLen d ≤ 1048576) && dLen d % 4 == 0
  | 2 => rsv0 && (wordAt d 1).field 31 21 == 0 && decide (4 ≤ dLen d) && decide (dLen d ≤ 1048576) &&
         decide (8 ≤ dRespLen d) && decide (dRespLen d ≤ 1048576)
  | _ => false

end Sys2Proof.Machine
end

