-- ==== Sys2Proof/Machine/TimeOps.lean ====
section
/-! DEFINITION. Mains phase (R93 to R95) and the launch queue (R96 to R101): the trackers' fit, the mains angle, the
moment an entry takes effect, inserting an entry and completing one. -/
namespace Sys2Proof.Machine
open Sys2Proof

/-! ## Power domains of units (R75, R77) -/

/-- The state of a domain: 43, SVC, and the unswitched core are on whenever the supplies are up. -/
def State.domain (s : State) (d : Nat) : Nat := if d < 43 then aget 2 s.domains.states d else 2

/-- The domain is ON. -/
def State.domOn (s : State) (d : Nat) : Bool := s.domain d == 2

/-- The domain of a line port and of an RF pair (R75). -/
def domOfLine (p : Nat) : Nat := p / 3
def domOfRf (n : Nat) : Nat := 32 + n / 4

/-! ## The fit (R93) -/

/-- Sums over the accepted crossings: n, sum k, sum t, sum k k, sum k t, with cycles and stamps as integers. -/
def fitSums (c : List (Nat × Nat)) : Int × Int × Int × Int × Int :=
  c.foldl (fun a x => (a.1 + 1, a.2.1 + x.1, a.2.2.1 + x.2, a.2.2.2.1 + x.1 * x.1, a.2.2.2.2 + x.1 * x.2)) (0, 0, 0, 0, 0)

/-- The straight line t = a + T k through the crossings by least squares, as integers: T = nb / d, and n d t - p0 over
n nb is the phase in cycles at t. -/
structure Fit where
  n : Int
  d : Int
  nb : Int
  p0 : Int
  deriving DecidableEq, Repr

/-- The fit of two or more crossings (R93). -/
def fitOf (c : List (Nat × Nat)) : Option Fit :=
  if c.length < 2 then none
  else
    let (n, sk, st, skk, skt) := fitSums c
    let d := n * skk - sk * sk
    let nb := n * skt - sk * st
    if d ≤ 0 ∨ nb ≤ 0 then none else some { n := n, d := d, nb := nb, p0 := st * d - nb * sk }

/-- 65,536 times the phase in cycles at DT `t16` in units of 2^-16 ns, rounded down. -/
def Fit.phase16 (f : Fit) (t16 : Nat) : Int := (t16 * f.n * f.d - 65536 * f.p0) / (f.n * f.nb)

/-- The mains angle at `t16` (R93). -/
def Fit.angle (f : Fit) (t16 : Nat) : Nat := (f.phase16 t16 % 65536).toNat

/-- The number of the last predicted crossing not after `t16`. -/
def Fit.cycle (f : Fit) (t16 : Nat) : Int := f.phase16 t16 / 65536

/-- The DT of the crossing of cycle `k`, in ns rounded down. -/
def Fit.crossing (f : Fit) (k : Int) : Nat := ((f.p0 + k * f.n * f.nb) / (f.n * f.d)).toNat

/-- The mains frequency in mHz: 1/T rounded (R93). -/
def Fit.mHz (f : Fit) : Nat := ((2 * 1000000000000 * f.d + f.nb) / (2 * f.nb)).toNat

/-- The period in ns, rounded down. -/
def Fit.period (f : Fit) : Nat := (f.nb / f.d).toNat

/-- The first phase, in 2^-16 cycles, at `angle` and not before that of DT `t16` (R99). -/
def Fit.goal (f : Fit) (t16 angle : Nat) : Int :=
  let c : Int := -(-((t16 * f.n * f.d - 65536 * f.p0 : Int)) / (f.n * f.nb))
  c + (angle - c) % 65536

/-- The first DT, in units of 2^-16 ns, whose phase is `g` or later. -/
def Fit.at16 (f : Fit) (g : Int) : Nat := (-(-(g * (f.n * f.nb) + 65536 * f.p0) / (f.n * f.d))).toNat

/-- The first DT in units of 2^-16 ns, at or after `t16`, at which the phase reaches `angle` (R99). -/
def Fit.reach16 (f : Fit) (t16 angle : Nat) : Nat := f.at16 (f.goal t16 angle)

def State.tracker (s : State) (p : Nat) : Tracker := aget {} s.mains p
def State.setTracker (s : State) (p : Nat) (t : Tracker) : State := { s with mains := aset s.mains p t }

/-- A tracker whose fit gives a phase: LOCKED or COASTING. DESIGN CHOICE (entry 140): R95 says what ANGLE and FREQ read in
UNLOCKED only; in LOCKING too they read zero, and an angle is not reached. -/
def Tracker.fit (t : Tracker) : Option Fit := if t.state < 2 then none else fitOf t.crossings

/-- An active line port: its structure makes it active and its feeder group is powered. -/
def State.lineActive (s : State) (p : Nat) : Bool :=
  s.struct_.live && s.flag (F.SC_LPCFG_ACTIVE p) && s.domOn (domOfLine p)

/-- Every active line port's tracker is LOCKED (TB_STATUS.MAINS_OK); zero while no structure is live. -/
def State.mainsOk (s : State) : Bool :=
  s.struct_.live && (List.range 96).all fun p => !s.lineActive p || (s.tracker p).state == 2

/-- A tracker changes state: one MAINS_STATE (R95). -/
def State.mainsState (s : State) (p : Nat) (t : Tracker) : State :=
  let s1 := s.setTracker p t
  if t.state = (s.tracker p).state then s1 else s1.notice ncMAINS_STATE p [(8, p), (8, t.state)]

/-! ## The launch queue -/

/-- The handle of an entry (R98). -/
def LqEntry.handle (e : LqEntry) : Nat := e.entry + e.gen * 2048

/-- The entry at a place. -/
def State.lqAt (s : State) (i : Nat) : Option LqEntry := s.launch.entries.find? (·.entry == i)

/-- The domain whose unit an entry names, if it names one (R77). -/
def leDomain (e : List Word) : Option Nat :=
  match leKind e with
  | 0 => some (domOfLine (leIndex e))
  | 1 => some (domOfRf (leIndex e))
  | 2 => some (domOfRf (leIndex e))
  | 3 => some (domOfRf (leIndex e))
  | _ => none

/-- The status of an insert (R97, R98, R110, R117, R137, R77): the first refusal that applies, or OK. -/
def State.lqStatus (s : State) (e : List Word) : Nat :=
  if !leTargetOk e then stINVALID_VALUE
  else if leHasAngle e && decide (96 ≤ leAnglePort e) then stINVALID_VALUE
  else if leBench e && s.getF F.BN_CFG_ROLE != 1 then stINVALID_VALUE
  else if leType e = leTypeEVENT_EDGE && !s.flag (F.TB_EVTCFG_DIR (leIndex e)) then stINVALID_VALUE
  else if leType e = leTypeGAIN && !leGainOk e then stINVALID_VALUE
  else if s.mode.mode = .DRAIN then stMODE_REFUSED
  else if (match leDomain e with | some d => !s.domOn d | none => false) then stDOMAIN_DOWN
  else if leTime16 e < s.now16 + leLead e * 65536 then stLAUNCH_LATE
  else if s.now16 + 2 ^ 48 * 65536 < leTime16 e then stLAUNCH_RANGE
  else if 2048 ≤ s.launch.entries.length then stLAUNCH_FULL
  else stOK

/-- The counts of a refused insert (R98). -/
def State.lqCountRefusal (s : State) (st : Nat) : State :=
  if st = stLAUNCH_LATE then s.bump F.TB_LQMISS_LATE
  else if st = stLAUNCH_FULL then s.bump F.TB_LQSTAT_REFUSED else s

/-- The entry put into the free place freed least recently (R98); its handle. -/
def State.lqPut (s : State) (e : List Word) (by_ : Inserter) : State × Nat :=
  match s.launch.pool.take 2048 32 with
  | none => (s, 0)
  | some (i, g, p) =>
    let x : LqEntry := { entry := i, gen := g, words := e, inserter := by_, seq := s.launch.seq }
    let l : LaunchState := { s.launch with pool := p, entries := s.launch.entries ++ [x], seq := s.launch.seq + 1 }
    (({ s with launch := l } : State).mirror (.launchInsert (Fin.ofNat 2048 i) g e),
     x.handle)

/-- Insert an entry, from the host or a hardware unit alike (R98): state, status, handle. -/
def State.lqInsert (s : State) (e : List Word) (by_ : Inserter) : State × Nat × Nat :=
  let st := s.lqStatus e
  if st = stOK then let (s1, h) := s.lqPut e by_; (s1, stOK, h)
  else (s.lqCountRefusal st, st, 0)

/-- The entry leaves the queue; its place is free. -/
def State.lqRemove (s : State) (i : Nat) : State :=
  let w := match s.lqAt i with
    | some e => aset s.launch.past i e.words
    | none => s.launch.past
  let l : LaunchState := {
    s.launch with entries := s.launch.entries.filter (·.entry != i), pool := s.launch.pool.give i, past := w }
  ({ s with launch := l } : State).mirror (.launchRemoval (Fin.ofNat 2048 i))

/-- An entry changed in place. -/
def State.lqUpdate (s : State) (i : Nat) (f : LqEntry → LqEntry) : State :=
  { s with launch := { s.launch with entries := changeFirst (·.entry == i) f s.launch.entries } }

/-- OK in group 0x00, or as R163 or R218 lists it in group 0x01 or 0x02 (R308). -/
def isOK (st : Nat) : Bool := st == 0 || st == 0x100 || st == 0x200

/-- MISSED_LAUNCH in group 0x00, 0x01 or 0x02. -/
def isMissed (st : Nat) : Bool := st == stMISSED_LAUNCH || st == 0x101 || st == 0x201

/-- The outcome of a host entry is reported unless it is OK or CANCELLED without NOTIFY (R96); MISSED_LAUNCH counts. -/
def State.launchReport (s : State) (e : LqEntry) (st : Nat) : State :=
  let s1 := if isMissed st then s.bump F.TB_LQMISS_MISSED else s
  if e.inserter = .host ∧ ((!isOK st && st != stCANCELLED) || leNotify e.words)
  then s1.notice ncLAUNCH_DONE 0 [(16, e.handle), (8, leType e.words), (16, st)] else s1

/-- An action completes with a status: its entry leaves the queue and the outcome is reported. -/
def State.launchDone (s : State) (e : LqEntry) (st : Nat) : State := (s.lqRemove e.entry).launchReport e st

/-- The DT, in units of 2^-16 ns, at which an entry takes effect (R99): once due as recorded, before that under the live fit;
none while its tracker gives no angle. -/
def State.lqTime16 (s : State) (e : LqEntry) : Option Nat :=
  if e.due.isSome then e.dueAt
  else if leHasAngle e.words then
    ((s.tracker (leAnglePort e.words)).fit).map fun f => f.at16 (e.goal.getD (f.goal (leTime16 e.words) (leAngle e.words)))
  else some (leTime16 e.words)

/-- The entry's launch tick has come (R99). -/
def State.lqDue (_ : State) (e : LqEntry) : Bool := e.due.isSome

/-- An entry with ANGLE set whose tracker was UNLOCKED at the launch time completes with NO_MAINS (R99). -/
def State.lqNoMains (_ : State) (e : LqEntry) : Bool := e.due.isSome && e.dueAt.isNone

/-- The core tick in which a due entry takes effect. -/
def State.lqTick (s : State) (e : LqEntry) : Nat := e.due.getD s.tick

/-- Entry `x` is taken before entry `e` (R100): an earlier tick, then a lower class, then earlier insertion. -/
def State.lqBefore (s : State) (x e : LqEntry) : Bool :=
  let a := s.lqTick x
  let b := s.lqTick e
  decide (a < b) || (a == b && (decide (leClass x.words < leClass e.words) ||
    (leClass x.words == leClass e.words && decide (x.seq < e.seq))))

/-- The entry is due and no due entry comes before it (R100). -/
def State.lqReady (s : State) (e : LqEntry) : Bool :=
  s.lqDue e && s.launch.entries.all fun x => x.entry == e.entry || !s.lqDue x || !s.lqBefore x e

/-- The frame of a transmission is ready (R18): read and, where it needs it, secured; or a complete item to be read. -/
def State.lqFrameReady (s : State) (e : LqEntry) : Bool :=
  e.secured.isSome || (e.item.isNone && s.qUsable (leQueue e.words) && (s.qFront (leQueue e.words)).isSome)

/-- An entry at the start of a core tick (R99): due once its launch time has come and, with ANGLE set, the live fit's phase has
reached the angle since, or its tracker is UNLOCKED. -/
def State.markEntry (s : State) (e : LqEntry) : LqEntry :=
  let due := fun (t : Option Nat) => { e with due := some s.tick, dueAt := t, ready := s.lqFrameReady e }
  if e.due.isSome || decide (s.now16 < leTime16 e.words) then e
  else if !leHasAngle e.words then due (some (leTime16 e.words))
  else
    let k := s.tracker (leAnglePort e.words)
    match k.fit with
    | none => if k.state = 0 then due none else e
    | some f =>
      let g := e.goal.getD (f.goal (leTime16 e.words) (leAngle e.words))
      if g ≤ f.phase16 s.now16 then due (some (f.at16 g)) else { e with goal := some g }

/-- The launch queue at the start of a core tick. -/
def State.lqMark (s : State) : State :=
  { s with launch := { s.launch with entries := s.launch.entries.map s.markEntry } }

/-! ## Front-end writes at their counters (R136, R137) -/

/-- A front-end applies a write the MAC asked for (R137): FREQOFS shows in CH_OFSNOW, gain and profile in CH_PAIRSTAT; the
transmission it belongs to keeps the offset it replaces (R213). -/
def State.rfcApplied (s : State) (w : RfcWrite) : State :=
  let n := w.pair
  match w.reg with
  | 1 => s.setF (F.CH_TUNED_FREQ n) w.data
  | 2 => s.setF (F.CH_PAIRSTAT_RXSTEP n) w.data
  | 3 => { s with sample := { s.sample with txGain := aset s.sample.txGain n w.data } }
  | 4 => s.setF (F.CH_PAIRSTAT_PROFILE n) w.data
  | 5 => (s.lqUpdate (w.entry.getD 2048) fun x => { x with ofsPrev := s.getF (F.CH_OFSNOW_OFS n) }).setF (F.CH_OFSNOW_OFS n) w.data
  | _ => s

/-- The accepted writes whose counters have come are applied, in the order of their acceptance. -/
def State.rfcDue (s : State) : State :=
  let due := fun (w : RfcWrite) => w.time.all fun t => decide (t ≤ s.ns)
  (s.sample.accepted.filter due).foldl (fun a w => a.rfcApplied w)
    { s with sample := { s.sample with accepted := s.sample.accepted.filter fun w => !due w } }

/-! ## Due entries and received frames -/

/-- A launched action of this tick has still to run: received frames come after it (R19). -/
def State.launchesDue (s : State) : Bool := s.launch.entries.any (·.due.isSome)

/-! ## A core tick (R81, R82, R88) -/

/-- The frequency correction of TB_FREQOFS.OFS, in units of 10^-12. -/
def State.freqOfs (s : State) : Int := signed 32 (unsignedOf 32 s.ref.freqOfs)

/-- The part of the phase still to be slewed out that one core tick takes: at most MAXRATE ppm of the tick (R88). -/
def State.slewPart (s : State) : Int :=
  let lim : Int := 625000000 * s.getF F.TB_SLEWCFG_MAXRATE
  max (-lim) (min lim s.ref.slew)

/-- One core tick passes: DT advances by the tick at the correction in force and by the slew. No tick passes in OFF. -/
def State.coreTick (s : State) : State :=
  if s.mode.mode = .OFF then s
  else
    { s with tick := s.tick + 1,
             dt := ((s.dt : Int) + 625 * (1000000000000 + s.freqOfs) + s.slewPart).toNat,
             ref := { s.ref with slew := s.ref.slew - s.slewPart } }

end Sys2Proof.Machine
end

