-- ==== Sys2Proof/Machine/EpOps.lean ====
section
/-! DEFINITION. Network addresses (R220), endpoint entries and their states (R224 to R229), mailboxes (R236, R237). -/
namespace Sys2Proof.Machine
open Sys2Proof

/-! ## 64-bit values in two words -/

def State.get64 (s : State) (lo hi : Nat) : Nat := (s.word lo).toNat + (s.word hi).toNat * 2 ^ 32
def State.set64 (s : State) (lo hi v : Nat) : State := (s.setWord lo (lo32 v)).setWord hi (hi32 v)

/-! ## Network addresses (R220) -/

abbrev bcast : Nat := 0xFFFFFFFF

/-- The device's own bench prefix. -/
def State.ownPrefix (s : State) : Nat := s.getF F.MC_ADDRCFG_PREFIX

/-- The device's own address, SERVICE 0. -/
def State.ownAddr (s : State) : Nat := 2 ^ 31 + s.ownPrefix * 2 ^ 22 + s.memberNo * 2 ^ 17

/-- PREFIX and MEMBER of an address. -/
def adPrefix (a : Nat) : Nat := a / 2 ^ 22 % 512
def adMember (a : Nat) : Nat := a / 2 ^ 17 % 32
def adDevice (a : Nat) : Bool := a / 2 ^ 31 % 2 == 1

/-- A frame with this DST is addressed to the device, whatever its SERVICE. -/
def State.toMe (s : State) (a : Nat) : Bool :=
  a != bcast && adDevice a && adPrefix a == s.ownPrefix && adMember a == s.memberNo

/-- The device's own entry an endpoint address names. -/
def State.ownEp (s : State) (a : Nat) : Option Nat :=
  if !adDevice a && adPrefix a == s.ownPrefix && adMember a == s.memberNo && adPrefix a != 0 then some (a % 2 ^ 17) else none

/-! ## Entry states (R226) -/

abbrev epFREE : Nat := 0
abbrev epPROV : Nat := 1
abbrev epACTIVE : Nat := 2
abbrev epLOST : Nat := 3

def State.epState (s : State) (e : Nat) : Nat := s.getF (F.EP0_STATE e)

/-- An entry changes state; MC_EPSTAT.ACTIVE counts the ACTIVE ones; a provisional entry's lifetime runs from now. -/
def State.setEp (s : State) (e st : Nat) : State :=
  let n := s.getF F.MC_EPSTAT_ACTIVE
  let n' := n + boolNat (st == epACTIVE) - boolNat (s.epState e == epACTIVE)
  let s1 := (s.setF (F.EP0_STATE e) st).setF F.MC_EPSTAT_ACTIVE n'
  { s1 with radio := { s1.radio with
      prov := if st = epPROV then aset s1.radio.prov e s1.ns else adel s1.radio.prov e } }

def State.lastRx (s : State) (e : Nat) : Nat := s.get64 (F.EP8 e) (F.EP9 e)
def State.setLastRx (s : State) (e t : Nat) : State := s.set64 (F.EP8 e) (F.EP9 e) t
def State.lastSync (s : State) (e : Nat) : Nat := s.get64 (F.EP14 e) (F.EP15 e)
def State.setLastSync (s : State) (e t : Nat) : State := s.set64 (F.EP14 e) (F.EP15 e) t
/-- CHMAP as one 64-bit number. -/
def State.chMap (s : State) (e : Nat) : Nat := s.get64 (F.EP5 e) (F.EP6 e)

/-- The slot an entry's KEY and DRAWER name (R225, R252). -/
def State.epSlot (s : State) (e : Nat) : Nat := (s.word (F.EP1 e)).field 17 0

/-- The partition that holds an entry (R224). -/
def State.partOf (s : State) (e : Nat) : Option Nat :=
  (List.range 8).find? fun k => decide (s.getF (F.MC_PART0_BASE k) ≤ e) &&
    decide (e < s.getF (F.MC_PART0_BASE k) + s.getF (F.MC_PART1_SIZE k))

/-- The entry lies in a partition of KIND SENSOR. -/
def State.isSensor (s : State) (e : Nat) : Bool :=
  match s.partOf e with
  | some k => s.getF (F.MC_PART0_KIND k) == 0
  | none => false

/-! ## Mailboxes (R236, R237) -/

def State.mbxOf (s : State) (e : Nat) : List MbxFrame := s.radio.mbx.filter (·.ep == e)

/-- A mailbox reference: the cell and VALID (R225). -/
def mbxRef (l : List MbxFrame) (i : Nat) : Nat :=
  match l[i]? with
  | some f => f.cell + 2 ^ 15
  | none => 0

/-- Words 12 and 13 and MBXN of an entry follow its mailbox, oldest frame first. -/
def State.mbxSync (s : State) (e : Nat) : State :=
  let l := s.mbxOf e
  ((((s.setF (F.EP12_MBX0 e) (mbxRef l 0)).setF (F.EP12_MBX1 e) (mbxRef l 1)).setF (F.EP13_MBX2 e) (mbxRef l 2)).setF
    (F.EP13_MBX3 e) (mbxRef l 3)).setF (F.EP0_MBXN e) l.length

/-- Cells of a partition's mailbox store: 128-word pieces of its queue, at most the 2,048 a reference can name. -/
def State.mbxCells (s : State) (k : Nat) : Nat := min 2048 (s.qSize (s.getF (F.MC_PART2_MBXQ k)) / 128)

/-- The lowest free cell of a partition's store. -/
def State.freeCell (s : State) (k : Nat) : Option Nat :=
  (List.range (s.mbxCells k)).find? fun c => !s.radio.mbx.any fun f => f.part == k && f.cell == c

/-- The logical word of word `i` of a cell. -/
def State.cellAddr (s : State) (k c i : Nat) : Nat :=
  64 * s.getF (F.QM_QPLACE_BASE (s.getF (F.MC_PART2_MBXQ k))) + 128 * c + i

/-- Store words at logical words from `a` on. -/
def State.putWords (s : State) (a : Nat) : List Word → State
  | [] => s
  | w :: ws => (s.setQword a w).putWords (a + 1) ws

/-- What became of a frame for a mailbox: in, refused by the entry (4 frames held), refused by the store. -/
inductive MbxResult where
  | ok | endpointFull | storeFull
  deriving DecidableEq, Repr

/-- An item enters an entry's mailbox (R237): it takes the lowest free cell, its item words 0 to 67, the DT second in word
127. -/
def State.mbxPut (s : State) (e : Nat) (item : List Word) : State × MbxResult :=
  if 4 ≤ (s.mbxOf e).length then (s.bump F.MC_MBXFULL_ENDPOINT, .endpointFull)
  else match s.partOf e with
    | none => (s.bump F.MC_MBXFULL_STORE, .storeFull)
    | some k => match s.freeCell k with
      | none => (s.bump F.MC_MBXFULL_STORE, .storeFull)
      | some c =>
        let s1 := (s.putWords (s.cellAddr k c 0) (item.take 68)).setQword (s.cellAddr k c 127)
          (BitVec.ofNat 32 (s.ns / 1000000000))
        let s2 := { s1 with radio := { s1.radio with mbx := s1.radio.mbx ++ [({ part := k, cell := c, ep := e } : MbxFrame)] } }
        (s2.mbxSync e, .ok)

/-- The item in a mailbox cell. -/
def State.mbxItem (s : State) (f : MbxFrame) : List Word :=
  let n := min 68 (itemLen (s.qword (s.cellAddr f.part f.cell 0)))
  (List.range n).map fun i => s.qword (s.cellAddr f.part f.cell i)

/-- The DT second at which the frame of a cell entered it. -/
def State.mbxSecond (s : State) (f : MbxFrame) : Nat := (s.qword (s.cellAddr f.part f.cell 127)).toNat

/-- A mailbox frame leaves: its cell is free, and a downlink queue that waited for the place is served again (R236). -/
def State.mbxFree (s : State) (f : MbxFrame) : State :=
  ({ s with radio := { s.radio with
      mbx := s.radio.mbx.filter fun x => x.part != f.part || x.cell != f.cell,
      dlqStopped := s.radio.dlqStopped.filter fun x => x.2 != f.ep && x.2 != 2 ^ 17 + f.part } }).mbxSync f.ep

/-- Every mailbox frame of an entry is dropped; `counted` in MC_MBXSTAT.EXPIRED (R226). -/
def State.mbxDrop (s : State) (e : Nat) (counted : Bool) : State :=
  (s.mbxOf e).foldl (fun a f =>
    let a1 := a.mbxFree f
    if counted then a1.bump F.MC_MBXSTAT_EXPIRED else a1) s

/-! ## Loss, and host writes of STATE (R226, R229) -/

/-- UNIT and key extension of EP_LOST (R383): the port through which the entry is reached, and ROUTE + 1 where RT_EN. -/
def State.epLostKey (s : State) (e : Nat) : Nat × Nat :=
  if s.flag (F.EP2_RT_EN e) then
    let r := s.getF (F.EP2_ROUTE e)
    (s.getF (F.RT0_PORT r) + (if s.getF (F.RT0_MEDIUM r) = 1 then 0x100 else 0), r + 1)
  else (s.getF (F.EP0_PORT e) + (if s.flag (F.EP0_MEDIUM e) then 0x100 else 0), 0)

/-- One EP_LOST with the entry and LASTRX. -/
def State.epNotice (s : State) (e : Nat) : State :=
  let k := s.epLostKey e
  s.notice ncEP_LOST k.1 [(32, e), (64, s.lastRx e)] k.2

/-- A host write of an entry's STATE. -/
def State.epHostState (s : State) (e st : Nat) : State :=
  match st with
  | 2 => (s.setEp e epACTIVE).setLastRx e s.ns
  | 0 => (s.setEp e epFREE).mbxDrop e false
  | n =>
    let s1 := s.setEp e n
    let s2 : State := { s1 with radio := { s1.radio with prov := adel s1.radio.prov e } }
    if n = epLOST ∧ s.epState e ≠ epLOST then s2.epNotice e else s2

/-- ACTIVE to LOST: mailbox frames dropped and counted, one EP_LOST with the entry and LASTRX. -/
def State.epLost (s : State) (e : Nat) : State :=
  let s : State := { s with radio := { s.radio with lapsed := adel s.radio.lapsed e } }
  (((s.setEp e epLOST).mbxDrop e true).bump F.MC_SUPSTAT_LOST).epNotice e

/-- The supervision deadline, if the entry is supervised (R229). -/
def State.superDeadline (s : State) (e : Nat) : Option Nat :=
  let t := s.getF (F.EP7_SUPERV e)
  if s.epState e = epACTIVE ∧ t ≠ 0 then some ((afind s.radio.lapsed e).getD (s.lastRx e + t * 10000000)) else none

/-- LASTRX of an entry becomes the arrival stamp `t` of a verified frame; a deadline that passed before it stays to be evaluated
(R106, R229). -/
def State.renewEp (s : State) (e t : Nat) : State :=
  let l := match s.superDeadline e with
    | some d => if d < t then aset s.radio.lapsed e d else s.radio.lapsed
    | none => adel s.radio.lapsed e
  ({ s with radio := { s.radio with lapsed := l } } : State).setLastRx e t

/-- A verification of a frame from entry `e` that arrived by `d` is still in progress or held (R229). -/
def State.verifying (s : State) (e d : Nat) : Bool :=
  let p := fun (j : CipherJob) => match j with
    | .verify f x _ => x == e && decide (f.due ≤ d)
    | _ => false
  s.cipher.reqs.any (fun r => p r.job) || s.cipher.held.any (fun h => p h.2.2)

/-- The expiry of an entry's deadline, where it is due and no verification in time is pending. -/
def State.supervise (s : State) (e : Nat) : State :=
  match s.superDeadline e with
  | some d => if s.expired d && !s.verifying e d then s.epLost e else s
  | none => s

end Sys2Proof.Machine
end

