-- ==== Sys2Proof/Machine/OpTags.lean ====
section
/-! DEFINITION. Operation tags (R22 to R25): the reserved classes, the shared part, taking and giving back a tag. -/
namespace Sys2Proof.Machine
open Sys2Proof

/-- Classes of operation: 0 hardware transactions, 1 cipher requests, 2 DMA reads, 3 bench requests (R22). -/
abbrev tcTXN : Nat := 0
abbrev tcCIPHER : Nat := 1
abbrev tcDMA : Nat := 2
abbrev tcBENCH : Nat := 3

/-- First tag and number of tags of a class; 4 is the shared part (R22). -/
def tagBase : Nat → Nat
  | 0 => 0 | 1 => 512 | 2 => 1536 | 3 => 3584 | _ => 5632
def tagSize : Nat → Nat
  | 0 => 512 | 1 => 1024 | 2 => 2048 | 3 => 2048 | _ => 2560

/-- The class, or the shared part, a tag number lies in (R22). -/
def tagClass (t : Nat) : Nat :=
  if t < 512 then 0 else if t < 1536 then 1 else if t < 3584 then 2 else if t < 5632 then 3 else 4

def TagState.pool (s : TagState) : Nat → Pool
  | 0 => s.txn | 1 => s.cipher | 2 => s.dma | 3 => s.bench | _ => s.shared

def TagState.setPool (s : TagState) (c : Nat) (p : Pool) : TagState :=
  match c with
  | 0 => { s with txn := p }
  | 1 => { s with cipher := p }
  | 2 => { s with dma := p }
  | 3 => { s with bench := p }
  | _ => { s with shared := p }

/-- A tag goes into use; HIGH_WATER follows (R25). -/
def TagState.use (s : TagState) (t : Nat) : TagState :=
  let l := t :: s.inUse
  { s with inUse := l, highWater := max s.highWater l.length }

/-- Take a tag for an operation of class `c` (R24): its own class first, then, for DMA reads and bench requests, the
shared part; none where all are in use. -/
def TagState.take (s : TagState) (c : Nat) : Option (Nat × TagState) :=
  match (s.pool c).take (tagSize c) 1 with
  | some (i, _, p) => some (tagBase c + i, (s.setPool c p).use (tagBase c + i))
  | none =>
    if c < 2 then none
    else match (s.pool 4).take (tagSize 4) 1 with
      | some (i, _, p) => some (tagBase 4 + i, (s.setPool 4 p).use (tagBase 4 + i))
      | none => none

/-- Give a tag back to the range it came from (R24). -/
def TagState.give (s : TagState) (t : Nat) : TagState :=
  if s.inUse.contains t then
    let c := tagClass t
    { s.setPool c ((s.pool c).give (t - tagBase c)) with inUse := s.inUse.erase t }
  else s

/-- An operation takes a tag; a bench request that finds none is held and counted in MD_OPSTALL (R23). -/
def State.takeTag (s : State) (c : Nat) : State × Option Nat :=
  match s.tags.take c with
  | some (t, ts) => ({ s with tags := ts }, some t)
  | none => (if c = tcBENCH then s.bump F.MD_OPSTALL_BENCH else s, none)

def State.giveTag (s : State) (t : Nat) : State := { s with tags := s.tags.give t }

/-- The tag a DMA read holds, if it is issued. -/
def State.readTag (s : State) (k : DmaRead) : Option Nat := (s.host.reads.find? (·.1 == k)).map (·.2)

/-- A DMA read waits at its source, in issue order; it is counted once (R23). -/
def State.holdRead (s : State) (k : DmaRead) : State :=
  if s.host.heldDma.contains k then s
  else { s with host := { s.host with heldDma := s.host.heldDma ++ [k] } }.bump F.MD_OPSTALL_DMA

/-- A DMA read is to be issued (R22 to R24): with the tag it takes, unless it is held behind others or finds no tag. -/
def State.readIssue (s : State) (k : DmaRead) : State :=
  if (s.readTag k).isSome then s
  else if !s.host.heldDma.isEmpty then s.holdRead k
  else match s.tags.take tcDMA with
    | some (t, ts) => { s with tags := ts, host := { s.host with reads := s.host.reads ++ [(k, t)] } }
    | none => s.holdRead k

/-- Held reads take the tags that are free, in issue order (R23). -/
def State.grantReads : Nat → State → State
  | 0, s => s
  | n + 1, s => match s.host.heldDma with
    | [] => s
    | k :: rest => match s.tags.take tcDMA with
      | none => s
      | some (t, ts) => State.grantReads n
        { s with tags := ts, host := { s.host with heldDma := rest, reads := s.host.reads ++ [(k, t)] } }

end Sys2Proof.Machine
end

