-- ==== Sys2Proof/Machine/SampleOps.lean ====
section
/-! DEFINITION. The sample chain (chapter 05): the arithmetic of the filter lanes, presets and settling intervals, lane
starts, RF link frames and the mapping of the front-end counter to DT. -/
namespace Sys2Proof.Machine
open Sys2Proof

/-! ## Lane words (R112, R113) and lane arithmetic (R120 to R122, R423) -/

/-- A lane word from its tags and its sample; a GAP sample has SAMPLE and OVL zero (R113). -/
def laneWord (inv gap ovl mrk : Bool) (sample : Nat) : Word :=
  BitVec.ofNat 32 ((if gap then 0 else sample % 2 ^ 20 + boolNat ovl * 2 ^ 21) + boolNat mrk * 2 ^ 20 +
    boolNat gap * 2 ^ 22 + boolNat inv * 2 ^ 23)

/-- x / 2^k rounded, ties away from zero (R120). -/
def roundShift (x : Int) (k : Nat) : Int :=
  if 0 ≤ x then (2 * x + 2 ^ k) / 2 ^ (k + 1) else -((2 * -x + 2 ^ k) / 2 ^ (k + 1))

/-- Saturation to 20 bits; true says the output saturated and sets OVL (R122). -/
def sat20 (x : Int) : Int × Bool :=
  if 524287 < x then (524287, true) else if x < -524288 then (-524288, true) else (x, false)

/-- One FIR output: the sum of c_t x_(n-t), shifted, rounded and saturated (R120). `xs` is newest first. -/
def firOut (coefs xs : List Int) (shift : Nat) : Int × Bool :=
  sat20 (roundShift ((coefs.zipWith (· * ·) xs).sum) shift)

/-- A 40-bit register that wraps (R120). -/
def wrap40 (x : Int) : Int := signed 40 (x % 2 ^ 40).toNat

/-- The integrators of a CIC advanced by one modulator level: each adds the one before it (R120). -/
def cicIntegrate (x : Int) : List Int → List Int
  | [] => []
  | a :: t => let a' := wrap40 (a + x); a' :: cicIntegrate a' t

/-- The combs of a CIC at one output: each subtracts its previous input (R120). The output and the new registers. -/
def cicComb (x : Int) : List Int → Int × List Int
  | [] => (x, [])
  | a :: t => let (y, t') := cicComb (wrap40 (x - a)) t; (y, x :: t')

/-! ## Presets (R125) and classes (R120, R121) -/

/-- Decimation of a preset (R125). -/
def presetD : Nat → Nat
  | 0 => 128 | 1 => 64 | 2 => 32 | _ => 16

/-- Output period of a preset in half nanoseconds (R125). -/
def presetHalf (pr : Nat) : Nat := presetD pr * 625 / 16

/-- A LINE cycle, 19.53125 ns (R115), and the period of an RF input pair, 97.65625 ns (R130), in 2^-16 ns. -/
abbrev lineUnit : Nat := 1280000

/-- The first LINE cycle at or after a DT, and the first after it, in 2^-16 ns (R115). -/
def lineAt (t16 : Nat) : Nat := ceilDiv t16 lineUnit * lineUnit
def lineAfter (t16 : Nat) : Nat := (t16 / lineUnit + 1) * lineUnit

/-- Active line ports of the structure (SC_STATUS.ACTIVE_LINE). -/
def State.activeLines (s : State) : Nat := ((List.range 96).filter fun p => s.flag (F.SC_LPCFG_ACTIVE p)).length

/-- Active RF pairs of the structure. -/
def State.activeRf (s : State) : Nat := ((List.range 32).filter fun n => s.flag (F.SC_RFCFG_ACTIVE n)).length

/-- The small structure: 24 or fewer active line ports (R120, R121). -/
def State.small (s : State) : Bool := decide (s.activeLines ≤ 24)

def State.preset (s : State) (p : Nat) : Nat := s.getF (F.SC_LPCFG_PRESET p)

/-- Output period of a port in 2^-16 ns: its samples are stamped on multiples of it (R115). -/
def State.period16 (s : State) (p : Nat) : Nat := presetD (s.preset p) * lineUnit

def State.stream (s : State) (p : Nat) : PortStream := aget {} s.sample.ports p
def State.setStream (s : State) (p : Nat) (c : PortStream) : State :=
  { s with sample := { s.sample with ports := aset s.sample.ports p c } }

/-! ## Lanes that run (R124, R379) -/

/-- Spared kinds (R373). -/
abbrev kLANE : Nat := 0
abbrev kMODEM : Nat := 1
abbrev kDETECTOR : Nat := 2
abbrev kDEMOD : Nat := 3
abbrev kQBANK : Nat := 4
abbrev kEPBANK : Nat := 5
abbrev kPIPE : Nat := 6

abbrev roleLIVE : Nat := 1
abbrev roleSPARE : Nat := 0
abbrev roleRETIRED : Nat := 2

def State.role (s : State) (k u : Nat) : Nat := s.getF (mapRole k u)

def State.isWedged (s : State) (k u : Nat) : Bool := s.faults.wedged.any fun x => x.kind.val == k && x.unit == u

/-- The lane, or the gang of lanes, that serves a port (R120, R121). -/
def State.laneSet (s : State) (p : Nat) : List Nat :=
  (List.range (if s.small then 4 else 1)).map (s.getF (F.SC_LPCFG_LANE p) + ·)

/-- The lanes of a port run: RUN is set and none is wedged or retired. -/
def State.laneRuns (s : State) (p : Nat) : Bool :=
  (s.laneSet p).all fun l => s.flag (F.SC_LANECTL_RUN l) && !s.isWedged kLANE l && s.role kLANE l != roleRETIRED

/-- Whether the lanes of a port run is remembered with the moment it changed. -/
def State.noteRun (s : State) (p : Nat) : State :=
  let c := s.stream p
  if (c.runs.head?.map (·.2)) = some (s.laneRuns p) then s
  else s.setStream p { c with runs := (s.now16, s.laneRuns p) :: c.runs.take 63 }

/-- The lanes of a port ran at DT `t` (2^-16 ns). -/
def State.ranAt (s : State) (p t : Nat) : Bool :=
  match (s.stream p).runs.find? fun x => decide (x.1 ≤ t) with
  | some x => x.2
  | none => s.laneRuns p

/-! ## Settling (R113, R118, R126) -/

/-- Output samples marked INV by a receive gain change: ceil(6 µs at the output rate). -/
def gainInv (pr : Nat) : Nat := ceilDiv 12000 (presetHalf pr)

/-- Output samples marked INV by a lane start of port `p` (R126). -/
def State.laneInv (s : State) (p : Nat) : Nat :=
  let l := s.getF (F.SC_LPCFG_LANE p)
  if s.small then ceilDiv (s.getF (F.SC_LANECFG_TAPS l) - 1) (presetD (s.preset p))
  else s.getF (F.SC_LANECFG_ORDER l) + 31

/-- `n` output samples of port `p` are INV, from the first whose stamp is at or after `t` (2^-16 ns); intervals of up to 4 s ago
are remembered. -/
def State.markInv (s : State) (p n t : Nat) : State :=
  let per := s.period16 p
  let first := ceilDiv t per * per
  let c := s.stream p
  s.setStream p { c with
    inv := (first, first + n * per) :: c.inv.filter fun x => decide (s.now16 < x.2 + 4000000000 * 65536) }

/-- The output sample of a port stamped `t` is INV: it lies in a settling interval, or its lane did not run (R113, R124). -/
def State.invAt (s : State) (p t : Nat) : Bool :=
  !s.ranAt p t || (s.stream p).inv.any fun x => decide (x.1 ≤ t) && decide (t < x.2)

/-- No output sample of a port stamped from `a` on and before `b` is INV. -/
def State.validIn (s : State) (p a b : Nat) : Bool :=
  let c := s.stream p
  s.ranAt p a && c.runs.all (fun x => x.2 || decide (x.1 ≤ a) || decide (b ≤ x.1)) &&
    c.inv.all fun x => decide (b ≤ x.1) || decide (x.2 ≤ a)

/-! ## Gain and lane starts (R117, R118, R126) -/

/-- A receive gain of port `p` from LINE cycle `t` on: a change to a different value marks INV, any other nothing (R118). -/
def State.setRxGain (s : State) (p v t : Nat) : State :=
  let s1 := s.setF (F.SC_LPGAIN_RXGAIN p) v
  if s.getF (F.SC_LPGAIN_RXGAIN p) = v then s1 else s1.markInv p (gainInv (s.preset p)) t

/-- A transmit attenuation of port `p` from LINE cycle `t` on (R117). -/
def State.setTxAtt (s : State) (p v t : Nat) : State :=
  let s1 := s.setF (F.SC_LPGAIN_TXATT p) v
  if s.getF (F.SC_LPGAIN_TXATT p) = v then s1 else s1.emitOut (.lineAtt p v t)

/-- Lane start of the lane that serves port `p`: the gain defaults are taken, the start samples are INV, and the live
band set equals BANDS (R126, R139, R161). -/
def State.portLaneStart (s : State) (p : Nat) : State :=
  let s1 := (s.setF (F.SC_LPGAIN_RXGAIN p) (s.getF (F.SC_LPCFG_RXGAIN_DEF p))).setTxAtt p (s.getF (F.SC_LPCFG_TXATT_DEF p)) s.now16
  let s2 := s1.markInv p (s.laneInv p) s.now16
  ((s2.setStream p { s2.stream p with regs := {} }).setF (F.PL_PORTLIVE_LIVE p) (s.getF (F.SC_LPCFG_BANDS p))).noteRun p

/-- RUN of a lane set (R124): a port whose lanes run again has a lane start. -/
def State.setRun (s : State) (l : Nat) (run : Bool) : State :=
  let p := s.getF (F.SC_LANECFG_PORT l)
  let s1 := s.setF (F.SC_LANECTL_RUN l) (boolNat run)
  if decide (p < 96) && s.lineActive p && (s.laneSet p).contains l then
    if !s.laneRuns p && s1.laneRuns p then s1.portLaneStart p else s1.noteRun p
  else s1

/-- With capture on, the next item of a port starts at its first output sample from now on: its output grid has changed (R127).
DESIGN CHOICE (entry 147): the samples of an unfinished item are not captured. -/
def State.capRealign (s : State) (p : Nat) : State :=
  let c := s.stream p
  if c.capNext.isNone then s
  else s.setStream p { c with capNext := some (ceilDiv s.now16 (s.period16 p)), levels := [], fed := 0, regs := {} }

/-! ## The filter lanes (R116, R120 to R122) -/

/-- The level of a modulator sample: -2 to 2. -/
def modLevel (m : ModSample) : Int := (m.level.val : Int) - 2

/-- A 20-bit coefficient of a lane (R122). -/
def State.coef (s : State) (l j : Nat) : Int := signed 20 (s.getF (F.SC_LANECOEF_COEF l j))

/-- The taps of a port's FIR (R120, R121), as FRAC interpolates them (R116). -/
def State.taps (s : State) (p : Nat) : List Int :=
  let l := s.getF (F.SC_LPCFG_LANE p)
  let c := if s.small then (List.range (s.getF (F.SC_LANECFG_TAPS l))).map fun t => s.coef (l + t / 96) (t % 96)
    else (List.range 32).map fun t => s.coef l t
  let f := s.getF (F.SC_LPDLY_FRAC p)
  if f = 0 then c else Config.fracTaps f c

/-- The modulator's samples of the LINE cycles before `k`, newest first. -/
def PortStream.before (c : PortStream) (k : Nat) : List ModSample := c.levels.drop (c.fed - k)

/-- What a lane put out: its 20-bit sample, whether it saturated, whether the overload detector fired, its registers after. -/
structure LaneOut where
  sample : Int
  sat : Bool
  ovl : Bool
  regs : LaneRegs
  deriving DecidableEq, Repr

/-- The output sample of index `i` of a port: the signal up to its stamp less the phase delay (R116), through the CIC and the
compensating FIR (R120) or the gang's polyphase FIR (R121). -/
def State.laneOut (s : State) (p : Nat) (c : PortStream) (i : Nat) : LaneOut :=
  let l := s.getF (F.SC_LPCFG_LANE p)
  let d := presetD (s.preset p)
  let shift := s.getF (F.SC_LANECFG_SHIFT l)
  let xs := c.before (i * d + 1 - s.getF (F.SC_LPDLY_DELAY p))
  let ovl := (xs.take d).any (·.overload)
  if s.small then
    let y := firOut (s.taps p) (xs.map modLevel) shift
    { sample := y.1, sat := y.2, ovl := ovl, regs := c.regs }
  else
    let n := s.getF (F.SC_LANECFG_ORDER l)
    let zero := List.replicate n (0 : Int)
    let integ := ((xs.take d).reverse.map modLevel).foldl (fun a x => cicIntegrate x a) (if c.regs.integ.length = n then c.regs.integ else zero)
    let (v, comb) := cicComb (integ.getLastD 0) (if c.regs.comb.length = n then c.regs.comb else zero)
    let fir := (v :: c.regs.fir).take 32
    let y := firOut (s.taps p) fir shift
    { sample := y.1, sat := y.2, ovl := ovl, regs := { integ := integ, comb := comb, fir := fir } }

/-- The output sample of index `i` as a lane word (R112, R113, R124): the stream after it, its word, and whether it saturated.
A stopped lane's sample is zero and INV. MRK goes on the first sample at or after a MARKER's time. -/
def State.laneStep (s : State) (p : Nat) (c : PortStream) (i : Nat) : PortStream × Word × Bool :=
  let st := i * s.period16 p
  let mrk := c.marks.any fun m => decide (m ≤ st)
  let c1 := { c with marks := c.marks.filter fun m => decide (st < m) }
  if s.ranAt p st then
    let y := s.laneOut p c i
    ({ c1 with regs := y.regs }, laneWord (s.invAt p st) false (y.sat || y.ovl) mrk (unsignedOf 20 y.sample), y.sat)
  else (c1, laneWord true false false mrk 0, false)

/-- `n` output samples from index `i` on: the stream after them, their words, and how many saturated. -/
def State.laneSteps (s : State) (p : Nat) (c : PortStream) (i : Nat) : Nat → PortStream × List Word × Nat
  | 0 => (c, [], 0)
  | n + 1 =>
    let x := s.laneStep p c i
    let y := s.laneSteps p x.1 (i + 1) n
    (y.1, x.2.1 :: y.2.1, boolNat x.2.2 + y.2.2)

/-! ## RF link frames (R129) -/

/-- One byte of the CRC-16 of R129: polynomial 0x1021, no reflection. -/
def crc16Bits : Nat → Nat → Nat
  | 0, c => c
  | n + 1, c => crc16Bits n (if c / 2 ^ 15 % 2 = 1 then (c * 2 % 2 ^ 16) ^^^ 0x1021 else c * 2 % 2 ^ 16)

/-- CRC-16 with initial value 0xFFFF, no final exclusive or (R129). -/
def crc16 (bs : List Byte) : Nat := bs.foldl (fun c b => crc16Bits 8 (c ^^^ (b.toNat * 256))) 0xFFFF

/-- The byte a data character carries. -/
def charByte (c : LinkChar) : Byte := c.setWidth 8

/-- K28.5 and K28.3 (R129). -/
abbrev kStart : LinkChar := 0x1BC
abbrev kFill : LinkChar := 0x17C

/-- The CRC over characters 1 to 167 is right (R129). -/
def frameCrcOk (ch : List LinkChar) : Bool :=
  crc16 (((ch.drop 1).take 167).map charByte) == natLE (((ch.drop 168).take 2).map charByte)

/-- A whole receive frame (R129): 384 characters from K28.5, the other 169 of its content data, type 0x5A. -/
def rfFrameWhole (ch : List LinkChar) : Bool :=
  decide (ch.length = 384) && ch.head? == some kStart && ((ch.drop 1).take 169).all (fun c => !c.getLsbD 8) &&
    charByte (ch.getD 1 0) == 0x5A

/-- A receive frame is good (R129). -/
def rfFrameGood (ch : List LinkChar) : Bool := rfFrameWhole ch && frameCrcOk ch

/-- COUNTER of a frame (R129), and its characters 6 and 7. -/
def rfCounter (ch : List LinkChar) : Nat := natLE (((ch.drop 2).take 4).map charByte)
def rfFlags (ch : List LinkChar) : Nat := (charByte (ch.getD 6 0)).toNat
def rfChg (ch : List LinkChar) : Nat := (charByte (ch.getD 7 0)).toNat

/-- A transmit frame (R129): type 0xA5, COUNTER, ENV, 32 pairs of 5 bytes, the CRC, K28.3 fill. -/
def txFrame (counter : Nat) (env : Bool) (pairs : List (BitVec 40)) : List LinkChar :=
  let body : List Byte := 0xA5 :: bytesLE 4 counter ++ [BitVec.ofNat 8 (boolNat env), 0] ++
    pairs.flatMap fun x => bytesLE 5 x.toNat
  let data := (body ++ bytesLE 2 (crc16 body)).map fun b => b.setWidth 9
  kStart :: data ++ List.replicate 214 kFill

/-! ## The mapping of the front-end counter (R128, R130, R133) -/

/-- REFCLK time in 2^-16 of 1/384 ns, in which a core tick is 625 and an input pair 37,500 of 1/384 ns. -/
def State.refClock (s : State) : Int := s.tick * (625 * 65536)
abbrev pairClock : Int := 37500 * 65536

/-- A length of REFCLK time as DT in 2^-16 ns at the correction of TB_FREQOFS (R82, R128), and back. -/
def State.dtOfClock (s : State) (x : Int) : Int := roundDiv (x * (1000000000000 + s.freqOfs)) (384 * 1000000000000)
def State.clockOfDt (s : State) (x : Int) : Int := roundDiv (x * (384 * 1000000000000)) (1000000000000 + s.freqOfs).toNat

def State.rfLink (s : State) (n : Nat) : RfLink := aget {} s.sample.links n
def State.setRfLink (s : State) (n : Nat) (l : RfLink) : State :=
  { s with sample := { s.sample with links := aset s.sample.links n l } }

/-- The DT of the moment of REFCLK at which pair `c` of a link is taken, in 2^-16 ns: its stamp (R128, R130). -/
def State.rfStamp (s : State) (n : Nat) (c : Int) : Int :=
  let l := s.rfLink n
  s.now16 + s.dtOfClock (l.ref0 + (c - l.c0) * pairClock - s.refClock)

/-- The counter, not wrapped, of the latest pair taken by DT `t` (2^-16 ns). -/
def State.rfPairAt (s : State) (n : Nat) (t : Int) : Int :=
  let l := s.rfLink n
  l.c0 + (s.refClock + s.clockOfDt (t - s.now16) - l.ref0) / pairClock

/-- The 64-bit counter with low half `c` whose stamp lies nearest to `t` (2^-16 ns) (R133). -/
def State.rfExtend (s : State) (n c : Nat) (t : Int) : Nat :=
  let k := (s.rfPairAt n t - c + 2 ^ 31) / 2 ^ 32
  ((c : Int) + k * 2 ^ 32).toNat

/-- The front-end counter value of a DT in ns on a pair (R130). -/
def State.rfCount (s : State) (n t : Nat) : Nat := (s.rfPairAt n (t * 65536)).toNat % 2 ^ 32

/-- The DT in 2^-16 ns of a frame that has just entered, less FELAT (R130, R133); its pair 0 was taken 3,125 ns before. -/
def State.rfArrival (s : State) (n : Nat) : Int := (s.now16 : Int) - s.getF (F.SC_RFCFG_FELAT n) * 65536

/-! ## Receive link states and settling (R131, R134) -/

/-- A receive link changes state: SC_RFSTAT.STATE and one RF_LINK_STATE (R131). -/
def State.rfState (s : State) (n st : Nat) (remapped : Bool) : State :=
  (s.setF (F.SC_RFSTAT_STATE n) st).notice ncRF_LINK_STATE n [(8, n), (8, st), (8, boolNat remapped)]

/-- 64 channelised samples in 2^-16 ns: 200, 100 or 50 µs by CHMODE (R134). -/
def settle64 (chmode : Nat) : Int := 200000 * 65536 / 2 ^ chmode

/-- An RF receive port is active and its domain ON. -/
def State.rfActive (s : State) (n : Nat) : Bool :=
  s.struct_.live && s.flag (F.SC_RFCFG_ACTIVE n) && s.domOn (domOfRf n)

/-- An interval added to a list of intervals, newest first: it extends the last one where it adjoins or overlaps its end; those
older than the longest frame, 2,200 s, are forgotten. -/
def noteSpan (now a b : Int) (l : List (Int × Int)) : List (Int × Int) :=
  match l with
  | x :: t => if x.1 ≤ a ∧ a ≤ x.2 then (x.1, max x.2 b) :: t
    else (a, b) :: (x :: t).filter fun y => decide (now < y.2 + 2200000000000 * 65536)
  | [] => [(a, b)]

/-- A stamp lies in an interval of a list. -/
def inSpans (l : List (Int × Int)) (t : Int) : Bool := l.any fun x => decide (x.1 ≤ t) && decide (t < x.2)

/-- Some interval of a list meets the one from `a` to before `b`. -/
def meetsSpans (l : List (Int × Int)) (a b : Int) : Bool := l.any fun x => decide (x.1 < b) && decide (a < x.2)

/-- Channelised samples of port `n` stamped from `a` on and before `b` are INV. -/
def State.rfMarkInv (s : State) (n : Nat) (a b : Int) : State :=
  let l := s.rfLink n
  s.setRfLink n { l with inv := noteSpan s.now16 a b l.inv }

/-- 64 channelised samples of port `n` are INV, from stamp `t` on (R134). -/
def State.rfSettle (s : State) (n : Nat) (t : Int) : State := s.rfMarkInv n t (t + settle64 (s.getF (F.SC_RFCFG_CHMODE n)))

/-- No channelised sample of a port stamped from `a` on and before `b` is INV. -/
def State.rfValidIn (s : State) (n : Nat) (a b : Int) : Bool :=
  !meetsSpans (s.rfLink n).inv a b

/-! ## The channelised stream (R112, R113, R132, R134) -/

/-- Input pairs of a channelised sample, and channels, by CHMODE (R134). -/
def State.chanPairs (s : State) (n : Nat) : Nat := 32 / 2 ^ s.getF (F.SC_RFCFG_CHMODE n)

/-- The word of a channelised sample of input pair `k` and the ones after it, I or Q, on channel `c` of a port, stamped `t`: a GAP
sample has the value zero (R113), any other a free value; its tags are those of its stamp. -/
def RfLink.chanWord (l : RfLink) (t : Int) (k c : Nat) (iq gap mrk : Bool) : Word :=
  laneWord (inSpans l.inv t) gap (inSpans l.ovl t) mrk (if gap then 0 else (Config.channelValue l.gen k c iq).toNat)

/-- One channelised sample of every channel of a port, of the pairs from `k` on, stamped `t`; MRK is that of a MARKER whose time has
come. -/
def State.chanSample (s : State) (n : Nat) (t : Int) (k : Nat) (gap : Bool) : State :=
  let l := s.rfLink n
  let mrk := l.marks.any fun m => decide ((m : Int) ≤ t)
  (s.setRfLink n { l with marks := l.marks.filter fun m => decide (t < (m : Int)) }).emitOut
    (.channels n t ((List.range (s.chanPairs n)).map fun c => (l.chanWord t k c false gap mrk, l.chanWord t k c true gap mrk)))

/-- The channelised samples of the pairs from the first not yet channelised to before `c`. -/
def State.chanTo (s : State) (n c : Nat) (gap : Bool) : State :=
  let d := s.chanPairs n
  let from_ := (s.rfLink n).next
  let s1 := (List.range ((c - from_) / d)).foldl (fun a i => a.chanSample n (s.rfStamp n (from_ + i * d)) (from_ + i * d) gap) s
  s1.setRfLink n { s1.rfLink n with next := from_ + (c - from_) / d * d }

/-- GAP samples at the nominal rate of a port that is not aligned, stamped before `t` (R131). -/
def State.chanIdle (s : State) (n : Nat) (t : Int) : State :=
  let l := s.rfLink n
  let per : Nat := s.chanPairs n * 6400000
  let k := (t - l.begun).toNat / per - l.idle
  let s1 := (List.range k).foldl (fun a i => a.chanSample n (l.begun + (l.idle + i) * per) 0 true) s
  s1.setRfLink n { s1.rfLink n with idle := l.idle + k }

/-- GAP samples of the time so far on a link in ALIGNING or GAP (R131, R132): those whose frame's 12.5 µs are over. -/
def State.chanGap (s : State) (n : Nat) : State :=
  let t : Int := (s.now16 : Int) - 12500 * 65536
  match s.getF (F.SC_RFSTAT_STATE n) with
  | 1 => s.chanIdle n t
  | 3 => s.chanTo n (s.rfPairAt n t).toNat true
  | _ => s

/-- The links follow the structure and the domains (R131): DOWN to ALIGNING where a port becomes active with its domain
ON, any state to DOWN where it no longer is. -/
def State.rfFollow (s : State) (n : Nat) : State :=
  let st := s.getF (F.SC_RFSTAT_STATE n)
  if s.rfActive n && st == 0 then (s.setRfLink n { begun := s.now16 }).rfState n 1 false
  else if !s.rfActive n && st != 0 then ((s.chanGap n).setRfLink n {}).rfState n 0 false
  else s

/-! ## The transmit link (R135) -/

/-- The frame of the transmit link of pair `n` that leaves in this tick: its pair 0 leaves the front-end's DAC 6.25 µs or more
after the frame is complete there, 3.125 µs from now; `spans` are the transmit intervals of its transmissions (2^-16 ns).
DESIGN CHOICE (entry 145): before the receive link has given the counter, the frame's is a free value. -/
def State.sendFrame (s : State) (n : Nat) (spans : List (Int × Int)) : State :=
  let c : Nat := if (s.rfLink n).mapped then ((s.rfPairAt n (s.now16 + 9375 * 65536)).toNat + 32) / 32 * 32
    else (Config.freeWord s.fresh).toNat / 32 * 32
  let inside := fun (i : Nat) => inSpans spans (s.rfStamp n (c + i))
  let pairs := (List.range 32).map fun i => if inside i then Config.transmitPair s.fresh i else 0
  ({ s with fresh := s.fresh + 1 } : State).emitOut (.rfFrame n (txFrame (c % 2 ^ 32) ((List.range 32).any inside) pairs))

end Sys2Proof.Machine
end

