-- ==== Sys2Proof/Machine/SpareOps.lean ====
section
/-! DEFINITION. The SPARE map as the device changes it (R373, R379, R380): roles, the lowest free spare of a kind, a
substitution and a retirement. -/
namespace Sys2Proof.Machine
open Sys2Proof

/-- A unit's role and logical slot written; CX_FAULTSTAT shows the pipelines (R274). -/
def State.setRole (s : State) (k u role lg : Nat) : State :=
  let s1 := (s.setF (mapRole k u) role).setF (mapLogical k u) lg
  if k = kPIPE then
    (s1.setF ⟨F.CX_FAULTSTAT, u, u⟩ (boolNat (role == roleLIVE))).setF ⟨F.CX_FAULTSTAT, 5 + u, 5 + u⟩
      (boolNat (role == roleRETIRED))
  else s1

/-- A unit that can take over work: SPARE and neither wedged nor failed. -/
def State.isSpare (s : State) (k u : Nat) : Bool := s.role k u == roleSPARE && !s.isWedged k u

/-- Free spares of a kind, ascending; in the small structure filter lanes are free by whole gangs (R121, R380). -/
def State.freeSpares (s : State) (k : Nat) : List Nat :=
  (List.range (kindUnits k)).filter fun u =>
    if k = kLANE && s.small then (List.range 4).all fun i => s.isSpare k (4 * (u / 4) + i) else s.isSpare k u

/-- An audit that uses spare `u` is ended at once (R379, R381). -/
def State.endAudit (s : State) (k u : Nat) : State :=
  let a := aget {} s.faults.audits k
  if a.active && a.spare == u then
    { s with faults := { s.faults with audits := aset s.faults.audits k { a with active := false, suspect := none } } }
  else s

/-- Copy SC_LANECFG and the 96 coefficients of lane `u` into lane `v` (R380). -/
def State.copyLane (s : State) (u v : Nat) : State :=
  (List.range 96).foldl (fun a i => a.setWord (F.SC_LANECOEF v i) (s.word (F.SC_LANECOEF u i)))
    (s.setWord (F.SC_LANECFG v) (s.word (F.SC_LANECFG u)))

/-- The port of a lane follows it to lane `v`, which starts, whatever had stopped the lane it takes over from (R126, R380). -/
def State.moveLane (s : State) (u v : Nat) : State :=
  let p := s.getF (F.SC_LANECFG_PORT u)
  let s1 := ((s.copyLane u v).setF (F.SC_LANECTL_RUN u) 0).setF (F.SC_LANECTL_RUN v) 0
  let s2 := if p < 96 ∧ s.getF (F.SC_LPCFG_LANE p) = u then s1.setF (F.SC_LPCFG_LANE p) v else s1
  s2.setRun v (decide (p < 96) && s.flag (F.SC_LPCFG_ACTIVE p))

/-- A live filter lane fails (R380): in the small structure its whole gang moves to a spare gang, and the lanes of the
gang that did not fail become SPARE. -/
def State.substituteLane (s : State) (u v : Nat) : State :=
  if s.small then
    let g := 4 * (u / 4)
    let h := 4 * (v / 4)
    (List.range 4).foldl (fun a i =>
      let lg := s.getF (mapLogical kLANE (g + i))
      ((a.setRole kLANE (h + i) roleLIVE lg).setRole kLANE (g + i) (if g + i = u then roleRETIRED else roleSPARE) 0).moveLane
        (g + i) (h + i)) s
  else
    let lg := s.getF (mapLogical kLANE u)
    ((s.setRole kLANE v roleLIVE lg).setRole kLANE u roleRETIRED 0).moveLane u v

/-- A queue bank moved: its words follow the logical bank, whose content is kept (R278, R380). -/
def State.substitute (s : State) (k u v : Nat) : State :=
  let s1 := s.endAudit k v
  if k = kLANE then s1.substituteLane u v
  else (s1.setRole k v roleLIVE (s.getF (mapLogical k u))).setRole k u roleRETIRED 0

/-- One UNIT_RETIRED (R379): kind, the unit, the replacing unit or 0xFFFF, the record index. -/
def State.retiredNotice (s : State) (k u : Nat) (v : Option Nat) (i : Nat) : State :=
  (s.notice ncUNIT_RETIRED u [(8, k), (16, u), (16, v.getD 0xFFFF), (8, i)]).markRetired i

/-- The unit leaves service for good (until a full reset, R73): it is remembered as retired. -/
def State.noteRetired (s : State) (k u : Nat) : State :=
  let r : List UnitRef := if h : k < 11 then [{ kind := ⟨k, h⟩, unit := u }] else []
  { s with
    faults := { s.faults with wedged := s.faults.wedged.filter (fun x => x.kind.val != k || x.unit != u),
                              retired := s.faults.retired ++ r }
    service := { s.service with retirements := aset s.service.retirements k (aget 0 s.service.retirements k + 1) } }

/-- A unit is retired because of record `i`: the lowest free spare of its kind takes a live unit's work; the unit it
took, if any. -/
def State.retire (s : State) (k u i : Nat) : State × Option Nat :=
  let v := if s.role k u = roleLIVE then (s.freeSpares k).head? else none
  let s1 := match v with
    | some x => s.substitute k u x
    | none =>
      let a := (s.endAudit k u).setRole k u roleRETIRED 0
      if k = kLANE then a.noteRun (s.getF (F.SC_LANECFG_PORT u)) else a
  let w := if k = kLANE ∧ s.small then v.map fun x => 4 * (x / 4) + u % 4 else v
  ((s1.noteRetired k u).retiredNotice k u w i, w)

end Sys2Proof.Machine
end

