-- ==== Sys2Proof/Machine/CipherOps.lean ====
section
/-! DEFINITION. Key slots and partitions (R252 to R259), frame security (R260 to R264) and the cipher engine's request
queue (R247 to R250) as shared operations. -/
namespace Sys2Proof.Machine
open Sys2Proof

/-! ## Key slots (R252, R254) -/

/-- A slot name: a drawer with [16:12] zero, or an endpoint key. -/
def slotOk (n : Nat) : Bool := decide (n < 2 ^ 18) && (decide (n < 2 ^ 17) || decide (n < 2 ^ 17 + 4096))
def isDrawer (n : Nat) : Bool := decide (2 ^ 17 ≤ n)

/-- The status word of a slot (R254). -/
def slotWord (n : Nat) : Nat := if isDrawer n then F.CX_DRSTAT (n - 2 ^ 17) else F.CX_EKSTAT n
def slCUR (n : Nat) : Fld := ⟨slotWord n, 1, 0⟩
def slPREV (n : Nat) : Fld := ⟨slotWord n, 3, 2⟩
def slROLLING (n : Nat) : Fld := ⟨slotWord n, 4, 4⟩
def slGEN (n : Nat) : Fld := ⟨slotWord n, 15, 8⟩
def slAUTHFAIL (n : Nat) : Fld := ⟨slotWord n, 31, 16⟩

def State.keysOf (s : State) (n : Nat) : KeyGens := aget {} s.cipher.keys n

/-- 0 empty, 1 AES-128, 2 AES-256. -/
def keyKind : Option (List Byte) → Nat
  | none => 0
  | some k => if k.length = 16 then 1 else 2

/-- The generations of a slot written; CUR and PREV show them. -/
def State.setKeys (s : State) (n : Nat) (g : KeyGens) : State :=
  ((({ s with cipher := { s.cipher with keys := aset s.cipher.keys n g } } : State).setF (slCUR n) (keyKind g.cur)).setF
    (slPREV n) (keyKind g.prev))

def State.bumpGen (s : State) (n : Nat) : State := s.setF (slGEN n) (s.getF (slGEN n) + 1)

/-- The requests on slot `n` whose first block entered a pipeline in this tick see its generations as they now are (R259). -/
def State.recapture (s : State) (n : Nat) : State :=
  let g := s.keysOf n
  { s with cipher := { s.cipher with reqs := s.cipher.reqs.map fun r =>
      if r.slot = n ∧ r.started = s.ns then { r with cur := g.cur, prev := g.prev } else r } }

/-- A load takes effect (R255, R256): 0 ROLL, 1 REPLACE, 2 END_ROLL, 3 CLEAR; requests that start in its tick see it (R259). -/
def State.loadKey (s : State) (n op : Nat) (key : List Byte) : State :=
  State.recapture (n := n) <|
  let g := s.keysOf n
  match op with
  | 0 => ((s.setKeys n { cur := some key, prev := g.cur, rolled := s.ns }).setF (slROLLING n) 1).bumpGen n
  | 1 => (s.setKeys n { g with cur := some key }).bumpGen n
  | 2 => (s.setKeys n { g with prev := none }).setF (slROLLING n) 0
  | _ =>
    if g.cur.isNone && g.prev.isNone then s
    else ((s.setKeys n {}).setF (slROLLING n) 0).bumpGen n

/-! ## Partitions (R253) -/

/-- The partition of a drawer. -/
def State.drawerPart (s : State) (d : Nat) : Option Nat :=
  (List.range 16).find? fun k => decide (s.getF (F.CX_DPART0_BASE k) ≤ d) &&
    decide (d < s.getF (F.CX_DPART0_BASE k) + s.getF (F.CX_DPART0_SIZE k))

abbrev useFRAME : Nat := 0
abbrev useLINK : Nat := 1
abbrev useMAC : Nat := 2
abbrev useKEK : Nat := 3

/-- A drawer may be named for a use, by a session where a session asks. -/
def State.drawerUse (s : State) (d use : Nat) (session : Option Nat) : Bool :=
  match s.drawerPart d with
  | none => false
  | some k => decide (s.getF (F.CX_DPART0_USE k) / 2 ^ use % 2 = 1) &&
      (match session with
       | none => true
       | some n => (s.word (F.CX_DPART1 k)).bit n)

/-- A drawer lies in a partition whose SESSIONS bit for the asking session, if one asks, is set. -/
def State.drawerIn (s : State) (d : Nat) (session : Option Nat) : Bool :=
  match s.drawerPart d with
  | none => false
  | some k => match session with
    | none => true
    | some n => (s.word (F.CX_DPART1 k)).bit n

/-- A slot may secure and verify frames (R253): an endpoint key, or a drawer of a partition with the use FRAME. -/
def State.frameUse (s : State) (n : Nat) : Bool := !isDrawer n || s.drawerUse (n - 2 ^ 17) useFRAME none

/-! ## Key loads (R255, R257) -/

def klOp (w : List Word) : Nat := (wordAt w 0).field 2 0
def klSize (w : List Word) : Nat := (wordAt w 0).field 3 3
def klTarget (w : List Word) : Nat := (wordAt w 0).field 21 4
def klKek (w : List Word) : Nat := (wordAt w 1).field 11 0
def klKekGen (w : List Word) : Bool := (wordAt w 1).bit 12

/-- WRAPPED: 24 bytes for SIZE 0, 40 for SIZE 1. -/
def klWrapped (w : List Word) : List Byte := (bytesOfWords ((w.drop 2).take 10)).take (if klSize w = 0 then 24 else 40)

/-- The first row of R257. END_ROLL and CLEAR ignore words 1 to 11. -/
def klForm (w : List Word) : Bool :=
  decide (klOp w < 4) && (wordAt w 0).field 31 22 == 0 && slotOk (klTarget w) &&
    (isDrawer (klTarget w) || klSize w == 0) &&
    (decide (2 ≤ klOp w) || ((wordAt w 1).field 31 13 == 0 && (klSize w == 1 || ((w.drop 8).take 4).all (· == 0))))

/-- The checks of a key load in the order of R257: the status, and the unwrapped key where all pass. The unwrap runs in the
engine, which lies in CPH (R249). -/
def State.checkLoad (s : State) (w : List Word) (session : Option Nat) : Nat × List Byte :=
  let tgtOk := !isDrawer (klTarget w) || s.drawerIn (klTarget w - 2 ^ 17) session
  if !klForm w then (stINVALID_VALUE, [])
  else if 2 ≤ klOp w then (if tgtOk then (stOK, []) else (stKEY_USE, []))
  else if !s.drawerUse (klKek w) useKEK session then (stKEY_USE, [])
  else if !tgtOk then (stKEY_USE, [])
  else
    let g := s.keysOf (2 ^ 17 + klKek w)
    match (if klKekGen w then g.prev else g.cur) with
    | none => (stNO_KEY, [])
    | some kek => if !s.domOn 41 then (stDOMAIN_DOWN, []) else match keyUnwrap (toN kek) (toN (klWrapped w)) with
      | none => (stKEY_UNWRAP_FAIL, [])
      | some k => if keyWrap (toN kek) k = toN (klWrapped w) then (stOK, ofN k) else (stCIPHER_FAULT, [])

/-! ## Frame security (R260, R261) -/

/-- MIC bytes of a level. -/
def micLen (lvl : Nat) : Nat :=
  match lvl % 4 with
  | 1 => 4 | 2 => 8 | 3 => 16 | _ => 0

/-- The nonce of R261. -/
def secNonce (tx counter lvl : Nat) : List Nat := [0, 0, 0, 0] ++ be 4 tx ++ be 4 counter ++ [lvl]

/-- LEVEL and the event counter of a security header at offset `at_`. -/
def secLevel (b : List Byte) (at_ : Nat) : Nat := (b.getD at_ 0).toNat % 8
def secCounter (b : List Byte) (at_ : Nat) : Nat := natLE ((b.drop (at_ + 1)).take 4)

/-- A level the device accepts (R260): not NONE or ENC, the MIC no shorter than MINLVL's, encrypted where MINLVL is. -/
def levelOk (lvl minLvl : Nat) : Bool :=
  lvl % 4 != 0 && decide (micLen minLvl ≤ micLen lvl) && (decide (minLvl < 4) || decide (4 ≤ lvl))

/-- Secure a frame (R261): `head` ends with the security header; the rest follows in clear and comes out with its MIC. -/
def secureBytes (key : List Byte) (tx counter lvl : Nat) (head rest : List Byte) : List Byte :=
  let n := secNonce tx counter lvl
  if lvl < 4 then
    let (_, t) := ccmSeal (toN key) n (toN (head ++ rest)) [] (micLen lvl)
    head ++ rest ++ ofN t
  else
    let (c, t) := ccmSeal (toN key) n (toN head) (toN rest) (micLen lvl)
    head ++ ofN c ++ ofN t

/-- Verify a frame with one key (R261): the frame with its payload in clear, none where the MIC differs. -/
def verifyBytes (key : List Byte) (tx at_ : Nat) (b : List Byte) : Option (List Byte) :=
  let lvl := secLevel b at_
  let n := secNonce tx (secCounter b at_) lvl
  let head := b.take (at_ + 5)
  let tag := b.drop (b.length - micLen lvl)
  let mid := (b.drop (at_ + 5)).take (b.length - (at_ + 5) - micLen lvl)
  if b.length < at_ + 5 + micLen lvl then none
  else if lvl < 4 then
    (ccmOpen (toN key) n (toN (head ++ mid)) [] (toN tag)).map fun _ => b
  else (ccmOpen (toN key) n (toN head) (toN mid) (toN tag)).map fun m => head ++ ofN m ++ tag

/-! ## The request queue (R247 to R249) -/

abbrev domCHC : Nat := 40
abbrev domCPH : Nat := 41
abbrev domBPL : Nat := 42

/-- Requesters of R248. -/
def rqSession (n : Nat) : Requester := n
def rqLine (p : Nat) : Requester := 0x100 + p
def rqRf (n : Nat) : Requester := 0x200 + n
def rqAccess (p : Nat) : Requester := 0x300 + p
abbrev rqSched : Requester := 0x400

abbrev clLINK : Nat := 0
abbrev clFRAME : Nat := 1
abbrev clHOST : Nat := 2

/-- The live pipelines of pair `p` (R380): positions 2p and 2p + 1. -/
def State.pipes (s : State) (p : Nat) : List Nat := ([2 * p, 2 * p + 1]).filterMap (s.unitOf kPIPE)

/-- A pair compares: both its pipelines are there. -/
def State.pairLive (s : State) (p : Nat) : Bool := (s.pipes p).length == 2

/-- The blocks of a job, 16 bytes each. -/
def CipherJob.blocks : CipherJob → Nat
  | .verify f _ _ => f.body.length / 16 + 1
  | .secure _ _ size => size / 16 + 1
  | .relay o => (o.header.length + o.payload.length) / 16 + 1
  | .host _ w => ((wordAt w 3).field 15 0 + (wordAt w 3).field 31 16) / 16 + 1

/-- Blocks outstanding on a pair. -/
def State.pairLoad (s : State) (p : Nat) : Nat :=
  ((s.cipher.reqs.filter (fun r => r.pair == p && r.ended.isNone)).map fun r => r.job.blocks).sum

/-- The pair a new request goes to (R247): the one with fewer blocks outstanding, pair 0 when equal; the other where one
no longer compares. -/
def State.choosePair (s : State) : Nat :=
  if !s.pairLive 0 then 1 else if !s.pairLive 1 then 0 else if s.pairLoad 1 < s.pairLoad 0 then 1 else 0

/-- The key slot a job uses. -/
def State.jobSlot (_s : State) : CipherJob → Nat
  | .verify _ _ n => n
  | .host _ w => (wordAt w 1).field 17 0
  | _ => 0

/-- A request enters the engine: an entry, a cipher-class tag (never lacking, R22), the keys captured (R259). -/
def State.cipherStart (s : State) (rq : Requester) (cls : Nat) (job : CipherJob) (slot counter : Nat) : State :=
  match s.takeTag tcCIPHER with
  | (s1, none) => s1
  | (s1, some t) =>
    let g := s1.keysOf slot
    let r : CipherReq := {
      tag := t, requester := rq, cls := cls, job := job, cur := g.cur, prev := g.prev, slot := slot, counter := counter,
      pair := s1.choosePair, started := s1.ns }
    { s1 with cipher := { s1.cipher with reqs := s1.cipher.reqs ++ [r] } }

/-- Whether the request queue is at its limit (R20). -/
def State.cipherFull (s : State) : Bool := decide (1024 ≤ s.cipher.reqs.length)

/-- A hardware requester's request (R20, R249): started, or held at the limit. `slot` and `counter` are fixed where the
caller has them. -/
def State.cipherAsk (s : State) (rq : Requester) (job : CipherJob) (slot counter : Nat) : State :=
  if s.cipherFull then
    ({ s with cipher := { s.cipher with held := s.cipher.held ++ [(rq, counter * 2 ^ 18 + slot, job)] } } : State).bump
      F.CX_QSTAT_FULL
  else s.cipherStart rq clFRAME job slot counter

/-- A request leaves the engine; its tag is free, and a held job takes the entry (R20). -/
def State.cipherLeave (s : State) (t : Nat) : State :=
  let s1 := ({ s with cipher := { s.cipher with reqs := s.cipher.reqs.filter (·.tag != t) } } : State).giveTag t
  match s1.cipher.held with
  | [] => s1
  | (rq, sc, job) :: rest =>
    if s1.cipherFull then s1
    else ({ s1 with cipher := { s1.cipher with held := rest } } : State).cipherStart rq clFRAME job (sc % 2 ^ 18) (sc / 2 ^ 18)

/-- Requests in progress on pair `p` start again from their first block on pair `q` (R251). -/
def State.restartPair (s : State) (p q : Nat) : State :=
  { s with cipher := { s.cipher with reqs := s.cipher.reqs.map fun r =>
      if r.pair = p ∧ r.ended.isNone then { r with pair := q, started := s.ns } else r } }

/-- A live pipeline is retired because of record `i` (R251): a spare takes its place, else the other pair carries the
requests. Answers the action of UNIT_WEDGED (R379): 0 replaced, 3 carried by the other pair, 2 no pair compares. -/
def State.retirePipe (s : State) (u i : Nat) : State × Nat :=
  let p := s.getF (mapLogical kPIPE u) / 2
  match s.retire kPIPE u i with
  | (s1, some _) => (s1.restartPair p p, 0)
  | (s1, none) => if s1.pairLive (1 - p) then (s1.restartPair p (1 - p), 3) else (s1, 2)

/-! ## The slot and the counter of an outbound frame (R227, R263, R264) -/

/-- Where an outbound frame's key and counter come from. -/
inductive HopKey where
  | broadcast
  | entry (e : Nat)
  deriving DecidableEq, Repr

/-- The hop receiver's key: a status, or where it is and its slot (R253, R263, R264). -/
def State.hopKey (s : State) (a : Nat) : Except Nat (HopKey × Nat) :=
  if a = bcast then
    let n := 2 ^ 17 + s.getF F.CX_SECCFG_BCDRAWER
    if !s.frameUse n then .error stKEY_USE else if (s.keysOf n).cur.isSome then .ok (.broadcast, n) else .error stNO_KEY
  else match s.ownEp a with
    | none => .error stNO_KEY
    | some e =>
      let n := s.epSlot e
      if s.epState e ≠ epACTIVE ∨ !s.flag (F.EP1_KEYSEL e) then .error stNO_KEY
      else if !s.frameUse n then .error stKEY_USE
      else if (s.keysOf n).cur.isSome then .ok (.entry e, n) else .error stNO_KEY

/-- The counter a frame takes is stored (R227); at its end securing fails with EVT_EXHAUSTED. -/
def State.takeCounter (s : State) (h : HopKey) : State × Option Nat :=
  let f : Fld := match h with
    | .broadcast => F.CX_BCASTCNT_COUNT
    | .entry e => F.EP3_EVT_TX e
  if s.getF f = 0xFFFFFFFF then
    ((s.bump F.MC_SUPSTAT_EVTEXH).notice ncEVT_EXHAUSTED 0 [], none)
  else
    let s1 := s.setF f (s.getF f + 1)
    (match h with
     | .entry e => s1.mirror (.eventCounter (Fin.ofNat 131072 e) (s1.word (F.EP3 e)) (s1.word (F.EP4 e)))
     | .broadcast => s1, some (s.getF f + 1))

end Sys2Proof.Machine
end

