-- ==== Sys2Proof/Machine/BenchOps.lean ====
section
/-! DEFINITION. The bench and the peer fabric as shared operations (R345 to R358, R366 to R368): groups, usable links,
paths, sending a message, requests and their tags. -/
namespace Sys2Proof.Machine
open Sys2Proof

abbrev roleNONE : Nat := 0
abbrev roleMASTER : Nat := 1
abbrev roleMEMBER : Nat := 2

def State.benchRole (s : State) : Nat := s.getF F.BN_CFG_ROLE
def State.nmemb (s : State) : Nat := s.getF F.BN_CFG_NMEMB
def State.ring (s : State) : Bool := s.flag F.BN_CFG_TOPO

/-- The state field of a lane group (R351): 0 east, 1 west, 2 to 5 the peer ports. -/
def grpState (g : Nat) : Fld := if g < 2 then F.BN_GRPSTAT_STATE g else F.PF_PORTSTAT_STATE (g - 2)
def State.groupUp (s : State) (g : Nat) : Bool := s.getF (grpState g) == 2

/-- Lanes a group is configured with. -/
def State.groupLanes (s : State) (g : Nat) : Nat :=
  if g < 2 then s.getF (F.BN_GRPCFG_LANES g) else s.getF (F.PF_PORTCFG_LANES (g - 2))

/-- A group may run: configured, BPL ON, a bench role for the bench groups, a master or a device without a bench for a
peer port (R351, R366). -/
def State.groupEnabled (s : State) (g : Nat) : Bool :=
  s.struct_.live && s.domOn domBPL && s.groupLanes g != 0 &&
    (if g < 2 then s.benchRole != roleNONE else s.benchRole != roleMEMBER)

/-! ## Links and paths (R358) -/

/-- The link from member `m`'s east group is usable and has waited its WTR. Of the link into the own west group the device
knows the receiving end itself. -/
def State.linkOk (s : State) (m : Nat) : Bool :=
  decide (s.bench.linkmap / 2 ^ m % 2 = 1) && !s.bench.wtr.any (·.1 == m) &&
    (decide ((m + 1) % (s.nmemb + 1) ≠ s.memberNo) || s.groupUp 1)

/-- Links going east from member `a` to `b`, and whether all are usable. -/
def State.eastWay (s : State) (a b : Nat) : Nat × Bool :=
  let n := s.nmemb + 1
  let d := (b + n - a % n) % n
  (d, (s.ring || decide (a ≤ b)) && (List.range d).all fun i => s.linkOk ((a + i) % n))

/-- The direction of a message to member `m` (R358): 0 east, 1 west, 2 none. -/
def State.pathTo (s : State) (m : Nat) : Nat :=
  if s.benchRole = roleNONE ∨ s.nmemb < m then 2
  else
    let e := s.eastWay s.memberNo m
    let w := s.eastWay m s.memberNo
    match e.2, w.2 with
    | true, true => if e.1 ≤ w.1 then 0 else 1
    | true, false => 0
    | false, true => 1
    | false, false => 2

/-- The path in force to a member. -/
def State.pathNow (s : State) (m : Nat) : Nat := aget 2 s.bench.paths m

/-- Credits held from a lender whose path is lost are dropped, and the frames held on them end BENCH_LOST (R365). The credits
granted to the member are granted anew after the path returns (R362). -/
def State.dropLender (s : State) (m : Nat) : State :=
  let n := (s.chirp.demods.filter fun d => d.lender == some m).length
  let b : BenchState := { s.bench with granted := adel s.bench.granted m }
  ({ s with bench := b, chirp := { s.chirp with demods := s.chirp.demods.filter fun d => d.lender != some m } } : State).setF
    (F.BN_CREDIT_CREDITS m) 0 |>.bump F.BN_LEASESTAT_LOST n

/-- Paths follow the links (R358): one RING_PATH for each that changes, and BN_REACH. -/
def State.refreshPaths (s : State) : State :=
  (List.range (s.nmemb + 1)).foldl (fun a m =>
    let d := s.pathTo m
    if m = s.memberNo ∨ a.pathNow m = d then a
    else
      let a1 := ({ a with bench := { a.bench with paths := aset a.bench.paths m d } } : State).setF
        ⟨F.BN_REACH, m, m⟩ (boolNat (d != 2))
      let a2 := a1.notice ncRING_PATH 0 [(8, m), (8, d)]
      if d = 2 then a2.dropLender m else a2) s

/-- The bit of link `m` changes (R358): a link usable again waits WTR before paths change to include it. -/
def State.setLink (s : State) (m : Nat) (up : Bool) : State :=
  let was := decide (s.bench.linkmap / 2 ^ m % 2 = 1)
  if up = was then s
  else if up then
    let again := s.bench.everUp.contains m
    let ever := if again then s.bench.everUp else m :: s.bench.everUp
    let s1 := { s with bench := { s.bench with linkmap := s.bench.linkmap + 2 ^ m, everUp := ever } }
    if !again || s1.getF F.BN_CFG_WTR == 0 then s1.refreshPaths
    else { s1 with bench := { s1.bench with wtr := s1.bench.wtr ++ [(m, s1.ns)] } }
  else
    ({ s with bench := { s.bench with
        linkmap := s.bench.linkmap - 2 ^ m, wtr := s.bench.wtr.filter (·.1 != m) } } : State).refreshPaths

/-- The state of the own east link: the receiving group UP and no RDI at either end (R358). -/
def State.ownLink (s : State) : State :=
  if s.benchRole = roleNONE then s
  else s.setLink s.memberNo (s.groupUp 0 && !s.flag (F.BN_GRPSTAT_RDI_RX 0))

/-! ## Sending (R353, R357) -/

/-- The next message counter of a group (R353). -/
def State.sendOn (s : State) (g dst tag : Nat) (retry : Bool) (hops : Nat) (c : BenchContent) : State :=
  let n := aget 0 s.bench.counters g + 1
  ({ s with bench := { s.bench with counters := aset s.bench.counters g n } } : State).emitOut
    (.benchMsg g dst tag retry hops n c)

/-- Bytes of a message's body, of those that wait for no ACK: an ACK's status and words, a frame's record and payload; of another at
most one cell's. -/
def bodyBytes : BenchContent → Nat
  | .ack _ _ ws => 4 + 4 * ws.length
  | .frame f => 4 * f.record.length + f.body.length
  | _ => 48

/-- Cells of a message: its header of 16 bytes and its body, 64 bytes a cell (R352, R353). -/
def cellsOf (c : BenchContent) : Nat := (16 + bodyBytes c + 63) / 64

/-- A message that waits for no ACK goes out on the member's path; the cells of one that cannot be routed are counted (R357). -/
def State.benchPost (s : State) (dst : Nat) (c : BenchContent) : State :=
  let d := s.pathTo dst
  if d = 2 then s.bump F.BN_REQSTAT_UNROUTABLE (cellsOf c) else s.sendOn d dst 0 false 0 c

/-! ## Peer fabric (R366 to R368) -/

/-- The PF_RT entry of an address. -/
def State.peerRoute (s : State) (a : Nat) : Option Nat :=
  (List.range 256).find? fun i => s.flag (F.PF_RT_VALID i) && s.getF (F.PF_RT_ADDR i) == a

/-- A peer port carries traffic: its neighbour is UP and it has not heard its own address. -/
def State.peerUp (s : State) (p : Nat) : Bool :=
  s.groupUp (p + 2) && s.flag (F.PF_PORTSTAT_NEIGH_UP p) && !s.flag (F.PF_PORTSTAT_DUPADDR p)

/-- The port towards a fabric address: a neighbour's own port, else its route's. -/
def State.peerPort (s : State) (a : Nat) : Option Nat :=
  match (List.range 4).find? fun p => s.peerUp p && s.getF (F.PF_PORTSTAT_NEIGH p) == a with
  | some p => some p
  | none => (s.peerRoute a).bind fun i =>
    if s.getF (F.PF_RT_METRIC i) < 16 ∧ s.peerUp (s.getF (F.PF_RT_PORT i)) then some (s.getF (F.PF_RT_PORT i)) else none

/-- A fabric message with so many hops left; an address with no route is counted in PF_STAT.NOROUTE (R368). -/
def State.peerPost (s : State) (dst hops tag : Nat) (c : BenchContent) : State × Nat :=
  match s.peerPort dst with
  | some p => (s.sendOn (p + 2) dst tag false hops c, stOK)
  | none => (s.bump F.PF_STAT_NOROUTE, stPEER_UNREACHABLE)

/-! ## Requests (R357) -/

/-- The ACK deadline of a request that leaves now (R357). -/
def State.ackDeadline (s : State) : Nat := s.ns + s.getF F.BN_CFG_ACK_TIMEOUT * 10000

/-- The fabric address a request goes to, where it crosses the fabric. -/
def peerDst : BenchContent → Option Nat
  | .peerHandover d _ _ _ => some d
  | _ => none

/-- A request with a tag leaves: through the fabric, or on direction `d` of the bench. -/
def State.benchIssue (s : State) (t dst : Nat) (c : BenchContent) (p : BenchPurpose) (d : Nat) : State :=
  let s1 := match peerDst c with
    | some a => (s.peerPost a 16 t c).1
    | none => s.sendOn d dst t false 0 c
  let r : BenchReq := { tag := t, dst := dst, content := c, purpose := p, east := d == 0, deadline := s1.ackDeadline }
  { s1 with bench := { s1.bench with reqs := s1.bench.reqs ++ [r] } }

/-- A request takes its tag and leaves, or is held for want of one (R23). -/
def State.benchTake (s : State) (dst : Nat) (c : BenchContent) (p : BenchPurpose) (d : Nat) : State :=
  match s.takeTag tcBENCH with
  | (s1, some t) => s1.benchIssue t dst c p d
  | (s1, none) => { s1 with bench := { s1.bench with heldReqs := s1.bench.heldReqs ++ [(dst, c, p)] } }

/-- A bench request (R357): sent, held for want of a tag (R23), or refused: a member that does not exist, BPL not ON (R77), no
path. -/
def State.benchAsk (s : State) (dst : Nat) (c : BenchContent) (p : BenchPurpose) : State × Nat :=
  let d := s.pathTo dst
  if s.nmemb < dst ∨ dst = s.memberNo then (s, stNO_MEMBER)
  else if !s.domOn domBPL then (s, stDOMAIN_DOWN)
  else if d = 2 then (s, stNO_MEMBER)
  else (s.benchTake dst c p d, stOK)

/-- A request across the fabric (R368, R369): sent, held, or refused: BPL not ON (R77), PEER_UNREACHABLE. -/
def State.peerAsk (s : State) (a : Nat) (c : BenchContent) (p : BenchPurpose) : State × Nat :=
  if !s.domOn domBPL then (s, stDOMAIN_DOWN)
  else match s.peerPort a with
  | some _ => (s.benchTake 0 c p 2, stOK)
  | none => (s.bump F.PF_STAT_NOROUTE, stPEER_UNREACHABLE)

/-- The content is a read (R78). -/
def isBenchRead : BenchContent → Bool
  | .read _ _ => true
  | _ => false

/-- The held requests that go out as tags come free: while BPL is not ON no read that has not been issued (R78). -/
def State.issuable (s : State) (x : Nat × BenchContent × BenchPurpose) : Bool := s.domOn domBPL || !isBenchRead x.2.1

/-- A tag has been freed: the request held longest takes it (R23). -/
def State.benchHeld (s : State) : State :=
  match s.bench.heldReqs.find? s.issuable with
  | none => s
  | some (dst, c, p) =>
    match s.takeTag tcBENCH with
    | (_, none) => s
    | (s1, some t) =>
      let s2 := { s1 with bench := { s1.bench with heldReqs := s1.bench.heldReqs.erase (dst, c, p) } }
      s2.benchIssue t dst c p (if s2.pathTo dst = 2 then 0 else s2.pathTo dst)

/-- A tag of a DMA read or a bench request is freed: what was held longest takes it (R23), reads before requests. -/
def State.freeTag (s : State) (t : Nat) : State :=
  let s1 := s.giveTag t
  (State.grantReads s1.host.heldDma.length s1).benchHeld

/-- A DMA read ends: it is held no longer, and its tag is free (R22). -/
def State.readEnd (s : State) (k : DmaRead) : State :=
  let h : HostState := {
    s.host with reads := s.host.reads.filter (·.1 != k), heldDma := s.host.heldDma.filter (· != k) }
  match s.readTag k with
  | some t => ({ s with host := h } : State).freeTag t
  | none => { s with host := h }

/-- A DMA read that is issued and completes within one event of the opcode table (R22): `f` once it has its tag; without one it is
held at its source (R23), and its event comes again. -/
def State.withRead (s : State) (k : DmaRead) (f : State → State) : State :=
  let s1 := s.readIssue k
  if (s1.readTag k).isSome then f (s1.readEnd k) else s1

/-- The ACK of a request this device has executed, kept for 10 ms (R357). -/
def State.benchReply (s : State) (src tag st : Nat) (words : List Word) : State :=
  let r : BenchDone := { src := src, tag := tag, time := s.ns, status := st, words := words }
  let keep := s.bench.done.filter fun x => decide (s.ns < x.time + 10000000)
  let s1 := { s with bench := { s.bench with done := keep ++ [r] } }
  s1.benchPost src (.ack tag st words)

/-- The request was executed within the last 10 ms (R357). -/
def State.benchSeen (s : State) (src tag : Nat) : Option BenchDone :=
  s.bench.done.find? fun x => x.src == src && x.tag == tag && decide (s.ns < x.time + 10000000)

/-! ## Groups as they change state (R351, R358, R367) -/

/-- The best route to an address changes: one PEER_ROUTE (R368), and the change is to be advertised. -/
def State.routeNotice (s : State) (a metric port : Nat) : State :=
  ({ s with bench := { s.bench with routeChanged := [2, 3, 4, 5] } } : State).notice ncPEER_ROUTE port
    [(16, a), (8, metric), (8, port)]

/-- A learned route is removed (R368). -/
def State.dropRoute (s : State) (i : Nat) : State :=
  let a := s.getF (F.PF_RT_ADDR i)
  let p := s.getF (F.PF_RT_PORT i)
  let s1 := { s with bench := { s.bench with refresh := adel s.bench.refresh i } }
  ((s1.setWord (F.PF_RT i) 0)).routeNotice a 16 p

/-- The neighbour of a peer port goes DOWN (R367): one PEER_STATE, its routes removed at once (R368). -/
def State.peerGone (s : State) (p : Nat) : State :=
  if !s.flag (F.PF_PORTSTAT_NEIGH_UP p) then s
  else
    let s1 := (s.setF (F.PF_PORTSTAT_NEIGH_UP p) 0).notice ncPEER_STATE p [(8, p), (16, s.getF (F.PF_PORTSTAT_NEIGH p)), (8, 0)]
    ((List.range 256).filter fun i => s1.flag (F.PF_RT_VALID i) && s1.getF (F.PF_RT_PORT i) == p).foldl (fun a i => a.dropRoute i) s1

/-- The history of a group's UP state (R361): 30 s of it, and the change before. -/
def perfNote (t : Nat) (up : Bool) (l : List (Nat × Bool)) : List (Nat × Bool) :=
  let l' := (t, up) :: l
  let young := l'.takeWhile fun x => decide (t < x.1 + 30000000000)
  l'.take (young.length + 1)

/-- A group changes state: one GROUP_STATE with the first failing condition (R351); what depends on its being UP follows. -/
def State.setGroup (s : State) (g st cond : Nat) : State :=
  let was := s.getF (grpState g)
  if was = st then s
  else
    let p := aget {} s.bench.perf g
    let q : PerfState := { p with changes := if was = 2 ∨ st = 2 then perfNote s.ns (st == 2) p.changes else p.changes }
    let s1 := { s with bench := { s.bench with perf := aset s.bench.perf g q } }
    let s2 := (s1.setF (grpState g) st).notice ncGROUP_STATE g [(8, g), (8, st), (8, cond)]
    if 2 ≤ g then (if st = 2 then s2 else s2.peerGone (g - 2))
    else if g = 0 then s2.ownLink.refreshPaths
    else s2.refreshPaths

end Sys2Proof.Machine
end

