-- ==== Sys2Proof/Machine/PlcCode.lean ====
section
/-! DEFINITION. The power-line coding chain (R143 to R152): header word and CRC-8, symbol counts, scrambler, Reed-Solomon
and convolutional codes, interleaving and differential mapping. Times are in ns. -/
namespace Sys2Proof.Machine
open Sys2Proof

/-! ## Header (R144) -/

/-- One bit step of the CRC-8 with polynomial 0x07, `n` times. -/
def crc8Bits : Nat → Nat → Nat
  | 0, c => c
  | n + 1, c => crc8Bits n (if c / 128 % 2 = 1 then (c * 2 % 256) ^^^ 0x07 else c * 2 % 256)

/-- CRC-8 of a byte string, initial value zero (R144). -/
def crc8 (bs : List Nat) : Nat := bs.foldl (fun c b => crc8Bits 8 (c ^^^ b)) 0

/-- The header word of MODE, FT, LEN and SEED (R144). -/
def plcHeader (mode ft len seed : Nat) : Word :=
  let v := mode + ft * 2 ^ 3 + len * 2 ^ 5 + seed * 2 ^ 17
  BitVec.ofNat 32 (v + crc8 [v % 256, v / 256 % 256, v / 65536 % 256] * 2 ^ 24)

def phMode (h : Word) : Nat := h.field 2 0
def phFt (h : Word) : Nat := h.field 4 3
def phLen (h : Word) : Nat := h.field 16 5
def phSeed (h : Word) : Nat := h.field 23 17

/-- The header's CRC is right (R144). -/
def phCrcOk (h : Word) : Bool := crc8 [h.field 7 0, h.field 15 8, h.field 23 16] == h.field 31 24

/-! ## Modes and symbol counts (R145, R146) -/

/-- Bits per carrier. -/
def modeBits : Nat → Nat
  | 1 => 2 | 2 => 3 | _ => 1

/-- Repetition factor. -/
def modeRep : Nat → Nat
  | 3 => 4 | 4 => 8 | _ => 1

/-- Header repetition factor. -/
def headRep (deep : Bool) : Nat := if deep then 8 else 4

def preambleSyms (deep : Bool) : Nat := if deep then 16 else 8
def headerSyms (deep : Bool) (ncar : Nat) : Nat := ceilDiv (76 * headRep deep) ncar

/-- Reed-Solomon blocks. -/
def rsBlocks (len : Nat) : Nat := ceilDiv len 239

/-- Payload coded bits N_c. -/
def codedBits (len : Nat) : Nat := 2 * (8 * (len + 16 * rsBlocks len) + 6)

def payloadSyms (mode len ncar : Nat) : Nat := ceilDiv (modeRep mode * codedBits len) (ncar * modeBits mode)

/-- Symbols of a whole frame (R146). -/
def frameSyms (mode len ncar : Nat) : Nat :=
  preambleSyms (mode == 4) + headerSyms (mode == 4) ncar + payloadSyms mode len ncar

/-- The duration of a frame of so many symbols in ns (R146). -/
def symsDur (n : Nat) : Nat := n * 680000 + 5000

/-! ## Coding (R147 to R151) -/

/-- The bits of bytes, each least significant first (R147). -/
def bitsOfBytes (bs : List Nat) : List Nat := bs.flatMap fun b => (List.range 8).map fun i => b / 2 ^ i % 2

/-- Bytes from bits, least significant first. -/
def bytesOfBits (n : Nat) (l : List Nat) : List Nat :=
  (List.range n).map fun i => ((l.drop (8 * i)).take 8).foldr (fun b a => b + 2 * a) 0

/-- The scrambler of R148: the same function descrambles. -/
def scramble : Nat → List Nat → List Nat
  | _, [] => []
  | st, d :: ds =>
    let f := (st / 64 + st / 8) % 2
    ((d + f) % 2) :: scramble ((st * 2 + f) % 128) ds

/-- Multiplication in GF(256) generated by 0x11D, `n` steps (R149). -/
def gfMulAux : Nat → Nat → Nat → Nat
  | 0, _, _ => 0
  | n + 1, a, b =>
    let r := gfMulAux n (let a2 := a * 2; if 256 ≤ a2 then a2 ^^^ 0x11D else a2) (b / 2)
    if b % 2 = 1 then r ^^^ a else r
def gfMul (a b : Nat) : Nat := gfMulAux 8 a b

/-- The generator polynomial, highest degree first, of roots alpha^0 to alpha^(n-1) (R149). -/
def rsGen : Nat → Nat → List Nat → List Nat
  | 0, _, g => g
  | n + 1, a, g =>
    rsGen n (gfMul a 2) (List.zipWith (fun x y => x ^^^ gfMul a y) (g ++ [0]) (0 :: g))

/-- The generator of 16 roots. -/
def rsG : List Nat := rsGen 16 1 [1]

/-- The 16 parity bytes of a data block, highest degree first (R149). -/
def rsParity (data : List Nat) : List Nat :=
  data.foldl (fun r d =>
    let f := d ^^^ r.headD 0
    List.zipWith (fun x y => x ^^^ gfMul f y) (r.drop 1 ++ [0]) (rsG.drop 1)) (List.replicate 16 0)

/-- The PSDU split into blocks and coded (R149). -/
def rsEncode (bs : List Nat) : List Nat :=
  let b := rsBlocks bs.length
  let q := bs.length / b
  let r := bs.length % b
  (List.range b).flatMap fun i =>
    let from_ := i * q + min i r
    let blk := (bs.drop from_).take (if i < r then q + 1 else q)
    blk ++ rsParity blk

/-- Parity of the bits of a number below 128. -/
def parity7 (x : Nat) : Nat := ((List.range 7).map fun i => x / 2 ^ i % 2).sum % 2

/-- The convolutional code of R150 from state `st` (six past bits): 171 output, then 133 output. -/
def convBits : Nat → List Nat → List Nat
  | _, [] => []
  | st, d :: ds =>
    let w := d * 64 + st
    parity7 (w &&& 0o171) :: parity7 (w &&& 0o133) :: convBits (w / 2) ds

/-- Convolutional coding with six zero tail bits. -/
def convEncode (l : List Nat) : List Nat := convBits 0 (l ++ List.replicate 6 0)

/-- The bit at symbol `s` and place `u` (carrier index u mod ncar, bit position u div ncar) of a block of `n` symbols
(R151): the inverse of the placement rule. -/
def placedBit (c : List Nat) (r n ncar b s u : Nat) : Nat :=
  let w := ncar * b
  let q := (u + 7 * s * w - 7 * s) % w
  let m := q * n + s
  if m < r * c.length then nthD c (m / r) else 0

/-- The phase steps of one symbol in units of pi/4, one per carrier (R152). -/
def symbolSteps (c : List Nat) (r n ncar b s : Nat) : List Nat :=
  (List.range ncar).map fun car =>
    let bit := fun k => placedBit c r n ncar b s (car + k * ncar)
    match b with
    | 1 => 4 * bit 0
    | 2 => match bit 1, bit 0 with
      | 0, 0 => 0 | 0, _ => 2 | _, 1 => 4 | _, _ => 6
    | _ => match bit 2, bit 1, bit 0 with
      | 0, 0, 0 => 0 | 0, 0, _ => 1 | 0, _, 1 => 2 | 0, _, _ => 3
      | _, 1, 0 => 4 | _, 1, _ => 5 | _, _, 1 => 6 | _, _, _ => 7

/-- The phase steps of every header and payload symbol of a frame (R146 to R152). -/
def plcSymbols (mode ft seed ncar : Nat) (psdu : List Byte) : List (List Nat) :=
  let deep := mode == 4
  let h := plcHeader mode ft psdu.length seed
  let hc := convEncode (bitsOfBytes [h.field 7 0, h.field 15 8, h.field 23 16, h.field 31 24])
  let nh := headerSyms deep ncar
  let bits := scramble seed (bitsOfBytes (psdu.map BitVec.toNat))
  let pc := convEncode (bitsOfBytes (rsEncode (bytesOfBits psdu.length bits)))
  let ns := payloadSyms mode psdu.length ncar
  (List.range nh).map (symbolSteps hc (headRep deep) nh ncar 1) ++
    (List.range ns).map (symbolSteps pc (modeRep mode) ns ncar (modeBits mode))

/-- The phases of SYNCP in units of pi/4, SYNCM being pi more (R143). -/
def syncPhase (n : Nat) (m : Bool) : Nat := (n * (n + 1) / 2 % 8 + boolNat m * 4) % 8

/-- The phases of SYNCP or SYNCM on every carrier. -/
def syncSymbol (ncar : Nat) (m : Bool) : List Nat := (List.range ncar).map fun n => syncPhase n m

/-- The preamble (R143): 7 SYNCP and 1 SYNCM, or in its deep form 14 and 2. -/
def plcPreamble (deep : Bool) (ncar : Nat) : List (List Nat) :=
  List.replicate (if deep then 14 else 7) (syncSymbol ncar false) ++ List.replicate (if deep then 2 else 1) (syncSymbol ncar true)

/-- Each carrier carries its phase in the symbol before plus its step (R152). -/
def plcWalk : List Nat → List (List Nat) → List (List Nat)
  | _, [] => []
  | prev, d :: ds =>
    let x := List.zipWith (fun a b => (a + b) % 8) prev d
    x :: plcWalk x ds

/-- The phases of every carrier in every symbol of a frame, in units of pi/4 (R143, R152): the first header symbol refers to the last
SYNCM, the first payload symbol to the last header symbol. -/
def plcPhases (mode ft seed ncar : Nat) (psdu : List Byte) : List (List Nat) :=
  plcPreamble (mode == 4) ncar ++ plcWalk (syncSymbol ncar true) (plcSymbols mode ft seed ncar psdu)

/-- Samples of a symbol's body and of its prefix, at a decimation (R140). -/
def bodySamples (d : Nat) : Nat := 32768 / d
def prefixSamples (d : Nat) : Nat := 2048 / d

/-! ## Quality (R164) -/

/-- MEAN_SNR: the mean over the carriers in 0.25 dB, rounded down. -/
def meanSnr (snr : List Int) : Int := if snr.isEmpty then 0 else snr.sum / snr.length

/-- LQI = min(255, max(0, 8 (MEAN_SNR + 10))) with MEAN_SNR in dB, given here in 0.25 dB. -/
def lqi (mean : Int) : Nat := min 255 (2 * (mean + 40)).toNat

end Sys2Proof.Machine
end

