-- ==== Sys2Proof/Machine/ChirpCode.lean ====
section
/-! DEFINITION. The chirp waveform and its coding (R194, R196 to R203): symbol values of a frame, its header, its length. -/
namespace Sys2Proof.Machine
open Sys2Proof

/-- T_sym in ns of spreading factor `sf` + 5 at a port's channel mode: 2^SF chips at 125 kHz * 2^CHMODE (R196). -/
def tSym (sf chmode : Nat) : Nat := 2 ^ (sf + 5) * 8000 / 2 ^ chmode

/-- Low-rate mode: T_sym at least 8.192 ms (R201). -/
def lowRate (sf chmode : Nat) : Bool := decide (8192000 ≤ tSym sf chmode)

/-- Rows of the first block and of a further block (R201). -/
def firstRows (sf : Nat) : Nat := if 2 ≤ sf then sf + 4 else sf + 5
def furtherRows (sf chmode : Nat) : Nat := if lowRate sf chmode then sf + 4 else sf + 5

/-- Payload and CRC nibbles the first block holds. -/
def firstNibbles (sf : Nat) (explicit : Bool) : Nat := if explicit then firstRows sf - 5 else firstRows sf

/-- Payload symbols of a frame (R203). -/
def chirpPay (sf chmode cr : Nat) (explicit crcOn : Bool) (len : Nat) : Nat :=
  let nib := 2 * (len + 2 * boolNat crcOn)
  8 + ceilDiv (nib - firstNibbles sf explicit) (furtherRows sf chmode) * (4 + cr)

/-- Time on air in ns, first preamble sample to last payload sample (R203). -/
def chirpAir (sf chmode cr : Nat) (explicit crcOn : Bool) (len npre : Nat) : Nat :=
  (4 * npre + 17 + 4 * chirpPay sf chmode cr explicit crcOn len) * (tSym sf chmode / 4)

/-- From the start of the sync word to the last payload sample, in ns: two sync symbols, the delimiter, the payload. -/
def chirpTail (sf chmode cr : Nat) (explicit crcOn : Bool) (len : Nat) : Nat :=
  chirpAir sf chmode cr explicit crcOn len 0

/-! ## Payload CRC, whitening, header (R198, R199) -/

/-- The payload CRC (R199): initial value zero. -/
def chirpCrc (bs : List Byte) : Nat := bs.foldl (fun c b => crc16Bits 8 (c ^^^ (b.toNat * 256))) 0

/-- One whitening byte from a 9-bit state: the byte and the state after it (R199). -/
def whiteByte : Nat → Nat → Nat → Nat → Nat × Nat
  | 0, _, st, w => (w, st)
  | n + 1, i, st, w =>
    let f := (st / 256 + st / 16 % 2) % 2
    whiteByte n (i + 1) ((st * 2 + f) % 512) (w + f * 2 ^ i)

/-- Payload and CRC bytes whitened (R199); whitening twice gives the bytes back. -/
def whiten : Nat → List Nat → List Nat
  | _, [] => []
  | st, b :: bs => let (w, st') := whiteByte 8 0 st 0; (b ^^^ w) :: whiten st' bs

/-- The explicit header's low 12 bits and the whole header of 20 (R198). -/
def chirpHeaderLow (cr : Nat) (crcOn : Bool) (len : Nat) : Nat := cr - 1 + 4 * boolNat crcOn + 16 * len
def chirpHeader (cr : Nat) (crcOn : Bool) (len : Nat) : Nat :=
  let h := chirpHeaderLow cr crcOn len
  h + crc8 [h % 256, h / 256] * 4096

/-- HCHK correct, the reserved bit zero, LEN 1 to 255 (R198, R206). -/
def chirpHeaderOk (h : Nat) : Bool :=
  crc8 [h % 256, h / 256 % 16] == h / 4096 % 256 && h / 8 % 2 == 0 && decide (1 ≤ h / 16 % 256)

/-! ## Codewords, interleaving, symbol values (R197, R200 to R202) -/

def bitOf (x i : Nat) : Nat := x / 2 ^ i % 2

/-- The codeword of a nibble at coding rate `cr` (R200). -/
def chirpCodeword (cr d : Nat) : Nat :=
  let d0 := bitOf d 0
  let d1 := bitOf d 1
  let d2 := bitOf d 2
  let d3 := bitOf d 3
  let c4 := if cr = 1 then (d0 + d1 + d2 + d3) % 2 else (d0 + d1 + d2) % 2
  let c5 := (d1 + d2 + d3) % 2
  let c6 := (d0 + d1 + d3) % 2
  let c7 := (d0 + d1 + d2 + d3 + c4 + c5 + c6) % 2
  (d % 16 + 16 * c4 + 32 * c5 + 64 * c6 + 128 * c7) % 2 ^ (4 + cr)

/-- The integer of `n` bits whose Gray code is `g`. -/
def unGray (n g : Nat) : Nat := (List.range n).foldl (fun a k => a ^^^ (g / 2 ^ k)) 0

/-- The `n` symbol values of a block of codewords (R202). -/
def chirpBlock (sf n : Nat) (ws : List Nat) : List Nat :=
  let rows := ws.length
  (List.range n).map fun j =>
    unGray rows (((List.range rows).map fun i => bitOf (nthD ws ((rows - 1 - i + j) % rows)) j * 2 ^ i).sum) *
      2 ^ (sf + 5 - rows)

/-- `k` blocks of `rows` nibbles each. -/
def chirpBlocks (sf cr rows : Nat) : Nat → List Nat → List Nat
  | 0, _ => []
  | k + 1, ns =>
    chirpBlock sf (4 + cr) ((List.range rows).map fun i => chirpCodeword cr (nthD ns i)) ++
      chirpBlocks sf cr rows k (ns.drop rows)

/-- Bytes as nibbles, bits [3:0] first. -/
def nibblesOf (bs : List Nat) : List Nat := bs.flatMap fun b => [b % 16, b / 16 % 16]

/-- The symbol values of a frame's payload part (R201, R202). -/
def chirpSymbols (sf chmode cr : Nat) (explicit crcOn : Bool) (payload : List Byte) : List Nat :=
  let crc := chirpCrc payload
  let body := payload.map (·.toNat) ++ (if crcOn then [crc % 256, crc / 256] else [])
  let ns := nibblesOf (whiten 0x1FF body)
  let h := chirpHeader cr crcOn payload.length
  let head := if explicit then (List.range 5).map fun i => h / 16 ^ i % 16 else []
  let k := firstNibbles sf explicit
  let rows := furtherRows sf chmode
  chirpBlock sf 8 ((List.range (firstRows sf)).map fun i => chirpCodeword 4 (nthD (head ++ ns.take k) i)) ++
    chirpBlocks sf cr rows (ceilDiv (ns.length - k) rows) (ns.drop k)

/-! ## Decoding (R200 to R202) -/

/-- The codewords of `rows` rows that `n` decided symbol values carry (R202). -/
def chirpWords (sf n rows : Nat) (vs : List Nat) : List Nat :=
  let gs := vs.map fun v => let x := v / 2 ^ (sf + 5 - rows) % 2 ^ rows; x ^^^ (x / 2)
  (List.range rows).map fun k => ((List.range n).map fun j => bitOf (nthD gs j) ((rows - 1 - k + j) % rows) * 2 ^ j).sum

/-- Bits in which two codewords differ. -/
def bitsApart (a b : Nat) : Nat := ((List.range 8).map (bitOf (a ^^^ b))).sum

/-- The nibble of a received codeword and whether it was corrected (R200): one bit error at 4/7 and 4/8. DESIGN CHOICE (entry 153):
a codeword that is not corrected gives its bits c0 to c3. -/
def chirpNibble (cr w : Nat) : Nat × Bool :=
  match (if 3 ≤ cr then (List.range 16).find? fun d => decide (bitsApart (chirpCodeword cr d) w ≤ 1) else none) with
  | some d => (d, chirpCodeword cr d != w)
  | none => (w % 16, false)

/-- The nibbles of a block and the codewords corrected in it. -/
def blockNibbles (sf cr rows : Nat) (vs : List Nat) : List Nat × Nat :=
  let xs := (chirpWords sf (4 + cr) rows vs).map (chirpNibble cr)
  (xs.map (·.1), (xs.filter (·.2)).length)

/-- The nibbles of `k` further blocks and the codewords corrected in them. -/
def blocksNibbles (sf cr rows : Nat) : Nat → List Nat → List Nat × Nat
  | 0, _ => ([], 0)
  | k + 1, vs =>
    let x := blockNibbles sf cr rows (vs.take (4 + cr))
    let y := blocksNibbles sf cr rows k (vs.drop (4 + cr))
    (x.1 ++ y.1, x.2 + y.2)

/-- The explicit header five nibbles make (R198). -/
def headerOf (ns : List Nat) : Nat := ((List.range 5).map fun i => nthD ns i * 16 ^ i).sum

/-- Nibbles as bytes, bits [3:0] first. -/
def bytesOfNibbles : List Nat → List Nat
  | a :: b :: t => (a + 16 * b) :: bytesOfNibbles t
  | _ => []

/-- Further blocks of a frame (R203). -/
def chirpFurther (sf chmode : Nat) (explicit crcOn : Bool) (len : Nat) : Nat :=
  ceilDiv (2 * (len + 2 * boolNat crcOn) - firstNibbles sf explicit) (furtherRows sf chmode)

/-- The two sync symbols of a sync word byte (R197). -/
def syncSymbols (sf sync : Nat) : Nat × Nat :=
  let u := 2 ^ (sf + 5) / 32
  ((2 * (sync / 16) + 1) * u, 2 ^ (sf + 5) - (2 * (sync % 16) + 1) * u)

/-- Two chirp values lie within one bin of each other, modulo M. -/
def nearBin (sf a b : Nat) : Bool :=
  let m := 2 ^ (sf + 5)
  let d := (a + m - b % m) % m
  decide (d ≤ 1) || d == m - 1

end Sys2Proof.Machine
end

