-- ==== Sys2Proof/Machine/PlcOps.lean ====
section
/-! DEFINITION. Band channels as shared operations (chapters 06 and 07): carriers, receiver states, half duplex, the
start and the end of a transmission, class queues, attempts and acknowledgements. -/
namespace Sys2Proof.Machine
open Sys2Proof

/-! ## Statuses of group 0x01 (R163, R182) -/
abbrev lpOK : Nat := 0x100
abbrev lpMISSED_LAUNCH : Nat := 0x101
abbrev lpBAND_BUSY : Nat := 0x102
abbrev lpBAND_OFF : Nat := 0x103
abbrev lpINVALID_ITEM : Nat := 0x104
abbrev lpFRAME_TOO_LONG : Nat := 0x105
abbrev lpBANDC_TOO_LONG : Nat := 0x106

/-! ## Band channels -/

def State.pchan (s : State) (p b : Nat) : PlcChan := aget {} s.plc.chans (4 * p + b)
def State.setPchan (s : State) (p b : Nat) (c : PlcChan) : State :=
  { s with plc := { s.plc with chans := aset s.plc.chans (4 * p + b) c } }

/-- Carrier k = 99 + i of band F is masked (R142). -/
def State.fMasked (s : State) (i : Nat) : Bool :=
  if i < 192 then (s.word (F.PL_FMASK (i / 32))).bit (i % 32) else (s.word F.PL_FMASK6).bit (i - 192)

/-- Active carriers of a band at a port's preset (R141, R142). -/
def State.nCar (s : State) (p b : Nat) : Nat :=
  match b with
  | 0 => 36
  | 1 => 16
  | 2 => 9
  | _ => ((List.range (if s.preset p = 2 then 214 else 101)).filter fun i => !s.fMasked i).length

/-- The active carriers k of a band channel, ascending (R141, R142). -/
def State.carriers (s : State) (p b : Nat) : List Nat :=
  match b with
  | 0 => (List.range 36).map (23 + ·)
  | 1 => (List.range 16).map (63 + ·)
  | 2 => (List.range 9).map (81 + ·)
  | _ => ((List.range (if s.preset p = 2 then 214 else 101)).filter fun i => !s.fMasked i).map (99 + ·)

/-- A band channel is live (R161). -/
def State.bandLive (s : State) (p b : Nat) : Bool := (s.word (F.PL_PORTLIVE p)).bit b

/-- The feeder group combines (R159). -/
def State.combines (s : State) (g : Nat) : Bool := s.getF (F.PL_FGCFG_COMB g) != 0

/-- Where a port's receptions are kept and counted: the lowest-numbered active port of a combining group (R159). -/
def State.rxHome (s : State) (p : Nat) : Nat :=
  let g := p / 3
  if s.combines g then ((List.range 3).map (3 * g + ·)).find? s.lineActive |>.getD p else p

/-- The ports a transmission on port `p` preempts (R155): the group's where it combines. -/
def State.duplexPorts (s : State) (p : Nat) : List Nat :=
  if s.combines (p / 3) then (List.range 3).map (3 * (p / 3) + ·) else [p]

/-- The ports a frame naming port `p` is sent on, with the carrier rotation of each (R159). -/
def State.txPorts (s : State) (p : Nat) : List (Nat × Nat) :=
  let g := p / 3
  if s.flag (F.PL_FGCFG_COUPLING g) then
    [(3 * g, s.getF (F.PL_FGCFG_PHOFS1 g)), (3 * g + 1, s.getF (F.PL_FGCFG_PHOFS2 g)),
     (3 * g + 2, s.getF (F.PL_FGCFG_PHOFS3 g))]
  else [(p, 0)]

/-- The port a frame the device builds itself is sent on in the group of port `p` (R159): that of TXPHASE under
single-phase coupling, any port of the group under three-phase coupling. -/
def State.ownPort (s : State) (p : Nat) : Nat :=
  let g := p / 3
  if s.flag (F.PL_FGCFG_COUPLING g) then p else 3 * g + s.getF (F.PL_FGCFG_TXPHASE g)

/-- The receiver state of a band channel (R156). -/
def State.rxState (s : State) (p b : Nat) : Nat := s.getF (F.PL_RXQUAL_STATE p b)

/-- The receiver of a band channel moves to a state; when it leaves SYNC, HEADER and PAYLOAD, or HEADER and PAYLOAD, is remembered
(R175). -/
def State.rxTo (s : State) (p b st : Nat) : State :=
  let was := s.rxState p b
  let busy := fun (lo x : Nat) => decide (lo ≤ x) && decide (x ≤ 4)
  let c := s.pchan p b
  (s.setPchan p b { c with
    rxIdle := if busy 2 was && !busy 2 st then s.ns else c.rxIdle,
    hpIdle := if busy 3 was && !busy 3 st then s.ns else c.hpIdle }).setF (F.PL_RXQUAL_STATE p b) st

/-- The receiver of a band channel moves to a state, with what it holds of a reception. -/
def State.setRx (s : State) (p b st : Nat) (r : Option PlcReception) : State :=
  (s.setPchan p b { s.pchan p b with rx := r }).rxTo p b st

/-- The end of the last payload symbol of a reception whose header is decided. -/
def PlcReception.lastSymbol (r : PlcReception) : Nat := r.start + r.nsym * 680000

/-- A transmission starts over one band channel's receiver (R155): a frame in progress is dropped and counted unless
its last payload symbol has been received; detection is suspended. -/
def State.preemptRx (s : State) (p b : Nat) : State :=
  let st := s.rxState p b
  let r := (s.pchan p b).rx
  let done := match r with
    | some x => st == 4 && decide (x.lastSymbol ≤ s.ns)
    | none => false
  if st = 0 ∨ st = 5 then s
  else if done then s.rxTo p b 5
  else
    let s1 := s.setRx p b 5 none
    if 2 ≤ st then s1.bump (F.PL_RXLOSS_PREEMPT p b) else s1

/-- Half duplex (R155): a start on port `p` ends the receptions of its ports and suspends detection until 50 µs after
the last sample, at `last` ns. -/
def State.preempt (s : State) (p last : Nat) : State :=
  (s.duplexPorts p).foldl (fun a x =>
    let a1 := (List.range 4).foldl (fun c b => c.preemptRx x b) a
    { a1 with plc := { a1.plc with suspendTo := aset a1.plc.suspendTo x (max (last + 50000) (aget 0 a1.plc.suspendTo x)) } }) s

/-- The modem engine of a port is out of work (R379). -/
def State.modemDown (s : State) (p : Nat) : Bool :=
  match s.unitOf kMODEM p with
  | some u => s.isWedged kMODEM u
  | none => true

/-- The receivers follow the live set, the domain and the modem engine (R156, R161, R379): a channel not live goes OFF and drops its frame; a
live one that was OFF enters SEARCH, or SUSPENDED while its port transmits. -/
def State.rxFollow (s : State) (p b : Nat) : State :=
  let on_ := s.lineActive p && s.bandLive p b && !s.modemDown p
  let st := s.rxState p b
  if on_ && st == 0 then s.rxTo p b (if s.ns < aget 0 s.plc.suspendTo p then 5 else 1)
  else if !on_ && st != 0 then s.setRx p b 0 none
  else s

def State.rxFollowPort (s : State) (p : Nat) : State := (List.range 4).foldl (fun a b => a.rxFollow p b) s

/-- The receivers of the port a lane serves follow a change of the lane (R126, R161). -/
def State.rxFollowLane (s : State) (l : Nat) : State :=
  let p := s.getF (F.SC_LANECFG_PORT l)
  if p < 96 then s.rxFollowPort p else s

/-- The PL_BLANK words of a port before a change, which counts from the next symbol window on (R158). -/
def State.noteBlank (s : State) (p : Nat) (w0 w1 : Word) : State :=
  { s with plc := { s.plc with blankWas := aset s.plc.blankWas p (((s.ns, w0, w1) : Nat × Word × Word) ::
      (aget [] s.plc.blankWas p).filter fun x => decide (s.ns < x.1 + 4000000000)) } }

/-! ## Transmissions -/

/-- The seed of the next frame, and the counter after it: 1 to 127, skipping zero (R148). -/
def nextSeed (n : Nat) : Nat := if 127 ≤ n then 1 else n + 1

/-- MODE, FT and LEN of a transmit item's descriptor (R162). -/
def itMode (it : List Word) : Nat := (wordAt it 1).field 14 12
def itFt (it : List Word) : Nat := (wordAt it 1).field 16 15
def itLen (it : List Word) : Nat := (wordAt it 1).field 11 0

/-- A transmit item's PSDU: the first LEN bytes from word 2 on (R162). -/
def itPsdu (it : List Word) : List Byte := (bytesOfWords (it.drop 2)).take (itLen it)

/-- The descriptor word of a frame the device builds (R162). -/
def itDesc (len mode ft : Nat) : Word := BitVec.ofNat 32 (len % 4096 + mode * 2 ^ 12 + ft * 2 ^ 15)

/-- A transmit item around a PSDU. -/
def plcItem (psdu : List Byte) (mode ft : Nat) : List Word := itemOf (itDesc psdu.length mode ft :: wordsOfBytes psdu)

/-- The item's form is right (R163): MODE not reserved, LEN 1 to 2,048, length 2 + ceil(LEN/4). -/
def itValid (it : List Word) : Bool :=
  decide (itMode it < 5) && decide (1 ≤ itLen it) && decide (itLen it ≤ 2048) && it.length == 2 + ceilDiv (itLen it) 4

/-! ### LINE_TXEN (R119) -/

/-- LINE_TXEN of feeder group `g` goes high at `t`: a fall that was due before then has happened, a later one does not. -/
def State.txenHigh (s : State) (g t : Nat) : State :=
  let s1 := match afind s.plc.txenLow g with
    | some l => if l ≤ t then s.emitOut (.lineTxen g false l) else s
    | none => s
  ({ s1 with plc := { s1.plc with txen := g :: s1.plc.txen.filter (· != g), txenLow := adel s1.plc.txenLow g } } : State).emitOut
    (.lineTxen g true t)

/-- The pins whose fall is due go low. -/
def State.txenDue (s : State) : State :=
  (s.plc.txenLow.filter fun x => decide (x.2 ≤ s.ns)).foldl (fun a x =>
    ({ a with plc := { a.plc with txen := a.plc.txen.filter (· != x.1), txenLow := adel a.plc.txenLow x.1 } } : State).emitOut
      (.lineTxen x.1 false x.2)) s

/-- Every pin goes low at once (R66). -/
def State.txenOff (s : State) : State :=
  s.plc.txen.foldl (fun a g => a.emitOut (.lineTxen g false a.ns)) { s with plc := { s.plc with txen := [], txenLow := [] } }

/-! ### Waveforms and their sum (R153, R154) -/

/-- The waveform of a frame on port `x`, its carriers rotated by `rot` (R143 to R153, R159). -/
def State.plcWave (s : State) (x b start mode ft seed rot : Nat) (psdu : List Byte) : PlcWave :=
  { carriers := s.carriers x b, level := s.getF (F.PL_BANDCFG_TXLVL x b), preset := s.preset x, start := start,
    phases := (plcPhases mode ft seed (s.nCar x b) psdu).map (·.map fun a => (8 * a + rot) % 64) }

/-- The transmissions of the feeder group of port `x`. -/
def State.groupTx (s : State) (x : Nat) : List PlcSending :=
  ((List.range 3).flatMap fun i => (List.range 4).map fun b => (s.pchan (3 * (x / 3) + i) b).tx).filterMap id

/-- The waveforms on port `x`. -/
def State.portWaves (s : State) (x : Nat) : List PlcWave :=
  (s.groupTx x).flatMap fun t => (t.waves.filter (·.1 == x)).map (·.2)

/-- The sum of the band channels of a port at the stamp `st`, in 2^-16 ns, of a sample (R154). -/
def waveSum (per st : Nat) (ws : List PlcWave) : Int :=
  ((ws.filter fun w => decide (w.start * 65536 ≤ st)).map fun w =>
    Config.lineSample w.level w.preset w.carriers w.phases ((st - w.start * 65536) / per)).sum

/-- The saturated samples of a port are counted up to DT `t` ns (R154): those whose sum lies beyond the 20-bit range. -/
def State.clipTo (s : State) (x t : Nat) : State :=
  let ws := s.portWaves x
  let per := s.period16 x
  let k := ceilDiv (aget 0 s.plc.clipFrom x) per
  let n := if ws.isEmpty then 0
    else ((List.range (ceilDiv (t * 65536) per - k)).filter fun i =>
      let y := waveSum per ((k + i) * per) ws
      decide (524287 < y) || decide (y < -524288)).length
  { s with plc := { s.plc with
      clipFrom := aset s.plc.clipFrom x (t * 65536),
      clip := if n = 0 then s.plc.clip else aset s.plc.clip x (min 65535 (aget 0 s.plc.clip x + n)) } }

/-- The frame's start on every port of its coupling (R159, R155, R119): the sending record, the frame itself, LINE_TXEN
1 µs before its first sample, and half duplex. -/
def State.plcStart (s : State) (p b start : Nat) (kind : PlcTxKind) (e : LqEntry) (psdu : List Byte)
    (mode ft : Nat) (ackReq : Bool) : State :=
  let dur := symsDur (frameSyms mode psdu.length (s.nCar p b))
  let c := s.pchan p b
  let waves := (s.txPorts p).map fun x => (x.1, s.plcWave x.1 b start mode ft c.seed x.2 psdu)
  let tx : PlcSending := {
    start := start, end_ := start + dur, kind := kind, entry := e, psdu := psdu, mode := mode, ackReq := ackReq, waves := waves }
  let s0 := waves.foldl (fun a x => a.clipTo x.1 start) s
  let s1 := s0.setPchan p b { c with tx := some tx, seed := nextSeed c.seed }
  let s2 := s1.txenHigh (p / 3) (start - 1000)
  let s3 := waves.foldl (fun a x => a.emitOut (.plcFrame x.1 b (s.getF (F.SC_LPGAIN_TXATT x.1)) x.2)) s2
  waves.foldl (fun a x => a.preempt x.1 (start + dur)) s3

/-- Whether any band channel of feeder group `g` is sending. -/
def State.groupSends (s : State) (g : Nat) : Bool :=
  (List.range 3).any fun i => (List.range 4).any fun b => (s.pchan (3 * g + i) b).tx.isSome

/-- Detection on port `x` is suspended to this DT by the transmissions under way (R155): 50 µs after the last sample. -/
def State.suspendEnd (s : State) (x : Nat) : Nat :=
  ((s.groupTx x).filter fun t => t.waves.any fun w => (s.duplexPorts w.1).contains x).foldl (fun m t => max m (t.end_ + 50000)) 0

/-- A frame's last sample on port `x` has left, at `last` (R119, R155, R182): without another, the DAC goes to mid-scale. -/
def State.waveEnd (s : State) (x b last : Nat) : State :=
  let s1 := s.setPchan x b { s.pchan x b with lastEnd := some last }
  let s2 := (s.duplexPorts x).foldl (fun a y =>
    { a with plc := { a.plc with suspendTo := aset a.plc.suspendTo y (max (last + 50000) (a.suspendEnd y)) } }) s1
  if (s2.portWaves x).isEmpty then s2.emitOut (.dacMid x last) else s2

/-- A transmission leaves a band channel; after the last of its group LINE_TXEN goes low 2 µs later, unless another frame of the
group starts before then (R119). -/
def State.plcStop (s : State) (p b last : Nat) : State :=
  let ps : List Nat := match (s.pchan p b).tx with
    | some t => t.waves.map (·.1)
    | none => []
  let s0 := ps.foldl (fun a x => a.clipTo x last) s
  let s1 := ps.foldl (fun a x => a.waveEnd x b last) (s0.setPchan p b { s0.pchan p b with tx := none, lastEnd := some last })
  if s1.groupSends (p / 3) then s1
  else { s1 with plc := { s1.plc with txenLow := aset s1.plc.txenLow (p / 3) (last + 2000) } }

/-! ## Access settings in force (R187) -/

/-- The address of word `i` of a port's access settings: PL_ACCCFG, PL_ACCWIN, PL_BCNCFG, then PL_CSTHR of the four bands. -/
def accAddr (p i : Nat) : Nat := if i < 3 then F.PL_ACCCFG p + 4 * i else F.PL_CSTHR p (i - 3)

/-- Word `i` of port `p`'s access settings in force: an amended value only from the next mains cycle boundary on. -/
def State.accWord (s : State) (p i : Nat) : Word :=
  match afind s.plc.access p with
  | some ws => wordAt ws i
  | none => s.word (accAddr p i)

/-- DISC, MSYNC, ACK_EN, RETRIES and RPT_CLASS in force (R193). -/
def State.accDisc (s : State) (p : Nat) : Nat := (s.accWord p 0).field 1 0
def State.accMsync (s : State) (p : Nat) : Bool := (s.accWord p 0).bit 2
def State.accAckEn (s : State) (p : Nat) : Bool := (s.accWord p 0).bit 3
def State.accRetries (s : State) (p : Nat) : Nat := (s.accWord p 0).field 7 4
def State.accRptClass (s : State) (p : Nat) : Nat := (s.accWord p 0).field 9 8

def State.beaconDisc (s : State) (p : Nat) : Bool := s.accDisc p == 1 && !s.flag (F.PL_ACCSTAT_FALLBACK p)

/-! ## Class queues and attempts (R172 to R174) -/

/-- Class queue `k` of a band channel, if enabled. -/
def State.classQueue (s : State) (p b k : Nat) : Option Nat :=
  let j := k / 2
  if k % 2 = 0 then (if s.flag (F.PL_ACCQ_EN0 p b j) then some (s.getF (F.PL_ACCQ_Q0 p b j)) else none)
  else (if s.flag (F.PL_ACCQ_EN1 p b j) then some (s.getF (F.PL_ACCQ_Q1 p b j)) else none)

/-- The queue is a class queue of some band channel (R173). -/
def State.isClassQueue (s : State) (q : Nat) : Bool :=
  (List.range 96).any fun p => (List.range 4).any fun b => (List.range 4).any fun k => s.classQueue p b k == some q

/-- The frame a band channel offers (R172): class and queue of the lowest-numbered enabled class queue with a complete
item, none while an attempt is unresolved or the queues are not served. -/
def State.offered (s : State) (p b : Nat) : Option (Nat × Nat) :=
  let c := s.pchan p b
  if c.attempt.isSome || c.blocked then none
  else (List.range 4).findSome? fun k => (s.classQueue p b k).bind fun q =>
    if s.qUsable q && s.qHasItem q then some (k, q) else none

/-- ACKREQ of a DATA or MGMT PSDU (R168). -/
def psduAckReq (ft : Nat) (psdu : List Byte) : Bool := (ft == 0 || ft == 3) && (psdu.getD 0 0).getLsbD 7
def psduSeq (psdu : List Byte) : Nat := (psdu.getD 2 0).toNat
def psduDst (psdu : List Byte) : Nat := natLE ((psdu.drop 4).take 4)
def psduSrc (psdu : List Byte) : Nat := natLE ((psdu.drop 8).take 4)
def psduHops (psdu : List Byte) : Nat := (psdu.getD 0 0).toNat % 16
def psduRptN (psdu : List Byte) : Nat := (psdu.getD 0 0).toNat / 16 % 8
def psduRptIdx (psdu : List Byte) : Nat := (psdu.getD 1 0).toNat % 8
def psduSec (psdu : List Byte) : Bool := (psdu.getD 1 0).getLsbD 3
/-- Entry `i` of the repeat list (R168). -/
def psduRpt (psdu : List Byte) (i : Nat) : Nat := natLE ((psdu.drop (12 + 4 * i)).take 4)
/-- Bytes of the MAC header with its repeat list. -/
def macLen (psdu : List Byte) : Nat := 12 + 4 * psduRptN psdu

/-- The transmitter of a frame (R169). -/
def psduTransmitter (psdu : List Byte) : Nat :=
  if psduRptIdx psdu = 0 then psduSrc psdu else psduRpt psdu (psduRptIdx psdu - 1)

/-- The acting repeater of a frame, if it has one (R169). -/
def psduActing (psdu : List Byte) : Option Nat :=
  if psduRptIdx psdu < psduRptN psdu then some (psduRpt psdu (psduRptIdx psdu)) else none

/-- The duration of the ACK of a frame in MODE `mode` (R170, R177). -/
def State.ackSyms (s : State) (p b mode : Nat) : Nat := frameSyms mode 6 (s.nCar p b)

/-- The end of the ACK reservation after a frame that ends at `t` (R177). -/
def State.reserveEnd (s : State) (p b mode t : Nat) : Nat := t + 680000 + symsDur (s.ackSyms p b mode)

/-- The port the item at R of a class queue of port `p` is sent on: a relayed one on that of TXPHASE (R159, R190). -/
def State.offerPort (s : State) (p q : Nat) : Nat := if s.plc.relayed.contains (q, s.qR q) then s.ownPort p else p

/-- An attempt begins (R174 step 1): the queue's mark is set to its read pointer and the band channel holds it. -/
def State.beginAttempt (s : State) (p b k q : Nat) : State :=
  (s.qMark q).setPchan p b { s.pchan p b with
    attempt := some { queue := q, cls := k, on_ := s.offerPort p q, retries := s.accRetries p } }

/-- The attempt's item is released and its count of attempts forgotten. -/
def State.releaseAttempt (s : State) (p b q : Nat) : State :=
  let s1 := s.qRelease q
  { s1 with plc := { s1.plc with used := adel s1.plc.used q } }.setPchan p b { s.pchan p b with attempt := none }

/-- The attempt ends without its item: rewind to the mark. -/
def State.rewindAttempt (s : State) (p b q : Nat) : State :=
  (s.qRewind q).setPchan p b { s.pchan p b with attempt := none }

/-- A missing ACK or BUSY (R174): rewound while retries are left, else released with PLC_NOACK. -/
def State.ackMissed (s : State) (p b : Nat) (a : PlcAttempt) : State :=
  let used := aget 0 s.plc.used a.queue + 1
  if used ≤ a.retries then
    let s1 := (s.rewindAttempt p b a.queue).bump (F.PL_ACCERR_RETRY p b)
    { s1 with plc := { s1.plc with used := aset s1.plc.used a.queue used } }
  else
    ((s.releaseAttempt p b a.queue).bump (F.PL_ACCERR_NOACK p b)).notice ncPLC_NOACK p
      [(16, a.queue), (8, a.seq), (32, a.dst)]

/-! ## Carrier sense (R175) -/

/-- Transmitting, on this port or as part of a frame of its group (R159). -/
def State.isSending (s : State) (p b : Nat) : Bool :=
  (s.pchan p b).tx.isSome || (List.range 3).any fun i => match (s.pchan (3 * (p / 3) + i) b).tx with
    | some t => t.waves.any (·.1 == p)
    | none => false

/-- The other band channels of the port, of the group where it combines. -/
def State.otherChans (s : State) (p b : Nat) : List (Nat × Nat) :=
  ((s.duplexPorts p).flatMap fun x => (List.range 4).map fun c => (x, c)).filter (· != (s.rxHome p, b))

/-- A band channel is busy but for the energy on the wire (R175): its receiver, its transmitter, another band channel of
the port (of the group where it combines) in HEADER or PAYLOAD, an ACK reservation. -/
def State.bandBusy (s : State) (p b : Nat) : Bool :=
  let h := s.rxHome p
  let st := s.rxState h b
  (st == 2 || st == 3 || st == 4) || s.isSending p b ||
    (s.otherChans p b).any (fun x => s.rxState x.1 x.2 == 3 || s.rxState x.1 x.2 == 4) ||
    decide (s.ns < (s.pchan p b).reservedTo) || decide (s.ns < (s.pchan h b).reservedTo)

/-- The latest search transform is at or above -0.5 thr dBFS (R175). -/
def loudNow (thr : Nat) : List Spectrum → Bool
  | [] => false
  | x :: _ => decide (x.level ≤ thr)

/-- When the energy last turned below the threshold, of transforms newest first: zero where it has not been above. -/
def quietSince (thr : Nat) : List Spectrum → Nat
  | [] => 0
  | [_] => 0
  | x :: y :: t => if thr < x.level ∧ y.level ≤ thr then x.at_ else quietSince thr (y :: t)

/-- The idle start I (R180): the latest core tick at which the band channel turned idle, in ns. -/
def State.idleStart (s : State) (p b : Nat) (spectra : List Spectrum) : Nat :=
  let h := s.rxHome p
  let past := fun (t : Nat) => if t ≤ s.ns then t else 0
  ([(s.pchan h b).rxIdle, (s.pchan p b).lastEnd.getD 0, past (s.pchan p b).reservedTo, past (s.pchan h b).reservedTo,
    (s.pchan p b).idleMin, quietSince (s.accWord p (3 + b)).toNat spectra] ++
    (s.otherChans p b).map fun x => (s.pchan x.1 x.2).hpIdle).foldl max 0

/-- The grants of a band channel with LEN not zero, ascending: address, START, LEN. -/
def State.grantWords (s : State) (p b : Nat) : List (Nat × Nat × Nat) :=
  ((List.range 32).map fun g =>
    (s.getF (F.PL_GRADDR_ADDR p b g), s.getF (F.PL_GRSLOT_START p b g), s.getF (F.PL_GRSLOT_LEN p b g))).filter fun x =>
      x.2.2 != 0

/-- Every transmission on the line stops at once (R66): the frames end, LINE_TXEN goes low. -/
def State.stopLines (s : State) : State :=
  (List.range 384).foldl (fun a i =>
    if (a.pchan (i / 4) (i % 4)).tx.isSome then a.plcStop (i / 4) (i % 4) a.ns else a) s

/-- A feeder group's domain leaves ON (R78, R156, R179): receptions end, and an attempt still waiting for its ACK ends as
a missing ACK with no retry, its item rewound. -/
def State.plcDomainLeaves (s : State) (g : Nat) : State :=
  (List.range 12).foldl (fun a i =>
    let p := 3 * g + i / 4
    let b := i % 4
    let a1 := a.rxFollow p b
    match (a1.pchan p b).attempt with
    | some t => if t.waiting then a1.rewindAttempt p b t.queue else a1
    | none => a1) s

end Sys2Proof.Machine
end

