-- ==== Sys2Proof/Machine/RouteOps.lean ====
section
/-! DEFINITION. A received frame from its receiver to its queue (R15 to R17, R189 to R191, R221 to R228, R243 to R245):
verification, event counters, what a verified frame changes in its endpoint entry, routing, relaying. -/
namespace Sys2Proof
open Machine

/-- A frame a bench member or the fabric hands over: routed as if received on its port (R245). -/
def BenchFrame.received (b : BenchFrame) (now : Nat) : RxFrame :=
  { medium := b.medium, port := b.port, band := b.band, record := b.record, body := b.body, due := now, end_ := now, relayed := true }

end Sys2Proof

namespace Sys2Proof.Machine
open Sys2Proof

/-! ## MAC fields of a frame (R168, R221) -/

/-- What routing needs of a frame, on either medium. -/
structure MacView where
  /-- 0 DATA, 3 MGMT. -/
  ft : Nat
  ackReq : Bool
  sec : Bool
  poll : Bool := false
  ackd : Option Nat := none
  hops : Nat
  seq : Nat
  dst : Nat
  src : Nat
  /-- The hop's transmitter: TXA, or the transmitter of R169. -/
  tx : Nat
  /-- Offset of the security header. -/
  secAt : Nat
  /-- The next target (R189, R243), and whether the repeat list gave it. -/
  next : Nat
  listed : Bool := false
  deriving DecidableEq, Repr

/-- Bit `i` of byte `k`. -/
def bitAt (b : List Byte) (k i : Nat) : Bool := (b.getD k 0).getLsbD i
/-- Little-endian 32-bit field at byte `k`. -/
def le32 (b : List Byte) (k : Nat) : Nat := natLE ((b.drop k).take 4)

def rfFtype (b : List Byte) : Nat := (b.getD 0 0).toNat % 8
def rfHops (b : List Byte) : Nat := (b.getD 1 0).toNat % 16
def rfSeq (b : List Byte) : Nat := (b.getD 2 0).toNat
def rfAseq (b : List Byte) : Nat := (b.getD 3 0).toNat
def rfDst (b : List Byte) : Nat := le32 b 4
def rfSrc (b : List Byte) : Nat := le32 b 8
def rfTxa (b : List Byte) : Nat := le32 b 12
def rfRxa (b : List Byte) : Nat := le32 b 16

/-- The frame type of a power-line frame, from its receive record (R165). -/
def RxFrame.ft (f : RxFrame) : Nat := (wordAt f.record 0).field 16 15

def RxFrame.mac (f : RxFrame) : MacView :=
  let b := f.body
  if f.medium = 0 then
    let i := psduRptIdx b
    let listed := decide (i + 1 < psduRptN b)
    { ft := f.ft, ackReq := psduAckReq f.ft b, sec := psduSec b, hops := psduHops b, seq := psduSeq b,
      dst := psduDst b, src := psduSrc b, tx := psduTransmitter b, secAt := macLen b,
      next := if listed then psduRpt b (i + 1) else psduDst b, listed := listed }
  else
    { ft := rfFtype b, ackReq := bitAt b 0 3, sec := bitAt b 0 4, poll := bitAt b 0 6,
      ackd := if bitAt b 0 7 then some (rfAseq b) else none, hops := rfHops b, seq := rfSeq b, dst := rfDst b,
      src := rfSrc b, tx := rfTxa b, secAt := 20, next := rfDst b }

/-- The index of a receiving port in MC_QMAP (R246). -/
def RxFrame.qmap (f : RxFrame) : Nat := if f.medium = 0 then f.port else 96 + f.port

/-- The hardware producer that writes a received frame (R285): PL_ or MC_ with the port. -/
def RxFrame.producer (f : RxFrame) : Producer := .hw (if f.medium = 0 then 4 else 6) f.port

/-- The requester of a frame's verification (R248). -/
def RxFrame.requester (f : RxFrame) : Requester := if f.medium = 0 then rqLine f.port else rqRf f.port

/-! ## Power-line acknowledgement and duplicates (R178, R191) -/

/-- The verdict on a frame the device owes an ACK for (R178): entered its queue, or found no room. -/
def State.ackVerdict (s : State) (f : RxFrame) (busy : Bool) : State :=
  if f.medium = 0 ∧ !f.relayed then
    let c := s.pchan f.port f.band
    match c.ack with
    | some a =>
      if a.at_ = f.end_ + 680000 then s.setPchan f.port f.band { c with ack := some { a with ready := true, busy := busy } } else s
    | none => s
  else s

/-- No ACK for the frame (R178). -/
def State.ackNone (s : State) (f : RxFrame) : State :=
  if f.medium = 0 ∧ !f.relayed then
    let c := s.pchan f.port f.band
    match c.ack with
    | some a => if a.at_ = f.end_ + 680000 then s.setPchan f.port f.band { c with ack := none } else s
    | none => s
  else s

/-- No ACK for a frame whose verification completes later than 500 µs after its end (R178). -/
def State.ackInTime (s : State) (f : RxFrame) : State := if f.end_ + 500000 < s.ns then s.ackNone f else s

/-- The pair (SRC, SEQ) is in the table and younger than DUPWIN (R191). -/
def State.isDup (s : State) (src seq : Nat) : Bool :=
  let w := s.getF F.PL_RPTCFG_DUPWIN
  w != 0 && s.plc.dups.any fun d => d.src == src && d.seq == seq && decide (s.ns < d.time + w * 10000000)

/-- A frame relayed or delivered is remembered; the oldest of 256 entries is replaced. -/
def State.noteDup (s : State) (f : RxFrame) : State :=
  let m := f.mac
  let l := s.plc.dups ++ [{ src := m.src, seq := m.seq, time := s.ns }]
  { s with plc := { s.plc with dups := l.drop (l.length - 256) } }

/-! ## Delivery (R16) -/

/-- The frame as one item of a host queue: its record and its bytes (R165, R215). -/
def RxFrame.item (f : RxFrame) : List Word := itemOf (f.record ++ wordsOfBytes f.body)

/-- The frame goes to a host queue, or is dropped where the queue lacks room. -/
def State.deliver (s : State) (f : RxFrame) (q : Nat) : State :=
  match s.qHwItem q f.producer f.item with
  | (s1, true) => (s1.noteDup f).ackVerdict f false
  | (s1, false) => s1.ackVerdict f true

def State.delivQ (s : State) (f : RxFrame) : Nat := s.getF (F.MC_QMAP_DELIVQ f.qmap)
def State.fallQ (s : State) (f : RxFrame) : Nat := s.getF (F.MC_QMAP_FALLQ f.qmap)

/-- A route miss (R16 rule 4, R243). -/
def State.routeMiss (s : State) (f : RxFrame) : State := (s.bump F.MC_ROUTESTAT_MISS).deliver f (s.fallQ f)

/-- The next hop is not ACTIVE or cannot be secured for (R245, R264). -/
def State.noNextHop (s : State) (f : RxFrame) : State := (s.bump F.MC_ROUTESTAT_NEXTHOP).deliver f (s.fallQ f)

/-! ## The lookup (R243) -/

inductive RouteTo where
  | bench (m : Nat)
  | peer (addr : Nat) (route : Nat)
  | out (medium port band nextHop : Nat) (txq : Option Nat) (route : Option Nat)
  | miss
  deriving DecidableEq, Repr

/-- The lowest-numbered TX link whose neighbour is an entry (R236). -/
def State.txLink (s : State) (e : Nat) : Option Nat :=
  (List.range 16384).find? fun i => s.flag (F.MC_LINK0_EN i) && s.flag (F.MC_LINK0_DIR i) && s.getF (F.MC_LINK1_NEIGH i) == e

/-- A route entry used: a miss where it is not VALID; the bench where its port belongs to another member. -/
def State.useRoute (s : State) (i : Nat) : RouteTo :=
  if !s.flag (F.RT0_VALID i) then .miss
  else
    let nh := s.getF (F.RT1_NEXT_HOP i)
    if s.getF (F.RT0_MEMBER i) ≠ s.memberNo then .bench (s.getF (F.RT0_MEMBER i))
    else match s.getF (F.RT0_MEDIUM i) with
      | 2 => .peer (nh % 65536) i
      | 1 => .out 0 (s.getF (F.RT0_PORT i)) (s.getF (F.RT0_BAND i)) nh none (some i)
      | 0 => .out 1 (s.getF (F.RT0_PORT i)) 0 nh (some (s.getF (F.RT0_TXQ i))) (some i)
      | _ => .miss

/-- The next target looked up (R243). -/
def State.lookup (s : State) (t : Nat) : RouteTo :=
  if adPrefix t = s.ownPrefix ∧ adMember t ≠ s.memberNo ∧ t ≠ bcast then .bench (adMember t)
  else if !adDevice t && adPrefix t == s.ownPrefix then
    let e := t % 2 ^ 17
    if s.epState e ≠ epACTIVE then .miss
    else if s.flag (F.EP2_RT_EN e) then s.useRoute (s.getF (F.EP2_ROUTE e))
    else if s.flag (F.EP0_MEDIUM e) then .out 0 (s.getF (F.EP0_PORT e)) (s.getF (F.EP0_BAND e)) t none none
    else .out 1 (s.getF (F.EP0_PORT e)) 0 t ((s.txLink e).map fun i => s.getF (F.MC_LINK2_QUEUE i)) none
  else match (List.range 64).find? fun i => s.flag (F.MC_PFX_EN i) && s.getF (F.MC_PFX_PREFIX i) == adPrefix t with
    | some i => s.useRoute (s.getF (F.MC_PFX_ROUTE i))
    | none => .miss

/-! ## Building the outbound frame (R190, R245) -/

/-- The payload behind the security header and before the MIC. -/
def RxFrame.payload (f : RxFrame) : List Byte :=
  let m := f.mac
  let l := micLen (secLevel f.body m.secAt)
  ((f.body.drop (m.secAt + 5)).take (f.body.length - (m.secAt + 5) - l))

/-- The power-line MAC header of a relayed frame (R190): SEC set, the repeat list, ACKREQ. -/
def plcMacHeader (hops : Nat) (rpt : List Nat) (idx : Nat) (ackReq : Bool) (seq dst src : Nat) : List Byte :=
  BitVec.ofNat 8 (hops + rpt.length * 16 + boolNat ackReq * 128) :: BitVec.ofNat 8 (idx + 8) :: BitVec.ofNat 8 seq :: 0 ::
    (bytesLE 4 dst ++ bytesLE 4 src ++ rpt.flatMap (bytesLE 4))

/-- The radio MAC header of a frame (R221). -/
def rfMacHeader (ftype : Nat) (ackReq sec more : Bool) (ackd : Option Nat) (hops seq dst src txa rxa : Nat) : List Byte :=
  BitVec.ofNat 8 (ftype + boolNat ackReq * 8 + boolNat sec * 16 + boolNat more * 32 + boolNat ackd.isSome * 128) ::
    BitVec.ofNat 8 hops :: BitVec.ofNat 8 seq :: BitVec.ofNat 8 (ackd.getD 0) ::
    (bytesLE 4 dst ++ bytesLE 4 src ++ bytesLE 4 txa ++ bytesLE 4 rxa)

/-- The header of a frame relayed onto power line with next hop `nh` (R190). -/
def State.relayHeader (s : State) (f : RxFrame) (port nh : Nat) : List Byte :=
  let m := f.mac
  let me := s.ownAddr
  if f.medium = 0 ∧ m.listed then
    plcMacHeader (m.hops - 1) ((List.range (psduRptN f.body)).map (psduRpt f.body)) (psduRptIdx f.body + 1) m.ackReq m.seq
      m.dst m.src
  else
    let ack := if f.medium = 0 then m.ackReq else s.accRetries port != 0
    plcMacHeader (m.hops - 1) (if nh = m.dst then [me] else [me, nh]) 1 ack m.seq m.dst m.src

/-- Words 1 to 3 of a chirp item the device builds for an entry, LEN to be added (R216): CR, SF, channel and offset of
the entry, payload CRC, eight preamble symbols. -/
def State.builtDesc (s : State) (e : Nat) : List Word :=
  [BitVec.ofNat 32 (s.getF (F.EP0_CR e) * 2 ^ 8 + 2 ^ 11 + s.getF (F.EP0_SF e) * 2 ^ 13 + s.getF (F.EP0_CHANNEL e) * 2 ^ 16),
   8, BitVec.ofNat 32 (s.getF (F.EP10_FOFS e) + 2 ^ 31)]

/-- The item of a chirp frame from its descriptor and its payload. -/
def chirpItem (desc : List Word) (payload : List Byte) : List Word :=
  itemOf ((wordAt desc 0 + BitVec.ofNat 32 payload.length) :: (desc.drop 1 ++ wordsOfBytes payload))

/-- The item of a relayed frame once it is secured. -/
def RelayOut.item (o : RelayOut) (defmode : Nat) (bytes : List Byte) : List Word :=
  if o.medium = 0 then plcItem bytes defmode 0 else chirpItem o.desc bytes

/-- The relayed frame is written (R190, R245): into its queue or mailbox, or dropped for want of room. -/
def State.relayWrite (s : State) (o : RelayOut) (bytes : List Byte) : State :=
  let item := o.item (s.getF (F.PL_BANDCFG_DEFMODE o.port (o.ep % 4))) bytes
  let done := fun (a : State) =>
    let a1 := (a.bump F.MC_RELAYSTAT_RELAYED).noteDup o.src
    let a2 := match o.route with
      | some i => a1.bump (F.RT2_USES i)
      | none => a1
    let a3 : State := { a2 with plc := { a2.plc with relayed := a2.plc.relayed ++ [(o.queue, s.qW o.queue)] } }
    (if o.medium = 0 then a3.bump F.PL_RPTSTAT0_RELAYED else a2).ackVerdict o.src false
  if o.mailbox then
    match s.mbxPut o.ep item with
    | (s1, .ok) => done s1
    | (s1, _) => s1.ackVerdict o.src true
  else match s.qHwItem o.queue (.hw (if o.medium = 0 then 4 else 6) o.port) item with
    | (s1, true) => done s1
    | (s1, false) => s1.ackVerdict o.src true

/-- Securing of a relayed frame starts (R17, R263): its counter is taken and a cipher request made. -/
def State.relaySecure (s : State) (o : RelayOut) (nh : Nat) : State :=
  if !s.domOn domCPH then s.noNextHop o.src
  else match s.hopKey nh with
    | .error _ => s.noNextHop o.src
    | .ok (h, slot) => match s.takeCounter h with
      | (s1, none) => s1.noNextHop o.src
      | (s1, some v) =>
        s1.cipherAsk (if o.medium = 0 then rqAccess o.port else rqSched) (.relay o) slot v

/-- The next hop of an outbound frame: the route's, or the next target itself where the repeat list gave it (R189). -/
def RxFrame.hop (f : RxFrame) (nh : Nat) : Nat := if f.medium = 0 ∧ f.mac.listed then f.mac.next else nh

/-- The frame goes out by power line (R189, R190): a miss into its own feeder group, and where class queue RPT_CLASS of the band
channel the route names is not enabled. For a power-line frame the band travels in `ep`. -/
def State.relayPlc (s : State) (f : RxFrame) (port band nh0 : Nat) (route : Option Nat) : State :=
  let nh := f.hop nh0
  if f.medium = 0 ∧ !f.relayed ∧ port / 3 = f.port / 3 then (s.bump F.PL_RPTSTAT1_SAMEGROUP).routeMiss f
  else if 96 ≤ port ∨ !s.domOn (domOfLine port) then s.routeMiss f
  else match s.classQueue port band (s.accRptClass port) with
    | none => s.routeMiss f
    | some q => match s.ownEp nh with
      | none => s.noNextHop f
      | some e =>
        if s.epState e ≠ epACTIVE then s.noNextHop f
        else s.relaySecure { src := f, medium := 0, port := port, queue := q, ep := band, desc := [],
                             header := s.relayHeader f port nh, payload := f.payload, route := route } nh

/-- The frame goes out by radio (R245): the mailbox of a sleepy next hop, the transmit queue of another. -/
def State.relayRf (s : State) (f : RxFrame) (pair nh0 : Nat) (txq route : Option Nat) : State :=
  let m := f.mac
  let nh := f.hop nh0
  if 32 ≤ pair ∨ !s.domOn (domOfRf pair) then s.routeMiss f
  else match s.ownEp nh with
    | none => s.noNextHop f
    | some e =>
      if s.epState e ≠ epACTIVE then s.noNextHop f
      else
        let hdr := rfMacHeader 0 m.ackReq true false none (m.hops - 1) m.seq m.dst m.src s.ownAddr nh
        let size := hdr.length + 5 + f.payload.length + micLen (s.getF F.CX_SECCFG_TXLVL)
        let o : RelayOut := {
          src := f, medium := 1, port := pair, queue := txq.getD 0, ep := e, mailbox := s.flag (F.EP0_SLEEPY e),
          desc := s.builtDesc e, header := hdr, payload := f.payload, route := route }
        if 255 < size then s.routeMiss f
        else if o.mailbox || txq.isSome then s.relaySecure o nh
        else s.routeMiss f

/-- The frame as it is carried to another member or to the fabric, unsecured at frame level (R245). -/
def RxFrame.carried (f : RxFrame) : BenchFrame :=
  { medium := f.medium, port := f.port, band := f.band, record := f.record, body := f.body }

/-- A lookup's result where the domain it needs is not ON: a route miss (R77). -/
def State.routable (s : State) (r : RouteTo) : RouteTo :=
  match r with
  | .bench _ => if s.domOn domBPL then r else .miss
  | .peer _ _ => if s.domOn domBPL then r else .miss
  | _ => r

/-- The route of a relayed frame applied (R16 rules 3 and 4, R77, R243, R245). -/
def State.relay (s : State) (f : RxFrame) : State :=
  match s.routable (s.lookup f.mac.next) with
  | .miss => s.routeMiss f
  | .bench m => (((s.benchPost m (.frame f.carried)).bump F.MC_RELAYSTAT_BENCH).noteDup f).ackVerdict f false
  | .peer a i =>
    match s.peerPost a 16 0 (.peerFrame a (s.getF F.PF_CFG_ADDR) f.carried) with
    | (s1, st) =>
      let s2 := if st = stOK then ((s1.bump (F.RT2_USES i)).bump F.MC_RELAYSTAT_RELAYED).noteDup f else s1
      s2.ackVerdict f false
  | .out 0 port band nh _ route => s.relayPlc f port band nh route
  | .out _ pair _ nh txq route => s.relayRf f pair nh txq route

/-- A verified frame is routed by the first rule of R16 that applies. -/
def State.routeFrame (s : State) (f : RxFrame) : State :=
  let m := f.mac
  if s.toMe m.dst ∨ m.dst = bcast ∨ !m.sec then s.deliver f (s.delivQ f)
  else if m.hops = 0 then (s.bump F.MC_HOPDROP_COUNT).ackVerdict f false
  else if m.ft ≠ 0 then s.deliver f (s.fallQ f)
  else s.relay f

/-! ## What a verified frame changes in its entry (R212, R213, R228, R233) -/

def clampInt (lo hi x : Int) : Int := max lo (min hi x)

/-- Class S gain (R212): the held step moves where the wanted one differs by more than HYS. -/
def State.classSGain (s : State) (f : RxFrame) (e : Nat) : State :=
  if s.getF (F.CH_PORTCFG_GCLASS f.port) = 1 ∧ !s.isSensor e then
    let want : Int := -2 * s.getF (F.CH_SCFG_TARGET f.port)
    let t := clampInt 0 63 (f.step + roundDiv (want - f.power) 4)
    let held : Int := s.getF (F.EP10_GSTEP e)
    if s.getF (F.CH_SCFG_HYS f.port) < (t - held).natAbs then s.setF (F.EP10_GSTEP e) t.toNat else s
  else s

/-- Symbols of the preamble a scheduled frame is expected with. -/
abbrev nominalPre : Nat := 8

/-- Timing of a scheduled frame (R233). -/
def State.schedTiming (s : State) (f : RxFrame) (e : Nat) (v : SlotServe) : State :=
  let exp : Int := v.start + s.getF F.MC_TIMING_TXOFS * 10000 +
    nominalPre * tSym f.sf (s.getF (F.SC_RFCFG_CHMODE f.port))
  let err : Int := f.sync - exp
  let last := s.lastSync e
  let dt := f.sync - last
  let tofs := signed 16 (s.getF (F.EP11_TOFS e))
  let drift := signed 16 (s.getF (F.EP11_DRIFT e))
  let learned := s.flag (F.EP0_DLEARNED e)
  let new : Option Int :=
    if learned ∧ 1000000000 ≤ dt then some (drift + roundDiv ((err - v.delta) * 5000000) dt)
    else if !learned ∧ last ≠ 0 ∧ 10000000000 ≤ dt then some (roundDiv ((err - 16000 * tofs) * 20000000) dt)
    else none
  let s1 := match new with
    | some d => (s.setF (F.EP11_DRIFT e) (unsignedOf 16 (clampInt (-32768) 32767 d))).setF (F.EP0_DLEARNED e) 1
    | none => s
  let t := roundDiv err 16000
  let sat := clampInt (-32768) 32767 t
  let s2 := (s1.setF (F.EP11_TOFS e) (unsignedOf 16 sat)).setLastSync e f.sync
  if sat = t then s2 else s2.setF (F.EP0_DLEARNED e) 0

/-- What every verified radio frame leaves in its entry (R212, R213, R233). -/
def State.radioLearn (s : State) (f : RxFrame) (e : Nat) : State :=
  if f.medium = 0 then s
  else
    let s1 := (s.setF (F.EP10_FOFS e) ((wordAt f.record 4).field 23 0)).classSGain f e
    match f.link, afind s.radio.serve f.port with
    | some _, some v => s1.schedTiming f e v
    | _, _ =>
      if s1.isSensor e then
        (((s1.setF (F.EP0_CHANNEL e) f.chan).setF (F.EP0_SF e) f.sf).setF (F.EP0_CR e) f.cr).setF (F.EP0_PORT e) f.port
      else s1

/-- A mailbox frame acknowledged by ACKD and ASEQ is freed (R238). -/
def State.mbxAcked (s : State) (e : Nat) (ackd : Option Nat) : State :=
  match ackd with
  | none => s
  | some q => match (s.mbxOf e).find? fun x => x.sends != 0 && rfSeq (bytesOfWords ((s.mbxItem x).drop 4)) == q with
    | some x => s.mbxFree x
    | none => s

/-- The answers a verified radio frame asks for: the scheduled receiver's ACK (R234), or the poll response window of a
SENSOR entry (R238). -/
def State.radioAnswer (s : State) (f : RxFrame) (e : Nat) : State :=
  let m := f.mac
  if f.medium = 0 then s
  else if f.link.isSome then
    if m.ackReq then
      { s with radio := { s.radio with acks := aset s.radio.acks f.port {
          at_ := f.end_ + s.getF F.MC_TIMING_ACKGAP * 1000000, chan := f.chan, sf := f.sf, cr := f.cr, dst := m.tx,
          seq := m.seq } } }
    else s
  else if s.isSensor e && (m.poll || m.ackReq) then
    let o := f.end_ + s.getF F.MC_RESPCFG_RESPDLY * 1000000
    { s with radio := { s.radio with polls := s.radio.polls ++ [{
        ep := e, pair := f.port, chan := f.chan, sf := f.sf, cr := f.cr, opens := o,
        closes := o + s.getF F.MC_SCHEDCFG_SLOT_LEN * 1000000, ackSeq := if m.ackReq then some m.seq else none }] } }
  else s

/-- A power-line DATA frame whose pair is in the duplicate table (R191): dropped and counted. -/
def State.plcDup (s : State) (f : RxFrame) : Bool := f.medium == 0 && f.mac.ft == 0 && s.isDup f.mac.src f.mac.seq

/-- A frame accepted by the event counter, or without one, goes on: the duplicate filter of R191, then routing. -/
def State.accepted (s : State) (f : RxFrame) (e : Nat) : State :=
  let m := f.mac
  let s1 := (s.radioAnswer f e).mbxAcked e m.ackd
  if s1.plcDup f then (s1.bump F.PL_RPTSTAT0_DUP).ackVerdict f false
  else s1.routeFrame f

/-- A frame has verified, or needed none: LASTRX, what it teaches, the counter rule of R228; a repeat of the counter that came on
another phase of the group is a duplicate of R191. -/
def State.frameVerified (s : State) (f : RxFrame) (e : Nat) : State :=
  let m := f.mac
  let s1 := ((s.ackInTime f).renewEp e f.due).radioLearn f e
  if !m.sec then s1.accepted f e
  else
    let v := secCounter f.body m.secAt
    let cur := s1.getF (F.EP4_EVT_RX e)
    if cur < v then
      let s2 := s1.setF (F.EP4_EVT_RX e) v
      (s2.mirror (.eventCounter (Fin.ofNat 131072 e) (s2.word (F.EP3 e)) (s2.word (F.EP4 e)))).accepted f e
    else if v = cur then
      if s1.plcDup f then (s1.bump F.PL_RPTSTAT0_DUP).ackVerdict f false
      else ((s1.bump F.MC_RXSTAT2_DUP).radioAnswer f e).ackVerdict f false
    else (s1.bump F.MC_RXSTAT2_REPLAY).ackNone f

/-- A frame fails verification (R262): counted against the slot and reported; a waiting expiry takes effect (R229). -/
def State.verifyFailed (s : State) (f : RxFrame) (e slot : Nat) : State :=
  ((((s.bump (slAUTHFAIL slot)).bump F.CX_AUTHFAIL_FRAME).notice ncAUTH_FAIL f.port [(32, e), (32, slot)]).ackNone f).supervise e

/-- A verification's result (R262): both generations tried in one pass. DESIGN CHOICE (entry 142): a frame whose verification ends in
CIPHER_FAULT is dropped without an AUTHFAIL count or an AUTH_FAIL notice. -/
def State.verifyEnd (s : State) (r : CipherReq) (f : RxFrame) (e slot : Nat) (good : Bool) : State :=
  if !good then (s.ackNone f).supervise e
  else
    let m := f.mac
    let ok := levelOk (secLevel f.body m.secAt) (s.getF F.CX_SECCFG_MINLVL)
    let try_ := fun k => if ok then verifyBytes k m.tx m.secAt f.body else none
    match r.cur.bind try_, r.prev.bind try_ with
    | some b, some _ => (s.bump F.CX_DUALKEY_COUNT).frameVerified { f with body := b } e
    | some b, none => s.frameVerified { f with body := b } e
    | none, some b => s.frameVerified { f with body := b } e
    | none, none => s.verifyFailed f e slot

/-- A DATA or MGMT frame that is not overheard comes in (R15, R223): dropped where its transmitter is no ACTIVE entry of
the device, verified where it is secured. DESIGN CHOICE (entry 155): where the key's partition lacks the use FRAME (R253) it is dropped
as while CPH is not ON (R249). -/
def State.frameIn (s : State) (f : RxFrame) : State :=
  let m := f.mac
  match s.ownEp m.tx with
  | none => (s.bump F.MC_RXSTAT_UNKNOWN).ackNone f
  | some e =>
    if s.epState e ≠ epACTIVE then (s.bump F.MC_RXSTAT_UNKNOWN).ackNone f
    else if !m.sec then s.frameVerified f e
    else if !s.domOn domCPH || !s.frameUse (s.epSlot e) then (s.bump F.CX_AUTHFAIL_FRAME).ackNone f
    else s.cipherAsk f.requester (.verify f e (s.epSlot e)) (s.epSlot e) 0

/-- The end of a relayed frame's securing (R245): written, or to the fall-back queue after a fault. -/
def State.relayEnd (s : State) (r : CipherReq) (o : RelayOut) (good : Bool) : State :=
  match r.cur with
  | none => s.noNextHop o.src
  | some k =>
    if !good then s.noNextHop o.src
    else
      let lvl := s.getF F.CX_SECCFG_TXLVL
      let head := o.header ++ BitVec.ofNat 8 lvl :: bytesLE 4 r.counter
      s.relayWrite o (secureBytes k s.ownAddr r.counter lvl head o.payload)

end Sys2Proof.Machine
end

