-- ==== Sys2Proof/Machine/ChirpOps.lean ====
section
/-! DEFINITION. Chirp radio as shared operations (chapters 08 and 09): channel plans, duty-cycle accounting, the demodulator
pool, held frames and their end, the receive link's control writes, radio frames as they come in. -/
namespace Sys2Proof.Machine
open Sys2Proof

/-! ## Statuses of group 0x02 (R218) -/
abbrev rtOK : Nat := 0x200
abbrev rtMISSED_LAUNCH : Nat := 0x201
abbrev rtRF_BUSY : Nat := 0x202
abbrev rtCHANNEL_OFF : Nat := 0x203
abbrev rtINVALID_ITEM : Nat := 0x204
abbrev rtDUTY_REFUSED : Nat := 0x205
abbrev rtRFC_FAULT : Nat := 0x206

/-! ## Channel plans (R194) -/

def State.chmode (s : State) (n : Nat) : Nat := s.getF (F.SC_RFCFG_CHMODE n)

/-- Channels of a port. -/
def State.nChan (s : State) (n : Nat) : Nat := 32 / 2 ^ s.chmode n

/-- Channel `c` of port `n` is enabled. -/
def State.chanOn (s : State) (n c : Nat) : Bool := decide (c < s.nChan n) && (s.word (F.CH_CHEN n)).bit c

/-- Spreading factor `sf` + 5 is searched on channel `c` (R194): byte c of the CH_SFMASK words. -/
def State.sfSearched (s : State) (n c sf : Nat) : Bool := (s.word (F.CH_SFMASK n (c / 4))).bit (8 * (c % 4) + sf)

/-- Twice the centre of channel `c` in Hz with FREQOFS zero (R194). -/
def State.centre2 (s : State) (n c : Nat) : Int :=
  2 * s.getF (F.CH_TUNED_FREQ n) + (2 * c - (s.nChan n - 1 : Int)) * (200000 * 2 ^ s.chmode n)

/-- Twice the centre of channel `c` in Hz with the FREQOFS in force (R194). -/
def State.centreNow2 (s : State) (n c : Nat) : Int := s.centre2 n c + 2 * signed 24 (s.getF (F.CH_OFSNOW_OFS n))

/-! ## Sub-bands and buckets (R239 to R242) -/

/-- A sub-band: lower and upper edge in kHz, limit in 0.01 %. -/
structure SubBand where
  lo : Nat
  hi : Nat
  limit : Nat
  deriving DecidableEq, Repr

/-- The sub-bands of the EU868 profile (R239): M, L, G1 to G4. -/
def euBands : List SubBand :=
  [⟨863000, 865000, 10⟩, ⟨865000, 868000, 100⟩, ⟨868000, 868600, 100⟩, ⟨868700, 869200, 10⟩, ⟨869400, 869650, 1000⟩,
   ⟨869700, 870000, 100⟩]

/-- The sub-bands in force (R239); a CUSTOM one with HI at or below LO is disabled. -/
def State.subBands (s : State) : List SubBand :=
  match s.getF F.MC_DCCFG_PROFILE with
  | 0 => euBands
  | 2 => (List.range 8).map fun k =>
    ⟨s.getF (F.MC_SUBBAND_LO_LO k), s.getF (F.MC_SUBBAND_HI_HI k), s.getF (F.MC_SUBBAND_HI_LIMIT k)⟩
  | _ => []

/-- A sub-band wholly contains a channel of centre `c2`/2 Hz and width `bw` Hz. -/
def SubBand.holds (b : SubBand) (c2 : Int) (bw : Nat) : Bool :=
  decide (b.lo < b.hi) && decide ((2000 * b.lo : Int) ≤ c2 - bw) && decide (c2 + bw ≤ (2000 * b.hi : Int))

/-- The sub-band of a transmission on a channel, with its number (R240). -/
def State.subBandOf (s : State) (n c : Nat) : Option (Nat × SubBand) :=
  (s.subBands.zipIdx.find? fun x => x.1.holds (s.centre2 n c) (125000 * 2 ^ s.chmode n)).map fun x => (x.2, x.1)

/-- The hourly allowance in ns. -/
def SubBand.allowance (b : SubBand) : Nat := b.limit * 360000000

/-- The sum of the buckets of the last `n` seconds up to second `t`. -/
def bucketSum (n t : Nat) (l : List (Nat × Nat)) : Nat := ((l.filter fun x => decide (t < x.1 + n)).map (·.2)).sum

/-- A charge added to the bucket of second `t`; buckets that have left the sum are dropped. -/
def bucketAdd (n t v : Nat) (l : List (Nat × Nat)) : List (Nat × Nat) :=
  let k := l.filter fun x => decide (t < x.1 + n)
  aset k t (aget 0 k t + v)

/-- MC_DCUSED shows the used time of a pair in a sub-band, in µs. -/
def State.showUsed (s : State) (n k : Nat) : State :=
  s.setF (F.MC_DCUSED_USED n k) (min 0xFFFFFFFF (bucketSum 3600 (s.ns / 1000000000) (aget [] s.radio.duty (8 * n + k)) / 1000))

/-- The check at the refusal point, in second `t` (R241, R242): the charge made, or false with the refusal counted. -/
def State.dutyCharge (s : State) (n c dur t : Nat) : State × Bool :=
  if s.getF F.MC_DCCFG_PROFILE = 1 then
    let l := aget [] s.radio.dwell (32 * n + c)
    if 400000000 < dur ∨ 400000000 < bucketSum 20 t l + dur then (s.bump (F.MC_DCREF_REFUSED n), false)
    else ({ s with radio := { s.radio with dwell := aset s.radio.dwell (32 * n + c) (bucketAdd 20 t dur l) } }, true)
  else match s.subBandOf n c with
    | none => (s.bump (F.MC_DCREF_NOBAND n), false)
    | some (k, b) =>
      let l := aget [] s.radio.duty (8 * n + k)
      if b.allowance < bucketSum 3600 t l + dur then (s.bump (F.MC_DCREF_REFUSED n), false)
      else
        let s1 := { s with radio := { s.radio with duty := aset s.radio.duty (8 * n + k) (bucketAdd 3600 t dur l) } }
        (s1.showUsed n k, true)

/-! ## The demodulator pool (R205, R362 to R365) -/

/-- The device's own demodulators held. -/
def State.held (s : State) : Nat := (s.chirp.demods.filter (·.lender.isNone)).length

/-- The list of held frames written; CH_POOLSTAT shows it. -/
def State.setDemods (s : State) (l : List Demod) : State :=
  let s1 := { s with chirp := { s.chirp with demods := l } }
  let n := s1.held
  (s1.setF F.CH_POOLSTAT_BUSY n).setF F.CH_POOLSTAT_HIGH_WATER (max n (s.getF F.CH_POOLSTAT_HIGH_WATER))

/-- Demodulators set aside for borrowers (R362). -/
def State.lentOut (s : State) : Nat := ((List.range 8).map fun k => s.getF (F.BN_LEASE_COUNT k)).sum

/-- Physical demodulators that are LIVE, work, and serve no frame. -/
def State.freeUnits (s : State) : List Nat :=
  (List.range 2176).filter fun u =>
    s.role kDEMOD u == roleLIVE && !s.isWedged kDEMOD u && !s.chirp.demods.any fun d => d.slot == u && d.lender.isNone

/-- Lent demodulators in use. -/
def State.lentBusy (s : State) : Nat := (s.chirp.demods.filter (·.lent.isSome)).length

/-- Demodulators free for local detections: the free ones less those set aside and not in use by a borrower. -/
def State.poolFree (s : State) : Nat := s.freeUnits.length - (s.lentOut - s.lentBusy)

/-- The lender with the most credits, the lowest-numbered on a tie (R363). -/
def State.bestLender (s : State) : Option Nat :=
  (List.range 32).foldl (fun b m =>
    let n := s.getF (F.BN_CREDIT_CREDITS m)
    match b with
    | some x => if s.getF (F.BN_CREDIT_CREDITS x) < n then some m else some x
    | none => if n = 0 then none else some m) none

/-- The channel mode a held frame is demodulated with: its port's, or that of its stream (R364). -/
def State.demodBw (s : State) (d : Demod) : Nat := if d.lent.isSome then d.bw else s.chmode d.det.port

/-- Held frames of a channel and spreading factor. -/
def State.heldOn (s : State) (n c sf : Nat) : List Demod :=
  s.chirp.demods.filter fun d => d.lent.isNone && d.det.port == n && d.det.chan == c && d.det.sf == sf

/-- How a held frame ends before its frame is due (R206), by a wedge of its demodulator (R379) or at the drain limit (R78). -/
inductive HeldEnd where
  | syncMiss | lost | hdrFail | crcFail | gap | invalid | preempt | domainDown | benchLost | unitFault | aborted
  deriving DecidableEq, Repr

/-- The end a number of `HeldEnd.num` stands for. -/
def HeldEnd.ofNum : Nat → HeldEnd
  | 1 => .syncMiss | 2 => .lost | 3 => .hdrFail | 4 => .crcFail | 5 => .gap | 6 => .invalid | 7 => .preempt
  | 8 => .domainDown | 9 => .benchLost | 10 => .unitFault | _ => .aborted

/-- The number a LEASE end message carries for a status of R206: the model's own, the spec numbers none. -/
def HeldEnd.num : HeldEnd → Nat
  | .syncMiss => 1 | .lost => 2 | .hdrFail => 3 | .crcFail => 4 | .gap => 5 | .invalid => 6 | .preempt => 7
  | .domainDown => 8 | .benchLost => 9 | .unitFault => 10 | .aborted => 11

/-- The count of an end on port `n` (R206). -/
def State.countEnd (s : State) (n : Nat) (w : HeldEnd) : State :=
  match w with
  | .syncMiss => s.bump (F.CH_RXERR_SYNCMISS n)
  | .lost => s.bump (F.CH_DETCNT_FALSEDET n)
  | .hdrFail => s.bump (F.CH_RXERR_HDRFAIL n)
  | .crcFail => s.bump (F.CH_RXCNT_CRCFAIL n)
  | .gap => s.bump (F.CH_RXLOSS_INPUT n)
  | .invalid => s.bump (F.CH_RXLOSS_INPUT n)
  | .preempt => s.bump (F.CH_RXLOSS_PREEMPT n)
  | .domainDown => s
  | .unitFault => s
  | .aborted => s
  | .benchLost => s.bump F.BN_LEASESTAT_LOST

/-- A held frame leaves: its demodulator is free. -/
def State.freeDemod (s : State) (d : Demod) : State := s.setDemods (s.chirp.demods.filter (· != d))

/-- A held frame ends without a record (R206). For a frame on a credit the owner ends the stream (R364). A lent
demodulator counts nothing: its ports are the borrower's. -/
def State.endHeld (s : State) (d : Demod) (w : HeldEnd) : State :=
  let s1 := s.freeDemod d
  if d.lent.isSome then s1
  else
    let s2 := s1.countEnd d.det.port w
    match d.lender with
    | some m => s2.benchPost m (.lease (.end_ d.slot w.num))
    | none => s2

/-- A lent demodulator's frame ends without a record: its owner is told. -/
def State.endLent (s : State) (d : Demod) (w : HeldEnd) : State :=
  match d.lent with
  | some (b, k, _) => (s.freeDemod d).benchPost b (.lease (.failed k w.num))
  | none => s.endHeld d w

/-- Every held frame of a port ends in one way. -/
def State.endPort (s : State) (n : Nat) (w : HeldEnd) : State :=
  (s.chirp.demods.filter fun d => d.lent.isNone && d.det.port == n).foldl (fun a d => a.endHeld d w) s

/-- A GAP sample on a port ends its frames (R132, R206). -/
def State.gapDemods (s : State) (n : Nat) : State := s.endPort n .gap

/-! ## Streams to a lender (R364) -/

/-- A sample of a stream (R364): I, Q, and the tags INV, GAP, OVL and MRK, in the order of a lane word. -/
def streamWord (i q : Word) : BitVec 56 :=
  BitVec.ofNat 56 (i.field 19 0 + q.field 19 0 * 2 ^ 20 + i.field 23 20 * 2 ^ 40)

/-- The payload of the SAMPLE cell with the 8 samples from input pair `k` on: stream number, index of the first, the samples. -/
def State.streamCell (s : State) (d : Demod) (k : Nat) : List Nat :=
  let n := d.det.port
  let per := s.chanPairs n
  [d.slot, (k - d.first) / per] ++ (List.range 8).map fun i =>
    let p := k + i * per
    let w := fun iq => (s.rfLink n).chanWord (s.rfStamp n p) p d.det.chan iq false false
    (streamWord (w false) (w true)).toNat

/-- The cells of a frame held on a credit whose samples are all channelised leave for the lender. -/
def State.streamFrame (s : State) (d : Demod) (m : Nat) : State :=
  let per := s.chanPairs d.det.port
  let k := ((s.rfLink d.det.port).next - d.next) / (8 * per)
  let g := s.pathTo m
  let s1 := if g = 2 then s else
    (List.range k).foldl (fun a i => a.emitOut (.cell g 4 (a.streamCell d (d.next + i * (8 * per))))) s
  { s1 with chirp := { s1.chirp with
      demods := s1.chirp.demods.map fun y => if y = d then { y with next := d.next + k * (8 * per) } else y } }

/-- The streams of port `n` follow its channelised samples. -/
def State.streamCells (s : State) (n : Nat) : State :=
  s.chirp.demods.foldl (fun a d => match d.lender with
    | some m => if d.det.port = n then a.streamFrame d m else a
    | none => a) s

/-- Sample 0 of a stream is the first sample of the first detection window, its stamp `t` in ns (R364): its first input pair. -/
def State.streamFirst (s : State) (n t : Nat) : Nat :=
  let per := s.chanPairs n
  let next := (s.rfLink n).next
  next - ((next : Int) - (s.rfPairAt n (t * 65536))).toNat / per * per

/-! ## The receive link's state and its control writes (R131, R194) -/

/-- A control-link write without a launch-queue entry of its own waits for its link. -/
def State.rfcAsk (s : State) (w : RfcWrite) : State :=
  { s with sample := { s.sample with rfc := s.sample.rfc ++ [w] } }

/-- The transactions at ALIGNING: the read of ID, and the writes, each with IMM set (R137, R194). DESIGN CHOICE (entry 148): the read
comes first. -/
def State.linkWrites (s : State) (n : Nat) : List RfcWrite :=
  let w := fun reg data => ({ pair := n, reg := reg, data := data, at_ := 0, imm := true } : RfcWrite)
  [{ w 0 0 with rd := true }, w 1 (s.getF (F.CH_FREQ_FREQ n)), w 5 0, w 2 (s.getF (F.CH_PORTCFG_RXGAIN_U n)),
   w 3 (s.getF (F.CH_PORTCFG_TXGAIN_DEF n)), w 4 (s.getF (F.CH_PORTCFG_PROFILE_DEF n))] ++
  (List.range 64).map fun i => w (0x40 + i) (s.word (F.CH_RAMP (i / 4) (i % 4))).toNat

/-- The receive links and the detectors follow the structure and the domains (R131, R206, R217): frames held on a link
that goes DOWN end; a link that starts ALIGNING has its front-end written, and the pair's current profile is PROFILE_DEF. -/
def State.rfSync (s : State) (n : Nat) : State :=
  let was := s.getF (F.SC_RFSTAT_STATE n)
  let s1 := if !s.rfActive n && was != 0 then
      ({ s with chirp := { s.chirp with waiting := s.chirp.waiting.filter (·.port != n) } } : State).endPort n .domainDown
    else s
  let s2 := s1.rfFollow n
  if was = 0 ∧ s2.getF (F.SC_RFSTAT_STATE n) = 1 then
    ({ s2 with sample := { s2.sample with rfc := s2.sample.rfc ++ s2.linkWrites n } } : State).setF (F.CH_PAIRSTAT_PROFILE n)
      (s2.getF (F.CH_PORTCFG_PROFILE_DEF n))
  else s2

/-! ## Links and attempts (R231 to R234) -/

/-- Word `i` of a link as it works in the slot in progress (R235). -/
def State.linkWord (s : State) (l i : Nat) : Word :=
  match afind s.radio.oldLinks l with
  | some ws => wordAt ws i
  | none => s.word (F.MC_LINK0 l + 4 * i)

def State.linkEn (s : State) (l : Nat) : Bool := (s.linkWord l 0).bit 19
def State.linkTx (s : State) (l : Nat) : Bool := (s.linkWord l 0).bit 20
def State.linkPair (s : State) (l : Nat) : Nat := (s.linkWord l 0).field 25 21
def State.linkNeigh (s : State) (l : Nat) : Nat := (s.linkWord l 1).field 16 0
def State.linkAny (s : State) (l : Nat) : Bool := (s.linkWord l 1).bit 17
def State.linkQueue (s : State) (l : Nat) : Nat := (s.linkWord l 2).field 13 0
def State.linkSf (s : State) (l : Nat) : Nat := (s.linkWord l 2).field 16 14
def State.linkCr (s : State) (l : Nat) : Nat := (s.linkWord l 2).field 19 17

/-- The address of an endpoint entry of the device (R220). -/
def State.epAddr (s : State) (e : Nat) : Nat := s.ownPrefix * 2 ^ 22 + s.memberNo * 2 ^ 17 + e

/-- The link a frame is scheduled on (R232): right sender, channel, spreading factor and time. -/
def State.scheduledOn (s : State) (n chan sf sync src : Nat) : Option Nat :=
  match afind s.radio.serve n with
  | none => none
  | some v =>
    let exp : Int := v.expect + nominalPre * tSym sf (s.chmode n)
    if !s.linkTx v.link && (s.linkAny v.link || src == s.epAddr (s.linkNeigh v.link)) && v.chan == chan &&
       s.linkSf v.link == sf && decide ((sync : Int) - exp ≤ v.guard) && decide (exp - sync ≤ v.guard)
    then some v.link else none

def State.dropAttempt (s : State) (l : Nat) : State :=
  { s with radio := { s.radio with attempts := s.radio.attempts.filter (·.link != l) } }

/-- A link attempt's item is released (R174, R234). -/
def State.rfRelease (s : State) (a : RfAttempt) : State :=
  let s1 := (s.qRelease a.queue).dropAttempt a.link
  { s1 with radio := { s1.radio with used := adel s1.radio.used a.queue } }

def State.rfRewind (s : State) (a : RfAttempt) : State := (s.qRewind a.queue).dropAttempt a.link

/-- A missing radio ACK (R234): rewound while retries are left, else released with RF_NOACK. -/
def State.rfAckMissed (s : State) (a : RfAttempt) : State :=
  let used := aget 0 s.radio.used a.queue + 1
  if used ≤ s.getF F.MC_SCHEDCFG_RETRIES then
    let s1 := s.rfRewind a
    { s1 with radio := { s1.radio with used := aset s1.radio.used a.queue used } }
  else (s.rfRelease a).notice ncRF_NOACK a.pair []

/-- An ACK frame resolves the attempt it answers; one that answers none is ignored (R222, R234). -/
def State.rfAckIn (s : State) (f : RxFrame) : State :=
  match s.radio.attempts.find? fun a =>
      a.waiting && a.pair == f.port && a.dst == rfTxa f.body && a.seq == rfAseq f.body && decide (f.due ≤ a.deadline) with
  | some a => s.rfRelease a
  | none => s

/-! ## Radio frames as they come in (R222, R226) -/

/-- The lowest free entry of the lowest-numbered partition that joins (R226): partition and entry. -/
def State.joinEntry (s : State) : Option (Nat × Nat) :=
  (List.range 8).findSome? fun k =>
    if s.flag (F.MC_PART0_JOIN k) && decide (s.getF (F.MC_PART0_KIND k) < 2) then
      ((List.range (s.getF (F.MC_PART1_SIZE k))).map (s.getF (F.MC_PART0_BASE k) + ·)).find? (fun e => s.epState e == epFREE)
        |>.map fun e => (k, e)
    else none

/-- A JOIN frame (R224, R226): a provisional entry with the defaults of its partition's KIND, or FULL; EP_PROVISIONAL and delivery to the host either way. -/
def State.joinIn (s : State) (f : RxFrame) : State :=
  let id := natLE ((f.body.drop 20).take 8)
  let s1 := match s.joinEntry with
    | none => (s.bump F.MC_EPSTAT_FULL).notice ncEP_PROVISIONAL f.port [(32, 0x1FFFF), (64, id), (8, 0), (8, 1)]
    | some (k, e) =>
      let a := (List.range 16).foldl (fun (x : State) i => x.setWord (F.EP0 e + 4 * i) 0) s
      let b := ((((((a.setF (F.EP0_MEDIUM e) 0).setF (F.EP0_SLEEPY e) (boolNat (s.getF (F.MC_PART0_KIND k) == 0))).setF (F.EP0_PORT e) f.port).setF (F.EP0_CHANNEL e) f.chan).setF (F.EP0_SF e)
        f.sf).setF (F.EP0_CR e) f.cr).setF (F.EP10_FOFS e) ((wordAt f.record 4).field 23 0)
      (b.setEp e epPROV).notice ncEP_PROVISIONAL f.port [(32, e), (64, id), (8, k), (8, 0)]
  s1.deliver f (s1.delivQ f)

/-- A received payload is refused as a header fault (R222). -/
def State.rfHeaderFault (s : State) (b : List Byte) : Bool :=
  let t := rfFtype b
  let known := match s.ownEp (rfTxa b) with
    | some e => s.epState e == epACTIVE && s.flag (F.EP1_KEYSEL e)
    | none => false
  decide (b.length < 20) || (t == 2 && decide (b.length < 28)) || decide (4 ≤ t) || (b.getD 1 0).toNat / 16 != 0 ||
    ((t == 0 || t == 3) && !bitAt b 0 4 && known)

/-- A due chirp frame with its payload (R222, R226): dropped, consumed, joined, or on its way to verification (R15). -/
def State.radioIn (s : State) (f : RxFrame) : State :=
  let b := f.body
  if s.rfHeaderFault b then s.bump F.MC_RXSTAT_OVERHEARD
  else if !(s.toMe (rfRxa b) || rfRxa b == bcast) then s.bump F.MC_RXSTAT_OVERHEARD
  else if rfFtype b = 2 then s.joinIn f
  else if rfFtype b = 1 then s.rfAckIn f
  else s.frameIn f

end Sys2Proof.Machine
end

