-- ==== Sys2Proof/Machine/TxnOps.lean ====
section
/-! DEFINITION. Transactions as shared operations (R322 to R332, R336): slots, locks, conflicts by age, wounds, aborts. -/
namespace Sys2Proof.Machine
open Sys2Proof

def Txn.handle (t : Txn) : Nat := t.slot + t.gen * 512

/-- STATE of TN_SLOT (R324). -/
def TxnPhase.num : TxnPhase → Nat
  | .opened => 1 | .waiting => 2 | .reclaim => 3 | .scheduled => 4 | .sealed => 5

/-- The transaction of a slot, and the one a handle names (R322). -/
def State.txnAt (s : State) (i : Nat) : Option Txn := s.txn.slots.find? (·.slot == i)
def State.txnOf (s : State) (h : Nat) : Option Txn := s.txn.slots.find? (·.handle == h % 65536)

def State.setTxn (s : State) (t : Txn) : State :=
  { s with txn := { s.txn with slots := s.txn.slots.map fun x => if x.slot = t.slot then t else x } }

/-! ## Actions (R325, R326) -/

def acType (r : List Word) : Nat := (wordAt r 0).field 3 0
def acMember (r : List Word) : Nat := (wordAt r 0).field 8 4
def acAddr (r : List Word) : Nat := (wordAt r 1).toNat
def acQueue (r : List Word) : Nat := (wordAt r 1).field 13 0
def acCount (r : List Word) : Nat := (wordAt r 2).field 10 0

abbrev acFIELD_WRITE : Nat := 1
abbrev acBLOCK_WRITE : Nat := 2
abbrev acENQUEUE : Nat := 3
abbrev acQUEUE_CONTROL : Nat := 4
abbrev acKEY_LOAD : Nat := 5
abbrev acSCHED_INSERT : Nat := 6
abbrev acSCHED_REMOVE : Nat := 7
abbrev acAMEND : Nat := 8

/-- The item words of an action's staged item after its header. -/
def TxnAction.content (a : TxnAction) : List Word := a.item.drop 1

/-! ## Locks (R326, R329) -/

/-- A lock: what is named (0 structure blocks of 32 bytes, 1 queue, 2 key slot, 3 link), first number and how many. -/
structure Lock where
  kind : Nat
  first : Nat
  count : Nat
  deriving DecidableEq, Repr

/-- The lock of an action (R326); an AMEND takes none. -/
def TxnAction.lock (a : TxnAction) : Option Lock :=
  let r := a.record
  match acType r with
  | 1 => some ⟨0, acAddr r / 32, 1⟩
  | 2 => some ⟨0, acAddr r / 32, (acAddr r + 4 * acCount r - 1) / 32 + 1 - acAddr r / 32⟩
  | 3 => some ⟨1, acQueue r, 1⟩
  | 4 => some ⟨1, acQueue r, 1⟩
  | 5 => some ⟨2, klTarget a.content, 1⟩
  | 6 => some ⟨3, acQueue r, 1⟩
  | 7 => some ⟨3, acQueue r, 1⟩
  | _ => none

/-- Two locks conflict (R329). -/
def Lock.meets (a b : Lock) : Bool :=
  a.kind == b.kind && decide (a.first < b.first + b.count) && decide (b.first < a.first + a.count)

/-- The action acts on another device (R337): the master is member 0, and a local action names member 0. -/
def Txn.remote (t : Txn) (a : TxnAction) : Bool := t.master.isNone && acMember a.record != 0

/-- The lock an action claims on this device. -/
def Txn.lockOf (t : Txn) (a : TxnAction) : Option Lock := if t.remote a then none else a.lock

/-- A transaction holds a lock that meets `l`. -/
def Txn.holds (t : Txn) (l : Lock) : Bool :=
  t.locked.any fun i => match (t.actions[i]?).bind t.lockOf with
    | some m => m.meets l
    | none => false

/-- The lock a transaction waits for: of the action being added, or of the next action to claim in RECLAIM. -/
def Txn.wants (t : Txn) : Option (Nat × Lock) :=
  match t.phase with
  | .waiting => match t.adding with
    | some (a, _) => (t.lockOf a).map fun l => (t.actions.length, l)
    | none => none
  | .reclaim =>
    let i := t.locked.length
    ((t.actions[i]?).bind t.lockOf).map fun l => (i, l)
  | _ => none

/-- WAITAT of TN_SLOT (R344): the action waiting for a lock, on this device or on the member it acts on; 0x7F none. -/
def Txn.waitAt (t : Txn) : Nat :=
  match t.phase with
  | .waiting => t.actions.length
  | .reclaim => if t.locked.length < t.actions.length then t.locked.length else 0x7F
  | _ => 0x7F

/-- The older of two ages (R323). -/
def ageOlder (a b : Age) : Bool :=
  decide (a.time < b.time) || (a.time == b.time && (decide (a.frac < b.frac) ||
    (a.frac == b.frac && decide (a.member < b.member))))

/-- A transaction can be wounded (R329): not a SEALED one. -/
def Txn.woundable (t : Txn) : Bool := t.phase != .sealed && !t.prepared

/-- Transactions other than `t` that hold a lock meeting `l`. -/
def State.holders (s : State) (t : Txn) (l : Lock) : List Txn :=
  s.txn.slots.filter fun h => h.slot != t.slot && h.holds l

/-- An older transaction waits for a lock meeting `l` (R329: waiters are granted in age order). -/
def State.olderWaits (s : State) (t : Txn) (l : Lock) : Bool :=
  s.txn.slots.any fun w => w.slot != t.slot && ageOlder w.age t.age && (match w.wants with
    | some (_, m) => m.meets l
    | none => false)

/-! ## Freeing a slot (R322, R324) -/

/-- Reservations of a transaction leave their queues (R328). -/
def State.unreserve (s : State) (t : Txn) : State :=
  t.reserved.foldl (fun a x => a.setQst x.1 { a.qst x.1 with reserved := (a.qst x.1).reserved - x.2 }) s

/-- The slot is free: staged items released, the tag given back, a postponed flush made (R322, R324, R336). -/
def State.freeTxn (s : State) (t : Txn) : State :=
  let s1 := match t.stageQ with
    | some q => if t.actions.any (fun a => !a.item.isEmpty) then s.qRelease q else s
    | none => s
  let x : TxnState := {
    s1.txn with slots := s1.txn.slots.filter (·.slot != t.slot), pool := s1.txn.pool.give t.slot }
  let s2 := ({ s1 with txn := x } : State).giveTag t.tag
  match t.stageQ with
  | some q =>
    if s2.txn.flushes.contains q then
      ({ s2 with txn := { s2.txn with flushes := s2.txn.flushes.filter (· != q) } } : State).qFlush q
    else s2
  | none => s2

/-- What a TXN_DONE says beside the transaction's own figures (R343). -/
structure TxnEnd where
  status : Nat
  index : Nat := 0
  member : Nat := 0
  record : Nat := 0
  committed : Nat := 0
  unknown : Nat := 0
  deriving DecidableEq, Repr

/-- One TXN_DONE (R343). -/
def State.txnDone (s : State) (t : Txn) (e : TxnEnd) : State :=
  s.notice ncTXN_DONE t.slot [(16, t.handle), (16, e.status), (8, t.actions.length), (8, t.wounds), (8, e.index),
    (8, e.member), (64, t.commitAt), (32, e.record), (32, e.committed), (32, e.unknown)]

/-- The COMMIT entry of a transaction leaves the launch queue without effect. -/
def State.dropCommit (s : State) (t : Txn) : State :=
  match t.entry with
  | some h => match s.launch.entries.find? (fun e => e.handle == h) with
    | some e => s.lqRemove e.entry
    | none => s
  | none => s

/-- Bank copies a transaction asked for stop (R278). -/
def State.dropCopies (s : State) (t : Txn) : State :=
  { s with queues := { s.queues with copies := s.queues.copies.filter (·.txn != t.slot) } }

/-- A request from the master or the host that waits in the transaction completes with a status. -/
def State.answerAdd (s : State) (a : TxnAsker) (st : Nat) (res : List Word) : State :=
  match a with
  | .host c => s.complete c 0x21 st res
  | .bench src tag => s.benchReply src tag st res

/-- The decision ABORT goes to every member that holds a part (R339). -/
def State.abortMembers (s : State) (t : Txn) : State :=
  if t.master.isSome ∨ t.members = 0 then s
  else (List.range 32).foldl (fun a m =>
    if t.members / 2 ^ m % 2 = 1 ∧ m ≠ a.memberNo ∧ (t.phase = .sealed ∨ t.actions.any (fun x => acMember x.record == m)) then
      (a.benchAsk m (.decision t.handle false) (.txnOther t.slot)).1
    else a) s

/-- The transaction's fate is written and the slot is free. -/
def State.finishTxn (s : State) (t : Txn) (e : TxnEnd) : State := (s.txnDone t e).freeTxn t

/-! ## Bench-wide outcomes (R340) -/

/-- Members that take part beside the master. -/
def State.otherMembers (s : State) (t : Txn) : List Nat :=
  (List.range 32).filter fun m => t.members / 2 ^ m % 2 == 1 && m != s.memberNo

/-- Staged items and locks go at the commit; the slot stays while other members report. -/
def State.partDone (s : State) (t : Txn) (st : Nat) : State :=
  let s1 := match t.stageQ with
    | some q => if t.actions.any (fun a => !a.item.isEmpty) then s.qRelease q else s
    | none => s
  let acts := t.actions.map fun a => { a with item := [], key := [] }
  s1.setTxn { t with locked := [], reserved := [], entry := none, actions := acts, reports := t.reports ++ [(s.memberNo, st)] }

/-- TXN_DONE of a bench-wide commit (R340): one outcome everywhere, or OUTCOME_SPLIT with its masks. -/
def State.benchDone (s : State) (t : Txn) : State :=
  let mask := fun (l : List Nat) => (l.map (2 ^ ·)).sum
  let own := ((t.reports.find? fun r => r.1 == s.memberNo).map (·.2)).getD stOK
  let all := s.memberNo :: s.otherMembers t
  let unknown := all.filter fun m => !t.reports.any (·.1 == m)
  let committed := (t.reports.filter fun r => r.2 == stOK).map (·.1)
  let same := unknown.isEmpty && t.reports.all fun r => (r.2 == stOK) == (own == stOK)
  if same then s.finishTxn t { status := own, committed := mask committed }
  else (s.bump F.TN_SPLIT_COUNT).finishTxn t { status := stOUTCOME_SPLIT, committed := mask committed, unknown := mask unknown }

/-- Every member has reported. -/
def State.allReported (s : State) (t : Txn) : Bool :=
  (s.memberNo :: s.otherMembers t).all fun m => t.reports.any (·.1 == m)

/-- The master's own part has ended at the commit tick. -/
def State.ownPart (s : State) (t : Txn) (st : Nat) : State :=
  let s1 := s.partDone t st
  match s1.txnAt t.slot with
  | some x => if s1.allReported x then s1.benchDone x else s1
  | none => s1

/-- A part's outcome goes to the master (R340): after the commit time, which an abort may come before. -/
def State.reportOutcome (s : State) (c m h st : Nat) : State :=
  if c < s.ns then (s.benchAsk m (.outcome h st) .none).1
  else { s with txn := { s.txn with outcomes := s.txn.outcomes ++ [{ at_ := c, master := m, handle := h, status := st }] } }

/-- Outcomes whose commit time has passed are reported (R340). -/
def State.outcomesDue (s : State) : State :=
  let due := s.txn.outcomes.filter fun o => decide (o.at_ < s.ns)
  due.foldl (fun a o => (a.benchAsk o.master (.outcome o.handle o.status) .none).1)
    { s with txn := { s.txn with outcomes := s.txn.outcomes.filter fun o => decide (s.ns ≤ o.at_) } }

/-- An abort (R324): every lock, reservation, staged item and entry is released, waiting commands complete (R331: a held
TXN_COMMIT too), and TXN_DONE is written unless a completion reports the outcome (R343). Once the decision COMMIT has gone out, the master's own part alone ends
(R340); a part that has committed stays. -/
def State.abortTxn (s : State) (t : Txn) (e : TxnEnd) (reported : Bool) : State :=
  if t.reports.any (·.1 == s.memberNo) then s
  else if t.master.isNone && t.phase == .sealed && t.decided == some true then
    ((((s.unreserve t).dropCommit t).dropCopies t).bump F.TN_CNT_ABORTED).ownPart { t with entry := none } e.status
  else
  let s1 := match t.adding with
    | some (_, a) => s.answerAdd a e.status []
    | none => s
  let s2 := match t.heldCommit with
    | some (c, _) => s1.complete c 0x22 e.status
    | none => s1
  let s3 := ((((s2.unreserve t).dropCommit t).dropCopies t).abortMembers t).bump F.TN_CNT_ABORTED
  let told := reported || (t.heldCommit.isSome && t.members == 0)
  let s4 := if told || t.master.isSome then s3 else s3.txnDone t e
  let s5 := match t.master with
    | some (m, h) => if t.prepared then s4.reportOutcome t.commitAt m h e.status else s4
    | none => s4
  s5.freeTxn t

/-- Every transaction not yet committed aborts with a status (R72, R333). -/
def State.abortOpenTxns (s : State) (st : Nat) : State :=
  s.txn.slots.foldl (fun a t => match a.txnAt t.slot with
    | some x => a.abortTxn x { status := st } false
    | none => a) s

/-! ## Flushes of a staging queue (R336) -/

/-- The transaction that holds a staging queue. -/
def State.stageHolder (s : State) (q : Nat) : Option Txn := s.txn.slots.find? (·.stageQ == some q)

/-- A holder whose staging queue cannot be flushed: SCHEDULED, SEALED, or a prepared part. -/
def Txn.keepsQueue (t : Txn) : Bool := t.phase == .scheduled || t.phase == .sealed || t.prepared

/-- A flush asked for by QM_QCTL or a queue control action: the status. -/
def State.askFlush (s : State) (q : Nat) : State × Nat :=
  match s.stageHolder q with
  | none => (s.qFlush q, stOK)
  | some t =>
    if t.keepsQueue then (s, stQUEUE_BUSY)
    else ((s.abortTxn t { status := stSTAGE_LOST } false).qFlush q, stOK)

/-- The flush that follows a poisoned item header (R277): made at once, or postponed until the holder is FREE. -/
def State.eccFlush (s : State) (q : Nat) : State :=
  match s.askFlush q with
  | (s1, st) =>
    if st = stOK then s1
    else if s.txn.flushes.contains q then s
    else { s with txn := { s.txn with flushes := s.txn.flushes ++ [q] } }

/-! ## Wounds (R330 to R332) -/

/-- A transaction is wounded by the one with handle `by_` of member `bm` (R330): every lock released, one TXN_WOUNDED; it
reclaims where AUTORETRY and its retries allow, else it aborts with WOUNDED. -/
def State.woundTxn (s : State) (v : Txn) (by_ bm : Nat) : State :=
  let n := v.wounds + 1
  let s1 := (s.bump F.TN_WOUND_WOUNDS).notice ncTXN_WOUNDED v.slot [(16, v.handle), (16, by_), (8, bm), (8, min n 15)]
  let s2 := match v.adding with
    | some (_, a) => s1.answerAdd a stWOUNDED []
    | none => s1
  let v1 := { v with wounds := min n 15, adding := none }
  if s.flag F.TN_CTL_AUTORETRY && decide (v.wounds < s.getF F.TN_CTL_RETRIES) && v.master.isNone then
    let s3 := (s2.abortMembers v1).bump F.TN_WOUND_RETRIES
    s3.setTxn { v1 with phase := .reclaim, locked := [], since := s.ns,
                        wasScheduled := v.phase == .scheduled || (v.phase == .reclaim && v.wasScheduled) }
  else s2.abortTxn v1 { status := stWOUNDED } false

/-- A claim of lock `l` by transaction `t` (R329, R332): younger woundable holders opened here are wounded; one opened on
another member is wounded through that member, once while its ACK is awaited, and the claimant waits. True where the lock is free then. -/
def State.claimLock (s : State) (t : Txn) (l : Lock) : State × Bool :=
  let s1 := (s.holders t l).foldl (fun a h =>
    if ageOlder t.age h.age && h.woundable then
      if h.age.member = a.memberNo then a.woundTxn h t.handle t.age.member
      else if a.bench.reqs.any (fun r => r.dst == h.age.member && r.purpose == .wound t.slot) then a
      else (a.benchAsk h.age.member (.wound ((h.master.map (·.2)).getD 0 % 512) t.handle t.age.member) (.wound t.slot)).1
    else a) s
  (s1, (s1.holders t l).isEmpty && !s1.olderWaits t l)

end Sys2Proof.Machine
end

