-- ==== Sys2Proof/Machine/TxOps.lean ====
section
/-! DEFINITION. Transmissions of both media as shared operations: reading an item, securing it in place (R263, R264), ending
one that is not sent (R163, R174, R218, R234), stopping all of them (R66), what a power domain's units do when it leaves or
reaches ON (R77, R78). -/
namespace Sys2Proof.Machine
open Sys2Proof

/-! ## Ending a transmission that is not sent -/

/-- The device releases the item at these statuses (R163, R182, R218, R264). DESIGN CHOICE (entry 155): at KEY_USE as at NO_KEY. -/
def releasing (st : Nat) : Bool :=
  [lpINVALID_ITEM, lpFRAME_TOO_LONG, lpBANDC_TOO_LONG, rtINVALID_ITEM, stNO_KEY, stKEY_USE, stEVT_EXHAUSTED].contains st

/-- The band channel's class queues wait after these statuses (R174). -/
def blocking (st : Nat) : Bool := [lpBAND_OFF, stMODE_SILENT, stDOMAIN_DOWN].contains st

/-- The band channel an entry names. -/
def LqEntry.port (e : LqEntry) : Nat := leIndex e.words
def LqEntry.band (e : LqEntry) : Nat := leBand e.words

/-- A mailbox frame whose launch has ended without being sent waits again, or leaves where its item is released. -/
def State.mbxEnd (s : State) (h : Nat) (free : Bool) : State :=
  match s.radio.mbx.find? (·.sending == some h) with
  | none => s
  | some x =>
    if free then s.mbxFree x
    else { s with radio := { s.radio with mbx := s.radio.mbx.map fun y => if y = x then { y with sending := none } else y } }

/-- What the inserter does about a transmission that was not sent (R174, R234, R238). -/
def State.txOutcome (s : State) (e : LqEntry) (st : Nat) : State :=
  match e.inserter with
  | .host => if releasing st && e.item.isSome then s.qRelease (leQueue e.words) else s
  | .access p b => match (s.pchan p b).attempt with
    | none => s
    | some a =>
      if releasing st then s.releaseAttempt p b a.queue
      else
        let s1 := s.rewindAttempt p b a.queue
        if blocking st then s1.setPchan p b { s1.pchan p b with blocked := true } else s1
  | .sched l => match s.radio.attempts.find? (·.link == l) with
    | none => s
    | some a => if releasing st then s.rfRelease a else s.rfRewind a
  | .poll _ => s.mbxEnd e.handle (releasing st)
  | _ => s

/-- The front-end writes of an entry that have not been sent are withdrawn (R101). -/
def State.dropOfs (s : State) (i : Nat) : State :=
  { s with sample := { s.sample with rfc := s.sample.rfc.filter fun w => w.entry != some i || w.retried } }

/-- A transmission completes with a status other than OK: counted in REFUSED, reported, its item as the status says. -/
def State.txFail (s : State) (e : LqEntry) (st : Nat) : State :=
  let s1 := if leType e.words = leTypePLC_FRAME then s.bump (F.PL_TXCNT_REFUSED e.port e.band)
            else (s.dropOfs e.entry).bump (F.CH_TXCNT_REFUSED e.port)
  (s1.launchDone e st).txOutcome e st

/-! ## Securing in place (R263, R264) -/

/-- A frame's bytes as `RxFrame.mac` reads them: the medium and, on power line, the frame type. -/
def txView (medium ft : Nat) (b : List Byte) : RxFrame :=
  { medium := medium, port := 0, record := [BitVec.ofNat 32 (ft * 2 ^ 15)], body := b, due := 0, end_ := 0 }

/-- LEN of a chirp item and its payload (R216). -/
def rfItLen (it : List Word) : Nat := (wordAt it 1).field 7 0
def rfItPayload (it : List Word) : List Byte := (bytesOfWords (it.drop 4)).take (rfItLen it)

/-- An entry's frame as its item holds it. -/
def LqEntry.view (e : LqEntry) (it : List Word) : RxFrame :=
  if leType e.words = leTypePLC_FRAME then txView 0 (itFt it) (itPsdu it) else txView 1 0 (rfItPayload it)

/-- Words before the frame's bytes in an item of the entry's medium. -/
def LqEntry.headWords (e : LqEntry) : Nat := if leType e.words = leTypePLC_FRAME then 2 else 4

/-- The hop receiver of an outbound frame (R263). -/
def hopReceiver (medium : Nat) (b : List Byte) : Nat :=
  if medium = 0 then (psduActing b).getD (psduDst b) else rfRxa b

/-- The invalid-item status of an entry's medium. -/
def LqEntry.invalid (e : LqEntry) : Nat := if leType e.words = leTypePLC_FRAME then lpINVALID_ITEM else rtINVALID_ITEM

/-- The item a transmitter has read is secured (R263): at once where it needs nothing or has its counter; else one cipher
request, its counter assigned now. A failure ends the transmission (R264). -/
def State.secureEntry (s : State) (i : Nat) : State :=
  match s.lqAt i with
  | none => s
  | some e => match e.item with
    | none => s
    | some it =>
      let f := e.view it
      let m := f.mac
      if !((m.ft == 0 || m.ft == 3) && m.sec) || secCounter f.body m.secAt != 0 then
        s.lqUpdate i fun x => { x with secured := some f.body }
      else if f.body.length < m.secAt + 5 + micLen (secLevel f.body m.secAt) then s.txFail e e.invalid
      else if !s.domOn domCPH then s.txFail e stDOMAIN_DOWN
      else match s.hopKey (hopReceiver f.medium f.body) with
        | .error st => s.txFail e st
        | .ok (h, slot) => match s.takeCounter h with
          | (s1, none) => s1.txFail e stEVT_EXHAUSTED
          | (s1, some v) =>
            (s1.lqUpdate i fun x => { x with securing := true }).cipherAsk
              (if f.medium = 0 then rqAccess e.port else rqSched) (.secure i e.gen f.body.length) slot v

/-- The bytes of a frame secured with a key and a counter (R261); its MIC takes the room LEN leaves for it. -/
def secureFrame (f : RxFrame) (key : List Byte) (counter : Nat) : List Byte :=
  let m := f.mac
  let lvl := secLevel f.body m.secAt
  let head := f.body.take m.secAt ++ BitVec.ofNat 8 lvl :: bytesLE 4 counter
  let mid := (f.body.drop (m.secAt + 5)).take (f.body.length - (m.secAt + 5) - micLen lvl)
  secureBytes key m.tx counter lvl head mid

/-- The item rewritten where it lies: in its queue, unless it was freed since it was read, or in the mailbox cell it is sent
from. -/
def State.writeBack (s : State) (e : LqEntry) (it : List Word) : State :=
  match e.inserter with
  | .poll _ => match s.radio.mbx.find? (·.sending == some e.handle) with
    | some x => s.putWords (s.cellAddr x.part x.cell 0) it
    | none => s
  | _ => if s.qStill (leQueue e.words) e.readFrom then s.qPut (leQueue e.words) e.readFrom it else s

/-- Securing of an outbound frame has ended (R263, R264); one whose entry is gone is discarded. -/
def State.secureEnd (s : State) (r : CipherReq) (i gen : Nat) (good : Bool) : State :=
  match s.lqAt i with
  | none => s
  | some e =>
    if e.gen ≠ gen ∨ !e.securing then s
    else match e.item, r.cur with
      | some it, some k =>
        if !good then s.txFail e stCIPHER_FAULT
        else
          let b := secureFrame (e.view it) k r.counter
          let it' := it.take e.headWords ++ wordsOfBytes b
          (s.writeBack e it').lqUpdate i fun x => { x with item := some it', securing := false, secured := some b }
      | _, _ => s.txFail e stCIPHER_FAULT

/-! ## Reading an item (R163, R218, R277) -/

/-- The transmitter reads the item at the read pointer of the entry's queue; true where it holds a poisoned word. -/
def State.txTake (s : State) (e : LqEntry) : State × Bool :=
  let q := leQueue e.words
  if s.qUsable q && s.qHeadLost q then (s.eccFlush q, true)
  else match if s.qUsable q then s.qFront q else none with
  | none => (s, false)
  | some it =>
    let bad := s.qPoisoned q (s.qR q) it.length
    let r := s.qR q
    ((s.qConsume q).lqUpdate e.entry (fun x => { x with item := some it, readFrom := r }), bad)

/-! ## Transmit intervals (R203, R216, R217) -/

/-- The DT in ns at which an entry takes effect under the live fit. -/
def State.lqNs (s : State) (e : LqEntry) : Nat := ((s.lqTime16 e).getD (leTime16 e.words)) / 65536

def rfItCr (it : List Word) : Nat := (wordAt it 1).field 10 8
def rfItCrc (it : List Word) : Bool := (wordAt it 1).bit 11
def rfItImplicit (it : List Word) : Bool := (wordAt it 1).bit 12
def rfItSf (it : List Word) : Nat := (wordAt it 1).field 15 13
def rfItChan (it : List Word) : Nat := (wordAt it 1).field 20 16
def rfItNpre (it : List Word) : Nat := (wordAt it 2).field 15 0
def rfItFofs (it : List Word) : Nat := (wordAt it 3).field 23 0
def rfItFofsEn (it : List Word) : Bool := (wordAt it 3).bit 31

/-- The item's form is right (R216, R218). -/
def rfItValid (it : List Word) : Bool :=
  decide (1 ≤ rfItCr it) && decide (rfItCr it ≤ 4) && decide (1 ≤ rfItLen it) && decide (8 ≤ rfItNpre it) &&
    it.length == 4 + ceilDiv (rfItLen it) 4

/-- The ramp duration of a profile in ns (R217). -/
def State.rampNs (s : State) (j : Nat) : Nat := (s.getF (F.CH_RAMPDUR_DUR j) + 1) * 1000

/-- The steps of a ramp of a profile (R217): the pair each ends before, and its level. -/
def State.rampSteps (s : State) (j : Nat) (up : Bool) : List (Nat × Nat) :=
  let p := (s.rampNs j * 1024 + 50000) / 100000
  (List.range 16).map fun i =>
    let k := if up then i else 15 - i
    ((i + 1) * p / 16, (s.word (F.CH_RAMP j (k / 4))).field (8 * (k % 4) + 7) (8 * (k % 4)))

/-- A ramp of a pair leaves on its transmit link from `t` on. -/
def State.emitRamp (s : State) (n j : Nat) (up : Bool) (t : Nat) : State := s.emitOut (.ramp n up t (s.rampSteps j up))

/-- Time on air of an item on pair `n`, in ns. -/
def State.rfAir (s : State) (n : Nat) (it : List Word) : Nat :=
  chirpAir (rfItSf it) (s.chmode n) (rfItCr it) (!rfItImplicit it) (rfItCrc it) (rfItLen it) (rfItNpre it)

/-- The transmit interval of an RF_TX entry whose item has been read: start of the up-ramp, end of the down-ramp. -/
def State.rfSpan (s : State) (e : LqEntry) : Option (Nat × Nat) :=
  e.item.map fun it =>
    let d := s.rampNs e.profile
    let t := s.lqNs e
    (t - d, t + s.rfAir e.port it + d)

/-- DT `t` falls inside a transmit interval of pair `n` (R213). -/
def State.inTransmit (s : State) (n t : Nat) : Bool :=
  (match afind s.chirp.sending n with
   | some x => decide (x.start ≤ t) && decide (t < x.end_)
   | none => false) ||
  s.launch.entries.any fun e => leType e.words == leTypeRF_TX && e.port == n && (match s.rfSpan e with
    | some (a, b) => decide (a ≤ t) && decide (t < b)
    | none => false)

/-- The transmit intervals a frame of the transmit link may meet, in 2^-16 ns (R135, R217): the transmission under way, the down-ramp
of one that was cut, and transmissions past their refusal point. -/
def State.rfSpans (s : State) (n : Nat) : List (Int × Int) :=
  let now := (match afind s.chirp.sending n with
    | some r => [(r.start, r.end_)]
    | none => [(0, aget 0 s.chirp.suspendTo n - 50000)])
  let next := (s.launch.entries.filter fun e => leType e.words == leTypeRF_TX && e.port == n && e.charged).filterMap s.rfSpan
  (now ++ next).map fun x => ((x.1 * 65536 : Nat), (x.2 * 65536 : Nat))

/-- The transmit links of the pairs whose domain is ON send a frame every 3.125 µs, 1,920 core ticks (R129, R135). -/
def State.sendFrames (s : State) : State :=
  if s.tick % 1920 = 0 then
    (List.range 32).foldl (fun a n => if a.domOn (domOfRf n) then (a.chanGap n).sendFrame n (a.rfSpans n) else a) s
  else s

/-! ## Stopping (R66) -/

/-- TXBUSY and SUSPENDED of a pair (R219). -/
def State.rfBusy (s : State) (n : Nat) (busy susp : Bool) : State :=
  (s.setF (F.CH_PAIRSTAT_TXBUSY n) (boolNat busy)).setF (F.CH_PAIRSTAT_SUSPENDED n) (boolNat susp)

/-- A radio transmission ends at `t` with its down-ramp over: detection stays suspended for 50 µs more (R208). -/
def State.rfStop (s : State) (n t : Nat) : State :=
  let s1 := { s with chirp := { s.chirp with sending := adel s.chirp.sending n,
                                             suspendTo := aset s.chirp.suspendTo n (t + 50000) } }
  s1.rfBusy n false true

/-- A power-line transmission is cut off and completes with a status, its item not released (R78, R379). -/
def State.plcCut (s : State) (p b st : Nat) : State :=
  match (s.pchan p b).tx with
  | none => s
  | some t =>
    let s1 := (s.plcStop p b s.ns).bump (F.PL_TXCNT_REFUSED p b)
    match t.kind with
    | .host e => s1.launchReport e st
    | .attempt h => match (s1.pchan h b).attempt with
      | some a => s1.rewindAttempt h b a.queue
      | none => s1
    | _ => s1

/-- A radio transmission is cut off: its down-ramp starts, and it completes with a status, its item not released (R78). -/
def State.rfCut (s : State) (n st : Nat) : State :=
  match afind s.chirp.sending n with
  | none => s
  | some r =>
    let s1 := (s.emitRamp n r.entry.profile false s.ns).rfStop n (s.ns + r.dur)
    match s1.lqAt r.entry.entry with
    | some e => if e.gen = r.entry.gen then s1.txFail e st else s1
    | none => ((s1.bump (F.CH_TXCNT_REFUSED n)).launchReport r.entry st).txOutcome r.entry st

/-- Every transmission stops at once (R66): the line drivers are disabled, the radio transmissions ramp down. -/
def State.stopTransmissions (s : State) : State :=
  s.chirp.sending.foldl (fun a x => (a.emitRamp x.1 x.2.entry.profile false a.ns).rfStop x.1 (a.ns + x.2.dur)) s.stopLines.txenOff

/-- A transmission that starts in the tick in which FAULT is entered stops at the end of that tick (R65, R66). -/
def State.endOfTick (s : State) : State := if s.mode.mode == .FAULT then s.stopTransmissions else s

/-- A transmission is on a line or in its transmit interval, or the down-ramp of one cut off is under way (R78). -/
def State.sending (s : State) : Bool :=
  !s.chirp.sending.isEmpty || s.plc.chans.any (·.2.tx.isSome) || s.domains.rampTo.any fun x => decide (s.ns < x.2)

/-- TWIN_ACTIVE_N is released once nothing is sent any more, where it is to be released (R63, R72). -/
def State.twinSettle (s : State) : State :=
  if s.mode.twinReleasing && !s.sending then
    { s with mode := { s.mode with twinDriven := false, twinReleasing := false } }
  else s

/-! ## Power domains and their units (R77, R78) -/

/-- Work that keeps domain `d` from passing on while it drains (R78): what it awaits. -/
def State.domainBusy (s : State) (d : Nat) : Bool :=
  if d < 32 then s.groupSends d
  else if d < 40 then
    (match afind s.domains.rampTo d with
     | some t => decide (s.ns < t)
     | none => false) || s.chirp.sending.any (fun x => x.1 / 4 == d - 32) || s.sample.rfc.any (fun w => w.pair / 4 == d - 32 && w.retried) ||
      s.launch.entries.any (fun e => leKind e.words == 3 && leIndex e.words / 4 == d - 32 && e.rfc == 2)
  else if d = domCHC then !s.chirp.demods.isEmpty
  else if d = domCPH then !s.cipher.reqs.isEmpty || !s.cipher.held.isEmpty || s.cipher.cards.any fun x => x.2.run.isSome
  else if d = domBPL then !s.bench.reqs.isEmpty || s.bench.heldReqs.any fun x => !isBenchRead x.2.1
  else false

/-- A domain has left ON: what its units then do. -/
def State.domainLeavesOn (s : State) (d : Nat) : State :=
  if d < 32 then
    let s1 := s.plcDomainLeaves d
    if s.domain d = 0 then
      (List.range 3).foldl (fun a i => a.mainsState (3 * d + i) {}) s1
    else s1
  else if d < 40 then (List.range 4).foldl (fun a i => a.rfSync (4 * (d - 32) + i)) s
  else if d = domCHC then
    { s with chirp := { s.chirp with waiting := [] } }
  else if d = domBPL ∧ s.domain d = 0 then (List.range 6).foldl (fun a g => a.setGroup g 0 0) s
  else s

/-- A domain has reached ON: its units start from their structure (R77, R126, R131, R351). -/
def State.domainComesOn (s : State) (d : Nat) : State :=
  if d < 32 then
    (List.range 3).foldl (fun a i =>
      let p := 3 * d + i
      let a1 := if a.lineActive p then (a.portLaneStart p).setTracker p {} else a
      a1.rxFollowPort p) s
  else if d < 40 then (List.range 4).foldl (fun a i => a.rfSync (4 * (d - 32) + i)) s
  else if d = domBPL then
    (List.range 6).foldl (fun a g => if a.groupEnabled g then a.setGroup g 1 0 else a) s
  else s

end Sys2Proof.Machine
end

