-- ==== Sys2Proof/Machine/ModeOps.lean ====
section
/-! DEFINITION. Modes and resets (chapter 03) as shared operations: a mode change, entry to FAULT, the record of an error
and its escalation (R376), entry to DRAIN, a domain's change of state, and the full reset (R73). -/
namespace Sys2Proof.Machine
open Sys2Proof

/-- The mode transmits: RUN, or DEFAULTED once DEF_TX is set (R60, R62). -/
def ModeState.transmits (m : ModeState) : Bool := m.mode == .RUN || (m.mode == .DEFAULTED && m.defTx)

/-- The mode was changed by a request or by entry to FAULT in this core tick (R65, R66): whether it transmitted before. -/
def State.sentBefore (s : State) : Option Bool :=
  match s.mode.before with
  | some (t, b) => if t = s.tick then some b else none
  | none => none

/-- The device starts transmissions (R60): a launched action of the tick in which a request changes the mode comes before it
(R65). -/
def State.mayTransmit (s : State) : Bool := s.sentBefore.getD s.mode.transmits

/-- The launch queue is stopped (R66): in FAULT, but for the actions of the tick in which it was entered. -/
def State.launchStopped (s : State) : Bool := s.mode.mode == .FAULT && s.sentBefore.isNone

/-- Twin status blocks 8 and 9 of the ledger (R386): TWIN_ROLE, mode, count and DT of takeovers, DT of the last
TWIN_CONFLICT, in that order. -/
def State.twinLedger (s : State) : State :=
  let b := bytesLE 2 (s.getF F.MD_BOOTCFG_TWIN_ROLE) ++ bytesLE 2 s.mode.mode.num ++ bytesLE 4 s.service.takeovers ++
    bytesLE 8 s.service.takeoverTime ++ bytesLE 8 s.service.conflictTime ++ List.replicate 8 0
  (s.lupdate 8 b).lupdate 9 (List.replicate 32 0)

/-- What `ModeState.before` holds after a mode change of a cause (R63): requests and entries to FAULT set it, the first of a tick. -/
def State.modeBefore (s : State) (cause : Nat) : Option (Nat × Bool) :=
  if [4, 6, 8, 9, 0x0B, 0x0C].contains cause then some (s.tick, s.mayTransmit) else s.mode.before

/-- A transition of R63 but those into and out of OFF and COLD: PREV_MODE, DEF_TX clear, one MODE_CHANGE with the old
mode, the new mode and the cause; the twin status block at a change that involves SHADOW (R386). -/
def State.changeMode (s : State) (m : Mode) (cause : Nat) : State :=
  let old := s.mode.mode
  let s1 := { s with mode := { s.mode with mode := m, prev := old.num, defTx := false, testing := false,
                                           before := s.modeBefore cause } }
  let s2 := s1.notice ncMODE_CHANGE 0 [(8, old.num), (8, m.num), (8, cause)]
  if old = .SHADOW ∨ m = .SHADOW then s2.twinLedger else s2

/-- The modes from which FAULT can be entered: LOAD to DRAIN (R63). -/
def Mode.canFault : Mode → Bool
  | .OFF => false
  | .COLD => false
  | .FAULT => false
  | _ => true

/-- The FAULT-mode watchdog's limit in AON cycles (R28, R67): WDOG * 100 ms. -/
def State.wdogCycles (s : State) : Nat := ceilDiv (s.getF F.MD_BOOTCFG_WDOG * 32768) 10

/-- Entry to FAULT (R66): every transmission stops, TWIN_ACTIVE_N is released, the watchdog starts where WDOG is not
zero, FAULT_ENTERED is written; a drain that was to end in a reset is followed by that reset (R72). -/
def State.enterFault (s : State) (cause : Nat) : State :=
  if !s.mode.mode.canFault then s
  else
    let pend := if s.mode.mode = .DRAIN then s.mode.drainReset else none
    let s1 := (s.stopTransmissions).changeMode .FAULT cause
    let s2 := { s1 with
      mode := { s1.mode with twinDriven := false, twinReleasing := false, drainStart := none, drainReset := none, resetNext := pend,
                             wdogStart := if s1.getF F.MD_BOOTCFG_WDOG = 0 then none else some s1.tick },
      service := { s1.service with faultEntries := s1.service.faultEntries + 1 } }
    s2.notice ncFAULT_ENTERED 0 [(8, cause)]

/-- An error is recorded (R375). One that finds all 256 records open is an error of the reporting path: its record goes
to the ledger alone and the device enters FAULT (R376). The record's index, if the log took it. -/
def State.report (s : State) (code kind unit detail : Nat) : State × Option Nat :=
  match s.recordError code kind unit detail false with
  | (s1, some i) => (s1, some i)
  | (s1, none) =>
    let r : FaultRec := {
      serial := s1.faults.serial + 1, code := 8, kind := 9, secondary := true, isOpen := true, escalated := true,
      retired := false, count := 1, unit := 6, primary := 0, first := s1.ns, last := s1.ns, detail := 0,
      mode := s1.mode.mode.num, seq := (s1.faults.serial + 1) % 65536 }
    ((s1.recordToLedger r 0).enterFault 0x0C, none)

/-- An error that takes the device to FAULT: its record has ESCALATED set (R374, R376). -/
def State.reportEscalated (s : State) (code kind unit detail cause : Nat) : State × Option Nat :=
  match s.recordError code kind unit detail true with
  | (s1, some i) => (s1.enterFault cause, some i)
  | (s1, none) => (s1.report code kind unit detail)

/-! ## Power domains (R77, R78) -/

/-- A domain changes state: one DOMAIN_STATE with index and state (R77). -/
def State.setDomain (s : State) (d st : Nat) : State :=
  { s with domains := { s.domains with states := aset s.domains.states d st } }.notice ncDOMAIN_STATE d [(8, d), (8, st)]

/-- The structure powers domain `d` (R76). -/
def State.wantsOn (s : State) (d : Nat) : Bool :=
  if d < 32 then (s.word F.MD_DOMCFG0).bit d else if d < 43 then (s.word F.MD_DOMCFG1).bit (d - 32) else true

/-- A power-down begins (R78): DRAINING; work that is not awaited ends. Only an ON domain starts to drain; one in
POWERING_UP does so when it reaches ON (R77). -/
def State.drainDomain (s : State) (d : Nat) : State :=
  if s.domain d = 2 ∧ d < 43 then
    let s1 := { s with domains := { s.domains with drainSince := aset s.domains.drainSince d s.ns } }
    (s1.setDomain d 3).domainLeavesOn d
  else s

/-- A power-up begins (R77): POWERING_UP from OFF; from DRAINING or CLAMPING it waits for OFF. -/
def State.powerUp (s : State) (d : Nat) : State := if s.domain d = 0 ∧ d < 43 then s.setDomain d 1 else s

/-- The tick in which CHECK or the DEFAULTED test ends: each domain the structure powers down passes through CLAMPING to
OFF, without a drain (R425). -/
def State.settleDomains (s : State) : State :=
  (List.range 43).foldl (fun a d => if a.wantsOn d then a else ((a.setDomain d 4).setDomain d 0).domainLeavesOn d) s

/-- Entry to DRAIN (R72): open transactions abort with ABORTED_POWER and every powered domain drains. -/
def State.enterDrain (s : State) (rst : Option PendingReset) : State :=
  let s1 := (s.changeMode .DRAIN 0x0B).abortOpenTxns stABORTED_POWER
  let s2 := { s1 with mode := { s1.mode with drainStart := some s1.ns, drainReset := rst, twinReleasing := s1.mode.twinDriven } }
  (List.range 43).foldl (fun a d => a.drainDomain d) s2.twinSettle

/-! ## Full reset (R71, R73) -/

/-- The bits of MD_RESETCAUSE.SEEN (R80). -/
def seenBits (o : ResetSources) : Nat :=
  boolNat o.pin + 2 * boolNat o.watchdog + 4 * boolNat o.directive + 8 * boolNat o.command

/-- A full reset: the service ledger, the fuses, the AON life counters, MD_RESETCAUSE and MD_STATE.PREV_MODE are kept;
all other state returns to its reset value and the device is in COLD (R73). A fuse programming in progress leaves the
fuse intact or whole (R53): which, is a free value. -/
def State.fullReset (s : State) (cause : Nat) (graceful hostLoad : Bool) (seen : Nat) : State :=
  let w := s.freshWord
  let done := s.fuse.busy && w.1.bit 0
  { State.reset with
    tick := s.tick
    fresh := if s.fuse.busy then s.fresh + 1 else s.fresh
    out := s.out
    pending := s.pending
    service := { s.service with
      resets := aset s.service.resets cause (aget 0 s.service.resets cause + 1),
      writes := s.service.writes.map fun o => { o with cmd := none },
      waits := [], tag := s.service.tag }
    fuse := { blown := s.fuse.blown || done,
              digest := if done then s.fuse.burning else s.fuse.digest }
    mode := { State.reset.mode with
      mode := .COLD, prev := s.mode.mode.num, cause := cause, graceful := graceful, hostLoad := hostLoad, seen := seen } }

/-- The reset a drain or a request leads to (R71, R72). -/
def State.resetBy (s : State) (p : PendingReset) (graceful : Bool) : State :=
  s.fullReset p.cause graceful p.hostLoad (if p.cause = 3 then 4 else if p.cause = 4 then 8 else if p.cause = 2 then 2 else 1)

end Sys2Proof.Machine
end

