-- ==== Sys2Proof/Machine/LaunchOps.lean ====
section
/-! DEFINITION. Ending a pending launched action (R84, R99, R101) and staging, as shared operations. -/
namespace Sys2Proof.Machine
open Sys2Proof

/-- The PA ramp of a transmission that is stopped before its first sample goes down again. -/
def State.dropRamp (s : State) (e : LqEntry) : State :=
  match afind s.chirp.sending e.port with
  | some r => if r.entry.entry = e.entry ∧ r.entry.gen = e.gen
      then (s.emitRamp e.port r.entry.profile false s.ns).rfStop e.port (s.ns + r.dur) else s
  | none => s

/-- A pending action completes with a status and without its effect: a transmission as its inserter's rules say, a COMMIT
by aborting its transaction (R84), any other by its report. -/
def State.endEntry (s : State) (e : LqEntry) (st : Nat) : State :=
  match leType e.words with
  | 1 => s.txFail e st
  | 2 => (s.dropRamp e).txFail e st
  | 6 => match s.txn.slots.find? (·.entry == some e.handle) with
    | some t => s.abortTxn t { status := st } false
    | none => s.launchDone e st
  | _ => s.launchDone e st

/-- Every entry of a list that is still pending ends with a status, in order. -/
def State.endEntries (s : State) (l : List LqEntry) (st : Nat) : State :=
  l.foldl (fun a e => match a.lqAt e.entry with
    | some x => if x.gen = e.gen then a.endEntry x st else a
    | none => a) s

/-- The status that keeps a launched action that is no transmission from its effect, if one does: no line (R99), its domain
down (R77), or a mode in which the launch queue is stopped (R66). -/
def State.actionStop (s : State) (e : LqEntry) : Option Nat :=
  if s.launchStopped then some stMODE_SILENT
  else if (match leDomain e.words with | some d => !s.domOn d | none => false) then some stDOMAIN_DOWN
  else if s.lqNoMains e then some stNO_MAINS
  else none

/-- A due entry of a type runs: its effect, or the status that stops it. -/
def State.runAction (s : State) (i type : Nat) (f : LqEntry → State) : State :=
  match s.lqAt i with
  | none => s
  | some e =>
    if leType e.words ≠ type ∨ !s.lqReady e then s
    else match s.actionStop e with
      | some st => s.endEntry e st
      | none => f e

end Sys2Proof.Machine
end

