-- ==== Sys2Proof/Machine/RefOps.lean ====
section
/-! DEFINITION. The time reference as shared operations (R83 to R92, R104): steps, reference states, phase updates, loss,
rejection, and the conditions of ACQUIRE. -/
namespace Sys2Proof.Machine
open Sys2Proof

/-- States of the reference (R87). -/
abbrev rfFREE : Nat := 0
abbrev rfACQUIRING : Nat := 1
abbrev rfLOCKED : Nat := 2
abbrev rfHOLDOVER : Nat := 3

def State.refSel (s : State) : Nat := s.getF F.TB_REFCFG_SEL

/-- A signed value as a saturating 32-bit field. -/
def sat32 (x : Int) : Nat := unsignedOf 32 (clampInt (-2147483648) 2147483647 x)

/-- The PPS input in use (TB_STATUS.ACTIVE_PPS). -/
def State.ppsUse (s : State) : Nat := if s.refSel = 2 then 1 else s.ref.activePps

/-- One TIME_REF_STATE (R87). -/
def State.refNotice (s : State) : State :=
  s.notice ncTIME_REF_STATE 0 [(8, s.ref.state), (8, s.ppsUse), (32, sat32 s.ref.phaseErr)]

/-- The frequency correction changes; the one in force is remembered for the 1-hour mean. -/
def State.setFreq (s : State) (v : Int) : State :=
  let keep := s.ref.history.filter fun h => decide (s.ns < h.1 + 7200000000000)
  { s with ref := { s.ref with freqOfs := v, history := (s.ns, v) :: keep } }

/-- The sums of weight and of weight times value of the corrections in force since `from_`, newest first. -/
def freqSums (from_ : Nat) : Nat → List (Nat × Int) → Int × Int
  | _, [] => (0, 0)
  | stop, (t, v) :: rest =>
    let a := max t from_
    let w : Int := (stop - a : Nat)
    let r := if t ≤ from_ then ((0, 0) : Int × Int) else freqSums from_ t rest
    (r.1 + w, r.2 + w * v)

/-- The mean frequency correction of the last hour. -/
def State.freqMean (s : State) : Int :=
  let x := freqSums (s.ns - 3600000000000) s.ns s.ref.history
  if x.1 ≤ 0 then s.ref.freqOfs else roundDiv x.2 x.1.toNat

/-- How long the reference may be silent (R87). -/
def State.lossTime (s : State) : Nat := if s.refSel = 4 then 10000000 else 1500000000

/-- The reference moves to a state (R87): entering HOLDOVER freezes the frequency at its 1-hour mean, leaving it clears
EXPIRED (R90); one TIME_REF_STATE. Rejections in a row go on counting (R88). -/
def State.setRefState (s : State) (st : Nat) : State :=
  let s1 := if st = rfHOLDOVER then s.setFreq s.freqMean else s
  let r := s1.ref
  ({ s1 with ref := { r with
      state := st, good := 0, firstPulse := none, otherGood := 0, mismatchRun := 0,
      expired := r.expired && st == rfHOLDOVER,
      accepting := r.accepting && st != rfLOCKED,
      holdSince := if st = rfHOLDOVER then s1.ns else r.holdSince } } : State).refNotice

/-! ## Steps (R83, R84) -/

/-- A step is permitted (R83). -/
def State.mayStep (s : State) : Bool := !s.ref.timeValid || s.mode.mode == .STANDBY || s.mode.mode == .ACQUIRE

/-- A stamp moved by `d` ns. -/
def shiftNs (d : Int) (x : Nat) : Nat := ((x : Int) + d).toNat

/-- The stamps that intervals of the reference, of ACQUIRE and of the mains trackers are measured from move with a step of `d`
ns. DESIGN CHOICE (entry 141): R84 says nothing of them; an interval in which DT is stepped keeps its length. -/
def State.shiftStamps (s : State) (d : Int) : State :=
  let r := s.ref
  { s with
    ref := { r with
      lastGood := shiftNs d r.lastGood, otherLast := shiftNs d r.otherLast, holdSince := r.holdSince + d,
      firstPulse := r.firstPulse.map (shiftNs d), pps0Since := r.pps0Since.map (shiftNs d),
      amendedAt := r.amendedAt.map (shiftNs d),
      labels := r.labels.map fun x => (x.1, x.2.1, shiftNs d x.2.2), lastStamp := r.lastStamp.map fun x => (x.1, shiftNs d x.2),
      history := r.history.map fun x => (shiftNs d x.1, x.2) }
    mode := { s.mode with acquireSince := s.mode.acquireSince + d }
    mains := s.mains.map fun x => (x.1, { x.2 with crossings := x.2.crossings.map fun c => (c.1, shiftNs d c.2) }) }

/-- DT is stepped to `t` ns (R83, R84). -/
def State.stepTo (s : State) (t : Nat) : State :=
  let old := s.ns
  let n := s.launch.entries.length
  let s1 := (s.endEntries s.launch.entries stTIME_STEPPED).shiftStamps ((t % 2 ^ 64 : Nat) - (old : Int))
  ({ s1 with dt := t % 2 ^ 64 * dtUnit, ref := { s1.ref with timeValid := true, slew := 0 } } : State).notice
    ncTIME_STEPPED 0 [(64, old), (64, t % 2 ^ 64), (16, n)]

/-- TB_STEPCTL.SET: the status. -/
def State.stepSet (s : State) : State × Nat :=
  if s.mayStep then
    let s1 := s.stepTo ((s.word F.TB_SETTIME_LO).toNat + (s.word F.TB_SETTIME_HI).toNat * 2 ^ 32)
    ({ s1 with ref := { s1.ref with wasSet := true } }, stOK)
  else (s, stSTEP_REFUSED)

/-- TB_STEPCTL.ACCEPT (R88). -/
def State.stepAccept (s : State) : State :=
  if s.ref.rejected then { s with ref := { s.ref with rejected := false, accepting := true, bad := 0 } } else s

/-! ## Phase (R87, R88) -/

/-- A phase error in ns is slewed out. -/
def State.slewOut (s : State) (err : Int) : State := { s with ref := { s.ref with slew := -err * dtUnit } }

/-- The second-order loop's next frequency correction: a free value within ±100 ppm. -/
def State.discipline (s : State) : State :=
  let w := s.freshWord
  w.2.setFreq (clampInt (-100000000) 100000000 (signed 32 w.1.toNat))

/-- The frequency that makes a measured interval `d` of DT one of `n` s, at the correction in force (R87). -/
def State.freqFrom (s : State) (d n : Nat) : Int :=
  if d = 0 then s.ref.freqOfs
  else clampInt (-100000000) 100000000
    (roundDiv ((1000000000000 + s.freqOfs) * (n * 1000000000 : Nat)) d - 1000000000000)

/-- Seconds of a DT in ns, to the nearest. -/
def nearestSecond (t : Nat) : Nat := (t + 500000000) / 1000000000

/-- An accepted pulse or cell is registered: when, and its phase error. One stamped after the loss deadline does not renew it
(R106). -/
def State.refGood (s : State) (err : Int) : State :=
  let late := (s.ref.state == rfACQUIRING || s.ref.state == rfLOCKED) && decide (s.ref.lastGood + s.lossTime < s.ns)
  { s with ref := { s.ref with lastGood := if late then s.ref.lastGood else s.ns, phaseErr := err } }

/-- Good events in a row counted; at `need` the reference goes LOCKED. -/
def State.countGood (s : State) (ok : Bool) (need : Nat) : State :=
  let n := if ok then s.ref.good + 1 else 0
  let s1 := { s with ref := { s.ref with good := n } }
  if need ≤ n then s1.setRefState rfLOCKED else s1

/-- The first labelled pulse, of compensated stamp `stamp`, or the first time cell (R87): `err` is own DT less the
reference's. -/
def State.refFirst (s : State) (err : Int) (stamp : Option Nat) : State :=
  let s1 := s.refGood err
  let s2 := if s1.mayStep then s1.stepTo ((s1.ns : Int) - err).toNat else s1.slewOut err
  let s3 := s2.setRefState rfACQUIRING
  { s3 with ref := { s3.ref with firstPulse := if s1.mayStep then stamp.map (shiftNs (-err)) else stamp, wasSet := false } }

/-- A pulse is rejected (R88): it exceeds STEP_LIMIT where no step is permitted and none was accepted. -/
def State.refuses (s : State) (err : Int) : Bool :=
  s.ref.timeValid && !s.mayStep && !s.ref.accepting && decide (s.getF F.TB_HOLDCFG_STEP_LIMIT * 1000 < err.natAbs)

/-- A rejected pulse (R87, R88): the third in a row takes LOCKED to HOLDOVER and sets REJECTED, which only ACCEPT clears. -/
def State.refRejected (s : State) (err : Int) : State :=
  let n := s.ref.bad + 1
  let s1 := { s with ref := { s.ref with bad := n, good := 0, phaseErr := err } }
  if n ≠ 3 then s1
  else
    let s2 := if s1.ref.state = rfLOCKED then s1.setRefState rfHOLDOVER else s1
    ({ s2 with ref := { s2.ref with rejected := true } } : State).notice ncTIME_REF_REJECTED 0 []

/-- The first labelled pulse, unless it is rejected. -/
def State.refBegin (s : State) (err : Int) (stamp : Nat) : State :=
  if s.refuses err then s.refRejected err else s.refFirst err (some stamp)

/-- In ACQUIRING the second pulse sets the frequency from the interval since the first (R87). -/
def State.secondPulse (s : State) (t stamp : Nat) : State :=
  let d := stamp - t
  let s1 := s.setFreq (s.freqFrom d (nearestSecond d))
  { s1 with ref := { s1.ref with firstPulse := none } }

/-- An accepted pulse in the reference's state (R87). -/
def State.refAccepted (s : State) (err : Int) (stamp : Nat) : State :=
  let s0 := s.refGood err
  let s1 := { s0 with ref := { s0.ref with bad := 0 } }
  match s1.ref.state with
  | 1 => match s1.ref.firstPulse with
    | some t => s1.secondPulse t stamp
    | none => if err.natAbs ≤ 100 then s1.countGood true 3 else (s1.countGood false 3).slewOut err
  | 2 => s1.discipline
  | 3 => (s1.countGood true 3).slewOut err
  | _ => s1

/-- A label that differs from the expected second, once locked (R89). -/
def State.checkLabel (s : State) (sec expected : Nat) : State :=
  if s.ref.state < 2 then s
  else if sec = expected then { s with ref := { s.ref with mismatchRun := 0 } }
  else
    let n := s.ref.mismatchRun + 1
    let s1 := { s with ref := { s.ref with mismatchRun := n, mismatches := s.ref.mismatches + 1 } }
    if n = 3 then s1.notice ncTOD_MISMATCH 0 [] else s1

/-- The PPS input the selected reference uses now. -/
def State.ppsNow (s : State) : Option Nat :=
  match s.refSel with
  | 1 => some 0
  | 2 => some 1
  | 3 => some s.ref.activePps
  | _ => none

/-- The pulse's phase error is taken, or the pulse rejected (R88): against its label in ACQUIRING, else the expected second. -/
def State.refPhase (s : State) (stamp : Nat) (label : Option Nat) : State :=
  let sec := if s.ref.state = rfACQUIRING then label.getD (nearestSecond stamp) else nearestSecond stamp
  let err : Int := (stamp : Int) - sec * 1000000000
  if s.refuses err then s.refRejected err else s.refAccepted err stamp

/-- A labelled pulse steps DT where R83 permits it: with no valid time, or as the first after TB_STEPCTL.SET. -/
def State.refStep (s : State) (err : Int) (stamp : Option Nat) : State :=
  let s0 := match s.ref.state, s.ref.firstPulse, stamp with
    | 1, some t, some x => s.secondPulse t x
    | _, _, _ => s
  let s1 := (s0.refGood err).stepTo ((s.ns : Int) - err).toNat
  { s1 with ref := { s1.ref with wasSet := false } }

/-- A label steps DT where the state is not FREE (R83). -/
def State.labelSteps (s : State) : Bool := s.mayStep && (!s.ref.timeValid || s.ref.wasSet)

/-- A pulse of the input in use, compensated stamp `stamp`, with its label if it has one (R86 to R89). -/
def State.refPulse (s : State) (stamp : Nat) (label : Option Nat) : State :=
  match label with
  | none => if s.ref.state = rfFREE then s else s.refPhase stamp none
  | some sec =>
    let err : Int := (stamp : Int) - sec * 1000000000
    if s.ref.state = rfFREE then s.refBegin err stamp
    else if s.labelSteps then s.refStep err (some stamp)
    else (s.checkLabel sec (nearestSecond stamp)).refPhase stamp label

/-- A sentence labels a pulse that has already counted for phase (TOD_LABEL previous, R86): in ACQUIRING its phase error is taken
against the label instead; once locked the label only checks the second (R89). -/
def State.relabel (s : State) (stamp sec : Nat) : State :=
  let err : Int := (stamp : Int) - sec * 1000000000
  if s.ref.state = rfFREE then s.refBegin err stamp
  else if s.labelSteps then s.refStep err none
  else if s.ref.state ≠ rfACQUIRING then s.checkLabel sec (nearestSecond stamp)
  else if s.refuses err then s.refRejected err
  else
    let s1 := { s with ref := { s.ref with phaseErr := err } }
    if err.natAbs ≤ 100 then s1 else (s1.countGood false 3).slewOut err

/-- The other PPS input takes over: ACTIVE_PPS names it and the reference is LOCKED. -/
def State.ppsTakes (s : State) (i : Nat) (err : Int) : State :=
  let s1 := s.refGood err
  let s2 := { s1 with ref := { s1.ref with activePps := i, pps0Since := none, otherGood := 0, bad := 0, lastGood := s.ns } }
  (s2.setRefState rfLOCKED).slewOut err

/-- A pulse of the input not in use under PPS0_PPS1 (R87): in HOLDOVER the input takes over once 3 of its pulses in a row are
acceptable, of PPS_IN[0] too (DESIGN CHOICE, entry 138); while PPS_IN[1] is LOCKED, accepted pulses of PPS_IN[0] run for its
return. -/
def State.refOther (s : State) (stamp : Nat) : State :=
  let err : Int := (stamp : Int) - nearestSecond stamp * 1000000000
  let good := !s.refuses err
  let near := decide (s.ns ≤ s.ref.otherLast + 1500000000)
  let n := if !good || s.ref.state != rfHOLDOVER then 0 else if near then s.ref.otherGood + 1 else 1
  let since := if good && near then s.ref.pps0Since.getD s.ns else s.ns
  let s1 := { s with ref := { s.ref with
    otherGood := n, otherLast := s.ns, pps0Since := if s.ref.activePps = 1 && good then some since else none } }
  if 3 ≤ n then s1.ppsTakes (1 - s.ref.activePps) err else s1

/-! ## The conditions of ACQUIRE (R92) -/

/-- Time and mains acquisition start (R63, R62): the moment and the settings in force at it. -/
def State.beginAcquire (s : State) : State :=
  let s1 := { s with mode := { s.mode with
    acquireSince := s.ns, acquiring := true, acqNominal := s.getF F.TB_MAINSCFG_NOMINAL,
    acqWait := s.getF F.TB_REFCFG_ACQ_WAIT } }
  { s1 with mains := s1.mains.map fun x => (x.1, { x.2 with accepted := false }) }

/-- Three cycles of the nominal frequency in ns. -/
def State.threeCycles (s : State) : Nat := if s.mode.acqNominal = 0 then 60000000 else 50000000

def State.timeCondition (s : State) : Bool :=
  match s.refSel with
  | 0 => true
  | 4 => s.ref.state == rfLOCKED
  | _ => s.ref.state == rfLOCKED || decide (s.mode.acquireSince + s.mode.acqWait * 2000000000 ≤ s.ns)

def State.mainsCondition (s : State) : Bool :=
  (List.range 96).all fun p => !s.lineActive p || (s.tracker p).state == 2 ||
    (!(s.tracker p).accepted && decide (s.mode.acquireSince + s.threeCycles ≤ s.ns))

/-! ## An amendment of TB_REFCFG (R91) -/

/-- TB_REFCFG changed at a commit: `old` is the SEL before. -/
def State.refAmended (s : State) (old : Nat) : State :=
  let s0 := { s with ref := { s.ref with lastGood := s.ns, amendedAt := some s.ns } }
  let s1 := if s0.refSel = old then s0
    else
      let st := if s0.ref.state = rfLOCKED ∨ s0.ref.state = rfHOLDOVER then rfHOLDOVER else rfFREE
      let r := s0.ref
      { s0 with ref := { r with
          state := st, activePps := if s0.refSel = 2 then 1 else 0, good := 0, bad := 0, firstPulse := none, otherGood := 0,
          pps0Since := none, mismatchRun := 0, lastStamp := [],
          expired := r.expired && st == rfHOLDOVER,
          holdSince := if r.state = rfHOLDOVER then r.holdSince else s0.ns } }
  s1.refNotice

end Sys2Proof.Machine
end

