-- ==== Sys2Proof/Machine/Time.lean ====
section
/-! DEFINITION. The events of the time reference and of the timed event pins (R86 to R90, R104, R110). -/
namespace Sys2Proof.Machine
open Sys2Proof

/-! ## Pulses (R86, R87) -/

/-- The compensated stamp of an edge of input `i` at DT `t` (R86). -/
def State.ppsStamp (s : State) (i t : Nat) : Nat :=
  ((t : Int) - signed 16 (s.getF (if i = 0 then F.TB_PPSCOMP_DELAY0 else F.TB_PPSCOMP_DELAY1))).toNat

/-- PPS_EDGE (R86): the selected edge of an input the reference names is stamped and its cable delay taken off. A stamp is
labelled by a sentence received in an earlier tick (TOD_LABEL next) within 1 s. -/
def ppsEdge (i : Nat) (rising : Bool) (s : State) : State :=
  let named : Bool := match s.refSel with
    | 1 => i == 0
    | 2 => i == 1
    | 3 => decide (i < 2)
    | _ => false
  if !s.struct_.live || !named || rising == s.flag F.TB_REFCFG_PPS_EDGE then s
  else
    let stamp := s.ppsStamp i s.ns
    let named := (afind s.ref.labels i).filter fun x => decide (x.2 < s.ns)
    let label : Option Nat := if s.flag F.TB_REFCFG_TOD_LABEL then none
      else (named.filter fun x => decide (s.ns ≤ x.2 + 1000000000)).map (·.1)
    let s1 := { s with ref := { s.ref with
      lastStamp := aset s.ref.lastStamp i s.ns, labels := if named.isSome then adel s.ref.labels i else s.ref.labels } }
    if s.ppsNow = some i then s1.refPulse stamp label else s1.refOther stamp

/-- PPS_EDGE (R86). -/
def execPpsEdge (i : Nat) (rising : Bool) (s : State) : Result := .next (ppsEdge i rising s)

/-! ## Time of day (R86, R89) -/

/-- A decimal digit. -/
def digit (b : Byte) : Option Nat := if 48 ≤ b.toNat ∧ b.toNat ≤ 57 then some (b.toNat - 48) else none

/-- The number a run of decimal digits spells; none where a character is no digit or there is none. -/
def decimal : List Byte → Option Nat
  | [] => none
  | bs => bs.foldl (fun a b => a.bind fun n => (digit b).map fun d => 10 * n + d) (some 0)

/-- A hexadecimal digit. -/
def hexDigit (b : Byte) : Option Nat :=
  let n := b.toNat
  if 48 ≤ n ∧ n ≤ 57 then some (n - 48) else if 65 ≤ n ∧ n ≤ 70 then some (n - 55)
  else if 97 ≤ n ∧ n ≤ 102 then some (n - 87) else none

/-- The fields of a sentence between its commas. -/
def splitAt44 : List Byte → List Byte → List (List Byte)
  | acc, [] => [acc.reverse]
  | acc, b :: bs => if b = 44 then acc.reverse :: splitAt44 [] bs else splitAt44 (b :: acc) bs

/-- A sentence $...*hh CR LF with a correct NMEA 0183 checksum: its fields. -/
def nmeaFields (ch : List Byte) : Option (List (List Byte)) :=
  let body := (ch.drop 1).takeWhile (· != 42)
  let tail := (ch.drop 1).drop (body.length + 1)
  match ch.head?, tail with
  | some 36, [h, l, 13, 10] =>
    match hexDigit h, hexDigit l with
    | some x, some y => if 16 * x + y = body.foldl (fun a b => a ^^^ b.toNat) 0 then some (splitAt44 [] body) else none
    | _, _ => none
  | _, _ => none

/-- Days from 2000-01-01 to a date of the Gregorian calendar. -/
def daysFrom2000 (y m d : Nat) : Nat :=
  let leap := fun n => decide (n % 4 = 0) && (decide (n % 100 ≠ 0) || decide (n % 400 = 0))
  let years := ((List.range (y - 2000)).map fun i => if leap (2000 + i) then 366 else 365).sum
  let months := ((List.range (m - 1)).map fun i =>
    match i with
    | 1 => if leap y then 29 else 28
    | 3 => 30 | 5 => 30 | 8 => 30 | 10 => 30 | _ => 31).sum
  years + months + (d - 1)

/-- Seconds of the day of a time field hhmmss or hhmmss.ss. -/
def daySeconds (f : List Byte) : Option Nat :=
  match decimal (f.take 2), decimal ((f.drop 2).take 2), decimal ((f.drop 4).take 2) with
  | some h, some m, some s => if f.length < 6 ∨ 23 < h ∨ 59 < m ∨ 60 < s then none else some (3600 * h + 60 * m + s)
  | _, _, _ => none

/-- A day, month and year that a calendar has. -/
def dateSeconds (y m d : Nat) (sec : Nat) : Option Nat :=
  if 2000 ≤ y ∧ y ≤ 2999 ∧ 1 ≤ m ∧ m ≤ 12 ∧ 1 ≤ d ∧ d ≤ 31 then some (86400 * daysFrom2000 y m d + sec) else none

/-- The UTC second a sentence gives (R86): ZDA with its four-digit year, RMC of status other than V with 2000 + yy. -/
def sentenceSecond (ch : List Byte) : Option Nat :=
  match nmeaFields ch with
  | none => none
  | some fs =>
    let kind := (fs.getD 0 []).drop 2
    let t := daySeconds (fs.getD 1 [])
    if kind = [90, 68, 65] then
      match t, decimal (fs.getD 2 []), decimal (fs.getD 3 []), decimal (fs.getD 4 []) with
      | some s, some d, some m, some y => dateSeconds y m d s
      | _, _, _, _ => none
    else if kind = [82, 77, 67] then
      let f := fs.getD 9 []
      if fs.getD 2 [] = [86] then none
      else match t, decimal (f.take 2), decimal ((f.drop 2).take 2), decimal ((f.drop 4).take 2) with
        | some s, some d, some m, some y => if f.length = 6 then dateSeconds (2000 + y) m d s else none
        | _, _, _, _ => none
    else none

/-- The baud rates of TB_REFCFG.TOD_BAUD (R111). -/
def todBaud : Nat → Nat
  | 0 => 9600 | 1 => 4800 | 2 => 19200 | 3 => 38400 | 4 => 57600 | _ => 115200

/-- A sentence of `n` characters that ends now was in reception at the latest commit that changed TB_REFCFG (R91): its
characters, 10 bits each, follow one another at TOD_BAUD (DESIGN CHOICE, entry 139). -/
def State.todCut (s : State) (n : Nat) : Bool :=
  match s.ref.amendedAt with
  | some t => decide (s.ns ≤ t + n * 10 * 1000000000 / todBaud (s.getF F.TB_REFCFG_TOD_BAUD))
  | none => false

/-- TOD_SENTENCE (R86): a sentence whose line feed is received now labels the next pulse, or the last one if its stamp lies
within 1 s. -/
def todSentence (i : Nat) (ch : List Byte) (s : State) : State :=
  if !s.struct_.live || s.todCut ch.length then s
  else match sentenceSecond ch with
    | none => s
    | some utc =>
      let sec := utc + s.getF F.TB_UTCOFS_OFS
      if !s.flag F.TB_REFCFG_TOD_LABEL then
        { s with ref := { s.ref with labels := aset s.ref.labels i (sec, s.ns) } }
      else match afind s.ref.lastStamp i with
        | none => s
        | some t => if t + 1000000000 < s.ns ∨ s.ppsNow ≠ some i then s else s.relabel (s.ppsStamp i t) sec

/-- TOD_SENTENCE (R86). -/
def execTodSentence (i : Nat) (ch : List Byte) (s : State) : Result := .next (todSentence i ch s)

/-! ## Loss, holdover, return (R87, R90) -/

/-- REF_LOSS (R87, R106). -/
def refLoss (s : State) : State :=
  if s.refSel = 0 ∨ !s.expired (s.ref.lastGood + s.lossTime) then s
  else if s.ref.state = rfACQUIRING then s.setRefState rfFREE
  else if s.ref.state = rfLOCKED then s.setRefState rfHOLDOVER
  else s

/-- REF_LOSS (R87). -/
def execRefLoss (s : State) : Result := .next (refLoss s)

/-- HOLDOVER_EXPIRED (R90). -/
def holdoverExpired (s : State) : State :=
  if s.ref.state = rfHOLDOVER ∧ !s.ref.expired ∧ s.ref.holdSince + s.getF F.TB_HOLDCFG_LIMIT * 60000000000 ≤ s.ns then
    ({ s with ref := { s.ref with expired := true } } : State).notice ncHOLDOVER_EXPIRED 0 []
  else s

/-- HOLDOVER_EXPIRED (R90). -/
def execHoldoverExpired (s : State) : Result := .next (holdoverExpired s)

/-- PPS0_RETURN (R87): after 60 s of accepted pulses the reference returns to PPS_IN[0], its state unchanged. -/
def pps0Return (s : State) : State :=
  match s.ref.pps0Since with
  | some t =>
    if s.refSel = 3 ∧ s.ref.activePps = 1 ∧ s.ref.state = rfLOCKED ∧ t + 60000000000 ≤ s.ns ∧
        s.ns ≤ s.ref.otherLast + 1500000000 then
      ({ s with ref := { s.ref with activePps := 0, pps0Since := none, lastGood := s.ns } } : State).refNotice
    else s
  | none => s

/-- PPS0_RETURN (R87). -/
def execPps0Return (s : State) : Result := .next (pps0Return s)

/-! ## Time cells (R87, R104, R355) -/

/-- The group a member takes time from: the one toward the master, member 0, on the shorter usable path, west on a tie. -/
def State.timeGroup (s : State) : Option Nat :=
  let e := s.eastWay s.memberNo 0
  let w := s.eastWay 0 s.memberNo
  match e.2, w.2 with
  | true, true => some (if e.1 < w.1 then 0 else 1)
  | true, false => some 0
  | false, true => some 1
  | false, false => none

/-- A time cell on a peer port (R366): the peer's DT less the device's own, corrected by the link delay, for measurement only. -/
def peerTime (g : Group) (c : TimeCell) (s : State) : State :=
  if s.benchRole = roleMEMBER ∨ !s.groupUp g then s
  else
    let d : Int := (c.dt : Int) + (aget 0 s.bench.delays g / 16 : Nat) - c.arrival
    s.setF (F.PF_TIMEOFS_OFS (g - 2)) (unsignedOf 32 (clampInt (-2147483648) 2147483647 d))

/-- A time cell on a bench group (R87, R104, R355): the sender's DT, the measured delay and the port's asymmetry give the
master's time. -/
def memberTime (g : Group) (c : TimeCell) (s : State) : State :=
  if s.benchRole ≠ roleMEMBER ∨ s.refSel ≠ 4 ∨ !s.groupUp g ∨ s.timeGroup ≠ some g.val then s
  else
    let asym := signed 16 (s.getF (if g.val = 0 then F.TB_BENCHASYM_EAST else F.TB_BENCHASYM_WEST))
    let dly := aget 0 s.bench.delays g
    let t16 : Int := (c.dt : Int) * 16 + (c.frac / 4096 : Nat) + dly + asym
    let err : Int := roundDiv ((c.arrival : Int) * 16 - t16) 16
    let moved := s.ref.side != 2 && s.ref.side != g.val
    let s1 := ({ s with ref := { s.ref with side := g.val } } : State).setF F.TB_BENCHDLY_DELAY dly
    if s1.ref.state = rfFREE then s1.refFirst err none
    else if s1.labelSteps then s1.refStep err none
    else
      let s2 := s1.refGood err
      let s3 := if moved then (s2.slewOut err).refNotice else s2
      match s3.ref.state with
      | 1 => (s3.discipline).countGood (decide (err.natAbs ≤ 5)) 8
      | 2 => s3.discipline
      | _ => (s3.countGood true 8).slewOut err

/-- TIME_CELL (R87, R355, R366). -/
def timeCell (g : Group) (c : TimeCell) (s : State) : State := if 2 ≤ g.val then peerTime g c s else memberTime g c s

/-- TIME_CELL (R87). -/
def execTimeCell (g : Group) (c : TimeCell) (s : State) : Result := .next (timeCell g c s)

/-! ## Event pins (R110) -/

/-- EVENT_CAPTURE (R110): an edge CAPTURE selects on an input pin. -/
def eventCapture (pin : EventPin) (rising : Bool) (s : State) : State :=
  let c := s.getF (F.TB_EVTCFG_CAPTURE pin)
  if s.struct_.live ∧ !s.flag (F.TB_EVTCFG_DIR pin) ∧ (c = 3 ∨ (c = 1 ∧ rising) ∨ (c = 2 ∧ !rising)) then
    s.notice ncEVENT_CAPTURED pin [(8, boolNat (!rising))]
  else s

/-- EVENT_CAPTURE (R110). -/
def execEventCapture (pin : EventPin) (rising : Bool) (s : State) : Result := .next (eventCapture pin rising s)

end Sys2Proof.Machine
end

