-- ==== Sys2Proof/Machine/Bench.lean ====
section
/-! DEFINITION. Lane groups and links (R346 to R361): groups into and out of UP, overhead, echo and time cells, WTR, the
performance of a second. -/
namespace Sys2Proof.Machine
open Sys2Proof

/-! ## Groups (R346, R351, R360) -/

/-- The member expected behind a bench group (R346); none behind a group a chain leaves unused. -/
def State.expected (s : State) (g : Nat) : Option Nat :=
  let m := s.memberNo
  let n := s.nmemb
  if g = 0 then (if m < n then some (m + 1) else if s.ring then some 0 else none)
  else (if 0 < m then some (m - 1) else if s.ring then some n else none)

/-- The neighbour reports what R346 asks of it. -/
def State.matches (s : State) (g : Nat) (b : Neighbour) : Bool :=
  decide (2 ≤ g) || (s.expected g == some b.member && b.prefix_ == s.ownPrefix && b.nmemb == s.nmemb)

/-- The first lane of a bench group (R347). -/
def firstLane (g : Nat) : Nat := if g = 0 then 0 else 16

/-- LOCK, INFRAME and INMF of a lane of a bench group. -/
def State.laneState (s : State) (g l v : Nat) : State :=
  if 2 ≤ g ∨ 16 ≤ l then s else s.setF ⟨F.BN_LANESTAT (firstLane g + l), 2, 0⟩ v

/-- The LINKMAP bits an overhead changes, but for the own one (R358). -/
def State.takeMap (s : State) (g map : Nat) : State :=
  let old := aget 0 s.bench.maps g
  let s1 := { s with bench := { s.bench with maps := aset s.bench.maps g map } }
  if 2 ≤ g then s
  else (List.range (s.nmemb + 1)).foldl (fun a m =>
    if m = s.memberNo ∨ map / 2 ^ m % 2 = old / 2 ^ m % 2 then a else a.setLink m (map / 2 ^ m % 2 == 1)) s1

/-- The neighbour's RDI (R349, R358). -/
def State.takeRdi (s : State) (g : Nat) (rdi : Bool) : State :=
  if 2 ≤ g then s
  else
    let s1 := s.setF (F.BN_GRPSTAT_RDI_RX g) (boolNat rdi)
    if g = 0 then s1.ownLink else s1

/-- The lanes of a group are aligned; the measured skew is shown. -/
def State.groupLocked (s : State) (g : Nat) (b : Neighbour) : State :=
  let s1 := (List.range (s.groupLanes g)).foldl (fun a l => a.laneState g l 7) s
  if 2 ≤ g then s1 else s1.setF (F.BN_GRPSTAT_SKEW g) (min 511 b.skew)

/-- The group is refused for its neighbour (R346): one BENCH_MISMATCH. -/
def State.groupMismatch (s : State) (g : Nat) (b : Neighbour) : State :=
  if s.flag (F.BN_GRPSTAT_MISMATCH g) then s.setGroup g 1 5
  else ((s.setF (F.BN_GRPSTAT_MISMATCH g) 1).notice ncBENCH_MISMATCH g
    [(8, g), (8, b.member), (16, b.prefix_), (8, b.nmemb)]).setGroup g 1 5

/-- GROUP_UP (R346, R351): skew in units of 6.4 ns, at most 320 ns. -/
def groupUpEvent (g : Group) (b : Neighbour) (s : State) : State :=
  if !s.groupEnabled g then s
  else
    let s1 := s.groupLocked g b
    if !s1.matches g b then s1.groupMismatch g b
    else
      let s2 := if g.val < 2 then s1.setF (F.BN_GRPSTAT_MISMATCH g) 0 else s1
      if 50 < b.skew then s2.setGroup g 1 2
      else if b.lanes ≠ s2.groupLanes g then s2.setGroup g 1 4
      else ((s2.setGroup g 2 0).takeRdi g b.rdi).takeMap g b.linkmap.toNat

/-- GROUP_UP (R351). -/
def execGroupUp (g : Group) (neighbour : Neighbour) (s : State) : Result := .next (groupUpEvent g neighbour s)

end Sys2Proof.Machine

namespace Sys2Proof

/-- The number of a condition of UP in the order R351 lists them; alignment of every lane is the first. -/
def LaneFail.cond : LaneFail → Nat
  | .lock => 1 | .frame => 1 | .multiframe => 1 | .skew => 2 | .index => 3 | .count => 4

/-- What of LOCK, INFRAME and INMF is left of a lane (R348, R350). -/
def LaneFail.left : LaneFail → Nat
  | .lock => 0 | .frame => 1 | .multiframe => 3 | .skew => 7 | .index => 7 | .count => 7

end Sys2Proof

namespace Sys2Proof.Machine
open Sys2Proof

/-- GROUP_DOWN (R351, R360): every message still being reassembled is lost. -/
def groupDown (g : Group) (lane : Nat) (why : LaneFail) (lost : Nat) (s : State) : State :=
  let s1 := s.laneState g lane why.left
  if !s1.groupUp g then s1
  else (if g.val < 2 then s1.bump (F.BN_GRPERR_MSGLOST g) lost else s1).setGroup g 1 why.cond

/-- GROUP_DOWN (R360). -/
def execGroupDown (g : Group) (lane : Nat) (why : LaneFail) (lost : Nat) (s : State) : Result := .next (groupDown g lane why lost s)

/-! ## Frames received (R349, R350, R352, R358) -/

/-- An errored frame of a lane (R350, R361). -/
def State.erroredFrame (s : State) (g lane : Nat) : State :=
  let p := aget {} s.bench.perf g
  let sec := s.ns / 1000000000
  let q : PerfState := { p with errored := aset (p.errored.filter fun x => decide (sec < x.1 + 30)) sec (aget 0 p.errored sec + 1) }
  let s1 := { s with bench := { s.bench with perf := aset s.bench.perf g q } }
  if 2 ≤ g ∨ 16 ≤ lane then s1 else s1.bump (F.BN_LANESTAT_ERRFR (firstLane g + lane))

/-- RDI_RX (R349, R352, R358): what a received frame of a lane reports, whether it was errored, and the cells of it discarded. -/
def rdiRx (g : Group) (lane : Nat) (rdi : Bool) (linkmap : Word) (errored : Bool) (bad : Nat) (s : State) : State :=
  if s.getF (grpState g) = 0 then s
  else
    let s1 := if errored then s.erroredFrame g lane else s
    let s2 := if g.val < 2 then s1.bump (F.BN_GRPERR_CELLERR g) bad else s1
    if s2.groupUp g then (s2.takeRdi g rdi).takeMap g linkmap.toNat else s2

/-- RDI_RX (R358). -/
def execRdiRx (g : Group) (lane : Nat) (rdi : Bool) (linkmap : Word) (errored : Bool) (badCells : Nat) (s : State) : Result :=
  .next (rdiRx g lane rdi linkmap errored badCells s)

/-- WTR_EXPIRY (R358): the link has stayed usable for WTR s. -/
def wtrExpiry (m : Nat) (s : State) : State :=
  match afind s.bench.wtr m with
  | none => s
  | some t =>
    if t + s.getF F.BN_CFG_WTR * 1000000000 ≤ s.ns then
      ({ s with bench := { s.bench with wtr := s.bench.wtr.filter (·.1 != m) } } : State).refreshPaths
    else s

/-- WTR_EXPIRY (R358). -/
def execWtrExpiry (link : Nat) (s : State) : Result := .next (wtrExpiry link s)

/-! ## Time and echo (R355, R366) -/

/-- Links to the master on the shorter usable way. -/
def State.hopsFrom (s : State) (m : Nat) : Option Nat :=
  let e := s.eastWay m 0
  let w := s.eastWay 0 m
  match e.2, w.2 with
  | true, true => some (min e.1 w.1)
  | true, false => some e.1
  | false, true => some w.1
  | false, false => none

/-- Time goes out of a group (R355, R366): toward a member farther from the master, or to a peer. -/
def State.sendsTime (s : State) (g : Nat) : Bool :=
  s.groupUp g && (decide (2 ≤ g) || (match s.expected g with
    | none => false
    | some m => match s.hopsFrom s.memberNo, s.hopsFrom m with
      | some a, some b => decide (a < b)
      | _, _ => false))

/-- Overhead bytes 8 to 11 and 13 to 19 of a frame on lane `l` of a group (R349): MFI, lane and count, member, MASTER and direction, RDI
while the group is not UP (R351), PREFIX or the fabric address, NMEMB, LINKMAP (R358). -/
def State.overheadBytes (s : State) (g mfi l : Nat) : List Byte :=
  [BitVec.ofNat 8 mfi, BitVec.ofNat 8 (l + (s.groupLanes g - 1) * 16),
   BitVec.ofNat 8 (s.memberNo + boolNat (s.benchRole == roleMASTER) * 32 + min g 2 * 64), BitVec.ofNat 8 (boolNat (!s.groupUp g))] ++
    bytesLE 2 (if g < 2 then s.ownPrefix else s.getF F.PF_CFG_ADDR) ++ [BitVec.ofNat 8 s.nmemb] ++ bytesLE 4 s.bench.linkmap

/-- The frames of an MFI start on every lane of every enabled group, in one 10 µs (R349). -/
def State.sendOverhead (s : State) (mfi : Nat) : State :=
  ((List.range 6).filter fun g => s.groupEnabled g).foldl (fun a g =>
    (List.range (a.groupLanes g)).foldl (fun b l => b.emitOut (.overhead g l (b.overheadBytes g mfi l))) a) s

/-- The fixed-slot cells of a frame (R355): TIME cells at MFI 0, echo requests at MFI 50. -/
def State.fixedCells (s : State) (mfi : Nat) : State :=
  let up := (List.range 6).filter fun g => s.groupUp g
  if mfi = 0 then
    let hops := (s.hopsFrom s.memberNo).getD 0
    (up.filter fun g => s.sendsTime g).foldl (fun a g => a.emitOut (.cell g 1 [a.ns, a.frac, hops, a.ref.state])) s
  else if mfi = 50 then
    up.foldl (fun a g =>
      let n := (aget (0, 0) a.bench.echo g).1 + 1
      ({ a with bench := { a.bench with echo := aset a.bench.echo g (n % 65536, a.ns) } } : State).emitOut
        (.cell g 2 [0, n % 65536])) s
  else s

/-- MULTIFRAME (R349, R355): a frame's overhead and its fixed slots. -/
def multiframe (mfi : Nat) (s : State) : State := (s.sendOverhead mfi).fixedCells mfi

/-- MULTIFRAME (R355). -/
def execMultiframe (mfi : Nat) (s : State) : Result := .next (multiframe mfi s)

/-- ECHO_CELL (R355): a request is answered in the first frame that leaves 2 µs after it; a response gives the one-way delay,
half of round trip less turnaround, in units of 0.0625 ns. -/
def echoCell (g : Group) (c : EchoCell) (s : State) : State :=
  if !s.groupUp g then s
  else match c with
    | .request n t2 t3 => if t2 + 2000 ≤ t3 then s.emitOut (.cell g 2 [1, n, t2, t3]) else s
    | .response n t2 t3 t4 =>
      let x := aget (65536, 0) s.bench.echo g
      if x.1 ≠ n then s
      else
        let d := min (2 ^ 24 - 1) (((t4 - x.2) - (t3 - t2)) * 8)
        let s1 := { s with bench := { s.bench with delays := aset s.bench.delays g d } }
        if s.timeGroup = some g.val then s1.setF F.TB_BENCHDLY_DELAY d else s1

/-- ECHO_CELL (R355). -/
def execEchoCell (g : Group) (cell : EchoCell) (s : State) : Result := .next (echoCell g cell s)

/-! ## Performance (R361) -/

/-- The group was not UP at some time in second `t`. -/
def notUpIn (l : List (Nat × Bool)) (t : Nat) : Bool :=
  let a := t * 1000000000
  let before := l.find? fun x => decide (x.1 ≤ a)
  !(match before with
    | some x => x.2
    | none => false) || l.any fun x => !x.2 && decide (a < x.1) && decide (x.1 < a + 1000000000)

/-- Second `t` is severely errored: 30 % errored frames of the group's lanes, or not UP at some time. -/
def State.isSes (s : State) (g t : Nat) : Bool :=
  let p := aget {} s.bench.perf g
  decide (30000 * s.groupLanes g ≤ aget 0 p.errored t) || notUpIn p.changes t

def State.isEs (s : State) (g t : Nat) : Bool := s.isSes g t || aget 0 (aget {} s.bench.perf g).errored t != 0

/-- A classification is added to the counts of a bench group. -/
def State.perfCount (s : State) (g : Nat) (es ses uas unavail : Bool) : State :=
  if 2 ≤ g then s
  else ((((s.bump (F.BN_PERF_ES g) (boolNat es)).bump (F.BN_PERF_SES g) (boolNat ses)).bump (F.BN_UAS_UAS g) (boolNat uas)).setF
    (F.BN_UAS_UNAVAIL g) (boolNat unavail))

/-- PERF_SECOND (R361): the second that ended 10 s ago is classified; by then the ten from it on have ended. -/
def perfSecond (g : Group) (s : State) : State :=
  let now := s.ns / 1000000000
  let t := now - 11
  let p := aget {} s.bench.perf g
  if now < 11 ∨ p.last = some t ∨ !s.struct_.live ∨ s.groupLanes g = 0 then s
  else
    let run := (List.range 10).map fun i => s.isSes g (t + i)
    let un := if p.unavail then !(run.all fun x => !x) else run.all id
    let q : PerfState := { p with last := some t, unavail := un }
    let s1 := ({ s with bench := { s.bench with perf := aset s.bench.perf g q } } : State).perfCount g
      (!un && s.isEs g t) (!un && s.isSes g t) un un
    if un = p.unavail then s1 else s1.notice ncPERF_UAS g [(8, g), (8, boolNat un), (64, t * 1000000000)]

/-- PERF_SECOND (R361). -/
def execPerfSecond (g : Group) (s : State) : Result := .next (perfSecond g s)

end Sys2Proof.Machine
end

