-- ==== Sys2Proof/Machine/CmdOps.lean ====
section
/-! DEFINITION. How a command of a session runs (R300, R302 to R304, R72): its opcode, the refusals that precede its own
rules, FENCE; and the mode requests of MD_MODECTL (R63, R80). -/
namespace Sys2Proof.Machine
open Sys2Proof

/-! ## Opcodes (R304, chapters 13 to 15) -/
abbrev opNOP : Nat := 0x00
abbrev opREAD : Nat := 0x01
abbrev opWRITE : Nat := 0x02
abbrev opREAD_BLOCK : Nat := 0x03
abbrev opWRITE_BLOCK : Nat := 0x04
abbrev opENQUEUE : Nat := 0x05
abbrev opLAUNCH : Nat := 0x08
abbrev opLAUNCH_CANCEL : Nat := 0x09
abbrev opROUTE_INSERT : Nat := 0x0A
abbrev opROUTE_REMOVE : Nat := 0x0B
abbrev opKEY_LOAD : Nat := 0x0C
abbrev opCIPHER : Nat := 0x0D
abbrev opLOAD_IMAGE : Nat := 0x0E
abbrev opFULL_RESET : Nat := 0x0F
abbrev opTXN_OPEN : Nat := 0x20
abbrev opTXN_ADD : Nat := 0x21
abbrev opTXN_COMMIT : Nat := 0x22
abbrev opTXN_ABORT : Nat := 0x23
abbrev opTXN_STATUS : Nat := 0x24
abbrev opMEMBER_RESET : Nat := 0x30
abbrev opREMOTE_READ : Nat := 0x31
abbrev opREMOTE_WRITE : Nat := 0x32
abbrev opHANDOVER : Nat := 0x33
abbrev opLEDGER_READ : Nat := 0x40
abbrev opLEDGER_WRITE : Nat := 0x41
abbrev opFAULT_CLOSE : Nat := 0x42

/-- The session may issue privileged commands (R302). -/
def State.privileged (s : State) (n : Nat) : Bool := n == 0 || s.flag (F.HL_SESS2_PRIV n)

/-- Commands only a privileged session may issue (R302, R390). -/
def needsPriv (op : Nat) : Bool := [opKEY_LOAD, opLOAD_IMAGE, opFULL_RESET, opLEDGER_WRITE].contains op

/-- The refusal of a command before its own rules (R302, R72): an observer's, one in DRAIN, one without privilege. -/
def State.gate (s : State) (c : Cmd) (op : Nat) : Option Nat :=
  if s.benchRole = roleMEMBER ∧ !([opNOP, opREAD, opREAD_BLOCK].contains op) then some stREAD_ONLY
  else if s.mode.mode = .DRAIN ∧ !([opNOP, opREAD, opREAD_BLOCK, opFULL_RESET].contains op) then some stMODE_REFUSED
  else if needsPriv op && !s.privileged c.session.val then some stNOT_PRIVILEGED
  else none

/-- A command with FENCE waits while an earlier command of its session has not completed (R300). -/
def State.fenced (s : State) (c : Cmd) (op : Nat) : Bool :=
  c.fence && (s.host.taken.takeWhile (fun t => !t.isOf c op)).any (fun t => t.session == c.session.val && !t.done) &&
    s.host.taken.any (·.isOf c op)

/-- A command runs: it waits behind its FENCE, is refused before its own rules, or does `f`. -/
def State.command (s : State) (c : Cmd) (op : Nat) (f : State) : State :=
  if s.fenced c op then s
  else match s.gate c op with
    | some st => s.complete c op st
    | none => f

/-- A write in DRAIN of a range with MD_MODECTL in it is a mode request refused under R63: MD_STATE.REFUSED is set (R72, R80). -/
def State.requestInDrain (s : State) (c : Cmd) (op a n : Nat) : State :=
  if s.mode.mode = .DRAIN ∧ !s.fenced c op ∧ s.gate c op = some stMODE_REFUSED ∧ a ≤ F.MD_MODECTL ∧ F.MD_MODECTL < a + 4 * n then
    { s with mode := { s.mode with refused := true } }
  else s

/-- A command that writes `n` words from address `a`. -/
def State.writeCommand (s : State) (c : Cmd) (op a n : Nat) (f : State) : State :=
  if s.mode.mode = .DRAIN then (s.requestInDrain c op a n).command c op f else s.command c op f

/-- A command with a status and no result words. -/
def State.answer (x : State × Nat) (c : Cmd) (op : Nat) : State := x.1.complete c op x.2

/-! ## Mode requests (R63, R65, R80) -/

abbrev rqRUN : Nat := 7
abbrev rqQUIET : Nat := 8
abbrev rqSHADOW : Nat := 9
abbrev rqDRAIN : Nat := 10
abbrev rqFAULT_ACK : Nat := 11

/-- A request that names no transition or whose guard fails. -/
def State.modeRefused (s : State) : State × Nat :=
  ({ s with mode := { s.mode with refused := true } }, stMODE_REFUSED)

/-- The device enters RUN: it pulls TWIN_ACTIVE_N low where it has a twin. -/
def State.enterRun (s : State) (cause : Nat) : State :=
  let s1 := s.changeMode .RUN cause
  { s1 with mode := { s1.mode with twinDriven := s1.getF F.MD_BOOTCFG_TWIN_ROLE != 0, twinReleasing := false } }

/-- Entry to SHADOW: TWIN_ACTIVE_N is released once transmissions have ended. -/
def State.enterShadow (s : State) (cause : Nat) : State :=
  let s1 := s.changeMode .SHADOW cause
  ({ s1 with mode := { s1.mode with twinReleasing := s1.mode.twinDriven, lastTwin := s1.ns, twinLost := false } } : State).twinSettle

/-- TWIN_ACTIVE_N is low, pulled by either twin (R80). -/
def State.twinLine (s : State) : Bool := s.mode.twinOther || s.mode.twinDriven

/-- REQ = RUN. -/
def State.reqRun (s : State) : State × Nat :=
  if s.mode.mode = .STANDBY ∧ s.flag F.MD_BOOTCFG_HOLD_STANDBY then ((s.changeMode .ACQUIRE 0x06).beginAcquire, stOK)
  else if s.mode.mode = .QUIET ∧ (!s.twinLine ∨ s.getF F.MD_BOOTCFG_TWIN_ROLE = 0) then (s.enterRun 0x06, stOK)
  else s.modeRefused

/-- REQ = QUIET (R64). DESIGN CHOICE (log entry 72): the device releases TWIN_ACTIVE_N once its last transmission has ended, as on
entry to SHADOW and DRAIN, so that the guard of the way back (R63) can hold. -/
def State.reqQuiet (s : State) : State × Nat :=
  if s.mode.mode = .RUN then
    let s1 := s.changeMode .QUIET 0x08
    (({ s1 with mode := { s1.mode with twinReleasing := s1.mode.twinDriven } } : State).twinSettle, stOK)
  else s.modeRefused

/-- REQ = SHADOW (R63). -/
def State.reqShadow (s : State) : State × Nat :=
  if (s.mode.mode = .RUN ∨ s.mode.mode = .QUIET) ∧ s.getF F.MD_BOOTCFG_TWIN_ROLE ≠ 0 then (s.enterShadow 0x09, stOK)
  else s.modeRefused

/-- The modes a drain can be entered from (R63): LOAD to SHADOW. -/
def Mode.canDrain : Mode → Bool
  | .OFF => false
  | .COLD => false
  | .DRAIN => false
  | .FAULT => false
  | _ => true

/-- REQ = DRAIN (R72). -/
def State.reqDrain (s : State) : State × Nat :=
  if s.mode.mode.canDrain then (s.enterDrain none, stOK) else s.modeRefused

/-- REQ = FAULT_ACK (R67): the watchdog stops. -/
def State.reqFaultAck (s : State) : State × Nat :=
  if s.mode.mode = .FAULT then ({ s with mode := { s.mode with wdogStart := none } }, stOK) else s.modeRefused

/-- A write of MD_MODECTL.REQ. -/
def State.modeRequest (s : State) (req : Nat) : State × Nat :=
  match req with
  | 7 => s.reqRun
  | 8 => s.reqQuiet
  | 9 => s.reqShadow
  | 10 => s.reqDrain
  | 11 => s.reqFaultAck
  | _ => s.modeRefused

end Sys2Proof.Machine
end

