-- ==== Sys2Proof/Machine/HostOps.lean ====
section
/-! DEFINITION. The host link as shared operations (chapter 12): windows, rings and their counts, stopping and enabling a
ring, doorbells, MSI-X. -/
namespace Sys2Proof
open Machine

/-! ## Rings (R299, R321) -/

/-- Ring kind and index in SESSION_ERROR and HL_SESSERR (R299). -/
def RingRef.kind : RingRef → Nat
  | .session _ => 0 | .notice => 1 | .dma _ => 2
def RingRef.index : RingRef → Nat
  | .session s => s.val | .notice => 0 | .dma r => r.val

/-- Word 0 of the ring's registers. -/
def RingRef.base : RingRef → Nat
  | .session s => F.HL_SESS0 s
  | .notice => F.HL_NRING0
  | .dma r => F.HL_DRING0 r

/-- EN, SIZE, and the device's count and the host's count of a ring. -/
def RingRef.en (r : RingRef) : Fld := ⟨r.base + 8, 4, 4⟩
def RingRef.size (r : RingRef) : Fld := ⟨r.base + 8, 3, 0⟩
def RingRef.counts : RingRef → Nat
  | .session s => F.HL_SESS5 s
  | .notice => F.HL_NRING5
  | .dma r => F.HL_DRING3 r
def RingRef.dev (r : RingRef) : Fld := ⟨r.counts, 15, 0⟩
def RingRef.host (r : RingRef) : Fld := ⟨r.counts, 31, 16⟩

/-- Bytes of an entry. -/
def RingRef.entry : RingRef → Nat
  | .dma _ => 32
  | _ => 64

end Sys2Proof

namespace Sys2Proof.Machine
open Sys2Proof

/-! ## Windows (R318) -/

/-- Window `w` is enabled for the access and holds the range. -/
def State.winHolds (s : State) (w lo len : Nat) (wr : Bool) : Bool :=
  s.flag (if wr then F.HL_WIN0_WR w else F.HL_WIN0_RD w) &&
    decide (s.getF (F.HL_WIN0_BASE_LO w) * 4096 + s.getF (F.HL_WIN1_BASE_HI w) * 2 ^ 32 ≤ lo) &&
    decide (lo + len ≤ s.getF (F.HL_WIN2_LIMIT_LO w) * 4096 + 4096 + s.getF (F.HL_WIN3_LIMIT_HI w) * 2 ^ 32)

/-- A range of host memory lies wholly inside one enabled window that has the access. -/
def State.hostOk (s : State) (lo len : Nat) (wr : Bool) : Bool := (List.range 32).any fun w => s.winHolds w lo len wr

/-! ## Rings: their state (R299, R318) -/

def State.ringSlots (s : State) (r : RingRef) : Nat := 16 * 2 ^ s.getF r.size

/-- The host address of entry `i`. -/
def State.ringAddr (s : State) (r : RingRef) (i : Nat) : Nat :=
  (s.word r.base).toNat + (s.word (r.base + 4)).toNat * 2 ^ 32 + r.entry * (i % s.ringSlots r)

/-- The write-back address of a session or of the notice ring. -/
def State.ringWb (s : State) (r : RingRef) : Nat := (s.word (r.base + 12)).toNat + (s.word (r.base + 16)).toNat * 2 ^ 32

/-- The window checks of a ring at its enable (R318): entries read, written, or, for DMA, both; the write-back written. -/
def State.ringOk (s : State) (r : RingRef) : Bool :=
  let lo := s.ringAddr r 0
  let n := r.entry * s.ringSlots r
  match r with
  | .session _ => s.hostOk lo n false && s.hostOk (s.ringWb r) 4 true
  | .notice => s.hostOk lo n true && s.hostOk (s.ringWb r) 4 true
  | .dma _ => s.hostOk lo n false && s.hostOk lo n true

def State.ringOn (s : State) (r : RingRef) : Bool := s.flag r.en

/-- A peripheral names DMA ring `r`: a card port, enabled or not (R273: PORT_OFF), or the ledger dump (R270, R389). -/
def State.periph (s : State) (r : Nat) : Bool :=
  r == s.getF F.SV_CFG_RING || (List.range 8).any fun k => s.getF (F.CX_CARDCFG_RING k) == r

/-! ## Errors of a ring (R299, R318, R320) -/

/-- HL_SESSERR and one SESSION_ERROR with the ring kind, the index and a count. -/
def State.sessionError (s : State) (r : RingRef) (count : Nat) : State :=
  (((s.bump F.HL_SESSERR_COUNT).setF F.HL_SESSERR_KIND r.kind).setF F.HL_SESSERR_INDEX r.index).notice ncSESSION_ERROR
    r.index [(8, r.kind), (8, r.index), (16, count % 65536)]

def State.dmaRing (s : State) (r : Nat) : RingState := aget {} s.host.rings r
def State.setDmaRing (s : State) (r : Nat) (x : RingState) : State :=
  { s with host := { s.host with rings := aset s.host.rings r x } }

/-- EN of a ring cleared: what was fetched ahead is dropped; the descriptor in progress goes on (R321). -/
def State.ringOff (s : State) (r : RingRef) : State :=
  let s1 := s.setF r.en 0
  match r with
  | .dma n => (s1.setDmaRing n { s1.dmaRing n with fetched := [], stopped := false }).readEnd (.fetch n)
  | _ => s1

/-- A ring stops on a failed access at a count. -/
def State.ringStop (s : State) (r : RingRef) (count : Nat) : State := (s.ringOff r).sessionError r count

/-! ## MSI-X (R294, R301) -/

/-- Mask bit of a vector: bit 0 of its vector control word, set where nothing has written it. -/
def State.masked (s : State) (v : Nat) : Bool := (aget 1 s.host.msix (4 * v + 3)).bit 0

/-- A vector is signalled; masked, or without Bus Master Enable, its pending bit is set. -/
def State.signal (s : State) (v : Nat) : State :=
  if s.masked v || !s.flag F.HL_LINKSTAT_BME || !s.linkUp then
    if s.host.pba.contains v then s else { s with host := { s.host with pba := v :: s.host.pba } }
  else s.emitOut (.msix v)

/-- Pending vectors that are no longer masked are sent. -/
def State.sendPending (s : State) : State :=
  s.host.pba.foldl (fun a v =>
    if a.masked v || !a.flag F.HL_LINKSTAT_BME || !a.linkUp then a
    else ({ a with host := { a.host with pba := a.host.pba.filter (· != v) } } : State).emitOut (.msix v)) s

/-- A word of the MSI-X table written. -/
def State.setMsix (s : State) (i : Nat) (v : Word) : State :=
  ({ s with host := { s.host with msix := aset s.host.msix i v } } : State).sendPending

/-! ## Enabling (R318, R321, R63) -/

/-- The MODE_CHANGE owed to the first enable of the notice ring after a full reset (R63). -/
def State.firstNotice (s : State) : State :=
  if s.mode.firstNoticeOwed then
    ({ s with mode := { s.mode with firstNoticeOwed := false } } : State).notice ncMODE_CHANGE 0
      [(8, s.mode.prev), (8, s.mode.mode.num), (8, 0)]
  else s

/-- EN of a ring written: an enable is checked and starts C and P from zero. The status. -/
def State.ringEn (s : State) (r : RingRef) (on_ : Bool) : State × Nat :=
  if on_ == s.ringOn r then (s, stOK)
  else if !on_ then (s.ringOff r, stOK)
  else if !s.ringOk r then (s, stWINDOW_VIOLATION)
  else
    let s1 := (s.setWord r.counts 0).setF r.en 1
    match r with
    | .notice => (s1.firstNotice, stOK)
    | _ => (s1, stOK)

/-! ## Doorbells (R299) -/

/-- A doorbell with a count: recorded, or ignored as a session error. -/
def State.doorbell (s : State) (r : RingRef) (count : Nat) : State × Bool :=
  let c := count % 65536
  let held := match r with
    | .notice => (s.getF r.dev + 65536 - c) % 65536
    | _ => (c + 65536 - s.getF r.dev) % 65536
  if !s.ringOn r ∨ s.ringSlots r < held then (s.sessionError r c, false)
  else (s.setF r.host c, true)

/-! ## Write-back (R300, R301) -/

/-- The device's count of a session or of the notice ring goes to its write-back address; true where the check failed. -/
def State.writeWb (s : State) (r : RingRef) : State × Bool :=
  if s.hostOk (s.ringWb r) 4 true then (s.emitOut (.hostWrite (s.ringWb r) (bytesLE 4 (s.getF r.dev))), false) else (s, true)

end Sys2Proof.Machine
end

