-- ==== Sys2Proof/Machine/Service.lean ====
section
/-! DEFINITION. The service ledger and the tag (chapter 15): the ledger commands, claims and programming, the life counters,
and the ISO/IEC 15693 commands of the field. -/
namespace Sys2Proof.Machine
open Sys2Proof

/-! ## Reading a block (R387) -/

/-- A read of a block: invalid copies are counted in SV_LDGSTAT.BADCOPY; where no copy is valid a LEDGER record is written.
Data and sequence byte, none without a valid copy. -/
def State.lget (s : State) (b : Nat) : State × Option (List Byte × Nat) :=
  let bad := boolNat (!(s.lcopy b 0).valid) + boolNat (!(s.lcopy b 1).valid)
  let s1 := if bad = 0 then s else s.bump F.SV_LDGSTAT_BADCOPY bad
  match s1.lread b with
  | some x => (s1, some x)
  | none => (if s.mode.mode = .OFF then s1 else (s1.report 9 0xA b b).1, none)

/-- Blocks the host may read: 80 to 383 are reserved (R386). -/
def hostBlock (b : Nat) : Bool := decide (b < 80) || (decide (384 ≤ b) && decide (b < 512))

/-- A LEDGER_READ takes its data (R387, R390). -/
def State.readFor (s : State) (c : Cmd) (b : Nat) : State :=
  match s.lget b with
  | (s1, some (d, n)) => s1.complete c opLEDGER_READ stOK (wordsOfBytes d ++ [BitVec.ofNat 32 n])
  | (s1, none) => s1.complete c opLEDGER_READ stLEDGER_FAIL

/-- A host access waits for a held block (R388). -/
def State.lwait (s : State) (c : Cmd) (b : Nat) (w : Option (List Byte)) : State :=
  { s with service := { s.service with
      waits := s.service.waits ++ [{ block := b, cmd := c, write := w, since := s.ns }] } }

/-- LEDGER_READ (R388, R390). -/
def State.ledgerRead (s : State) (c : Cmd) (b : Nat) : State :=
  if !hostBlock b then s.complete c opLEDGER_READ stLEDGER_RANGE
  else if (s.lclaim b).isSome then s.lwait c b none
  else s.readFor c b

/-- LEDGER_READ (R390). -/
def execLedgerRead (c : Cmd) (b : Nat) (s : State) : Result := .next (s.command c opLEDGER_READ (s.ledgerRead c b))

/-- LEDGER_WRITE (R388, R390): the block's 32 bytes; it completes when the copy has verified. -/
def State.ledgerWrite (s : State) (c : Cmd) (b : Nat) (d : List Byte) : State :=
  if 512 ≤ b then s.complete c opLEDGER_WRITE stLEDGER_RANGE
  else if b < 384 then s.complete c opLEDGER_WRITE stLEDGER_ACCESS
  else if (s.lclaim b).isSome then s.lwait c b (some d)
  else s.lbegin { block := b, data := d, cmd := some c }

/-- LEDGER_WRITE (R390). -/
def execLedgerWrite (c : Cmd) (b : Nat) (data : List Word) (s : State) : Result :=
  .next (s.command c opLEDGER_WRITE (s.ledgerWrite c b (bytesOfWords ((List.range 8).map (wordAt data)))))

/-! ## Programming (R387, R388) -/

/-- A claim has ended: the host accesses that waited for the block are served in order up to the first write. -/
def State.lserve (s : State) (b : Nat) : List LedgerWait → State
  | [] => s
  | w :: rest =>
    if w.block ≠ b then s.lserve b rest
    else
      let s1 := { s with service := { s.service with waits := s.service.waits.erase w } }
      match w.write with
      | some d => s1.lbegin { block := b, data := d, cmd := some w.cmd }
      | none => (s1.readFor w.cmd b).lserve b rest

/-- The access that held block `b` has ended. -/
def State.lrelease (s : State) (b : Nat) : State :=
  if s.service.writes.any (·.block == b) then s
  else
    let s1 := { s with service := { s.service with claims := adel s.service.claims b } }
    s1.lserve b s1.service.waits

/-- A notice, where the device is powered. -/
def State.noticeOn (s : State) (code unit : Nat) (payload : List (Nat × Nat)) : State :=
  if s.mode.mode = .OFF then s else s.notice code unit payload

/-- A response of the tag. -/
def State.fieldOut (s : State) (b : List Byte) : State := s.emitOut (.field b)
/-- An error response: flags with the error bit, and the code. -/
def State.fieldErr (s : State) (e : Nat) : State := s.fieldOut [1, BitVec.ofNat 8 e]

/-- A write has ended: its operation leaves and its claim ends. -/
def State.lend (s : State) (op : LedgerWriteOp) : State :=
  ({ s with service := { s.service with writes := s.service.writes.erase op } } : State).lrelease op.block

/-- A copy verified: the block takes its new content (R387). -/
def State.programmed (s : State) (op : LedgerWriteOp) : State :=
  let t := s.ltarget op.block
  let s1 := s.setLcopy op.block t.1 { data := op.data, seq := t.2, valid := true }
  let s2 := match op.cmd with
    | some c => s1.complete c opLEDGER_WRITE stOK [BitVec.ofNat 32 t.2]
    | none => s1
  let s3 := if op.field then (s2.fieldOut [0]).noticeOn ncFIELD_WRITE op.block [(16, op.block), (8, t.2)] else s2
  s3.lend op

/-- A second failure ends the write (R387). -/
def State.programFailed (s : State) (op : LedgerWriteOp) : State :=
  let s1 := s.bump F.SV_LDGSTAT_FAILS
  let s2 := (if s.mode.mode = .OFF then s1 else (s1.report 9 0xA op.block op.block).1).noticeOn ncLEDGER_FAIL op.block
    [(16, op.block)]
  let s3 := match op.cmd with
    | some c => s2.complete c opLEDGER_WRITE stLEDGER_FAIL
    | none => s2
  (if op.field then s3.fieldErr 0x0F else s3).lend op

/-- LEDGER_PROGRAMMED (R387): the copy in programming is verified; after a failure it is programmed once more. -/
def ledgerProgrammed (b : LedgerBlock) (ok : Bool) (s : State) : State :=
  match s.service.writes.find? (·.block == b.val) with
  | none => s
  | some op =>
    if ok then s.programmed op
    else
      let t := s.ltarget b
      let s1 := s.setLcopy b t.1 { s.lcopy b t.1 with valid := false }
      if op.tries = 0 then
        { s1 with service := { s1.service with writes := s1.service.writes.map fun o => if o = op then { o with tries := 1 } else o } }
      else s1.programFailed op

/-- LEDGER_PROGRAMMED (R387). -/
def execLedgerProgrammed (b : LedgerBlock) (ok : Bool) (s : State) : Result := .next (ledgerProgrammed b ok s)

/-- LEDGER_CLAIM_TIMEOUT (R388): the oldest access that has waited 10 ms for a field-held block. -/
def ledgerClaimTimeout (b : LedgerBlock) (s : State) : State :=
  match s.service.waits.find? (fun w => w.block == b.val && decide (w.since + 10000000 ≤ s.ns)) with
  | none => s
  | some w =>
    if s.lclaim b ≠ some .field then s
    else
      (({ s with service := { s.service with waits := s.service.waits.erase w } } : State).bump F.SV_CNT_BUSY).complete w.cmd
        (if w.write.isSome then opLEDGER_WRITE else opLEDGER_READ) stSV_BUSY

/-- LEDGER_CLAIM_TIMEOUT (R388). -/
def execLedgerClaimTimeout (b : LedgerBlock) (s : State) : Result := .next (ledgerClaimTimeout b s)

/-! ## Life counters (R386) -/

/-- AON cycles of an hour of powered time (R28). -/
abbrev hourCycles : Nat := 3600 * 32768

/-- The 32-bit number at byte `4 i` of the life-counter blocks 10 to 15. -/
def State.lifeWord (s : State) (i : Nat) : Nat :=
  match s.lread (10 + i / 8) with
  | some (d, _) => natLE ((d.drop (4 * (i % 8))).take 4)
  | none => 0

/-- The life counters after an update: powered hours, full resets by cause 1 to 4, FAULT entries, units retired per kind 0
to 6, SEQ of the newest ledger record; the counts since the last update are added. -/
def State.lifeCounts (s : State) : List Nat :=
  let add := fun i n => s.lifeWord i + n
  [add 0 1] ++ (List.range 4).map (fun i => add (1 + i) (aget 0 s.service.resets (i + 1))) ++ [add 5 s.service.faultEntries] ++
  (List.range 7).map (fun i => add (6 + i) (aget 0 s.service.retirements i)) ++ [s.service.ledgerSeq]

/-- LIFE_COUNTER_UPDATE (R386): at each whole hour of powered time. -/
def lifeCounterUpdate (s : State) : State :=
  if s.mode.mode = .OFF ∨ aonCount s.tick < aonCount s.service.powered + (s.service.lifeHour + 1) * hourCycles then s
  else
    let b := (s.lifeCounts.map (bytesLE 4)).flatten
    let s1 : State := { s with service := { s.service with
      lifeHour := s.service.lifeHour + 1, resets := [], faultEntries := 0, retirements := [] } }
    (List.range 6).foldl (fun a i =>
      let d := (b.drop (32 * i)).take 32
      a.lupdate (10 + i) (d ++ List.replicate (32 - d.length) 0)) s1

/-- LIFE_COUNTER_UPDATE (R386). -/
def execLifeCounterUpdate (s : State) : Result := .next (lifeCounterUpdate s)

/-! ## The field (R385, R388, R421) -/

/-- A field write the loss of its field interrupts leaves its copy invalid (R387); its claim ends. -/
def State.fieldGone (s : State) : State :=
  (s.service.writes.filter (·.field)).foldl (fun a op =>
    let t := a.ltarget op.block
    (a.setLcopy op.block t.1 { a.lcopy op.block t.1 with valid := false }).lend op)
    { s with service := { s.service with tag := .ready } }

/-- FIELD_STATE (R388): the field appears or is removed. -/
def fieldState (present : Bool) (s : State) : State :=
  let s1 := s.setF F.SV_STAT_FIELD (boolNat present)
  (if present then s1 else s1.fieldGone).noticeOn ncFIELD_STATE 0 [(8, boolNat present)]

/-- FIELD_STATE (R388). -/
def execFieldState (present : Bool) (s : State) : Result := .next (fieldState present s)


/-- The tag acts on a request other than an inventory (R385): one subcarrier, and addressed to it, to a selected tag, or to
any tag that is not quiet. -/
def State.hears (s : State) (f : FieldCmd) : Bool :=
  !f.twoSubcarriers &&
    (if f.selectFlag then s.service.tag == .selected
     else if f.addressed then f.uid == tagUid
     else s.service.tag != .quiet)

/-- A field command runs where the tag hears it. -/
def State.fieldCmd (s : State) (f : FieldCmd) (g : State) : State := if s.hears f then g else s

/-- The host's claim of a block that it has made in this core tick: a field claim of the tick comes before it (R29). -/
def State.claimNow (s : State) (b : Nat) : Option LedgerWriteOp :=
  s.service.writes.find? fun o => o.block == b && !o.field && o.tick == s.tick && o.tries == 0

/-- The host holds a block against the field. -/
def State.hostHolds (s : State) (b : Nat) : Bool := s.lclaim b == some .host && (s.claimNow b).isNone

/-- The error that stops a field access to a block (R385 to R388): a block the command cannot name or a reserved one, a block
the host holds (counted in SV_CNT.LOCKED). -/
def State.blockErr (s : State) (b limit : Nat) : Option Nat :=
  if limit ≤ b ∨ (80 ≤ b ∧ b < 384) then some 0x10 else if s.hostHolds b then some 0x12 else none

def State.countLocked (s : State) (l : List Nat) : State := if l.any s.hostHolds then s.bump F.SV_CNT_LOCKED else s

/-- A host claim of this tick yields to the field (R29): a command waits as for a field-held block, the device's own update
retries. -/
def State.yieldClaim (s : State) (b : Nat) : State :=
  match s.claimNow b with
  | none => s
  | some o =>
    let s1 : State := { s with service := { s.service with writes := s.service.writes.erase o } }
    match o.cmd with
    | some c => s1.lwait c b (some o.data)
    | none => s1.lretry b o.data

/-- The answer to a read of blocks (R385, R387): flags 00 and each block's 32 bytes, after its security status where asked. -/
def State.readBlocks (s : State) (opt : Bool) : List Nat → List Byte → State
  | [], acc => s.fieldOut (0 :: acc)
  | b :: rest, acc => match s.lget b with
    | (s1, some (d, _)) => s1.readBlocks opt rest (acc ++ (if opt then [0] else []) ++ d)
    | (s1, none) => s1.fieldErr 0x0F

/-- A field read of `n` blocks from `b`, up to block `limit - 1`. -/
def State.fieldRead (s : State) (f : FieldCmd) (b n limit : Nat) : State :=
  let l := (List.range n).map (b + ·)
  if n = 0 ∨ 8 < n then s.fieldErr 0x10
  else match l.findSome? (s.blockErr · limit) with
    | some e => (if e = 0x12 then s.countLocked l else s).fieldErr e
    | none => s.readBlocks f.option l []

/-- A field write of a block (R386 to R388, R421): the errors, or the claim and the programming. -/
def State.fieldWrite (s : State) (f : FieldCmd) (b : Nat) (d : List Byte) (limit : Nat) : State :=
  if s.mode.mode = .OFF ∧ f.weak then s.fieldErr 0x0F
  else if b < 80 then s.fieldErr 0x12
  else match s.blockErr b limit with
    | some e => (if e = 0x12 then s.countLocked [b] else s).fieldErr e
    | none => if s.flag F.SV_CFG_FIELD_WR then (s.yieldClaim b).lbegin { block := b, data := d, field := true } else s.fieldErr 0x12

/-- INVENTORY (R385): answered unless the tag is quiet, where AFI and mask match. -/
def execInventory (f : FieldCmd) (s : State) : Result :=
  let afi := match f.afi with
    | some a => a == 0
    | none => true
  .next (if !f.twoSubcarriers && s.service.tag != .quiet && afi && tagUid % 2 ^ f.maskLen == f.mask % 2 ^ f.maskLen
    then s.fieldOut ([0, 0] ++ bytesLE 8 tagUid) else s)

/-- STAY_QUIET (R385): an addressed request, without an answer. -/
def execStayQuiet (f : FieldCmd) (s : State) : Result :=
  .next (if f.addressed && s.hears f then { s with service := { s.service with tag := .quiet } } else s)

/-- READ_SINGLE_BLOCK (R385): blocks 0 to 255. -/
def execReadSingleBlock (f : FieldCmd) (b : Nat) (s : State) : Result := .next (s.fieldCmd f (s.fieldRead f b 1 256))

/-- WRITE_SINGLE_BLOCK (R385, R388): blocks 0 to 255. -/
def execWriteSingleBlock (f : FieldCmd) (b : Nat) (d : List Byte) (s : State) : Result :=
  .next (s.fieldCmd f (s.fieldWrite f b d 256))

/-- READ_MULTIPLE_BLOCKS (R385): up to 8 of blocks 0 to 255. -/
def execReadMultipleBlocks (f : FieldCmd) (b n : Nat) (s : State) : Result := .next (s.fieldCmd f (s.fieldRead f b n 256))

/-- SELECT (R385): the addressed tag is selected; another one that was selected is ready again. -/
def execSelect (f : FieldCmd) (s : State) : Result :=
  .next (if f.twoSubcarriers || !f.addressed then s
    else if f.uid = tagUid then ({ s with service := { s.service with tag := .selected } } : State).fieldOut [0]
    else if s.service.tag = .selected then { s with service := { s.service with tag := .ready } }
    else s)

/-- RESET_TO_READY (R385). -/
def execResetToReady (f : FieldCmd) (s : State) : Result :=
  .next (s.fieldCmd f (({ s with service := { s.service with tag := .ready } } : State).fieldOut [0]))

/-- MD_ID.STEPPING, the IC reference. -/
def State.icRef (s : State) : Byte := BitVec.ofNat 8 (s.getF F.MD_ID_STEPPING)

/-- GET_SYSTEM_INFORMATION (R385): DSFID, AFI, blocks less one, block size less one, IC reference. The standard answer has one
byte for the number of blocks: its low byte. -/
def execGetSystemInformation (f : FieldCmd) (s : State) : Result :=
  .next (s.fieldCmd f (s.fieldOut ([0, 0x0F] ++ bytesLE 8 tagUid ++ [0, 0, 0xFF, 31, s.icRef])))

/-- EXTENDED_READ_SINGLE_BLOCK (R385). -/
def execExtendedReadSingleBlock (f : FieldCmd) (b : Nat) (s : State) : Result := .next (s.fieldCmd f (s.fieldRead f b 1 512))

/-- EXTENDED_WRITE_SINGLE_BLOCK (R388). -/
def execExtendedWriteSingleBlock (f : FieldCmd) (b : Nat) (d : List Byte) (s : State) : Result :=
  .next (s.fieldCmd f (s.fieldWrite f b d 512))

/-- EXTENDED_READ_MULTIPLE_BLOCKS (R385). -/
def execExtendedReadMultipleBlocks (f : FieldCmd) (b n : Nat) (s : State) : Result :=
  .next (s.fieldCmd f (s.fieldRead f b n 512))

/-- EXTENDED_GET_SYSTEM_INFORMATION (R385): the fields asked for among DSFID, AFI, memory size and IC reference. -/
def execExtendedGetSystemInformation (f : FieldCmd) (s : State) : Result :=
  let on_ := fun i => f.fields / 2 ^ i % 2 == 1
  .next (s.fieldCmd f (s.fieldOut ([0, BitVec.ofNat 8 (f.fields % 16)] ++ bytesLE 8 tagUid ++
    (if on_ 0 then [0] else []) ++ (if on_ 1 then [0] else []) ++ (if on_ 2 then bytesLE 2 511 ++ [31] else []) ++
    (if on_ 3 then [s.icRef] else []))))

/-- UNSUPPORTED_FIELD_COMMAND (R385): lock commands and every other: error 0x01. -/
def execUnsupportedFieldCommand (f : FieldCmd) (_code : Nat) (s : State) : Result := .next (s.fieldCmd f (s.fieldErr 0x01))

end Sys2Proof.Machine
end

