-- ==== Sys2Proof/Machine/Dma.lean ====
section
/-! DEFINITION. DMA rings (R314 to R320): fetching descriptors, starting and completing them, the kinds, and the ledger dump
(R389). -/
namespace Sys2Proof.Machine
open Sys2Proof

/-- The ring `r` of a DMA ring number. -/
def dmaRef (r : Nat) : RingRef := .dma (Fin.ofNat 256 r)

/-- The status with which a descriptor completes before a byte moves (R302, R315, R318). -/
def State.descRefused (s : State) (r : Nat) (d : List Word) : Option Nat :=
  if s.benchRole = roleMEMBER then some stREAD_ONLY
  else if !dValid d || (s.periph r != (dKind d == 2)) then some stINVALID_VALUE
  else if !s.hostOk (dAddr d) (dLen d) (dKind d == 1) then some stWINDOW_VIOLATION
  else if dKind d == 2 && !s.hostOk (dRespAddr d) (dRespLen d) true then some stWINDOW_VIOLATION
  else none

/-- The descriptor at C is written back, C advances, the ring's vector is signalled where INT is set (R315). -/
def State.writeDesc (s : State) (r : Nat) (d : List Word) (moved st : Nat) : State :=
  let ring := dmaRef r
  let a := s.ringAddr ring (s.getF ring.dev)
  if !s.hostOk a 32 true then s.ringStop ring (s.getF ring.dev)
  else
    let s1 := (s.emitOut (.hostWrite (a + 16) (bytesLE 4 moved ++ bytesLE 4 st))).emitOut
      (.hostWrite a (bytesLE 4 ((wordAt d 0).setField 31 31 0).toNat))
    let s2 := (s1.setF ring.dev (s1.getF ring.dev + 1)).bump (if st = stOK then F.HL_DRING4_DONE r else F.HL_DRING4_ERRORS r)
    if dInt d then s2.signal (s2.getF (F.HL_DRING2_VECTOR r)) else s2

/-- The ring's next descriptor, if none is in progress and one may start (R315, R72); one that is refused completes. The read of a
TO_QUEUE buffer is issued as its descriptor starts (R316, R22). -/
def State.dmaNext (s : State) (r : Nat) : State :=
  let x := s.dmaRing r
  match x.run, x.fetched with
  | none, d :: rest =>
    if s.mode.mode = .DRAIN ∨ !s.linkUp then s
    else match s.descRefused r d.words with
      | some st => (s.setDmaRing r { x with fetched := rest }).writeDesc r d.words 0 st
      | none =>
        let s1 := s.setDmaRing r { x with fetched := rest, run := some { desc := d } }
        if dKind d.words = 0 then s1.readIssue (.run r) else s1
  | _, _ => s

/-- Descriptors start until one is in progress: at most 9 are held. -/
def State.dmaAdvance (s : State) (r : Nat) : State := (List.range 9).foldl (fun a _ => a.dmaNext r) s

/-- The descriptor in progress completes with a status and the bytes moved; a read it has open ends. -/
def State.dmaFinish (s : State) (r st moved : Nat) : State :=
  let x := s.dmaRing r
  match x.run with
  | none => s
  | some d => (((s.setDmaRing r { x with run := none }).readEnd (.run r)).writeDesc r d.desc.words moved st).dmaAdvance r

def State.setDmaRun (s : State) (r : Nat) (d : DescRun) : State := s.setDmaRing r { s.dmaRing r with run := some d }

/-- The descriptor in progress, where the ring can act on it: the link up and the device a bus master. -/
def State.dmaRun (s : State) (r : Nat) : Option DescRun :=
  if s.linkUp && s.flag F.HL_LINKSTAT_BME then (s.dmaRing r).run else none

/-! ## Fetching (R315, R320) -/

/-- Descriptors read one after the other; one with OWN clear stops the ring there. -/
def takeDescs : List (Nat × List Word) → List Desc × Bool
  | [] => ([], false)
  | (i, d) :: t =>
    if dOwn d then
      let x := takeDescs t
      ({ index := i, words := d } :: x.1, x.2)
    else ([], true)

/-- DESCRIPTOR_FETCH (R315): up to 8 descriptors ahead of the one in progress. Every entry is checked against the windows (R318): the
read ends before one that fails, which the next fetch meets. -/
def descriptorFetch (r : RingId) (ans : HostAnswer) (s : State) : State :=
  let ring : RingRef := .dma r
  let x := s.dmaRing r
  let at_ := s.getF ring.dev + (if x.run.isSome then 1 else 0) + x.fetched.length
  let avail := (s.getF ring.host + 131072 - at_) % 65536
  if !s.linkUp ∨ !s.flag F.HL_LINKSTAT_BME ∨ !s.ringOn ring ∨ x.stopped ∨ avail = 0 ∨ 8 ≤ x.fetched.length then s
  else s.withRead (.fetch r) fun s2 =>
      if !s2.hostOk (s2.ringAddr ring at_) 32 false then s2.ringStop ring at_
      else match ans with
        | .failed => s2.ringStop ring at_
        | .data b =>
          let ws := wordsOfBytes b
          let n0 := min (min (ceilDiv ws.length 8) avail) (8 - x.fetched.length)
          let n := ((List.range n0).takeWhile fun i => s2.hostOk (s2.ringAddr ring (at_ + i)) 32 false).length
          let got := takeDescs ((List.range n).map fun i => ((at_ + i) % 65536, (List.range 8).map fun j => wordAt ws (8 * i + j)))
          (s2.setDmaRing r { x with fetched := x.fetched ++ got.1, stopped := got.2 }).dmaAdvance r

/-- DESCRIPTOR_FETCH (R315). -/
def execDescriptorFetch (r : RingId) (ans : HostAnswer) (s : State) : Result := .next (descriptorFetch r ans s)

/-! ## TO_QUEUE (R316, R317) -/

/-- Words in pieces that a bench message can carry. -/
def benchPieces : Nat → List Word → List (List Word)
  | 0, _ => []
  | n + 1, ws => if ws.isEmpty then [] else ws.take 16128 :: benchPieces n (ws.drop 16128)

/-- A buffer for a queue of another member crosses the bench (R317): one request a piece, the descriptor waiting for their
acknowledgements. -/
def State.dmaRemote (s : State) (r : Nat) (d : DescRun) (ws : List Word) : State :=
  let w := d.desc.words
  let ps := benchPieces 17 ws
  if s.nmemb < dMember w ∨ dMember w = s.memberNo then s.dmaFinish r stNO_MEMBER 0
  else if !s.domOn domBPL then s.dmaFinish r stDOMAIN_DOWN 0
  else if s.pathTo (dMember w) = 2 then s.dmaFinish r stNO_MEMBER 0
  else
    let s1 := s.setDmaRun r { d with waiting := true, acks := ps.length, moved := 4 * ws.length }
    (List.range ps.length).foldl (fun a i =>
      (a.benchAsk (dMember w) (.enqueue r (dQueue w) (dStart w && i == 0) (ps.getD i [])) (.dma r)).1) s1

/-- A bench acknowledgement of a REMOTE piece: the first status other than OK is the descriptor's. -/
def State.dmaAck (s : State) (r st : Nat) : State :=
  match (s.dmaRing r).run with
  | none => s
  | some d =>
    let e := if d.status = stOK then st else d.status
    if d.acks ≤ 1 then s.dmaFinish r e (if e = stOK then d.moved else 0)
    else s.setDmaRun r { d with acks := d.acks - 1, status := e }

/-- DMA_TO_QUEUE (R316): the buffer is read and written into the queue. -/
def dmaToQueue (r : RingId) (ans : HostAnswer) (s : State) : State :=
  match s.dmaRun r with
  | none => s
  | some d =>
    let w := d.desc.words
    if dKind w ≠ 0 ∨ d.waiting ∨ (s.readTag (.run r)).isNone then s
    else
        let s2 := s.readEnd (.run r)
        match ans with
        | .failed => s2.dmaFinish r stDMA_ERROR 0
        | .data b =>
          let ws := (List.range (dLen w / 4)).map (wordAt (wordsOfBytes b))
          if dRemote w then s2.dmaRemote r d ws
          else
            let x := State.qStream (ws.length / 128 + 1) s2 (dQueue w) (.ring r) (dStart w) ws stOK 0
            x.1.dmaFinish r x.2.1 (4 * x.2.2)

/-- DMA_TO_QUEUE (R316). -/
def execDmaToQueue (r : RingId) (ans : HostAnswer) (s : State) : Result := .next (dmaToQueue r ans s)

/-! ## FROM_QUEUE (R316, R317, R277) -/

/-- Words of a queue as a host reader gets them: a poisoned word reads zero. -/
def State.qHostWords (s : State) (q p n : Nat) : List Word :=
  (List.range n).map fun i => if s.queues.poison.contains (s.qAddr q (p + i)) then 0 else s.qword (s.qAddr q (p + i))

/-- DMA_FROM_QUEUE (R316, R317): the complete item at R goes to host memory, and the zero-length read is issued. -/
def dmaFromQueue (r : RingId) (s : State) : State :=
  match s.dmaRun r with
  | none => s
  | some d =>
    let w := d.desc.words
    let q := dQueue w
    if dKind w ≠ 1 ∨ d.waiting ∨ !s.qUsable q then s
    else if s.qHeadLost q then (s.eccFlush q).dmaFinish r stQUEUE_ECC 0
    else match s.qItemAt q (s.qR q) with
      | none => s
      | some n =>
        if dLen w < 4 * n then s.dmaFinish r stBUFFER_SHORT 0
        else
          let b := bytesOfWords (s.qHostWords q (s.qR q) n)
          let st := if s.qPoisoned q (s.qR q) n then stQUEUE_ECC else stOK
          ((((s.qMark q).qConsume q).emitOut (.hostWrite (dAddr w) b)).setDmaRun r
            { d with moved := 4 * n, status := st, waiting := true }).readIssue (.run r)

/-- DMA_FROM_QUEUE (R316). -/
def execDmaFromQueue (r : RingId) (s : State) : Result := .next (dmaFromQueue r s)

/-- DMA_WRITE_RESPONSE (R317): the zero-length read has completed; the item is released and the descriptor written back. -/
def dmaWriteResponse (r : RingId) (s : State) : State :=
  match (s.dmaRing r).run with
  | none => s
  | some d =>
    if !d.waiting ∨ (s.readTag (.run r)).isNone then s
    else
      let s1 := s.readEnd (.run r)
      (if dKind d.desc.words = 1 then s1.qRelease (dQueue d.desc.words) else s1).dmaFinish r d.status d.moved

/-- DMA_WRITE_RESPONSE (R317). -/
def execDmaWriteResponse (r : RingId) (s : State) : Result := .next (dmaWriteResponse r s)

/-- DMA_TIMEOUT (R320): the read that the descriptor in progress has issued fails. Without an open read nothing can fail. -/
def dmaTimeout (r : RingId) (s : State) : State :=
  match (s.dmaRing r).run with
  | none => s
  | some d =>
    if (s.readTag (.run r)).isNone then s
    else
      let s1 := s.readEnd (.run r)
      (if dKind d.desc.words = 1 ∧ d.waiting then s1.qRewind (dQueue d.desc.words) else s1).dmaFinish r stDMA_ERROR 0

/-- DMA_TIMEOUT (R320). -/
def execDmaTimeout (r : RingId) (s : State) : Result := .next (dmaTimeout r s)

/-! ## EXCHANGE (R316, R319) -/

/-- The bytes written so far to the response buffer are completed under R317; the descriptor then ends with a status. Without
a byte written it ends at once. -/
def State.exchangeEnd (s : State) (r st moved : Nat) : State :=
  match (s.dmaRing r).run with
  | none => s
  | some d =>
    if moved = 0 then s.dmaFinish r st 0
    else (s.setDmaRun r { d with moved := moved, status := st, waiting := true }).readIssue (.run r)

/-- A dumped block: reserved blocks are zeros (R389); none of a block without a valid copy. -/
def State.dumpBlock (s : State) (b : Nat) : State × Option (List Byte) :=
  if !hostBlock b then (s, some (List.replicate 32 0))
  else match s.lget b with
    | (s1, some (d, _)) => (s1, some ((d ++ List.replicate 32 0).take 32))
    | (s1, none) => (s1, none)

/-- Blocks of a dump from block `b`, `n` of them, one burst each; it stops at a field-held block. -/
def State.dumpFrom (s : State) (r addr : Nat) (d : DescRun) : Nat → Nat → State
  | _, 0 => s.exchangeEnd r stOK d.moved
  | b, n + 1 =>
    if s.lclaim b = some .field then
      match d.held with
      | none => s.setDmaRun r { d with started := true, held := some s.ns }
      | some t =>
        if t + 10000000 ≤ s.ns then s.exchangeEnd r stREQUEST_WITHDRAWN d.moved
        else s.setDmaRun r { d with started := true }
    else match s.dumpBlock b with
      | (s1, none) => s1.exchangeEnd r stLEDGER_FAIL d.moved
      | (s1, some x) =>
        let d' := { d with moved := d.moved + 32, started := true, held := none }
        ((s1.emitOut (.hostWrite (addr + d.moved) x)).setDmaRun r d').dumpFrom r addr d' (b + 1) n

/-- LEDGER_DUMP (R389): `cmd` is the command buffer, read at first (R22). The event comes again while a block is field-held. -/
def ledgerDump (cmd : List Byte) (s : State) : State :=
  let r := s.getF F.SV_CFG_RING
  match s.dmaRun r with
  | none => s
  | some d =>
    let w := d.desc.words
    let first := natLE (cmd.take 2)
    let count := natLE ((cmd.drop 2).take 2)
    if dKind w ≠ 2 ∨ d.waiting then s
    else if d.started then s.dumpFrom r (dRespAddr w) d (first + d.moved / 32) (count - d.moved / 32)
    else s.withRead (.run r) fun s1 =>
      if count = 0 ∨ 512 < first + count then s1.dmaFinish r stLEDGER_RANGE 0
      else if dRespLen w < 32 * count then s1.dmaFinish r stBUFFER_SHORT 0
      else s1.dumpFrom r (dRespAddr w) d first count

/-- LEDGER_DUMP (R389). -/
def execLedgerDump (cmd : List Byte) (s : State) : Result := .next (ledgerDump cmd s)

end Sys2Proof.Machine
end

