-- ==== Sys2Proof/Machine/RegRead.lean ====
section
/-! DEFINITION. Reading the structure map (R5, R7, R394): words whose fields show state held elsewhere are put together here;
every other word reads as it is stored. -/
namespace Sys2Proof.Machine
open Sys2Proof

/-- A word whose fields, as (value, lowest bit), are given; the values fit. -/
def packed (l : List (Nat × Nat)) : Word := BitVec.ofNat 32 ((l.map fun x => x.1 * 2 ^ x.2).sum)

/-- The stored word with a field shown. -/
def shown (w : Word) (f : Fld) (v : Nat) : Word := w.setField f.hi f.lo v

/-! ## Modes and domains (R25, R80) -/

/-- The FAULT-mode watchdog's time remaining in ms, rounded up (R80). -/
def State.wdogLeft (s : State) : Nat :=
  match s.mode.wdogStart with
  | none => 0
  | some t => ceilDiv ((aonCount t + s.wdogCycles - aonCount s.tick) * 1000) 32768

def State.readMdState (s : State) : Word :=
  packed [(s.mode.mode.num, 0), (s.mode.prev, 4), (boolNat s.twinLine, 8),
    (boolNat (s.mode.mode == .STANDBY && s.flag F.MD_BOOTCFG_HOLD_STANDBY), 9), (boolNat s.mode.wdogStart.isSome, 10),
    (boolNat s.mode.refused, 11), (boolNat s.mode.defTx, 12), (s.wdogLeft % 65536, 16)]

def State.readResetCause (s : State) : Word :=
  packed [(s.mode.cause % 8, 0), (boolNat s.mode.graceful, 3), (boolNat s.mode.hostLoad, 4), (s.mode.seen % 16, 8)]

/-- MD_DOMSTATn: domains 8n to 8n + 7. -/
def State.readDomStat (s : State) (n : Nat) : Word :=
  packed ((List.range 8).map fun i => (if 8 * n + i < 44 then s.domain (8 * n + i) % 16 else 0, 4 * i))

def State.abortTag (s : State) (j : Nat) : Nat := s.domains.abortList.getD j 0 % 8192

/-! ## Faults (R393) -/

/-- The record created last, with its index. -/
def State.newestRecord (s : State) : Option (Nat × FaultRec) := s.faults.log.find? (·.2.serial == s.faults.serial)

def State.readLogPos (s : State) : Word :=
  match s.newestRecord with
  | some (i, r) => packed [(i, 0), (r.seq, 16)]
  | none => 0

def State.readAudStat (s : State) (k : Nat) : Word :=
  let a := aget {} s.faults.audits k
  packed [(a.live % 4096, 0), (a.spare % 4096, 12), (boolNat a.active, 24), (s.getF (F.FT_AUDSTAT_MISMATCH k), 25)]

def State.readLog (s : State) (i j : Nat) : Word :=
  match afind s.faults.log i with
  | some r => wordAt (r.words i) j
  | none => 0

/-! ## Time and mains (R111) -/

def State.readTbStatus (s : State) : Word :=
  packed [(s.ref.state, 0), (boolNat s.ref.timeValid, 3), (boolNat s.ref.expired, 4), (s.ppsUse, 5),
    (boolNat s.ref.rejected, 6), (boolNat (s.ref.slew != 0), 7), (boolNat s.mainsOk, 8)]

def State.readMangle (s : State) (p : Nat) : Word :=
  let t := s.tracker p
  packed [((t.fit.map fun f => f.angle s.now16).getD 0, 0), (t.state, 16)]

def State.readMfreq (s : State) (p : Nat) : Word := packed [(((s.tracker p).fit.map fun f => f.mHz).getD 0 % 2 ^ 17, 0)]

/-- DT of the last predicted rising crossing. -/
def State.lastZc (s : State) (p : Nat) : Nat := ((s.tracker p).fit.map fun f => f.crossing (f.cycle s.now16)).getD 0

/-! ## Queues, ciphers, host link, transactions -/

def State.readQstat (s : State) (a q : Nat) : Word :=
  shown (shown (s.word a) (F.QM_QSTAT_OPEN q) (boolNat (s.qst q).open_.isSome)) (F.QM_QSTAT_ORPHAN q)
    (boolNat !(s.qst q).orphans.isEmpty)

/-- Engine load over the last ms (HL_ENGSTAT.BUSY_PCT): zero at reset, then a free value from 0 to 100 of each tick. -/
def State.busyPct (s : State) : Nat := if s.tick = 0 then 0 else Config.engineLoad s.tick % 101

def Txn.slotWord (t : Txn) (j : Nat) : Word :=
  match j with
  | 0 => packed [(t.phase.num, 0), (boolNat (t.members != 0 || t.master.isSome), 3), (t.actions.length % 128, 4),
      (t.wounds % 16, 11), (t.waitAt % 128, 16), (t.gen % 128, 23)]
  | 1 => lo32 t.age.time
  | 2 => hi32 t.age.time
  | _ => packed [(t.age.frac % 65536, 0), (t.age.member % 32, 16)]

/-- Word `j` of TN_SLOTi; of a FREE slot the reset value, with the generation of its last use (R322). -/
def State.readSlot (s : State) (i j : Nat) : Word :=
  match s.txnAt i with
  | some t => t.slotWord j
  | none => if j = 0 then packed [(0x7F, 16), (aget 0 s.txn.pool.gens i % 128, 23)] else 0

/-! ## A word -/

/-- The word a read of a register returns. -/
def State.readReg (s : State) (h : RegHit) (a : Nat) : Word :=
  let i := nthD h.idx 0
  let j := nthD h.idx 1
  match h.rd.reg with
  | .MD_STATE => s.readMdState
  | .MD_RESETCAUSE => s.readResetCause
  | .MD_OPTAG => packed [(s.tags.inUse.length % 16384, 0), (s.tags.highWater % 16384, 16)]
  | .MD_DOMSTAT => s.readDomStat i
  | .MD_ABORTINFO => packed [(s.domains.abortList.length % 16384, 0), (boolNat s.domains.overflow, 15), (s.domains.epoch % 65536, 16)]
  | .MD_ABORTLIST => packed [(s.abortTag (2 * i), 0), (s.abortTag (2 * i + 1), 16)]
  | .CF_FUSEKEY => BitVec.ofNat 32 (natLE ((s.fuse.digest.drop (4 * i)).take 4))
  | .CF_FUSECTL => packed [(boolNat s.fuse.armed, 16), (boolNat s.fuse.busy, 17), (boolNat s.fuse.blown, 18), (boolNat s.fuse.refused, 19)]
  | .FT_LOGSTAT => shown (s.word a) F.FT_LOGSTAT_OPEN (s.faults.log.filter (·.2.isOpen)).length
  | .FT_LOGPOS => s.readLogPos
  | .FT_AGGSTAT => shown (s.word a) F.FT_AGGSTAT_SPANS s.notices.spans.length
  | .FT_AUDSTAT => s.readAudStat i
  | .FT_LOG => s.readLog i j
  | .TB_NOW_LO => lo32 s.ns
  | .TB_NOW_HI => hi32 s.ns
  | .TB_NOW_FRAC => BitVec.ofNat 32 s.frac
  | .TB_STATUS => s.readTbStatus
  | .TB_FREQOFS => BitVec.ofInt 32 s.ref.freqOfs
  | .TB_PHASEERR => BitVec.ofInt 32 (max (-2147483648) (min 2147483647 s.ref.phaseErr))
  | .TB_LQSTAT => shown (s.word a) F.TB_LQSTAT_PENDING s.launch.entries.length
  | .TB_MANGLE => s.readMangle i
  | .TB_MFREQ => s.readMfreq i
  | .TB_MZC_LO => lo32 (s.lastZc i)
  | .TB_MZC_HI => hi32 (s.lastZc i)
  | .PL_PORTSTAT => shown 0 (F.PL_PORTSTAT_CLIP i) (aget 0 s.plc.clip i)
  | .SC_STATUS => if s.struct_.live then packed [(boolNat s.small, 0), (s.activeLines, 8), (s.activeRf, 16)] else 0
  | .MC_ASN_LO => lo32 s.radio.asn
  | .MC_ASN_HI => BitVec.ofNat 32 (s.radio.asn / 2 ^ 32 % 256)
  | .QM_QSTAT => s.readQstat a i
  | .CX_QSTAT => shown (s.word a) F.CX_QSTAT_PENDING s.cipher.reqs.length
  | .HL_SESS2 => if i = 0 then shown (s.word a) (F.HL_SESS2_PRIV 0) 1 else s.word a
  | .HL_NSTAT => shown (s.word a) F.HL_NSTAT_BUFFERED s.notices.count
  | .HL_ENGSTAT => packed [(s.busyPct, 0), (s.host.taken.length % 512, 8)]
  | .HL_DRING2 => shown (s.word a) (F.HL_DRING2_PERIPH i) (boolNat (s.periph i))
  | .TN_STAT => shown (s.word a) F.TN_STAT_OPEN s.txn.slots.length
  | .TN_SLOT0 => s.readSlot i 0
  | .TN_SLOT1 => s.readSlot i 1
  | .TN_SLOT2 => s.readSlot i 2
  | .TN_SLOT3 => s.readSlot i 3
  | .SV_UID_LO => lo32 tagUid
  | .SV_UID_HI => hi32 tagUid
  | .QMEM => if s.queues.poison.contains i then 0 else s.qword i
  | _ => s.word a

/-- The word at a word-aligned structure address; unlisted words read zero (R305). -/
def State.readWord (s : State) (a : Nat) : Word :=
  match regAt a with
  | some h => s.readReg h a
  | none => 0

/-! ## Address ranges (R394, R305) -/

/-- The address ranges of the structure map: first address and the one past the last. -/
def mapRanges : List (Nat × Nat) :=
  [(0, 0xC000), (0x100000, 0x101600), (0x200000, 0x23F004), (0x400000, 0x7F002C), (0x800000, 0x830240), (0xC00000, 0xF02080),
   (0x1000000, 0x1081210), (0x1400000, 0x16000F0), (0x1800000, 0x1812000), (0x1A00000, 0x1A03000), (0x1C00000, 0x1C004C0),
   (0x1D00000, 0x1D01400), (0x1E00000, 0x1E0001C), (0x10000000, 0x11000000), (0x20000000, 0x20800000), (0x20800000, 0x20900000)]

/-- `n` words from `a` lie in one address range, word-aligned. -/
def inMap (a n : Nat) : Bool :=
  a % 4 == 0 && mapRanges.any fun r => decide (r.1 ≤ a) && decide (a + 4 * n ≤ r.2)

/-- A read of `n` words: the words, and whether a poisoned word of queue memory was among them (R277). -/
def State.readWords (s : State) (a n : Nat) : List Word := (List.range n).map fun i => s.readWord (a + 4 * i)

/-- The read covers a poisoned word of queue memory. -/
def State.readPoisoned (s : State) (a n : Nat) : Bool :=
  (List.range n).any fun i => decide (0x10000000 ≤ a + 4 * i) && decide (a + 4 * i < 0x11000000) &&
    s.queues.poison.contains ((a + 4 * i - 0x10000000) / 4)

end Sys2Proof.Machine
end

