-- ==== Sys2Proof/Machine/RegWrite.lean ====
section
/-! DEFINITION. Writing the structure map directly (R7 to R11, R34): the refusals of a word, what a write of it does, and the
commands and BAR0 accesses that write registers. -/
namespace Sys2Proof.Machine
open Sys2Proof

/-! ## Refusals (R11, R302, R321) -/

/-- The value a write gives a field is a defined one (R11). -/
def FieldDef.accepts (f : FieldDef) (v : Word) : Bool :=
  f.acc != .RW || f.legal.isEmpty || f.legal.any fun r => decide (r.1 ≤ v.field f.hi f.lo) && decide (v.field f.hi f.lo ≤ r.2)

/-- Registers of the host link. -/
def isHL (a : Nat) : Bool := decide (0x1800000 ≤ a) && decide (a < 0x1812000)

/-- The ring whose base or size a host-link word holds, if one. -/
def ringOfWord (r : Reg) (i : Nat) : Option RingRef :=
  match r with
  | .HL_SESS0 | .HL_SESS1 | .HL_SESS2 => some (.session (Fin.ofNat 16 i))
  | .HL_NRING0 | .HL_NRING1 | .HL_NRING2 => some .notice
  | .HL_DRING0 | .HL_DRING1 | .HL_DRING2 => some (.dma (Fin.ofNat 256 i))
  | _ => none

/-- Word 2 of a ring's registers: SIZE and EN. -/
def isRingWord2 (r : Reg) : Bool := [Reg.HL_SESS2, .HL_NRING2, .HL_DRING2].contains r

/-- The write changes the base or the size of an enabled ring (R321). -/
def State.movesRing (s : State) (h : RegHit) (a : Nat) (v : Word) : Bool :=
  match ringOfWord h.rd.reg (nthD h.idx 0) with
  | none => false
  | some r => s.ringOn r && h.rd.fields.any fun f =>
      f.acc == .RW && (!isRingWord2 h.rd.reg || f.hi == 3) && v.field f.hi f.lo != (s.word a).field f.hi f.lo

/-- The refusal of a write of one word, if it is refused. -/
def State.wordRefused (s : State) (priv : Bool) (a : Nat) (v : Word) : Option Nat :=
  match regAt a with
  | none => if isHL a && !priv then some stNOT_PRIVILEGED else none
  | some h =>
    if isHL a && !priv then some stNOT_PRIVILEGED
    else if !h.rd.fields.all (·.accepts v) then some stINVALID_VALUE
    else if h.rd.reg = .TN_BCFG ∧ 10 * v.field 7 0 ≤ v.field 15 8 then some stINVALID_VALUE
    else if s.movesRing h a v then some stINVALID_VALUE
    else none

/-- The first refusal among words written from address `a` on (R306); an unprivileged one comes first. -/
def State.wordsRefused (s : State) (priv : Bool) (a : Nat) (ws : List Word) : Option Nat :=
  if !priv && (List.range ws.length).any (fun i => isHL (a + 4 * i)) then some stNOT_PRIVILEGED
  else (List.range ws.length).findSome? fun i => s.wordRefused priv (a + 4 * i) (wordAt ws i)

/-! ## The stored word (R7 to R10) -/

/-- A field after a write of `v`: RW taken, W1C cleared by a one, a count cleared, any other kept. -/
def FieldDef.written (f : FieldDef) (old v : Word) : Word :=
  match f.acc with
  | .RW => old.setField f.hi f.lo (v.field f.hi f.lo)
  | .W1C => if v.bit f.lo then old.setField f.hi f.lo 0 else old
  | _ => if f.clear then old.setField f.hi f.lo 0 else old

/-- The stored word after a write. -/
def RegDef.written (rd : RegDef) (old v : Word) : Word := rd.fields.foldl (fun w f => f.written w v) old

/-- The word holds an ST field (R8). -/
def RegDef.structural (rd : RegDef) : Bool := rd.fields.any (·.acc == .ST)

/-! ## Fuses (R53) -/

/-- The staged digest. -/
def State.stagedDigest (s : State) : List Byte := (List.range 12).flatMap fun i => bytesLE 4 (aget 0 s.fuse.stage i).toNat

/-- The conditions of a blow. -/
def State.mayBlow (s : State) : Bool :=
  (s.mode.mode == .RUN || s.mode.mode == .STANDBY) && s.flag F.CF_STATUS_SIGNED && s.fuse.armed && !s.fuse.busy &&
    s.stagedDigest == s.struct_.keyDigest

/-- A write of CF_FUSECTL: REFUSED cleared by a one, then CODE. A write other than the two codes ends an arm. -/
def State.fuseCtl (s : State) (v : Word) : State :=
  let r := s.fuse.refused && !v.bit 19
  let code := v.field 15 0
  if code = 0xA5E1 then { s with fuse := { s.fuse with armed := true, refused := r } }
  else if code = 0xB10C then
    if s.mayBlow then { s with fuse := { s.fuse with armed := false, busy := true, refused := r, burning := s.stagedDigest } }
    else { s with fuse := { s.fuse with armed := false, refused := true } }
  else { s with fuse := { s.fuse with armed := false, refused := r } }

/-! ## Queue operations (R283, R293, R336) -/

/-- The one-bit operations of a QM_QCTL write, in the order of R293. -/
def State.qctlOps (s : State) (q : Nat) (v : Word) : State × Nat :=
  let s1 := if v.bit 1 then s.qRelease q else s
  let s2 := if v.bit 2 then s1.qMark q else s1
  let s3 := if v.bit 3 then s2.qRewind q else s2
  let x := if v.bit 4 then s3.askFlush q else (s3, stOK)
  (if v.bit 5 then (x.1.setF (F.QM_QSTAT_ORPHANS q) 0).setF (F.QM_QCFG_CORR q) 0 else x.1, x.2)

/-- A write of QM_QCTL: a refused ADVANCE, or a flush that must be refused, refuses the whole write. -/
def State.qctl (s : State) (q : Nat) (v : Word) : State × Nat :=
  if v.bit 4 && (match s.stageHolder q with | some t => t.keepsQueue | none => false) then (s, stQUEUE_BUSY)
  else if v.bit 0 then match s.qAdvance q (v.field 30 12) with
    | none => (s, stQUEUE_UNDERRUN)
    | some s1 => s1.qctlOps q v
  else s.qctlOps q v

/-! ## Writes with an effect of their own -/

/-- Capture of a line port follows EN (R127): it starts at the first output sample after the write. -/
def State.setCapture (s : State) (p : Nat) (v : Word) : State :=
  let was := s.flag (F.SC_LPCAP_EN p)
  let s1 := (s.setF (F.SC_LPCAP_QUEUE p) (v.field 13 0)).setF (F.SC_LPCAP_EN p) (boolNat (v.bit 31))
  let c := s.stream p
  if !v.bit 31 then s1.setStream p { c with capNext := none }
  else if was then s1
  else s1.setStream p { c with capNext := some (s.now16 / s.period16 p + 1), levels := [], fed := 0, regs := {} }

/-- The fields of word 0 of an endpoint entry but STATE. -/
def State.setEp0 (s : State) (e : Nat) (v : Word) : State :=
  let w := s.word (F.EP0 e)
  s.setWord (F.EP0 e) (((v.setField 1 0 (w.field 1 0)).setField 27 25 (w.field 27 25)).setField 31 28 0)

/-- A write of MD_ABORTINFO (R79, R80). -/
def State.abortClear (s : State) : State :=
  { s with domains := { s.domains with abortList := [], overflow := false, epoch := (s.domains.epoch + 1) % 65536 } }

/-- TB_STEPCTL: SET, then ACCEPT. -/
def State.stepCtl (s : State) (v : Word) : State × Nat :=
  let x := if v.bit 0 then s.stepSet else (s, stOK)
  (if v.bit 1 then x.1.stepAccept else x.1, x.2)

/-- What a write of a register's fields does, reports apart: the state and the status. -/
def State.writeReg (s : State) (h : RegHit) (a : Nat) (v : Word) : State × Nat :=
  let i := nthD h.idx 0
  let plain := s.setWord a (h.rd.written (s.word a) v)
  match h.rd.reg with
  | .MD_STATE => (if v.bit 11 then { s with mode := { s.mode with refused := false } } else s, stOK)
  | .MD_MODECTL => s.modeRequest (v.field 3 0)
  | .MD_OPTAG => (if v.bit 31 then { s with tags := { s.tags with highWater := s.tags.inUse.length } } else s, stOK)
  | .MD_ABORTINFO => (s.abortClear, stOK)
  | .CF_KEYSTAGE => ({ s with fuse := { s.fuse with stage := aset s.fuse.stage i v } }, stOK)
  | .CF_FUSECTL => (s.fuseCtl v, stOK)
  | .TB_STEPCTL => s.stepCtl v
  | .SC_LPGAIN => ((s.setRxGain i (v.field 3 0) (lineAfter s.now16)).setTxAtt i (v.field 12 8) (lineAfter s.now16), stOK)
  | .SC_LPCAP => (s.setCapture i v, stOK)
  | .SC_LANECTL => ((s.setRun i (v.bit 0)).rxFollowLane i, stOK)
  | .PL_BLANK => (plain.noteBlank i (s.word (F.PL_BLANK i 0)) (s.word (F.PL_BLANK i 1)), stOK)
  | .PL_PORTSTAT => ({ s with plc := { s.plc with clip := adel s.plc.clip i } }, stOK)
  | .CH_POOLSTAT => (if v.bit 31 then s.setF F.CH_POOLSTAT_HIGH_WATER (s.getF F.CH_POOLSTAT_BUSY) else s, stOK)
  | .QM_QCFG => (plain.setQst i { plain.qst i with staleSet := s.ns }, stOK)
  | .QM_QCTL => s.qctl i v
  | .HL_SESS2 =>
    let s1 := (s.setF (F.HL_SESS2_SIZE i) (v.field 3 0)).setF (F.HL_SESS2_PRIV i) (if i = 0 then 1 else v.field 5 5)
    s1.ringEn (.session (Fin.ofNat 16 i)) (v.bit 4)
  | .HL_NRING2 => (s.setF F.HL_NRING2_SIZE (v.field 3 0)).ringEn .notice (v.bit 4)
  | .HL_DRING2 =>
    ((s.setF (F.HL_DRING2_SIZE i) (v.field 3 0)).setF (F.HL_DRING2_VECTOR i) (v.field 10 5)).ringEn (.dma (Fin.ofNat 256 i)) (v.bit 4)
  | .QMEM => (s.setQword i v, stOK)
  | .EP0 => ((s.epHostState i (v.field 1 0)).setEp0 i v, stOK)
  | _ => (plain, stOK)

/-- A write that reaches an ST field is reported (R34): `who` is the session, or 0x10 for a BAR0 write. -/
def State.reportST (s : State) (who a : Nat) (v : Word) : State :=
  (s.bump F.CF_STREFUSED_COUNT).notice ncSTRUCT_WRITE_REFUSED who [(32, a), (32, v.toNat), (8, who)] a

/-- A direct write of one word that is not refused (R7, R8, R34). -/
def State.writeWord (s : State) (who a : Nat) (v : Word) : State × Nat :=
  match regAt a with
  | none => (s, stOK)
  | some h =>
    let x := s.writeReg h a v
    (if h.rd.structural then x.1.reportST who a v else x.1, x.2)

/-- Words written in ascending address (R306); the status is the first other than OK. -/
def State.writeWords (s : State) (who a : Nat) : List Word → State × Nat
  | [] => (s, stOK)
  | w :: ws =>
    let x := s.writeWord who a w
    let y := x.1.writeWords who (a + 4) ws
    (y.1, if x.2 = stOK then y.2 else x.2)

/-! ## Direct writes by a command (R306) -/

/-- Words written by a command of a session: refused whole, or applied. -/
def State.cmdWrite (s : State) (n a : Nat) (ws : List Word) : State × Nat :=
  match s.wordsRefused (s.privileged n) a ws with
  | some st => (s, st)
  | none => s.writeWords n a ws

/-- A command that writes one register word and completes as a WRITE. -/
def State.writeCmd (s : State) (c : Cmd) (a : Nat) (v : Word) : State :=
  s.writeCommand c opWRITE a 1 (State.answer (s.cmdWrite c.session a [v]) c opWRITE)

/-! ## BAR0 (R297, R298) -/

/-- The structure address a BAR0 offset mirrors. -/
def bar0Mirror (off : Nat) : Option Nat :=
  if off = 0 then some F.MD_ID
  else if off = 4 then some F.MD_STATE
  else if 0x10 ≤ off ∧ off < 0x20 ∧ off % 4 = 0 then some (F.TB_NOW_LO + (off - 0x10))
  else if 0x40 ≤ off ∧ off < 0x60 ∧ off % 4 = 0 then some (F.HL_SESS0 0 + (off - 0x40))
  else if 0x60 ≤ off ∧ off < 0x80 ∧ off % 4 = 0 then some (F.HL_NRING0 + (off - 0x60))
  else none

/-- A 4-byte write through BAR0: a mirror, the MSI-X table, or nothing. In DRAIN the host link accepts no write (R72). -/
def State.bar0Write (s : State) (off : Nat) (v : Word) : State :=
  if s.mode.mode = .DRAIN then s
  else match bar0Mirror off with
    | some a => match s.wordRefused true a v with
      | some _ => s
      | none => (s.writeWord 0x10 a v).1
    | none =>
      if 0x8000 ≤ off ∧ off < 0x8400 ∧ off % 4 = 0 then s.setMsix ((off - 0x8000) / 4) v else s

/-- A write of one register word from a command or through BAR0. -/
def State.srcWrite (s : State) (src : Src) (a : Nat) (v : Word) : State :=
  match src with
  | .cmd c => if inMap a 1 then s.writeCmd c a v else s.command c opWRITE (s.complete c opWRITE stBAD_ADDRESS)
  | .bar0 => s.bar0Write a v

/-! ## The rows -/

/-- REGISTER_WRITE (R7). -/
def execRegisterWrite (src : Src) (a : Nat) (v : Word) (s : State) : Result := .next (s.srcWrite src a v)

/-- COUNTER_CLEAR (R139). -/
def execCounterClear (c : Cmd) (a : Nat) (v : Word) (s : State) : Result := .next (s.srcWrite (.cmd c) a v)

/-- The W1C bits of the register at an address. -/
def w1cBits (a : Nat) : Word :=
  match regAt a with
  | none => 0
  | some h => h.rd.fields.foldl (fun w f => if f.acc = .W1C then w.setField f.hi f.lo (2 ^ (f.hi + 1 - f.lo) - 1) else w) 0

/-- W1C_CLEAR (R9): ones clear the W1C bits of a word, but for those the device sets in the same tick. -/
def execW1cClear (src : Src) (a : Nat) (mask racing : Word) (s : State) : Result :=
  let at_ := match src with
    | .cmd _ => a
    | .bar0 => (bar0Mirror a).getD a
  .next (s.srcWrite src a (mask &&& w1cBits at_ &&& ~~~racing))

/-- OPTAG_HW_CLEAR (R25). -/
def execOptagHwClear (c : Cmd) (s : State) : Result := .next (s.writeCmd c F.MD_OPTAG (BitVec.ofNat 32 (2 ^ 31)))

/-- POOL_HW_CLEAR (R219). -/
def execPoolHwClear (c : Cmd) (s : State) : Result := .next (s.writeCmd c F.CH_POOLSTAT (BitVec.ofNat 32 (2 ^ 31)))

/-- ABORTINFO_CLEAR (R79). -/
def execAbortinfoClear (c : Cmd) (v : Word) (s : State) : Result := .next (s.writeCmd c F.MD_ABORTINFO v)

/-- STEP_SET (R83). -/
def execStepSet (c : Cmd) (s : State) : Result := .next (s.writeCmd c F.TB_STEPCTL 1)

/-- STEP_ACCEPT (R88). -/
def execStepAccept (c : Cmd) (s : State) : Result := .next (s.writeCmd c F.TB_STEPCTL 2)

/-- FUSE_ARM (R53). -/
def execFuseArm (c : Cmd) (s : State) : Result := .next (s.writeCmd c F.CF_FUSECTL 0xA5E1)

/-- FUSE_BLOW (R53). -/
def execFuseBlow (c : Cmd) (s : State) : Result := .next (s.writeCmd c F.CF_FUSECTL 0xB10C)

/-- FUSE_PROGRAM_DONE (R53): the digest is fused. -/
def execFuseProgramDone (s : State) : Result :=
  .next (if s.fuse.busy then { s with fuse := { s.fuse with busy := false, blown := true, digest := s.fuse.burning, burning := [] } } else s)

/-- QCTL_ADVANCE (R283). -/
def execQctlAdvance (c : Cmd) (q : QueueId) (count : Nat) (s : State) : Result :=
  .next (s.writeCmd c (F.QM_QCTL q) (BitVec.ofNat 32 (1 + count % 2 ^ 19 * 2 ^ 12)))

/-- QCTL_RELEASE (R283). -/
def execQctlRelease (c : Cmd) (q : QueueId) (s : State) : Result := .next (s.writeCmd c (F.QM_QCTL q) 2)

/-- QCTL_MARK (R283). -/
def execQctlMark (c : Cmd) (q : QueueId) (s : State) : Result := .next (s.writeCmd c (F.QM_QCTL q) 4)

/-- QCTL_REWIND (R283). -/
def execQctlRewind (c : Cmd) (q : QueueId) (s : State) : Result := .next (s.writeCmd c (F.QM_QCTL q) 8)

/-- QCTL_FLUSH (R288, R336). -/
def execQctlFlush (c : Cmd) (q : QueueId) (s : State) : Result := .next (s.writeCmd c (F.QM_QCTL q) 16)

/-- QCTL_CLRCNT (R293). -/
def execQctlClrcnt (c : Cmd) (q : QueueId) (s : State) : Result := .next (s.writeCmd c (F.QM_QCTL q) 32)

/-- QCFG_STALE_WRITE (R290). -/
def execQcfgStaleWrite (c : Cmd) (q : QueueId) (v : Word) (s : State) : Result := .next (s.writeCmd c (F.QM_QCFG q) v)

/-- LANE_RUN (R124). -/
def execLaneRun (c : Cmd) (l : Lane) (run : Bool) (s : State) : Result :=
  .next (s.writeCmd c (F.SC_LANECTL l) (BitVec.ofNat 32 (boolNat run)))

/-- LPGAIN_WRITE (R117). -/
def execLpgainWrite (c : Cmd) (p : LinePort) (v : Word) (s : State) : Result := .next (s.writeCmd c (F.SC_LPGAIN p) v)

/-- RING_ENABLE (R318): word 2 of a ring's registers, by a command, or, for session 0 and the notice ring, through BAR0. -/
def ringEnable (src : Src) (r : RingRef) (v : Word) (s : State) : State :=
  match src with
  | .cmd _ => s.srcWrite src (r.base + 8) v
  | .bar0 => match r with
    | .session n => if n.val = 0 then s.bar0Write 0x48 v else s
    | .notice => s.bar0Write 0x68 v
    | .dma _ => s

/-- RING_ENABLE (R318). -/
def execRingEnable (src : Src) (r : RingRef) (v : Word) (s : State) : Result := .next (ringEnable src r v s)

/-- EP_STATE_ACTIVE (R226): word 0 of the entry with STATE ACTIVE. -/
def execEpStateActive (c : Cmd) (e : EndpointId) (v : Word) (s : State) : Result :=
  .next (s.writeCmd c (F.EP0 e) (v.setField 1 0 epACTIVE))

/-- EP_STATE_FREE (R226): word 0 of the entry with STATE FREE. -/
def execEpStateFree (c : Cmd) (e : EndpointId) (v : Word) (s : State) : Result :=
  .next (s.writeCmd c (F.EP0 e) (v.setField 1 0 epFREE))

/-! ## Doorbells (R299 to R301, R315) -/

/-- HL_CDB (R300). -/
def execHlCdb (n : Session) (count : Nat) (s : State) : Result := .next (s.doorbell (.session n) count).1

/-- HL_NDB (R301). -/
def execHlNdb (count : Nat) (s : State) : Result := .next (s.doorbell .notice count).1

/-- HL_DDB (R315): a ring that stood at an entry with OWN clear reads it again. -/
def hlDdb (r : RingId) (count : Nat) (s : State) : State :=
  match s.doorbell (.dma r) count with
  | (s1, true) => s1.setDmaRing r { s1.dmaRing r with stopped := false }
  | (s1, false) => s1

/-- HL_DDB (R315). -/
def execHlDdb (r : RingId) (count : Nat) (s : State) : Result := .next (hlDdb r count s)

/-! ## RS snapshots through BAR0 (R108) -/

/-- The partner words of the first word of an RS group, by structure address. -/
def rsPartners (a : Nat) : List Nat :=
  match regAt a with
  | none => []
  | some h =>
    let i := nthD h.idx 0
    match h.rd.reg with
    | .TB_NOW_LO => [F.TB_NOW_HI, F.TB_NOW_FRAC]
    | .TB_MANGLE => [F.TB_MFREQ i]
    | .TB_MZC_LO => [F.TB_MZC_HI i]
    | .SC_RFCNT_LO => [F.SC_RFCNT_HI i]
    | .MC_ASN_LO => [F.MC_ASN_HI]
    | _ => []

/-- The first word of the RS group a partner word belongs to. -/
def rsFirst (a : Nat) : Option Nat :=
  match regAt a with
  | none => none
  | some h =>
    let i := nthD h.idx 0
    match h.rd.reg with
    | .TB_NOW_HI => some F.TB_NOW_LO
    | .TB_NOW_FRAC => some F.TB_NOW_LO
    | .TB_MFREQ => some (F.TB_MANGLE i)
    | .TB_MZC_HI => some (F.TB_MZC_LO i)
    | .SC_RFCNT_HI => some (F.SC_RFCNT_LO i)
    | .MC_ASN_HI => some F.MC_ASN_LO
    | _ => none

/-- The shadows of the group whose first word is `a`, least recently latched first. -/
def State.shadowsOf (s : State) (a : Nat) : List Shadow := aget [] s.host.shadows a

def State.setShadows (s : State) (a : Nat) (l : List Shadow) : State :=
  { s with host := { s.host with shadows := aset s.host.shadows a l } }

/-- The words a BAR0 read returned. -/
def State.readOut (s : State) (l : List Word) : State := { s with host := { s.host with readData := l } }

/-- A requester latches words of a group: its shadow is replaced; a seventeenth requester evicts the oldest (R109). With no word
to latch it has no shadow. -/
def State.latch (s : State) (a req : Nat) (ws : List (Nat × Word)) : State :=
  let l := (s.shadowsOf a).filter (·.requester != req)
  let full := decide (16 ≤ l.length)
  if ws.isEmpty then s.setShadows a l
  else
  let s1 := s.setShadows a ((if full then l.drop 1 else l) ++ [{ requester := req, words := ws }])
  if full then s1.bump F.TB_LATCHSTAT_EVICTIONS else s1

/-- NOW_LO_READ (R108): a read of the first word of an RS group returns it and latches its partners for the requester; an
8-byte read returns the next word too and leaves no shadow of it. -/
def nowLoRead (req a : Nat) (wide : Bool) (s : State) : State :=
  let ps := (rsPartners a).map fun p => (p, s.readWord p)
  if ps.isEmpty then s.readOut [s.readWord a]
  else
    (s.latch a req (if wide then ps.filter (·.1 != a + 4) else ps)).readOut
      (if wide then [s.readWord a, s.readWord (a + 4)] else [s.readWord a])

/-- NOW_LO_READ (R108). -/
def execNowLoRead (req a : Nat) (wide : Bool) (s : State) : Result := .next (nowLoRead req a wide s)

/-- The word a requester's shadow holds. -/
def State.shadowWord (s : State) (first req a : Nat) : Option Word :=
  ((s.shadowsOf first).find? (·.requester == req)).bind fun x => afind x.words a

/-- RS_SHADOW_READ (R108): a partner word: the requester's shadow, which is consumed and becomes
the last used (R109), else the live value. -/
def rsShadowRead (req a : Nat) (s : State) : State :=
  match rsFirst a with
  | none => s.readOut [s.readWord a]
  | some f => match s.shadowWord f req a with
    | none => s.readOut [s.readWord a]
    | some w =>
      let own := ((s.shadowsOf f).filter (·.requester == req)).map fun x => { x with words := x.words.filter (·.1 != a) }
      (s.setShadows f ((s.shadowsOf f).filter (·.requester != req) ++ own.filter fun x => !x.words.isEmpty)).readOut [w]

/-- RS_SHADOW_READ (R108). -/
def execRsShadowRead (req a : Nat) (s : State) : Result := .next (rsShadowRead req a s)

end Sys2Proof.Machine
end

