-- ==== Sys2Proof/Machine/HostCmd.lean ====
section
/-! DEFINITION. The commands that read and write the structure map, and ENQUEUE (R285, R304 to R306). -/
namespace Sys2Proof.Machine
open Sys2Proof

/-- NOP (R304): the payload words come back as result words. -/
def execNop (c : Cmd) (payload : List Word) (s : State) : Result :=
  .next (s.command c opNOP (s.complete c opNOP stOK (payload.take 10)))

/-- READ (R306, R277). -/
def State.readCmd (s : State) (c : Cmd) (a n : Nat) : State :=
  if n = 0 ∨ 8 < n then s.complete c opREAD stINVALID_VALUE
  else if !inMap a n then s.complete c opREAD stBAD_ADDRESS
  else s.complete c opREAD (if s.readPoisoned a n then stQUEUE_ECC else stOK) (s.readWords a n)

/-- READ (R306). -/
def execRead (c : Cmd) (a n : Nat) (s : State) : Result := .next (s.command c opREAD (s.readCmd c a n))

/-- WRITE (R306): the state and the status. -/
def State.writeStatus (s : State) (n a : Nat) (ws : List Word) : State × Nat :=
  if ws.isEmpty ∨ 13 < ws.length then (s, stINVALID_VALUE)
  else if !inMap a ws.length then (s, stBAD_ADDRESS)
  else s.cmdWrite n a ws

/-- WRITE (R306). -/
def execWrite (c : Cmd) (a : Nat) (ws : List Word) (s : State) : Result :=
  .next (s.writeCommand c opWRITE a ws.length (State.answer (s.writeStatus c.session a ws) c opWRITE))

/-! ## Blocks (R305, R306) -/

/-- What a READ_BLOCK or WRITE_BLOCK is refused with before a byte moves. -/
def State.blockRefused (s : State) (n a host len : Nat) (wr : Bool) : Option Nat :=
  if len < 4 ∨ 1048576 < len ∨ len % 4 ≠ 0 then some stINVALID_VALUE
  else if !inMap a (len / 4) then some stBAD_ADDRESS
  else if !wr && !s.privileged n && (List.range (len / 4)).any (fun i => isHL (a + 4 * i)) then some stNOT_PRIVILEGED
  else if !s.hostOk host len wr then some stWINDOW_VIOLATION
  else none

/-- READ_BLOCK (R306): the words go into host memory in ascending address. -/
def State.readBlock (s : State) (c : Cmd) (a host len : Nat) : State :=
  match s.blockRefused c.session a host len true with
  | some st => s.complete c opREAD_BLOCK st [0]
  | none => s.withRead (.block c) fun s1 =>
    (s1.emitOut (.hostWrite host (bytesOfWords (s1.readWords a (len / 4))))).complete c opREAD_BLOCK
      (if s1.readPoisoned a (len / 4) then stQUEUE_ECC else stOK) [BitVec.ofNat 32 len]

/-- READ_BLOCK (R306). -/
def execReadBlock (c : Cmd) (a host len : Nat) (s : State) : Result := .next (s.command c opREAD_BLOCK (s.readBlock c a host len))

/-- The words of a block up to the end of the aligned group of 8 that holds its first word. -/
def groupLen (a : Nat) : Nat := 8 - a / 4 % 8

/-- The groups of a WRITE_BLOCK in ascending address, at most `n` of them: the state, the status and the words moved. It
stops at the first group that R11 refuses. -/
def State.writeGroups : Nat → State → (n a : Nat) → (ws : List Word) → (st moved : Nat) → State × Nat × Nat
  | 0, s, _, _, _, st, moved => (s, st, moved)
  | k + 1, s, n, a, ws, st, moved =>
    if ws.isEmpty then (s, st, moved)
    else
      let g := ws.take (groupLen a)
      match s.wordsRefused (s.privileged n) a g with
      | some e => (s, e, moved)
      | none =>
        let x := s.writeWords n a g
        State.writeGroups k x.1 n (a + 4 * g.length) (ws.drop (groupLen a)) (if st = stOK then x.2 else st) (moved + g.length)

/-- WRITE_BLOCK (R306, R320). -/
def State.writeBlock (s : State) (c : Cmd) (a host len : Nat) (ans : HostAnswer) : State :=
  match s.blockRefused c.session a host len false with
  | some st => s.complete c opWRITE_BLOCK st [0]
  | none => s.withRead (.block c) fun s1 =>
    match ans with
    | .failed => s1.complete c opWRITE_BLOCK stDMA_ERROR [0]
    | .data b =>
      let ws := (List.range (len / 4)).map (wordAt (wordsOfBytes b))
      let x := State.writeGroups ws.length s1 c.session a ws stOK 0
      x.1.complete c opWRITE_BLOCK x.2.1 [BitVec.ofNat 32 (4 * x.2.2)]

/-- WRITE_BLOCK (R306). -/
def execWriteBlock (c : Cmd) (a host len : Nat) (ans : HostAnswer) (s : State) : Result :=
  .next (s.writeCommand c opWRITE_BLOCK a (len / 4) (s.writeBlock c a host len ans))

/-! ## ENQUEUE (R285, R305) -/

/-- The queue whose descriptor an address is. -/
def descriptorQueue (a : Nat) : Option Nat :=
  if 0x1000000 ≤ a ∧ a < 0x1080000 ∧ a % 32 = 0 then some ((a - 0x1000000) / 32) else none

/-- ENQUEUE: the state and the status. -/
def State.enqueueStatus (s : State) (n a : Nat) (start : Bool) (ws : List Word) : State × Nat :=
  match descriptorQueue a with
  | none => (s, stBAD_ADDRESS)
  | some q => if ws.isEmpty ∨ 13 < ws.length then (s, stINVALID_VALUE) else s.qProduce q (.session n) start ws

/-- ENQUEUE (R285). -/
def execEnqueue (c : Cmd) (a : Nat) (start : Bool) (ws : List Word) (s : State) : Result :=
  .next (s.command c opENQUEUE (State.answer (s.enqueueStatus c.session a start ws) c opENQUEUE))

end Sys2Proof.Machine
end

