-- ==== Sys2Proof/Machine/Sample.lean ====
section
/-! DEFINITION. The events of the sample chain (chapter 05): RF receive frames and their loss, control-link
transactions, coefficient parity errors and capture items. -/
namespace Sys2Proof.Machine
open Sys2Proof

/-! ## Receive links (R131 to R134) -/

/-- What a good frame whose pair 0 is `c` says in its characters 6 and 7 marks settling intervals (R134). -/
def State.rfChanges (s : State) (n : Nat) (c : Int) (flags chg : Nat) : State :=
  let l := s.rfLink n
  let lock := flags.testBit 1
  let s1 := if chg.testBit 7 then s.rfSettle n (s.rfStamp n (c + (chg % 32 : Nat))) else s
  let s2 := if !lock then s1.rfMarkInv n (s.rfStamp n c) (s.rfStamp n (c + 32))
    else if l.locked then s1 else s1.rfSettle n (s.rfStamp n c)
  s2.setRfLink n { s2.rfLink n with locked := lock }

/-- The extended counter of a good frame is the last one, and the RS pair shows it (R139). -/
def State.rfLast (s : State) (n c : Nat) : State :=
  ((s.setRfLink n { s.rfLink n with last := some c, cand := none }).setF (F.SC_RFCNT_LO_CNT n) c).setF
    (F.SC_RFCNT_HI_CNT n) (c / 2 ^ 32)

/-- With CLIP set in a frame, OVL is on the samples of its pairs (R134). -/
def State.rfClip (s : State) (n c flags : Nat) : State :=
  let l := s.rfLink n
  if flags.testBit 0 then s.setRfLink n { l with ovl := noteSpan s.now16 (s.rfStamp n c) (s.rfStamp n (c + 32)) l.ovl } else s

/-- The pairs of a good frame are channelised, and streamed where a frame is held on a credit (R134, R364). -/
def State.rfFrame (s : State) (n c flags chg : Nat) : State :=
  ((((s.rfLast n c).rfChanges n c flags chg).rfClip n c flags).chanTo n (c + 32) false).streamCells n

/-- Pair `c` of a link is the pair 0 of the frame that has just entered: DT0 is now less 3,125 ns less FELAT (R130). -/
def State.rfMap (s : State) (n c : Nat) : State :=
  ({ s with fresh := s.fresh + 1 } : State).setRfLink n { s.rfLink n with
    mapped := true, gen := s.fresh, c0 := c, ref0 := s.refClock - s.clockOfDt ((3125 + s.getF (F.SC_RFCFG_FELAT n) : Nat) * 65536), missing := none }

/-- The first of two consecutive good frames. -/
def State.rfCandidate (s : State) (n : Nat) (ch : List LinkChar) : State :=
  s.setRfLink n { s.rfLink n with
    cand := some { counter := rfCounter ch, arrival := s.rfArrival n, flags := rfFlags ch, chg := rfChg ch } }

/-- Alignment at the second of two consecutive good frames (R130, R131): the mapping is fixed on it, and its first pair is the
first that is no GAP. -/
def State.rfAlign (s : State) (n : Nat) (x : RfCandidate) (ch : List LinkChar) : State :=
  let c := rfCounter ch
  let s1 := s.rfMap n c
  let s2 := s1.chanIdle n (s1.rfStamp n c)
  let s3 := (s2.setRfLink n { s2.rfLink n with next := c }).rfSettle n (s1.rfStamp n c)
  ((s3.rfChanges n ((c : Int) - 32) x.flags x.chg).rfFrame n c (rfFlags ch) (rfChg ch)).rfState n 2 false

/-- Within 10 µs, either way (R133), in 2^-16 ns. -/
def near10 (a b : Int) : Bool := decide (a - b ≤ 655360000) && decide (b - a ≤ 655360000)

/-- Realignment at the second of two consecutive good frames, the first of which is `x` (R133): the mapping is kept where the first
frame's stamp lies within 10 µs of its arrival, else fixed anew. The pairs missed are GAP, and the samples from the first
resumed pair on settle. -/
def State.rfRealign (s : State) (n : Nat) (x : RfCandidate) (ch : List LinkChar) : State :=
  let l := s.rfLink n
  let miss := l.missing.getD 0
  let gapFrom := s.rfStamp n miss
  let e1 := s.rfExtend n x.counter x.arrival
  let keep := near10 (s.rfStamp n e1) x.arrival
  let s1 := if keep then s.setRfLink n { l with missing := none } else s.rfMap n (e1 + 32)
  let t1 := s1.rfStamp n e1
  let gap : Nat := if keep then e1 - miss else ((t1 - gapFrom) / 6400000).toNat
  let s2 := if keep then s1.chanTo n e1 true
    else
      let a := (s.chanTo n (s.rfPairAt n (t1 - 1) + 1).toNat true)
      a.setRfLink n { s1.rfLink n with next := e1, marks := (a.rfLink n).marks }
  let s3 := ((s2.rfSettle n t1).rfFrame n e1 x.flags x.chg).rfFrame n (e1 + 32) (rfFlags ch) (rfChg ch)
  ((s3.rfState n 2 (!keep)).bump (F.SC_RFERR_GAPS n)).notice ncRF_GAP n
    [(8, n), (64, (gapFrom / 65536).toNat), (32, min gap 0xFFFFFFFF)]

/-- A good frame on an aligned link (R131, R132): the pairs of the frames missing before it become GAP. DESIGN CHOICE (entry 146):
one that is not after the last frame, or not in time by its own stamp, is discarded. -/
def State.rfAligned (s : State) (n : Nat) (ch : List LinkChar) : State :=
  let l := s.rfLink n
  let e := s.rfExtend n (rfCounter ch) (s.rfArrival n)
  let st := s.rfStamp n e
  if decide (e < l.last.getD 0 + 32) || decide ((s.now16 : Int) < st) || decide (st + 12500 * 65536 < s.now16) then s
  else
    let s1 := if l.last.getD 0 + 32 < e then (s.chanTo n e true).gapDemods n else s
    s1.rfFrame n e (rfFlags ch) (rfChg ch)

/-- A good frame of a link in a gap whose pairs are stamped before samples already emitted is late (R133). -/
def State.rfLate (s : State) (n : Nat) (ch : List LinkChar) : Bool :=
  let t := s.rfArrival n
  let e := s.rfExtend n (rfCounter ch) t
  near10 (s.rfStamp n e) t && decide (e < (s.rfLink n).next)

/-- A good frame (R131, R133). -/
def State.rfGood (s : State) (n : Nat) (ch : List LinkChar) : State :=
  let second := (s.rfLink n).cand.filter fun x => (x.counter + 32) % 2 ^ 32 == rfCounter ch
  match s.getF (F.SC_RFSTAT_STATE n) with
  | 1 => match second with
    | some x => s.rfAlign n x ch
    | none => s.rfCandidate n ch
  | 2 => s.rfAligned n ch
  | 3 =>
    if s.rfLate n ch then s.bump (F.SC_RFERR_LATE n)
    else match second with
      | some x => s.rfRealign n x ch
      | none => s.rfCandidate n ch
  | _ => s

/-- RF_RX_FRAME (R131, R132): a frame with a bad CRC is discarded and counted, what is no whole receive frame is discarded; the
pairs of either become GAP. -/
def rfRxFrame (n : RfPort) (ch : List LinkChar) (s : State) : State :=
  if s.getF (F.SC_RFSTAT_STATE n) = 0 then s
  else
    let s1 := s.chanGap n
    if rfFrameGood ch then s1.rfGood n ch
    else
      let s2 := s1.setRfLink n { s1.rfLink n with cand := none }
      if rfFrameWhole ch then s2.bump (F.SC_RFSTAT_CRCERR n) else s2

/-- RF_RX_FRAME (R131). -/
def execRfRxFrame (n : RfPort) (ch : List LinkChar) (s : State) : Result := .next (rfRxFrame n ch s)

/-- RF_FRAME_MISSING (R131): 12.5 µs after the stamp of the next frame's pair 0 an ALIGNED link enters GAP; a
demodulation in progress meets a GAP sample (R132). -/
def rfFrameMissing (n : RfPort) (s : State) : State :=
  let l := s.rfLink n
  match l.last with
  | none => s
  | some x =>
    if s.getF (F.SC_RFSTAT_STATE n) = 2 ∧ s.rfStamp n (x + 32) + 12500 * 65536 ≤ s.now16 then
      (((s.setRfLink n { l with missing := some (x + 32), cand := none }).rfState n 3 false).gapDemods n).chanGap n
    else s

/-- RF_FRAME_MISSING (R131). -/
def execRfFrameMissing (n : RfPort) (s : State) : Result := .next (rfFrameMissing n s)

/-! ## Control links (R136 to R138) -/

/-- The front-end register and data of a launched RF pair action (R137). -/
def rfcOf (e : List Word) : Nat × Nat :=
  match leType e with
  | 4 => (0x01, (wordAt e 5).toNat)
  | 5 => (if (wordAt e 5).bit 7 then 0x03 else 0x02, (wordAt e 5).field 5 0)
  | _ => (0x04, (wordAt e 5).field 3 0)

/-- A launched control-link write of link `k` still to be sent or sent again (R138). -/
def LqEntry.onLink (e : LqEntry) (k : Nat) : Bool :=
  leKind e.words == 3 && [4, 5, 9].contains (leType e.words) && leIndex e.words / 2 == k && e.rfc != 1

/-- The core tick in which an entry is to take effect, at the frequency correction in force. -/
def State.launchTick (s : State) (e : LqEntry) : Nat :=
  e.due.getD (s.tick + ceilDiv (s.clockOfDt (((s.lqTime16 e).getD (leTime16 e.words) : Int) - s.now16)).toNat (625 * 65536))

/-- The write sent next: launch-time order, and the order of R100 within one launch tick (R138). -/
def State.rfcNext (s : State) (k : Nat) : Option LqEntry :=
  (s.launch.entries.filter (·.onLink k)).foldl (fun b e => match b with
    | none => some e
    | some x =>
      if decide (s.launchTick e < s.launchTick x) || (s.launchTick e == s.launchTick x && decide (e.seq < x.seq)) then some e
      else some x) none

/-- The 80 bits of a control transaction (R136). -/
def rfcBits (rd : Bool) (fe : Nat) (imm : Bool) (reg at_ data : Nat) : BitVec 80 :=
  BitVec.ofNat 80 (boolNat rd * 2 ^ 79 + fe % 2 * 2 ^ 78 + boolNat imm * 2 ^ 77 + reg % 256 * 2 ^ 64 +
    at_ % 2 ^ 32 * 2 ^ 32 + (if rd then 0 else data % 2 ^ 32))

/-- The outcome of a launched write (R138). -/
def State.rfcLaunched (s : State) (k : Nat) (e : LqEntry) (resp : RfcResponse) : State :=
  let t := s.lqNs e
  let n := leIndex e.words
  if t < s.ns + 2000 then
    if e.rfc = 2 then (s.launchDone e stRFC_TIMEOUT).bump (F.SC_RFCSTAT_TIMEOUT k)
    else (s.launchDone e rtMISSED_LAUNCH).bump (F.SC_RFCSTAT_MISSED k)
  else if leType e.words = leTypeRF_TUNE ∧ s.inTransmit n t then s.launchDone e rtRF_BUSY
  else
    let s0 := s.emitOut (.rfc k (rfcBits false n false (rfcOf e.words).1 (s.rfCount n t) (rfcOf e.words).2))
    let s1 := if e.rfc = 2 then s0.bump (F.SC_RFCSTAT_RETRY k) else s0
    match resp with
    | .accept _ => s1.lqUpdate e.entry fun x => { x with rfc := 1, outside := true }
    | .nak => (s1.launchDone e stRFC_NAK).bump (F.SC_RFCSTAT_NAK k)
    | .none =>
      if e.rfc = 0 ∧ s.ns + 2480 + 2000 ≤ t then s1.lqUpdate e.entry fun x => { x with rfc := 2, outside := true }
      else (s1.launchDone e stRFC_TIMEOUT).bump (F.SC_RFCSTAT_TIMEOUT k)

/-- The transmission a write belongs to ends with RFC_FAULT (R218). -/
def State.rfcFault (s : State) (w : RfcWrite) : State :=
  match w.entry.bind s.lqAt with
  | some e => s.txFail e rtRFC_FAULT
  | none => s

/-- A write the front-end has accepted: applied on receipt, or at its counter (R136). -/
def State.rfcAccepted (s : State) (w : RfcWrite) : State :=
  let s1 := s.lqUpdate (w.entry.getD 2048) fun x => { x with rfc := 1, outside := true }
  if w.imm || w.time.all (fun t => decide (t ≤ s.ns)) then s1.rfcApplied w
  else { s1 with sample := { s1.sample with accepted := s1.sample.accepted ++ [w] } }

/-- The outcome of a transaction no launch-queue entry carries; the read is ID at link bring-up (R137). A FREQOFS write that would
apply inside a transmit interval of its pair, other than that of the transmission it belongs to, is not sent (R213). -/
def State.rfcOther (s : State) (k : Nat) (w : RfcWrite) (resp : RfcResponse) : State :=
  let s0 := { s with sample := { s.sample with rfc := s.sample.rfc.erase w } }
  if w.reg = 5 ∧ w.entry.isNone ∧ w.time.any (s.inTransmit w.pair) then s0
  else
  let s1 := s0.emitOut (.rfc (w.pair / 2) (rfcBits w.rd w.pair w.imm w.reg w.at_ w.data))
  match resp with
  | .accept rdata =>
    if w.rd then { s1 with sample := { s1.sample with frontId := aset s1.sample.frontId w.pair rdata } }
    else s1.rfcAccepted w
  | .nak => (s1.bump (F.SC_RFCSTAT_NAK k)).rfcFault w
  | .none =>
    if w.retried then (s1.bump (F.SC_RFCSTAT_TIMEOUT k)).rfcFault w
    else (({ s1 with sample := { s1.sample with rfc := { w with retried := true } :: s1.sample.rfc } }).bump
      (F.SC_RFCSTAT_RETRY k)).lqUpdate (w.entry.getD 2048) fun x => { x with outside := true }

/-- RFC_TRANSACTION (R138): the next write of the link completes with the front-end's answer. -/
def rfcTransaction (k : RfcLink) (resp : RfcResponse) (s : State) : State :=
  match s.rfcNext k with
  | some e => s.rfcLaunched k e resp
  | none => match s.sample.rfc.find? (fun w => w.pair / 2 == k.val) with
    | some w => s.rfcOther k w resp
    | none => s

/-- RFC_TRANSACTION (R138). -/
def execRfcTransaction (k : RfcLink) (resp : RfcResponse) (s : State) : Result := .next (rfcTransaction k resp s)

/-! ## Lanes and capture -/

/-- LANE_PARITY_ERROR (R124): the lane stops, PARERR is set, and a PARITY record names lane and word (R374). -/
def laneParityError (lane : Lane) (word : Nat) (s : State) : State :=
  (((s.setRun lane false).setF (F.SC_LANESTAT_PARERR lane) 1).report 2 0 lane word).1

/-- LANE_PARITY_ERROR (R124). -/
def execLaneParityError (lane : Lane) (word : Nat) (s : State) : Result := .next (laneParityError lane word s)

/-- The modulator's samples of the LINE cycles before `upto` come in: those since the last item, a missing one at level 0, or at
the start of a capture all that the operand holds. As many stay as the largest delay and the longest filter reach back to. -/
def PortStream.feed (c : PortStream) (upto : Nat) (levels : List ModSample) : PortStream :=
  let n := min (upto - c.fed) 18000
  if c.fed = 0 then { c with levels := levels.reverse, fed := upto }
  else { c with
    levels := ((levels.reverse ++ List.replicate (n - levels.length) ({ level := 2 } : ModSample)).take n ++ c.levels).take 18000,
    fed := upto }

/-- A lane whose registers are not known runs through the samples that reach into the next output (R126): 36 output periods. -/
def State.laneWarm (s : State) (p : Nat) (c : PortStream) (i : Nat) : PortStream :=
  if c.regs = {} then { c with regs := ((List.range 36).foldl (fun a k =>
    { a with regs := (s.laneOut p a (i - 36 + k)).regs }) c).regs } else c

/-- CAPTURE_ITEM (R127): 64 lane words of a port with capture on become one item of 67 words, or are dropped whole. -/
def captureItem (p : LinePort) (levels : List ModSample) (s : State) : State :=
  let c := s.stream p
  match c.capNext with
  | none => s
  | some i =>
    let per := s.period16 p
    if s.flag (F.SC_LPCAP_EN p) && s.lineActive p && decide ((i + 63) * per ≤ s.now16) then
      let q := s.getF (F.SC_LPCAP_QUEUE p)
      let t := i * per / 65536
      let x := s.laneSteps p (s.laneWarm p (c.feed ((i + 63) * presetD (s.preset p) + 1) levels) i) i 64
      let s1 := (s.setStream p { x.1 with capNext := some (i + 64) }).bump (F.SC_LANESTAT_SAT (s.getF (F.SC_LPCFG_LANE p))) x.2.2
      let s2 := s1.bump (F.SC_LPSTAT_OVL p) (x.2.1.filter (·.bit 21)).length
      match s2.qHwItem q (.hw 3 p) (itemOf (lo32 t :: hi32 t :: x.2.1)) with
      | (s3, true) => s3
      | (s3, false) => s3.bump (F.SC_LPSTAT_CAPDROP p)
    else s

/-- CAPTURE_ITEM (R127). -/
def execCaptureItem (p : LinePort) (levels : List ModSample) (s : State) : Result := .next (captureItem p levels s)

end Sys2Proof.Machine
end

