-- ==== Sys2Proof/Machine/Launch.lean ====
section
/-! DEFINITION. The launch queue's commands (R96 to R103) and the launched actions that are neither a transmission nor a
commit (R102). -/
namespace Sys2Proof.Machine
open Sys2Proof

/-! ## LAUNCH (R97, R98, R103, R173) -/

/-- A host entry's own form: no COMMIT (R341); a PLC_FRAME names neither a class queue nor band C (R173). -/
def State.hostForm (s : State) (e : List Word) : Bool :=
  leType e != leTypeCOMMIT &&
    !(leType e == leTypePLC_FRAME && (leBand e == 2 || s.isClassQueue (leQueue e)))

/-- A host entry inserted (R98): state, status, handle. -/
def State.hostInsert (s : State) (e : List Word) : State × Nat × Nat :=
  if s.hostForm e then s.lqInsert e .host else (s, stINVALID_VALUE, 0)

/-- An entry with BENCH set inserted on this device once it may be (R103): checked without the 100 µs, kept as it came. -/
def State.copyInsert (s : State) (e : List Word) : State × Nat × Nat :=
  let u := leUnbench e
  let st := if s.hostForm u then s.lqStatus u else stINVALID_VALUE
  if st = stOK then
    let x := s.lqPut e .host
    (x.1, stOK, x.2)
  else (s.lqCountRefusal st, st, 0)

/-- The copies a refused LAUNCH had inserted are withdrawn (R103). -/
def State.withdrawCopies (s : State) (l : List (Nat × Nat)) : State :=
  l.foldl (fun a x => (a.benchAsk x.1 (.cancel x.2) .none).1) s

/-- A LAUNCH with BENCH set goes on once no member has still to answer (R103): the master's own copy, or the refusal. -/
def State.launchSettle (s : State) (l : BenchLaunch) : State :=
  if !l.waiting.isEmpty then { s with bench := { s.bench with launches := l :: s.bench.launches } }
  else match l.refused with
    | some (m, st) =>
      (s.withdrawCopies l.accepted).complete l.cmd opLAUNCH st [BitVec.ofNat 32 (st + m * 2 ^ 16)]
    | none => match s.copyInsert l.entry with
      | (s1, st, h) =>
        if st = stOK then
          ({ s1 with bench := { s1.bench with copies := aset s1.bench.copies h l.accepted } } : State).complete l.cmd
            opLAUNCH stOK [BitVec.ofNat 32 h]
        else (s1.withdrawCopies l.accepted).complete l.cmd opLAUNCH st

/-- Member `m` has answered the copy of a LAUNCH with a status and a handle. -/
def State.launchAnswer (s : State) (c : Cmd) (m st h : Nat) : State :=
  match s.bench.launches.find? (·.cmd == c) with
  | none => s
  | some l =>
    let l1 := { l with waiting := l.waiting.filter (· != m) }
    let l2 := if st = stOK then { l1 with accepted := l1.accepted ++ [(m, h)] }
              else { l1 with refused := l1.refused.or (some (m, st)) }
    ({ s with bench := { s.bench with launches := s.bench.launches.filter (·.cmd != c) } } : State).launchSettle l2

/-- The members word 7 names, but for this device. -/
def State.namedMembers (s : State) (e : List Word) : List Nat :=
  (List.range 32).filter fun m => (wordAt e 7).bit m && m != s.memberNo

/-- The entry goes to every named member (R103); one that cannot be reached refuses it. -/
def State.launchBench (s : State) (c : Cmd) (e : List Word) : State :=
  let st := if s.hostForm e then s.lqStatus e else stINVALID_VALUE
  if st ≠ stOK then (s.lqCountRefusal st).complete c opLAUNCH st
  else
    let l0 : BenchLaunch := { cmd := c, entry := e, waiting := [] }
    let x := (s.namedMembers e).foldl (fun (a : State × BenchLaunch) m =>
      let r := a.1.benchAsk m (.launch e) (.launch c m)
      if r.2 = stOK then (r.1, { a.2 with waiting := a.2.waiting ++ [m] })
      else (r.1, { a.2 with refused := a.2.refused.or (some (m, r.2)) })) (s, l0)
    x.1.launchSettle x.2

/-- A LAUNCH of a session. -/
def State.launchCmd (s : State) (c : Cmd) (w : List Word) : State :=
  let e := (List.range 8).map (wordAt w)
  if leBench e && s.benchRole == roleMASTER then s.launchBench c e
  else match s.hostInsert e with
    | (s1, st, h) => s1.complete c opLAUNCH st (if st = stOK then [BitVec.ofNat 32 h] else [])

/-- LAUNCH (R98). -/
def execLaunch (c : Cmd) (entry : List Word) (s : State) : Result := .next (s.command c opLAUNCH (s.launchCmd c entry))

/-! ## LAUNCH_CANCEL (R101, R305) -/

/-- The read pointer of an item a transmitter has read goes back to before the read, unless it was freed since. -/
def State.unread (s : State) (e : LqEntry) : State :=
  if e.item.isSome ∧ (leType e.words = leTypePLC_FRAME ∨ leType e.words = leTypeRF_TX) ∧ s.qStill (leQueue e.words) e.readFrom then
    s.qBack (leQueue e.words) e.readFrom
  else s

/-- An entry withdrawn whole: a hardware inserter's as its unit ends it. -/
def State.cancelEntry (s : State) (e : LqEntry) : State :=
  if e.inserter = .host then (((s.unread e).dropRamp e).dropOfs e.entry).launchDone e stCANCELLED else s.endEntry e stCANCELLED

/-- A cancel by handle: the state and its status. `words` is the entry as inserted, where a command gives it. -/
def State.cancelHandle (s : State) (h : Nat) (words : Option (List Word)) : State × Nat :=
  let i := h % 2048
  let g := h / 2048 % 32
  let same := fun (w : List Word) => match words with
    | some x => decide (x = w)
    | none => true
  match s.lqAt i with
  | some e =>
    if e.gen ≠ g ∨ !same e.words then (s, stNOT_FOUND)
    else if s.lqDue e || e.outside then (s, stTOO_LATE)
    else (s.cancelEntry e, stOK)
  | none => match afind s.launch.past i with
    | some w => if aget 0 s.launch.pool.gens i = g ∧ same w then (s, stTOO_LATE) else (s, stNOT_FOUND)
    | none => (s, stNOT_FOUND)

/-- A member has answered a carried cancel; the last answer completes the command (R305). -/
def State.cancelAnswer (s : State) (c : Cmd) (st : Nat) : State :=
  match s.bench.cancels.find? (·.cmd == c) with
  | none => s
  | some x =>
    let y := { x with waiting := x.waiting - 1, status := if x.status = stOK then st else x.status }
    let rest := s.bench.cancels.filter (·.cmd != c)
    if y.waiting = 0 then
      ({ s with bench := { s.bench with cancels := rest } } : State).complete c opLAUNCH_CANCEL y.status
    else { s with bench := { s.bench with cancels := y :: rest } }

/-- A cancel of an entry with BENCH set is carried to every member that holds a copy. -/
def State.carryCancel (s : State) (c : Cmd) (h st : Nat) : State :=
  let x := (aget [] s.bench.copies h).foldl (fun (a : State × Nat × Nat) y =>
    let r := a.1.benchAsk y.1 (.cancel y.2) (.cancel c)
    if r.2 = stOK then (r.1, a.2.1 + 1, a.2.2) else (r.1, a.2.1, if a.2.2 = stOK then r.2 else a.2.2)) (s, 0, st)
  if x.2.1 = 0 then x.1.complete c opLAUNCH_CANCEL x.2.2
  else
    let q : BenchCancel := { cmd := c, handle := h, waiting := x.2.1, status := x.2.2 }
    { x.1 with bench := { x.1.bench with cancels := q :: x.1.bench.cancels } }

/-- A LAUNCH_CANCEL of a session. -/
def State.launchCancelCmd (s : State) (c : Cmd) (w : List Word) (h : Nat) : State :=
  let e := (List.range 8).map (wordAt w)
  match s.cancelHandle (h % 65536) (some e) with
  | (s1, st) =>
    if leBench e && st != stNOT_FOUND then s1.carryCancel c (h % 65536) st else s1.complete c opLAUNCH_CANCEL st

/-- LAUNCH_CANCEL (R101). -/
def execLaunchCancel (c : Cmd) (entry : List Word) (handle : Nat) (s : State) : Result :=
  .next (s.command c opLAUNCH_CANCEL (s.launchCancelCmd c entry handle))

/-- LAUNCH_STAGE (R100): the entry is staged 2 µs ahead of its time. -/
def launchStage (i : EntryId) (s : State) : State :=
  match s.lqAt i with
  | none => s
  | some e => match s.lqTime16 e with
    | some t => if t ≤ (s.ns + 2000) * 65536 + s.frac then s.lqUpdate i (fun x => { x with staged := true }) else s
    | none => s

/-- LAUNCH_STAGE (R100). -/
def execLaunchStage (e : EntryId) (s : State) : Result := .next (launchStage e s)

/-! ## Launched actions (R102) -/

/-- PLC_BAND (R161): a mask outside BANDS changes nothing. -/
def State.plcBand (s : State) (e : LqEntry) : State :=
  let m := (wordAt e.words 5).field 3 0
  if (List.range 4).any (fun b => m / 2 ^ b % 2 = 1 && s.getF (F.SC_LPCFG_BANDS e.port) / 2 ^ b % 2 == 0) then
    s.launchDone e lpBAND_OFF
  else ((s.setF (F.PL_PORTLIVE_LIVE e.port) m).rxFollowPort e.port).launchDone e (leOK e.words)

/-- PLC_BAND (R161). -/
def execPlcBand (e : EntryId) (s : State) : Result := .next (s.runAction e leTypePLC_BAND fun x => s.plcBand x)

/-- A control-link action at its launch time (R102, R138): in force where the front-end has accepted the write. -/
def State.linkAction (s : State) (e : LqEntry) : State :=
  let n := leIndex e.words
  if e.rfc = 1 then (s.rfcApplied { pair := n, reg := (rfcOf e.words).1, data := (rfcOf e.words).2, at_ := 0 }).launchDone e (leOK e.words)
  else if e.rfc = 2 then (s.launchDone e stRFC_TIMEOUT).bump (F.SC_RFCSTAT_TIMEOUT (n / 2))
  else (s.launchDone e rtMISSED_LAUNCH).bump (F.SC_RFCSTAT_MISSED (n / 2))

/-- RF_TUNE (R102). -/
def execRfTune (e : EntryId) (s : State) : Result := .next (s.runAction e leTypeRF_TUNE fun x => s.linkAction x)

/-- GAIN (R117, R137): a line port's amplifier or attenuator, or a front-end's. -/
def State.gain (s : State) (e : LqEntry) : State :=
  let p := leIndex e.words
  let step := (wordAt e.words 5).field 4 0
  if leKind e.words ≠ 0 then s.linkAction e
  else if (wordAt e.words 5).bit 7 then (s.setTxAtt p step (lineAt s.now16)).launchDone e (leOK e.words)
  else (s.setRxGain p step (lineAt s.now16)).launchDone e (leOK e.words)

/-- GAIN (R117). -/
def execGain (e : EntryId) (s : State) : Result := .next (s.runAction e leTypeGAIN fun x => s.gain x)

/-- RF_PROFILE (R217). -/
def execRfProfile (e : EntryId) (s : State) : Result := .next (s.runAction e leTypeRF_PROFILE fun x => s.linkAction x)

/-- EVENT_EDGE (R110): the pin is driven, unless an amendment has made it an input. -/
def State.eventEdge (s : State) (e : LqEntry) : State :=
  let n := leIndex e.words
  let v := (wordAt e.words 5).bit 0
  if !s.flag (F.TB_EVTCFG_DIR n) then s.launchDone e stINVALID_VALUE
  else
    let rest := s.launch.levels.filter (· != n)
    let l : LaunchState := { s.launch with levels := if v then n :: rest else rest }
    (({ s with launch := l } : State).emitOut (.edge n v (s.lqNs e))).launchDone e (leOK e.words)

/-- EVENT_EDGE (R110). -/
def execEventEdge (e : EntryId) (s : State) : Result := .next (s.runAction e leTypeEVENT_EDGE fun x => s.eventEdge x)

/-- MARKER (R113): MRK goes on the first output sample at or after the launch time. -/
def State.marker (s : State) (e : LqEntry) : State :=
  let t := (s.lqTime16 e).getD (leTime16 e.words)
  let i := leIndex e.words
  let s1 := if leKind e.words = 0 then s.setStream i { s.stream i with marks := (s.stream i).marks ++ [t] }
    else s.setRfLink i { s.rfLink i with marks := (s.rfLink i).marks ++ [t] }
  s1.launchDone e (leOK e.words)

/-- MARKER (R113). -/
def execMarker (e : EntryId) (s : State) : Result := .next (s.runAction e leTypeMARKER fun x => s.marker x)

end Sys2Proof.Machine
end

