-- ==== Sys2Proof/Machine/HashCode.lean ====
section
/-! DEFINITION. The check word and the signature of an image (R44, R45): CRC-32C, SHA-384 (FIPS 180-4) and ECDSA over P-384
(FIPS 186-5). -/
namespace Sys2Proof.Machine
open Sys2Proof

/-! ## CRC-32C (R44) -/

/-- Eight shifts of the reflected register. -/
def crc32cBits : Nat → Nat → Nat
  | 0, c => c
  | n + 1, c => crc32cBits n (if c % 2 = 1 then (c / 2) ^^^ 0x82F63B78 else c / 2)

/-- CRC-32C as R44 writes it. -/
def crc32c (bs : List Byte) : Nat := bs.foldl (fun c b => crc32cBits 8 (c ^^^ b.toNat)) 0xFFFFFFFF ^^^ 0xFFFFFFFF

/-! ## SHA-384 -/

/-- The largest `r` below `2 ^ n + acc` with `r ^ k ≤ x`, found bit by bit: the integer `k`-th root. -/
def rootBits (k x : Nat) : Nat → Nat → Nat
  | 0, acc => acc
  | n + 1, acc => rootBits k x n (if (acc + 2 ^ n) ^ k ≤ x then acc + 2 ^ n else acc)

/-- The first 80 primes. -/
def primes80 : List Nat :=
  [2, 3, 5, 7, 11, 13, 17, 19, 23, 29, 31, 37, 41, 43, 47, 53, 59, 61, 67, 71, 73, 79, 83, 89, 97, 101, 103, 107, 109, 113,
   127, 131, 137, 139, 149, 151, 157, 163, 167, 173] ++
  [179, 181, 191, 193, 197, 199, 211, 223, 227, 229, 233, 239, 241, 251, 257, 263, 269, 271, 277, 281, 283, 293, 307, 311,
   313, 317, 331, 337, 347, 349, 353, 359, 367, 373, 379, 383, 389, 397, 401, 409]

/-- The round constants: the first 64 fraction bits of the cube roots of the first 80 primes. -/
def sha512K : List Nat := primes80.map fun p => rootBits 3 (p * 2 ^ 192) 67 0 % 2 ^ 64

/-- The initial hash: the first 64 fraction bits of the square roots of the ninth to sixteenth primes. -/
def sha384Init : List Nat := ((primes80.drop 8).take 8).map fun p => rootBits 2 (p * 2 ^ 128) 68 0 % 2 ^ 64

abbrev W64 := BitVec 64

def sSig0 (x : W64) : W64 := x.rotateRight 1 ^^^ x.rotateRight 8 ^^^ (x >>> 7)
def sSig1 (x : W64) : W64 := x.rotateRight 19 ^^^ x.rotateRight 61 ^^^ (x >>> 6)
def bSig0 (x : W64) : W64 := x.rotateRight 28 ^^^ x.rotateRight 34 ^^^ x.rotateRight 39
def bSig1 (x : W64) : W64 := x.rotateRight 14 ^^^ x.rotateRight 18 ^^^ x.rotateRight 41

/-- The message schedule, newest word first: `n` more words. -/
def shaSchedule : Nat → List W64 → List W64
  | 0, w => w
  | n + 1, w => shaSchedule n
      ((sSig1 (w.getD 1 0) + w.getD 6 0 + sSig0 (w.getD 14 0) + w.getD 15 0) :: w)

/-- The eight working variables after one round. -/
def shaRound (v : List W64) (kw : W64) : List W64 :=
  let a := v.getD 0 0
  let e := v.getD 4 0
  let ch := (e &&& v.getD 5 0) ^^^ (~~~e &&& v.getD 6 0)
  let maj := (a &&& v.getD 1 0) ^^^ (a &&& v.getD 2 0) ^^^ (v.getD 1 0 &&& v.getD 2 0)
  let t1 := v.getD 7 0 + bSig1 e + ch + kw
  [t1 + bSig0 a + maj, a, v.getD 1 0, v.getD 2 0, v.getD 3 0 + t1, e, v.getD 5 0, v.getD 6 0]

/-- One 128-byte block. -/
def shaBlock (k : List W64) (h : List W64) (b : List Byte) : List W64 :=
  let w0 := (List.range 16).map fun i => BitVec.ofNat 64 (natBE ((b.drop (8 * i)).take 8))
  let w := (shaSchedule 64 w0.reverse).reverse
  let v := (List.zipWith (· + ·) k w).foldl shaRound h
  List.zipWith (· + ·) h v

/-- Blocks of 128 bytes. -/
def shaBlocks (k : List W64) : Nat → List W64 → List Byte → List W64
  | 0, h, _ => h
  | n + 1, h, b => if b.isEmpty then h else shaBlocks k n (shaBlock k h (b.take 128)) (b.drop 128)

/-- SHA-384 of a message: 48 bytes. -/
def sha384 (m : List Byte) : List Byte :=
  let pad := (239 - m.length % 128) % 128
  let b := m ++ [0x80] ++ List.replicate pad 0 ++ bytesBE 16 (8 * m.length)
  let h := shaBlocks (sha512K.map (BitVec.ofNat 64)) (b.length / 128) (sha384Init.map (BitVec.ofNat 64)) b
  (h.take 6).flatMap fun w => bytesBE 8 w.toNat

/-! ## P-384 -/

/-- The field, the group order, the coefficient b (a is −3) and the base point of P-384. -/
def p384P : Nat := 2 ^ 384 - 2 ^ 128 - 2 ^ 96 + 2 ^ 32 - 1
def p384N : Nat := 0xFFFFFFFFFFFFFFFFFFFFFFFFFFFFFFFFFFFFFFFFFFFFFFFFC7634D81F4372DDF581A0DB248B0A77AECEC196ACCC52973
def p384B : Nat := 0xB3312FA7E23EE7E4988E056BE3F82D19181D9C6EFE8141120314088F5013875AC656398D8A2ED19D2A85C8EDD3EC2AEF
def p384G : Nat × Nat :=
  (0xAA87CA22BE8B05378EB1C71EF320AD746E1D3B628BA79B9859F741E082542A385502F25DBF55296C3A545E3872760AB7,
   0x3617DE4A96262C6F5D9E98BF9292DC29F8F41DBD289A147CE9DA3113B5F0B8C00A60B1CE1D7E819D7A431D7C90EA0E5F)

/-- `b ^ e` modulo `m`, over the low `n` bits of `e`. -/
def powMod (m : Nat) : Nat → Nat → Nat → Nat → Nat
  | 0, _, _, acc => acc
  | n + 1, b, e, acc => powMod m n (b * b % m) (e / 2) (if e % 2 = 1 then acc * b % m else acc)

/-- The inverse modulo a 384-bit prime (Fermat). -/
def invMod (m x : Nat) : Nat := powMod m 384 (x % m) (m - 2) 1

/-- A curve point; none is the point at infinity. -/
abbrev CurvePt := Option (Nat × Nat)

/-- Sum of two points. -/
def ptAdd (a b : CurvePt) : CurvePt :=
  match a, b with
  | none, q => q
  | q, none => q
  | some (x1, y1), some (x2, y2) =>
    if x1 = x2 ∧ (y1 + y2) % p384P = 0 then none
    else
      let num := if x1 = x2 then 3 * x1 * x1 + (p384P - 3) else y2 + (p384P - y1)
      let den := if x1 = x2 then 2 * y1 else x2 + (p384P - x1)
      let l := num * invMod p384P den % p384P
      let x := (l * l + (p384P - x1) + (p384P - x2)) % p384P
      some (x, (l * (x1 + (p384P - x)) + (p384P - y1)) % p384P)

/-- `k` times a point, over the low `n` bits of `k`. -/
def ptMul : Nat → Nat → CurvePt → CurvePt → CurvePt
  | 0, _, _, acc => acc
  | n + 1, k, p, acc => ptMul n (k / 2) (ptAdd p p) (if k % 2 = 1 then ptAdd acc p else acc)

/-- The coordinates are those of a point of the curve. -/
def onCurve (x y : Nat) : Bool :=
  decide (x < p384P) && decide (y < p384P) && (y * y) % p384P == (x * x * x + (p384P - 3) * x + p384B) % p384P

/-- ECDSA verification over P-384 with SHA-384. -/
def ecdsaVerify (x y r s : Nat) (m : List Byte) : Bool :=
  let w := invMod p384N s
  let e := natBE (sha384 m)
  let q := ptAdd (ptMul 384 (e * w % p384N) (some p384G) none) (ptMul 384 (r * w % p384N) (some (x, y)) none)
  onCurve x y && decide (0 < r) && decide (r < p384N) && decide (0 < s) && decide (s < p384N) &&
    (match q with
     | some (v, _) => v % p384N == r
     | none => false)

end Sys2Proof.Machine
end

