-- ==== Sys2Proof/Machine/ImageCode.lean ====
section
/-! DEFINITION. The Bitas image format (R35 to R45): header, sections, records, trailer, and the checks of R47 up to SECTION,
over the bytes alone. -/
namespace Sys2Proof.Machine
open Sys2Proof

/-! ## Load results (R47) -/

abbrev lcNO_IMAGE : Nat := 1
abbrev lcMAGIC : Nat := 2
abbrev lcFORMAT : Nat := 3
abbrev lcLENGTH : Nat := 4
abbrev lcSTEPPING : Nat := 5
abbrev lcCHECK_WORD : Nat := 6
abbrev lcUNSIGNED : Nat := 7
abbrev lcKEY : Nat := 8
abbrev lcSIGNATURE : Nat := 9
abbrev lcSECTION : Nat := 10
abbrev lcCONSISTENCY : Nat := 11

/-- A record (R38): its address, and the words it writes in order. -/
structure ImageRecord where
  addr : Nat
  writes : List (Nat × Word)
  deriving DecidableEq, Repr

/-- An image or fragment that has passed the checks: header fields, its records in order, the first 64 bytes of EXTRA, and the
digest of its public key where it is signed. -/
structure Image where
  stepMask : Nat := 0
  id : Nat := 0
  sequence : Nat := 0
  base : Nat := 0
  records : List ImageRecord := []
  extra : List Byte := []
  signed : Bool := false
  keyDigest : List Byte := []
  deriving DecidableEq, Repr

/-- The words the records of an image write, in image order (R41). -/
def Image.writes (im : Image) : List (Nat × Word) := im.records.flatMap (·.writes)

/-! ## Header (R35, R36) -/

/-- `n` bytes at an offset as a number. -/
def imN (b : List Byte) (off n : Nat) : Nat := natLE ((b.drop off).take n)

def imHdrLen (b : List Byte) : Nat := imN b 6 2
def imTotal (b : List Byte) : Nat := imN b 8 4
def imStep (b : List Byte) : Nat := imN b 12 4
def imSections (b : List Byte) : Nat := imN b 16 2
def imFlags (b : List Byte) : Nat := imN b 18 2
def imSequence (b : List Byte) : Nat := imN b 24 4
def imBase (b : List Byte) : Nat := imN b 28 4

/-- A format fault (R36), or FRAGMENT not as the offer needs it (R47, R54). -/
def imFormatFault (b : List Byte) (fragment : Bool) : Bool :=
  imN b 4 1 != 1 || decide (imHdrLen b < 32) || decide (1024 < imHdrLen b) || imHdrLen b % 4 != 0 || decide (4 ≤ imFlags b) ||
    (imFlags b / 2 % 2 == 1) != fragment || imSequence b == 0 || (imFlags b / 2 % 2 == 0 && imBase b != 0)

/-- TOTAL_LEN out of range, or above the `avail` bytes offered (R47). -/
def imLengthFault (b : List Byte) (avail : Nat) : Bool :=
  imTotal b % 4 != 0 || decide (imTotal b < 36) || decide (8388608 < imTotal b) || decide (avail < imTotal b)

/-! ## Sections and records (R37 to R39, R42) -/

/-- The address ranges a section type may write (R39): first and last address. -/
def sectionRanges : Nat → List (Nat × Nat)
  | 0x01 => [(0x100, 0x1FF), (0x200000, 0x217FFF), (0x220000, 0x22FFFF)]
  | 0x02 => [(0x230000, 0x23CFFF)]
  | 0x03 => [(0x400000, 0x5FFFFF)]
  | 0x04 => [(0x600000, 0x7EFFFF)]
  | 0x05 => [(0x800000, 0xBFFFFF)]
  | 0x06 => [(0xC00000, 0xCFFFFF)]
  | 0x07 => [(0xD00000, 0xEFFFFF), (0x20800000, 0x208FFFFF)]
  | 0x08 => [(0x1000000, 0x13FFFFF)]
  | 0x09 => [(0x1400000, 0x17FFFFF)]
  | 0x0A => [(0x1C00000, 0x1CFFFFF)]
  | 0x0B => [(0x1D00000, 0x1DFFFFF)]
  | 0x0C => [(0x2000, 0x3FFF)]
  | 0x0D => [(0x100000, 0x1FFFFF)]
  | 0x0E => [(0x7F0000, 0x7FFFFF), (0xF00000, 0xFFFFFF)]
  | _ => []

/-- The section type whose range holds an address; 0 for none. -/
def sectionOf (a : Nat) : Nat :=
  ((List.range 15).find? fun t => (sectionRanges t).any fun r => decide (r.1 ≤ a) && decide (a ≤ r.2)).getD 0

/-- The image writes the field (R33): an ST field, or an RW field whose Reset entry is image. -/
def FieldDef.inImage (f : FieldDef) : Bool := f.acc == .ST || (f.acc == .RW && f.image)

/-- The word holds a field an image writes. -/
def imageWord (a : Nat) : Bool :=
  match regAt a with
  | some h => h.rd.fields.any (·.inImage)
  | none => false

/-- A word a record of section type `t` may write (R39). -/
def mayWrite (t a : Nat) : Bool :=
  a % 4 == 0 && ((sectionRanges t).any fun r => decide (r.1 ≤ a) && decide (a ≤ r.2)) && imageWord a

/-- One record and the words after it; none for a reserved kind, a count out of range or a record cut off. -/
def oneRecord (ws : List Word) : Option (ImageRecord × List Word) :=
  let a := (wordAt ws 0).toNat / 4 * 4
  let n := (wordAt ws 1).toNat
  match (wordAt ws 0).field 1 0 with
  | 0 => if ws.length < 2 then none else some (⟨a, [(a, wordAt ws 1)]⟩, ws.drop 2)
  | 1 =>
    if ws.length < 2 ∨ n = 0 ∨ 262144 < n ∨ ws.length < 2 + n then none
    else some (⟨a, (List.range n).zipWith (fun i v => (a + 4 * i, v)) ((ws.drop 2).take n)⟩, ws.drop (2 + n))
  | 2 =>
    let st := n / 2 ^ 20
    let c := n % 2 ^ 20
    if ws.length < 3 ∨ st = 0 ∨ c = 0 then none
    else some (⟨a, (List.range c).map fun i => (a + 4 * st * i, wordAt ws 2)⟩, ws.drop 3)
  | _ => none

/-- The records of a section body: exactly `n` of them, filling it, each write allowed. -/
def bodyRecords (t : Nat) : Nat → List Word → Option (List ImageRecord)
  | 0, ws => if ws.isEmpty then some [] else none
  | n + 1, ws => match oneRecord ws with
    | none => none
    | some (r, rest) =>
      if r.writes.all (fun w => mayWrite t w.1) then (bodyRecords t n rest).map fun m => r :: m else none

/-- The sections from `b` on, `n` of them, after a section of type `last`, within the bytes up to the trailer: their records
and EXTRA, or the type code of the faulty section. -/
def imSectionsOf (fragment : Bool) : Nat → Nat → List Byte → Except Nat (List ImageRecord × List Byte)
  | 0, last, b => if b.isEmpty then .ok ([], []) else .error last
  | n + 1, last, b =>
    let t := imN b 0 1
    let len := imN b 4 4
    if b.length < 8 ∨ t ≤ last ∨ 15 < t ∨ imN b 1 1 ≠ 1 ∨ len % 4 ≠ 0 ∨ b.length < 8 + len then .error t
    else
      let body := (b.drop 8).take len
      if t = 15 then
        if fragment ∨ imN b 2 2 ≠ 0 ∨ 4096 < len then .error t
        else match imSectionsOf fragment n t (b.drop (8 + len)) with
          | .ok (w, _) => .ok (w, (body ++ List.replicate 64 0).take 64)
          | .error e => .error e
      else match bodyRecords t (imN b 2 2) (wordsOfBytes body) with
        | none => .error t
        | some l => match imSectionsOf fragment n t (b.drop (8 + len)) with
          | .ok (w, x) => .ok (l ++ w, x)
          | .error e => .error e

/-! ## The checks in order (R44, R45, R47) -/

/-- The checks of an image after its length: STEPPING to SECTION. `fused` is the fused digest, where the fuse is blown.
DESIGN CHOICE (entry 135): SECTIONS above 15 and a header that reaches beyond the trailer, for which R47 names no cause, are
SECTION with section type 0. -/
def checkBody (b : List Byte) (fragment : Bool) (step : Nat) (fused : Option (List Byte)) : Except (Nat × Nat) Image :=
  let n := imTotal b
  let signed := imFlags b % 2 == 1
  let sigAt := n - 196
  let pub := (b.drop sigAt).take 96
  let digest := sha384 pub
  let rs := (b.drop (sigAt + 96)).take 96
  if imStep b / 2 ^ step % 2 = 0 then .error (lcSTEPPING, 0)
  else if crc32c (b.take (n - 4)) ≠ imN b (n - 4) 4 then .error (lcCHECK_WORD, 0)
  else if fused.isSome && !signed then .error (lcUNSIGNED, 0)
  else if signed && (match fused with | some d => decide (d ≠ digest) | none => false) then .error (lcKEY, 0)
  else if signed && !ecdsaVerify (natBE (pub.take 48)) (natBE (pub.drop 48)) (natBE (rs.take 48)) (natBE (rs.drop 48))
      (b.take (sigAt + 96)) then .error (lcSIGNATURE, 0)
  else
    let stop := if signed then sigAt else n - 4
    if 15 < imSections b ∨ stop < imHdrLen b then .error (lcSECTION, 0)
    else match imSectionsOf fragment (imSections b) 0 ((b.take stop).drop (imHdrLen b)) with
      | .error t => .error (lcSECTION, t)
      | .ok (w, x) => .ok {
          stepMask := imStep b, id := imN b 20 4, sequence := imSequence b, base := imBase b, records := w, extra := x,
          signed := signed, keyDigest := if signed then digest else [] }

/-- The checks of R47 from MAGIC to SECTION over the bytes read, of an offer of `avail` bytes (R48 for fewer than 32). -/
def checkImage (b : List Byte) (avail : Nat) (fragment : Bool) (step : Nat) (fused : Option (List Byte)) :
    Except (Nat × Nat) Image :=
  if avail < 4 ∨ imN b 0 4 ≠ 0x42495441 then .error (lcMAGIC, 0)
  else if avail < 32 then .error (lcLENGTH, 0)
  else if imFormatFault b fragment then .error (lcFORMAT, 0)
  else if imLengthFault b avail ∨ b.length < imTotal b then .error (lcLENGTH, 0)
  else checkBody b fragment step fused

end Sys2Proof.Machine
end

