-- ==== Sys2Proof/Machine/StructOps.lean ====
section
/-! DEFINITION. The structure as a set of values (R33, R40, R41, R56): what an image writes, the consistency of a structure, and
what an amendment may not change. -/
namespace Sys2Proof.Machine
open Sys2Proof

/-! ## Writing (R33, R41) -/

/-- The fields an image writes taken from `v`, the others kept. -/
def RegDef.imageWritten (rd : RegDef) (old v : Word) : Word :=
  rd.fields.foldl (fun w f => if f.inImage then w.setField f.hi f.lo (v.field f.hi f.lo) else w) old

/-- One word of an image written. -/
def State.imageWrite (s : State) (a : Nat) (v : Word) : State :=
  match regAt a with
  | some h => s.setWord a (h.rd.imageWritten (s.word a) v)
  | none => s

/-- The writes of an image in order (R41). -/
def State.imageWrites (s : State) (l : List (Nat × Word)) : State := l.foldl (fun a w => a.imageWrite w.1 w.2) s

/-- Every image field at its factory value (R41, R49). -/
def State.factoryStructure (s : State) : State := s.map.foldl (fun a c => a.imageWrite c.1 (defaultWord c.1)) s

/-! ## Consistency (R40) -/

/-- A breach: the section type code and the address of a word concerned. -/
abbrev Breach := Nat × Nat

/-- Two of the intervals (start, length) overlap. -/
def overlaps : List (Nat × Nat) → Bool
  | [] => false
  | (a, n) :: t => t.any (fun x => decide (a < x.1 + x.2) && decide (x.1 < a + n)) || overlaps t

/-- A value outside a field's permitted ones (R11, R40). -/
def valueBreach (a : Nat) (w : Word) : Bool :=
  match regAt a with
  | some h => h.rd.fields.any fun f => f.inImage && !f.legal.isEmpty &&
      !f.legal.any fun r => decide (r.1 ≤ w.field f.hi f.lo) && decide (w.field f.hi f.lo ≤ r.2)
  | none => false

def State.valueBreaches (s : State) : List Breach :=
  (s.map.filter fun c => valueBreach c.1 c.2).map fun c => (sectionOf c.1, c.1)

/-- Line ports the structure has active. -/
def State.activePorts (s : State) : List Nat := (List.range 96).filter fun p => s.flag (F.SC_LPCFG_ACTIVE p)

/-- Bit `b` of a port's BANDS. -/
def State.hasBand (s : State) (p b : Nat) : Bool := s.getF (F.SC_LPCFG_BANDS p) / 2 ^ b % 2 == 1

/-- The bands a preset permits (R125), as a mask. -/
def presetBands : Nat → Nat
  | 0 => 0b0111 | 1 => 0b1111 | 2 => 0b1111 | _ => 0

/-- The bands the region profile enables (R142). -/
def State.regionBands (s : State) : Nat :=
  1 + 2 * s.getF F.PL_REGIONCFG_BANDB_EN + 4 * s.getF F.PL_REGIONCFG_BANDC_EN + 8 * s.getF F.PL_REGIONCFG_BANDF_EN

/-- Unmasked carriers of band F from k = 99 up to `top` (R142). -/
def State.openCarriers (s : State) (top : Nat) : Nat :=
  ((List.range (top + 1 - 99)).filter fun i => !(s.word (F.PL_FMASK 0 + 4 * (i / 32))).bit (i % 32)).length

/-- PORT: bands of every port, active or not (R40, R125, R142), twins (R80), domains that lane groups need (R76). -/
def State.portBreaches (s : State) : List Breach :=
  let lanes := fun x => s.getF (F.BN_GRPCFG_LANES x) != 0
  let gcm := (List.range 2).any (fun x => lanes x && s.flag (F.BN_GRPCFG_GCM x)) ||
    (List.range 4).any (fun x => s.getF (F.PF_PORTCFG_LANES x) != 0 && s.flag (F.PF_PORTCFG_GCM x))
  ((List.range 96).filter fun p => (List.range 4).any fun b => s.hasBand p b &&
    (presetBands (s.preset p) / 2 ^ b % 2 == 0 || s.regionBands / 2 ^ b % 2 == 0)).map (fun p => (1, F.SC_LPCFG p)) ++
  (if s.getF F.MD_BOOTCFG_TWIN_ROLE ≠ 0 ∧ s.getF F.MD_BOOTCFG_TWIN_MISS = 0 then [(1, F.MD_BOOTCFG)] else []) ++
  (if (!s.flag F.MD_DOMCFG1_BPL && (lanes 0 || lanes 1)) || (!s.flag F.MD_DOMCFG1_CPH && gcm) then [(1, F.MD_DOMCFG1)] else [])

/-- FILTER: lanes that match the structure class (R40, R120, R121): each active port a lane, or a gang, of its
own, whose PORT, in all four lanes of a gang, names the port (R50); in the small structure TAPS of each gang, set in its first
lane, is 1 to 384. -/
def State.filterBreaches (s : State) : List Breach :=
  let lane := fun p => s.getF (F.SC_LPCFG_LANE p)
  (s.activePorts.filter fun p =>
    decide (104 ≤ lane p) || (s.small && lane p % 4 != 0) ||
      ((List.range (if s.small then 4 else 1)).any fun i => s.getF (F.SC_LANECFG_PORT (lane p + i)) != p) ||
      (s.activePorts.any fun r => r != p && lane r == lane p)).map (fun p => (2, F.SC_LPCFG p)) ++
  (if s.small then ((List.range 26).filter fun g => decide (s.getF (F.SC_LANECFG_TAPS (4 * g)) < 1) ||
    decide (384 < s.getF (F.SC_LANECFG_TAPS (4 * g)))).map (fun g => (2, F.SC_LANECFG (4 * g))) else [])

/-- PLCPHY: coupling and combining (R160). -/
def State.phyBreaches (s : State) : List Breach :=
  ((List.range 32).filter fun g =>
    let ps := ([3 * g, 3 * g + 1, 3 * g + 2]).filter fun p => s.flag (F.SC_LPCFG_ACTIVE p)
    let shape := fun p => (s.preset p, s.getF (F.SC_LPCFG_BANDS p))
    (s.flag (F.PL_FGCFG_COUPLING g) && ps.length != 3) ||
    (s.getF (F.PL_FGCFG_COMB g) != 0 && ps.any fun p => ps.any fun r => shape p != shape r)).map fun g => (3, F.PL_FGCFG g)

/-- The grants of band channel (p, b): START and LEN of those with a length. -/
def State.grantSpans (s : State) (p b : Nat) : List (Nat × Nat) :=
  ((List.range 32).map fun g => (s.getF (F.PL_GRSLOT_START p b g), s.getF (F.PL_GRSLOT_LEN p b g))).filter (·.2 != 0)

/-- PLCMAC (R188). -/
def State.accessBreaches (s : State) : List Breach :=
  let cfp := fun p => s.getF (F.PL_BCNCFG_CFP_START p)
  ((List.range 96).filter fun p =>
    (s.getF (F.PL_ACCCFG_DISC p) == 1 && s.flag (F.SC_LPCFG_ACTIVE p) && s.getF (F.SC_LPCFG_BANDS p) % 4 == 0 &&
      !s.hasBand p 3)).map (fun p => (4, F.PL_ACCCFG p)) ++
  ((List.range 96).filter fun p =>
    decide ((s.getF (F.PL_BCNCFG_PERIOD p) + 1) * 1000000 < cfp p * 680 * 65)).map (fun p => (4, F.PL_BCNCFG p)) ++
  ((List.range 384).filter fun i =>
    let l := s.grantSpans (i / 4) (i % 4)
    overlaps l || l.any fun x => i % 4 == 2 || decide (x.1 < cfp (i / 4)) || decide (2 ^ 18 < x.1 + x.2)).map
      fun i => (4, F.PL_GRSLOT (i / 4) (i % 4) 0)

/-- RADIO: enabled channels of every pair, active or not (R194, R195). -/
def State.radioBreaches (s : State) : List Breach :=
  let bw := fun n => 125000 * 2 ^ s.getF (F.SC_RFCFG_CHMODE n)
  let c2 := fun (n c : Nat) => (2 * s.getF (F.CH_FREQ_FREQ n) + (2 * c - (32 / 2 ^ s.getF (F.SC_RFCFG_CHMODE n) - 1 : Int)) *
    (200000 * 2 ^ s.getF (F.SC_RFCFG_CHMODE n)) : Int)
  ((List.range 32).filter fun n => (List.range 32).any fun c =>
    (s.word (F.CH_CHEN n)).bit c && (decide (32 / 2 ^ s.getF (F.SC_RFCFG_CHMODE n) ≤ c) ||
      (s.getF F.MC_DCCFG_PROFILE == 0 && !euBands.any fun b => b.holds (c2 n c) (bw n)))).map fun n => (5, F.CH_CHEN n)

/-- The fields of a route's word 0 name a port that exists (R244, R40). -/
def routeOk (w : Word) : Bool :=
  match w.field 2 1 with
  | 0 => decide (w.field 9 3 < 32)
  | 1 => decide (w.field 9 3 < 96)
  | 2 => decide (w.field 9 3 < 4)
  | _ => false

/-- MAC: endpoint partitions (R40, R224) and routes. -/
def State.macBreaches (s : State) : List Breach :=
  let ps := (List.range 8).map fun k => (s.getF (F.MC_PART0_BASE k), s.getF (F.MC_PART1_SIZE k))
  (if overlaps (ps.filter (·.2 != 0)) || ps.any (fun x => decide (131072 < x.1 + x.2)) then [(7, F.MC_PART0 0)] else []) ++
  (s.map.filter fun c => decide (0x20800000 ≤ c.1) && decide (c.1 < 0x20900000) && c.1 % 16 == 0 && c.2.bit 0 &&
    !routeOk c.2).map fun c => (7, c.1)

/-- An enabled queue breaks R280 or R281 by itself. -/
def State.queueBreach (s : State) (stores : List Nat) (q : Nat) : Bool :=
  let size := 64 * 2 ^ s.getF (F.QM_QPLACE_SIZE q)
  let at_ := 64 * s.getF (F.QM_QPLACE_BASE q)
  let lo := 256 * s.getF (F.QM_SHELF_BASE (q / 64))
  let hi := lo + 256 * s.getF (F.QM_SHELF_LEN (q / 64))
  at_ % size != 0 || decide (4194304 < at_ + size) || decide (at_ < lo) || decide (hi < at_ + size) ||
    s.flag (F.QM_QPLACE_STORE q) != stores.contains q

/-- QUEUE: placement (R40, R280, R281); queues of different shelves cannot overlap where the shelves do not. -/
def State.queueBreaches (s : State) : List Breach :=
  let stores := ((List.range 8).filter fun k => s.getF (F.MC_PART1_SIZE k) != 0).map fun k => s.getF (F.MC_PART2_MBXQ k)
  let shelves := ((List.range 256).map fun x => (s.getF (F.QM_SHELF_BASE x), s.getF (F.QM_SHELF_LEN x))).filter (·.2 != 0)
  (if overlaps shelves then [(8, F.QM_SHELF 0)] else []) ++
  (List.range 256).flatMap fun h =>
    let qs := ((List.range 64).map (64 * h + ·)).filter fun q => s.flag (F.QM_QPLACE_EN q)
    (if overlaps (qs.map fun q => (s.getF (F.QM_QPLACE_BASE q), 2 ^ s.getF (F.QM_QPLACE_SIZE q))) then
      [(8, F.QM_QPLACE (64 * h))] else []) ++
    (qs.filter (s.queueBreach stores)).map fun q => (8, F.QM_QPLACE q)

/-- KEYPART: drawer partitions (R40, R253). -/
def State.keyBreaches (s : State) : List Breach :=
  let ps := (List.range 16).map fun k => (s.getF (F.CX_DPART0_BASE k), s.getF (F.CX_DPART0_SIZE k))
  if overlaps (ps.filter (·.2 != 0)) || ps.any (fun x => decide (4096 < x.1 + x.2)) then [(9, F.CX_DPART0 0)] else []

/-- BENCH, PEER and TIMING: role and strap (R345), no peer port on a member (R366), the reference of a member (R85). -/
def State.benchBreaches (s : State) : List Breach :=
  let role := s.benchRole
  let m := s.getF F.BN_CFG_MEMBER
  (if (role = roleMASTER ∧ (s.mode.benchMasterN ∨ m ≠ 0)) ∨ (role = roleMEMBER ∧ (!s.mode.benchMasterN ∨ m = 0)) ∨
      (role ≠ roleNONE ∧ s.nmemb < m) then [(10, F.BN_CFG)] else []) ++
  (if 512 < s.lentOut then [(10, F.BN_LEASE 0)] else []) ++
  (if (List.range 4).any (fun p => s.getF (F.PF_PORTCFG_LANES p) != 0) ∧
      (s.getF F.PF_CFG_ADDR = 0 ∨ s.getF F.PF_CFG_ADDR = 65535) then [(11, F.PF_CFG)] else []) ++
  ((List.range 4).filter fun p => role == roleMEMBER && s.getF (F.PF_PORTCFG_LANES p) != 0).map (fun p => (11, F.PF_PORTCFG p)) ++
  (if (role = roleMEMBER) ↔ s.getF F.TB_REFCFG_SEL = 4 then [] else [(13, F.TB_REFCFG)])

/-- Logical slots of a kind: the units live in the factory default structure (R373). -/
def kindSlots : Nat → Nat
  | 0 => 96 | 1 => 96 | 2 => 32 | 3 => 2048 | 4 => 64 | 5 => 32 | _ => 4

/-- SPARE: every logical slot has exactly one LIVE unit (R380); a demodulator's LOGICAL is not used. -/
def State.spareBreaches (s : State) : List Breach :=
  ((List.range 7).filter fun k =>
    let l := ((List.range (kindUnits k)).filter fun u => s.getF (mapRole k u) == 1).map fun u => s.getF (mapLogical k u)
    l.length != kindSlots k || (k != 3 && (List.range (kindSlots k)).any fun i => !l.contains i)).map fun k => (12, mapBase k)

/-- REGION: band F of a port, active or not, with fewer than 32 unmasked carriers at its preset (R142). -/
def State.regionBreaches (s : State) : List Breach :=
  if (List.range 96).any fun p => s.hasBand p 3 && decide (s.openCarriers (if s.preset p = 1 then 199 else 312) < 32) then
    [(14, F.PL_FMASK 0)] else []

/-- The breach with the lowest section type, the first of them. -/
def firstBreach (l : List Breach) : Option Breach :=
  l.foldl (fun b x => match b with
    | none => some x
    | some y => if x.1 < y.1 then some x else some y) none

/-- The consistency fault of the structure the state holds, if it has one (R40). -/
def State.inconsistent (s : State) : Option Breach :=
  firstBreach (s.valueBreaches ++ s.portBreaches ++ s.filterBreaches ++ s.phyBreaches ++ s.accessBreaches ++ s.radioBreaches ++
    s.macBreaches ++ s.queueBreaches ++ s.keyBreaches ++ s.benchBreaches ++ s.spareBreaches ++ s.regionBreaches)

/-! ## What an amendment may not change (R56) -/

/-- The partition that holds drawer `d` or entry `e`, by BASE and SIZE. -/
def partIn (ps : List (Nat × Nat)) (i : Nat) : Option Nat := ps.findIdx? fun x => decide (x.1 ≤ i) && decide (i < x.1 + x.2)

def State.drawerParts (s : State) : List (Nat × Nat) :=
  (List.range 16).map fun k => (s.getF (F.CX_DPART0_BASE k), s.getF (F.CX_DPART0_SIZE k))
def State.epParts (s : State) : List (Nat × Nat) :=
  (List.range 8).map fun k => (s.getF (F.MC_PART0_BASE k), s.getF (F.MC_PART1_SIZE k))

/-- Drawers that hold a key. -/
def State.keyedDrawers (s : State) : List Nat :=
  (s.cipher.keys.filter fun x => decide (2 ^ 17 ≤ x.1) && (x.2.cur.isSome || x.2.prev.isSome)).map (·.1 - 2 ^ 17)

/-- Occupied endpoint entries: the words 0 of the table that differ from reset with a STATE other than FREE. -/
def State.usedEntries (s : State) : List Nat :=
  (s.map.filter fun c => decide (0x20000000 ≤ c.1) && decide (c.1 < 0x20800000) && c.1 % 64 == 0).map (fun c => (c.1 - 0x20000000) / 64)
    |>.filter fun e => s.epState e != epFREE

/-- A retired unit's ST words that differ in `t`, the state amended: its SPARE entry no longer RETIRED, or its lane's words. -/
def State.retiredTouched (s t : State) (u : UnitRef) : Option Nat :=
  let k := u.kind.val
  if 6 < k then none
  else if t.getF (mapRole k u.unit) ≠ 2 ∨ t.getF (mapLogical k u.unit) ≠ s.getF (mapLogical k u.unit) then
    some (mapBase k + 4 * (u.unit / 2))
  else if k ≠ 0 then none
  else if s.word (F.SC_LANECFG u.unit) ≠ t.word (F.SC_LANECFG u.unit) then some (F.SC_LANECFG u.unit)
  else (List.range 96).findSome? fun i =>
    if s.word (F.SC_LANECOEF u.unit i) ≠ t.word (F.SC_LANECOEF u.unit i) then some (F.SC_LANECOEF u.unit i) else none

/-- A bench group whose lanes run. -/
def State.groupRuns (s : State) (g : Nat) : Bool := s.groupEnabled g && s.getF (grpState g) != 0

/-- The address of a word that R56 forbids `t`, the state amended, to differ in from `s`, but for shelves. -/
def State.forbidden (s t : State) : Option Nat :=
  if s.getF F.BN_CFG_ROLE ≠ t.getF F.BN_CFG_ROLE ∨ s.getF F.BN_CFG_MEMBER ≠ t.getF F.BN_CFG_MEMBER then some F.BN_CFG
  else match (List.range 2).find? fun g => s.groupRuns g && s.getF (F.BN_GRPCFG_LANES g) != t.getF (F.BN_GRPCFG_LANES g) with
  | some g => some (F.BN_GRPCFG g)
  | none =>
    if s.small ≠ t.small then
      ((List.range 96).find? fun p => s.getF (F.SC_LPCFG_ACTIVE p) != t.getF (F.SC_LPCFG_ACTIVE p)).map fun p => F.SC_LPCFG p
    else match s.faults.retired.findSome? (s.retiredTouched t) with
    | some a => some a
    | none =>
      if s.keyedDrawers.any fun d => partIn s.drawerParts d != partIn t.drawerParts d then
        ((List.range 16).find? fun k => s.word (F.CX_DPART0 k) != t.word (F.CX_DPART0 k)).map fun k => F.CX_DPART0 k
      else if s.epParts ≠ t.epParts ∧ s.usedEntries.any fun e => partIn s.epParts e != partIn t.epParts e then
        ((List.range 8).find? fun k => s.word (F.MC_PART0 k) != t.word (F.MC_PART0 k) || s.word (F.MC_PART1 k) != t.word (F.MC_PART1 k)).map
          fun k => F.MC_PART0 k
      else none

/-- A shelf with a live queue that is changed while one of its queues is not empty (R56), or a queue's own placement (R292). -/
def State.placeForbidden (s t : State) : Option Nat :=
  match (List.range 256).find? fun h => s.word (F.QM_SHELF h) != t.word (F.QM_SHELF h) &&
      (List.range 64).any fun i => s.flag (F.QM_QPLACE_EN (64 * h + i)) && !s.qEmpty (64 * h + i) with
  | some h => some (F.QM_SHELF h)
  | none => ((List.range 16384).find? fun q => s.word (F.QM_QPLACE q) != t.word (F.QM_QPLACE q) &&
      s.flag (F.QM_QPLACE_EN q) && !s.qEmpty q).map fun q => F.QM_QPLACE q

end Sys2Proof.Machine
end

