-- ==== Sys2Proof/Machine/LoadOps.lean ====
section
/-! DEFINITION. A structure goes live (R47, R49, R124, R386): the structure summary of the ledger, the units that start, and the
two ends of a load. -/
namespace Sys2Proof.Machine
open Sys2Proof

/-! ## The ledger (R386) -/

/-- Blocks 4 and 5 of the ledger: CF_STATUS, CF_SEQ, CF_IMAGEID, STEP_MASK, DT of load, SC_STATUS, MD_DOMCFG0, MD_DOMCFG1. -/
def State.summary (s : State) : List Byte :=
  let w := fun a => bytesLE 4 (s.readWord a).toNat
  w F.CF_STATUS ++ w F.CF_SEQ ++ w F.CF_IMAGEID ++ bytesLE 4 s.struct_.stepMask ++ bytesLE 8 s.struct_.loadedAt ++
    w F.SC_STATUS ++ w F.MD_DOMCFG0 ++ w F.MD_DOMCFG1 ++ List.replicate 28 0

/-- The structure summary written (R386). -/
def State.writeSummary (s : State) : State := (s.lupdate 4 (s.summary.take 32)).lupdate 5 (s.summary.drop 32)

/-- The first 64 bytes of EXTRA written (R42). -/
def State.writeExtra (s : State) (x : List Byte) : State :=
  let b := (x ++ List.replicate 64 0).take 64
  (s.lupdate 6 (b.take 32)).lupdate 7 (b.drop 32)

/-! ## Going live (R47, R124, R131) -/

/-- CX_FAULTSTAT shows the SPARE map's pipelines (R274). -/
def State.showPipes (s : State) : State := (List.range 5).foldl (fun a u =>
  (a.setF ⟨F.CX_FAULTSTAT, u, u⟩ (boolNat (s.role kPIPE u == roleLIVE))).setF ⟨F.CX_FAULTSTAT, 5 + u, 5 + u⟩
    (boolNat (s.role kPIPE u == roleRETIRED))) s

/-- RUN is set for every lane that serves an active port (R124). -/
def State.runLanes (s : State) : State := (List.range 104).foldl (fun a i =>
  let p := s.getF (F.SC_LANECFG_PORT i)
  if p < 96 ∧ s.flag (F.SC_LPCFG_ACTIVE p) then a.setF (F.SC_LANECTL_RUN i) 1 else a) s

/-- The structure the map holds goes live in this tick: queue memory is clear, and every unit starts from its structure. No
domain changes state (R425). -/
def State.goLive (s : State) (key : List Byte) (step : Nat) : State :=
  let s1 : State := { s with
    qmem := [], queues := {}
    struct_ := { live := true, keyDigest := key, stepMask := step, loadedAt := s.ns } }
  (List.range 43).foldl (fun a d => a.domainComesOn d) ((List.range 96).foldl (fun a p => a.capRealign p) s1.showPipes.runLanes)

/-- The source of the load in progress: the host (R46, R71). -/
def State.hostSource (s : State) : Bool := s.mode.bootSrc || s.mode.hostLoad

/-- The load is over: no command is held. -/
def State.loadOver (s : State) : State := { s with mode := { s.mode with loadCmd := none } }

/-- A load failed in R47 with a cause at a section (R49): the factory default structure goes live, and DEFAULTED begins with its
self-test (R62). -/
def State.loadFail (s : State) (cause type : Nat) : State :=
  let s1 := (s.loadOver.factoryStructure).goLive [] 0
  let s2 := (((s1.setWord F.CF_STATUS 0).setF F.CF_STATUS_DEFAULTED 1).setF F.CF_STATUS_SOURCE (boolNat s.hostSource)).setF
    F.CF_STATUS_CAUSE cause
  let s3 := ((s2.setF F.CF_STATUS_FAILTYPE type).setWord F.CF_IMAGEID 0).setWord F.CF_SEQ 0
  let s4 := ((s3.writeSummary.writeExtra []).notice ncIMAGE_DEFAULTED 0 [(8, cause), (8, type)]).changeMode .DEFAULTED 0x02
  { s4 with mode := { s4.mode with testing := true } }

/-- An image passed every check but CONSISTENCY: its structure, built over the factory values (R41). -/
def State.built (s : State) (im : Image) : State := s.factoryStructure.imageWrites im.writes

/-- The image loads (R47): its structure goes live and CHECK begins. -/
def State.loadImage (s : State) (im : Image) : State :=
  let s1 := (s.loadOver.built im).goLive im.keyDigest im.stepMask
  let s2 := ((s1.setWord F.CF_STATUS 0).setF F.CF_STATUS_SIGNED (boolNat im.signed)).setF F.CF_STATUS_KEYMATCH
    (boolNat (im.signed && s.fuse.blown && im.keyDigest == s.fuse.digest))
  let s3 := ((s2.setF F.CF_STATUS_SOURCE (boolNat s.hostSource)).setWord F.CF_IMAGEID (BitVec.ofNat 32 im.id)).setWord F.CF_SEQ
    (BitVec.ofNat 32 im.sequence)
  (s3.writeSummary.writeExtra im.extra).changeMode .CHECK 0x01

/-- The digest a signed image must match, where the fuse is blown (R45). -/
def State.fusedDigest (s : State) : Option (List Byte) := if s.fuse.blown then some s.fuse.digest else none

/-- The loader's checks of R47 in order, CONSISTENCY last, on the bytes it has read of an offer of `avail` bytes. -/
def State.checkLoaded (s : State) (b : List Byte) (avail : Nat) : State :=
  match checkImage b avail false (s.getF F.MD_ID_STEPPING) s.fusedDigest with
  | .error (cause, type) => s.loadFail cause type
  | .ok im => match (s.built im).inconsistent with
    | some (type, _) => s.loadFail lcCONSISTENCY type
    | none => s.loadImage im

end Sys2Proof.Machine
end

