-- ==== Sys2Proof/Machine/PlcRx.lean ====
section
/-! DEFINITION. Reception on a band channel (R155 to R157, R164, R165, R169 to R171, R177 to R179): from the detection to the
due frame. -/
namespace Sys2Proof.Machine
open Sys2Proof

/-- A band channel's receiver can detect (R155, R156): in SEARCH on the port its group receives on, its modem engine at
work. -/
def State.plcSearching (s : State) (p b : Nat) : Bool :=
  s.rxState (s.rxHome p) b == 1 && s.lineActive p && s.bandLive p b && !s.modemDown p

/-- A milestone of a reception whose symbol ended at `end_` comes now: not before it, and no later than `lim` ns (R157). -/
def State.within (s : State) (end_ lim : Nat) : Bool := decide (end_ ≤ s.ns) && decide (s.ns ≤ end_ + lim)

/-- The windows of the two search transforms of a pair, 640 µs each and 680 µs apart, the later one ending at `end_`, hold no sample
tagged INV or GAP (R114, R156). -/
def State.windowsValid (s : State) (p end_ : Nat) : Bool :=
  s.validIn p ((end_ - 640000) * 65536) (end_ * 65536) && s.validIn p ((end_ - 1320000) * 65536) ((end_ - 680000) * 65536)

/-- PLC_DETECT (R156): SEARCH to SYNC, where the metric of both pairs, `metric` sixteenths at the lower, reaches DETTHR. -/
def plcDetect (p : LinePort) (b : Band) (metric end_ : Nat) (s : State) : State :=
  let h := s.rxHome p
  if s.plcSearching p b.num && decide (s.getF (F.PL_BANDCFG_DETTHR p b.num) ≤ metric) && s.within end_ 40000 &&
     s.windowsValid p end_ then
    (s.setRx h b.num 2 (some { detected := s.ns, port := p })).bump (F.PL_RXCNT_DETECT h b.num)
  else s

/-- PLC_DETECT (R156). -/
def execPlcDetect (p : LinePort) (w : DetWindows) (s : State) : Result := .next (plcDetect p w.band w.metric w.end_ s)

/-- PLC_SYNCM (R156): SYNC to HEADER; `start` is the stamp of the frame's first prefix sample. The first SYNCM ends within 16 symbols
of the detection. -/
def plcSyncm (p : LinePort) (b : Band) (deep : Bool) (start : Nat) (s : State) : State :=
  let h := s.rxHome p
  match (s.pchan h b.num).rx with
  | some r =>
    if s.rxState h b.num = 2 && s.within (start + preambleSyms deep * 680000) 40000 &&
       decide (start + (if deep then 15 else 8) * 680000 ≤ r.detected + 16 * 680000) then
      s.setRx h b.num 3 (some { r with port := p, start := start, deep := deep })
    else s
  | none => s

/-- PLC_SYNCM (R156). -/
def execPlcSyncm (p : LinePort) (b : Band) (deep : Bool) (start : Nat) (s : State) : Result :=
  .next (plcSyncm p b deep start s)

/-- PLC_SYNC_TIMEOUT (R156): no SYNCM within 16 symbols of the detection. -/
def plcSyncTimeout (p : LinePort) (b : Band) (s : State) : State :=
  let h := s.rxHome p
  match (s.pchan h b.num).rx with
  | some r =>
    if s.rxState h b.num = 2 ∧ r.detected + 16 * 680000 ≤ s.ns then
      (s.setRx h b.num 1 none).bump (F.PL_RXLOSS_FALSEDET h b.num)
    else s
  | none => s

/-- PLC_SYNC_TIMEOUT (R156). -/
def execPlcSyncTimeout (p : LinePort) (b : Band) (s : State) : Result := .next (plcSyncTimeout p b s)

/-- The conditions under which a header is taken (R156); the frame's symbols where it is. -/
def State.headerSyms (s : State) (p b : Nat) (r : PlcReception) (h : Word) : Option Nat :=
  let n := frameSyms (phMode h) (phLen h) (s.nCar p b)
  if phCrcOk h && decide (phMode h < 5) && decide (1 ≤ phLen h) && decide (phLen h ≤ 2048) && (phMode h == 4) == r.deep &&
     decide (n ≤ 4096)
  then some n else none

/-- The end of the last header symbol of a reception. -/
def PlcReception.headerEnd (r : PlcReception) (ncar : Nat) : Nat :=
  r.start + (preambleSyms r.deep + Machine.headerSyms r.deep ncar) * 680000

/-- PLC_HEADER_DECIDED (R156). -/
def plcHeaderDecided (p : LinePort) (b : Band) (header : Word) (s : State) : State :=
  let h := s.rxHome p
  match (s.pchan h b.num).rx with
  | some r =>
    if s.rxState h b.num ≠ 3 || !s.within (r.headerEnd (s.nCar h b.num)) 60000 then s
    else match s.headerSyms h b.num r header with
      | some n => s.setRx h b.num 4 (some { r with header := header, nsym := n })
      | none => (s.setRx h b.num 1 none).bump (F.PL_RXERR_HDRFAIL h b.num)
  | none => s

/-- PLC_HEADER_DECIDED (R156). -/
def execPlcHeaderDecided (p : LinePort) (b : Band) (header : Word) (s : State) : Result :=
  .next (plcHeaderDecided p b header s)

/-! ## The due frame -/

/-- The mains angle of a port's tracker at `t`, zero while UNLOCKED (R93, R165). -/
def State.angleAt (s : State) (p t : Nat) : Nat := (((s.tracker p).fit).map (·.angle (t * 65536))).getD 0

/-- The PL_BLANK words of a port in force at the symbol window that starts at `t` (R158). -/
def State.blankAt (s : State) (p t : Nat) : Word × Word :=
  match ((aget [] s.plc.blankWas p).filter fun x => decide (t < x.1)).getLast? with
  | some x => x.2
  | none => (s.word (F.PL_BLANK p 0), s.word (F.PL_BLANK p 1))

/-- An enabled blanking window covers a mains angle (R158, R166). -/
def blankCovers (w : Word) (angle : Nat) : Bool :=
  w.bit 31 && decide ((angle + 65536 - w.field 15 0) % 65536 < w.field 27 16 * 16)

/-- The total phase delay of a port in 2^-16 ns (R116). -/
def State.phaseDelay (s : State) (p : Nat) : Nat := (s.getF (F.SC_LPDLY_DELAY p) * 64 + s.getF (F.SC_LPDLY_FRAC p)) * 20000

/-- A received sample of port `p` is nulled (R158): `st` is its stamp, `t` the start of its symbol window, `over` its tag OVL. -/
def State.nulled (s : State) (p t st : Nat) (ovl : Bool) : Bool :=
  ovl || s.invAt p st || (match (s.tracker p).fit with
    | some f =>
      let w := s.blankAt p t
      let a := f.angle (st - s.phaseDelay p)
      blankCovers w.1 a || blankCovers w.2 a
    | none => false)

/-- Symbol `i` of a reception is erased (R158): more than 25 % of the samples of its body are nulled. -/
def State.symbolErased (s : State) (r : PlcReception) (ovl : List Nat) (i : Nat) : Bool :=
  let d := presetD (s.preset r.port)
  let per := s.period16 r.port
  let t := r.start + i * 680000
  let first := i * (bodySamples d + prefixSamples d) + prefixSamples d
  let st := fun k => (ceilDiv (r.start * 65536) per + first + k) * per
  let n := ((List.range (bodySamples d)).filter fun k => s.nulled r.port t (st k) (ovl.contains (first + k))).length
  decide (bodySamples d < 4 * n)

/-- Some sample of the frame may be nulled: an overload, a settling interval, or an enabled window. -/
def State.mayErase (s : State) (r : PlcReception) (ovl : List Nat) : Bool :=
  let w := fun j => (s.word (F.PL_BLANK r.port j)).bit 31
  !ovl.isEmpty || !s.validIn r.port (r.start * 65536) ((r.lastSymbol + 10000) * 65536) || w 0 || w 1 ||
    !(aget [] s.plc.blankWas r.port).isEmpty

/-- The erased symbols of the header and the payload (R158). -/
def State.erasedSyms (s : State) (r : PlcReception) (ovl : List Nat) : Nat :=
  if s.mayErase r ovl then
    ((List.range (r.nsym - preambleSyms r.deep)).filter fun i => s.symbolErased r ovl (preambleSyms r.deep + i)).length
  else 0

/-- Words 1 to 5 of the receive record and the carrier SNR map (R164, R165). -/
def State.plcRecord (s : State) (h b : Nat) (r : PlcReception) (rx : PlcRx) : List Word :=
  let g := h / 3
  let snr := rx.snr.map (clampInt (-128) 127)
  let mean := meanSnr snr
  let phase := if s.getF (F.PL_FGCFG_COMB g) = 2 then 3 else r.port % 3
  let map := s.flag (F.PL_BANDCFG_SNRMAP h b)
  [BitVec.ofNat 32 (phLen r.header + phMode r.header * 2 ^ 12 + phFt r.header * 2 ^ 15 + b * 2 ^ 17 + phase * 2 ^ 19 +
     h * 2 ^ 21 + boolNat map * 2 ^ 28),
   lo32 r.start, hi32 r.start,
   BitVec.ofNat 32 (lqi mean + unsignedOf 8 mean * 2 ^ 8 + min 255 rx.rsCorr * 2 ^ 16 + min 255 (s.erasedSyms r rx.overloads) * 2 ^ 24),
   BitVec.ofNat 32 (s.angleAt r.port r.start + r.nsym * 2 ^ 16)] ++
  (if map then wordsOfBytes (snr.map fun x => BitVec.ofNat 8 (unsignedOf 8 x)) else [])

/-- The attempt answers to an ACK PSDU that arrives on port `p` (R179): sent there, or on a group that combines. -/
def State.ackAnswers (s : State) (p : Nat) (psdu : List Byte) (a : PlcAttempt) : Bool :=
  a.waiting && psdu.length == 6 && s.toMe (le32 psdu 0) && (psdu.getD 4 0).toNat == a.seq && decide (s.ns ≤ a.deadline) &&
    ((s.txPorts a.on_).any (·.1 == p) || s.combines (p / 3))

/-- A matching ACK resolves the attempt that waits for it (R174, R179); any other is ignored. -/
def State.plcAckIn (s : State) (p b : Nat) (psdu : List Byte) : State :=
  let held := (List.range 3).findSome? fun i =>
    let h := 3 * (p / 3) + i
    ((s.pchan h b).attempt.filter fun a => s.ackAnswers p psdu a).map fun a => (h, a)
  match held with
  | none => s
  | some (h, a) => if bitAt psdu 5 0 then s.ackMissed h b a else s.releaseAttempt h b a.queue

/-- A DATA or MGMT PSDU that is refused as a header fault (R169), or too short for its MAC header. -/
def plcHeaderFault (psdu : List Byte) (ft : Nat) : Bool :=
  decide (psdu.length < 12) || decide (psdu.length < macLen psdu) || decide (psduRptN psdu < psduRptIdx psdu) ||
    (psduAckReq ft psdu && psduDst psdu == bcast)

/-- The frame concerns the device (R171): to it, broadcast, or the device its acting repeater. -/
def State.plcForMe (s : State) (psdu : List Byte) : Bool :=
  s.toMe (psduDst psdu) || psduDst psdu == bcast || (match psduActing psdu with
    | some a => s.toMe a
    | none => false)

/-- The ACK reservation and the ACK a decoded frame asks for (R177, R178). -/
def State.plcOweAck (s : State) (p b : Nat) (psdu : List Byte) (ft mode frameEnd : Nat) : State :=
  if psduAckReq ft psdu then
    let c := s.pchan p b
    let own := s.plcForMe psdu && s.accAckEn p && b != 2
    let due : Option PlcAckDue := if own then some {
        at_ := frameEnd + 680000, dst := psduTransmitter psdu, seq := psduSeq psdu, mode := mode,
        verifiedBy := frameEnd + 500000 }
      else c.ack
    s.setPchan p b { c with reservedTo := max c.reservedTo (s.reserveEnd p b mode frameEnd), ack := due }
  else s

/-- A decoded frame by its type (R169, R171). -/
def State.plcDecoded (s : State) (h b : Nat) (r : PlcReception) (rx : PlcRx) (psdu : List Byte) : State :=
  let ft := phFt r.header
  let fe := r.start + symsDur r.nsym
  match ft with
  | 1 => s.plcAckIn r.port b psdu
  | 2 => s
  | _ =>
    if plcHeaderFault psdu ft then s.bump F.PL_RPTSTAT1_OVERHEARD
    else
      let s1 := s.plcOweAck h b psdu ft (phMode r.header) fe
      if !s.plcForMe psdu then s1.bump F.PL_RPTSTAT1_OVERHEARD
      else s1.frameIn { medium := 0, port := h, band := b, record := s.plcRecord h b r rx, body := psdu, due := s.ns, end_ := fe }

/-- PLC_FRAME_DUE (R156): OK and due, or RSFAIL. It comes after the launched actions of its tick (R19). -/
def plcFrameDue (p : LinePort) (b : Band) (rx : PlcRx) (s : State) : State :=
  let h := s.rxHome p
  let c := b.num
  match (s.pchan h c).rx with
  | none => s
  | some r =>
    if r.nsym = 0 ∨ !s.within r.lastSymbol 150000 ∨ s.rxState h c = 2 ∨ s.rxState h c = 3 ∨ s.launchesDue then s
    else
      let s1 := s.setRx h c (if s.rxState h c = 4 then 1 else s.rxState h c) none
      let s2 := (s1.bump (F.PL_CORR_RSCORR h c) rx.rsCorr).bump (F.PL_CORR_ERASED h c) (s.erasedSyms r rx.overloads)
      match rx.psdu with
      | none => s2.bump (F.PL_RXERR_RSFAIL h c)
      | some psdu =>
        if psdu.length ≠ phLen r.header then s
        else
          let m := meanSnr (rx.snr.map (clampInt (-128) 127))
          let s3 := ((s2.setF (F.PL_RXQUAL_LQI h c) (lqi m)).setF (F.PL_RXQUAL_MEAN_SNR h c) (unsignedOf 8 m)).bump
            (F.PL_RXCNT_OK h c)
          s3.plcDecoded h c r rx psdu

/-- PLC_FRAME_DUE (R156). -/
def execPlcFrameDue (p : LinePort) (b : Band) (rx : PlcRx) (s : State) : Result := .next (plcFrameDue p b rx s)

/-- PLC_SUSPEND_END (R155): suspended receivers of the port return to SEARCH. -/
def plcSuspendEnd (p : LinePort) (s : State) : State :=
  if s.ns < aget 0 s.plc.suspendTo p then s
  else (List.range 4).foldl (fun a b => if a.rxState p b = 5 then a.rxTo p b 1 else a) s

/-- PLC_SUSPEND_END (R155). -/
def execPlcSuspendEnd (p : LinePort) (s : State) : Result := .next (plcSuspendEnd p s)

end Sys2Proof.Machine
end

