-- ==== Sys2Proof/Machine/Chirp.lean ====
section
/-! DEFINITION. The commands and events of the chirp radio (chapter 08): detections and the demodulator pool, held frames to
the due frame, transmissions from the item read to the end of the down-ramp. -/
namespace Sys2Proof.Machine
open Sys2Proof

/-! ## Detection (R204, R209) -/

/-- The port's detector on channel `c` and spreading factor `sf` + 5 searches now (R204). -/
def State.searching (s : State) (n c sf : Nat) : Bool :=
  s.getF (F.SC_RFSTAT_STATE n) == 2 && !s.flag (F.CH_PAIRSTAT_SUSPENDED n) && s.domOn domCHC &&
    s.chanOn n c && s.sfSearched n c sf && (match s.unitOf kDETECTOR n with
      | some u => !s.isWedged kDETECTOR u
      | none => false)

/-- A detection is the frame `d` already held (R204): within one bin, and within M/8 chips modulo one symbol. -/
def State.sameFrame (s : State) (d : Demod) (bin start : Nat) : Bool :=
  let t := tSym d.det.sf (s.chmode d.det.port)
  let x := (start + t - d.det.start % t) % t
  nearBin d.det.sf d.det.bin bin && (decide (x ≤ t / 8) || decide (t - t / 8 ≤ x))

/-- Its start lies less than one symbol from that of a held frame (R209). -/
def State.tooClose (s : State) (d : Demod) (start : Nat) : Bool :=
  let t := tSym d.det.sf (s.chmode d.det.port)
  decide (start < d.det.start + t) && decide (d.det.start < start + t)

/-- A milestone whose symbol ended at `end_` comes now: not before it, and no later than T_sym/8 + `lim` (R210); the bounds hold for
FELAT up to 10 µs, and a lent stream comes later by the way across the bench (R364). -/
def State.chirpTime (s : State) (d : Detection) (lent : Bool) (chmode end_ lim : Nat) : Bool :=
  decide (end_ ≤ s.ns) && (lent || decide (10000 < s.getF (F.SC_RFCFG_FELAT d.port)) ||
    decide (s.ns ≤ end_ + tSym d.sf chmode / 8 + lim))

/-- The four windows of a detection that starts at `start` (R204): over, declared in time, their peak-to-average ratios, `ratio` half
decibels at the lowest, at the threshold, and no sample of them INV or GAP. -/
def State.windowsMatch (s : State) (d : Detection) (ratio : Nat) : Bool :=
  let n := d.port
  let m := s.chmode n
  let e := d.start + 4 * tSym d.sf m
  s.chirpTime d false m e 2000 && decide (12 + s.getF (F.CH_DETCFG_DETTHR n) ≤ ratio) &&
    s.rfValidIn n (d.start * 65536) (e * 65536)

/-- CHIRP_DETECT (R204, R209). -/
def chirpDetect (n : RfPort) (ch : Fin 32) (sf : Fin 8) (bin start ratio : Nat) (power : Int) (s : State) : State :=
  let held := s.heldOn n ch sf
  let d : Detection := { port := n, chan := ch, sf := sf, bin := bin, start := start, power := power, tick := s.tick }
  if !s.searching n ch sf ∨ !s.windowsMatch d ratio ∨ held.any (s.sameFrame · bin start) then s
  else
    let s1 := s.bump (F.CH_DETCNT_DETECT n)
    if 3 ≤ held.length ∨ held.any (s.tooClose · start) then s1.bump (F.CH_STACK_STACKMISS n)
    else { s1 with chirp := { s1.chirp with waiting := s1.chirp.waiting ++ [d] } }

/-- CHIRP_DETECT (R204). -/
def execChirpDetect (n : RfPort) (ch : Fin 32) (sf : Fin 8) (bin start : Nat) (m : DetLevel) (s : State) : Result :=
  .next (chirpDetect n ch sf bin start m.ratio m.power s)

/-! ## The allocator (R205, R363) -/

/-- The detector number (R13). -/
def Detection.number (d : Detection) : Nat := 256 * d.port + 8 * d.chan + d.sf

/-- The detection the allocator serves next: earliest tick, then lowest detector number (R205). -/
def nextDetection : List Detection → Option Detection
  | [] => none
  | d :: t => match nextDetection t with
    | some x => if x.tick < d.tick ∨ (x.tick = d.tick ∧ x.number < d.number) then some x else some d
    | none => some d

/-- The digital gain G of class U in 0.5 dB steps (R211): mean channel power to -18 dBFS. -/
def gainU (power : Int) : Nat := (clampInt 0 127 ((-72 - power) / 2)).toNat

/-- A detection takes a demodulator of the device (R205, R206, R209). -/
def State.grantLocal (s : State) (d : Detection) (u : Nat) : State :=
  let held := s.heldOn d.port d.chan d.sf
  let x : Demod := {
    slot := u, det := d, step := s.getF (F.CH_PAIRSTAT_RXSTEP d.port),
    stack := min 2 (held.filter fun h => decide (d.power + 24 ≤ h.det.power)).length }
  let l := s.chirp.demods.map fun h =>
    if held.contains h && decide (h.det.power + 24 ≤ d.power) then { h with stack := min 2 (h.stack + 1) } else h
  let s1 := s.setDemods (l ++ [x])
  if held.isEmpty then s1 else s1.bump (F.CH_STACK_STACKED d.port)

/-- A detection uses a credit of lender `m` (R363, R364): the stream starts. -/
def State.grantCredit (s : State) (d : Detection) (m : Nat) : State :=
  let k := s.bench.streams
  let step := s.getF (F.CH_PAIRSTAT_RXSTEP d.port)
  let c := s.streamFirst d.port d.start
  let x : Demod := { slot := k, det := d, step := step, lender := some m, first := c, next := c }
  let s1 := (({ s with bench := { s.bench with streams := (k + 1) % 65536 } } : State).setF (F.BN_CREDIT_CREDITS m)
    (s.getF (F.BN_CREDIT_CREDITS m) - 1)).setDemods (s.chirp.demods ++ [x])
  s1.benchPost m (.lease (.start k d.port d.chan d.sf (s.chmode d.port) step (gainU d.power) d.start)) |>.streamCells d.port

/-- The allocator's answer to a detection (R205, R363). -/
def State.allocate (s : State) (d : Detection) : State :=
  let free := s.poolFree
  let classU := s.getF (F.CH_PORTCFG_GCLASS d.port) == 0
  let stack := !(s.heldOn d.port d.chan d.sf).isEmpty
  match (if free = 0 then none else s.freeUnits.head?) with
  | some u =>
    if classU && decide (free ≤ s.getF F.CH_POOLCFG_RESERVE) then s.bump F.CH_POOLMISS_RESERVED else s.grantLocal d u
  | none =>
    if s.flag F.BN_CFG_BORROW && !stack && !classU then
      match s.bestLender with
      | some m => s.grantCredit d m
      | none => s.bump F.CH_POOLMISS_EMPTY
    else s.bump F.CH_POOLMISS_EMPTY

/-- DEMOD_GRANT (R205): the detection first in the allocator's order is served; any other waits. -/
def demodGrant (n : RfPort) (ch : Fin 32) (sf : Fin 8) (s : State) : State :=
  match nextDetection s.chirp.waiting with
  | none => s
  | some d =>
    if d.port = n.val ∧ d.chan = ch.val ∧ d.sf = sf.val then
      ({ s with chirp := { s.chirp with waiting := s.chirp.waiting.erase d } } : State).allocate d
    else s

/-- DEMOD_GRANT (R205). -/
def execDemodGrant (n : RfPort) (ch : Fin 32) (sf : Fin 8) (s : State) : Result := .next (demodGrant n ch sf s)

/-- POOL_HW_CLEAR (R219). -/
def poolHwClear (s : State) : State := s.setF F.CH_POOLSTAT_HIGH_WATER (s.getF F.CH_POOLSTAT_BUSY)

/-! ## Held frames (R206, R207) -/

/-- The frame a physical demodulator holds. -/
def State.demodAt (s : State) (u : Nat) : Option Demod := s.chirp.demods.find? fun d => d.slot == u && d.lender.isNone

/-- A held frame changed in place. -/
def State.changeDemod (s : State) (d x : Demod) : State :=
  s.setDemods (s.chirp.demods.map fun y => if y = d then x else y)

/-- The frame is received in implicit mode (R198). -/
def State.implicitSf (s : State) (d : Demod) : Bool := (s.word (F.CH_IMPL d.det.port)).bit (16 + d.det.sf)

/-- The stamps, in 2^-16 ns, at which the samples of a held frame are INV, and OVL (R207): its port's, or its stream's. -/
def State.demodInv (s : State) (d : Demod) : List (Int × Int) := if d.lent.isSome then d.inv else (s.rfLink d.det.port).inv
def State.demodOver (s : State) (d : Demod) : List (Int × Int) := if d.lent.isSome then d.ovl else (s.rfLink d.det.port).ovl

/-- SYNC_DECIDED (R197, R206). -/
def syncDecided (u : DemodRef) (v0 v1 : Nat) (delim : Bool) (syncT : Nat) (s : State) : State :=
  match s.demodAt u with
  | none => s
  | some d =>
    let m := s.demodBw d
    if d.stage ≠ .preamble ∨ !s.chirpTime d.det d.lent.isSome m (syncT + 2 * tSym d.det.sf m) 10000 then s
    else
      let y := syncSymbols d.det.sf (s.getF (F.CH_PORTCFG_SYNC d.det.port))
      if nearBin d.det.sf v0 y.1 && nearBin d.det.sf v1 y.2 && delim then
        s.changeDemod d { d with stage := .first, syncT := syncT }
      else s.endLent d .syncMiss

/-- SYNC_DECIDED (R206). -/
def execSyncDecided (d : DemodRef) (v0 v1 : Nat) (delim : Bool) (syncT : Nat) (s : State) : Result :=
  .next (syncDecided d v0 v1 delim syncT s)

/-- The start of symbol `i` of the payload part of a held frame (R196). -/
def State.payStart (s : State) (d : Demod) (i : Nat) : Nat := d.syncT + (17 + 4 * i) * (tSym d.det.sf (s.demodBw d) / 4)

/-- The first block of a held frame decoded (R198, R200, R201): the demodulator after it, none where the header check fails. -/
def State.firstBlock (s : State) (d : Demod) (values : List Nat) : Option Demod :=
  let x := blockNibbles d.det.sf 4 (firstRows d.det.sf) values
  let n := d.det.port
  if s.implicitSf d then
    some { d with
      stage := .payload, implicit := true, len := s.getF (F.CH_IMPL_LEN n), cr := s.getF (F.CH_IMPL_CR n),
      crcOn := s.flag (F.CH_IMPL_CRC_ON n), nibbles := x.1, corrected := x.2 }
  else
    let h := headerOf x.1
    if chirpHeaderOk h then
      some { d with
        stage := .payload, len := h / 16 % 256, cr := h % 4 + 1, crcOn := h / 4 % 2 == 1, nibbles := x.1.drop 5,
        corrected := x.2 }
    else none

/-- FIRST_BLOCK_DECIDED (R198, R206): the eight symbol values decided. -/
def firstBlockDecided (u : DemodRef) (values : List Nat) (s : State) : State :=
  match s.demodAt u with
  | none => s
  | some d =>
    if d.stage ≠ .first ∨ values.length ≠ 8 ∨ !s.chirpTime d.det d.lent.isSome (s.demodBw d) (s.payStart d 8) 20000 then s
    else match s.firstBlock d values with
      | some x => s.changeDemod d x
      | none => s.endLent d .hdrFail

/-- FIRST_BLOCK_DECIDED (R206). -/
def execFirstBlockDecided (d : DemodRef) (values : List Nat) (s : State) : Result := .next (firstBlockDecided d values s)

/-- More than 25 % of the channel samples of the symbol that starts at `t` ns are INV (R206). -/
def State.symbolInvalid (s : State) (d : Demod) (t : Nat) : Bool :=
  let m := s.demodBw d
  let per := settle64 m / 64
  let from_ : Int := (t * 65536 : Nat)
  let grid : Int := if d.lent.isSome then (d.det.start * 65536 : Nat) else s.rfStamp d.det.port (s.rfLink d.det.port).next
  let first := from_ + (grid - from_) % per
  let n := ((from_ + (tSym d.det.sf m * 65536 : Nat) - first + per - 1) / per).toNat
  let bad := ((List.range n).filter fun (i : Nat) => inSpans (s.demodInv d) (first + (i : Nat) * per)).length
  decide (n < 4 * bad)

/-- CHIRP_LOST (R206): LOST ends a preamble; INPUT_INVALID a frame whose symbol after the preamble that starts at `t` is over and has
too many INV samples. -/
def chirpLost (u : DemodRef) (why : ChirpLoss) (s : State) : State :=
  match s.demodAt u, why with
  | none, _ => s
  | some d, .lost => if d.stage = .preamble then s.endLent d .lost else s
  | some d, .invalid t =>
    let after := if d.stage = .preamble then d.det.start + 4 * tSym d.det.sf (s.demodBw d) else d.syncT
    if after ≤ t ∧ t + tSym d.det.sf (s.demodBw d) ≤ s.ns ∧ s.symbolInvalid d t then s.endLent d .invalid else s

/-- CHIRP_LOST (R206). -/
def execChirpLost (d : DemodRef) (why : ChirpLoss) (s : State) : Result := .next (chirpLost d why s)

/-- The end of a held frame's last payload symbol. -/
def State.demodEnd (s : State) (d : Demod) : Nat :=
  d.syncT + chirpTail d.det.sf (s.demodBw d) d.cr (!d.implicit) d.crcOn d.len

/-- The start and the length of every symbol of a held frame from its detection on, in 2^-16 ns (R196). -/
def State.demodSymbols (s : State) (d : Demod) : List (Int × Int) :=
  let t : Nat := tSym d.det.sf (s.demodBw d) * 65536
  let pre := (List.range ((d.syncT - d.det.start) * 65536 / t)).map fun k => ((d.syncT * 65536 : Nat) - ((k + 1) * t : Nat) : Int)
  let mid := (List.range 4).map fun k => ((d.syncT * 65536 + k * t : Nat) : Int)
  let pay := (List.range (chirpPay d.det.sf (s.demodBw d) d.cr (!d.implicit) d.crcOn d.len)).map fun k =>
    ((s.payStart d k * 65536 : Nat) : Int)
  (pre ++ mid ++ pay).map (fun x => (x, (t : Int))) ++ [(((d.syncT * 65536 + 4 * t : Nat) : Int), ((t / 4 : Nat) : Int))]

/-- Symbols of a held frame that contain an INV sample (R207). -/
def State.demodNulled (s : State) (d : Demod) : Nat :=
  let l := s.demodInv d
  if meetsSpans l (d.det.start * 65536) (s.demodEnd d * 65536) then
    ((s.demodSymbols d).filter fun x => meetsSpans l x.1 (x.1 + x.2)).length
  else 0

/-- A held frame's decoded bytes: its payload, the CRC it carries, and the codewords corrected in it (R199 to R202). -/
def State.demodBytes (s : State) (d : Demod) (values : List Nat) : List Byte × Nat × Nat :=
  let m := s.demodBw d
  let k := chirpFurther d.det.sf m (!d.implicit) d.crcOn d.len
  let x := blocksNibbles d.det.sf d.cr (furtherRows d.det.sf m) k values
  let bs := whiten 0x1FF ((bytesOfNibbles (d.nibbles ++ x.1)).take (d.len + 2 * boolNat d.crcOn))
  ((bs.take d.len).map (BitVec.ofNat 8), nthD bs d.len + 256 * nthD bs (d.len + 1), d.corrected + x.2)

/-- RSSI in 0.25 dB (R214). -/
def State.rssi (s : State) (d : Demod) : Int := d.det.power - 4 * d.step + signed 16 (s.getF (F.CH_RSSICAL_CAL d.det.port))

/-- Words 1 to 6 of the receive record (R215). -/
def State.chirpRecord (s : State) (d : Demod) (corrected : Nat) (rx : ChirpRx) : List Word :=
  let m := s.demodBw d
  [BitVec.ofNat 32 (d.len + d.cr * 2 ^ 8 + boolNat d.crcOn * 2 ^ 11 + boolNat d.implicit * 2 ^ 12 + d.det.sf * 2 ^ 13 +
     d.det.chan * 2 ^ 16 + d.det.port * 2 ^ 21 + m * 2 ^ 26 + d.stack * 2 ^ 28 + boolNat (lowRate d.det.sf m) * 2 ^ 30 +
     boolNat (meetsSpans (s.demodOver d) (d.det.start * 65536) (s.demodEnd d * 65536)) * 2 ^ 31),
   lo32 d.syncT, hi32 d.syncT,
   BitVec.ofNat 32 (unsignedOf 16 (clampInt (-32768) 32767 (s.rssi d)) + unsignedOf 8 (clampInt (-128) 127 rx.snr) * 2 ^ 16 +
     min 255 rx.ceer * 2 ^ 24),
   BitVec.ofNat 32 (unsignedOf 24 rx.fofs + gainU d.det.power * 2 ^ 24),
   BitVec.ofNat 32 (min 255 corrected + min 255 (s.demodNulled d) * 2 ^ 8 + d.step % 64 * 2 ^ 16)]

/-- The due frame of a held frame. -/
def State.chirpFrame (s : State) (d : Demod) (record : List Word) (payload : List Byte) : RxFrame :=
  { medium := 1, port := d.det.port, record := record, body := payload, due := s.ns, end_ := s.demodEnd d,
    cr := d.cr, sf := d.det.sf, chan := d.det.chan, sync := d.syncT, power := d.det.power, step := d.step,
    link := s.scheduledOn d.det.port d.det.chan d.det.sf d.syncT (rfSrc payload) }

/-- CHIRP_FRAME_DUE (R199, R206): OK and due, or CRCFAIL; it comes after the launched actions of its tick (R19). A lent demodulator's
frame goes back to its owner (R364). -/
def chirpFrameDue (u : DemodRef) (rx : ChirpRx) (s : State) : State :=
  match s.demodAt u with
  | none => s
  | some d =>
    let m := s.demodBw d
    let due := s.chirpTime d.det d.lent.isSome m (s.demodEnd d) 40000
    let size := chirpFurther d.det.sf m (!d.implicit) d.crcOn d.len * (4 + d.cr)
    if d.stage ≠ .payload ∨ rx.values.length ≠ size ∨ !due ∨ s.launchesDue then s
    else
      let x := s.demodBytes d rx.values
      let w := s.chirpRecord d x.2.2 rx
      if d.crcOn && chirpCrc x.1 != x.2.1 then s.endLent d .crcFail
      else match d.lent with
        | some (b, k, _) =>
          ((s.freeDemod d).bump F.BN_LEASESTAT_LENT).benchPost b (.frame {
            medium := 1, port := d.det.port, record := w, body := x.1, stream := some k })
        | none => ((s.freeDemod d).bump (F.CH_RXCNT_OK d.det.port)).radioIn (s.chirpFrame d w x.1)

/-- CHIRP_FRAME_DUE (R206). -/
def execChirpFrameDue (d : DemodRef) (rx : ChirpRx) (s : State) : Result := .next (chirpFrameDue d rx s)

/-! ## Transmission (R217, R218) -/

/-- FOFS as applied: zero where its magnitude exceeds MAXOFS (R213). -/
def State.fofsApplied (s : State) (n v : Nat) : Nat :=
  if s.getF (F.CH_SCFG_MAXOFS n) < (signed 24 v).natAbs then 0 else v

/-- The modulator has an item (R218): its form and its channel checked, the profile fixed, FREQOFS written for the up-ramp,
securing begun. -/
def State.rfItemRead (s : State) (e : LqEntry) (it : List Word) : State :=
  let n := e.port
  if !rfItValid it then s.txFail e rtINVALID_ITEM
  else if !s.chanOn n (rfItChan it) then s.txFail e rtCHANNEL_OFF
  else
    let j := s.getF (F.CH_PAIRSTAT_PROFILE n)
    let s1 := s.lqUpdate e.entry fun x => { x with profile := j }
    let s2 := if rfItFofsEn it then s1.rfcAsk {
        pair := n, reg := 5, data := s.fofsApplied n (rfItFofs it), at_ := s.rfCount n (s.lqNs e - s.rampNs j),
        entry := some e.entry, time := some (s.lqNs e - s.rampNs j) }
      else s1
    s2.secureEntry e.entry

/-- An entry's item is too late: launch − DUR − 20 µs has passed (R218). -/
def State.rfTooLate (s : State) (e : LqEntry) : Bool :=
  decide (s.lqNs e < s.ns + s.rampNs (s.getF (F.CH_PAIRSTAT_PROFILE e.port)) + 20000)

/-- RF_TX_ITEM_READ (R218): from 164 µs before the launch on, and for a queue's item up to launch − DUR − 20 µs. -/
def rfTxItemRead (i : EntryId) (s : State) : State :=
  match s.lqAt i with
  | none => s
  | some e =>
    if leType e.words ≠ leTypeRF_TX ∨ e.securing ∨ e.secured.isSome ∨ e.due.isSome ∨ s.ns + 164000 < s.lqNs e then s
    else match e.item with
      | some it => s.rfItemRead e it
      | none => if s.rfTooLate e then s.txFail e rtMISSED_LAUNCH else match s.txTake e with
        | (s1, bad) => match s1.lqAt i with
          | some e1 => match e1.item with
            | some it => if bad then s1.txFail e1 rtINVALID_ITEM else s1.rfItemRead e1 it
            | none => s
          | none => s

/-- RF_TX_ITEM_READ (R218). -/
def execRfTxItemRead (e : EntryId) (s : State) : Result := .next (rfTxItemRead e s)

/-- RF_ITEM_DEADLINE (R218): no complete item by launch - DUR - 20 µs. -/
def rfItemDeadline (i : EntryId) (s : State) : State :=
  match s.lqAt i with
  | none => s
  | some e =>
    if leType e.words = leTypeRF_TX ∧ e.item.isNone ∧ s.rfTooLate e then s.txFail e rtMISSED_LAUNCH else s

/-- RF_ITEM_DEADLINE (R218). -/
def execRfItemDeadline (e : EntryId) (s : State) : Result := .next (rfItemDeadline e s)

/-- DUTY_CHECK (R241): at the refusal point, 20 µs before the up-ramp. -/
def dutyCheck (i : EntryId) (s : State) : State :=
  match s.lqAt i with
  | none => s
  | some e => match e.item, s.rfSpan e with
    | some it, some (a, b) =>
      if leType e.words ≠ leTypeRF_TX ∨ e.charged ∨ s.ns + 20000 < a then s
      else match s.dutyCharge e.port (rfItChan it) (b - a) ((a - 20000) / 1000000000) with
        | (s1, true) => s1.lqUpdate i fun x => { x with charged := true }
        | (s1, false) => s1.txFail e rtDUTY_REFUSED
    | _, _ => s

/-- DUTY_CHECK (R241). -/
def execDutyCheck (e : EntryId) (s : State) : Result := .next (dutyCheck e s)

/-- The FREQOFS write of an entry is still to be answered. -/
def State.ofsPending (s : State) (i : Nat) : Bool := s.sample.rfc.any fun w => w.entry == some i

/-- What stops a transmission at its up-ramp, if anything does (R18, R60, R77, R218). -/
def State.rampStop (s : State) (e : LqEntry) : Option Nat :=
  if !s.mayTransmit then some stMODE_SILENT
  else if !s.domOn (domOfRf e.port) || !s.domOn domCHC then some stDOMAIN_DOWN
  else if (afind s.chirp.sending e.port).isSome then some rtRF_BUSY
  else if e.secured.isNone || s.ofsPending e.entry then some rtMISSED_LAUNCH
  else none

/-- UPRAMP_START (R208, R217): held frames end with RX_PREEMPT, detection is suspended, the ramp starts. -/
def uprampStart (i : EntryId) (s : State) : State :=
  match s.lqAt i with
  | none => s
  | some e => match e.item, s.rfSpan e with
    | some it, some (a, b) =>
      let n := e.port
      if leType e.words ≠ leTypeRF_TX ∨ !e.charged ∨ e.due.isSome ∨ s.ns < a then s
      else if (afind s.chirp.sending n).any (·.entry.entry == e.entry) then s
      else match s.rampStop e with
        | some st => s.txFail e st
        | none =>
          let r : RfSending := {
            entry := { e with outside := true, ramped := true }, start := a, end_ := b, dur := s.rampNs e.profile, ofs := rfItFofsEn it }
          let s1 := { s with chirp := { s.chirp with sending := aset s.chirp.sending n r } }
          ((s1.lqUpdate i (fun x => { x with outside := true, ramped := true })).rfBusy n true true |>.endPort n .preempt).emitRamp
            n e.profile true a
    | _, _ => s

/-- UPRAMP_START (R208). -/
def execUprampStart (e : EntryId) (s : State) : Result := .next (uprampStart e s)

/-- A chirp frame as it leaves (R196, R197, R201, R202). -/
def State.chirpWave (s : State) (n : Nat) (it : List Word) (t : Nat) : ChirpWave :=
  let sf := rfItSf it
  let m := 2 ^ (sf + 5)
  { chan := rfItChan it, sf := sf, centre2 := s.centreNow2 n (rfItChan it), preamble := rfItNpre it,
    sync := syncSymbols sf (s.getF (F.CH_PORTCFG_SYNC n)), delimiter := [0, m / 4, m / 2],
    symbols := chirpSymbols sf (s.chmode n) (rfItCr it) (!rfItImplicit it) (rfItCrc it) (rfItPayload it),
    start := t, dur := s.rfAir n it }

/-- RF_TX (R102, R218): the first preamble sample leaves at the launch time; a transmission whose ramp has not started is not
sent. DESIGN CHOICE (entry 154): one whose up-ramp began while the device transmits is sent though the launch time falls in QUIET or
SHADOW. In the tick in which FAULT is entered it takes effect and is stopped (R66). -/
def rfTx (i : EntryId) (s : State) : State :=
  match s.lqAt i with
  | none => s
  | some e =>
    let n := e.port
    if leType e.words ≠ leTypeRF_TX ∨ !s.lqReady e then s
    else if s.lqNoMains e then s.txFail e stNO_MAINS
    else match e.item, afind s.chirp.sending n with
      | some it, some r =>
        if r.entry.entry = e.entry ∧ r.entry.gen = e.gen then
          (s.lqRemove i).emitOut (.chirpFrame n (s.chirpWave n it (s.lqNs e)))
        else s.txFail e (if s.mayTransmit then rtRF_BUSY else stMODE_SILENT)
      | some it, none =>
        if e.ramped ∧ s.mode.mode = .FAULT ∧ s.mayTransmit then
          ((s.lqRemove i).emitOut (.chirpFrame n (s.chirpWave n it (s.lqNs e)))).endOfTick
        else s.txFail e (if !s.mayTransmit then stMODE_SILENT else if !s.domOn (domOfRf n) then stDOMAIN_DOWN else rtMISSED_LAUNCH)
      | none, _ =>
        s.txFail e (if !s.mayTransmit then stMODE_SILENT else if !s.domOn (domOfRf n) then stDOMAIN_DOWN else rtMISSED_LAUNCH)

/-- RF_TX (R218). -/
def execRfTx (e : EntryId) (s : State) : Result := .next (rfTx e s)

/-- The end of the ACK window of an attempt (R234): the awaited ACK has the frame's rate, spreading factor and channel. -/
def State.rfAckBy (s : State) (n : Nat) (it : List Word) (frameEnd guard : Nat) : Nat :=
  let m := s.chmode n
  frameEnd + s.getF F.MC_TIMING_ACKGAP * 1000000 +
    chirpAir (rfItSf it) m (rfItCr it) true true 20 8 + tSym (rfItSf it) m / 8 + 40000 + guard

/-- What the inserter does about a transmission that was sent (R218, R234, R238). -/
def State.rfSent (s : State) (n : Nat) (r : RfSending) : State :=
  let e := r.entry
  let it := e.item.getD []
  let b := rfItPayload it
  match e.inserter with
  | .host => s.qRelease (leQueue e.words)
  | .sched l => match s.radio.attempts.find? (·.link == l) with
    | none => s
    | some a =>
      if bitAt b 0 3 then
        let g := ((afind s.radio.serve n).map (·.guard)).getD 0
        let a' : RfAttempt := { a with
          launched := true, waiting := true, deadline := s.rfAckBy n it (r.end_ - r.dur) g, seq := rfSeq b, dst := rfRxa b }
        { s with radio := { s.radio with attempts := s.radio.attempts.map fun x => if x.link = l then a' else x } }
      else s.rfRelease a
  | .poll _ => match s.radio.mbx.find? (·.sending == some e.handle) with
    | none => s
    | some x =>
      if bitAt b 0 3 then
        { s with radio := { s.radio with mbx := s.radio.mbx.map fun y =>
            if y = x then { y with sending := none, sends := y.sends + 1 } else y } }
      else s.mbxFree x
  | _ => s

/-- RF_TX_END (R208, R213, R218): the down-ramp ends. -/
def rfTxEnd (n : RfPort) (s : State) : State :=
  match afind s.chirp.sending n with
  | none => s
  | some r =>
    if s.ns < r.end_ ∨ (s.lqAt r.entry.entry).any (·.gen == r.entry.gen) then s
    else
      let s1 := ((s.emitRamp n r.entry.profile false (r.end_ - r.dur)).rfStop n r.end_).bump (F.CH_TXCNT_SENT n)
      let s2 := if r.ofs then s1.rfcAsk { pair := n, reg := 5, data := r.entry.ofsPrev, at_ := s.rfCount n r.end_, time := some r.end_ } else s1
      ((s2.rfSent n r).launchReport r.entry rtOK).twinSettle

/-- RF_TX_END (R218). -/
def execRfTxEnd (n : RfPort) (s : State) : Result := .next (rfTxEnd n s)

/-- CHIRP_SUSPEND_END (R208). -/
def chirpSuspendEnd (n : RfPort) (s : State) : State :=
  if (afind s.chirp.sending n).isNone ∧ aget 0 s.chirp.suspendTo n ≤ s.ns then s.setF (F.CH_PAIRSTAT_SUSPENDED n) 0 else s

/-- CHIRP_SUSPEND_END (R208). -/
def execChirpSuspendEnd (n : RfPort) (s : State) : Result := .next (chirpSuspendEnd n s)

end Sys2Proof.Machine
end

