-- ==== Sys2Proof/Machine/RadioMac.lean ====
section
/-! DEFINITION. The radio MAC (chapter 09): supervision, the slot schedule, scheduled frames and their ACKs, downlink queues
and mailboxes, poll answers, the second boundary of the duty-cycle buckets. -/
namespace Sys2Proof.Machine
open Sys2Proof

/-! ## Supervision and provisional entries (R226, R229) -/

/-- SUPERVISION_EXPIRY (R229): the entry is LOST unless it was heard, or a frame in time is in verification. -/
def execSupervisionExpiry (ep : EndpointId) (s : State) : Result := .next (s.supervise ep)

/-- PROVISIONAL_EXPIRY (R226): PROVTTL s without a host write of STATE. -/
def provisionalExpiry (ep : EndpointId) (s : State) : State :=
  match afind s.radio.prov ep with
  | some t =>
    if s.epState ep = epPROV ∧ s.expired (t + s.getF F.MC_JOINCFG_PROVTTL * 1000000000) then s.setEp ep epFREE else s
  | none => s

/-- PROVISIONAL_EXPIRY (R226). -/
def execProvisionalExpiry (ep : EndpointId) (s : State) : Result := .next (provisionalExpiry ep s)

/-! ## Slots (R230 to R233) -/

def State.epoch (s : State) : Nat := s.get64 F.MC_EPOCH_LO F.MC_EPOCH_HI
def State.slotNs (s : State) : Nat := s.getF F.MC_SCHEDCFG_SLOT_LEN * 1000000

/-- The slots run: a schedule is enabled and its epoch has come (R230). -/
def State.slotsRun (s : State) : Bool := s.struct_.live && s.flag F.MC_SCHEDCFG_ENABLE && decide (s.epoch ≤ s.ns)

/-- The absolute slot number (R230); zero before the epoch and without a schedule. -/
def State.asn (s : State) : Nat := if s.slotsRun then (s.ns - s.epoch) / s.slotNs else 0

/-- A link is active in slot `n` (R231). -/
def State.linkActive (s : State) (l n : Nat) : Bool :=
  let k := (s.linkWord l 0).field 18 16
  s.linkEn l && s.flag (F.MC_SFRAME_EN k) &&
    n % (max 1 (s.getF (F.MC_SFRAME_LEN k))) == (s.linkWord l 0).field 15 0

/-- Channel `pos` of hop sequence `h`. -/
def State.hopChan (s : State) (h pos : Nat) : Nat := (s.word (F.MC_HOP h (pos / 4))).field (8 * (pos % 4) + 4) (8 * (pos % 4))

/-- The channel of a link in slot `n` (R231); none where its map holds no channel. -/
def State.linkChan (s : State) (l n : Nat) : Option Nat :=
  let h := (s.linkWord l 0).field 29 26
  let len := max 1 (s.getF (F.MC_HOPLEN_L h))
  let pos := (n + (s.linkWord l 1).field 23 18) % len
  let map := if s.linkAny l then 2 ^ 64 - 1 else s.chMap (s.linkNeigh l)
  let ones := (List.range len).filter fun i => map / 2 ^ i % 2 = 1
  if map / 2 ^ pos % 2 = 1 then some (s.hopChan h pos)
  else if ones.isEmpty then none
  else some (s.hopChan h (nthD ones (pos % ones.length)))

/-- A signed 16-bit field. -/
def State.sField (s : State) (f : Fld) : Int := signed 16 (s.getF f)

/-- The neighbour's predicted offset, in ns (R232). -/
def State.slotDelta (s : State) (e start : Nat) : Int :=
  let last := s.lastSync e
  if last = 0 then 0
  else 16000 * s.sField (F.EP11_TOFS e) + s.sField (F.EP11_DRIFT e) * ((start : Int) - last) / 20000000

/-- The guard in ns (R232). -/
def State.slotGuard (s : State) (e start : Nat) : Nat :=
  min (s.getF F.MC_GUARDCFG_MAX * 100000)
    (s.getF F.MC_GUARDCFG_MIN * 1000 + s.getF F.MC_GUARDCFG_UNC * (start - s.lastSync e) / 20000000)

/-- A link is skipped in a slot (R231): its channel, its neighbour, its domain, or a window that would begin too early. -/
def State.linkSkipped (s : State) (l c : Nat) (v : SlotServe) : Bool :=
  let n := s.linkPair l
  let lead : Int := if s.linkTx l then s.rampNs (s.getF (F.CH_PAIRSTAT_PROFILE n)) else v.guard
  !s.chanOn n c || (!s.linkAny l && s.epState (s.linkNeigh l) != epACTIVE) || !s.domOn (domOfRf n) ||
    decide (v.expect - lead < v.start)

/-- The class S writes of a receive slot (R212, R213): held gain step and stored offset, both at X - g - 64 periods - 2 µs. -/
def State.classSWrites (s : State) (l : Nat) (v : SlotServe) : State :=
  let n := s.linkPair l
  let e := s.linkNeigh l
  if s.linkTx l || s.linkAny l || s.getF (F.CH_PORTCFG_GCLASS n) != 1 then s
  else
    let t := (v.expect - v.guard - settle64 (s.chmode n) / 65536 - 2000).toNat
    let at_ := s.rfCount n t
    (s.rfcAsk { pair := n, reg := 2, data := s.getF (F.EP10_GSTEP e), at_ := at_, time := some t }).rfcAsk
      { pair := n, reg := 5, data := s.fofsApplied n (s.getF (F.EP10_FOFS e)), at_ := at_, time := some t }

/-- The slot that starts next, or now, seen from 2 ms ahead. -/
def State.slotAhead (s : State) : Option Nat :=
  if s.struct_.live && s.flag F.MC_SCHEDCFG_ENABLE && decide (s.epoch ≤ s.ns + 2000000) then
    some ((s.ns + 2000000 - s.epoch) / s.slotNs)
  else none

/-- SLOT_PREPARE (R231, R232): 2 ms before the slot a link is active in. -/
def slotPrepare (l : LinkId) (s : State) : State :=
  match s.slotAhead with
  | none => s
  | some n =>
    let pair := s.linkPair l
    let start := s.epoch + n * s.slotNs
    if !s.linkActive l n ∨ start < s.ns ∨ (afind s.radio.serve pair).any (fun v => v.asn == n) then s
    else if (List.range l).any (fun i => s.linkPair i == pair && s.linkActive i n) then s.bump F.MC_SCHEDSTAT_COLLIDE
    else match s.linkChan l n with
      | none => s.bump F.MC_SCHEDSTAT_SKIPPED
      | some c =>
        let e := s.linkNeigh l
        let d := if s.linkAny l then 0 else s.slotDelta e start
        let v : SlotServe := {
          link := l, asn := n, start := start, chan := c, delta := d,
          guard := if s.linkAny l then s.getF F.MC_GUARDCFG_MAX * 100000 else s.slotGuard e start,
          expect := start + s.getF F.MC_TIMING_TXOFS * 10000 + d,
          classS := !s.linkTx l && !s.linkAny l && s.getF (F.CH_PORTCFG_GCLASS pair) == 1 }
        if s.linkSkipped l c v then s.bump F.MC_SCHEDSTAT_SKIPPED
        else
          ({ s with radio := { s.radio with serve := aset s.radio.serve pair v } } : State).classSWrites l v

/-- SLOT_PREPARE (R232). -/
def execSlotPrepare (link : LinkId) (s : State) : Result := .next (slotPrepare link s)

/-- SLOT_START (R230, R213, R235): links of earlier slots end, class S offsets return to zero, changed links take effect. -/
def slotStart (s : State) : State :=
  if !s.slotsRun then s
  else
    let n := s.asn
    let old := s.radio.serve.filter fun x => decide (x.2.asn < n)
    let s1 := { s with radio := { s.radio with
      serve := s.radio.serve.filter (fun x => !decide (x.2.asn < n)), asn := n, oldLinks := [] } }
    old.foldl (fun a x => if x.2.classS then a.rfcAsk {
      pair := x.1, reg := 5, data := 0, at_ := a.rfCount x.1 (s.epoch + n * s.slotNs),
      time := some (s.epoch + n * s.slotNs) } else a) s1

/-- SLOT_START (R230). -/
def execSlotStart (s : State) : Result := .next (slotStart s)

/-! ## Scheduled frames (R234) -/

/-- The item as the schedule sends it: spreading factor and coding rate of the link, channel of the slot. -/
def schedItem (it : List Word) (sf cr chan : Nat) : List Word :=
  let w := (((wordAt it 1).setField 10 8 cr).setField 15 13 sf).setField 20 16 chan
  it.take 1 ++ [w] ++ it.drop 2

/-- SCHED_TX (R234): the item at the read pointer of the link's queue is launched at X, or released with SLOT_OVERRUN. -/
def schedTx (l : LinkId) (s : State) : State :=
  let n := s.linkPair l
  let q := s.linkQueue l
  match afind s.radio.serve n with
  | none => s
  | some v =>
    if v.link ≠ l.val ∨ !s.linkTx l ∨ s.radio.attempts.any (fun a => a.link == l.val || a.queue == q) then s
    else if s.qUsable q && s.qHeadLost q then (s.bump (F.CH_TXCNT_REFUSED n)).eccFlush q
    else match (if s.qUsable q then s.qFront q else none) with
    | none => s
    | some it0 =>
      if s.qPoisoned q (s.qR q) it0.length then (((s.bump (F.CH_TXCNT_REFUSED n)).qMark q).qConsume q).qRelease q
      else
        let it := schedItem it0 (s.linkSf l) (s.linkCr l) v.chan
        let x := v.expect.toNat
        let d := s.rampNs (s.getF (F.CH_PAIRSTAT_PROFILE n))
        let fe := x + s.rfAir n it
        let stop := if bitAt (rfItPayload it) 0 3 then s.rfAckBy n it fe v.guard else fe + d
        if v.start + s.slotNs ≤ stop then
          (((s.qMark q).qConsume q).qRelease q).notice ncSLOT_OVERRUN n []
        else
          let r := s.qR q
          let s1 := (s.qMark q).qConsume q
          let s2 := { s1 with radio := { s1.radio with attempts := s1.radio.attempts ++ [
            ({ link := l, queue := q, pair := n } : RfAttempt)] } }
          match s2.lqInsert (entryWords leTypeRF_TX 2 n x q) (.sched l) with
          | (s3, st, h) =>
            if st = stOK then s3.lqUpdate (h % 2048) fun e => { e with item := some it, readFrom := r }
            else s3.rfRewind { link := l, queue := q, pair := n }

/-- SCHED_TX (R234). -/
def execSchedTx (link : LinkId) (s : State) : Result := .next (schedTx link s)

/-- An ACK frame of the MAC (R221, R234): header only, as an item on a channel, spreading factor and coding rate. -/
def State.rfAckItem (s : State) (chan sf cr dst ackSeq fofs : Nat) (ofs : Bool) : List Word :=
  let hdr := rfMacHeader 1 false false false (some ackSeq) 0 0 dst s.ownAddr s.ownAddr dst
  chirpItem [BitVec.ofNat 32 (cr * 2 ^ 8 + 2 ^ 11 + sf * 2 ^ 13 + chan * 2 ^ 16), 8,
    BitVec.ofNat 32 (fofs + boolNat ofs * 2 ^ 31)] hdr

/-- A frame of the MAC put into the launch queue with its item. -/
def State.launchItem (s : State) (n t : Nat) (by_ : Inserter) (it : List Word) : State × Nat × Nat :=
  match s.lqInsert (entryWords leTypeRF_TX 2 n t) by_ with
  | (s1, st, h) => (if st = stOK then s1.lqUpdate (h % 2048) fun e => { e with item := some it } else s1, st, h)

/-- SCHED_ACK_SEND (R234): the ACK starts ACKGAP ms after the frame end. -/
def schedAckSend (n : RfPort) (s : State) : State :=
  match afind s.radio.acks n with
  | none => s
  | some a =>
    let s1 := { s with radio := { s.radio with acks := adel s.radio.acks n } }
    (s1.launchItem n a.at_ (.radioAck n) (s1.rfAckItem a.chan a.sf a.cr a.dst a.seq 0 false)).1

/-- SCHED_ACK_SEND (R234). -/
def execSchedAckSend (n : RfPort) (s : State) : Result := .next (schedAckSend n s)

/-- RF_ACK_EXPIRY (R234). -/
def rfAckExpiry (n : RfPort) (s : State) : State :=
  match s.radio.attempts.find? fun a => a.pair == n.val && a.waiting && s.expired a.deadline with
  | some a => s.rfAckMissed a
  | none => s

/-- RF_ACK_EXPIRY (R234). -/
def execRfAckExpiry (n : RfPort) (s : State) : Result := .next (rfAckExpiry n s)

/-! ## Downlink queues and mailboxes (R236, R237) -/

/-- The item at the head of a downlink queue is read and released. -/
def State.dlqDone (s : State) (q : Nat) : State := (s.qConsume q).qRelease q

/-- The item goes to entry `e` (R236). -/
def State.dlqItem (s : State) (k q e : Nat) (it : List Word) : State :=
  if s.flag (F.EP0_SLEEPY e) then
    match s.mbxPut e it with
    | (s1, .ok) => s1.dlqDone q
    | (s1, .endpointFull) => { s1 with radio := { s1.radio with dlqStopped := s1.radio.dlqStopped ++ [(k, e)] } }
    | (s1, .storeFull) => { s1 with radio := { s1.radio with
        dlqStopped := s1.radio.dlqStopped ++ [(k, 2 ^ 17 + (s.partOf e).getD 8)] } }
  else
    let port := s.getF (F.EP0_PORT e)
    let tgt := match s.txLink e with
      | some l => s.linkQueue l
      | none => s.getF (F.MC_QMAP_FALLQ (96 + port % 32))
    match s.qHwItem tgt (.hw 6 port) it with
    | (s1, true) => s1.dlqDone q
    | (s1, false) => s1

/-- DLQ_SERVE (R236): the item at the head of downlink queue k. One that names no endpoint of the device is released and
counted as a frame without a next hop. -/
def dlqServe (k : DlqId) (s : State) : State :=
  let q := s.getF (F.MC_DLQ_QUEUE k)
  if !s.struct_.live ∨ !s.flag (F.MC_DLQ_EN k) ∨ !s.qUsable q ∨ s.radio.dlqStopped.any (·.1 == k.val) then s
  else if s.qHeadLost q then s.eccFlush q
  else match s.qFront q with
    | none => s
    | some it =>
      if s.qPoisoned q (s.qR q) it.length then s.dlqDone q
      else if !rfItValid it ∨ rfItLen it < 20 then (s.bump F.MC_ROUTESTAT_NEXTHOP).dlqDone q
      else match s.ownEp (rfRxa (rfItPayload it)) with
        | none => (s.bump F.MC_ROUTESTAT_NEXTHOP).dlqDone q
        | some e => s.dlqItem k q e it

/-- DLQ_SERVE (R236). -/
def execDlqServe (k : DlqId) (s : State) : Result := .next (dlqServe k s)

/-- MBX_EXPIRED (R237): the oldest frame of the entry that is older than its partition's MBXTTL. -/
def mbxExpired (ep : EndpointId) (s : State) : State :=
  match (s.mbxOf ep).find? fun f =>
      let ttl := s.getF (F.MC_PART0_MBXTTL f.part)
      ttl != 0 && decide (s.mbxSecond f + ttl < s.ns / 1000000000) with
  | some f => ((s.mbxFree f).bump F.MC_MBXSTAT_EXPIRED).notice ncMBX_EXPIRED (s.getF (F.EP0_PORT ep)) []
  | none => s

/-- MBX_EXPIRED (R237). -/
def execMbxExpired (ep : EndpointId) (s : State) : Result := .next (mbxExpired ep s)

/-! ## Poll answers (R238) -/

/-- The launch time of a poll answer: the opening, or the first whole millisecond after a transmit interval that covers
it; none where that lies after the window. -/
def State.pollTime (s : State) (w : PollWindow) : Option Nat :=
  let a := match afind s.chirp.sending w.pair with
    | some x => if x.start ≤ w.opens ∧ w.opens < x.end_ then [x.end_] else []
    | none => []
  let b := s.launch.entries.filterMap fun e =>
    if leType e.words = leTypeRF_TX ∧ e.port = w.pair then
      (s.rfSpan e).bind fun y => if y.1 ≤ w.opens ∧ w.opens < y.2 then some y.2 else none
    else none
  let t := match a ++ b with
    | [] => w.opens
    | l => ceilDiv (l.foldl max 0) 1000000 * 1000000
  if t < w.closes then some t else none

/-- A mailbox frame as it answers a poll (R238): the poll's channel, spreading factor and coding rate, the entry's offset;
MORE and the acknowledgement in its header while it is not yet secured. -/
def State.pollItem (s : State) (w : PollWindow) (it : List Word) (more : Bool) : List Word :=
  let d := schedItem it w.sf w.cr w.chan
  let b := rfItPayload d
  let fresh := !(bitAt b 0 4 && secCounter b 20 != 0)
  let b0 := (b.getD 0 0).toNat
  let h0 := b0 - (b0 / 32 % 2) * 32 - (b0 / 128) * 128 + boolNat more * 32 + boolNat w.ackSeq.isSome * 128
  let b' := if fresh then [BitVec.ofNat 8 h0] ++ (b.drop 1).take 2 ++ [BitVec.ofNat 8 (w.ackSeq.getD 0)] ++ b.drop 4 else b
  d.take 3 ++ [BitVec.ofNat 32 (s.getF (F.EP10_FOFS w.ep) + 2 ^ 31)] ++ wordsOfBytes b'

/-- Mailbox frames that have been sent 1 + RETRIES times without their ACKD are dropped with RF_NOACK (R238). -/
def State.mbxExhausted (s : State) (ep pair : Nat) : State :=
  (s.mbxOf ep).foldl (fun a f =>
    if a.getF F.MC_SCHEDCFG_RETRIES < f.sends then (a.mbxFree f).notice ncRF_NOACK pair [] else a) s

/-- POLL_RESPONSE (R238): the answer in the poll response window of an entry. -/
def pollResponse (ep : EndpointId) (s : State) : State :=
  match s.radio.polls.find? (·.ep == ep.val) with
  | none => s
  | some w =>
    let s1 := ({ s with radio := { s.radio with polls := s.radio.polls.erase w } } : State).mbxExhausted ep w.pair
    match s1.pollTime w with
    | none => s1.bump F.MC_MBXSTAT_MISSED
    | some t => match s1.mbxOf ep with
      | f :: rest => match s1.launchItem w.pair t (.poll ep) (s1.pollItem w (s1.mbxItem f) (!rest.isEmpty)) with
        | (s2, st, h) =>
          if st ≠ stOK then s2.bump F.MC_MBXSTAT_MISSED
          else
            { s2 with radio := { s2.radio with mbx := s2.radio.mbx.map fun y =>
                if y = f then { y with sending := some h } else y } }
      | [] =>
        match s1.launchItem w.pair t (.radioAck w.pair)
            (s1.rfAckItem w.chan w.sf w.cr (s1.epAddr ep) (w.ackSeq.getD 0) (s1.getF (F.EP10_FOFS ep)) true) with
        | (s2, st, _) => if st = stOK then s2 else s2.bump F.MC_MBXSTAT_MISSED

/-- POLL_RESPONSE (R238). -/
def execPollResponse (ep : EndpointId) (s : State) : Result := .next (pollResponse ep s)

/-! ## The second boundary (R240, R70) -/

/-- DC_SECOND (R240): buckets older than the sum leave it, MC_DCUSED follows, the second just ended is mirrored. -/
def dcSecond (s : State) : State :=
  let t := s.ns / 1000000000
  s.radio.duty.foldl (fun a x =>
    let l := x.2.filter fun y => decide (t < y.1 + 3600)
    let a1 := { a with radio := { a.radio with duty := aset a.radio.duty x.1 l } }
    let a2 := a1.showUsed (x.1 / 8) (x.1 % 8)
    match afind l (t - 1) with
    | some v => a2.mirror (.duty (Fin.ofNat 32 (x.1 / 8)) (Fin.ofNat 8 x.1) (t - 1) v)
    | none => a2) s

/-- DC_SECOND (R240). -/
def execDcSecond (s : State) : Result := .next (dcSecond s)

end Sys2Proof.Machine
end

