-- ==== Sys2Proof/Machine/Routes.lean ====
section
/-! DEFINITION. ROUTE_INSERT and ROUTE_REMOVE (R244): confined amendments of the route table, committed at once. -/
namespace Sys2Proof.Machine
open Sys2Proof

/-- The device takes no structure amendment (R61): no structure is live, or the factory default after a failed load.
DESIGN CHOICE (entry 137): with no structure live an amendment is answered AMEND_STALE before any check of its fragment. -/
def State.noAmend (s : State) : Bool := !s.struct_.live || s.mode.mode == .DEFAULTED

/-- The lowest route entry whose VALID is zero. -/
def State.freeRoute (s : State) : Option Nat := (List.range 65536).find? fun i => !s.flag (F.RT0_VALID i)

/-- The words of a new route (R305: VALID and USES ignored). -/
def State.putRoute (s : State) (i : Nat) (ws : List Word) : State :=
  ((s.setWord (F.RT0 i) (((wordAt ws 0).setField 0 0 1).setField 31 31 0)).setWord (F.RT1 i) (wordAt ws 1)).setWord (F.RT2 i) 0

/-- ROUTE_INSERT: the state, the status and the result words. -/
def State.routeInsert (s : State) (ws : List Word) : State × Nat × List Word :=
  if s.noAmend then (s, stAMEND_STALE, [])
  else if !routeOk (wordAt ws 0) then (s, stAMEND_INVALID, [])
  else match s.freeRoute with
    | none => (s, stROUTE_FULL, [])
    | some i => (s.putRoute i ws, stOK, [BitVec.ofNat 32 i])

/-- ROUTE_INSERT (R244). -/
def execRouteInsert (c : Cmd) (ws : List Word) (s : State) : Result :=
  let x := s.routeInsert ws
  .next (s.command c opROUTE_INSERT (x.1.complete c opROUTE_INSERT x.2.1 x.2.2))

/-- ROUTE_REMOVE: the state and the status. -/
def State.routeRemove (s : State) (i : Nat) : State × Nat :=
  if s.noAmend then (s, stAMEND_STALE)
  else if !s.flag (F.RT0_VALID i) then (s, stNOT_FOUND)
  else (s.setF (F.RT0_VALID i) 0, stOK)

/-- ROUTE_REMOVE (R244). -/
def execRouteRemove (c : Cmd) (i : RouteId) (s : State) : Result :=
  .next (s.command c opROUTE_REMOVE (State.answer (s.routeRemove i) c opROUTE_REMOVE))

end Sys2Proof.Machine
end

