-- ==== Sys2Proof/Machine/AmendOps.lean ====
section
/-! DEFINITION. Structure amendments (R54 to R58, R187, R235, R292, R335, R380): the checks at addition and at commit, and what the
changed units do at the commit tick. -/
namespace Sys2Proof.Machine
open Sys2Proof

/-! ## Checks (R55, R57, R235) -/

/-- A refused amendment is counted (R55). -/
def State.amendRefused (s : State) : State := s.bump F.CF_AMEND_REFUSED

/-- The fragment of a staged item's content, checked at its addition (R55): the image, or the status. DESIGN CHOICE (entry
137): while no structure is live, for which R55 states no status, it is AMEND_STALE before any check of the fragment. -/
def State.checkFragment (s : State) (content : List Word) : Except Nat Image :=
  let b := bytesOfWords content
  if s.noAmend then .error stAMEND_STALE
  else match checkImage b b.length true (s.getF F.MD_ID_STEPPING) s.fusedDigest with
  | .error _ => .error stAMEND_INVALID
  | .ok im =>
    if im.sequence ≤ (s.word F.CF_SEQ).toNat then .error stAMEND_STALE
    else if (s.forbidden (s.imageWrites im.writes)).isSome then .error stAMEND_FORBIDDEN
    else .ok im

/-- The words of a staged fragment, whose form was checked at its addition. -/
def stagedImage (content : List Word) : Image :=
  let b := bytesOfWords content
  let n := imTotal b
  let stop := if imFlags b % 2 = 1 then n - 196 else n - 4
  match imSectionsOf true (imSections b) 0 ((b.take stop).drop (imHdrLen b)) with
  | .ok (w, _) => { sequence := imSequence b, base := imBase b, records := w }
  | .error _ => {}

/-- The writes of a SCHED action (R326): the link's four words, or EN clear. -/
def State.schedWrites (s : State) (insert : Bool) (l : Nat) (ws : List Word) : List (Nat × Word) :=
  if insert then (List.range 4).map fun i => (F.MC_LINK0 l + 4 * i, wordAt ws i)
  else [(F.MC_LINK0 l, (s.word (F.MC_LINK0 l)).setField 19 19 0)]

/-- A confined amendment of a link checked (R235): its values are permitted ones. No other rule of R40, and none of R56, speaks of
a link's words, so a consistent structure stays one. -/
def State.checkSched (s : State) (w : List (Nat × Word)) : Nat :=
  if s.noAmend then stAMEND_STALE else if w.any (fun x => valueBreach x.1 x.2) then stAMEND_INVALID else stOK

/-- The address of the first offending record (R57): of the record from which on the structure breaks a rule, as `bad` says,
after every further one; `found` is the one that began the breach so far. DESIGN CHOICE (entry 136): R57 does not say which record
offends where several write the words of one breach. -/
def offender (bad : State → Bool) : State → Option Nat → List ImageRecord → Option Nat
  | _, found, [] => found
  | s, found, r :: rest =>
    let t := s.imageWrites r.writes
    offender bad t (if bad t then some (found.getD r.addr) else none) rest

/-- The address of a fragment's first record; 0 where it has none. -/
def Image.firstRecord (im : Image) : Nat := ((im.records.head?).map (·.addr)).getD 0

/-- A bank or endpoint bank moves between `s` and `t` (R278, R380): kind, logical bank, spare. -/
def State.bankMoves (s t : State) : List (Nat × Nat × Nat) :=
  ([kQBANK, kEPBANK]).flatMap fun k => (List.range (kindSlots k)).filterMap fun b =>
    match s.unitOf k b, t.unitOf k b with
    | some u, some v => if u = v then none else some (k, b, v)
    | _, _ => none

/-- The bank copies an added fragment starts (R278). -/
def State.startCopies (s : State) (slot : Nat) (w : List (Nat × Word)) : State :=
  let l := (s.bankMoves (s.imageWrites w)).map fun m =>
    ({ kind := m.1, bank := m.2.1, spare := m.2.2, txn := slot, started := s.tick } : BankCopy)
  { s with queues := { s.queues with copies := s.queues.copies ++ l } }

/-- A copy the move needs has ended (R278). -/
def State.copied (s : State) (slot : Nat) (m : Nat × Nat × Nat) : Bool :=
  s.queues.copies.any fun c => c.txn == slot && c.kind == m.1 && c.bank == m.2.1 && c.spare == m.2.2 && c.ended

/-- `t`, the structure `s` amended, breaks R40, R56, R292 or R278. -/
def State.breaks (s : State) (slot : Nat) (t : State) : Bool :=
  t.inconsistent.isSome || (s.forbidden t).isSome || (s.placeForbidden t).isSome ||
    (s.bankMoves t).any fun m => !s.copied slot m

/-- A fragment against the structure `s` at the commit tick (R57): the first offending record address, or none; the first
record's where BASE does not match. -/
def State.amendConflict (s : State) (slot : Nat) (im : Image) : Option Nat :=
  if im.base ≠ 0 ∧ im.base ≠ (s.word F.CF_SEQ).toNat then some im.firstRecord
  else if s.breaks slot (s.imageWrites im.writes) then some ((offender (s.breaks slot) s none im.records).getD 0)
  else none

/-! ## What an amendment touches (R58) -/

/-- The registers of addresses, by name and first index. -/
def touched (l : List Nat) : List (Reg × Nat) := l.filterMap fun a => (regAt a).map fun h => (h.rd.reg, nthD h.idx 0)

/-- The units below `n` that registers of the list touch, ascending. -/
def touchedBy (n : Nat) (h : List (Reg × Nat)) (rs : List Reg) : List Nat :=
  (List.range n).filter fun i => h.any fun x => rs.contains x.1 && x.2 == i

/-! ## Line ports, lanes and modem engines (R58, R123, R126, R335) -/

/-- A restart of a band channel ends the frame in reception, unless its last payload symbol is in (R335). -/
def State.cutRx (s : State) (p b : Nat) : State :=
  let st := s.rxState p b
  let done := match (s.pchan p b).rx with
    | some x => st == 4 && decide (x.lastSymbol ≤ s.ns)
    | none => false
  if done then (if s.lineActive p && s.bandLive p b then s else s.setF (F.PL_RXQUAL_STATE p b) 0)
  else if 2 ≤ st ∧ st ≤ 4 then (s.setRx p b 0 none).bump F.TN_CUT_PLC
  else s

/-- The modem engine of a port restarts. -/
def State.restartModem (s : State) (p : Nat) : State := ((List.range 4).foldl (fun a b => a.cutRx p b) s).rxFollowPort p

/-- The lanes that serve an active port start (R124, R126). -/
def State.restartLanes (s : State) (p : Nat) : State :=
  if s.lineActive p then
    ((List.range 104).foldl (fun a i => if s.getF (F.SC_LANECFG_PORT i) = p then a.setF (F.SC_LANECTL_RUN i) 1 else a) s).portLaneStart p
  else s

/-- Line ports after an amendment: `named` addresses and those that changed. -/
def State.amendLines (s old : State) (named changed : List (Reg × Nat)) : State :=
  let cfg := touchedBy 96 changed [.SC_LPCFG]
  let remode := cfg.filter fun p => s.preset p != old.preset p || s.getF (F.SC_LPCFG_BANDS p) != old.getF (F.SC_LPCFG_BANDS p) ||
    s.flag (F.SC_LPCFG_ACTIVE p) != old.flag (F.SC_LPCFG_ACTIVE p)
  let relane := cfg.filter fun p => s.getF (F.SC_LPCFG_LANE p) != old.getF (F.SC_LPCFG_LANE p)
  let dly := touchedBy 96 changed [.SC_LPDLY]
  let lanes := (touchedBy 104 named [.SC_LANECFG, .SC_LANECOEF]).map fun i => s.getF (F.SC_LANECFG_PORT i)
  let start := (List.range 96).filter fun p => (remode ++ relane ++ dly ++ lanes).contains p
  let s0 := (touchedBy 96 changed [.PL_BLANK]).foldl (fun a p =>
    a.noteBlank p (old.word (F.PL_BLANK p 0)) (old.word (F.PL_BLANK p 1))) s
  let s1 := start.foldl (fun a p => (a.restartLanes p).rxFollowPort p) s0
  let s2 := remode.foldl (fun a p => (a.capRealign p).restartModem p) s1
  remode.foldl (fun a p => if a.flag (F.SC_LPCFG_ACTIVE p) = old.flag (F.SC_LPCFG_ACTIVE p) then a else a.mainsState p {}) s2

/-! ## Radio ports (R58, R134, R194, R335) -/

/-- Frames held on a port whose plan changes end, unless their last payload symbol is in (R335). -/
def State.cutHeld (s old : State) (n : Nat) : State :=
  let l := s.chirp.demods.filter fun d => d.lent.isNone && d.det.port == n &&
    !(d.stage == .payload && decide (old.demodEnd d ≤ s.ns))
  l.foldl (fun a d => (a.endHeld d .domainDown).bump F.TN_CUT_CHIRP)
    { s with chirp := { s.chirp with waiting := s.chirp.waiting.filter (·.port != n) } }

/-- The channeliser and the detector cluster of a port restart on the new plan. -/
def State.restartPlan (s old : State) (n : Nat) : State := (s.cutHeld old n).rfSettle n s.now16

/-- Radio ports after an amendment. -/
def State.amendRadio (s old : State) (changed : List (Reg × Nat)) : State :=
  let mode := (touchedBy 32 changed [.SC_RFCFG]).filter fun n => s.chmode n != old.chmode n
  let plan := (List.range 32).filter fun n => (mode ++ touchedBy 32 changed [.CH_FREQ, .CH_CHEN, .CH_SFMASK]).contains n
  let s1 := plan.foldl (fun a n => a.restartPlan old n) s
  let s2 := (touchedBy 32 changed [.SC_RFCFG]).foldl (fun a n => a.rfSync n) s1
  let up := fun n => decide (s.getF (F.SC_RFSTAT_STATE n) ≠ 0)
  let freq := (touchedBy 32 changed [.CH_FREQ]).filter up
  let s3 := freq.foldl (fun a n => a.rfcAsk { pair := n, reg := 1, data := a.getF (F.CH_FREQ_FREQ n), at_ := 0, imm := true }) s2
  let ramps := (List.range 64).filter fun i => s.word (F.CH_RAMP (i / 4) (i % 4)) != old.word (F.CH_RAMP (i / 4) (i % 4))
  if changed.any (fun x => x.1 == .CH_RAMP) then
    ((List.range 32).filter up).foldl (fun a n => ramps.foldl (fun b i => b.rfcAsk {
      pair := n, reg := 0x40 + i, data := (a.word (F.CH_RAMP (i / 4) (i % 4))).toNat, at_ := 0, imm := true }) a) s3
  else s3

/-! ## Access control and the schedule (R187, R235) -/

/-- Access settings keep their old values to the next mains cycle boundary, grants to the next superframe start (R187). -/
def State.amendAccess (s old : State) (changed : List (Reg × Nat)) : State :=
  let ps := touchedBy 96 changed [.PL_ACCCFG, .PL_ACCWIN, .PL_BCNCFG, .PL_CSTHR]
  let gs := (touchedBy 96 changed [.PL_GRADDR, .PL_GRSLOT]).flatMap fun p => (List.range 4).map (4 * p + ·)
  let acc := ps.foldl (fun m p => if (afind m p).isSome then m
    else aset m p ((List.range 7).map fun i => old.word (accAddr p i))) s.plc.access
  let grants := gs.foldl (fun m i => if (afind m i).isSome ∨ old.grantWords (i / 4) (i % 4) = s.grantWords (i / 4) (i % 4) then m
    else aset m i (old.grantWords (i / 4) (i % 4))) s.plc.grants
  { s with plc := { s.plc with access := acc, grants := grants } }

/-- A missing ACK without a retry (R235): the item is released and reported. -/
def State.ackLost (s : State) (a : RfAttempt) : State := (s.rfRelease a).notice ncRF_NOACK a.pair []

/-- The slots after an amendment: links keep their behaviour to the end of the slot in progress; a change of the slot length
or the epoch ends that slot now (R235). -/
def State.amendSlots (s old : State) (changed : List (Reg × Nat)) : State :=
  let ls := (changed.filter fun x => [Reg.MC_LINK0, .MC_LINK1, .MC_LINK2, .MC_LINK3].contains x.1).map (·.2)
  let keep := ls.foldl (fun m l => if (afind m l).isSome then m
    else aset m l ((List.range 4).map fun i => old.word (F.MC_LINK0 l + 4 * i))) s.radio.oldLinks
  if s.slotNs ≠ old.slotNs ∨ s.epoch ≠ old.epoch then
    let s1 : State := { s with radio := { s.radio with serve := [], oldLinks := [], asn := s.asn } }
    (s1.radio.attempts.filter (·.waiting)).foldl (fun a x => a.ackLost x) s1
  else if old.slotsRun then { s with radio := { s.radio with oldLinks := keep } } else s

/-! ## Queues (R58, R292) -/

/-- A queue whose placement changed: pointers and status zero, its configuration kept. -/
def State.placeQueue (s : State) (q : Nat) : State :=
  let s1 := (((s.setF (F.QM_QWP_PTR q) 0).setF (F.QM_QRP_PTR q) 0).setF (F.QM_QMP_PTR q) 0).setF (F.QM_QREL_PTR q) 0
  (s1.setWord (F.QM_QSTAT q) 0).setQst q { staleSet := (s.qst q).staleSet }

/-- Queues after an amendment. -/
def State.amendQueues (s : State) (changed : List (Reg × Nat)) : State :=
  ((changed.filter fun x => x.1 == .QM_QPLACE).map (·.2)).foldl (fun a q => a.placeQueue q) s

/-! ## The SPARE map (R380) -/

/-- The work of a logical slot moves from unit `u` to unit `v`. -/
def State.moveUnit (s old : State) (k lg u v : Nat) : State :=
  let s1 := s.endAudit k v
  if k = kLANE then (s1.moveLane u v).rxFollowLane v
  else if k = kMODEM then s1.restartModem lg
  else if k = kDETECTOR then s1.cutHeld old lg
  else s1

/-- Units that a fragment retires: they are out of service to the next full reset, and their open wedge records say so. -/
def State.retireNamed (s old : State) (k : Nat) : State :=
  ((List.range (kindUnits k)).filter fun u => s.role k u == roleRETIRED && old.role k u != roleRETIRED).foldl (fun a u =>
    let a1 := a.noteRetired k u
    match a1.openRecord fcWEDGE k u with
    | some (i, _) => a1.markRetired i
    | none => a1) s

/-- The SPARE map after an amendment: work follows its logical slots, retired units leave. -/
def State.amendSpares (s old : State) (slot : Nat) (changed : List Nat) : State :=
  if changed.any fun a => decide (0x2000 ≤ a) && decide (a < 0x4000) then
    let s1 := (List.range 7).foldl (fun a k =>
      if k = kDEMOD then a
      else (List.range (kindSlots k)).foldl (fun b lg => match old.unitOf k lg, s.unitOf k lg with
        | some u, some v => if u = v then b else b.moveUnit old k lg u v
        | _, _ => b) a) s
    let s2 := (List.range 7).foldl (fun a k => a.retireNamed old k) s1.showPipes
    { s2 with queues := { s2.queues with copies := s2.queues.copies.filter (·.txn != slot) } }
  else s

/-! ## Domains, groups, reference (R58, R77, R91, R351) -/

/-- Domains after an amendment: power-up or drain begins; in CHECK and in the DEFAULTED test they wait for its end (R425). -/
def State.amendDomains (s old : State) : State :=
  if s.mode.mode = .LOAD ∨ s.mode.mode = .CHECK ∨ s.mode.testing then s
  else (List.range 43).foldl (fun a d =>
    if a.wantsOn d = old.wantsOn d then a else if a.wantsOn d then a.powerUp d else a.drainDomain d) s

/-- Lane groups after an amendment: a group enabled now starts, one no longer enabled stops. -/
def State.amendGroups (s : State) (changed : List (Reg × Nat)) : State :=
  if changed.any fun x => [Reg.BN_GRPCFG, .BN_CFG, .PF_PORTCFG].contains x.1 then
    ((List.range 6).foldl (fun a g =>
      if a.groupEnabled g && a.getF (grpState g) == 0 then a.setGroup g 1 0
      else if !a.groupEnabled g && a.getF (grpState g) != 0 then a.setGroup g 0 0
      else a) s).refreshPaths
  else s

/-- The effects of R58 of the words written since `old`, for transaction slot `slot`. -/
def State.amendEffects (s old : State) (slot : Nat) (w : List (Nat × Word)) : State :=
  let as := w.map (·.1)
  let diff := as.filter fun a => s.word a != old.word a
  let ch := touched diff
  let s1 := (s.amendSpares old slot diff).amendLines old (touched as) ch
  let s2 := (((s1.amendRadio old ch).amendAccess old ch).amendSlots old ch).amendQueues ch
  let s3 := ((s2.amendDomains old).amendGroups ch)
  if ch.any (fun x => x.1 == .TB_REFCFG) then s3.refAmended old.refSel else s3

/-- A fragment takes effect (R57). -/
def State.applyFragment (s : State) (slot : Nat) (im : Image) : State :=
  let s1 := (s.imageWrites im.writes).amendEffects s slot im.writes
  ((s1.setWord F.CF_SEQ (BitVec.ofNat 32 im.sequence)).bump F.CF_AMEND_APPLIED).writeSummary

/-- A confined amendment of the schedule takes effect (R235). -/
def State.applySched (s : State) (w : List (Nat × Word)) : State := (s.imageWrites w).amendEffects s 512 w

end Sys2Proof.Machine
end

