-- ==== Sys2Proof/Machine/CommitOps.lean ====
section
/-! DEFINITION. Actions of a transaction (R325 to R328, R333): the checks at addition, the commit-tick checks, the effects, and the
ends of a commit. -/
namespace Sys2Proof.Machine
open Sys2Proof

/-! ## Checks at addition (R327) -/

/-- Types that take a staged item (R326). -/
def acStaged (r : List Word) : Bool := [acBLOCK_WRITE, acENQUEUE, acKEY_LOAD, acAMEND].contains (acType r)

/-- The first row of R327 but for MEMBER: TYPE, reserved bits and unlisted words. -/
def acForm (r : List Word) : Bool :=
  let zero := fun from_ => ((r.drop from_).take 8).all (· == 0)
  (wordAt r 0).field 31 9 == 0 && match acType r with
  | 1 => zero 4
  | 2 => (wordAt r 2).field 31 11 == 0 && decide (1 ≤ acCount r) && decide (acCount r ≤ 1024) && zero 3
  | 3 => (wordAt r 1).field 31 14 == 0 && zero 2
  | 4 => (wordAt r 1).field 31 14 == 0 && zero 3
  | 5 => zero 1
  | 6 => (wordAt r 1).field 31 14 == 0 && zero 6
  | 7 => (wordAt r 1).field 31 14 == 0 && zero 2
  | 8 => zero 1
  | _ => false

/-- Words of structure map an action writes: FIELD_WRITE one, BLOCK_WRITE its COUNT. -/
def acWords (r : List Word) : Nat :=
  match acType r with
  | 1 => 1 | 2 => acCount r | _ => 0

/-- A staged item is shorter than its operands need. -/
def acShort (r : List Word) (content : List Word) : Bool :=
  match acType r with
  | 2 => decide (content.length < acCount r)
  | 3 => content.isEmpty
  | 5 => decide (content.length < 12)
  | 8 => content.isEmpty
  | _ => false

/-- MASK covers part of a field. -/
def maskPartial (a : Nat) (mask : Word) : Bool :=
  match regAt a with
  | none => false
  | some h => h.rd.fields.any fun f =>
      let m := mask.field f.hi f.lo
      m != 0 && m != 2 ^ (f.hi + 1 - f.lo) - 1

/-- The word a FIELD_WRITE writes: VALUE in the fields MASK selects, the RW fields' own values elsewhere. -/
def State.maskedValue (s : State) (a : Nat) (mask v : Word) : Word :=
  match regAt a with
  | none => v &&& mask
  | some h => h.rd.fields.foldl (fun w f =>
      if mask.field f.hi f.lo ≠ 0 then w.setField f.hi f.lo (v.field f.hi f.lo)
      else if f.acc = .RW then w.setField f.hi f.lo ((s.readWord a).field f.hi f.lo)
      else w) 0

/-- The words an action writes into the structure map. -/
def State.acValues (s : State) (a : TxnAction) : List Word :=
  match acType a.record with
  | 1 => [s.maskedValue (acAddr a.record) (wordAt a.record 2) (wordAt a.record 3)]
  | 2 => a.content.take (acCount a.record)
  | _ => []

/-- Keys held in key staging (R258). -/
def State.stagedKeys (s : State) : Nat :=
  (s.txn.slots.map fun t => ((t.actions ++ (t.adding.map (·.1)).toList).filter fun a => !a.key.isEmpty).length).sum

/-- The checks of R327 from the address on, on the device the action acts on: the status and the action with its unwrapped key.
`staged` says that a complete staged item stands ready; `session` is the host session that asks, on the master's own device. -/
def State.checkAction (s : State) (a : TxnAction) (staged : Bool) (session : Option Nat) : Nat × TxnAction :=
  let r := a.record
  let n := acWords r
  let priv := match session with
    | some x => s.privileged x
    | none => true
  if n ≠ 0 ∧ !inMap (acAddr r) n then (stBAD_ADDRESS, a)
  else if n ≠ 0 ∧ !priv ∧ (List.range n).any (fun i => isHL (acAddr r + 4 * i)) then (stNOT_PRIVILEGED, a)
  else if acStaged r && (!staged || acShort r a.content) then (stSTAGE_MISSING, a)
  else if acType r = acFIELD_WRITE ∧ maskPartial (acAddr r) (wordAt r 2) then (stINVALID_VALUE, a)
  else if n ≠ 0 ∧ (s.wordsRefused true (acAddr r) (s.acValues a)).isSome then (stINVALID_VALUE, a)
  else match acType r with
    | 4 => if (wordAt r 2).bit 0 || (wordAt r 2).bit 5 then (stINVALID_VALUE, a) else (stOK, a)
    | 5 => match s.checkLoad (a.content.take 12) session with
      | (st, key) => if st ≠ stOK then (st, a) else if !key.isEmpty && decide (512 ≤ s.stagedKeys) then (stKEYSTAGE_FULL, a)
        else (stOK, { a with key := key })
    | 6 => (s.checkSched (s.schedWrites true (acQueue r) (r.drop 2)), a)
    | 7 => (s.checkSched (s.schedWrites false (acQueue r) []), a)
    | 8 => match s.checkFragment a.content with
      | .error st => (st, a)
      | .ok _ => (stOK, a)
    | 3 =>
      let h := wordAt a.content 0
      if itemStart h && decide (0 < itemLen h) && decide (itemLen h ≤ s.qSize (acQueue r)) && itemLen h == a.content.length
      then (stOK, a) else (stITEM_FORMAT, a)
    | _ => (stOK, a)

/-- A refused AMEND is counted (R55). -/
def State.countAmend (s : State) (r : List Word) (st : Nat) : State :=
  if acType r = acAMEND ∧ (st = stAMEND_INVALID ∨ st = stAMEND_STALE ∨ st = stAMEND_FORBIDDEN) then s.amendRefused else s

/-! ## Adding (R326, R329) -/

/-- The staged item of an action is read: held unreleased (R326). -/
def State.takeStaged (s : State) (t : Txn) (a : TxnAction) : State :=
  match t.stageQ with
  | some q => if a.item.isEmpty || t.master.isSome then s else s.qConsume q
  | none => s

/-- The action is added and holds its lock; an AMEND's bank copies start on this device (R278). -/
def State.addAction (s : State) (t : Txn) (a : TxnAction) : State :=
  let s1 := s.takeStaged t a
  let s2 := if acType a.record = acAMEND ∧ !t.remote a then s1.startCopies t.slot (stagedImage a.content).writes else s1
  s2.setTxn { t with phase := .opened, adding := none, actions := t.actions ++ [a], locked := t.locked ++ [t.actions.length] }

/-- An action that passed its checks claims its lock (R329): it is added and answered, or waits. -/
def State.claimAction (s : State) (t : Txn) (a : TxnAction) (who : TxnAsker) : State :=
  let wait := fun (x : State) => x.setTxn { t with phase := .waiting, adding := some (a, who), since := x.ns }
  match t.lockOf a with
  | none => (s.addAction t a).answerAdd who stOK [BitVec.ofNat 32 a.index]
  | some l => match s.claimLock t l with
    | (s1, true) => (s1.addAction t a).answerAdd who stOK [BitVec.ofNat 32 a.index]
    | (s1, false) => wait s1

/-! ## Reservations (R328) -/

/-- Words each target queue needs for the enqueues of a transaction on this device. -/
def Txn.needs (t : Txn) : List (Nat × Nat) :=
  (t.actions.filter fun a => acType a.record == acENQUEUE && !t.remote a).foldl (fun m a =>
    aset m (acQueue a.record) (aget 0 m (acQueue a.record) + a.content.length)) []

/-- Room is reserved for every enqueue, or lacking in one queue. -/
def State.reserveFor (s : State) (t : Txn) : Option (State × Txn) :=
  let l := t.needs
  if l.any fun x => s.qUsable x.1 && decide (s.qRoom x.1 < x.2) then none
  else
    let s1 := l.foldl (fun a x => a.setQst x.1 { a.qst x.1 with reserved := (a.qst x.1).reserved + x.2 }) s
    some (s1.setTxn { t with reserved := l }, { t with reserved := l })

/-! ## Commit-tick checks (R333, R338) -/

/-- A commit check that failed: status, action index, record address. -/
structure CommitFail where
  status : Nat
  index : Nat
  record : Nat := 0
  deriving DecidableEq, Repr

/-- The action is an amendment: a fragment, or a confined one (R235). -/
def acAmends (r : List Word) : Bool := acType r == acAMEND || acType r == acSCHED_INSERT || acType r == acSCHED_REMOVE

/-- Another transaction has voted YES with an amendment prepared for a tick after the commit of `t` (R338). DEDUCED (entry 157): the
confined amendments of R235 are amendments here. -/
def State.preparedAmend (s : State) (t : Txn) : Bool :=
  s.txn.slots.any fun x => x.slot != t.slot && x.prepared && decide (t.commitAt < x.commitAt) &&
    x.actions.any fun a => acAmends a.record && !x.remote a

/-- The checks of R333 on actions in order, `v` being the structure the earlier ones leave. -/
def State.commitChecks (s : State) (t : Txn) : State → List TxnAction → Option CommitFail
  | _, [] => none
  | v, a :: rest =>
    match acType a.record with
    | 8 =>
      let im := stagedImage a.content
      if s.preparedAmend t then some { status := stAMEND_CONFLICT, index := a.index, record := im.firstRecord }
      else match v.amendConflict t.slot im with
      | some r => some { status := stAMEND_CONFLICT, index := a.index, record := r }
      | none => s.commitChecks t ((v.imageWrites im.writes).setWord F.CF_SEQ (BitVec.ofNat 32 im.sequence)) rest
    | 6 =>
      let w := v.schedWrites true (acQueue a.record) (a.record.drop 2)
      if s.preparedAmend t then some { status := stAMEND_CONFLICT, index := a.index, record := F.MC_LINK0 (acQueue a.record) }
      else match w.find? fun x => valueBreach x.1 x.2 with
      | some x => some { status := stAMEND_CONFLICT, index := a.index, record := x.1 }
      | none => s.commitChecks t (v.imageWrites w) rest
    | 7 =>
      if s.preparedAmend t then some { status := stAMEND_CONFLICT, index := a.index, record := F.MC_LINK0 (acQueue a.record) }
      else s.commitChecks t (v.imageWrites (v.schedWrites false (acQueue a.record) [])) rest
    | 3 => if v.qUsable (acQueue a.record) then s.commitChecks t v rest else some { status := stQUEUE_OFF, index := a.index }
    | 4 => if v.qUsable (acQueue a.record) then s.commitChecks t v rest else some { status := stQUEUE_OFF, index := a.index }
    | _ => s.commitChecks t v rest

/-- Actions of a transaction that act on this device. -/
def Txn.here (t : Txn) : List TxnAction := t.actions.filter fun a => !t.remote a

/-! ## Effects (R333) -/

/-- An ENQUEUE: the item is placed behind an open one (R328), or at W. -/
def State.commitEnqueue (s : State) (q : Nat) (item : List Word) : State :=
  (s.setQst q { s.qst q with behind := (s.qst q).behind ++ [item] }).qSettle q

/-- An action takes effect. -/
def State.applyAction (s : State) (t : Txn) (a : TxnAction) : State :=
  let r := a.record
  match acType r with
  | 1 => (s.writeWords t.session (acAddr r) (s.acValues a)).1
  | 2 => (s.writeWords t.session (acAddr r) (s.acValues a)).1
  | 3 => s.commitEnqueue (acQueue r) a.content
  | 4 => (s.qctlOps (acQueue r) (if t.stageQ = some (acQueue r) then (wordAt r 2).setField 4 4 0 else wordAt r 2)).1
  | 5 => s.loadKey (klTarget a.content) (klOp a.content) a.key
  | 6 => s.applySched (s.schedWrites true (acQueue r) (r.drop 2))
  | 7 => s.applySched (s.schedWrites false (acQueue r) [])
  | 8 => s.applyFragment t.slot (stagedImage a.content)
  | _ => s

/-- Every action of a transaction on this device takes effect in order. The transaction stands outside its slot meanwhile: what it
writes does not act on it. -/
def State.applyAll (s : State) (t : Txn) : State :=
  let s1 : State := { s with txn := { s.txn with slots := s.txn.slots.filter (·.slot != t.slot) } }
  let s2 := t.here.foldl (fun a x => a.applyAction t x) s1
  ({ s2 with txn := { s2.txn with slots := s2.txn.slots ++ [t] } } : State).bump F.TN_CNT_COMMITTED

/-- An abort at the commit tick (R57, R333): every amendment action of the transaction on this device counts as aborted (R52). -/
def State.abortCommit (s : State) (t : Txn) (f : CommitFail) (reported : Bool) : State :=
  let s1 := (t.here.filter fun a => acType a.record == acAMEND).foldl (fun x _ => x.amendRefused) s
  s1.abortTxn t { status := f.status, index := f.index, member := s.memberNo, record := f.record } reported

end Sys2Proof.Machine
end

