-- ==== Sys2Proof/Machine/Txn.lean ====
section
/-! DEFINITION. The transaction commands and a device's own transaction events (R322 to R341): opening, adding, committing, aborting,
lock grants and timeouts, and the commit tick. -/
namespace Sys2Proof.Machine
open Sys2Proof

/-! ## TXN_OPEN (R322, R323, R341) -/

/-- Opens that arrive together are applied in successive ticks: no two transactions of the device share an age (R323). -/
def State.ageTick (s : State) : State :=
  if s.txn.lastOpen = some (s.ns, s.frac) then s.coreTick else s

/-- A slot and a transaction tag are taken: the slot, its generation and the tag. -/
def State.takeSlot (s : State) : Option (State × Nat × Nat × Nat) :=
  match s.txn.pool.take 512 128 with
  | none => none
  | some (i, g, p) => match s.takeTag tcTXN with
    | (s1, some tag) =>
      some ({ s1 with txn := { s1.txn with pool := p, late := s1.txn.late.filter (· % 512 != i) } }, i, g, tag)
    | (_, none) => none

/-- A transaction put into its slot. -/
def State.openSlot (s : State) (t : Txn) : State := { s with txn := { s.txn with slots := s.txn.slots ++ [t] } }

/-- TXN_OPEN. -/
def State.txnOpen (s : State) (c : Cmd) (w : List Word) : State :=
  let members := (wordAt w 1).toNat
  let q := (wordAt w 0).field 13 0
  let staged := (wordAt w 0).bit 14
  if members ≠ 0 ∧ s.benchRole ≠ roleMASTER then s.complete c opTXN_OPEN stINVALID_VALUE
  else if staged && (s.stageHolder q).isSome then s.complete c opTXN_OPEN stQUEUE_BUSY
  else match s.ageTick.takeSlot with
  | none => (s.bump F.TN_STAT_REFUSED).complete c opTXN_OPEN stTXN_LIMIT
  | some (s1, i, g, tag) =>
    let age : Age := { time := s1.ns, frac := s1.frac, member := s1.memberNo }
    let t : Txn := {
      slot := i, gen := g, tag := tag, age := age, session := c.session, members := members,
      stageQ := if staged then some q else none }
    let s2 := s1.openSlot t
    ({ s2 with txn := { s2.txn with lastOpen := some (s2.ns, s2.frac) } } : State).complete c opTXN_OPEN stOK [BitVec.ofNat 32 t.handle, lo32 age.time, hi32 age.time,
      BitVec.ofNat 32 (age.frac + age.member * 2 ^ 16)]

/-- TXN_OPEN (R322). -/
def execTxnOpen (c : Cmd) (w : List Word) (s : State) : Result := .next (s.command c opTXN_OPEN (s.txnOpen c w))

/-! ## TXN_ADD (R327, R329, R337) -/

/-- MEMBER is one the transaction may name. -/
def Txn.memberOk (t : Txn) (m : Nat) : Bool := if t.members = 0 then m == 0 else t.members / 2 ^ m % 2 == 1

/-- The complete item at the read pointer of the staging queue. -/
def State.stagedItem (s : State) (t : Txn) : Option (List Word) :=
  t.stageQ.bind fun q => if s.qUsable q then s.qFront q else none

/-- A staged item with a poisoned word (R277): the action is refused, and the item released or, where its header is lost, the
queue flushed (R336). -/
def State.poisonedStage (s : State) (t : Txn) : Option State :=
  t.stageQ.bind fun q =>
    if !s.qUsable q then none
    else if s.qHeadLost q then some (s.eccFlush q)
    else match s.qFront q with
      | some it => if s.qPoisoned q (s.qR q) it.length then some ((s.qConsume q).qRelease q) else none
      | none => none

/-- An action goes to the member it acts on (R337); the command waits for the member's answer. -/
def State.sendAction (s : State) (t : Txn) (a : TxnAction) (who : TxnAsker) : State :=
  let m := acMember a.record
  let b : BenchAction := {
    handle := t.handle, age := t.age, members := t.members, index := a.index, record := a.record, item := a.item }
  match s.benchAsk m (.action b) (.txnAction t.slot a.index) with
  | (s1, st) =>
    if st = stOK then s1.setTxn { t with phase := .waiting, adding := some (a, who), since := s1.ns }
    else s1.answerAdd who st []

/-- An action that its first checks let pass, with its staged item. -/
def State.addLocal (s : State) (t : Txn) (a : TxnAction) (staged : Bool) (c : Cmd) : State :=
  if t.remote a then
    if acStaged a.record && !staged then s.complete c opTXN_ADD stSTAGE_MISSING else s.sendAction t a (.host c)
  else match s.checkAction a staged (some c.session.val) with
    | (st, a1) =>
      if st = stOK then s.claimAction t a1 (.host c)
      else (s.countAmend a.record st).complete c opTXN_ADD st

/-- TXN_ADD of an action record. -/
def State.txnAdd (s : State) (c : Cmd) (w : List Word) : State :=
  let r := (List.range 8).map fun i => wordAt w (i + 1)
  match s.txnOf (wordAt w 0).toNat with
  | none => s.complete c opTXN_ADD stNOT_OPEN
  | some t =>
    if t.phase ≠ .opened ∨ t.master.isSome then s.complete c opTXN_ADD stNOT_OPEN
    else if !acForm r || !t.memberOk (acMember r) then s.complete c opTXN_ADD stINVALID_VALUE
    else if 64 ≤ t.actions.length then s.complete c opTXN_ADD stACTIONS_FULL
    else match if acStaged r then s.poisonedStage t else none with
    | some s1 => s1.complete c opTXN_ADD stQUEUE_ECC
    | none =>
      let it := if acStaged r then s.stagedItem t else none
      s.addLocal t { record := r, item := it.getD [], index := t.actions.length } it.isSome c

/-- TXN_ADD (R327). -/
def execTxnAdd (c : Cmd) (w : List Word) (s : State) : Result := .next (s.command c opTXN_ADD (s.txnAdd c w))

/-! ## TXN_COMMIT (R328, R333, R338, R341) -/

/-- The COMMIT entry of a transaction at a time. -/
def Txn.commitEntry (t : Txn) (time : Nat) : List Word := entryWords leTypeCOMMIT 4 t.slot time

/-- An immediate commit: the completion carries the outcome. -/
def State.commitNow (s : State) (t : Txn) (c : Cmd) : State :=
  let t1 := { t with commitAt := s.ns }
  match s.commitChecks t1 s t1.here with
  | some f => (s.abortCommit t1 f true).complete c opTXN_COMMIT f.status
  | none => ((s.applyAll t1).freeTxn t1).complete c opTXN_COMMIT stOK

/-- A local commit at a time: its COMMIT entry, or the launch status with the reservations released. -/
def State.commitLocalAt (s : State) (t : Txn) (c : Cmd) (time : Nat) : State :=
  match s.lqInsert (t.commitEntry time) (.txn t.slot) with
  | (s1, st, h) =>
    if st = stOK then (s1.setTxn { t with phase := .scheduled, entry := some h, commitAt := time }).complete c opTXN_COMMIT stOK
      [BitVec.ofNat 32 h]
    else ((s1.unreserve t).setTxn { t with phase := .opened, reserved := [] }).complete c opTXN_COMMIT st

/-- A part's prepare on this device (R338): the commit-tick checks, then the COMMIT entry at its time. -/
def State.preparePart (s : State) (t : Txn) (time : Nat) : State × Option CommitFail :=
  match s.commitChecks { t with commitAt := time } s t.here with
  | some f => (s, some f)
  | none => match s.lqInsert (t.commitEntry time) (.txn t.slot) with
    | (s1, st, h) =>
      if st = stOK then (s1.setTxn { t with entry := some h, commitAt := time, prepared := true, phase := .sealed }, none)
      else (s1, some { status := st, index := 0 })

/-- The decision COMMIT is sent once every member has voted YES (R339). -/
def State.decideTxn (s : State) (t : Txn) : State :=
  if t.decided = none ∧ t.prepared ∧ (s.otherMembers t).all (fun m => t.votes.contains m) then
    (s.otherMembers t).foldl (fun a m => (a.benchAsk m (.decision t.handle true) (.txnOther t.slot)).1)
      (s.setTxn { t with decided := some true })
  else s.setTxn t

/-- A bench-wide commit (R338): sealed, prepares sent, the master's own part prepared in the same tick. -/
def State.commitBench (s : State) (t : Txn) (c : Cmd) (time : Nat) : State :=
  if time < s.ns + 200000 then
    ((s.unreserve t).setTxn { t with reserved := [] }).complete c opTXN_COMMIT stCOMMIT_TOO_SOON
  else
    let t1 := { t with phase := .sealed, commitAt := time }
    let s1 := (s.otherMembers t1).foldl (fun a m => (a.benchAsk m (.prepare t1.handle time) (.txnPrepare t1.slot)).1) (s.setTxn t1)
    let s2 := s1.complete c opTXN_COMMIT stOK
    match s2.preparePart t1 time with
    | (s3, none) => match s3.txnAt t1.slot with
      | some t2 => s3.decideTxn t2
      | none => s3
    | (s3, some f) => s3.abortTxn t1 { status := stVOTE_NO, index := f.index, member := s.memberNo, record := f.record } false

/-- TXN_COMMIT of an open transaction: words 2 to 5 of the command. -/
def State.doCommit (s : State) (t : Txn) (c : Cmd) (w : List Word) : State :=
  let at_ := (wordAt w 1).bit 0
  let time := (wordAt w 2).toNat + (wordAt w 3).toNat * 2 ^ 32
  if t.members ≠ 0 ∧ !at_ then s.complete c opTXN_COMMIT stINVALID_VALUE
  else if t.members ≠ 0 ∧ time < s.ns + 200000 then s.complete c opTXN_COMMIT stCOMMIT_TOO_SOON
  else match s.reserveFor t with
  | none => s.complete c opTXN_COMMIT stQUEUE_FULL
  | some (s1, t1) =>
    if t.members ≠ 0 then s1.commitBench t1 c time
    else if at_ then s1.commitLocalAt t1 c time
    else s1.commitNow t1 c

/-- TXN_COMMIT: of an OPEN transaction, or held in a RECLAIM entered before a commit (R331). -/
def State.txnCommit (s : State) (c : Cmd) (w : List Word) : State :=
  match s.txnOf (wordAt w 0).toNat with
  | none => s.complete c opTXN_COMMIT stNOT_OPEN
  | some t =>
    if t.master.isSome then s.complete c opTXN_COMMIT stNOT_OPEN
    else if t.phase = .opened then s.doCommit t c w
    else if t.phase = .reclaim ∧ !t.wasScheduled ∧ t.heldCommit = none then s.setTxn { t with heldCommit := some (c, w) }
    else s.complete c opTXN_COMMIT stNOT_OPEN

/-- TXN_COMMIT (R341). -/
def execTxnCommit (c : Cmd) (w : List Word) (s : State) : Result := .next (s.command c opTXN_COMMIT (s.txnCommit c w))

/-! ## TXN_ABORT and TXN_STATUS (R339, R341) -/

/-- The outcome of a transaction is one TXN_DONE reports: launched, or bench-wide (R343). -/
def Txn.launched (t : Txn) : Bool := t.members != 0 || t.phase == .scheduled || t.phase == .sealed || (t.phase == .reclaim && t.wasScheduled)

/-- TXN_ABORT. -/
def State.txnAbort (s : State) (c : Cmd) (w : List Word) : State :=
  let h := (wordAt w 0).toNat
  match s.txnOf h with
  | none => s.complete c opTXN_ABORT (if s.txn.late.contains (h % 65536) then stTOO_LATE else stNOT_OPEN)
  | some t =>
    if t.master.isSome then s.complete c opTXN_ABORT stNOT_OPEN
    else if (t.phase = .scheduled ∧ t.commitAt ≤ s.ns) ∨ (t.phase = .sealed ∧ t.decided.isSome) then
      s.complete c opTXN_ABORT stTOO_LATE
    else (s.abortTxn t { status := stTXN_ABORTED } (!t.launched)).complete c opTXN_ABORT stOK

/-- TXN_ABORT (R341). -/
def execTxnAbort (c : Cmd) (w : List Word) (s : State) : Result := .next (s.command c opTXN_ABORT (s.txnAbort c w))

/-- TXN_STATUS: the four words of the slot. -/
def State.txnStatus (s : State) (c : Cmd) (w : List Word) : State :=
  match s.txnOf (wordAt w 0).toNat with
  | none => s.complete c opTXN_STATUS stNOT_OPEN
  | some t => s.complete c opTXN_STATUS stOK ((List.range 4).map t.slotWord)

/-- TXN_STATUS (R341). -/
def execTxnStatus (c : Cmd) (w : List Word) (s : State) : Result := .next (s.command c opTXN_STATUS (s.txnStatus c w))

/-! ## Locks granted and timed out (R329, R331) -/

/-- A wounded transaction holds its locks again (R331): as before the wound; a commit held meanwhile takes effect. -/
def State.reclaimed (s : State) (t : Txn) : State :=
  let t1 := { t with phase := if t.wasScheduled then TxnPhase.scheduled else .opened, wasScheduled := false, heldCommit := none }
  let s1 := s.setTxn t1
  match t.heldCommit with
  | some (c, w) => s1.doCommit t1 c w
  | none => s1

/-- Locks claimed again in action order, at most `n` of them; a claim that waits, or an action of another member, stops here. -/
def State.reclaim : Nat → State → Nat → State
  | 0, s, _ => s
  | n + 1, s, slot => match s.txnAt slot with
    | none => s
    | some t =>
      let i := t.locked.length
      match t.actions[i]? with
      | none => s.reclaimed t
      | some a =>
        let got := fun (x : State) => State.reclaim n (x.setTxn { t with locked := t.locked ++ [i], since := x.ns }) slot
        if t.remote a then
          if s.bench.reqs.any (fun r => r.purpose == .txnAction slot i) then s
          else
            let b : BenchAction := {
              handle := t.handle, age := t.age, members := t.members, index := i, record := a.record, item := a.item }
            match s.benchAsk (acMember a.record) (.action b) (.txnAction slot i) with
            | (s1, st) => if st = stOK then s1 else s1.abortTxn t { status := st } false
        else match a.lock with
          | none => got s
          | some l => match s.claimLock t l with
            | (s1, true) => got s1
            | (s1, false) => s1

/-- LOCK_GRANT (R329, R331): the oldest waiter takes a lock that is free, or a wounded transaction claims its locks again. -/
def lockGrant (i action : Nat) (s : State) : State :=
  match s.txnAt i with
  | none => s
  | some t => match t.phase, t.adding with
    | .waiting, some (a, who) => match t.wants with
      | some (k, l) =>
        if k ≠ action ∨ !(s.holders t l).isEmpty ∨ s.olderWaits t l then s
        else (s.addAction t a).answerAdd who stOK [BitVec.ofNat 32 a.index]
      | none => s
    | .reclaim, _ => if action = t.locked.length then State.reclaim (t.actions.length + 1) s i else s
    | _, _ => s

/-- LOCK_GRANT (R329). -/
def execLockGrant (t : TxnSlot) (action : Nat) (s : State) : Result := .next (lockGrant t action s)

/-- LOCK_TIMEOUT (R329, R331): a wait longer than WAIT_LIMIT ends. -/
def lockTimeout (i action : Nat) (s : State) : State :=
  match s.txnAt i with
  | none => s
  | some t =>
    let lim := s.getF F.TN_CTL_WAIT_LIMIT * 1000000
    if lim = 0 ∨ s.ns ≤ t.since + lim ∨ (t.wants.map (·.1)) ≠ some action then s
    else match t.phase, t.adding with
      | .waiting, some (_, who) => (s.setTxn { t with phase := .opened, adding := none }).answerAdd who stLOCK_TIMEOUT []
      | .reclaim, _ => s.abortTxn t { status := stLOCK_TIMEOUT } false
      | _, _ => s

/-- LOCK_TIMEOUT (R329). -/
def execLockTimeout (t : TxnSlot) (action : Nat) (s : State) : Result := .next (lockTimeout t action s)

/-! ## The commit tick (R333, R339, R340) -/

/-- A member's part tells the master its outcome and frees its slot (R340). -/
def State.reportPart (s : State) (t : Txn) (m h st : Nat) : State :=
  ((s.benchAsk m (.outcome h st) (.txnOther t.slot)).1).freeTxn t

/-- A transaction's COMMIT entry takes effect; a later TXN_ABORT is TOO_LATE (R341). -/
def State.commitTick (s : State) (e : LqEntry) (t : Txn) : State :=
  let s0 := s.lqRemove e.entry
  let s1 : State := if t.master.isNone then { s0 with txn := { s0.txn with late := s0.txn.late ++ [t.handle] } } else s0
  let t1 := { t with entry := none }
  let fail := s1.commitChecks t1 s1 t1.here
  match t.phase, t.master with
  | .reclaim, _ => s1.abortTxn t1 { status := stWOUNDED } false
  | _, some (m, h) =>
    if t.decided ≠ some true then s1.abortTxn t1 { status := stDECISION_MISSING } false
    else match fail with
      | some f => s1.abortCommit t1 f false
      | none => (s1.applyAll t1).reportPart t1 m h stOK
  | _, none =>
    if t.members = 0 then match fail with
      | some f => s1.abortCommit t1 f false
      | none => (s1.applyAll t1).finishTxn t1 { status := stOK }
    else if t.decided ≠ some true then s1.abortTxn t1 { status := stVOTE_MISSING } false
    else match fail with
      | some f => s1.abortCommit t1 f false
      | none => (s1.applyAll t1).ownPart t1 stOK

/-- COMMIT (R333): a launched COMMIT entry. -/
def execCommit (e : EntryId) (s : State) : Result :=
  .next (s.runAction e leTypeCOMMIT fun x => match s.txn.slots.find? (·.entry == some x.handle) with
    | some t => s.commitTick x t
    | none => s.lqRemove x.entry)

end Sys2Proof.Machine
end

