-- ==== Sys2Proof/Machine/TxnBench.lean ====
section
/-! DEFINITION. Bench-wide transactions (R332, R337 to R340): what a member does with the master's actions, prepare and decision,
what the master does with wounds, votes and outcomes, and their deadlines. -/
namespace Sys2Proof.Machine
open Sys2Proof

/-- A request of the master that a member executes: none where it comes from elsewhere, or has been executed (R357: the ACK is sent
again). -/
def State.masterAsks (s : State) (from_ : Member) (tag : OpTag) : Option State :=
  if s.benchRole ≠ roleMEMBER ∨ from_.val ≠ 0 then some s
  else (s.benchSeen from_ tag).map fun d => s.benchPost from_ (.ack tag d.status d.words)

/-- A request of a member that the master executes. -/
def State.memberAsks (s : State) (from_ : Member) (tag : OpTag) : Option State :=
  if s.benchRole ≠ roleMASTER then some s
  else (s.benchSeen from_ tag).map fun d => s.benchPost from_ (.ack tag d.status d.words)

/-- The part a member holds of the master's transaction. -/
def State.partWith (s : State) (m h : Nat) : Option Txn := s.txn.slots.find? (·.master == some (m, h))

/-- A part takes a slot and a transaction tag (R337): the state and the part. -/
def State.newPart (s : State) (m h members : Nat) (age : Age) : Option (State × Txn) :=
  (s.takeSlot).map fun (s1, i, g, tag) =>
    let q := s.getF F.TN_BCFG_BSTAGEQ
    let t : Txn := {
      slot := i, gen := g, tag := tag, age := age, members := members,
      stageQ := if s.flag F.TN_BCFG_BSTAGE_EN then some q else none, master := some (m, h) }
    (s1.openSlot t, t)

/-! ## Actions (R337) -/

/-- BSTAGEQ takes the staged item. -/
def State.canStage (s : State) (item : List Word) : Bool :=
  s.flag F.TN_BCFG_BSTAGE_EN && !item.isEmpty && s.qCanTake (s.getF F.TN_BCFG_BSTAGEQ) item.length

/-- The staged item is written to BSTAGEQ, and read. -/
def State.stageItem (s : State) (slot : Nat) (item : List Word) : State :=
  if item.isEmpty then s
  else
    let q := s.getF F.TN_BCFG_BSTAGEQ
    let s1 := (s.qHwItem q (.hw 10 slot) item).1
    s1.qRead q (s1.qW q)

/-- An action of the master's transaction, checked for a part (R327): claimed, or refused. `s` is the state a refusal leaves. -/
def State.partAction (s s1 : State) (t : Txn) (b : BenchAction) (from_ tag : Nat) : State :=
  let refuse := fun (st : Nat) => (s.countAmend b.record st).benchReply from_ tag st []
  if t.phase ≠ .opened then refuse stNOT_OPEN
  else if !acForm b.record then refuse stINVALID_VALUE
  else if 64 ≤ t.actions.length then refuse stACTIONS_FULL
  else
    let item := if acStaged b.record then b.item else []
    match s1.checkAction { record := b.record, item := item, index := b.index } (s1.canStage item) none with
    | (st, a) => if st ≠ stOK then refuse st else (s1.stageItem t.slot item).claimAction t a (.bench from_ tag)

/-- BENCH_ACTION. -/
def benchAction (from_ : Member) (tag : OpTag) (b : BenchAction) (s : State) : State :=
  match s.masterAsks from_ tag with
  | some s1 => s1
  | none =>
    if s.txn.slots.any fun t => (t.adding.map (·.2)) == some (.bench from_ tag) then s
    else match s.partWith from_ b.handle with
    | some t => s.partAction s t b from_ tag
    | none => match s.newPart from_ b.handle (max 1 b.members) b.age with
      | some (s1, t) => s.partAction s1 t b from_ tag
      | none => (s.bump F.TN_STAT_REFUSED).benchReply from_ tag stTXN_LIMIT []

/-- BENCH_ACTION (R337). -/
def execBenchAction (from_ : Member) (tag : OpTag) (action : BenchAction) (s : State) : Result :=
  .next (benchAction from_ tag action s)

/-! ## Wounds (R332) -/

/-- WOUND_REQUEST (R332): the victim, opened here, is wounded, or the wound is refused. -/
def woundRequest (from_ : Member) (tag : OpTag) (i : TxnSlot) (wounder : Nat) (s : State) : State :=
  match s.memberAsks from_ tag with
  | some s1 => s1
  | none => match s.txnAt i with
    | some t =>
      if t.master.isNone && t.woundable then (s.woundTxn t wounder s.memberNo).benchReply from_ tag stOK []
      else s.benchReply from_ tag stTOO_LATE []
    | none => s.benchReply from_ tag stOK []

/-- WOUND_REQUEST (R332). -/
def execWoundRequest (from_ : Member) (tag : OpTag) (t : TxnSlot) (wounder : Nat) (s : State) : Result :=
  .next (woundRequest from_ tag t wounder s)

/-! ## Prepare, vote, decision (R338, R339) -/

/-- A member's vote, a request to the master. -/
def State.sendVote (s : State) (h : Nat) (f : Option CommitFail) : State :=
  match f with
  | none => (s.benchAsk 0 (.vote h true stOK 0) .none).1
  | some x => (s.benchAsk 0 (.vote h false x.status x.index) .none).1

/-- A part prepares: reservations, commit-tick checks, the COMMIT entry; its vote. -/
def State.prepareVote (s : State) (t : Txn) (h time : Nat) : State :=
  match s.reserveFor t with
  | none => s.sendVote h (some { status := stQUEUE_FULL, index := 0 })
  | some (s1, t1) => match s1.preparePart t1 time with
    | (s2, f) => s2.sendVote h f

/-- PREPARE (R338). -/
def prepare (from_ : Member) (tag : OpTag) (h time : Nat) (s : State) : State :=
  match s.masterAsks from_ tag with
  | some s1 => s1
  | none => match s.partWith from_ h with
    | some t =>
      if t.phase = .opened then (s.benchReply from_ tag stOK []).prepareVote t h time
      else s.benchReply from_ tag stNOT_OPEN []
    | none => match s.newPart from_ h 1 { time := s.ns, frac := s.frac, member := from_.val } with
      | some (s1, t) => (s1.benchReply from_ tag stOK []).prepareVote t h time
      | none => ((s.bump F.TN_STAT_REFUSED).benchReply from_ tag stOK []).sendVote h (some { status := stTXN_LIMIT, index := 0 })

/-- PREPARE (R338). -/
def execPrepare (from_ : Member) (tag : OpTag) (handle commit : Nat) (s : State) : Result :=
  .next (prepare from_ tag handle commit s)

/-- The vote deadline V (R339). -/
def State.voteDeadline (s : State) (t : Txn) : Nat := t.commitAt - s.getF F.TN_BCFG_VOTE_LEAD * 10000

/-- A sealed transaction of this master that has not decided, by handle. -/
def State.undecided (s : State) (h : Nat) : Option Txn :=
  (s.txnOf h).filter fun t => t.phase == .sealed && t.master.isNone && t.decided.isNone

/-- A vote is counted (R339): the last YES by V (R106) makes the decision COMMIT, the first NO aborts. -/
def State.countVote (s : State) (from_ : Member) (h : Nat) (yes : Bool) (index : Nat) : State :=
  match s.undecided h with
  | none => s
  | some t =>
    if !(s.otherMembers t).contains from_.val then s
    else if !yes then s.abortTxn t { status := stVOTE_NO, index := index, member := from_.val } false
    else if s.voteDeadline t < s.ns then s
    else s.decideTxn { t with votes := t.votes ++ [from_.val] }

/-- VOTE (R339): acknowledged and counted. -/
def vote (from_ : Member) (tag : OpTag) (h : Nat) (yes : Bool) (index : Nat) (s : State) : State :=
  match s.memberAsks from_ tag with
  | some s1 => s1
  | none => (s.benchReply from_ tag stOK []).countVote from_ h yes index

/-- VOTE (R339). -/
def execVote (from_ : Member) (tag : OpTag) (handle : Nat) (yes : Bool) (_status index : Nat) (s : State) : Result :=
  .next (vote from_ tag handle yes index s)

/-- VOTE_DEADLINE (R339): V has passed with a vote missing. -/
def voteExpiry (i : TxnSlot) (s : State) : State :=
  match s.txnAt i with
  | none => s
  | some t =>
    if t.phase = .sealed ∧ t.master = none ∧ t.decided = none ∧ s.expired (s.voteDeadline t) then
      s.abortTxn t { status := stVOTE_MISSING, member := ((s.otherMembers t).find? fun m => !t.votes.contains m).getD 0 } false
    else s

/-- VOTE_DEADLINE (R339). -/
def execVoteDeadline (t : TxnSlot) (s : State) : Result := .next (voteExpiry t s)

/-- DECISION (R339): the part commits at C, where the decision came by C - GUARD (R106), or aborts now. -/
def decision (from_ : Member) (tag : OpTag) (h : Nat) (commit : Bool) (s : State) : State :=
  match s.masterAsks from_ tag with
  | some s1 => s1
  | none => match s.partWith from_ h with
    | none => s.benchReply from_ tag stOK []
    | some t =>
      let s1 := s.benchReply from_ tag stOK []
      if commit then
        if t.commitAt < s.ns + s.getF F.TN_BCFG_GUARD * 1000 then s1 else s1.setTxn { t with decided := some true }
      else s1.abortTxn t { status := stTXN_ABORTED } false

/-- DECISION (R339). -/
def execDecision (from_ : Member) (tag : OpTag) (handle : Nat) (commit : Bool) (s : State) : Result :=
  .next (decision from_ tag handle commit s)

/-- DECISION_DEADLINE (R339): no decision by C - GUARD. -/
def decisionDeadline (i : TxnSlot) (s : State) : State :=
  match s.txnAt i with
  | none => s
  | some t =>
    if t.master.isSome ∧ t.prepared ∧ t.decided = none ∧ s.expired (t.commitAt - s.getF F.TN_BCFG_GUARD * 1000) then
      s.abortTxn t { status := stDECISION_MISSING } false
    else s

/-- DECISION_DEADLINE (R339). -/
def execDecisionDeadline (t : TxnSlot) (s : State) : Result := .next (decisionDeadline t s)

/-! ## Outcomes (R340) -/

/-- A sealed transaction of this master whose decision was COMMIT, by handle. -/
def State.awaiting (_s : State) (t : Txn) : Bool := t.phase == .sealed && t.master.isNone && t.decided == some true

/-- A member's outcome is noted (R340). -/
def State.countReport (s : State) (from_ : Member) (h st : Nat) : State :=
  match s.txnOf h with
  | none => s
  | some t =>
    if !s.awaiting t ∨ !(s.otherMembers t).contains from_.val ∨ t.reports.any (·.1 == from_.val) then s
    else
      let t1 := { t with reports := t.reports ++ [(from_.val, st)] }
      if s.allReported t1 then s.benchDone t1 else s.setTxn t1

/-- OUTCOME_REPORT (R340): acknowledged and noted. -/
def outcomeReport (from_ : Member) (tag : OpTag) (h st : Nat) (s : State) : State :=
  match s.memberAsks from_ tag with
  | some s1 => s1
  | none => (s.benchReply from_ tag stOK []).countReport from_ h st

/-- OUTCOME_REPORT (R340). -/
def execOutcomeReport (from_ : Member) (tag : OpTag) (handle status : Nat) (s : State) : Result :=
  .next (outcomeReport from_ tag handle status s)

/-- OUTCOME_TIMEOUT (R340): a report is missing 1 ms after C. -/
def outcomeTimeout (i : TxnSlot) (s : State) : State :=
  match s.txnAt i with
  | none => s
  | some t => if s.awaiting t ∧ s.expired (t.commitAt + 1000000) ∧ t.reports.any (·.1 == s.memberNo) then s.benchDone t else s

/-- OUTCOME_TIMEOUT (R340). -/
def execOutcomeTimeout (t : TxnSlot) (s : State) : Result := .next (outcomeTimeout t s)

/-! ## ACKs of a transaction's requests (R337) -/

/-- The member's answer to an action: it is added, refused, or held again in RECLAIM. -/
def State.actionAcked (s : State) (slot index st : Nat) : State :=
  match s.txnAt slot with
  | none => s
  | some t => match t.phase, t.adding with
    | .waiting, some (a, who) =>
      if a.index ≠ index then s
      else if st = stOK then (s.addAction t a).answerAdd who stOK [BitVec.ofNat 32 index]
      else (s.setTxn { t with phase := .opened, adding := none }).answerAdd who st []
    | .reclaim, _ =>
      if index ≠ t.locked.length then s
      else if st = stOK then State.reclaim (t.actions.length + 1) (s.setTxn { t with locked := t.locked ++ [index], since := s.ns }) slot
      else s.abortTxn t { status := st, index := index, member := ((t.actions[index]?).map fun a => acMember a.record).getD 0 } false
    | _, _ => s

end Sys2Proof.Machine
end

