-- ==== Sys2Proof/Machine/BenchCmd.lean ====
section
/-! DEFINITION. The bench commands of the master (R369) and what ends a bench request: its ACK or its deadline (R357). -/
namespace Sys2Proof.Machine
open Sys2Proof

/-! ## Commands (R369): accepted on a master only -/

/-- A command of the bench runs on a master; elsewhere it completes with NOT_MASTER. -/
def State.masterCmd (s : State) (c : Cmd) (op : Nat) (f : State) : State :=
  s.command c op (if s.benchRole = roleMASTER then f else s.complete c op stNOT_MASTER)

/-- A request of a command: it leaves, or the command completes with the refusal. -/
def State.askOrEnd (x : State × Nat) (c : Cmd) (op : Nat) : State := if x.2 = stOK then x.1 else x.1.complete c op x.2

/-- A MEMBER_RESET whose requests are on their way, or that has none and completes. -/
def State.resetWait (s : State) (c : Cmd) (n st : Nat) : State :=
  if n = 0 then s.complete c opMEMBER_RESET st
  else { s with bench := { s.bench with resets := (c, n, st) :: s.bench.resets } }

/-- The reset directive goes to every named member (R369). -/
def State.memberReset (s : State) (c : Cmd) (mask : Word) : State :=
  if mask.bit 0 || mask == 0 then s.complete c opMEMBER_RESET stINVALID_VALUE
  else
    let x := ((List.range 32).filter fun m => mask.bit m).foldl (fun (a : State × Nat × Nat) m =>
      let r := a.1.benchAsk m (.reset c.f16 c.f17) (.reset c)
      if r.2 = stOK then (r.1, a.2.1 + 1, a.2.2) else (r.1, a.2.1, if a.2.2 = stOK then r.2 else a.2.2)) (s, 0, stOK)
    x.1.resetWait c x.2.1 x.2.2

/-- MEMBER_RESET (R369). -/
def execMemberReset (c : Cmd) (payload : List Word) (s : State) : Result :=
  .next (s.masterCmd c opMEMBER_RESET (s.memberReset c (wordAt payload 0)))

/-- COUNT and MEMBER of word 2. -/
def rmCount (p : List Word) : Nat := (wordAt p 0).field 3 0
def rmMember (p : List Word) : Nat := (wordAt p 0).field 20 16

/-- The words of a member's map are asked for. -/
def State.remoteRead (s : State) (c : Cmd) (a : Nat) (p : List Word) : State :=
  if rmCount p = 0 ∨ 8 < rmCount p then s.complete c opREMOTE_READ stINVALID_VALUE
  else State.askOrEnd (s.benchAsk (rmMember p) (.read a (rmCount p)) (.read c)) c opREMOTE_READ

/-- REMOTE_READ (R369). -/
def execRemoteRead (c : Cmd) (addr : Nat) (payload : List Word) (s : State) : Result :=
  .next (s.masterCmd c opREMOTE_READ (s.remoteRead c addr payload))

/-- Words go to a member's map. -/
def State.remoteWrite (s : State) (c : Cmd) (a : Nat) (p : List Word) : State :=
  let n := rmCount p
  if n = 0 ∨ 13 < n then s.complete c opREMOTE_WRITE stINVALID_VALUE
  else
    State.askOrEnd (s.benchAsk (rmMember p) (.write a ((List.range n).map fun i => wordAt p (1 + i))) (.write c)) c opREMOTE_WRITE

/-- REMOTE_WRITE (R369). -/
def execRemoteWrite (c : Cmd) (addr : Nat) (payload : List Word) (s : State) : Result :=
  .next (s.masterCmd c opREMOTE_WRITE (s.remoteWrite c addr payload))

/-- Words 0 to 15 of an entry, words 1 and 10 zeroed (R369). -/
def State.handWords (s : State) (e : Nat) : List Word :=
  (List.range 16).map fun i => if i = 1 ∨ i = 10 then 0 else s.word (F.EP0 e + 4 * i)

/-- The entry goes to the fabric address. -/
def State.handOver (s : State) (c : Cmd) (p : List Word) : State :=
  let e := (wordAt p 0).field 16 0
  let a := (wordAt p 1).field 15 0
  State.askOrEnd (s.peerAsk a (.peerHandover a (s.getF F.PF_CFG_ADDR) (Fin.ofNat 131072 e) (s.handWords e)) (.handover c)) c
    opHANDOVER

/-- HANDOVER (R369). -/
def execHandover (c : Cmd) (payload : List Word) (s : State) : Result :=
  .next (s.masterCmd c opHANDOVER (s.handOver c payload))

/-! ## Ends of requests (R22, R357) -/

/-- A member has acknowledged a reset directive, or will not. -/
def State.resetAnswer (s : State) (c : Cmd) (st : Nat) : State :=
  match s.bench.resets.find? (·.1 == c) with
  | none => s
  | some x =>
    let e := if x.2.2 = stOK then st else x.2.2
    ({ s with bench := { s.bench with resets := s.bench.resets.filter (·.1 != c) } } : State).resetWait c (x.2.1 - 1) e

/-- What the end of a request does, with its status and the words of its ACK. -/
def State.requestEnd (s : State) (r : BenchReq) (st : Nat) (words : List Word) : State :=
  match r.purpose with
  | .launch c m => s.launchAnswer c m st (wordAt words 0).toNat
  | .cancel c => s.cancelAnswer c st
  | .none => s
  | .read c => s.complete c opREMOTE_READ st words
  | .write c => s.complete c opREMOTE_WRITE st
  | .reset c => s.resetAnswer c st
  | .handover c => s.complete c opHANDOVER st
  | .txnAction slot i => s.actionAcked slot i st
  | .txnPrepare _ => s
  | .txnOther _ => s
  | .wound _ => s
  | .dma ring => s.dmaAck ring st

/-- The request leaves the table; its tag is free, and the request held longest takes it (R23). -/
def State.closeRequest (s : State) (r : BenchReq) (st : Nat) (words : List Word) : State :=
  let s1 := { s with bench := { s.bench with reqs := s.bench.reqs.filter (·.tag != r.tag) } }
  (s1.freeTag r.tag).requestEnd r st words

def State.requestOf (s : State) (tag : Nat) : Option BenchReq := s.bench.reqs.find? (·.tag == tag)

/-- BENCH_ACK (R357). -/
def benchAck (tag : Nat) (st : Nat) (words : List Word) (s : State) : State :=
  match s.requestOf tag with
  | none => s
  | some r => if r.deadline < s.ns then s else s.closeRequest r st words

/-- BENCH_ACK (R357). -/
def execBenchAck (_g : Group) (tag : OpTag) (status : Nat) (words : List Word) (s : State) : Result :=
  .next (benchAck tag status words s)

/-- The request goes once more, on the other direction, with RETRY set (R357). -/
def State.retryRequest (s : State) (r : BenchReq) : State :=
  let s1 := (s.bump F.BN_REQSTAT_RETRY).sendOn (if r.east then 1 else 0) r.dst r.tag true 0 r.content
  let x : BenchReq := { r with retried := true, east := !r.east, deadline := s1.ackDeadline }
  { s1 with bench := { s1.bench with reqs := s1.bench.reqs.map fun y => if y.tag = r.tag then x else y } }

/-- BENCH_TIMEOUT (R106, R357). -/
def benchTimeout (tag : Nat) (s : State) : State :=
  match s.requestOf tag with
  | none => s
  | some r =>
    if !s.expired r.deadline then s
    else if s.ring && !r.retried && (peerDst r.content).isNone then s.retryRequest r
    else s.closeRequest r stBENCH_TIMEOUT []

/-- BENCH_TIMEOUT (R357). -/
def execBenchTimeout (tag : OpTag) (s : State) : Result := .next (benchTimeout tag s)

end Sys2Proof.Machine
end

