-- ==== Sys2Proof/Machine/Lease.lean ====
section
/-! DEFINITION. Lent demodulators (R362 to R365): credits, streams at the lender, and what comes back to the owner. -/
namespace Sys2Proof.Machine
open Sys2Proof

/-- Demodulators set aside for a borrower (R362). -/
def State.setAside (s : State) (b : Nat) : Nat :=
  ((List.range 8).map fun k => if s.getF (F.BN_LEASE_BORROWER k) = b then s.getF (F.BN_LEASE_COUNT k) else 0).sum

/-- Lent demodulators that serve a borrower now. -/
def State.serving (s : State) (b : Nat) : Nat := (s.chirp.demods.filter fun d => (d.lent.map (·.1)) == some b).length

/-- LEASE_CREDIT (R362): a set-aside demodulator that is free, and granted to nobody, is granted to its borrower. -/
def leaseCredit (k : Nat) (s : State) : State :=
  let b := s.getF (F.BN_LEASE_BORROWER k)
  let n := aget 0 s.bench.granted b
  if 8 ≤ k ∨ s.getF (F.BN_LEASE_COUNT k) = 0 ∨ s.pathTo b = 2 ∨ b = s.memberNo ∨ !s.domOn domCHC ∨
      s.setAside b ≤ n + s.serving b then s
  else ({ s with bench := { s.bench with granted := aset s.bench.granted b (n + 1) } } : State).benchPost b (.lease .credit)

/-- LEASE_CREDIT (R362). -/
def execLeaseCredit (k : Nat) (s : State) : Result := .next (leaseCredit k s)

/-- A credit arrives at the borrower. -/
def State.creditIn (s : State) (m : Nat) : State := s.bump (F.BN_CREDIT_CREDITS m)

/-- LEASE_START (R364): a set-aside demodulator serves the stream; G gives the channel power the owner measured. -/
def leaseStart (m : Nat) (stream port chan sf bw step gain time : Nat) (s : State) : State :=
  let n := aget 0 s.bench.granted m
  if n = 0 then s
  else
    let s1 := { s with bench := { s.bench with granted := aset s.bench.granted m (n - 1) } }
    match (if s1.domOn domCHC then s1.freeUnits.head? else none) with
    | none => s1.benchPost m (.lease (.failed stream (HeldEnd.num .domainDown)))
    | some u =>
      let d : Detection := {
        port := port, chan := chan, sf := sf, bin := 0, start := time, power := -72 - 2 * (gain : Int), tick := s1.tick }
      let x : Demod := { slot := u, det := d, step := step, lent := some (m, stream, s1.ns), bw := bw }
      s1.setDemods (s1.chirp.demods ++ [x])

/-- LEASE_START (R364). -/
def execLeaseStart (from_ : Member) (stream : Nat) (port : RfPort) (chan : Fin 32) (sf : Fin 8) (bw : Fin 3) (step gain time : Nat)
    (s : State) : Result :=
  .next (leaseStart from_ stream port chan sf bw step gain time s)

/-- The lent demodulator that serves a stream. -/
def State.lentFor (s : State) (m stream : Nat) : Option Demod :=
  s.chirp.demods.find? fun d => match d.lent with
    | some x => x.1 == m && x.2.1 == stream
    | none => false

/-- The samples of a cell, the first of them sample `k` of the stream, reach a lent demodulator: their tags INV and OVL (R207). -/
def Demod.samples (d : Demod) (k : Nat) (xs : List (BitVec 56)) : Demod :=
  let per := settle64 d.bw / 64
  xs.zipIdx.foldl (fun (a : Demod) x =>
    let t : Int := (d.det.start * 65536 : Nat) + (k + x.2 : Nat) * per
    let a1 := if x.1.getLsbD 43 then { a with inv := noteSpan t t (t + per) a.inv } else a
    if x.1.getLsbD 41 then { a1 with ovl := noteSpan t t (t + per) a1.ovl } else a1) d

/-- SAMPLE_CELL (R364, R365): the samples reach the demodulator, which is not idle; a GAP sample ends its frame (R206). -/
def sampleCell (m stream first : Nat) (xs : List (BitVec 56)) (s : State) : State :=
  match s.lentFor m stream with
  | none => s
  | some d =>
    if xs.any (·.getLsbD 42) then s.endLent d .gap
    else s.changeDemod d { d.samples first xs with lent := some (m, stream, s.ns) }

/-- SAMPLE_CELL (R364). -/
def execSampleCell (from_ : Member) (stream first : Nat) (samples : List (BitVec 56)) (s : State) : Result :=
  .next (sampleCell from_ stream first samples s)

/-- LEASE_END (R364): the owner has ended the stream; the demodulator is free. -/
def leaseEnd (m stream : Nat) (s : State) : State :=
  match s.lentFor m stream with
  | none => s
  | some d => s.freeDemod d

/-- LEASE_END (R364). -/
def execLeaseEnd (from_ : Member) (stream _status : Nat) (s : State) : Result := .next (leaseEnd from_ stream s)

/-- LEASE_IDLE_FREE (R365): no SAMPLE cell for 1 ms. -/
def leaseIdleFree (m stream : Nat) (s : State) : State :=
  match s.lentFor m stream with
  | none => s
  | some d => match d.lent with
    | none => s
    | some x => if x.2.2 + 1000000 ≤ s.ns then s.freeDemod d else s

/-- LEASE_IDLE_FREE (R365). -/
def execLeaseIdleFree (from_ : Member) (stream : Nat) (s : State) : Result := .next (leaseIdleFree from_ stream s)

/-! ## At the owner (R364) -/

/-- A frame the owner holds on a credit of lender `m`. -/
def State.borrowedAs (s : State) (m stream : Nat) : Option Demod :=
  s.chirp.demods.find? fun d => d.lender == some m && d.slot == stream

/-- The lender has ended the frame without a record: it ends here with its status. -/
def State.borrowFailed (s : State) (m stream status : Nat) : State :=
  match s.borrowedAs m stream with
  | none => s
  | some d => (s.freeDemod d).countEnd d.det.port (HeldEnd.ofNum status)

/-- The lender hands the frame back: the owner verifies and routes it as its own. -/
def State.borrowDone (s : State) (m stream : Nat) (f : BenchFrame) : State :=
  match s.borrowedAs m stream with
  | none => s
  | some d =>
    let w := wordAt f.record 0
    let x : Demod := { d with
      syncT := (wordAt f.record 1).toNat + (wordAt f.record 2).toNat * 2 ^ 32, len := w.field 7 0, cr := w.field 10 8,
      crcOn := w.bit 11, implicit := w.bit 12 }
    let r : RxFrame := {
      medium := 1, port := d.det.port, record := f.record, body := f.body, due := s.ns, end_ := s.demodEnd x, cr := x.cr,
      sf := d.det.sf, chan := d.det.chan, sync := x.syncT, power := d.det.power, step := d.step,
      link := s.scheduledOn d.det.port d.det.chan d.det.sf x.syncT (rfSrc f.body) }
    ((s.freeDemod d).bump (F.CH_RXCNT_OK d.det.port)).radioIn r

end Sys2Proof.Machine
end

