-- ==== Sys2Proof/Machine/Modes.lean ====
section
/-! DEFINITION. The mode requests, the modes' own events and the resets (chapter 03). -/
namespace Sys2Proof.Machine
open Sys2Proof

/-! ## Mode requests (R63 to R65, R80): writes of MD_MODECTL.REQ -/

/-- REQ_RUN (R63): `lineLow` says that the other twin pulls TWIN_ACTIVE_N low. A plain WRITE of the register takes the level last
sensed. -/
def reqRun (c : Cmd) (lineLow : Bool) (s : State) : State :=
  s.writeCommand c opWRITE F.MD_MODECTL 1
    (State.answer ({ s with mode := { s.mode with twinOther := lineLow } } : State).reqRun c opWRITE)

/-- REQ_RUN (R63). -/
def execReqRun (c : Cmd) (lineLow : Bool) (s : State) : Result := .next (reqRun c lineLow s)

/-- REQ_QUIET (R64). -/
def execReqQuiet (c : Cmd) (s : State) : Result := .next (s.writeCommand c opWRITE F.MD_MODECTL 1 (State.answer s.reqQuiet c opWRITE))

/-- REQ_SHADOW (R63). -/
def execReqShadow (c : Cmd) (s : State) : Result := .next (s.writeCommand c opWRITE F.MD_MODECTL 1 (State.answer s.reqShadow c opWRITE))

/-- REQ_DRAIN (R72). -/
def execReqDrain (c : Cmd) (s : State) : Result := .next (s.writeCommand c opWRITE F.MD_MODECTL 1 (State.answer s.reqDrain c opWRITE))

/-- FAULT_ACK (R67). -/
def execFaultAck (c : Cmd) (s : State) : Result := .next (s.writeCommand c opWRITE F.MD_MODECTL 1 (State.answer s.reqFaultAck c opWRITE))

/-! ## Supplies (R408, R409) -/

/-- SUPPLIES_UP (R63, R408). -/
def suppliesUp (s : State) : State :=
  if s.mode.mode = .OFF then
    { s with mode := { State.reset.mode with mode := .COLD }
             service := { s.service with powered := s.tick, lifeHour := 0 } }
  else s

/-- SUPPLIES_UP (R408). -/
def execSuppliesUp (s : State) : Result := .next (suppliesUp s)

/-- SUPPLY_LOSS (R409): the device passes to OFF; the ledger and the fuses are kept, and nothing else. A programming the loss
interrupts leaves the fuse intact or whole (R53), and a ledger copy invalid (R387). -/
def supplyLoss (s : State) : State :=
  if s.mode.mode = .OFF then s
  else
    let r := s.fullReset 0 false false 0
    { r with
      mode := { State.reset.mode with mode := .OFF }
      service := { copies := s.service.writes.foldl (fun m o =>
          let t := s.ltarget o.block
          aset m (2 * o.block + t.1) { data := o.data, seq := t.2, valid := false }) s.service.copies } }

/-- SUPPLY_LOSS (R409). -/
def execSupplyLoss (s : State) : Result := .next (supplyLoss s)

/-! ## COLD and the self-tests (R62, R63, R68) -/

/-- COLD_TO_LOAD (R63, R83): DT is zero at the end of COLD; the straps are sampled and the loader starts. -/
def coldToLoad (bootSrc benchMasterN : Bool) (s : State) : State :=
  if s.mode.mode ≠ .COLD then s
  else { s.setF F.MD_ID_AUTHBOOT (boolNat s.fuse.blown) with
    dt := 0
    mode := { s.mode with mode := .LOAD, prev := Mode.COLD.num, bootSrc := bootSrc, benchMasterN := benchMasterN,
                          loadLimit := 10000000000 } }

/-- COLD_TO_LOAD (R63). -/
def execColdToLoad (bootSrc benchMasterN : Bool) (s : State) : Result := .next (coldToLoad bootSrc benchMasterN s)

/-- Units in ascending kind and number (R375). -/
def insertUnit (u : UnitRef) : List UnitRef → List UnitRef
  | [] => [u]
  | v :: t =>
    if u.kind.val < v.kind.val ∨ (u.kind.val = v.kind.val ∧ u.unit ≤ v.unit) then u :: v :: t else v :: insertUnit u t

def sortUnits (l : List UnitRef) : List UnitRef := l.foldr insertUnit []

/-- The failures of a self-test recorded in order (R68, R375); each with its record. The detail, a test step, is free. -/
def State.recordTests (s : State) : List UnitRef → State × List (UnitRef × Nat)
  | [] => (s, [])
  | u :: t =>
    let w := s.freshWord
    let r := w.2.report 6 u.kind u.unit w.1.toNat
    let x := r.1.recordTests t
    (x.1, match r.2 with
      | some i => (u, i) :: x.2
      | none => x.2)

/-- A live unit that failed is replaced by the lowest spare that passed (R68); without one its record escalates. -/
def State.replaceFailed (s : State) (u : UnitRef) (i : Nat) : State × Bool :=
  if 6 < u.kind.val ∨ (s.freeSpares u.kind).isEmpty then (s.escalateRecord i, true) else ((s.retire u.kind u.unit i).1, false)

/-- A self-test's failed units (R62, R68): the failed spares retired without replacement, then the live ones replaced; true
where a failure has no workaround. Units already retired are not tested. -/
def State.selfTest (s : State) (failed : List UnitRef) : State × Bool :=
  let real := sortUnits (failed.filter fun u => decide (6 < u.kind.val) ||
    (decide (u.unit < kindUnits u.kind) && s.role u.kind u.unit != roleRETIRED))
  let r := s.recordTests real
  let spare := fun (x : UnitRef × Nat) => decide (x.1.kind.val ≤ 6) && s.role x.1.kind x.1.unit == roleSPARE
  let s1 := (r.2.filter spare).foldl (fun a x => (a.retire x.1.kind x.1.unit x.2).1) r.1
  (r.2.filter (fun x => !spare x)).foldl (fun a x =>
    let y := a.1.replaceFailed x.1 x.2
    (y.1, a.2 || y.2)) (s1, false)

/-- STANDBY is left at once where HOLD_STANDBY is clear (R63). -/
def State.leaveStandby (s : State) : State :=
  if s.flag F.MD_BOOTCFG_HOLD_STANDBY then s else (s.changeMode .ACQUIRE 0x05).beginAcquire

/-- SELF_TEST_DONE (R68, R425). -/
def selfTestDone (failed : List UnitRef) (s : State) : State :=
  if s.mode.mode ≠ .CHECK then s
  else match s.selfTest failed with
    | (s1, true) => s1.enterFault 0x04
    | (s1, false) => ((s1.changeMode .STANDBY 0x03).settleDomains).leaveStandby

/-- SELF_TEST_DONE (R68). -/
def execSelfTestDone (failed : List UnitRef) (s : State) : Result := .next (selfTestDone failed s)

/-- DEFAULTED_TEST_DONE (R62, R425): then acquisition, without leaving DEFAULTED. -/
def defaultedTestDone (failed : List UnitRef) (s : State) : State :=
  if s.mode.mode ≠ .DEFAULTED ∨ !s.mode.testing then s
  else match s.selfTest failed with
    | (s1, true) => s1.enterFault 0x04
    | (s1, false) => (({ s1 with mode := { s1.mode with testing := false } } : State).settleDomains).beginAcquire

/-- DEFAULTED_TEST_DONE (R62). -/
def execDefaultedTestDone (failed : List UnitRef) (s : State) : Result := .next (defaultedTestDone failed s)

/-- DEF_TX_START (R62): both conditions of R92 hold after the test. -/
def defTxStart (s : State) : State :=
  if s.mode.mode = .DEFAULTED ∧ !s.mode.testing ∧ s.mode.acquiring ∧ s.timeCondition ∧ s.mainsCondition then
    { s with mode := { s.mode with defTx := true } }
  else s

/-- DEF_TX_START (R62). -/
def execDefTxStart (s : State) : Result := .next (defTxStart s)

/-- ACQUIRE_COMPLETE (R63, R92). -/
def acquireComplete (s : State) : State :=
  if s.mode.mode ≠ .ACQUIRE ∨ !s.timeCondition ∨ !s.mainsCondition then s
  else if s.getF F.MD_BOOTCFG_TWIN_ROLE = 2 then s.enterShadow 0x07
  else if s.flag F.MD_BOOTCFG_START_QUIET then s.changeMode .QUIET 0x07
  else s.enterRun 0x07

/-- ACQUIRE_COMPLETE (R92). -/
def execAcquireComplete (s : State) : Result := .next (acquireComplete s)

/-! ## Twins (R69, R70) -/

/-- Takeover at t0 (R70): RUN and TWIN_TAKEOVER. The line is driven and the mirrored entries go live 1 µs later; the access
controllers resume at the next mains cycle boundary of their ports. -/
def State.takeover (s : State) : State :=
  let s1 : State := { s with service := { s.service with takeovers := s.service.takeovers + 1, takeoverTime := s.ns } }
  let s2 := (s1.changeMode .RUN 0x0A).notice ncTWIN_TAKEOVER 0 []
  { s2 with
    mode := { s2.mode with twinRecheck := none, twinOther := false, takeoverAt := some s.ns }
    plc := { s2.plc with resuming := (List.range 96).filter s2.lineActive } }

/-- TWIN_TAKEOVER (R69): the line has been high for 2 µs; a SECONDARY waits and senses it again. -/
def twinTakeover (s : State) : State :=
  if s.mode.mode ≠ .SHADOW then s
  else if s.getF F.MD_BOOTCFG_TWIN_ROLE = 2 then { s with mode := { s.mode with twinOther := false, twinRecheck := some s.ns } }
  else s.takeover

/-- TWIN_TAKEOVER (R70). -/
def execTwinTakeover (s : State) : Result := .next (twinTakeover s)

/-- TWIN_RECHECK (R69): 5 µs later. -/
def twinRecheck (low : Bool) (s : State) : State :=
  match s.mode.mode, s.mode.twinRecheck with
  | .SHADOW, some t =>
    if s.ns < t + 5000 then s
    else if low then { s with mode := { s.mode with twinRecheck := none, twinOther := true } }
    else s.takeover
  | _, _ => s

/-- TWIN_RECHECK (R69). -/
def execTwinRecheck (low : Bool) (s : State) : Result := .next (twinRecheck low s)

/-- TWIN_LINK_LOST (R69): no twin-state cell for TWIN_MISS ms while the line stays low; reported once per loss. -/
def twinLinkLost (s : State) : State :=
  if s.mode.mode = .SHADOW ∧ s.mode.twinOther ∧ !s.mode.twinLost ∧ s.mode.lastTwin + s.getF F.MD_BOOTCFG_TWIN_MISS * 1000000 ≤ s.ns then
    ({ s with mode := { s.mode with twinLost := true } } : State).notice ncTWIN_LINK_LOST 0 []
  else s

/-- TWIN_LINK_LOST (R69). -/
def execTwinLinkLost (s : State) : Result := .next (twinLinkLost s)

/-! ## What a core tick brings by itself -/

/-- A mirrored entry goes live in its place (R70); one whose launch time has passed completes with MISSED_LAUNCH. -/
def State.liveEntry (s : State) (x : Nat × Nat × List Word) : State :=
  if 2048 ≤ s.launch.entries.length then s
  else
    let e : LqEntry := { entry := x.1, gen := x.2.1, words := x.2.2, inserter := .host, seq := s.launch.seq }
    let l : LaunchState := {
      s.launch with entries := s.launch.entries ++ [e], seq := s.launch.seq + 1, pool := s.launch.pool.reserve x.1 }
    let s1 : State := { s with launch := l }
    if leTime16 x.2.2 < s.now16 then s1.endEntry e stMISSED_LAUNCH else s1

/-- A takeover 1 µs after t0 (R70): TWIN_ACTIVE_N is driven low and the mirrored entries become live. -/
def State.takeoverDue (s : State) : State :=
  match s.mode.takeoverAt with
  | none => s
  | some t =>
    if s.ns < t + 1000 then s
    else
      let on_ := s.mode.mode == .RUN
      let s1 : State := { s with
        mode := { s.mode with takeoverAt := none, twinDriven := s.mode.twinDriven || on_, twinReleasing := false }
        launch := { s.launch with mirrored := [] } }
      if on_ then s.launch.mirrored.foldl (fun a x => a.liveEntry x) s1 else s1

/-- One tick with nothing commanded: DT and the tick count advance; a reset that follows entry to FAULT from a drain (R72)
comes in it, a takeover reaches its first microsecond (R70), front-end writes reach their counters (R136), launched actions fall
due (R99), LINE_TXEN pins go low (R119), the transmit links send their frames (R135), outcomes are reported (R340),
ledger updates are tried again (R388). In OFF nothing happens (R82). -/
def State.tickOver (s : State) : State :=
  if s.mode.mode = .OFF then s else
  match s.mode.resetNext with
  | some p => s.coreTick.resetBy p false
  | none => s.coreTick.takeoverDue.rfcDue.lqMark.txenDue.sendFrames.outcomesDue.ledgerRetries

/-! ## Resets (R67, R71 to R73) -/

/-- RESET_PIN (R71). -/
def resetPin (o : ResetSources) (s : State) : State :=
  if s.mode.mode = .OFF then s else s.fullReset 1 false false (seenBits { o with pin := true })

/-- RESET_PIN (R71). -/
def execResetPin (o : ResetSources) (s : State) : Result := .next (resetPin o s)

/-- WATCHDOG_RESET (R67, R71): WDOG * 100 ms after FAULT entry, counted in AON cycles (R28). -/
def watchdogReset (o : ResetSources) (s : State) : State :=
  match s.mode.wdogStart with
  | some t =>
    if s.mode.mode = .FAULT ∧ aonCount t + s.wdogCycles ≤ aonCount s.tick then
      s.fullReset (if o.pin then 1 else 2) false false (seenBits { o with watchdog := true })
    else s
  | none => s

/-- WATCHDOG_RESET (R67). -/
def execWatchdogReset (o : ResetSources) (s : State) : Result := .next (watchdogReset o s)

/-- A reset is asked for (R71, R72): at once in FAULT or without GRACEFUL, else by a drain.
R63 has no transition for a GRACEFUL request in DRAIN: that the drain in progress then ends in the reset, at once where every
domain is OFF, is the model's choice (DESIGN CHOICE, log entry 161). -/
def State.askReset (s : State) (p : PendingReset) (graceful : Bool) : State :=
  if s.mode.mode = .FAULT then s.resetBy { p with hostLoad := false } false
  else if !graceful then s.resetBy p false
  else if s.mode.mode = .DRAIN then
    if (List.range 43).all (fun d => s.domain d == 0) then s.resetBy p true
    else { s with mode := { s.mode with drainReset := some p } }
  else if s.mode.mode.canDrain then s.enterDrain (some p)
  else s

/-- FULL_RESET (R71): it never completes. -/
def execFullReset (c : Cmd) (s : State) : Result :=
  .next (s.command c opFULL_RESET (s.askReset { cause := 4, hostLoad := c.f17 } c.f16))

/-- RESET_DIRECTIVE (R71, R369): acknowledged as a bench request, then acted on. -/
def resetDirective (graceful hostLoad : Bool) (from_ : Member) (tag : OpTag) (s : State) : State :=
  if s.benchRole ≠ roleMEMBER ∨ from_.val ≠ 0 then s
  else match s.benchSeen from_ tag with
    | some d => s.benchPost from_ (.ack tag d.status d.words)
    | none => (s.benchReply from_ tag stOK []).askReset { cause := 3, hostLoad := hostLoad } graceful

/-- RESET_DIRECTIVE (R71). -/
def execResetDirective (graceful hostLoad : Bool) (from_ : Member) (tag : OpTag) (s : State) : Result :=
  .next (resetDirective graceful hostLoad from_ tag s)

end Sys2Proof.Machine
end

