-- ==== Sys2Proof/Machine/Peer.lean ====
section
/-! DEFINITION. The peer fabric (R366 to R369): discovery, the distance vector, endpoint hand-over. -/
namespace Sys2Proof.Machine
open Sys2Proof

/-- The fabric runs on this group: a peer port, UP, of a device that is no member (R366). -/
def State.peerOn (s : State) (g : Nat) : Bool := decide (2 ≤ g) && s.groupUp g && s.benchRole != roleMEMBER

/-! ## Discovery (R367) -/

/-- HELLO_SEND (R367): fabric address, PREFIX, port and member count. -/
def helloSend (g : Group) (s : State) : State :=
  if s.peerOn g then
    s.emitOut (.cell g 5 [s.getF F.PF_CFG_ADDR, s.ownPrefix, g - 2, if s.benchRole = roleNONE then 1 else s.nmemb + 1])
  else s

/-- HELLO_SEND (R367). -/
def execHelloSend (g : Group) (s : State) : Result := .next (helloSend g s)

/-- The first HELLO of a neighbour, or a later one. -/
def State.neighbourUp (s : State) (g : Nat) (a : Nat) : State :=
  let p := g - 2
  let s0 := (s.setF (F.PF_PORTSTAT_DUPADDR p) 0)
  let s1 := { s0 with bench := { s0.bench with hello := aset s0.bench.hello g s0.ns } }
  if s1.flag (F.PF_PORTSTAT_NEIGH_UP p) && s1.getF (F.PF_PORTSTAT_NEIGH p) == a then s1
  else
    let s2 := ((s1.peerGone p).setF (F.PF_PORTSTAT_NEIGH p) a).setF (F.PF_PORTSTAT_NEIGH_UP p) 1
    s2.notice ncPEER_STATE p [(8, p), (16, a), (8, 1)]

/-- HELLO_CELL (R367): the own address heard stops the port's traffic; any other marks the neighbour UP. -/
def helloCell (g : Group) (c : HelloCell) (s : State) : State :=
  if !s.peerOn g then s
  else if c.addr = s.getF F.PF_CFG_ADDR then (s.setF (F.PF_PORTSTAT_DUPADDR (g - 2)) 1).peerGone (g - 2)
  else s.neighbourUp g c.addr

/-- HELLO_CELL (R367). -/
def execHelloCell (g : Group) (cell : HelloCell) (s : State) : Result := .next (helloCell g cell s)

/-- PEER_DOWN (R367): 350 ms without a HELLO. -/
def peerDown (g : Group) (s : State) : State :=
  if 2 ≤ g.val ∧ aget 0 s.bench.hello g + 350000000 ≤ s.ns then s.peerGone (g - 2) else s

/-- PEER_DOWN (R367). -/
def execPeerDown (g : Group) (s : State) : Result := .next (peerDown g s)

/-! ## Routes (R368) -/

/-- Valid entries of PF_RT. -/
def State.peerRoutes (s : State) : List Nat := (List.range 256).filter fun i => s.flag (F.PF_RT_VALID i)

/-- The vector sent on port `p`: the device's own address at metric 0, and every route, one learned on `p` with metric 16. -/
def State.vector (s : State) (p : Nat) : List (Nat × Nat) :=
  (s.getF F.PF_CFG_ADDR, 0) ::
    s.peerRoutes.map fun i => (s.getF (F.PF_RT_ADDR i), if s.getF (F.PF_RT_PORT i) = p then 16 else s.getF (F.PF_RT_METRIC i))

/-- ROUTE_ADVERTISE (R368): every 1 s, and after a change. -/
def routeAdvertise (g : Group) (s : State) : State :=
  let due := s.bench.routeChanged.contains g.val || (match afind s.bench.routeSent g with
    | some t => decide (t + 1000000000 ≤ s.ns)
    | none => true)
  if s.peerOn g && s.peerUp (g - 2) && due then
    let b : BenchState := { s.bench with
      routeSent := aset s.bench.routeSent g s.ns, routeChanged := s.bench.routeChanged.filter (· != g.val) }
    ({ s with bench := b } : State).sendOn g 0 0 false 16 (.route (s.vector (g - 2)))
  else s

/-- ROUTE_ADVERTISE (R368). -/
def execRouteAdvertise (g : Group) (s : State) : Result := .next (routeAdvertise g s)

/-- A route written, or only refreshed. -/
def State.putPeerRoute (s : State) (i a metric p : Nat) : State :=
  let s1 := { s with bench := { s.bench with refresh := aset s.bench.refresh i s.ns } }
  let w := BitVec.ofNat 32 (a % 65536 + metric * 2 ^ 16 + p * 2 ^ 21 + 2 ^ 23)
  if s.word (F.PF_RT i) = w then s1 else (s1.setWord (F.PF_RT i) w).routeNotice a metric p

/-- One entry of a neighbour's vector (R368): a route is the neighbour's metric plus one link. -/
def State.learnRoute (s : State) (p : Nat) (e : Nat × Nat) : State :=
  let m := min 16 (e.2 + 1)
  if e.1 = s.getF F.PF_CFG_ADDR then s
  else match s.peerRoute e.1 with
    | some i =>
      if s.getF (F.PF_RT_PORT i) = p then (if m = 16 then s.dropRoute i else s.putPeerRoute i e.1 m p)
      else if m < s.getF (F.PF_RT_METRIC i) then s.putPeerRoute i e.1 m p
      else s
    | none =>
      if m = 16 then s
      else match (List.range 256).find? fun i => !s.flag (F.PF_RT_VALID i) with
        | some i => s.putPeerRoute i e.1 m p
        | none => s.bump F.PF_STAT_RTFULL

/-- ROUTE_MESSAGE (R368). -/
def routeMessage (g : Group) (l : List (Nat × Nat)) (s : State) : State :=
  if s.peerOn g && s.peerUp (g - 2) then l.foldl (fun a e => a.learnRoute (g - 2) e) s else s

/-- ROUTE_MESSAGE (R368). -/
def execRouteMessage (g : Group) (entries : List (Nat × Nat)) (s : State) : Result := .next (routeMessage g entries s)

/-- ROUTE_EXPIRY (R368): 3 s without a refresh. -/
def routeExpiry (i : Nat) (s : State) : State :=
  if i < 256 ∧ s.flag (F.PF_RT_VALID i) ∧ aget 0 s.bench.refresh i + 3000000000 ≤ s.ns then s.dropRoute i else s

/-- ROUTE_EXPIRY (R368). -/
def execRouteExpiry (a : Nat) (s : State) : Result := .next (routeExpiry a s)

/-! ## Hand-over (R369) -/

/-- The 18-word item of a hand-over. -/
def handItem (src : Nat) (ws : List Word) : List Word := itemOf ((List.range 16).map (wordAt ws) ++ [BitVec.ofNat 32 src])

/-- HANDOVER_IN (R369): the item goes into HANDQ, one HANDOVER_IN, and the source gets its acknowledgement. -/
def handoverIn (tag src entry : Nat) (ws : List Word) (s : State) : State :=
  let me := s.getF F.PF_CFG_ADDR
  match s.qHwItem (s.getF F.PF_CFG_HANDQ) (.hw 12 0) (handItem src ws) with
  | (s1, true) => (s1.notice ncHANDOVER_IN 0 [(16, src), (32, entry)]).peerPost src 16 tag (.peerAck src me tag stOK) |>.1
  | (s1, false) => (s1.peerPost src 16 tag (.peerAck src me tag stQUEUE_FULL)).1

/-- HANDOVER_IN (R369). -/
def execHandoverIn (tag : OpTag) (src : Nat) (entry : EndpointId) (words : List Word) (s : State) : Result :=
  .next (handoverIn tag src entry words s)

end Sys2Proof.Machine
end

