-- ==== Sys2Proof/Machine/Twin.lean ====
section
/-! DEFINITION. Twin messages (R69, R70, R356). -/
namespace Sys2Proof.Machine
open Sys2Proof

/-- The group that leads to the twin, where the device has one (R346, R80). -/
def State.twinGroup (s : State) : Option Nat :=
  if s.getF F.MD_BOOTCFG_TWIN_ROLE = 0 then none else some (s.getF F.BN_CFG_TWIN_PORT)

/-- TWIN_SEND (R356): the updates mirrored since the last message, also when there are none. -/
def twinSend (g : Group) (s : State) : State :=
  if s.mode.twinDriven && s.twinGroup == some g.val && s.groupUp g then
    ({ s with bench := { s.bench with twin := [] } } : State).sendOn g ((s.expected g).getD 0) 0 false 0 (.twin s.bench.twin)
  else s

/-- TWIN_SEND (R356). -/
def execTwinSend (group : Group) (s : State) : Result := .next (twinSend group s)

/-- A mirrored write goes into the twin's queue where it has room. -/
def State.twinWrite (s : State) (q : Nat) (ws : List Word) : State :=
  if s.qUsable q && decide (ws.length ≤ s.qRoom q) then (s.qPut q (s.qW q) ws).qAdvanceW q ws.length none else s

/-- A mirrored release: R, M and REL of the twin's queue advance together. -/
def State.twinRelease (s : State) (q n : Nat) : State :=
  let r := (s.qRel q + n) % s.qMod q
  if s.qUsable q && decide (n ≤ s.qDiff q (s.qW q) (s.qRel q)) then
    ((s.qRead q r).setF (F.QM_QREL_PTR q) r).setF (F.QM_QMP_PTR q) r
  else s

/-- One record of a TWIN message (R356). -/
def State.twinRecord (s : State) (r : TwinRecord) : State :=
  match r with
  | .queueWrite q ws => s.twinWrite q ws
  | .queueRelease q n => s.twinRelease q n
  | .launchInsert e g w =>
    let l : LaunchState := { s.launch with mirrored := (s.launch.mirrored.filter (·.1 != e.val)) ++ [(e.val, g, w)] }
    { s with launch := { l with pool := { l.pool with gens := aset l.pool.gens e g } } }
  | .launchRemoval e => { s with launch := { s.launch with mirrored := s.launch.mirrored.filter (·.1 != e.val) } }
  | .beacon p b n => s.setF (F.PL_BSN_BSN p b.num) n.toNat
  | .eventCounter e tx rx => (s.setWord (F.EP3 e) tx).setWord (F.EP4 e) rx
  | .duty n k t v =>
    let l := aget [] s.radio.duty (8 * n.val + k.val)
    ({ s with radio := { s.radio with duty := aset s.radio.duty (8 * n.val + k.val) (aset l t v) } } : State).showUsed n k

/-- Twin cells that claim the active role reach a device in RUN (R69): both report TWIN_CONFLICT, and the one with the larger
member number releases the line and enters SHADOW. -/
def State.twinConflict (s : State) (other : Nat) : State :=
  let s1 := ({ s with service := { s.service with conflictTime := s.ns } } : State).notice ncTWIN_CONFLICT 0 []
  let s2 := s1.twinLedger
  if other < s2.memberNo then s2.enterShadow 0x09 else s2

/-- TWIN_MESSAGE (R69, R356). A shadow that receives its active twin's cells has that twin's TWIN_ACTIVE_N low (R80). -/
def twinMessage (g : Group) (l : List TwinRecord) (s : State) : State :=
  if s.twinGroup ≠ some g.val ∨ !s.groupUp g then s
  else if s.mode.mode = .RUN then s.twinConflict ((s.expected g).getD 0)
  else
    let shadow := s.mode.mode == .SHADOW
    let s1 := { s with mode := { s.mode with lastTwin := s.ns, twinLost := false,
                                             twinOther := s.mode.twinOther || shadow && s.mode.twinRecheck.isNone } }
    if shadow then l.foldl (fun a r => a.twinRecord r) s1 else s1

/-- TWIN_MESSAGE (R356). -/
def execTwinMessage (group : Group) (records : List TwinRecord) (s : State) : Result := .next (twinMessage group records s)

end Sys2Proof.Machine
end

