-- ==== Sys2Proof/Machine/BenchMsg.lean ====
section
/-! DEFINITION. A received message of the bench or the fabric (R353, R354, R357): forwarded, or checked and acted on. -/
namespace Sys2Proof.Machine
open Sys2Proof

/-! ## Checks (R353, R354) -/

/-- GCM and DRAWER of a group. -/
def State.groupGcm (s : State) (g : Nat) : Bool := s.flag (if g < 2 then F.BN_GRPCFG_GCM g else F.PF_PORTCFG_GCM (g - 2))
def State.groupDrawer (s : State) (g : Nat) : Nat := s.getF (if g < 2 then F.BN_GRPCFG_DRAWER g else F.PF_PORTCFG_DRAWER (g - 2))

/-- Under how many key generations the message's tag checks (R262, R354); one on a group without protection, none where the drawer's
partition lacks the use LINK (R253). -/
def State.tagChecks (s : State) (g : Nat) (m : BenchMsg) : Nat :=
  if !s.groupGcm g then 1
  else if !s.drawerUse (s.groupDrawer g) useLINK none then 0
  else
    let k := s.keysOf (2 ^ 17 + s.groupDrawer g)
    boolNat (m.tagCur && k.cur.isSome) + boolNat (m.tagPrev && k.prev.isSome)

/-- The message is a replay (R354). -/
def State.replayed (s : State) (g : Nat) (m : BenchMsg) : Bool :=
  match afind s.bench.accepted (64 * g + m.src) with
  | some n => decide (m.counter ≤ n)
  | none => false

/-- A message discarded on a group is counted (peer groups have no such register). -/
def State.msgError (s : State) (g : Nat) (f : Nat → Fld) : State := if g < 2 then s.bump (f g) else s

/-! ## Requests of other members -/

/-- A request is executed once within 10 ms; asked again, its ACK is sent again (R357). -/
def State.once (s : State) (from_ tag : Nat) (f : State → State × Nat × List Word) : State :=
  match s.benchSeen from_ tag with
  | some d => s.benchPost from_ (.ack tag d.status d.words)
  | none =>
    let x := f s
    x.1.benchReply from_ tag x.2.1 x.2.2

/-- Words of this member's map, as READ gives them (R369). -/
def State.mapFor (s : State) (a n : Nat) : State × Nat × List Word :=
  if n = 0 ∨ 8 < n then (s, stINVALID_VALUE, [])
  else if !inMap a n then (s, stBAD_ADDRESS, [])
  else (s, if s.readPoisoned a n then stQUEUE_ECC else stOK, s.readWords a n)

/-- Words into this member's map, as WRITE does it (R369); the master asks with the rights of session 0. -/
def State.writeFor (s : State) (a : Nat) (ws : List Word) : State × Nat × List Word :=
  let x := s.writeStatus 0 a ws
  (x.1, x.2, [])

/-- A copy of a LAUNCH entry (R103): status and handle. -/
def State.launchFor (s : State) (e : List Word) : State × Nat × List Word :=
  match s.copyInsert e with
  | (s1, st, h) => (s1, st, [BitVec.ofNat 32 h])

/-- A copy withdrawn (R103, R305). -/
def State.cancelFor (s : State) (h : Nat) : State × Nat × List Word :=
  let x := s.cancelHandle h none
  (x.1, x.2, [])

/-- A REMOTE queue write (R317): a producer of its own for each member and ring. -/
def State.enqueueFor (s : State) (from_ ring q : Nat) (start : Bool) (ws : List Word) : State × Nat × List Word :=
  let x := State.qStream (ws.length / 128 + 1) s q (.ring (256 * (from_ + 1) + ring)) start ws stOK 0
  (x.1, x.2.1, [])

/-- A request of the master runs on a member only. -/
def State.fromMaster (s : State) (m : BenchMsg) (f : State → State × Nat × List Word) : State :=
  if s.benchRole = roleMEMBER ∧ m.src.val = 0 then s.once m.src m.tag f else s

/-! ## Fabric (R368, R369) -/

/-- A fabric message for another master goes on with one hop less, or is discarded at 0 (R368). -/
def State.peerForward (s : State) (dst : Nat) (m : BenchMsg) : State :=
  if m.hops ≤ 1 then s else (s.peerPost dst (m.hops - 1) m.tag m.content).1

/-- For this device, or forwarded. -/
def State.peerTo (s : State) (dst : Nat) (m : BenchMsg) (f : State → State) : State :=
  if dst = s.getF F.PF_CFG_ADDR then f s else s.peerForward dst m

/-! ## Dispatch -/

/-- A LEASE message. -/
def State.leaseIn (s : State) (m : Nat) (l : LeaseMsg) : State :=
  match l with
  | .credit => s.creditIn m
  | .start k port chan sf bw step gain time => leaseStart m k port chan sf bw step gain time s
  | .end_ k _ => leaseEnd m k s
  | .failed k st => s.borrowFailed m k st

/-- A FRAME of the bench: one handed back by a lender, or one this member routes (R245, R364). -/
def State.frameFrom (s : State) (m : Nat) (f : BenchFrame) : State :=
  match f.stream with
  | some k => s.borrowDone m k f
  | none => s.routeFrame (f.received s.ns)

/-- The message is accepted and does what it carries. -/
def State.benchAct (s : State) (g : Group) (m : BenchMsg) : State :=
  match m.content with
  | .ack t st ws => benchAck t st ws s
  | .launch e => s.fromMaster m fun a => a.launchFor e
  | .cancel h => s.fromMaster m fun a => a.cancelFor h
  | .read a n => s.fromMaster m fun x => x.mapFor a n
  | .write a ws => s.fromMaster m fun x => x.writeFor a ws
  | .reset gr hl => resetDirective gr hl m.src m.tag s
  | .action a => benchAction m.src m.tag a s
  | .prepare h t => prepare m.src m.tag h t s
  | .vote h y _ i => vote m.src m.tag h y i s
  | .decision h c => decision m.src m.tag h c s
  | .outcome h st => outcomeReport m.src m.tag h st s
  | .wound i w _ => woundRequest m.src m.tag (Fin.ofNat 512 i) w s
  | .frame f => s.frameFrom m.src f
  | .enqueue r q st ws => s.once m.src m.tag fun a => a.enqueueFor m.src r q st ws
  | .twin l => twinMessage g l s
  | .lease l => s.leaseIn m.src l
  | .route l => routeMessage g l s
  | .peerFrame d _ f => s.peerTo d m fun a => a.routeFrame (f.received a.ns)
  | .peerHandover d src e ws => s.peerTo d m (handoverIn m.tag src e ws)
  | .peerAck d _ t st => s.peerTo d m (benchAck t st [])

/-- The message is not for this member: it goes out on that member's path, or its cells are discarded and counted (R357). -/
def State.forward (s : State) (m : BenchMsg) : State :=
  let d := s.pathTo m.dst
  if d = 2 then s.bump F.BN_REQSTAT_UNROUTABLE m.cells else s.emitOut (.forward d m)

/-- A message for this device: its KIND, its tag, its counter (R353, R354). -/
def State.receive (s : State) (g : Group) (m : BenchMsg) : State :=
  let n := s.tagChecks g m
  if m.kind = 0 ∨ 7 < m.kind then s.msgError g F.BN_GRPERR_CELLERR
  else if n = 0 || s.replayed g m then s.msgError g F.BN_GRPERR_AUTHFAIL
  else
    let s1 := if n = 2 then s.bump F.CX_DUALKEY_COUNT else s
    ({ s1 with bench := { s1.bench with accepted := aset s1.bench.accepted (64 * g + m.src) m.counter } } : State).benchAct g m

/-- BENCH_MESSAGE (R353, R354, R357). -/
def benchMessage (g : Group) (m : BenchMsg) (s : State) : State :=
  if !s.groupUp g then s
  else if 2 ≤ g.val then (if s.peerUp (g - 2) then s.receive g m else s)
  else if m.dst.val ≠ s.memberNo then s.forward m
  else s.receive g m

/-- BENCH_MESSAGE (R353). -/
def execBenchMessage (g : Group) (msg : BenchMsg) (s : State) : Result := .next (benchMessage g msg s)

end Sys2Proof.Machine
end

