-- ==== Sys2Proof/Machine/CardOps.lean ====
section
/-! DEFINITION. Card ports (R266 to R273): the characters and blocks of ISO/IEC 7816-3 as the device sends and reads them. The
protocol beyond the rules' words is that of the standard they name (PRESUMED, see the assumption log). -/
namespace Sys2Proof.Machine
open Sys2Proof

/-! ## The port -/

abbrev cdOFF : Nat := 0
abbrev cdACTIVATING : Nat := 1
abbrev cdREADY : Nat := 2
abbrev cdEXCHANGE : Nat := 3
abbrev cdDEACTIVATING : Nat := 4

/-- Card-exchange statuses (R273). -/
abbrev csOK : Nat := 0
abbrev csATR_FAIL : Nat := 1
abbrev csPARITY : Nat := 2
abbrev csTIMEOUT : Nat := 3
abbrev csKEK_REFUSED : Nat := 4
abbrev csAPDU_INVALID : Nat := 5
abbrev csPORT_OFF : Nat := 6

def State.card (s : State) (k : Nat) : CardState := aget {} s.cipher.cards k
def State.setCard (s : State) (k : Nat) (c : CardState) : State :=
  { s with cipher := { s.cipher with cards := aset s.cipher.cards k c } }
def State.cardState (s : State) (k : Nat) : Nat := s.getF (F.CX_CARDSTAT_STATE k)
def State.setCardState (s : State) (k v : Nat) : State := s.setF (F.CX_CARDSTAT_STATE k) v
def State.cardRun (s : State) (k : Nat) : Option CardRun := (s.card k).run
def State.setCardRun (s : State) (k : Nat) (r : CardRun) : State := s.setCard k { s.card k with run := some r }

/-- Nanoseconds of so many card clocks of 614.4 MHz / DIV. -/
def State.cardClocks (s : State) (k n : Nat) : Nat := ceilDiv (n * s.getF (F.CX_CARDCFG_DIV k) * 10000) 6144

/-- Card clocks of so many etu, F/D each (R267). -/
def State.etuClocks (s : State) (k n : Nat) : Nat := ceilDiv (n * s.getF (F.CX_CARDETU_F k)) (max 1 (s.getF (F.CX_CARDETU_D k)))

def State.cardT1 (s : State) (k : Nat) : Bool := s.flag (F.CX_CARDSTAT_PROTOCOL k)

/-- The etu from one sent character to the next (R267, R268). -/
def State.charEtu (s : State) (k : Nat) : Nat :=
  let g := (s.card k).guard
  if s.cardT1 k then (if g = 255 then 11 else 11 + g) else (if g = 255 then 12 else 12 + g)

/-- Characters leave on CARD_IO; what the port waits for is counted from the last of them. -/
def State.cardSend (s : State) (k : Nat) (b : List Byte) : State :=
  let s1 := s.emitOut (.cardSend k b)
  s1.setCard k { s1.card k with since := s1.ns + s1.cardClocks k (s1.etuClocks k (b.length * s1.charEtu k)),
                                lastSent := b, signalled := none }

def State.cardLine (s : State) (k line : Nat) (v : Bool) : State := s.emitOut (.card k line v)

/-- Deactivation begins (R266): CARD_RST_N low, CARD_CLK stopped, CARD_IO low, CARD_VCCEN low. -/
def State.cardOff (s : State) (k : Nat) : State :=
  let s1 := (((s.cardLine k 2 false).cardLine k 1 false).cardLine k 3 false).cardLine k 0 false
  (s1.setCard k { s1.card k with since := s1.ns, rstHigh := false, vccEn := false, clkOn := false }).setCardState k cdDEACTIVATING

/-! ## The answer to reset (R267) -/

/-- What an answer to reset gives. -/
structure AtrInfo where
  inverse : Bool := false
  ta1 : Nat := 0x11
  /-- TA2, where present: specific mode. -/
  ta2 : Option Nat := none
  wi : Nat := 10
  guard : Nat := 0
  ifsc : Nat := 32
  cwi : Nat := 13
  bwi : Nat := 4
  crc : Bool := false
  /-- Protocols offered, in order. -/
  offers : List Nat := []
  deriving DecidableEq, Repr

/-- An interface byte, where bit `b` of Y says it is present. -/
def atrByte (y b : Nat) (l : List Byte) : Option Nat × List Byte :=
  if y / 2 ^ b % 2 = 0 then (none, l) else match l with
    | [] => (none, [])
    | h :: t => (some h.toNat, t)

/-- The interface bytes group by group: `i` the group, `t` the protocol TD named, `y` which bytes follow. Answers what they
gave and the rest, none where characters are lacking. -/
def atrGroups : Nat → Nat → Nat → Nat → AtrInfo → List Byte → Option (AtrInfo × List Byte)
  | 0, _, _, _, _, _ => none
  | n + 1, i, t, y, a, l =>
    let need := y % 2 + y / 2 % 2 + y / 4 % 2 + y / 8 % 2
    if l.length < need then none
    else
      let (ta, l1) := atrByte y 0 l
      let (tb, l2) := atrByte y 1 l1
      let (tc, l3) := atrByte y 2 l2
      let (td, l4) := atrByte y 3 l3
      let one := decide (3 ≤ i) && t == 1
      let a1 := if i = 1 then { a with ta1 := ta.getD a.ta1, guard := tc.getD a.guard } else a
      let a2 := if i = 2 then { a1 with ta2 := ta, wi := tc.getD a1.wi } else a1
      let a3 := if one then { a2 with ifsc := ta.getD a2.ifsc, cwi := tb.getD (a2.bwi * 16 + a2.cwi) % 16,
                                      bwi := tb.getD (a2.bwi * 16 + a2.cwi) / 16, crc := a2.crc || tc.getD 0 % 2 == 1 } else a2
      match td with
      | none => some (a3, l4)
      | some d => atrGroups n (i + 1) (d % 16) (d / 16) { a3 with offers := a3.offers ++ [d % 16] } l4

/-- An answer to reset read whole: TS, T0, interface bytes, historical bytes, and TCK unless only T=0 is offered. -/
def readAtr (b : List Byte) : Option AtrInfo :=
  match b with
  | ts :: t0 :: l =>
    if ts.toNat ≠ 0x3B ∧ ts.toNat ≠ 0x3F then none
    else match atrGroups 8 1 0 (t0.toNat / 16) { inverse := ts.toNat == 0x3F } l with
      | none => none
      | some (a, rest) =>
        let tck := !a.offers.all (· == 0)
        let hist := t0.toNat % 16
        if rest.length ≠ hist + (if tck then 1 else 0) then none
        else if tck && (b.drop 1).foldl (fun x y => x ^^^ y) 0 != 0 then none
        else some { a with offers := if a.offers.isEmpty then [0] else a.offers }
  | _ => none

/-- Fi of TA1's high half, where the port supports it (R267). -/
def fiOf : Nat → Option Nat
  | 0 => some 372 | 1 => some 372 | 2 => some 558 | 3 => some 744 | 4 => some 1116 | 5 => some 1488 | 6 => some 1860
  | 9 => some 512 | 10 => some 768 | 11 => some 1024 | 12 => some 1536 | 13 => some 2048 | _ => none

/-- Di of TA1's low half. -/
def diOf : Nat → Option Nat
  | 1 => some 1 | 2 => some 2 | 3 => some 4 | 4 => some 8 | 5 => some 16 | 6 => some 32 | 7 => some 64 | 8 => some 12
  | 9 => some 20 | _ => none

def fdOf (ta1 : Nat) : Option (Nat × Nat) :=
  match fiOf (ta1 / 16), diOf (ta1 % 16) with
  | some f, some d => some (f, d)
  | _, _ => none

/-- The protocol used (R267): the one TA2 states, else T=1 where it is offered alone or both are and TPREF is set. -/
def atrProtocol (a : AtrInfo) (tpref : Bool) : Option Nat :=
  match a.ta2 with
  | some v => if v % 16 < 2 then some (v % 16) else none
  | none =>
    if a.offers.contains 1 && (tpref || !a.offers.contains 0) then some 1
    else if a.offers.contains 0 then some 0 else none

/-- The PPS request for TA1 (R267): PPSS, PPS0 with PPS1 present and the protocol, PPS1, PCK. -/
def ppsRequest (ta1 t : Nat) : List Byte :=
  let p : List Nat := [0xFF, 0x10 + t, ta1]
  ofN (p ++ [p.foldl (· ^^^ ·) 0])

/-! ## T=0 (R269) -/

/-- The data field and Le of an APDU, none where its length matches no case: short or extended coding. Le 0 is none. -/
def apduParts (b : List Byte) : Option (List Byte × Nat) :=
  let n := b.length
  let p := fun i => (b.getD i 0).toNat
  let le8 := fun x => if x = 0 then 256 else x
  let le16 := fun x => if x = 0 then 65536 else x
  if n = 4 then some ([], 0)
  else if n = 5 then some ([], le8 (p 4))
  else if p 4 ≠ 0 then
    if n = 5 + p 4 then some (b.drop 5, 0)
    else if n = 6 + p 4 then some ((b.drop 5).take (p 4), le8 (p (n - 1)))
    else none
  else if n = 7 then some ([], le16 (p 5 * 256 + p 6))
  else
    let lc := p 5 * 256 + p 6
    if lc = 0 then none
    else if n = 7 + lc then some (b.drop 7, 0)
    else if n = 9 + lc then some ((b.drop 7).take lc, le16 (p (n - 2) * 256 + p (n - 1)))
    else none

/-- Pieces of an ENVELOPE of at most 255 bytes. -/
def envelopes (cla : Byte) : Nat → List Byte → List (List Byte)
  | 0, _ => []
  | n + 1, l => if l.isEmpty then [] else
      ([cla, 0xC2, 0, 0, BitVec.ofNat 8 (min 255 l.length)] ++ l.take 255) :: envelopes cla n (l.drop 255)

/-- The T=0 commands an APDU is sent as: one, or ENVELOPE commands where its data does not fit one. -/
def t0Commands (b data : List Byte) (le : Nat) : List (List Byte) :=
  if 255 < data.length then envelopes (b.getD 0 0) 17 b
  else if data.isEmpty then [b.take 4 ++ [BitVec.ofNat 8 (if le = 0 then 0 else min le 256)]]
  else [b.take 4 ++ [BitVec.ofNat 8 data.length] ++ data]

/-- The data characters a T=0 command receives: P3, 256 where it is 0, unless it sends data or asks for none. -/
def t0Expect (r : CardRun) : Nat :=
  if 5 < r.tpdu.length ∨ r.le = 0 then 0 else
    let p := (r.tpdu.getD 4 0).toNat
    if p = 0 then 256 else p

/-! ## T=1 (R269) -/

def lrc (b : List Byte) : Byte := b.foldl (· ^^^ ·) 0
def t1Block (pcb : Nat) (inf : List Byte) : List Byte :=
  let b := [0, BitVec.ofNat 8 pcb, BitVec.ofNat 8 inf.length] ++ inf
  b ++ [lrc b]

/-- The request for an information field of 254 bytes (R269). -/
def ifsRequest : List Byte := t1Block 0xC1 [254]

end Sys2Proof.Machine
end

