-- ==== Sys2Proof/Machine/Cards.lean ====
section
/-! DEFINITION. Card exchanges (R266 to R273): activation and the answer to reset, characters, errors and timeouts, key
capture, the response in host memory, deactivation. -/
namespace Sys2Proof.Machine
open Sys2Proof

/-! ## The control header (R270) -/

def ccLen (h : List Byte) : Nat := natLE (h.take 2)
def ccFlags (h : List Byte) : Nat := natLE ((h.drop 2).take 2)
def ccKek (h : List Byte) : Bool := ccFlags h % 2 == 1
def ccReset (h : List Byte) : Bool := ccFlags h / 2 % 2 == 1
def ccDeact (h : List Byte) : Bool := ccFlags h / 4 % 2 == 1
def ccDrawer (h : List Byte) : Nat := natLE ((h.drop 4).take 2) % 4096
def ccOffset (h : List Byte) : Nat := (h.getD 6 0).toNat
def ccCapture (h : List Byte) : Nat := (h.getD 7 0).toNat

/-- The length is 4 to 4,096, its APDU is in the buffer, and the reserved bits are zero (R273). -/
def ccValid (cmd : List Byte) : Bool :=
  decide (4 ≤ ccLen cmd) && decide (ccLen cmd ≤ 4096) && decide (8 + ccLen cmd ≤ cmd.length) && decide (ccFlags cmd < 8) &&
    decide (natLE ((cmd.drop 4).take 2) < 4096)

/-! ## The response in host memory (R270 to R272) -/

/-- Bytes of the response as host memory gets them: with KEK, zeros in place of the captured ones among the first `n`. -/
def maskKek (h : List Byte) (n : Nat) (b : List Byte) : List Byte :=
  if ccKek h then
    (List.range b.length).map fun i =>
      if ccOffset h ≤ i ∧ i < ccOffset h + ccCapture h ∧ i < n then 0 else b.getD i 0
  else b

/-- Bytes `from_` to `upto` of the response written at their place in the response buffer. -/
def State.cardWrite (s : State) (r : CardRun) (n from_ upto : Nat) : State :=
  match (s.dmaRing r.ring).run with
  | none => s
  | some d =>
    if upto ≤ from_ ∨ dRespLen d.desc.words < 8 + upto then s
    else s.emitOut (.hostWrite (dRespAddr d.desc.words + 8 + from_) (((maskKek r.header n r.response).take upto).drop from_))

/-- Whole bursts of 64 bytes leave as the characters arrive. -/
def State.cardFlush (s : State) (k : Nat) (r : CardRun) : State :=
  let n := r.response.length / 64 * 64
  (s.cardWrite r r.response.length r.flushed n).setCardRun k { r with flushed := max r.flushed n }

/-- Bytes 0 to 7 of the response buffer, written last. -/
def State.cardHead (s : State) (k : Nat) (r : CardRun) (len st : Nat) : State :=
  match (s.dmaRing r.ring).run with
  | none => s
  | some d => s.emitOut (.hostWrite (dRespAddr d.desc.words)
      (bytesLE 2 len ++ bytesLE 2 st ++ [BitVec.ofNat 8 (s.getF (F.CX_CARDSTAT_PROTOCOL k)), 0, 0, 0]))

/-- The exchange leaves the port with a status. -/
def State.cardLast (s : State) (k st : Nat) : State :=
  (s.setCard k { s.card k with run := none }).setF (F.CX_CARDSTAT_LAST k) st

/-- The exchange ends in error (R269, R272): withdrawn once a burst has started, else with the status in the header. -/
def State.cardError (s : State) (k : Nat) (r : CardRun) (st : Nat) : State :=
  let s1 := s.cardLast k st
  if r.flushed ≠ 0 then s1.exchangeEnd r.ring stREQUEST_WITHDRAWN r.flushed
  else (s1.cardHead k r 0 st).exchangeEnd r.ring stOK 8

/-- An error of R266 or R269: the exchange ends and the port deactivates. -/
def State.cardFail (s : State) (k : Nat) (r : CardRun) (st : Nat) : State := (s.cardError k r st).cardOff k

/-- CPH drains (R78): what would follow the current command or block ends with DOMAIN_DOWN. -/
def State.cardDown (s : State) (k : Nat) (r : CardRun) : State :=
  ((s.setCard k { s.card k with run := none }).exchangeEnd r.ring stDOMAIN_DOWN r.flushed).cardOff k

/-! ## Sending (R268, R269) -/

/-- A T=0 command begins: its header of five characters. -/
def State.t0Send (s : State) (k : Nat) (r : CardRun) (t : List Byte) : State :=
  if !s.domOn domCPH then s.cardDown k r
  else (s.setCardRun k { r with tpdu := t, crossed := 0, stage := .proc, repeats := 0 }).cardSend k (t.take 5)

/-- A T=1 information block with the APDU bytes due. -/
def State.t1Send (s : State) (k : Nat) (r : CardRun) : State :=
  if !s.domOn domCPH then s.cardDown k r
  else
    let c := s.card k
    let more := decide (c.ifsc < r.rest.length)
    (s.setCardRun k { r with block := [], bad := false }).cardSend k
      (t1Block (c.ns * 0x40 + (if more then 0x20 else 0)) (r.rest.take c.ifsc))

/-- The APDU of an exchange goes out; under T=1 the request for IFSD 254 goes before the first. -/
def State.cardStart (s : State) (k : Nat) (r : CardRun) : State :=
  let s1 := s.setCardState k cdEXCHANGE
  if s.cardT1 k then
    let r1 := { r with rest := r.apdu }
    if (s.card k).ifsDone then s1.t1Send k { r1 with sent := true }
    else (s1.setCardRun k r1).cardSend k ifsRequest
  else match apduParts r.apdu with
    | none => (s1.cardError k r csAPDU_INVALID).setCardState k cdREADY
    | some (data, le) => match t0Commands r.apdu data le with
      | [] => s1
      | t :: ts => s1.t0Send k { r with tpdus := ts, le := le, sent := true } t

/-! ## The exchange begins (R270) -/

/-- Activation begins: cold with CARD_VCCEN, warm with CARD_RST_N low. -/
def State.cardReset (s : State) (k : Nat) (r : CardRun) : State :=
  let cold := s.cardState k == cdOFF
  let s1 := if cold then s.cardLine k 0 true else s.cardLine k 2 false
  (s1.setCard k { run := some r, since := s.ns, vccEn := true, clkOn := !cold }).setCardState k cdACTIVATING

/-- CARD_EXCHANGE (R270): `cmd` is the command buffer. The event comes again while the port deactivates. -/
def cardExchange (k : CardPort) (cmd : List Byte) (s : State) : State :=
  let n := s.getF (F.CX_CARDCFG_RING k)
  match s.dmaRun n with
  | none => s
  | some d =>
    let r : CardRun := { ring := n, header := cmd.take 8, apdu := (cmd.drop 8).take (ccLen cmd) }
    if dKind d.desc.words ≠ 2 ∨ d.started ∨ d.waiting ∨ (s.cardRun k).isSome ∨ s.cardState k = cdDEACTIVATING then s
    else if !s.domOn domCPH then s.dmaFinish n stDOMAIN_DOWN 0
    else s.withRead (.run n) fun s1 =>
        let s2 := s1.setDmaRun n { d with started := true }
        if !s.flag (F.CX_CARDCFG_EN k) then s2.cardError k r csPORT_OFF
        else if !ccValid cmd then s2.cardError k r csAPDU_INVALID
        else if s.cardState k = cdOFF ∨ ccReset cmd then s2.cardReset k r
        else s2.cardStart k r

/-- CARD_EXCHANGE (R270). -/
def execCardExchange (k : CardPort) (cmd : List Byte) (s : State) : Result := .next (cardExchange k cmd s)

/-! ## Activation (R266, R267) -/

/-- CARD_ACTIVATE (R266): CARD_CLK runs 200 µs after CARD_VCCEN, and CARD_RST_N goes high 512 clocks later. -/
def cardActivate (k : CardPort) (s : State) : State :=
  let c := s.card k
  let wait := (if c.clkOn then 0 else 200000) + s.cardClocks k 512
  if s.cardState k ≠ cdACTIVATING ∨ c.rstHigh ∨ s.ns < c.since + wait then s
  else
    let s1 := if c.clkOn then s else (s.cardLine k 1 true).cardLine k 3 true
    (((s1.cardLine k 2 true).setCard k { c with clkOn := true, rstHigh := true, since := s.ns }).setF
      (F.CX_CARDETU_F k) 372).setF (F.CX_CARDETU_D k) 1

/-- CARD_ACTIVATE (R266). -/
def execCardActivate (k : CardPort) (s : State) : Result := .next (cardActivate k s)

/-- Activation fails (R266): ATR_FAIL. -/
def State.atrFails (s : State) (k : Nat) : State :=
  match s.cardRun k with
  | some r => s.cardFail k r csATR_FAIL
  | none => (s.cardLast k csATR_FAIL).cardOff k

/-- The answer's settings and the etu (R267): `pps` is the card's answer to a PPS request, where one is sent. -/
def State.atrTake (s : State) (k : Nat) (a : AtrInfo) (t : Nat) (pps : List Byte) : State :=
  let c := s.card k
  let c1 := { c with wi := a.wi, guard := a.guard, ifsc := a.ifsc, cwi := a.cwi, bwi := a.bwi, ns := 0, nr := 0,
                     ifsDone := false, wtx := 1 }
  let s1 := ((s.setCard k c1).setF (F.CX_CARDSTAT_INVERSE k) (if a.inverse then 1 else 0)).setF (F.CX_CARDSTAT_PROTOCOL k) t
  let setFd := fun (x : State) => match fdOf a.ta1 with
    | some (f, d) => (x.setF (F.CX_CARDETU_F k) f).setF (F.CX_CARDETU_D k) d
    | none => x
  match a.ta2 with
  | some _ => setFd s1
  | none =>
    if !s.flag (F.CX_CARDCFG_PPS_EN k) ∨ fdOf a.ta1 = some (372, 1) ∨ (fdOf a.ta1).isNone then s1
    else
      let s2 := s1.cardSend k (ppsRequest a.ta1 t)
      if pps = ppsRequest a.ta1 t then setFd s2 else s2

/-- The answer is one the port supports (R267). -/
def AtrInfo.supported (a : AtrInfo) : Bool :=
  match a.ta2 with
  | some v => v / 16 % 2 == 0 && (fdOf a.ta1).isSome
  | none => true

/-- CARD_ATR (R267): the answer begins `begin_` card clocks after CARD_RST_N rose. -/
def cardAtr (k : CardPort) (begin_ : Nat) (atr pps : List Byte) (s : State) : State :=
  let c := s.card k
  if s.cardState k ≠ cdACTIVATING ∨ !c.rstHigh then s
  else if begin_ < 400 ∨ 40000 < begin_ then s.atrFails k
  else match readAtr atr with
    | none => s.atrFails k
    | some a => match atrProtocol a (s.flag (F.CX_CARDCFG_TPREF k)) with
      | none => s.atrFails k
      | some t =>
        if !a.supported || (t == 1 && a.crc) then s.atrFails k
        else
          let s1 := s.atrTake k a t pps
          match s1.cardRun k with
          | none => s1.setCardState k cdREADY
          | some r => (s1.setCardState k cdREADY).cardStart k r

/-- CARD_ATR (R267). -/
def execCardAtr (k : CardPort) (begin_ : Nat) (atr pps : List Byte) (s : State) : Result := .next (cardAtr k begin_ atr pps s)

/-- ATR_FAIL (R266): 40,000 card clocks passed without the start of an answer. -/
def atrFail (k : CardPort) (s : State) : State :=
  let c := s.card k
  if s.cardState k ≠ cdACTIVATING ∨ !c.rstHigh ∨ s.ns < c.since + s.cardClocks k 40000 then s else s.atrFails k

/-- ATR_FAIL (R266). -/
def execAtrFail (k : CardPort) (s : State) : Result := .next (atrFail k s)

/-! ## Characters under T=0 (R268, R269) -/

/-- SW1 SW2 end a T=0 command: the next ENVELOPE, GET RESPONSE for the data the card holds, the command again with the length
the card states, or the end of the response. -/
def State.t0Status (s : State) (k : Nat) (r : CardRun) (sw1 sw2 : Byte) : State :=
  let head := r.tpdu.take 4
  match r.tpdus with
  | t :: ts =>
    if sw1 = 0x90 ∧ sw2 = 0 then s.t0Send k { r with tpdus := ts } t
    else s.setCardRun k { r with response := r.response ++ [sw1, sw2], complete := true }
  | [] =>
    let get := [r.tpdu.getD 0 0, 0xC0, 0, 0]
    if r.le ≠ 0 ∧ sw1 = 0x61 then s.t0Send k r (get ++ [sw2])
    else if r.le ≠ 0 ∧ sw1 = 0x6C ∧ r.tpdu.length = 5 then s.t0Send k r (head ++ [sw2])
    else if r.le ≠ 0 ∧ sw1 = 0x90 ∧ sw2 = 0 ∧ 5 < r.tpdu.length then s.t0Send k r (get ++ [BitVec.ofNat 8 (min r.le 256)])
    else s.setCardRun k { r with response := r.response ++ [sw1, sw2], complete := true }

/-- Data characters of the command go out, `n` of them. -/
def State.t0Data (s : State) (k : Nat) (r : CardRun) (n : Nat) : State :=
  let b := ((r.tpdu.drop 5).drop r.crossed).take n
  let s1 := s.setCardRun k { r with crossed := r.crossed + b.length, stage := .proc }
  if b.isEmpty then s1 else s1.cardSend k b

/-- A good character under T=0. -/
def State.t0Char (s : State) (k : Nat) (r : CardRun) (x : Byte) : State :=
  let c := s.card k
  let s1 := s.setCard k { c with since := s.ns, signalled := none }
  let r1 := { r with repeats := 0 }
  let ins := r.tpdu.getD 1 0
  let out := decide (5 < r.tpdu.length)
  match r.stage with
  | .sw2 sw1 => s1.t0Status k r1 sw1 x
  | .data n =>
    let q : CardRun := { r1 with
      response := r.response ++ [x], crossed := r.crossed + 1, stage := if n ≤ 1 then .proc else .data (n - 1) }
    s1.cardFlush k q
  | .proc =>
    if x = 0x60 then s1.setCardRun k r1
    else if x.toNat / 16 = 6 ∨ x.toNat / 16 = 9 then s1.setCardRun k { r1 with stage := .sw2 x }
    else if x = ins then
      if out then s1.t0Data k r1 (r.tpdu.length - 5)
      else if r.crossed < t0Expect r then s1.setCardRun k { r1 with stage := .data (t0Expect r - r.crossed) }
      else s1.setCardRun k r1
    else if x = ~~~ins then
      if out then s1.t0Data k r1 1
      else if r.crossed < t0Expect r then s1.setCardRun k { r1 with stage := .data 1 } else s1.setCardRun k r1
    else s1.setCardRun k r1

/-! ## Blocks under T=1 (R269) -/

/-- A block failed (R269): an R-block is sent, once per block; a second failure ends the exchange with `st`. -/
def State.t1Fail (s : State) (k : Nat) (r : CardRun) (st e : Nat) : State :=
  if r.rblock then s.cardFail k r st
  else (s.setCardRun k { r with rblock := true, block := [], bad := false }).cardSend k
    (t1Block (0x80 + (s.card k).nr * 0x10 + e) [])

/-- An S-block answered. -/
def State.t1Answer (s : State) (k : Nat) (r : CardRun) (pcb : Nat) (inf : List Byte) : State :=
  (s.setCardRun k r).cardSend k (t1Block pcb inf)

/-- An information block with the sequence number expected: it acknowledges the last block sent, and its data are the
response's. -/
def State.t1Info (s : State) (k : Nat) (r : CardRun) (more : Bool) (inf : List Byte) : State :=
  let c := s.card k
  let c1 := { c with ns := if r.rest.isEmpty then c.ns else 1 - c.ns, nr := 1 - c.nr, wtx := 1 }
  let r1 : CardRun := { r with rest := [], response := r.response ++ inf, complete := !more }
  let s1 := (s.setCard k c1).cardFlush k r1
  if !more then s1
  else match s1.cardRun k with
    | none => s1
    | some r2 => if !s.domOn domCPH then s1.cardDown k r2 else s1.cardSend k (t1Block (0x80 + (1 - c.nr) * 0x10) [])

/-- A block received whole with a right LRC. -/
def State.t1Block (s : State) (k : Nat) (r0 : CardRun) (b : List Byte) : State :=
  let c := s.card k
  let pcb := (b.getD 1 0).toNat
  let inf := (b.drop 3).take (b.length - 4)
  let r := { r0 with block := [], bad := false, rblock := false }
  let failed := s.t1Fail k { r0 with block := [], bad := false } csPARITY 2
  if pcb < 0x80 then
    if !r.sent ∨ pcb / 0x40 ≠ c.nr ∨ c.ifsc < r.rest.length then failed
    else s.t1Info k r (pcb / 0x20 % 2 == 1) inf
  else if pcb < 0xC0 then
    if !c.ifsDone then s.t1Answer k r 0xC1 [254]
    else if r.rest.isEmpty then s.t1Answer k r (0x80 + c.nr * 0x10) []
    else if pcb / 0x10 % 2 = c.ns then s.t1Send k r
    else if r.rest.length ≤ c.ifsc then failed
    else (s.setCard k { c with ns := 1 - c.ns }).t1Send k { r with rest := r.rest.drop c.ifsc }
  else if pcb = 0xE1 ∧ inf = [254] ∧ !c.ifsDone then (s.setCard k { c with ifsDone := true }).t1Send k { r with sent := true }
  else if pcb = 0xC1 ∧ inf.length = 1 then (s.setCard k { c with ifsc := (inf.getD 0 0).toNat }).t1Answer k r 0xE1 inf
  else if pcb = 0xC3 ∧ inf.length = 1 then (s.setCard k { c with wtx := max 1 (inf.getD 0 0).toNat }).t1Answer k r 0xE3 inf
  else failed

/-- A character under T=1: a block is whole after its prologue, LEN information characters and the LRC. -/
def State.t1Char (s : State) (k : Nat) (r : CardRun) (x : Byte) (ok : Bool) : State :=
  let b := r.block ++ [x]
  let bad := r.bad || !ok
  let s1 := s.setCard k { s.card k with since := s.ns }
  if b.length < 4 ∨ b.length < 4 + (b.getD 2 0).toNat then s1.setCardRun k { r with block := b, bad := bad }
  else if bad ∨ lrc b ≠ 0 then (s1.bump (F.CX_CARDERR_PARITY k)).t1Fail k { r with block := [], bad := false } csPARITY 1
  else s1.t1Block k r b

/-- CARD_CHARACTER (R268): a character received whole, with whether its parity was right. -/
def cardCharacter (k : CardPort) (x : Byte) (parityOk : Bool) (s : State) : State :=
  match s.cardRun k with
  | none => s
  | some r =>
    if s.cardState k ≠ cdEXCHANGE ∨ r.complete then s
    else if s.cardT1 k then s.t1Char k r x parityOk
    else if parityOk then s.t0Char k r x
    else if 4 ≤ r.repeats then s.cardFail k r csPARITY
    else ((s.setCard k { s.card k with since := s.ns }).setCardRun k { r with repeats := r.repeats + 1 }).bump
      (F.CX_CARDERR_PARITY k)

/-- CARD_CHARACTER (R268). -/
def execCardCharacter (k : CardPort) (x : Byte) (parityOk : Bool) (s : State) : Result := .next (cardCharacter k x parityOk s)

/-- CARD_ERROR_SIGNAL (R269): the card signals an error on character `i` of those last sent; it is sent again up to 4 times. -/
def cardErrorSignal (k : CardPort) (i : Nat) (s : State) : State :=
  let c := s.card k
  match c.run with
  | none => s
  | some r =>
    let n := match c.signalled with
      | some (j, n) => if j = i then n else 0
      | none => 0
    if s.cardState k ≠ cdEXCHANGE ∨ s.cardT1 k ∨ c.lastSent.length ≤ i then s
    else if 4 ≤ n then s.cardFail k r csPARITY
    else
      let s1 := (s.emitOut (.cardSend k ((c.lastSent.drop i).take 1))).bump (F.CX_CARDERR_PARITY k)
      s1.setCard k { c with since := max c.since s.ns, signalled := some (i, n + 1) }

/-- CARD_ERROR_SIGNAL (R269). -/
def execCardErrorSignal (k : CardPort) (i : Nat) (s : State) : Result := .next (cardErrorSignal k i s)

/-- The card clocks the port waits for a character (R269): WT under T=0; CWT within a block, BWT before one, under T=1. -/
def State.cardWait (s : State) (k : Nat) (r : CardRun) : Nat :=
  let c := s.card k
  if !s.cardT1 k then 960 * c.wi * s.getF (F.CX_CARDETU_F k)
  else if r.block.isEmpty then s.etuClocks k 11 + c.wtx * (2 ^ c.bwi * 960 * 372)
  else s.etuClocks k (11 + 2 ^ c.cwi)

/-- CARD_TIMEOUT (R269): WT, CWT or BWT has passed. -/
def cardTimeout (k : CardPort) (s : State) : State :=
  match s.cardRun k with
  | none => s
  | some r =>
    if s.cardState k ≠ cdEXCHANGE ∨ r.complete ∨ s.ns < (s.card k).since + s.cardClocks k (s.cardWait k r) then s
    else
      let s1 := s.bump (F.CX_CARDERR_TIMEOUT k)
      if s.cardT1 k then s1.t1Fail k { r with block := [], bad := false } csTIMEOUT 2 else s1.cardFail k r csTIMEOUT

/-- CARD_TIMEOUT (R269). -/
def execCardTimeout (k : CardPort) (s : State) : Result := .next (cardTimeout k s)

/-! ## The end (R270, R271, R266) -/

/-- With KEK set (R271): the status, and the key the drawer takes. -/
def State.cardCapture (s : State) (r : CardRun) : Nat × Option (List Byte) :=
  let n := ccCapture r.header
  let data := r.response.take (r.response.length - 2)
  if !ccKek r.header then (csOK, none)
  else if !s.drawerUse (ccDrawer r.header) useKEK none ∨ (n ≠ 16 ∧ n ≠ 32) ∨ data.length < ccOffset r.header + n then
    (csKEK_REFUSED, none)
  else if r.response.drop (r.response.length - 2) = [0x90, 0x00] then
    (csOK, some ((data.drop (ccOffset r.header)).take n))
  else (csOK, none)

/-- CARD_EXCHANGE_END (R270): the response is complete. -/
def cardExchangeEnd (k : CardPort) (s : State) : State :=
  match s.cardRun k with
  | none => s
  | some r => match s.dmaRun r.ring with
    | none => s
    | some d =>
      if !r.complete then s
      else
        let x := s.cardCapture r
        let s1 := match x.2 with
          | some key => s.loadKey (2 ^ 17 + ccDrawer r.header) 0 key
          | none => s
        let len := r.response.length
        let s2 := if ccDeact r.header then (s1.cardLast k x.1).cardOff k else (s1.cardLast k x.1).setCardState k cdREADY
        if dRespLen d.desc.words < 8 + len then s2.exchangeEnd r.ring stBUFFER_SHORT r.flushed
        else ((s2.cardWrite r (len - 2) r.flushed len).cardHead k r len x.1).exchangeEnd r.ring stOK (8 + len)

/-- CARD_EXCHANGE_END (R270). -/
def execCardExchangeEnd (k : CardPort) (s : State) : Result := .next (cardExchangeEnd k s)

/-- CARD_DEACTIVATED (R266): the deactivation sequence has finished. -/
def cardDeactivated (k : CardPort) (s : State) : State :=
  if s.cardState k = cdDEACTIVATING then s.setCardState k cdOFF else s

/-- CARD_DEACTIVATED (R266). -/
def execCardDeactivated (k : CardPort) (s : State) : Result := .next (cardDeactivated k s)

end Sys2Proof.Machine
end

