-- ==== Sys2Proof/Machine/Cipher.lean ====
section
/-! DEFINITION. Cipher requests (R247 to R251, R261 to R265): the CIPHER command, the end of a request, mismatches. -/
namespace Sys2Proof.Machine
open Sys2Proof

/-! ## Host requests (R265) -/

def cqOp (w : List Word) : Nat := (wordAt w 0).field 3 0
def cqTag (w : List Word) : Nat := 4 * (wordAt w 0).field 6 4
def cqGen (w : List Word) : Bool := (wordAt w 0).bit 7
def cqSlot (w : List Word) : Nat := (wordAt w 1).field 17 0
def cqIn (w : List Word) : Nat := (wordAt w 2).field 13 0
def cqOut (w : List Word) : Nat := (wordAt w 2).field 29 16
def cqALen (w : List Word) : Nat := (wordAt w 3).field 15 0
def cqMLen (w : List Word) : Nat := (wordAt w 3).field 31 16
def cqNonceBytes (w : List Word) : List Byte := bytesOfWords ((List.range 4).map fun i => wordAt w (4 + i))

/-- Bytes of nonce or IV an operation takes. -/
def cqNonceLen (op : Nat) : Nat := if op = 1 ∨ op = 2 then 13 else if op = 3 ∨ op = 4 then 12 else 0

/-- Reserved values and tag lengths (R265). -/
def cqForm (w : List Word) : Bool :=
  let t := (wordAt w 0).field 6 4
  let tags : Bool := match cqOp w with
    | 1 | 2 => [0, 1, 2, 4].contains t
    | 3 | 4 => [3, 4].contains t
    | 5 => [1, 2, 3, 4].contains t && cqALen w == 0
    | _ => false
  tags && (wordAt w 0).field 31 8 == 0 && (wordAt w 1).field 31 18 == 0 && (wordAt w 2).field 15 14 == 0 &&
    (wordAt w 2).field 31 30 == 0 && slotOk (cqSlot w) && (cqOp w == 5 || ((cqNonceBytes w).drop (cqNonceLen (cqOp w))).all (· == 0))

/-- The use a host operation needs (R253). -/
def cqUse (op : Nat) : Nat := if op ≤ 2 then useFRAME else if op ≤ 4 then useLINK else useMAC

/-- The status with which a host request is refused at once. -/
def State.cipherRefused (s : State) (n : Nat) (w : List Word) : Option Nat :=
  let g := s.keysOf (cqSlot w)
  if !cqForm w then some stINVALID_VALUE
  else if !(if isDrawer (cqSlot w) then s.drawerUse (cqSlot w - 2 ^ 17) (cqUse (cqOp w)) (some n) else decide (cqOp w ≤ 2))
    then some stKEY_USE
  else if (if cqGen w then g.prev else g.cur).isNone then some stNO_KEY
  else if !s.domOn domCPH then some stDOMAIN_DOWN
  else if s.cipherFull then some stCIPHER_FULL
  else none

/-- CIPHER (R265): accepted, or completed with the status that refuses it. -/
def State.cipherCmd (s : State) (c : Cmd) (w : List Word) : State :=
  match s.cipherRefused c.session w with
  | some st => (if st = stCIPHER_FULL then s.bump F.CX_QSTAT_FULL else s).complete c opCIPHER st
  | none => s.cipherStart (rqSession c.session) clHOST (.host c w) (cqSlot w) 0

/-- CIPHER (R265). -/
def execCipher (c : Cmd) (w : List Word) (s : State) : Result := .next (s.command c opCIPHER (s.cipherCmd c w))

/-- The output of a host operation on its input bytes with a key: none where a tag does not verify. -/
def cqResult (w : List Word) (key input : List Byte) : Option (List Byte) :=
  let a := toN (input.take (cqALen w))
  let m := toN ((input.drop (cqALen w)).take (cqMLen w))
  let t := toN ((input.drop (cqALen w + cqMLen w)).take (cqTag w))
  let n := toN ((cqNonceBytes w).take (cqNonceLen (cqOp w)))
  let k := toN key
  match cqOp w with
  | 1 => let x := ccmSeal k n a m (cqTag w); some (ofN (x.1 ++ x.2))
  | 2 => (ccmOpen k n a m t).map ofN
  | 3 => let x := gcmSeal k n a m (cqTag w); some (ofN (x.1 ++ x.2))
  | 4 => (gcmOpen k n a m t).map ofN
  | _ => some (ofN (cmac k m (cqTag w)))

/-- Input bytes a request needs. -/
def cqNeed (w : List Word) : Nat := cqALen w + cqMLen w + (if cqOp w = 2 ∨ cqOp w = 4 then cqTag w else 0)

/-- The input item is read and released. -/
def State.takeInput (s : State) (q : Nat) : State := (s.qConsume q).qRelease q

/-- A host request has run on its input item (R265, R277): the state and the status. -/
def State.cipherRun (s : State) (w : List Word) (key : List Byte) : State × Nat :=
  let q := cqIn w
  if s.qUsable q && s.qHeadLost q then (s.eccFlush q, stQUEUE_ECC)
  else match (if s.qUsable q then s.qFront q else none) with
    | none => (s, stITEM_SHORT)
    | some it =>
      let b := bytesOfWords (it.drop 1)
      if s.qPoisoned q (s.qR q) it.length then (s.takeInput q, stQUEUE_ECC)
      else if b.length < cqNeed w then (s.takeInput q, stITEM_SHORT)
      else match cqResult w key b with
        | none => ((s.takeInput q).bump F.CX_AUTHFAIL_HOST, stAUTH_FAIL)
        | some out => match s.qHwItem (cqOut w) (.hw 7 0) (itemOf (wordsOfBytes out)) with
          | (s1, true) => (s1.takeInput q, stOK)
          | (s1, false) => (s1, stOUT_FULL)

/-- A host request ends. -/
def State.hostEnd (s : State) (r : CipherReq) (c : Cmd) (w : List Word) (good : Bool) : State :=
  match (if cqGen w then r.prev else r.cur) with
  | none => s.complete c opCIPHER stNO_KEY
  | some k =>
    if !good then (s.takeInput (cqIn w)).complete c opCIPHER stCIPHER_FAULT
    else State.answer (s.cipherRun w k) c opCIPHER

/-! ## The end of a request (R248, R249) -/

/-- The effect of a request that completes; its entry and tag are free first. -/
def State.jobEnd (s : State) (r : CipherReq) (good : Bool) : State :=
  let s1 := s.cipherLeave r.tag
  match r.job with
  | .verify f ep slot => s1.verifyEnd r f ep slot good
  | .secure i gen _ => s1.secureEnd r i gen good
  | .relay o => s1.relayEnd r o good
  | .host c w => s1.hostEnd r c w good

/-- The first request that has ended and has no earlier request of its requester before it (R248). -/
def firstFree : List CipherReq → List Requester → Option CipherReq
  | [], _ => none
  | r :: t, open_ =>
    if r.ended.isSome && !open_.contains r.requester then some r else firstFree t (r.requester :: open_)

/-- Requests that have ended complete in their requester's issue order; at most `n` do. -/
def State.completeReady (s : State) : Nat → State
  | 0 => s
  | n + 1 => match firstFree s.cipher.reqs [] with
    | none => s
    | some r => (s.jobEnd r (r.ended.getD false)).completeReady n

/-- A request has ended: it completes now, or when the earlier ones of its requester have. -/
def State.requestEnded (s : State) (t : Nat) (good : Bool) : State :=
  let l := s.cipher.reqs.map fun r => if r.tag = t then { r with ended := some good } else r
  ({ s with cipher := { s.cipher with reqs := l } } : State).completeReady s.cipher.reqs.length

def State.cipherReq (s : State) (t : Nat) : Option CipherReq := s.cipher.reqs.find? fun r => r.tag == t && r.ended.isNone

/-! ## Mismatches (R250, R251) -/

/-- The pipelines a mismatch on pair `p` is charged to: `spare` says with which the spare agreed, bit 0 the first pipeline of
the pair, bit 1 the second. -/
def State.charged (s : State) (p spare : Nat) : List Nat :=
  let l := s.pipes p
  if (s.freeSpares kPIPE).isEmpty then l
  else if spare = 1 then l.drop 1 else if spare = 2 then l.take 1 else l

/-- The window of the mismatches charged to a pipeline: 3,600 s in nanoseconds. -/
def chargeWindow : Nat := 3600000000000

/-- A mismatch charged to pipeline `u` because of record `i`: the third within 3,600 s retires it. -/
def State.chargePipe (s : State) (u i : Nat) : State :=
  let l := s.ns :: (aget [] s.cipher.charges u).filter fun t => decide (s.ns ≤ t + chargeWindow)
  let s1 := { s with cipher := { s.cipher with charges := aset s.cipher.charges u l } }
  if l.length < 3 ∨ s1.role kPIPE u ≠ roleLIVE then s1
  else
    let x := s1.retirePipe u i
    if x.2 = 2 then (x.1.escalateRecord i).enterFault 0x0C else x.1

/-- A mismatch of a request of class `cls` on pair `p`. -/
def State.mismatch (s : State) (p cls spare : Nat) : State :=
  let us := s.charged p spare
  let s1 := s.bump F.CX_FAULTSTAT_MISMATCH
  let s2 := match (s1.freeSpares kPIPE).head? with
    | some v => s1.endAudit kPIPE v
    | none => s1
  let x := s2.report 5 kPIPE (us.headD 0) cls
  us.foldl (fun a u => a.chargePipe u (x.2.getD 0)) x.1

/-! ## The rows -/

/-- CIPHER_DONE (R250): a request's blocks are compared. Where they agree it completes; else its whole result is withheld and
the mismatch is charged. -/
def cipherDone (t : OpTag) (agree : Bool) (spare : Nat) (s : State) : State :=
  match s.cipherReq t with
  | none => s
  | some r => if agree then s.requestEnded t true else (s.requestEnded t false).mismatch r.pair r.cls spare

/-- CIPHER_DONE (R250). -/
def execCipherDone (t : OpTag) (agree : Bool) (spare : Nat) (s : State) : Result := .next (cipherDone t agree spare s)

/-- FRAME_VERIFIED (R262): the verification of a received frame ends. -/
def frameVerified (t : OpTag) (s : State) : State :=
  match s.cipherReq t with
  | some r => match r.job with
    | .verify _ _ _ => s.requestEnded t true
    | _ => s
  | none => s

/-- FRAME_VERIFIED (R262). -/
def execFrameVerified (t : OpTag) (s : State) : Result := .next (frameVerified t s)

/-- FRAME_SECURED (R263): the securing of an outbound frame ends. -/
def frameSecured (t : OpTag) (s : State) : State :=
  match s.cipherReq t with
  | some r => match r.job with
    | .secure _ _ _ => s.requestEnded t true
    | .relay _ => s.requestEnded t true
    | _ => s
  | none => s

/-- FRAME_SECURED (R263). -/
def execFrameSecured (t : OpTag) (s : State) : Result := .next (frameSecured t s)

end Sys2Proof.Machine
end

