-- ==== Sys2Proof/Machine/Domains.lean ====
section
/-! DEFINITION. Power domains (R77 to R79): a domain has drained, reaches its drain limit, goes OFF or comes ON; the end of a
drain of the device (R72). -/
namespace Sys2Proof.Machine
open Sys2Proof

/-- The index that names the unswitched core in DOMAIN_ABORTED (R72). -/
abbrev domCORE : Nat := 63

/-! ## The end of DRAIN (R72) -/

/-- The drain ends once every switched domain is OFF and the core holds no DMA read: the reset it was entered for, or DRAIN goes
on, powered down. -/
def State.drainEnd (s : State) : State :=
  if s.mode.mode = .DRAIN ∧ s.mode.drainStart.isSome ∧ (List.range 43).all (fun d => s.domain d == 0) ∧ s.host.reads.isEmpty then
    match s.mode.drainReset with
    | some p => s.resetBy p true
    | none => { s with mode := { s.mode with drainStart := none } }
  else s

/-! ## DOMAIN_ABORTED (R79) -/

/-- Numbers in ascending order. -/
def insertNat (n : Nat) : List Nat → List Nat
  | [] => [n]
  | m :: t => if n ≤ m then n :: m :: t else m :: insertNat n t

/-- The aborted tags are listed, as far as the list goes, and one DOMAIN_ABORTED is written. -/
def State.abortNotice (s : State) (d : Nat) (tags : List Nat) (untagged : Nat) : State :=
  let ts := tags.foldr insertNat []
  let at_ := s.domains.abortList.length
  let l := (s.domains.abortList ++ ts).take 8192
  let x : DomainState := { s.domains with abortList := l, overflow := s.domains.overflow || decide (8192 < at_ + ts.length) }
  ({ s with domains := x } : State).notice ncDOMAIN_ABORTED d
    ([(8, d), (16, ts.length), (16, untagged), (16, at_)] ++ (ts.take 18).map fun t => (16, t))

/-! ## What remains at the limit (R78): each completes with ABORTED_POWER. State, tags, untagged operations. -/

/-- Power-line transmissions of feeder group `d` are cut off. -/
def State.abortLines (s : State) (d : Nat) : State × Nat :=
  (List.range 12).foldl (fun (a : State × Nat) i =>
    let p := 3 * d + i / 4
    if (a.1.pchan p (i % 4)).tx.isSome then (a.1.plcCut p (i % 4) stABORTED_POWER, a.2 + 1) else a) (s, 0)

/-- Radio transmissions of the domain's pairs are cut off, their down-ramp under way. -/
def State.abortRamps (s : State) (d : Nat) : State × Nat :=
  (List.range 4).foldl (fun (a : State × Nat) i =>
    let n := 4 * (d - 32) + i
    match afind a.1.chirp.sending n with
    | none => a
    | some r =>
      let t := max (aget 0 a.1.domains.rampTo d) (a.1.ns + r.dur)
      let s1 := { a.1 with domains := { a.1.domains with rampTo := aset a.1.domains.rampTo d t } }
      (s1.rfCut n stABORTED_POWER, a.2 + 1)) (s, 0)

/-- Control-link writes of the domain's front-ends are given up; launched ones end. -/
def State.abortWrites (s : State) (d : Nat) : State × Nat :=
  let mine := fun (w : RfcWrite) => w.pair / 4 == d - 32
  let n := (s.sample.rfc.filter mine).length
  let s1 := { s with sample := { s.sample with rfc := s.sample.rfc.filter fun w => !mine w } }
  let es := s1.launch.entries.filter fun e => leKind e.words == 3 && leIndex e.words / 4 == d - 32 && e.rfc == 2
  (es.foldl (fun a e => a.launchDone e stABORTED_POWER) s1, n + es.length)

/-- Held chirp frames end. -/
def State.abortHeld (s : State) : State × Nat :=
  (s.chirp.demods.foldl (fun a d => a.endLent d .aborted) s, s.chirp.demods.length)

/-- A cipher job ends without a result. -/
def State.abortJob (s : State) (j : CipherJob) : State :=
  match j with
  | .verify f ep _ => (s.ackNone f).supervise ep
  | .secure i gen _ => match s.lqAt i with
    | some e => if e.gen = gen then s.txFail e stABORTED_POWER else s
    | none => s
  | .relay o => s.noNextHop o.src
  | .host c _ => s.complete c opCIPHER stABORTED_POWER

/-- Cipher requests end, the held ones too, and the exchanges of the card ports. -/
def State.abortCipher (s : State) : State × List Nat × Nat :=
  let held := s.cipher.held
  let s1 := { s with cipher := { s.cipher with held := [] } }
  let s2 := s1.cipher.reqs.foldl (fun a r => (a.cipherLeave r.tag).abortJob r.job) s1
  let s3 := held.foldl (fun a h => a.abortJob h.2.2) s2
  let x := (List.range 8).foldl (fun (a : State × Nat) k => match a.1.cardRun k with
    | none => a
    | some r =>
      let b := a.1.setCard k { a.1.card k with run := none }
      ((b.exchangeEnd r.ring stABORTED_POWER r.flushed).cardOff k, a.2 + 1)) (s3, 0)
  (x.1, s1.cipher.reqs.map (·.tag), held.length + x.2)

/-- The requests held for a tag end with a status. -/
def State.endHeldReqs (s : State) (st : Nat) : State :=
  s.bench.heldReqs.foldl (fun a h =>
    a.requestEnd { tag := 8192, dst := h.1, content := h.2.1, purpose := h.2.2, east := false, deadline := 0 } st [])
    { s with bench := { s.bench with heldReqs := [] } }

/-- Bench and fabric requests end; those held for a tag first. -/
def State.abortBench (s : State) : State × List Nat × Nat :=
  let n := s.bench.heldReqs.length
  ((s.endHeldReqs stABORTED_POWER |> fun a => s.bench.reqs.foldl (fun a r => a.closeRequest r stABORTED_POWER []) a),
    s.bench.reqs.map (·.tag), n)

/-- Everything that remains in domain `d`. -/
def State.abortDomain (s : State) (d : Nat) : State × List Nat × Nat :=
  if d < 32 then let x := s.abortLines d; (x.1, [], x.2)
  else if d < 40 then
    let x := s.abortRamps d
    let y := x.1.abortWrites d
    (y.1, [], x.2 + y.2)
  else if d = domCHC then let x := s.abortHeld; (x.1, [], x.2)
  else if d = domCPH then s.abortCipher
  else if d = domBPL then s.abortBench
  else (s, [], 0)

/-- A DMA read of the unswitched core ends at the drain limit (R72): its descriptor or its LOAD_IMAGE with ABORTED_POWER. -/
def State.abortRead (s : State) (k : DmaRead) : State :=
  let s1 := s.readEnd k
  match k with
  | .run r => match (s1.dmaRing r).run with
    | some d => (if dKind d.desc.words = 1 ∧ d.waiting then s1.qRewind (dQueue d.desc.words) else s1).dmaFinish r stABORTED_POWER 0
    | none => s1
  | .image => match s1.mode.loadCmd with
    | some (c, _) => { s1.complete c opLOAD_IMAGE stABORTED_POWER with mode := { s1.mode with loadCmd := none } }
    | none => s1
  | _ => s1

/-- The operations of the unswitched core end (R72): the DMA reads that hold a tag; those held for want of one are not issued. -/
def State.abortCore (s : State) : State × List Nat :=
  let l := s.host.reads
  (l.foldl (fun a x => a.abortRead x.1) { s with host := { s.host with heldDma := [] } }, l.map (·.2))

/-! ## The rows -/

/-- The domain passes on to CLAMPING; a card port's outputs go with CPH, bench reads not issued are dropped with BPL (R78). -/
def State.clampDomain (s : State) (d : Nat) : State :=
  let s1 := (s.setDomain d 4)
  let s2 := { s1 with domains := { s1.domains with rampTo := adel s1.domains.rampTo d } }
  if d = domCPH then (List.range 8).foldl (fun a k => if a.cardState k = 0 then a else a.cardOff k) s2
  else if d = domBPL then s2.endHeldReqs stDOMAIN_DOWN
  else s2

/-- DOMAIN_DRAINED (R72, R78): nothing remains; 63 is the unswitched core, whose end may be the last of a drain. -/
def domainDrained (d : Domain) (s : State) : State :=
  if d.val = domCORE then s.drainEnd
  else if d.val < 43 ∧ s.domain d = 3 ∧ !s.domainBusy d then (s.clampDomain d).twinSettle
  else s

/-- DOMAIN_DRAINED (R78). -/
def execDomainDrained (d : Domain) (s : State) : Result := .next (domainDrained d s)

/-- MD_DOMCTL.DRAIN_LIMIT has passed since a DT. -/
def State.limitPassed (s : State) (t : Nat) : Bool := decide (t + s.getF F.MD_DOMCTL_DRAIN_LIMIT * 1000 ≤ s.ns)

/-- A domain reaches the drain limit (R78): what remains ends, one DOMAIN_ABORTED; CLAMPING follows at once, or after the
down-ramp of a transmission cut off. -/
def State.domainLimit (s : State) (d : Nat) : State :=
  let x := s.abortDomain d
  let s1 := x.1.abortNotice d x.2.1 x.2.2
  (if s1.domainBusy d then s1 else s1.clampDomain d).twinSettle

/-- A domain of lower index reaches its limit and has not been handled: it comes first (R78). -/
def State.limitBefore (s : State) (d : Nat) : Bool :=
  (List.range d).any fun i => s.domain i == 3 && s.domainBusy i && (afind s.domains.rampTo i).isNone &&
    s.limitPassed (aget 0 s.domains.drainSince i)

/-- DRAIN_LIMIT_EXPIRY (R72, R78): in ascending index, the unswitched core last. -/
def drainLimitExpiry (d : Domain) (s : State) : State :=
  if d.val = domCORE then
    match s.mode.drainStart with
    | some t =>
      if s.mode.mode = .DRAIN ∧ s.limitPassed t ∧ !s.host.reads.isEmpty ∧ !s.limitBefore 43 then
        let x := s.abortCore
        (x.1.abortNotice domCORE x.2 0).drainEnd
      else s
    | none => s
  else if d.val < 43 ∧ s.domain d = 3 ∧ s.domainBusy d ∧ (afind s.domains.rampTo d).isNone ∧
      s.limitPassed (aget 0 s.domains.drainSince d) ∧ !s.limitBefore d then s.domainLimit d
  else s

/-- DRAIN_LIMIT_EXPIRY (R78). -/
def execDrainLimitExpiry (d : Domain) (s : State) : Result := .next (drainLimitExpiry d s)

/-- DOMAIN_OFF (R77): a power-up that became due meanwhile starts. In a FAULT entered from DRAIN none has become due: the domain
stays OFF (R425; log entry 134). -/
def domainOff (d : Domain) (s : State) : State :=
  if s.domain d = 4 ∧ d.val < 43 then
    let s1 := (s.setDomain d 0).domainLeavesOn d
    if s1.mode.mode = .DRAIN then s1.drainEnd
    else if s1.wantsOn d && !(s1.mode.mode == .FAULT && s1.mode.prev == Mode.DRAIN.num) then s1.powerUp d else s1
  else s

/-- DOMAIN_OFF (R77). -/
def execDomainOff (d : Domain) (s : State) : Result := .next (domainOff d s)

/-- DOMAIN_ON (R77): the units start from the structure; a power-down that became due meanwhile starts. -/
def domainOn (d : Domain) (s : State) : State :=
  if s.domain d = 1 ∧ d.val < 43 then
    let s1 := (s.setDomain d 2).domainComesOn d
    if s1.mode.mode = .DRAIN ∨ !s1.wantsOn d then s1.drainDomain d else s1
  else s

/-- DOMAIN_ON (R77). -/
def execDomainOn (d : Domain) (s : State) : Result := .next (domainOn d s)

end Sys2Proof.Machine
end

