-- ==== Sys2Proof/Machine/Faults.lean ====
section
/-! DEFINITION. Faults, wedged units and the rotating audit (chapter 15): detection, closing, wedges and substitutions, audit
steps and mismatches, and the command FAULT_CLOSE. -/
namespace Sys2Proof.Machine
open Sys2Proof

/-! ## Records (R374 to R377) -/


/-- An error of the reporting path (R376): a check failure of its elements, or a double-bit error in the notice buffer or
the fault log, memories 10 and 11 of R30. -/
def reportPath (code : Nat) (u : UnitRef) : Bool :=
  code == fcREPORT_PATH || (code == 1 && u.kind.val == 7 && (u.unit == 10 || u.unit == 11))

/-- An error of a unit whose checks take the device to FAULT at once (R376, R378): the reporting path, the unswitched core,
the CORE PLL. -/
def escalating (code : Nat) (u : UnitRef) : Bool :=
  reportPath code u || ((code == fcWEDGE || code == fcPLL_UNLOCK) && (u.kind.val == 9 || (u.kind.val == 8 && u.unit == 0)))

/-- FAULT_DETECT (R375, R376). Reserved codes name no error. -/
def faultDetect (code : Nat) (u : UnitRef) (detail : Word) (s : State) : State :=
  if s.mode.mode = .OFF ∨ code = 0 ∨ 9 < code then s
  else if escalating code u then (s.reportEscalated code u.kind u.unit detail.toNat 0x0C).1
  else (s.report code u.kind u.unit detail.toNat).1

/-- FAULT_DETECT (R375). -/
def execFaultDetect (code : Nat) (u : UnitRef) (detail : Word) (s : State) : Result := .next (faultDetect code u detail s)

/-- FAULT_AUTOCLOSE (R375): AUTOCLOSE seconds after LAST; 0 never. -/
def faultAutoclose (i : LogIndex) (s : State) : State :=
  match afind s.faults.log i with
  | none => s
  | some r =>
    if r.isOpen && s.getF F.FT_CFG_AUTOCLOSE != 0 && s.expired (s.closeDue r) then s.closeRecord i else s

/-- FAULT_AUTOCLOSE (R375). -/
def execFaultAutoclose (i : LogIndex) (s : State) : Result := .next (faultAutoclose i s)

/-- The open records, by index. -/
def State.openRecords (s : State) : List Nat := (s.faults.log.filter (·.2.isOpen)).map (·.1)

/-- FAULT_CLOSE (R390): a record, or every open one for 256. -/
def State.closeFaults (s : State) (v : Nat) : State × Nat × List Word :=
  if v = 256 then
    let l := s.openRecords
    (l.foldl (fun a i => a.closeRecord i) s, stOK, [BitVec.ofNat 32 l.length])
  else if 256 < v then (s, stINVALID_VALUE, [])
  else if s.openRecords.contains v then (s.closeRecord v, stOK, [1])
  else (s, stNO_RECORD, [])

/-- FAULT_CLOSE (R390). -/
def execFaultClose (c : Cmd) (v : Nat) (s : State) : Result :=
  let r := s.closeFaults v
  .next (s.command c opFAULT_CLOSE (r.1.complete c opFAULT_CLOSE r.2.1 r.2.2))

/-! ## Wedged units (R378, R379) -/

/-- The progress limit of a unit in core ticks (R378). Which detector of a cluster lagged, and so its spreading factor, is a
free value. -/
def State.wedgeLimit (s : State) (k u : Nat) : Nat × State :=
  match k with
  | 0 => (ceilDiv (4 * presetHalf (s.preset (s.getF (F.SC_LANECFG_PORT u))) * 192) 625, s)
  | 1 => (ticksOfNs 680000, s)
  | 2 =>
    let w := s.freshWord
    (ticksOfNs (2 * tSym (w.1.toNat % 8) (s.chmode (s.getF (mapLogical k u)))), w.2)
  | 3 => (match s.chirp.demods.find? (fun d => d.slot == u && d.lender.isNone) with
    | some d => (ticksOfNs (4 * tSym d.det.sf (s.demodBw d)), s)
    | none => (0, s))
  | 4 => (16, s)
  | 5 => (16, s)
  | 6 => (64, s)
  | _ => (0, s)

/-- The work on a wedged unit ends (R379). -/
def State.wedgeEffect (s : State) (k u : Nat) : State :=
  if k = kMODEM then
    let p := s.getF (mapLogical k u)
    (List.range 4).foldl (fun a b => a.plcCut p b stUNIT_FAULT) (s.rxFollowPort p)
  else if k = kLANE then s.noteRun (s.getF (F.SC_LANECFG_PORT u))
  else if k = kDEMOD then
    (s.chirp.demods.filter fun d => d.slot == u && d.lender.isNone).foldl (fun a d => a.endLent d .unitFault) s
  else s

/-- One UNIT_WEDGED: kind, unit, record index, action. -/
def State.wedgedNotice (s : State) (k u i action : Nat) : State :=
  s.notice ncUNIT_WEDGED u [(8, k), (16, u), (8, i), (8, action)]

/-- The action on a wedged unit other than a pipeline: 0 a spare takes over in the next tick, 1 it waits for a fragment, 2
FAULT. -/
def State.wedgeAction (s : State) (k : Nat) : Nat :=
  if k = kQBANK ∨ k = kEPBANK ∨ 6 < k ∨ (s.freeSpares k).isEmpty then 2
  else if s.flag F.FT_CFG_AUTOSPARE then 0 else 1

/-- A wedged pipeline (R251, R379). -/
def State.wedgePipe (s : State) (u : Nat) : State :=
  let r := s.report fcWEDGE kPIPE u 64
  let i := r.2.getD 0
  let x := r.1.retirePipe u i
  let s1 := x.1.wedgedNotice kPIPE u i x.2
  if x.2 = 2 then (s1.escalateRecord i).enterFault 0x0C else s1

/-- A wedged unit that is not a pipeline: its record, the end of its work, UNIT_WEDGED, and FAULT where nothing helps. -/
def State.wedgeUnit (s : State) (w : UnitRef) : State :=
  let k := w.kind.val
  let lim := s.wedgeLimit k w.unit
  let s0 : State := { lim.2 with faults := { lim.2.faults with
    wedged := lim.2.faults.wedged ++ [w], wedgedAt := aset lim.2.faults.wedgedAt (4096 * k + w.unit) s.tick } }
  let act := s0.wedgeAction k
  let r := s0.recordError fcWEDGE k w.unit (min 0xFFFFFFFF lim.1) (act == 2)
  let r' := if r.2.isSome then r else r.1.report fcWEDGE k w.unit lim.1
  let s1 := (r'.1.wedgeEffect k w.unit).wedgedNotice k w.unit (r'.2.getD 0) act
  if act = 2 then s1.enterFault 0x0C else s1

/-- A unit that can wedge (R378): a live spared one, a lane while it runs, a demodulator while it is held; a CORE unit, the CORE PLL. -/
def State.canWedge (s : State) (w : UnitRef) : Bool :=
  let k := w.kind.val
  if k ≤ 6 then decide (w.unit < kindUnits k) && s.role k w.unit == roleLIVE && !s.isWedged k w.unit &&
    (k != kLANE || s.flag (F.SC_LANECTL_RUN w.unit)) &&
    (k != kDEMOD || s.chirp.demods.any fun d => d.slot == w.unit && d.lender.isNone)
  else k == 9 || (k == 8 && w.unit == 0)

/-- UNIT_WEDGED (R378, R379). -/
def unitWedged (w : UnitRef) (s : State) : State :=
  if s.mode.mode = .OFF ∨ !s.canWedge w then s
  else if w.kind.val = kPIPE then s.wedgePipe w.unit
  else s.wedgeUnit w

/-- UNIT_WEDGED (R379). -/
def execUnitWedged (w : UnitRef) (s : State) : Result := .next (unitWedged w s)

/-- What a unit's new carrier takes up (R58, R126, R380): a modem engine's port receives again, a lane's on its whole band set. -/
def State.takeUp (s : State) (k u lg : Nat) : State :=
  if k = kMODEM then s.rxFollowPort lg else if k = kLANE then s.rxFollowLane u else s

/-- AUTOSPARE_SUBST (R379): the lowest free spare replaces a wedged live unit, in a core tick after that of the wedge. -/
def autospareSubst (w : UnitRef) (s : State) : State :=
  let k := w.kind.val
  if 3 < k ∨ !s.isWedged k w.unit ∨ s.role k w.unit ≠ roleLIVE ∨ !s.flag F.FT_CFG_AUTOSPARE ∨ (s.freeSpares k).isEmpty ∨
      s.tick ≤ aget 0 s.faults.wedgedAt (4096 * k + w.unit) then s
  else
    let i := ((s.openRecord fcWEDGE k w.unit).map (·.1)).getD 0
    let lg := s.getF (mapLogical k w.unit)
    (s.retire k w.unit i).1.takeUp k w.unit lg

/-- AUTOSPARE_SUBST (R379). -/
def execAutospareSubst (w : UnitRef) (s : State) : Result := .next (autospareSubst w s)

/-! ## Rotating audit (R381, R382) -/

def State.audit (s : State) (k : Nat) : Audit := aget {} s.faults.audits k
def State.setAudit (s : State) (k : Nat) (a : Audit) : State :=
  { s with faults := { s.faults with audits := aset s.faults.audits k a } }

/-- Live units of a kind, ascending. -/
def State.liveUnits (s : State) (k : Nat) : List Nat :=
  (List.range (kindUnits k)).filter fun u => s.role k u == roleLIVE && !s.isWedged k u

/-- The domain of a live unit (R75), none in the unswitched core. -/
def State.unitDomain (s : State) (k u : Nat) : Option Nat :=
  match k with
  | 0 => some (domOfLine (s.getF (F.SC_LANECFG_PORT u)))
  | 1 => some (domOfLine (s.getF (mapLogical k u)))
  | 2 => some domCHC
  | 3 => some domCHC
  | 6 => some domCPH
  | _ => none

/-- DWELL of a kind in ns. -/
def State.dwell (s : State) (k : Nat) : Nat := s.getF (F.FT_AUDCFG_DWELL k) * 1000000

/-- The step that ends was the last of a pass over all live units. -/
def State.endPass (s : State) (k : Nat) (a : Audit) : State :=
  let l := (s.liveUnits k).length
  if 0 < a.step ∧ 0 < l ∧ a.step % l = 0 then s.bump (F.FT_AUDPASS_PASSES k) else s

/-- Step n of a kind begins, or is skipped where the live unit's domain is not ON (R381). -/
def State.startStep (s : State) (k : Nat) : State :=
  let a := s.audit k
  let fr := s.freeSpares k
  let lv := s.liveUnits k
  match lv[a.step % lv.length]?, fr[a.step % fr.length]? with
  | some u, some v =>
    let on_ := match s.unitDomain k u with
      | some d => s.domOn d
      | none => true
    s.setAudit k { step := a.step + 1, live := u, spare := v, active := on_,
                   dwellEnd := if on_ then s.ns + s.dwell k else s.ns }
  | _, _ => s.setAudit k { a with active := false, suspect := none }

/-- AUDIT_STEP (R381): the step's DWELL has ended and the next begins. A step that judges a mismatch ends by its verdict. -/
def auditStep (k : SparedKind) (s : State) : State :=
  let a := s.audit k
  if !s.struct_.live ∨ s.mode.mode = .FAULT then s
  else if !s.flag (F.FT_AUDCFG_EN k) then s.setAudit k { a with active := false, suspect := none }
  else if a.active && (a.suspect.isSome || decide (s.ns < a.dwellEnd)) then s
  else (s.endPass k a).startStep k

/-- AUDIT_STEP (R381). -/
def execAuditStep (k : SparedKind) (s : State) : Result := .next (auditStep k s)

/-- One AUDIT_MISMATCH: kind, live unit, first spare, second spare, verdict. -/
def State.auditNotice (s : State) (k u v : Nat) (v' : Option Nat) (verdict : Nat) : State :=
  s.notice ncAUDIT_MISMATCH u [(8, k), (16, u), (16, v), (16, v'.getD 0xFFFF), (8, verdict)]

/-- The step is over. -/
def State.endStep (s : State) (k : Nat) : State :=
  s.setAudit k { s.audit k with active := false, suspect := none, dwellEnd := s.ns }

/-- A live unit is replaced by a given spare because of record `i` (R379, R382). -/
def State.retireFor (s : State) (k u v i : Nat) : State :=
  if k = kPIPE then
    let p := s.getF (mapLogical k u) / 2
    (((s.substitute k u v).restartPair p p).noteRetired k u).retiredNotice k u (some v) i
  else
    let lg := s.getF (mapLogical k u)
    (((s.substitute k u v).noteRetired k u).retiredNotice k u (some v) i).takeUp k u lg

/-- Verdict SPARE: the first spare is wrong and is retired. -/
def State.judgeSpare (s : State) (k u v v' : Nat) : State :=
  let r := s.report fcAUDIT k v u
  ((r.1.endStep k).auditNotice k u v (some v') 0).retire k v (r.2.getD 0) |>.1

/-- Verdict LIVE: the live unit is wrong; with AUTOSPARE the second spare replaces it. -/
def State.judgeLive (s : State) (k u v v' : Nat) : State :=
  let r := s.report fcAUDIT k u v'
  let s1 := (r.1.endStep k).auditNotice k u v (some v') 1
  if s.flag F.FT_CFG_AUTOSPARE then s1.retireFor k u v' (r.2.getD 0) else s1

/-- Verdict UNRESOLVED: no second spare; both units are recorded, the lower first (R375). -/
def State.judgeNone (s : State) (k u v : Nat) : State :=
  let a := min u v
  let b := max u v
  (((s.report fcAUDIT k a b).1.report fcAUDIT k b a).1.endStep k).auditNotice k u v none 2

/-- AUDIT_MISMATCH (R382): the first mismatch restarts the step with the next free spare; the second comparison, which
agreed or not, gives the verdict. -/
def auditMismatch (k : SparedKind) (agrees : Bool) (s : State) : State :=
  let a := s.audit k
  if !a.active then s
  else match a.suspect with
    | none =>
      if agrees then s
      else
        let s1 := s.bump (F.FT_AUDSTAT_MISMATCH k)
        let fr := s.freeSpares k
        match (fr.filter (fun x => decide (a.spare < x)) ++ fr.filter (fun x => decide (x < a.spare))).head? with
        | some v' => s1.setAudit k { a with spare := v', suspect := some a.spare, dwellEnd := s.ns + s.dwell k }
        | none => s1.judgeNone k a.live a.spare
    | some v =>
      if agrees then (if s.ns < a.dwellEnd then s else s.judgeSpare k a.live v a.spare)
      else (s.bump (F.FT_AUDSTAT_MISMATCH k)).judgeLive k a.live v a.spare

/-- AUDIT_MISMATCH (R382). -/
def execAuditMismatch (k : SparedKind) (agrees : Bool) (s : State) : Result := .next (auditMismatch k agrees s)

end Sys2Proof.Machine
end

