-- ==== Sys2Proof/Machine/HostLink.lean ====
section
/-! DEFINITION. Events of the host link (chapter 12): fetching commands, writing notices and signalling them, the tokens of the
source blocks, the aggregator's spans, loss and training of the link. -/
namespace Sys2Proof.Machine
open Sys2Proof

/-! ## Commands (R300) -/

/-- A command with FENCE of the session waits for an earlier one (R300). -/
def State.fenceHolds (s : State) (n : Nat) : Bool :=
  let l := s.host.taken.filter fun t => t.session == n
  l.any fun t => t.fence && !t.done && ((l.takeWhile (· != t)).any fun u => !u.done)

/-- A command of session `n` can be taken. -/
def State.fetchable (s : State) (n : Session) : Bool :=
  s.ringOn (.session n) && s.getF (RingRef.session n).dev != s.getF (RingRef.session n).host && !s.fenceHolds n

/-- The session whose turn it is: the first that can be served after the one served last (R300). -/
def State.nextSession (s : State) : Option Nat :=
  (((List.range 16).map fun i => (s.host.lastServed + 1 + i) % 16)).find? fun n => s.fetchable (Fin.ofNat 16 n)

/-- The opcodes the device knows (R304 and the chapters it names). -/
def opcodeKnown (op : Nat) : Bool :=
  [opNOP, opREAD, opWRITE, opREAD_BLOCK, opWRITE_BLOCK, opENQUEUE, opLAUNCH, opLAUNCH_CANCEL, opROUTE_INSERT, opROUTE_REMOVE,
   opKEY_LOAD, opCIPHER, opLOAD_IMAGE, opFULL_RESET, opTXN_OPEN, opTXN_ADD, opTXN_COMMIT, opTXN_ABORT, opTXN_STATUS,
   opMEMBER_RESET, opREMOTE_READ, opREMOTE_WRITE, opHANDOVER, opLEDGER_READ, opLEDGER_WRITE, opFAULT_CLOSE].contains op

/-- A command entry has been read (R300, R303): it takes a command slot; one of another session, or with an unknown opcode,
completes at once. Its effect is the command's own. -/
def State.takeCommand (s : State) (n : Session) (ws : List Word) : State :=
  let w := wordAt ws 0
  let op := w.field 31 24
  let c : Cmd := { session := n, tag := BitVec.ofNat 16 (w.field 15 0), quiet := w.bit 19, fence := w.bit 18, f17 := w.bit 17, f16 := w.bit 16 }
  let t : Taken := { session := n, opcode := op, tag := w.field 15 0, fence := c.fence }
  let s1 := { s with host := { s.host with taken := s.host.taken ++ [t], lastServed := n } }
  if w.field 23 20 ≠ n.val then s1.complete c op stINVALID_VALUE
  else if !opcodeKnown op then s1.complete c op stBAD_OPCODE
  else s1

/-- COMMAND_FETCH (R300, R318, R320). -/
def commandFetch (n : Session) (ans : HostAnswer) (s : State) : State :=
  let r : RingRef := .session n
  let c := s.getF r.dev
  if !s.linkUp ∨ !s.flag F.HL_LINKSTAT_BME ∨ 256 ≤ s.host.taken.length ∨ s.nextSession ≠ some n.val then s
  else if !s.hostOk (s.ringAddr r c) 64 false then s.ringStop r c
  else match ans with
    | .failed => s.ringStop r c
    | .data b =>
      let s1 := (s.setF r.dev (c + 1)).takeCommand n (wordsOfBytes b)
      match s1.writeWb r with
      | (s2, false) => s2
      | (s2, true) => s2.ringStop r (c + 1)

/-- COMMAND_FETCH (R300). -/
def execCommandFetch (n : Session) (ans : HostAnswer) (s : State) : Result := .next (commandFetch n ans s)

/-! ## Notices (R301, R310, R313) -/

/-- Payload fields laid out little-endian, each aligned to its own width (R310). -/
def packPayload : List (Nat × Nat) → List Byte → List Byte
  | [], acc => acc
  | (bits, v) :: t, acc =>
    let n := bits / 8
    let pad := (n - acc.length % n) % n
    packPayload t (acc ++ List.replicate pad 0 ++ bytesLE n v)

/-- A payload value saturates at the largest of its field (R310). -/
def satField (x : Nat × Nat) : Nat × Nat := (x.1, min (2 ^ x.1 - 1) x.2)

/-- The 64 bytes of a notice (R307, R310). -/
def Notice.bytes (n : Notice) : List Byte :=
  let head := bytesLE 4 (n.code * 2 ^ 24 + n.block * 2 ^ 16 + n.count) ++ bytesLE 8 n.time ++
    bytesLE 4 (n.unit % 65536 + n.member % 32 * 65536)
  let pay := packPayload (n.payload.map satField) []
  if n.code = ncCOMPLETION then (head ++ pay ++ List.replicate 48 0).take 64
  else ((head ++ pay ++ List.replicate 44 0).take 60) ++ bytesLE 4 n.lastDelta

/-- Notices that take no token (R313). -/
def tokenFree (n : Notice) : Bool := [ncCOMPLETION, ncNOTICES_LOST, ncSESSION_ERROR].contains n.code || n.block == 9

def State.rate (s : State) (b : Nat) : Nat := s.getF (F.HL_NRATE_RATE b)
def State.burst (s : State) (b : Nat) : Nat := s.getF (F.HL_NRATE_BURST b)

/-- Tokens in a block's bucket, full at first. -/
def State.tokens (s : State) (b : Nat) : Nat := min (s.burst b) (aget (s.burst b) s.notices.tokens b)

/-- The notice finds a token, or needs none. -/
def State.hasToken (s : State) (n : Notice) : Bool := tokenFree n || s.rate n.block == 0 || s.tokens n.block != 0

def State.spendToken (s : State) (n : Notice) : State :=
  if tokenFree n || s.rate n.block == 0 then s
  else { s with notices := { s.notices with tokens := aset s.notices.tokens n.block (s.tokens n.block - 1) } }

/-- The first notice of the buffer that finds a token. -/
def State.nextNotice (s : State) : Option Notice := s.notices.buffer.find? s.hasToken

/-- Notices that find no token are counted in DELAYED, each once. -/
def State.countDelayed (s : State) : State :=
  let late := s.notices.buffer.filter fun n => !s.hasToken n && !n.delayed
  let s1 := late.foldl (fun a n => a.bump (F.HL_NRATE_DELAYED n.block)) s
  let l := s1.notices.buffer.map fun n => if late.contains n then { n with delayed := true } else n
  { s1 with notices := { s1.notices with buffer := l } }

/-- The interrupt rule of R301 after a notice has been written. -/
def State.noteSignal (s : State) : State :=
  let n := s.notices.unsignalled + 1
  if s.getF F.HL_NRING6_IRQ_COUNT ≤ n then
    ({ s with notices := { s.notices with unsignalled := 0 } } : State).signal 0
  else
    let first := if s.notices.unsignalled = 0 then s.ns else s.notices.firstUnsignalled
    { s with notices := { s.notices with unsignalled := n, firstUnsignalled := first } }

/-- A failed access of the notice ring (R318). -/
def State.noticeWindow (s : State) (count : Nat) : State :=
  ((s.setF F.HL_NSTAT_WINDOW 1).ringStop .notice count).signal 0

/-- A notice is written at the producer count, then the count (R301); true where it was written. -/
def State.putNotice (s : State) (n : Notice) : State × Bool :=
  let r : RingRef := .notice
  let p := s.getF r.dev
  if !s.hostOk (s.ringAddr r p) 64 true then (s.noticeWindow p, false)
  else
    let s1 := (s.emitOut (.hostWrite (s.ringAddr r p) n.bytes)).setF r.dev (p + 1)
    match s1.writeWb r with
    | (s2, false) => (s2.noteSignal, true)
    | (s2, true) => (s2.noticeWindow (p + 1), true)

/-- The ring takes a notice: enabled, with a free entry, the link up and the device a bus master. -/
def State.noticeRoom (s : State) : Bool :=
  s.ringOn .notice && s.linkUp && s.flag F.HL_LINKSTAT_BME &&
    decide ((s.getF (RingRef.dev .notice) + 65536 - s.getF (RingRef.host .notice)) % 65536 < s.ringSlots .notice)

/-- The command slot of a written completion is free (R300). -/
def State.freeSlot (s : State) (n : Notice) : State :=
  if n.code ≠ ncCOMPLETION then s
  else
    let w := ((n.payload[0]?).map (·.2)).getD 0
    let l := s.host.taken.eraseP fun t =>
      t.done && t.tag == w % 65536 && t.session == w / 2 ^ 16 % 16 && t.opcode == w / 2 ^ 24
    { s with host := { s.host with taken := l } }

/-- NOTICES_LOST (R21). -/
def State.lostNotice (s : State) : Notice :=
  { code := ncNOTICES_LOST, block := 9, time := s.ns, member := s.memberNo, payload := [(16, min 65535 s.notices.lostSince)] }

/-- NOTICE_WRITE (R301, R313, R21): NOTICES_LOST first where notices were lost, else the first notice with a token. -/
def noticeWrite (s : State) : State :=
  let s0 := s.countDelayed
  if !s0.noticeRoom then s0
  else if s0.notices.lostSince ≠ 0 then
    match s0.putNotice s0.lostNotice with
    | (s1, true) => { s1 with notices := { s1.notices with lostSince := 0 } }
    | (s1, false) => s1
  else match s0.nextNotice with
    | none => s0
    | some n => match s0.putNotice n with
      | (s1, true) =>
        (({ s1 with notices := { s1.notices with buffer := s1.notices.buffer.erase n } } : State).spendToken n).freeSlot n
      | (s1, false) => s1

/-- NOTICE_WRITE (R301). -/
def execNoticeWrite (s : State) : Result := .next (noticeWrite s)

/-- IRQ_TIMER (R301). -/
def irqTimer (s : State) : State :=
  let t := s.getF F.HL_NRING6_IRQ_TIME
  if t ≠ 0 ∧ s.notices.unsignalled ≠ 0 ∧ s.notices.firstUnsignalled + t * 1000 ≤ s.ns then
    ({ s with notices := { s.notices with unsignalled := 0 } } : State).signal 0
  else s

/-- IRQ_TIMER (R301). -/
def execIrqTimer (s : State) : Result := .next (irqTimer s)

/-- TOKEN_REFILL (R313): the buckets gain RATE tokens for each millisecond of DT that has begun. -/
def tokenRefill (s : State) : State :=
  let ms := s.ns / 1000000
  let k := ms - s.notices.lastMs
  let t := (List.range 15).map fun b => (b, min (s.burst b) (s.tokens b + k * s.rate b))
  { s with notices := { s.notices with tokens := t, lastMs := max ms s.notices.lastMs } }

/-- TOKEN_REFILL (R313). -/
def execTokenRefill (s : State) : Result := .next (tokenRefill s)

/-- SPAN_EXPIRY (R384): the span's gap has passed; its held notice, if it has one, is handed to the writer. -/
def spanExpiry (i : Nat) (s : State) : State :=
  match s.notices.spans[i]? with
  | none => s
  | some sp =>
    if s.expired sp.due then
      let s1 := { s with notices := { s.notices with spans := s.notices.spans.eraseIdx i } }
      match sp.held with
      | some n => s1.hand n
      | none => s1
    else s

/-- SPAN_EXPIRY (R384). -/
def execSpanExpiry (i : Nat) (s : State) : Result := .next (spanExpiry i s)

/-! ## The link (R295, R296) -/

/-- The descriptor in progress of a ring ends with DMA_ERROR at a link loss (R296). -/
def State.dropRun (s : State) (r : Nat) : State :=
  let x := s.dmaRing r
  match x.run with
  | none => s.setDmaRing r { x with fetched := [] }
  | some d =>
    let s1 := s.readEnd (.run r)
    let s2 := if dKind d.desc.words = 1 ∧ d.waiting then s1.qRewind (dQueue d.desc.words) else s1
    (s2.setDmaRing r { x with fetched := [], run := none }).bump (F.HL_DRING4_ERRORS r)

/-- HOST_LINK_LOSS (R296). -/
def hostLinkLoss (s : State) : State :=
  if !s.linkUp then s
  else
    let s1 := (((s.setF F.HL_LINKSTAT_UP 0).setF F.HL_LINKSTAT_BME 0).bump F.HL_LINKSTAT_DOWNS).setF F.HL_NRING2_EN 0
    let s2 := (List.range 16).foldl (fun a i => a.setF (F.HL_SESS2_EN i) 0) s1
    let s3 := (s2.host.reads.map (·.1) ++ s2.host.heldDma).foldl (fun a k => a.readEnd k)
      ((List.range 256).foldl (fun a r => (a.dropRun r).setF (F.HL_DRING2_EN r) 0) s2)
    let comps := (s3.notices.buffer.filter fun n => !n.buffered).length
    let q : NoticeState := { s3.notices with buffer := s3.notices.buffer.filter Notice.buffered, unsignalled := 0 }
    let h : HostState := {
      s3.host with taken := s3.host.taken.filter (!·.done), lossesSince := s3.host.lossesSince + 1,
                   discardedSince := s3.host.discardedSince + comps, pba := [] }
    { s3 with notices := q, host := h }

/-- HOST_LINK_LOSS (R296). -/
def execHostLinkLoss (s : State) : Result := .next (hostLinkLoss s)

/-- HOST_LINK_STATE (R296): the link trains again at a speed and width. -/
def hostLinkState (speed width : Nat) (s : State) : State :=
  if s.linkUp ∨ s.mode.mode = .OFF then s
  else
    let s1 := ((s.setF F.HL_LINKSTAT_UP 1).setF F.HL_LINKSTAT_SPEED speed).setF F.HL_LINKSTAT_WIDTH width
    ({ s1 with host := { s1.host with lossesSince := 0, discardedSince := 0 } } : State).notice ncHOST_LINK_STATE 0
      [(16, s.host.lossesSince), (16, s.host.discardedSince)]

/-- HOST_LINK_STATE (R296). -/
def execHostLinkState (speed width : Nat) (s : State) : Result := .next (hostLinkState speed width s)

/-- BUS_MASTER_ENABLE (R295): requests may be issued again. -/
def busMasterEnable (s : State) : State := if s.linkUp then (s.setF F.HL_LINKSTAT_BME 1).sendPending else s

/-- BUS_MASTER_ENABLE (R295). -/
def execBusMasterEnable (s : State) : Result := .next (busMasterEnable s)

end Sys2Proof.Machine
end

