-- ==== Sys2Proof/Machine/Keys.lean ====
section
/-! DEFINITION. Key loads of the host and the end of a rollover window (R255 to R257). -/
namespace Sys2Proof.Machine
open Sys2Proof

/-- A KEY_LOAD of a session (R257): the slot changes where every check passes. -/
def State.keyLoad (s : State) (c : Cmd) (w : List Word) : State :=
  match s.checkLoad w (some c.session.val) with
  | (st, key) =>
    if st ≠ stOK then s.complete c opKEY_LOAD st
    else
      let n := klTarget w
      let s1 := s.loadKey n (klOp w) key
      s1.complete c opKEY_LOAD stOK [BitVec.ofNat 32 (s1.getF (slGEN n))]

/-- KEY_LOAD (R257). -/
def execKeyLoad (c : Cmd) (w : List Word) (s : State) : Result := .next (s.command c opKEY_LOAD (s.keyLoad c w))

/-- ROLL_WINDOW_EXPIRY (R256): the previous generation of a rolling slot empties, as by END_ROLL. -/
def rollWindowExpiry (k : KeySlot) (s : State) : State :=
  let n := k.name
  let w := s.getF F.CX_ROLLCFG_WINDOW
  if s.flag (slROLLING n) ∧ w ≠ 0 ∧ (s.keysOf n).rolled + w * 60000000000 ≤ s.ns then s.loadKey n 2 [] else s

/-- ROLL_WINDOW_EXPIRY (R256). -/
def execRollWindowExpiry (k : KeySlot) (s : State) : Result := .next (rollWindowExpiry k s)

end Sys2Proof.Machine
end

