-- ==== Sys2Proof/Machine/Load.lean ====
section
/-! DEFINITION. The loader (R46 to R49): the offer of an image by the host, the end of its read, and the two ways a load is given
up. -/
namespace Sys2Proof.Machine
open Sys2Proof

/-- A host image read ended without its bytes (R48): its command completes, and the loader waits again, or gives up at the third. -/
def State.attemptFailed (s : State) (c : Cmd) (st : Nat) : State :=
  let s1 := ((s.readEnd .image).complete c opLOAD_IMAGE st).loadOver
  let s2 : State := { s1 with mode := { s1.mode with loadFailures := s.mode.loadFailures + 1, loadLimit := s.ns + 10000000000 } }
  if s2.mode.loadFailures < 3 then s2 else s2.loadFail lcNO_IMAGE 0

/-- LOAD_IMAGE (R46, R305): the loader reads the buffer, which must lie in a window (R318); the read holds a tag (R22). -/
def State.offerImage (s : State) (c : Cmd) (host len : Nat) : State :=
  if s.mode.mode ≠ .LOAD ∨ c.session.val ≠ 0 ∨ !s.hostSource ∨ s.mode.loadCmd.isSome then
    s.complete c opLOAD_IMAGE stMODE_REFUSED
  else if !s.hostOk host len false then s.attemptFailed c stWINDOW_VIOLATION
  else ({ s with mode := { s.mode with loadCmd := some (c, len) } } : State).readIssue .image

/-- LOAD_IMAGE (R46). -/
def execLoadImage (c : Cmd) (host len : Nat) (s : State) : Result :=
  .next (s.command c opLOAD_IMAGE (s.offerImage c host len))

/-- A host image read that a drain awaits has completed (R72): the command completes, and no load follows. -/
def State.readAwaited (s : State) : State :=
  match s.mode.mode, s.mode.loadCmd, s.readTag .image with
  | .DRAIN, some (c, _), some _ => ((s.readEnd .image).complete c opLOAD_IMAGE stOK).loadOver
  | _, _, _ => s

/-- IMAGE_READ_DONE (R47): from the host the command completes with the status of its read; then the checks. -/
def imageReadDone (image : List Byte) (s : State) : State :=
  if s.mode.mode ≠ .LOAD then s.readAwaited
  else match s.hostSource, s.mode.loadCmd with
    | true, some (c, len) =>
      if (s.readTag .image).isNone then s
      else ((s.readEnd .image).complete c opLOAD_IMAGE stOK).checkLoaded (image.take len) len
    | true, none => s
    | false, _ => s.checkLoaded image image.length

/-- IMAGE_READ_DONE (R47). -/
def execImageReadDone (image : List Byte) (s : State) : Result := .next (imageReadDone image s)

/-- LOAD_ATTEMPT_FAILED (R48): the completion is discarded after a link loss (R296). -/
def loadAttemptFailed (why : ReadFailure) (s : State) : State :=
  match s.mode.mode, s.mode.loadCmd with
  | .LOAD, some (c, _) => match why with
    | .dmaError => s.attemptFailed c stDMA_ERROR
    | .windowViolation => s.attemptFailed c stWINDOW_VIOLATION
    | .linkLoss => if s.linkUp then s else s.attemptFailed c stDMA_ERROR
  | _, _ => s

/-- LOAD_ATTEMPT_FAILED (R48). -/
def execLoadAttemptFailed (why : ReadFailure) (s : State) : Result := .next (loadAttemptFailed why s)

/-- LOAD_TIMEOUT (R46, R48): no LOAD_IMAGE has come within the limit. -/
def loadTimeout (s : State) : State :=
  if s.mode.mode = .LOAD ∧ s.hostSource ∧ s.mode.loadCmd = none ∧ s.expired s.mode.loadLimit then s.loadFail lcNO_IMAGE 0 else s

/-- LOAD_TIMEOUT (R46). -/
def execLoadTimeout (s : State) : Result := .next (loadTimeout s)

/-- NO_IMAGE (R48): the boot flash does not answer, or stops answering. -/
def noImage (s : State) : State := if s.mode.mode = .LOAD ∧ !s.hostSource then s.loadFail lcNO_IMAGE 0 else s

/-- NO_IMAGE (R48). -/
def execNoImage (s : State) : Result := .next (noImage s)

end Sys2Proof.Machine
end

