-- ==== Sys2Proof/Machine/Mains.lean ====
section
/-! DEFINITION. The events of the mains trackers (R93 to R95, R99). -/
namespace Sys2Proof.Machine
open Sys2Proof

/-- Trackers run from the start of mains acquisition on (R62, R63). -/
def State.tracking (s : State) (p : Nat) : Bool := s.mode.acquiring && s.lineActive p

/-- Actions at an angle of the port whose launch time has come complete with NO_MAINS (R99). -/
def State.anglesLost (s : State) (p : Nat) : State :=
  s.endEntries (s.launch.entries.filter fun e => leHasAngle e.words && leAnglePort e.words == p &&
    decide (leTime16 e.words ≤ s.now16) && e.due.isNone) stNO_MAINS

/-- The tracker falls to UNLOCKED; its crossings are discarded (R95). -/
def State.unlock (s : State) (p : Nat) : State :=
  (s.mainsState p { accepted := (s.tracker p).accepted }).anglesLost p

/-- A crossing accepted before LOCKED (R95): the period since the latest, and whether it repeats the one before. -/
def Tracker.early (t : Tracker) (x : Nat) : Tracker :=
  match t.crossings with
  | [] => { t with state := 1, crossings := [(0, x)], lastCycle := 0, missed := 0, run := 0 }
  | (k, a) :: rest =>
    let d := x - a
    if d * 65 < 1000000000 ∨ 1000000000 < d * 45 then
      { t with state := 1, crossings := [(0, x)], lastCycle := 0, missed := 0, run := 0 }
    else
      let lock : Bool := match rest with
        | (_, b) :: _ =>
          let p := a - b
          decide ((max d p - min d p) * 1000 ≤ p)
        | [] => false
      { t with state := if lock then 2 else 1, crossings := ((k + 1, x) :: t.crossings).take 8, lastCycle := k + 1 }

/-- The crossing nearest to a DT under a fit: its cycle and its DT. -/
def Fit.nearest (f : Fit) (x : Nat) : Int × Nat :=
  let k := (f.phase16 (x * 65536) + 32768) / 65536
  (k, f.crossing k)

/-- A crossing at `x` tested against the prediction (R93, R95). -/
def State.lateCrossing (s : State) (p : Nat) (t : Tracker) (f : Fit) (x : Nat) : State :=
  let (k, z) := f.nearest x
  let off := max x z - min x z
  if off * 16 ≤ f.period then
    let run := if t.state = 3 then t.run + 1 else 0
    let st := if t.state = 3 ∧ run < 2 then 3 else 2
    let t1 : Tracker := { t with
      state := st, crossings := ((k.toNat, x) :: t.crossings).take 8, missed := 0, run := run, lastCycle := k.toNat,
      accepted := t.accepted }
    match fitOf t1.crossings with
    | some g => if g.mHz < 45000 ∨ 65000 < g.mHz then s.unlock p else s.mainsState p t1
    | none => s.mainsState p t1
  else if t.lastCycle < k.toNat then
    let n := t.missed + 1
    if t.state = 2 ∧ 2 ≤ n then s.mainsState p { t with state := 3, missed := n, run := 0, lastCycle := k.toNat, coastFrom := k.toNat }
    else s.setTracker p { t with missed := n, lastCycle := k.toNat }
  else s

/-- MAINS_CROSSING (R93, R95): a rising zero crossing `back` ns ago. -/
def mainsCrossing (p : LinePort) (back : Nat) (s : State) : State :=
  if !s.tracking p then s
  else
    let x := s.ns - back
    let t0 := s.tracker p
    let inTime := decide (x < s.mode.acquireSince + s.threeCycles)
    match t0.fit with
    | some f =>
      let s1 := s.lateCrossing p t0 f x
      let took := (s1.tracker p).crossings != t0.crossings
      if took && inTime then s1.setTracker p { s1.tracker p with accepted := true } else s1
    | none =>
      let t1 := t0.early x
      s.mainsState p { t1 with
        accepted := t0.accepted || inTime, boundary := (t1.fit.map fun f => f.cycle s.now16).getD t1.boundary }

/-- MAINS_CROSSING (R93). -/
def execMainsCrossing (p : LinePort) (back : Nat) (s : State) : Result := .next (mainsCrossing p back s)

/-- MAINS_CROSSING_MISSED (R95): the next predicted crossing has passed by more than T/16. -/
def mainsCrossingMissed (p : LinePort) (s : State) : State :=
  let t := s.tracker p
  match t.fit with
  | none => s
  | some f =>
    let k := t.lastCycle + 1
    if s.ns * 16 ≤ f.crossing k * 16 + f.period then s
    else
      let n := t.missed + 1
      if t.state = 2 ∧ 2 ≤ n then s.mainsState p { t with state := 3, missed := n, run := 0, lastCycle := k, coastFrom := k }
      else s.setTracker p { t with missed := n, lastCycle := k }

/-- MAINS_CROSSING_MISSED (R95). -/
def execMainsCrossingMissed (p : LinePort) (s : State) : Result := .next (mainsCrossingMissed p s)

/-- COAST_EXPIRY (R95): the tracker has coasted COAST cycles. -/
def coastExpiry (p : LinePort) (s : State) : State :=
  let t := s.tracker p
  match t.fit with
  | none => s
  | some f =>
    if t.state = 3 ∧ f.crossing (t.coastFrom + s.getF F.TB_MAINSCFG_COAST) ≤ s.ns then s.unlock p else s

/-- COAST_EXPIRY (R95). -/
def execCoastExpiry (p : LinePort) (s : State) : Result := .next (coastExpiry p s)

/-- LOCKING_TIMEOUT (R95): no crossing accepted within 2/45 s of the latest. -/
def lockingTimeout (p : LinePort) (s : State) : State :=
  let t := s.tracker p
  match t.crossings with
  | (_, a) :: _ => if t.state = 1 ∧ a * 45 + 2000000000 ≤ s.ns * 45 then s.unlock p else s
  | [] => s

/-- LOCKING_TIMEOUT (R95). -/
def execLockingTimeout (p : LinePort) (s : State) : Result := .next (lockingTimeout p s)

end Sys2Proof.Machine
end

