-- ==== Sys2Proof/Machine/PlcTx.lean ====
section
/-! DEFINITION. Transmission and medium access on a band channel (R162, R163, R172 to R187): item reads, launches, attempts,
acknowledgements, band C, beacons and grants. -/
namespace Sys2Proof.Machine
open Sys2Proof

/-! ## PLC_FRAME (R163) -/

/-- The modem engine reads the entry's item, if it is there, and begins to secure it (R163, R263). -/
def State.plcRead (s : State) (e : LqEntry) : State :=
  match s.txTake e with
  | (s1, bad) => match s1.lqAt e.entry with
    | none => s
    | some e1 => match e1.item with
      | none => s
      | some it => if bad then s1.txFail e1 lpINVALID_ITEM else if itValid it then s1.secureEntry e.entry else s1

/-- PLC_ITEM_READ (R163): from 100 µs before the launch on. -/
def plcItemRead (i : EntryId) (s : State) : State :=
  match s.lqAt i with
  | none => s
  | some e =>
    if leType e.words ≠ leTypePLC_FRAME ∨ e.item.isSome ∨ e.due.isSome ∨ s.ns + 100000 < s.lqNs e then s
    else s.plcRead e

/-- PLC_ITEM_READ (R163). -/
def execPlcItemRead (e : EntryId) (s : State) : Result := .next (plcItemRead e s)

/-- The first status that stops a launch (R18, R60, R77, R99, R163, R182); none where it is sent. -/
def State.plcStop? (s : State) (e : LqEntry) : Option Nat :=
  let p := e.port
  let b := e.band
  if !s.mayTransmit then some stMODE_SILENT
  else if !s.domOn (domOfLine p) then some stDOMAIN_DOWN
  else if s.lqNoMains e then some stNO_MAINS
  else if s.modemDown p then some stUNIT_FAULT
  else if !s.bandLive p b then some lpBAND_OFF
  else if (s.txPorts p).any (fun x => (s.pchan x.1 b).tx.isSome) || (s.pchan p b).tx.isSome then some lpBAND_BUSY
  else match e.item with
    | none => some lpMISSED_LAUNCH
    | some it =>
      let n := frameSyms (itMode it) (itLen it) (s.nCar p b)
      if !itValid it then some lpINVALID_ITEM
      else if 4096 < n then some lpFRAME_TOO_LONG
      else if b = 2 ∧ 1470 < n then some lpBANDC_TOO_LONG
      else if e.secured.isNone || !e.ready then some lpMISSED_LAUNCH
      else none

/-- The kind of transmission an entry makes. -/
def LqEntry.plcKind (e : LqEntry) : PlcTxKind :=
  match e.inserter with
  | .access h _ => .attempt h
  | _ => .host e

/-- A launched frame starts (R163, R174). -/
def State.plcLaunch (s : State) (e : LqEntry) (it : List Word) (psdu : List Byte) : State :=
  let p := e.port
  let b := e.band
  let s1 := (s.lqRemove e.entry).plcStart p b (s.lqNs e) e.plcKind e psdu (itMode it) (itFt it) (psduAckReq (itFt it) psdu)
  match e.inserter with
  | .access h _ => match (s1.pchan h b).attempt with
    | some a => (s1.setPchan h b { s1.pchan h b with attempt := some { a with launched := true } }).bump (F.PL_ACCCNT_WON h b)
    | none => s1
  | _ => s1

/-- PLC_FRAME (R163): a launched power-line frame. -/
def plcFrame (i : EntryId) (s : State) : State :=
  match s.lqAt i with
  | none => s
  | some e0 =>
    if leType e0.words ≠ leTypePLC_FRAME ∨ !s.lqReady e0 then s
    else
      let s1 := if e0.item.isNone && e0.ready then s.plcRead e0 else s
      match s1.lqAt i with
      | none => s1
      | some e => match s1.plcStop? e with
        | some st => s1.txFail e st
        | none => match e.item, e.secured with
          | some it, some b => (s1.plcLaunch e it b).endOfTick
          | _, _ => s1.txFail e lpMISSED_LAUNCH

/-- PLC_FRAME (R163). -/
def execPlcFrame (e : EntryId) (s : State) : Result := .next (plcFrame e s)

/-- The station that sent a frame with ACKREQ holds the reservation (R177). -/
def State.sentReserve (s : State) (p b : Nat) (t : PlcSending) : State :=
  if t.ackReq then s.setPchan p b { s.pchan p b with reservedTo := max (s.pchan p b).reservedTo (s.reserveEnd p b t.mode t.end_) }
  else s

/-- The frame of an attempt of port `h` has been sent on port `p` (R174, R177, R179): the wait for its ACK, or the item's release. -/
def State.attemptSent (s : State) (h p b : Nat) (t : PlcSending) : State :=
  match (s.pchan h b).attempt with
  | none => s
  | some a =>
    if t.ackReq && b != 2 then
      let a' : PlcAttempt := { a with
        waiting := true, deadline := t.end_ + 680000 + 680000 * s.ackSyms p b t.mode + 150000,
        seq := psduSeq t.psdu, dst := psduDst t.psdu }
      (s.setPchan h b { s.pchan h b with attempt := some a' }).sentReserve h b t
    else s.releaseAttempt h b a.queue

/-- PLC_TX_DONE (R163, R174): the frame's last sample has left. -/
def plcTxDone (p : LinePort) (b : Band) (s : State) : State :=
  match (s.pchan p b.num).tx with
  | none => s
  | some t =>
    if s.ns < t.end_ then s
    else
      let s1 := (((s.plcStop p b.num t.end_).bump (F.PL_TXCNT_SENT p b.num)).twinSettle).sentReserve p b.num t
      match t.kind with
      | .host e => (s1.qRelease (leQueue e.words)).launchReport e lpOK
      | .attempt h => s1.attemptSent h p b.num t
      | _ => s1

/-- PLC_TX_DONE (R174). -/
def execPlcTxDone (p : LinePort) (b : Band) (s : State) : Result := .next (plcTxDone p b s)

/-! ## Contention (R172 to R176, R180, R183) -/

/-- The band channel's queues are served again once transmission is permitted, its domain ON and the band live (R174). -/
def State.unblock (s : State) (p b : Nat) : State :=
  if s.mayTransmit && s.domOn (domOfLine p) && s.bandLive p b then s.setPchan p b { s.pchan p b with blocked := false } else s

/-- Duration of the frame at the read pointer of a queue, with its ACK reservation (R177, R183). -/
def State.offerNs (s : State) (p b q : Nat) : Nat :=
  match s.qFront q with
  | none => 0
  | some it =>
    let d := symsDur (frameSyms (itMode it) (itLen it) (s.nCar p b))
    if psduAckReq (itFt it) (itPsdu it) && b != 2 then d + 680000 + symsDur (s.ackSyms p b (itMode it)) else d

/-- The launch-queue entry of an attempt on port `p` (R172, R158): at `t`, with ANGLE where the band channel launches at one. -/
def State.attemptEntry (s : State) (p b q t : Nat) : List Word :=
  let w := entryWords leTypePLC_FRAME 0 p t (q + b * 2 ^ 16)
  if s.flag (F.PL_BANDCFG_ANGLE_EN p b) then
    [wordAt w 0 + BitVec.ofNat 32 (2 ^ 16 + p), wordAt w 1, wordAt w 2,
     BitVec.ofNat 32 (s.getF (F.PL_BANDCFG_ANGLE p b) * 2 ^ 16)] ++ w.drop 4
  else w

/-- When an attempt with launch time `t` starts (R99, R158): at ANGLE where the band channel launches at one. -/
def State.attemptStart (s : State) (p b t : Nat) : Nat :=
  match s.flag (F.PL_BANDCFG_ANGLE_EN p b), (s.tracker p).fit with
  | true, some f => f.reach16 (t * 65536) (s.getF (F.PL_BANDCFG_ANGLE p b)) / 65536
  | _, _ => t

/-- A launch of the offered frame at `t` (R174, R176): the attempt, its entry, the item read. -/
def State.startAttempt (s : State) (p b k q t : Nat) : State :=
  let s1 := s.beginAttempt p b k q
  match s1.lqInsert (s1.attemptEntry (s.offerPort p q) b q t) (.access p b) with
  | (s2, st, h) =>
    if st ≠ stOK then s2.rewindAttempt p b q
    else match s2.lqAt (h % 2048) with
      | some e => s2.plcRead e
      | none => s2

/-- The item at R of a queue is pending for a launch at `t` (R172): complete 100 µs before. -/
def State.pendingFor (s : State) (q t : Nat) : Bool :=
  match s.qItemAt q (s.qR q) with
  | some n => s.qCompleteBy q n (t - 100000)
  | none => false

/-! ### Rounds and slots (R180, R181, R183) -/

/-- Slots of window `c`, slots of the windows below it, and slots of a round (R180). -/
def State.winSlots (s : State) (p c : Nat) : Nat := (s.accWord p 1).field (4 * c + 3) (4 * c) + 1
def State.winStart (s : State) (p c : Nat) : Nat := ((List.range c).map (s.winSlots p)).sum
def State.roundSlots (s : State) (p : Nat) : Nat := s.winStart p 4

/-- The contention gap in ns (R180). -/
abbrev contentionGap : Nat := 1360000
/-- A slot in ns. -/
abbrev slotLen : Nat := 680000

/-- The fit of the mains grid where slots lie on it (R181): under priority windows with MSYNC, not in fallback, on a tracker that gives an
angle. -/
def State.mainsGrid (s : State) (p : Nat) : Option Fit :=
  if s.accMsync p && s.accDisc p == 0 && !s.flag (F.PL_ACCSTAT_FALLBACK p) then (s.tracker p).fit else none

/-- The tick at which the tracker reaches an angle in the cycle of number `c`, in ns. -/
def Fit.angleAt (f : Fit) (angle : Nat) (c : Int) : Nat := f.at16 (c * 65536 + angle) / 65536

/-- Slot `k` of the mains grid counted from the first grid slot at or after `t` (R181). -/
def Fit.gridSlot (f : Fit) (angle t k : Nat) : Nat :=
  let j := f.period / slotLen
  let c : Int := (f.phase16 (t * 65536) - angle) / 65536
  let i := ceilDiv (t - f.angleAt angle c) slotLen
  let from_ : Int × Nat := if j ≤ i then (c + 1, 0) else (c, i)
  f.angleAt angle (from_.1 + (from_.2 + k) / j) + (from_.2 + k) % j * slotLen

/-- The start of slot `k` of the contention that follows idle start `i`, in ns, slots of all rounds counted on (R180, R181, R183); none under
the beacon discipline before the first superframe. -/
def State.slotStart (s : State) (p b i k : Nat) : Option Nat :=
  if s.beaconDisc p then
    (s.pchan p b).superframe.map fun sf =>
      sf + (ceilDiv (max i (s.pchan p b).beaconEnd + contentionGap - sf) slotLen + k) * slotLen
  else match s.mainsGrid p with
    | some f => some (f.gridSlot (s.getF (F.PL_BANDCFG_ANGLE p b)) (i + contentionGap) k)
    | none => some (i + contentionGap + k * slotLen)

/-- The launch keeps out of the contention-free period (R183): its end, with any ACK reservation, is at or before slot CFP_START. -/
def State.beforeCfp (s : State) (p b q t : Nat) : Bool :=
  match s.beaconDisc p, (s.pchan p b).superframe with
  | true, some sf =>
    let o := s.offerPort p q
    decide (s.attemptStart o b t + s.offerNs o b q ≤ sf + (s.accWord p 2).field 29 12 * slotLen)
  | _, _ => true

/-- CONTENTION_DECISION (R176): 2 µs before the slot that the band channel has drawn in its window of a round (R180); `spectra` are the
search transforms of the last while, newest first. -/
def contentionDecision (p : LinePort) (b : Band) (round draw : Nat) (spectra : List Spectrum) (s : State) : State :=
  let c := b.num
  let s1 := s.unblock p c
  match s1.offered p c with
  | none => s1
  | some (k, q) =>
    let i := s1.idleStart p c spectra
    let n := round * s1.roundSlots p + s1.winStart p k
    match s1.slotStart p c i n, s1.slotStart p c i (n + draw) with
    | some w, some t =>
      if c = 2 ∨ !s1.lineActive p ∨ s1.plc.resuming.contains p.val ∨ s1.winSlots p k ≤ draw ∨ !s1.pendingFor q w ∨
         s1.ns + 2000 < t ∨ t + 2 ≤ s1.ns + 2000 then s1
      else if loudNow (s1.accWord p (3 + c)).toNat spectra || s1.bandBusy p c || !s1.beforeCfp p c q t then
        s1.bump (F.PL_ACCCNT_DEFER p c)
      else s1.startAttempt p c k q t
    | _, _ => s1

/-- CONTENTION_DECISION (R176). -/
def execContentionDecision (p : LinePort) (b : Band) (d : SlotDraw) (s : State) : Result :=
  .next (contentionDecision p b d.round d.draw d.spectra s)

/-! ## Acknowledgement (R178, R179) -/

/-- The port an ACK leaves on: the receiving one, or the group's own port where it combines (R159, R178). -/
def State.ackPort (s : State) (p : Nat) : Nat := if s.combines (p / 3) then s.ownPort p else p

/-- What stops a transmission of the device's own, an ACK or a beacon, at its launch (R60, R77, R163, R379). -/
def State.ownStop (s : State) (p b : Nat) : Bool :=
  !s.mayTransmit || !s.domOn (domOfLine p) || s.modemDown p || !s.bandLive p b || (s.txPorts p).any (fun x => s.isSending x.1 b)

/-- PLC_ACK_SEND (R178): 680 µs after the end of a frame verified in time; one that is stopped counts REFUSED (R163). -/
def plcAckSend (p : LinePort) (b : Band) (s : State) : State :=
  let c := s.pchan p b.num
  match c.ack with
  | none => s
  | some a =>
    if s.ns < a.at_ then s
    else
      let s1 := s.setPchan p b.num { c with ack := none }
      let q := s.ackPort p
      if !a.ready then s1
      else if s.ownStop q b.num then s1.bump (F.PL_TXCNT_REFUSED q b.num)
      else
        let psdu := bytesLE 4 a.dst ++ [BitVec.ofNat 8 a.seq, BitVec.ofNat 8 (boolNat a.busy)]
        let e : LqEntry := { entry := 2048, gen := 0, words := [], inserter := .ack q b.num, seq := 0 }
        let s2 := s1.plcStart q b.num a.at_ .ack e psdu a.mode 1 false
        if a.busy then s2.bump (F.PL_ACKCNT_BUSYSENT p b.num) else s2.bump (F.PL_ACKCNT_ACKSENT p b.num)

/-- PLC_ACK_SEND (R178). -/
def execPlcAckSend (p : LinePort) (b : Band) (s : State) : Result := .next (plcAckSend p b s)

/-- PLC_ACK_RX (R179): an ACK PSDU arrives on the band channel. -/
def execPlcAckRx (p : LinePort) (b : Band) (psdu : List Byte) (s : State) : Result := .next (s.plcAckIn p b.num psdu)

/-- PLC_ACK_EXPIRY (R174, R179). -/
def plcAckExpiry (p : LinePort) (b : Band) (s : State) : State :=
  match (s.pchan p b.num).attempt with
  | some a => if a.waiting && s.expired a.deadline then s.ackMissed p b.num a else s
  | none => s

/-- PLC_ACK_EXPIRY (R179). -/
def execPlcAckExpiry (p : LinePort) (b : Band) (s : State) : Result := .next (plcAckExpiry p b s)

/-! ## Band C (R182) -/

/-- Band C's busy state after search transforms, oldest first: the run of loud ones, whether it is busy, and when it last turned idle
(R182). Twelve loud ones in succession make it busy, the first below the threshold idle. -/
structure BandcSense where
  run : Nat := 0
  busy : Bool := false
  since : Nat := 0
  deriving DecidableEq, Repr

def bandcStep (thr : Nat) (x : Spectrum) (a : BandcSense) : BandcSense :=
  if x.level ≤ thr then { a with run := a.run + 1, busy := a.busy || decide (12 ≤ a.run + 1) }
  else { run := 0, busy := false, since := if a.busy then x.at_ else a.since }

/-- Of transforms newest first. -/
def bandcSense (thr : Nat) (spectra : List Spectrum) : BandcSense := spectra.foldr (bandcStep thr) {}

/-- BANDC_ACCESS (R182): the access time of 85 + 2 `draw` ms since the band turned idle has run out. -/
def bandcAccess (p : LinePort) (draw : Fin 16) (spectra : List Spectrum) (s : State) : State :=
  let s1 := s.unblock p 2
  let t := s1.ns + 2000
  let x := bandcSense (s1.getF (F.PL_BCTHR_BUSYTHR p)) spectra
  let soon : Bool := match (s1.pchan p 2).lastEnd with
    | some e => decide (t < e + 125000000)
    | none => false
  match s1.offered p 2 with
  | none => s1
  | some (k, q) =>
    if soon ∨ s1.isSending p 2 ∨ !s1.lineActive p ∨ s1.plc.resuming.contains p.val ∨ !s1.pendingFor q t then s1
    else if x.busy then s1.bump (F.PL_ACCCNT_DEFER p 2)
    else if t < x.since + (85 + 2 * draw.val) * 1000000 then s1
    else s1.startAttempt p 2 k q t

/-- BANDC_ACCESS (R182). -/
def execBandcAccess (p : LinePort) (d : BandcDraw) (s : State) : Result := .next (bandcAccess p d.draw d.spectra s)

/-! ## Beacons and grants (R183 to R186) -/

/-- Mains cycles in a superframe. -/
def State.superCycles (s : State) (p : Nat) : Nat := (s.accWord p 2).field 11 0 + 1

/-- The DT in ns at which the superframe after the one in progress starts (R183): the tick at which the tracker reaches ANGLE in its
first cycle; without one in progress, the latest such tick. -/
def State.nextSuper (s : State) (p b : Nat) (f : Fit) : Nat :=
  let a := s.getF (F.PL_BANDCFG_ANGLE p b)
  match (s.pchan p b).superframe with
  | some sf => f.reach16 ((sf + s.superCycles p * f.period - f.period / 2) * 65536) a / 65536
  | none => f.angleAt a ((f.phase16 s.now16 - a) / 65536)

/-- A superframe starts at ANGLE now (R183, R186): after the P cycles of the one before, or in the tick that reaches it first. -/
def State.superDue (s : State) (p b : Nat) (t : Nat) : Bool :=
  decide (t ≤ s.ns) && ((s.pchan p b).superframe.isSome || decide (s.ns < t + 2))

/-- The grants of a band channel in force: those of the structure from the next superframe start on (R187). -/
def State.grants (s : State) (p b : Nat) : List (Nat × Nat × Nat) :=
  match afind s.plc.grants (4 * p + b) with
  | some l => l
  | none => s.grantWords p b

/-- The beacon PSDU (R185). -/
def State.beaconPsdu (s : State) (p b bsn : Nat) : List Byte :=
  let g := s.grants p b
  bytesLE 4 s.ownAddr ++ bytesLE 4 bsn ++ bytesLE 2 (s.superCycles p - 1) ++ bytesLE 2 (s.getF (F.PL_BANDCFG_ANGLE p b)) ++
    bytesLE 3 ((s.accWord p 2).field 29 12) ++ [BitVec.ofNat 8 g.length] ++ bytesLE 4 ((s.accWord p 1).field 15 0) ++
    g.flatMap fun x => bytesLE 4 x.1 ++ bytesLE 4 (x.2.1 + x.2.2 * 2 ^ 18)

/-- The port falls back to priority windows (R186). -/
def State.fallback (s : State) (p : Nat) : State := (s.setF (F.PL_ACCSTAT_FALLBACK p) 1).notice ncACCESS_FALLBACK p []

/-- A superframe starts at `t` without a beacon (R163, R184, R186): the outcome counts REFUSED, and every grant lapses. -/
def State.silentSuper (s : State) (p b t : Nat) : State :=
  (s.setPchan p b { s.pchan p b with superframe := some t, beaconEnd := t, beaconSent := false }).bump (F.PL_TXCNT_REFUSED p b)

/-- BEACON_LAUNCH (R183 to R186): a superframe starts with its beacon, or the port falls back for want of mains. -/
def beaconLaunch (p : LinePort) (b : Band) (s : State) : State :=
  let c := b.num
  if c = 2 ∨ !s.beaconDisc p ∨ !s.lineActive p ∨ !s.bandLive p c ∨ s.plc.resuming.contains p.val then s
  else match (s.tracker p).fit with
    | none => (s.bump (F.PL_TXCNT_REFUSED p c)).fallback p
    | some f =>
      let t := s.nextSuper p c f
      if !s.superDue p c t then s
      else
        let s : State := { s with plc := { s.plc with grants := adel s.plc.grants (4 * p + c) } }
        if s.ownStop p c then s.silentSuper p c t
        else
          let bsn := (s.getF (F.PL_BSN_BSN p c) + 1) % 2 ^ 32
          let psdu := s.beaconPsdu p c bsn
          let mode := s.getF (F.PL_BANDCFG_DEFMODE p c)
          let e : LqEntry := { entry := 2048, gen := 0, words := [], inserter := .beacon p c, seq := 0 }
          let s1 := (s.plcStart p c t .beacon e psdu mode 2 false).setF (F.PL_BSN_BSN p c) bsn
          let s2 := s1.setPchan p c { s1.pchan p c with
            superframe := some t, beaconEnd := t + symsDur (frameSyms mode psdu.length (s.nCar p c)), beaconSent := true }
          s2.mirror (.beacon p b (BitVec.ofNat 32 bsn))

/-- BEACON_LAUNCH (R183). -/
def execBeaconLaunch (p : LinePort) (b : Band) (s : State) : Result := .next (beaconLaunch p b s)

/-- The end of the usable part of a grant, in ns after the superframe start (R184). -/
def usableEnd (start len superNs : Nat) : Nat := min (start + len) ((superNs - 680000) / 680000) * 680000

/-- GRANT_LAUNCH (R184): within a grant of the device, in a superframe whose beacon was sent, the next frame that ends in its usable
part; one that does not counts DEFER (R193). -/
def grantLaunch (p : LinePort) (b : Band) (s : State) : State :=
  let c := b.num
  let s1 := s.unblock p c
  match (s1.tracker p).fit, s1.offered p c, (s1.pchan p c).superframe with
  | some f, some (k, q), some sf =>
    let o := s1.offerPort p q
    let next := s1.nextSuper p c f
    let t := s1.attemptStart o c (s1.ns + 2000)
    let mine := (s1.grants p c).filter fun g => s1.toMe g.1 && decide (sf + g.2.1 * slotLen ≤ s1.ns + 2000) &&
      decide (s1.ns + 2000 < sf + (g.2.1 + g.2.2) * slotLen)
    let fits := mine.any fun g => decide (t + s1.offerNs o c q ≤ sf + usableEnd g.2.1 g.2.2 (next - sf))
    if c = 2 ∨ !s1.beaconDisc p ∨ !s1.lineActive p ∨ !(s1.pchan p c).beaconSent ∨ mine.isEmpty ∨ s1.isSending o c ∨
       s1.plc.resuming.contains p.val ∨ !s1.pendingFor q (s1.ns + 2000) then s1
    else if fits then s1.startAttempt p c k q (s1.ns + 2000)
    else s1.bump (F.PL_ACCCNT_DEFER p c)
  | _, _, _ => s1

/-- GRANT_LAUNCH (R184). -/
def execGrantLaunch (p : LinePort) (b : Band) (s : State) : Result := .next (grantLaunch p b s)

/-- At a mains cycle boundary amended access settings take effect (R187): rounds end, the boundary is the idle start, and a change to the
beacon discipline starts superframe 0 at the next ANGLE. -/
def State.accessTakes (s : State) (p : Nat) : State :=
  match afind s.plc.access p with
  | none => s
  | some _ =>
    let was := s.accDisc p
    let s1 : State := { s with plc := { s.plc with access := adel s.plc.access p } }
    (List.range 4).foldl (fun a b => a.setPchan p b { a.pchan p b with
      idleMin := s.ns,
      superframe := if was ≠ 1 ∧ s1.accDisc p = 1 then none else (a.pchan p b).superframe }) s1

/-- Fallback ends on a LOCKED tracker (R186): a new superframe starts at the next ANGLE. -/
def State.fallbackEnds (s : State) (p : Nat) : State :=
  if s.flag (F.PL_ACCSTAT_FALLBACK p) && (s.tracker p).state == 2 then
    (List.range 4).foldl (fun a b => a.setPchan p b { a.pchan p b with superframe := none }) (s.setF (F.PL_ACCSTAT_FALLBACK p) 0)
  else s

/-- MAINS_CYCLE_BOUNDARY (R93, R186, R187), once the angle has wrapped to zero: amended access settings take effect, fallback ends, and
access controllers resume after a takeover (R70). -/
def mainsCycleBoundary (p : LinePort) (s : State) : State :=
  let k := s.tracker p
  let z := (k.fit.map fun f => f.cycle s.now16).getD k.boundary
  if z ≤ k.boundary then s
  else
    let s1 := ((s.setTracker p { k with boundary := z }).accessTakes p).fallbackEnds p
    { s1 with plc := { s1.plc with resuming := s1.plc.resuming.filter (· != p.val) } }

/-- MAINS_CYCLE_BOUNDARY (R187). -/
def execMainsCycleBoundary (p : LinePort) (s : State) : Result := .next (mainsCycleBoundary p s)

end Sys2Proof.Machine
end

