-- ==== Sys2Proof/Machine/Queues.lean ====
section
/-! DEFINITION. Queue events (chapter 11): the stale and open limits, items of hardware producers, the scrubbers, bank copies. -/
namespace Sys2Proof.Machine
open Sys2Proof

/-- The stale deadline that is due for evaluation (R290): one that passed before the latest read, or the current one, never
before 2 µs after a write of STALE. -/
def State.staleDue (s : State) (q : Nat) : Bool :=
  s.struct_.live && !s.flag (F.QM_QSTAT_STALE q) && (match (s.qst q).late, s.qStaleAt q with
    | some d, _ => s.expired (max d (s.qst q).staleSet)
    | none, some d => s.expired (max d (s.qst q).staleSet)
    | none, none => false)

/-- QUEUE_STALE (R290): STALE and one notice with the queue, the unread words and Tr. -/
def queueStale (q : QueueId) (s : State) : State :=
  if s.staleDue q then
    let s1 := (s.setQst q { s.qst q with late := none }).setF (F.QM_QSTAT_STALE q) 1
    s1.notice ncQUEUE_STALE q [(16, q), (32, s.qUnread q), (64, (s.qst q).tr)]
  else s

/-- QUEUE_STALE (R290). -/
def execQueueStale (q : QueueId) (s : State) : Result := .next (queueStale q s)

/-- QUEUE_OPEN_EXPIRED (R287): a host item open beyond QM_OPENLIM is discarded and its producer orphaned. -/
def queueOpenExpired (q : QueueId) (s : State) : State :=
  match (s.qst q).open_ with
  | none => s
  | some o =>
    if s.getF F.QM_OPENLIM_LIMIT ≠ 0 ∧ o.producer.isHost ∧ s.expired (o.since + s.getF F.QM_OPENLIM_LIMIT * 100000) then
      (s.qExpireOpen q).notice ncQUEUE_OPEN_EXPIRED q [(16, q), (32, o.producer.field), (32, o.written)]
    else s

/-- QUEUE_OPEN_EXPIRED (R287). -/
def execQueueOpenExpired (q : QueueId) (s : State) : Result := .next (queueOpenExpired q s)

/-- HW_ITEM_WRITE (R286). -/
def execHwItemWrite (q : QueueId) (u : HwUnit) (body : List Word) (s : State) : Result :=
  .next (s.qHwItem q (.hw u.block u.index) (itemOf body)).1

/-! ## Scrubbers (R276, R277) -/

/-- The logical word at offset `o` of physical bank `b`; none of a bank that serves no logical bank. -/
def State.wordOfBank (s : State) (b o : Nat) : Option Nat :=
  if s.role kQBANK b = roleLIVE then some (65536 * s.getF (mapLogical kQBANK b) + o) else none

/-- A corrected error (R276). -/
def State.corrected (s : State) (b : Nat) (w : Option Nat) : State :=
  let s1 := s.bump (F.QM_BANKSTAT_CORR b)
  match w.bind s.qOfWord with
  | some q => s1.bump (F.QM_QCFG_CORR q)
  | none => s1

/-- Where the poison of a word is kept: logical words under their number, words of other banks above them. -/
def poisonKey (b o : Nat) (w : Option Nat) : Nat := w.getD (4194304 + 65536 * b + o)

/-- A double-bit error found (R277): counted, flagged, recorded and reported once. The logical word of a word in a bank that
serves none is a free value. -/
def State.poisoned (s : State) (b o : Nat) (w : Option Nat) : State :=
  let k := poisonKey b o w
  if s.queues.poison.contains k then s
  else
    let s0 := if w.isNone then s.freshWord.2 else s
    let lw := w.getD s.freshWord.1.toNat
    let q := w.bind s.qOfWord
    let s1 := ({ s0 with queues := { s0.queues with poison := k :: s0.queues.poison } } : State).bump (F.QM_BANKSTAT_UNCORR b)
    let s2 := match q with
      | some n => s1.setF (F.QM_QSTAT_UNCORR n) 1
      | none => s1
    ((s2.report 1 kQBANK b lw).1).notice ncQUEUE_ECC (q.getD 0xFFFF) [(8, b), (32, lw), (16, q.getD 0xFFFF)]

/-- The scrubber of a bank has read a word: the next one falls due 256 ticks later, and a pass may end. -/
def State.scrubNext (s : State) (b o : Nat) : State :=
  let done := if o + 1 < 65536 then s.queues.scrubbed
    else if s.queues.scrubbed.contains b then s.queues.scrubbed else b :: s.queues.scrubbed
  let whole := decide (done.length = 68)
  let s1 := { s with queues := { s.queues with
    scrubAt := aset s.queues.scrubAt b ((o + 1) % 65536),
    scrubDue := aset s.queues.scrubDue b (s.tick + 256),
    scrubbed := if whole then [] else done } }
  if whole then s1.bump F.QM_SCRUB_PASSES else s1

/-- SCRUB_READ (R276). -/
def scrubRead (b : PhysBank) (u : Upset) (s : State) : State :=
  if s.tick < aget 0 s.queues.scrubDue b then s
  else
    let o := aget 0 s.queues.scrubAt b
    let w := s.wordOfBank b o
    let s1 := match u with
      | .none => s
      | .single => s.corrected b w
      | .double => s.poisoned b o w
    s1.scrubNext b o

/-- SCRUB_READ (R276). -/
def execScrubRead (b : PhysBank) (u : Upset) (s : State) : Result := .next (scrubRead b u s)

/-! ## Bank copies (R278, R380) -/

/-- The copy of queue bank `n`, or, from 64 on, of endpoint bank n - 64. -/
def BankCopy.isOf (c : BankCopy) (n : Nat) : Bool :=
  (c.kind == kQBANK && c.bank == n) || (c.kind == kEPBANK && c.bank + 64 == n)

/-- BANK_COPY_DONE (R278): the 65,536 words, one per core tick, are copied. -/
def bankCopyDone (n : Nat) (s : State) : State :=
  let l := s.queues.copies.map fun c => if c.isOf n && decide (c.started + 65536 ≤ s.tick) then { c with ended := true } else c
  { s with queues := { s.queues with copies := l } }

/-- BANK_COPY_DONE (R278). -/
def execBankCopyDone (n : Nat) (s : State) : Result := .next (bankCopyDone n s)

end Sys2Proof.Machine
end

