-- ==== Sys2Proof/Machine/Dispatch.lean ====
section
/-! DEFINITION. One arm per command or event of the opcode table, each one direct call of its meaning. -/
namespace Sys2Proof.Machine
open Sys2Proof

def exec (i : Instr) (s : State) : Host.Outcome State Fault Refusal :=
  match i with
  | .nop c payload => Sys2Proof.Machine.execNop c payload s
  | .read c addr count => Sys2Proof.Machine.execRead c addr count s
  | .write c addr data => Sys2Proof.Machine.execWrite c addr data s
  | .readBlock c addr host len => Sys2Proof.Machine.execReadBlock c addr host len s
  | .writeBlock c addr host len ans => Sys2Proof.Machine.execWriteBlock c addr host len ans s
  | .enqueue c addr start data => Sys2Proof.Machine.execEnqueue c addr start data s
  | .launch c entry => Sys2Proof.Machine.execLaunch c entry s
  | .launchCancel c entry handle => Sys2Proof.Machine.execLaunchCancel c entry handle s
  | .routeInsert c words => Sys2Proof.Machine.execRouteInsert c words s
  | .routeRemove c entry => Sys2Proof.Machine.execRouteRemove c entry s
  | .keyLoad c request => Sys2Proof.Machine.execKeyLoad c request s
  | .cipher c request => Sys2Proof.Machine.execCipher c request s
  | .loadImage c host len => Sys2Proof.Machine.execLoadImage c host len s
  | .fullReset c => Sys2Proof.Machine.execFullReset c s
  | .txnOpen c payload => Sys2Proof.Machine.execTxnOpen c payload s
  | .txnAdd c payload => Sys2Proof.Machine.execTxnAdd c payload s
  | .txnCommit c payload => Sys2Proof.Machine.execTxnCommit c payload s
  | .txnAbort c payload => Sys2Proof.Machine.execTxnAbort c payload s
  | .txnStatus c payload => Sys2Proof.Machine.execTxnStatus c payload s
  | .memberReset c payload => Sys2Proof.Machine.execMemberReset c payload s
  | .remoteRead c addr payload => Sys2Proof.Machine.execRemoteRead c addr payload s
  | .remoteWrite c addr payload => Sys2Proof.Machine.execRemoteWrite c addr payload s
  | .handover c payload => Sys2Proof.Machine.execHandover c payload s
  | .ledgerRead c block => Sys2Proof.Machine.execLedgerRead c block s
  | .ledgerWrite c block data => Sys2Proof.Machine.execLedgerWrite c block data s
  | .faultClose c value => Sys2Proof.Machine.execFaultClose c value s
  | .reqRun c lineLow => Sys2Proof.Machine.execReqRun c lineLow s
  | .reqQuiet c => Sys2Proof.Machine.execReqQuiet c s
  | .reqShadow c => Sys2Proof.Machine.execReqShadow c s
  | .reqDrain c => Sys2Proof.Machine.execReqDrain c s
  | .faultAck c => Sys2Proof.Machine.execFaultAck c s
  | .optagHwClear c => Sys2Proof.Machine.execOptagHwClear c s
  | .poolHwClear c => Sys2Proof.Machine.execPoolHwClear c s
  | .abortinfoClear c value => Sys2Proof.Machine.execAbortinfoClear c value s
  | .counterClear c addr value => Sys2Proof.Machine.execCounterClear c addr value s
  | .w1cClear src addr mask racing => Sys2Proof.Machine.execW1cClear src addr mask racing s
  | .registerWrite src addr value => Sys2Proof.Machine.execRegisterWrite src addr value s
  | .fuseArm c => Sys2Proof.Machine.execFuseArm c s
  | .fuseBlow c => Sys2Proof.Machine.execFuseBlow c s
  | .fuseProgramDone => Sys2Proof.Machine.execFuseProgramDone s
  | .stepSet c => Sys2Proof.Machine.execStepSet c s
  | .stepAccept c => Sys2Proof.Machine.execStepAccept c s
  | .qctlAdvance c q count => Sys2Proof.Machine.execQctlAdvance c q count s
  | .qctlRelease c q => Sys2Proof.Machine.execQctlRelease c q s
  | .qctlMark c q => Sys2Proof.Machine.execQctlMark c q s
  | .qctlRewind c q => Sys2Proof.Machine.execQctlRewind c q s
  | .qctlFlush c q => Sys2Proof.Machine.execQctlFlush c q s
  | .qctlClrcnt c q => Sys2Proof.Machine.execQctlClrcnt c q s
  | .qcfgStaleWrite c q value => Sys2Proof.Machine.execQcfgStaleWrite c q value s
  | .laneRun c lane run => Sys2Proof.Machine.execLaneRun c lane run s
  | .lpgainWrite c port value => Sys2Proof.Machine.execLpgainWrite c port value s
  | .ringEnable src ring value => Sys2Proof.Machine.execRingEnable src ring value s
  | .epStateActive c ep value => Sys2Proof.Machine.execEpStateActive c ep value s
  | .epStateFree c ep value => Sys2Proof.Machine.execEpStateFree c ep value s
  | .nowLoRead req addr wide => Sys2Proof.Machine.execNowLoRead req addr wide s
  | .rsShadowRead req addr => Sys2Proof.Machine.execRsShadowRead req addr s
  | .hlCdb ses count => Sys2Proof.Machine.execHlCdb ses count s
  | .hlNdb count => Sys2Proof.Machine.execHlNdb count s
  | .hlDdb r count => Sys2Proof.Machine.execHlDdb r count s
  | .suppliesUp => Sys2Proof.Machine.execSuppliesUp s
  | .supplyLoss => Sys2Proof.Machine.execSupplyLoss s
  | .resetPin others => Sys2Proof.Machine.execResetPin others s
  | .coldToLoad bootSrc benchMasterN => Sys2Proof.Machine.execColdToLoad bootSrc benchMasterN s
  | .imageReadDone image => Sys2Proof.Machine.execImageReadDone image s
  | .loadAttemptFailed why => Sys2Proof.Machine.execLoadAttemptFailed why s
  | .loadTimeout => Sys2Proof.Machine.execLoadTimeout s
  | .selfTestDone failed => Sys2Proof.Machine.execSelfTestDone failed s
  | .defaultedTestDone failed => Sys2Proof.Machine.execDefaultedTestDone failed s
  | .defTxStart => Sys2Proof.Machine.execDefTxStart s
  | .acquireComplete => Sys2Proof.Machine.execAcquireComplete s
  | .twinTakeover => Sys2Proof.Machine.execTwinTakeover s
  | .twinRecheck low => Sys2Proof.Machine.execTwinRecheck low s
  | .twinLinkLost => Sys2Proof.Machine.execTwinLinkLost s
  | .twinSend group => Sys2Proof.Machine.execTwinSend group s
  | .twinMessage group records => Sys2Proof.Machine.execTwinMessage group records s
  | .domainDrained d => Sys2Proof.Machine.execDomainDrained d s
  | .drainLimitExpiry d => Sys2Proof.Machine.execDrainLimitExpiry d s
  | .domainOff d => Sys2Proof.Machine.execDomainOff d s
  | .domainOn d => Sys2Proof.Machine.execDomainOn d s
  | .unitWedged u => Sys2Proof.Machine.execUnitWedged u s
  | .autospareSubst u => Sys2Proof.Machine.execAutospareSubst u s
  | .watchdogReset others => Sys2Proof.Machine.execWatchdogReset others s
  | .resetDirective graceful hostLoad from_ tag => Sys2Proof.Machine.execResetDirective graceful hostLoad from_ tag s
  | .ppsEdge input rising => Sys2Proof.Machine.execPpsEdge input rising s
  | .todSentence input chars => Sys2Proof.Machine.execTodSentence input chars s
  | .timeCell group cell => Sys2Proof.Machine.execTimeCell group cell s
  | .refLoss => Sys2Proof.Machine.execRefLoss s
  | .holdoverExpired => Sys2Proof.Machine.execHoldoverExpired s
  | .pps0Return => Sys2Proof.Machine.execPps0Return s
  | .mainsCrossing p back => Sys2Proof.Machine.execMainsCrossing p back s
  | .mainsCrossingMissed p => Sys2Proof.Machine.execMainsCrossingMissed p s
  | .coastExpiry p => Sys2Proof.Machine.execCoastExpiry p s
  | .lockingTimeout p => Sys2Proof.Machine.execLockingTimeout p s
  | .mainsCycleBoundary p => Sys2Proof.Machine.execMainsCycleBoundary p s
  | .launchStage e => Sys2Proof.Machine.execLaunchStage e s
  | .commit e => Sys2Proof.Machine.execCommit e s
  | .plcBand e => Sys2Proof.Machine.execPlcBand e s
  | .rfTune e => Sys2Proof.Machine.execRfTune e s
  | .gain e => Sys2Proof.Machine.execGain e s
  | .rfProfile e => Sys2Proof.Machine.execRfProfile e s
  | .plcFrame e => Sys2Proof.Machine.execPlcFrame e s
  | .rfTx e => Sys2Proof.Machine.execRfTx e s
  | .eventEdge e => Sys2Proof.Machine.execEventEdge e s
  | .marker e => Sys2Proof.Machine.execMarker e s
  | .eventCapture pin rising => Sys2Proof.Machine.execEventCapture pin rising s
  | .rfRxFrame n chars => Sys2Proof.Machine.execRfRxFrame n chars s
  | .rfFrameMissing n => Sys2Proof.Machine.execRfFrameMissing n s
  | .rfcTransaction k resp => Sys2Proof.Machine.execRfcTransaction k resp s
  | .laneParityError lane word => Sys2Proof.Machine.execLaneParityError lane word s
  | .captureItem p words => Sys2Proof.Machine.execCaptureItem p words s
  | .plcDetect p w => Sys2Proof.Machine.execPlcDetect p w s
  | .plcSyncm p b deep start => Sys2Proof.Machine.execPlcSyncm p b deep start s
  | .plcSyncTimeout p b => Sys2Proof.Machine.execPlcSyncTimeout p b s
  | .plcHeaderDecided p b header => Sys2Proof.Machine.execPlcHeaderDecided p b header s
  | .plcFrameDue p b rx => Sys2Proof.Machine.execPlcFrameDue p b rx s
  | .plcSuspendEnd p => Sys2Proof.Machine.execPlcSuspendEnd p s
  | .plcItemRead e => Sys2Proof.Machine.execPlcItemRead e s
  | .plcTxDone p b => Sys2Proof.Machine.execPlcTxDone p b s
  | .contentionDecision p b d => Sys2Proof.Machine.execContentionDecision p b d s
  | .plcAckSend p b => Sys2Proof.Machine.execPlcAckSend p b s
  | .plcAckRx p b psdu => Sys2Proof.Machine.execPlcAckRx p b psdu s
  | .plcAckExpiry p b => Sys2Proof.Machine.execPlcAckExpiry p b s
  | .bandcAccess p d => Sys2Proof.Machine.execBandcAccess p d s
  | .beaconLaunch p b => Sys2Proof.Machine.execBeaconLaunch p b s
  | .grantLaunch p b => Sys2Proof.Machine.execGrantLaunch p b s
  | .chirpDetect n ch sf bin start m => Sys2Proof.Machine.execChirpDetect n ch sf bin start m s
  | .demodGrant n ch sf => Sys2Proof.Machine.execDemodGrant n ch sf s
  | .syncDecided d v0 v1 delim syncT => Sys2Proof.Machine.execSyncDecided d v0 v1 delim syncT s
  | .firstBlockDecided d values => Sys2Proof.Machine.execFirstBlockDecided d values s
  | .chirpLost d why => Sys2Proof.Machine.execChirpLost d why s
  | .chirpFrameDue d rx => Sys2Proof.Machine.execChirpFrameDue d rx s
  | .rfTxItemRead e => Sys2Proof.Machine.execRfTxItemRead e s
  | .rfItemDeadline e => Sys2Proof.Machine.execRfItemDeadline e s
  | .dutyCheck e => Sys2Proof.Machine.execDutyCheck e s
  | .uprampStart e => Sys2Proof.Machine.execUprampStart e s
  | .rfTxEnd n => Sys2Proof.Machine.execRfTxEnd n s
  | .chirpSuspendEnd n => Sys2Proof.Machine.execChirpSuspendEnd n s
  | .frameVerified tag => Sys2Proof.Machine.execFrameVerified tag s
  | .frameSecured tag => Sys2Proof.Machine.execFrameSecured tag s
  | .supervisionExpiry ep => Sys2Proof.Machine.execSupervisionExpiry ep s
  | .provisionalExpiry ep => Sys2Proof.Machine.execProvisionalExpiry ep s
  | .slotPrepare link => Sys2Proof.Machine.execSlotPrepare link s
  | .slotStart => Sys2Proof.Machine.execSlotStart s
  | .schedTx link => Sys2Proof.Machine.execSchedTx link s
  | .schedAckSend n => Sys2Proof.Machine.execSchedAckSend n s
  | .rfAckExpiry n => Sys2Proof.Machine.execRfAckExpiry n s
  | .dlqServe k => Sys2Proof.Machine.execDlqServe k s
  | .mbxExpired ep => Sys2Proof.Machine.execMbxExpired ep s
  | .pollResponse ep => Sys2Proof.Machine.execPollResponse ep s
  | .dcSecond => Sys2Proof.Machine.execDcSecond s
  | .cipherDone tag agree spare => Sys2Proof.Machine.execCipherDone tag agree spare s
  | .rollWindowExpiry slot => Sys2Proof.Machine.execRollWindowExpiry slot s
  | .cardExchange k cmd => Sys2Proof.Machine.execCardExchange k cmd s
  | .cardActivate k => Sys2Proof.Machine.execCardActivate k s
  | .cardAtr k begin_ atr pps => Sys2Proof.Machine.execCardAtr k begin_ atr pps s
  | .cardCharacter k char parityOk => Sys2Proof.Machine.execCardCharacter k char parityOk s
  | .cardTimeout k => Sys2Proof.Machine.execCardTimeout k s
  | .cardExchangeEnd k => Sys2Proof.Machine.execCardExchangeEnd k s
  | .cardDeactivated k => Sys2Proof.Machine.execCardDeactivated k s
  | .queueStale q => Sys2Proof.Machine.execQueueStale q s
  | .queueOpenExpired q => Sys2Proof.Machine.execQueueOpenExpired q s
  | .hwItemWrite q unit body => Sys2Proof.Machine.execHwItemWrite q unit body s
  | .scrubRead bank upset => Sys2Proof.Machine.execScrubRead bank upset s
  | .bankCopyDone bank => Sys2Proof.Machine.execBankCopyDone bank s
  | .hostLinkLoss => Sys2Proof.Machine.execHostLinkLoss s
  | .hostLinkState speed width => Sys2Proof.Machine.execHostLinkState speed width s
  | .commandFetch ses ans => Sys2Proof.Machine.execCommandFetch ses ans s
  | .noticeWrite => Sys2Proof.Machine.execNoticeWrite s
  | .irqTimer => Sys2Proof.Machine.execIrqTimer s
  | .tokenRefill => Sys2Proof.Machine.execTokenRefill s
  | .spanExpiry span => Sys2Proof.Machine.execSpanExpiry span s
  | .descriptorFetch r ans => Sys2Proof.Machine.execDescriptorFetch r ans s
  | .dmaToQueue r ans => Sys2Proof.Machine.execDmaToQueue r ans s
  | .dmaFromQueue r => Sys2Proof.Machine.execDmaFromQueue r s
  | .dmaWriteResponse r => Sys2Proof.Machine.execDmaWriteResponse r s
  | .dmaTimeout r => Sys2Proof.Machine.execDmaTimeout r s
  | .lockGrant t action => Sys2Proof.Machine.execLockGrant t action s
  | .lockTimeout t action => Sys2Proof.Machine.execLockTimeout t action s
  | .woundRequest from_ tag t wounder => Sys2Proof.Machine.execWoundRequest from_ tag t wounder s
  | .benchAction from_ tag action => Sys2Proof.Machine.execBenchAction from_ tag action s
  | .prepare from_ tag handle commit => Sys2Proof.Machine.execPrepare from_ tag handle commit s
  | .vote from_ tag handle yes status index => Sys2Proof.Machine.execVote from_ tag handle yes status index s
  | .voteDeadline t => Sys2Proof.Machine.execVoteDeadline t s
  | .decision from_ tag handle commit => Sys2Proof.Machine.execDecision from_ tag handle commit s
  | .decisionDeadline t => Sys2Proof.Machine.execDecisionDeadline t s
  | .outcomeReport from_ tag handle status => Sys2Proof.Machine.execOutcomeReport from_ tag handle status s
  | .outcomeTimeout t => Sys2Proof.Machine.execOutcomeTimeout t s
  | .groupUp g neighbour => Sys2Proof.Machine.execGroupUp g neighbour s
  | .groupDown g lane why lost => Sys2Proof.Machine.execGroupDown g lane why lost s
  | .benchMessage g msg => Sys2Proof.Machine.execBenchMessage g msg s
  | .benchAck g tag status words => Sys2Proof.Machine.execBenchAck g tag status words s
  | .benchTimeout tag => Sys2Proof.Machine.execBenchTimeout tag s
  | .echoCell g cell => Sys2Proof.Machine.execEchoCell g cell s
  | .wtrExpiry link => Sys2Proof.Machine.execWtrExpiry link s
  | .perfSecond g => Sys2Proof.Machine.execPerfSecond g s
  | .leaseCredit k => Sys2Proof.Machine.execLeaseCredit k s
  | .leaseStart from_ stream port chan sf bw step gain time => Sys2Proof.Machine.execLeaseStart from_ stream port chan sf bw step gain time s
  | .sampleCell from_ stream first samples => Sys2Proof.Machine.execSampleCell from_ stream first samples s
  | .leaseEnd from_ stream status => Sys2Proof.Machine.execLeaseEnd from_ stream status s
  | .leaseIdleFree from_ stream => Sys2Proof.Machine.execLeaseIdleFree from_ stream s
  | .helloSend g => Sys2Proof.Machine.execHelloSend g s
  | .helloCell g cell => Sys2Proof.Machine.execHelloCell g cell s
  | .peerDown g => Sys2Proof.Machine.execPeerDown g s
  | .routeAdvertise g => Sys2Proof.Machine.execRouteAdvertise g s
  | .routeMessage g entries => Sys2Proof.Machine.execRouteMessage g entries s
  | .routeExpiry a => Sys2Proof.Machine.execRouteExpiry a s
  | .handoverIn tag src entry words => Sys2Proof.Machine.execHandoverIn tag src entry words s
  | .faultDetect code u detail => Sys2Proof.Machine.execFaultDetect code u detail s
  | .faultAutoclose index => Sys2Proof.Machine.execFaultAutoclose index s
  | .auditStep kind => Sys2Proof.Machine.execAuditStep kind s
  | .auditMismatch kind agrees => Sys2Proof.Machine.execAuditMismatch kind agrees s
  | .lifeCounterUpdate => Sys2Proof.Machine.execLifeCounterUpdate s
  | .ledgerProgrammed block ok => Sys2Proof.Machine.execLedgerProgrammed block ok s
  | .ledgerClaimTimeout block => Sys2Proof.Machine.execLedgerClaimTimeout block s
  | .ledgerDump cmd => Sys2Proof.Machine.execLedgerDump cmd s
  | .fieldState present => Sys2Proof.Machine.execFieldState present s
  | .inventory f => Sys2Proof.Machine.execInventory f s
  | .stayQuiet f => Sys2Proof.Machine.execStayQuiet f s
  | .readSingleBlock f block => Sys2Proof.Machine.execReadSingleBlock f block s
  | .writeSingleBlock f block data => Sys2Proof.Machine.execWriteSingleBlock f block data s
  | .readMultipleBlocks f first count => Sys2Proof.Machine.execReadMultipleBlocks f first count s
  | .select f => Sys2Proof.Machine.execSelect f s
  | .resetToReady f => Sys2Proof.Machine.execResetToReady f s
  | .getSystemInformation f => Sys2Proof.Machine.execGetSystemInformation f s
  | .extendedReadSingleBlock f block => Sys2Proof.Machine.execExtendedReadSingleBlock f block s
  | .extendedWriteSingleBlock f block data => Sys2Proof.Machine.execExtendedWriteSingleBlock f block data s
  | .extendedReadMultipleBlocks f first count => Sys2Proof.Machine.execExtendedReadMultipleBlocks f first count s
  | .extendedGetSystemInformation f => Sys2Proof.Machine.execExtendedGetSystemInformation f s
  | .unsupportedFieldCommand f code => Sys2Proof.Machine.execUnsupportedFieldCommand f code s
  | .noImage => Sys2Proof.Machine.execNoImage s
  | .busMasterEnable => Sys2Proof.Machine.execBusMasterEnable s
  | .atrFail k => Sys2Proof.Machine.execAtrFail k s
  | .cardErrorSignal k index => Sys2Proof.Machine.execCardErrorSignal k index s
  | .multiframe mfi => Sys2Proof.Machine.execMultiframe mfi s
  | .rdiRx g lane rdi linkmap errored badCells => Sys2Proof.Machine.execRdiRx g lane rdi linkmap errored badCells s

end Sys2Proof.Machine
end

