-- ==== Sys2Proof/Safety.lean ====
section
/-! DEFINITION. The words the statements use: a state whose memories are in canonical form, a command that runs, an event
that completes, and what a state leaves as another had it. -/
namespace Sys2Proof.Machine
open Sys2Proof

/-- The structure map and queue memory keep their canonical form. -/
def State.sound (s : State) : Bool := Memory.wf defaultWord s.map && Memory.wf (fun _ => (0 : Byte)) s.qmem

/-- The command runs: no FENCE holds it and no refusal precedes its own rules (R300, R302, R72). -/
abbrev State.runs (s : State) (c : Cmd) (op : Nat) : Prop := s.fenced c op = false ∧ s.gate c op = none

/-- A DMA read can be issued at once: none is held, it is not open, no bench request waits for a tag, and a tag is free (R22 to R24). -/
abbrev State.canRead (s : State) (k : DmaRead) : Prop :=
  s.host.heldDma = [] ∧ s.readTag k = none ∧ s.bench.heldReqs = [] ∧ s.tags.take tcDMA ≠ none

/-- The state once a DMA read has taken its tag and given it back: nothing but the tags' own record has changed. -/
def State.afterRead (s : State) : State :=
  match s.tags.take tcDMA with
  | some (g, ts) => { s with tags := ts.give g }
  | none => s

/-- Every word of the structure map outside the listed addresses is as it was. -/
def State.wordsKept (s t : State) (l : List Nat) : Prop := ∀ a, a ∉ l → t.word a = s.word a

/-- Every byte of queue memory outside the `n` bytes from `b` on is as it was. -/
def State.bytesKept (s t : State) (b n : Nat) : Prop := ∀ a, a < b ∨ b + n ≤ a → t.qbyte a = s.qbyte a

/-- The command of a session that an instruction is, with its opcode; a register-write row is the command WRITE. -/
def commandOf : Instr → Option (Cmd × Nat)
  | .nop c _ => some (c, opNOP)
  | .read c _ _ => some (c, opREAD)
  | .write c _ _ => some (c, opWRITE)
  | .readBlock c _ _ _ => some (c, opREAD_BLOCK)
  | .writeBlock c _ _ _ _ => some (c, opWRITE_BLOCK)
  | .enqueue c _ _ _ => some (c, opENQUEUE)
  | .launch c _ => some (c, opLAUNCH)
  | .launchCancel c _ _ => some (c, opLAUNCH_CANCEL)
  | .routeInsert c _ => some (c, opROUTE_INSERT)
  | .routeRemove c _ => some (c, opROUTE_REMOVE)
  | .keyLoad c _ => some (c, opKEY_LOAD)
  | .cipher c _ => some (c, opCIPHER)
  | .loadImage c _ _ => some (c, opLOAD_IMAGE)
  | .fullReset c => some (c, opFULL_RESET)
  | .txnOpen c _ => some (c, opTXN_OPEN)
  | .txnAdd c _ => some (c, opTXN_ADD)
  | .txnCommit c _ => some (c, opTXN_COMMIT)
  | .txnAbort c _ => some (c, opTXN_ABORT)
  | .txnStatus c _ => some (c, opTXN_STATUS)
  | .memberReset c _ => some (c, opMEMBER_RESET)
  | .remoteRead c _ _ => some (c, opREMOTE_READ)
  | .remoteWrite c _ _ => some (c, opREMOTE_WRITE)
  | .handover c _ => some (c, opHANDOVER)
  | .ledgerRead c _ => some (c, opLEDGER_READ)
  | .ledgerWrite c _ _ => some (c, opLEDGER_WRITE)
  | .faultClose c _ => some (c, opFAULT_CLOSE)
  | .reqRun c _ => some (c, opWRITE)
  | .reqQuiet c => some (c, opWRITE)
  | .reqShadow c => some (c, opWRITE)
  | .reqDrain c => some (c, opWRITE)
  | .faultAck c => some (c, opWRITE)
  | .optagHwClear c => some (c, opWRITE)
  | .poolHwClear c => some (c, opWRITE)
  | .abortinfoClear c _ => some (c, opWRITE)
  | .counterClear c _ _ => some (c, opWRITE)
  | .w1cClear (.cmd c) _ _ _ => some (c, opWRITE)
  | .registerWrite (.cmd c) _ _ => some (c, opWRITE)
  | .fuseArm c => some (c, opWRITE)
  | .fuseBlow c => some (c, opWRITE)
  | .stepSet c => some (c, opWRITE)
  | .stepAccept c => some (c, opWRITE)
  | .qctlAdvance c _ _ => some (c, opWRITE)
  | .qctlRelease c _ => some (c, opWRITE)
  | .qctlMark c _ => some (c, opWRITE)
  | .qctlRewind c _ => some (c, opWRITE)
  | .qctlFlush c _ => some (c, opWRITE)
  | .qctlClrcnt c _ => some (c, opWRITE)
  | .qcfgStaleWrite c _ _ => some (c, opWRITE)
  | .laneRun c _ _ => some (c, opWRITE)
  | .lpgainWrite c _ _ => some (c, opWRITE)
  | .ringEnable (.cmd c) _ _ => some (c, opWRITE)
  | .epStateActive c _ _ => some (c, opWRITE)
  | .epStateFree c _ _ => some (c, opWRITE)
  | _ => none

end Sys2Proof.Machine
end

