-- ==== Sys2Proof/Certificates/Slice0/Obligations.lean ====
section
/-! DEFINITION. The statements about the block, for the provers. -/
open Sys2Proof Sys2Proof.Machine

/-- For every command c and state s, a step of s with c at the front of its queue is exec of c on s with the queue's rest.
The queue itself is the model's own form of how commands and events come to the block (log entry 1).
(spec/12_host_link.md (R300); derived.) -/
def Obligations.StepRunsFrontCommand : Prop :=
  ∀ (c : Instr) (rest : List Instr) (s : State),
    step { s with pending := c :: rest } = exec c { s with pending := rest }

/-- With an empty queue, in any mode but OFF and with no reset owed, a step counts one core tick and moves device time on
by 625 * (10^12 + FREQOFS) units of 1/(384 * 10^12) ns (625/384 ns times 1 + FREQOFS * 10^-12) plus the phase that is
slewed out in the tick, which is all of what is left or MAXRATE ppm of the tick in its direction; with no takeover,
front-end write, launch entry, LINE_TXEN pin, outcome or ledger update waiting and no transmit frame due everything
else stays. With launch entries those alone change: an entry whose launch time has not come stays as it is, and one
without ANGLE whose time has come is marked due in this tick at its launch time. In OFF nothing changes. That a step
on an empty queue is the tick is the model's choice (log entry 2). (spec/04_timebase_launch.md (R81, R82, R88);
derived.) -/
def Obligations.EmptyQueueStepIsOneCoreTick : Prop :=
  ∀ s : State, s.pending = [] → s.mode.resetNext = none →
    (s.mode.mode = .OFF → step s = .next s) ∧
    (s.mode.mode ≠ .OFF → -(2 : Int) ^ 31 ≤ s.ref.freqOfs → s.ref.freqOfs < 2 ^ 31 →
      s.mode.takeoverAt = none → s.sample.accepted = [] → s.plc.txenLow = [] → s.txn.outcomes = [] → s.service.retries = [] →
      (s.tick + 1) % 1920 ≠ 0 → ∃ (t : State) (x : Int) (es : List LqEntry),
      step s = .next t ∧
      t = { s with tick := s.tick + 1, dt := t.dt, ref := t.ref, launch := { s.launch with entries := es } } ∧
      t.ref = { s.ref with slew := s.ref.slew - x } ∧ (s.launch.entries = [] → es = []) ∧
      (∀ e ∈ s.launch.entries, e.due = none →
        (t.now16 < leTime16 e.words → e ∈ es) ∧
        (leTime16 e.words ≤ t.now16 → leHasAngle e.words = false → ∃ z ∈ es, z.words = e.words ∧ z.entry = e.entry ∧
          z.due = some t.tick ∧ z.dueAt = some (leTime16 e.words))) ∧
      (t.dt : Int) = s.dt + 625 * (10 ^ 12 + s.ref.freqOfs) + x ∧
      (x = s.ref.slew ∨ (x = 625000000 * s.getF F.TB_SLEWCFG_MAXRATE ∧ x < s.ref.slew) ∨
        (x = -625000000 * s.getF F.TB_SLEWCFG_MAXRATE ∧ s.ref.slew < x)))

/-- After reset the mode is COLD, device time is zero and not valid, no structure is live, the fuse is not blown by the
reset itself, no command is taken, no notice waits, the launch queue, the transactions, the fault log and the cipher
queue are empty, every domain reads ON, nothing is listed in either memory, so every register word reads its reset or
factory value and every byte of queue memory zero. The state right after reset has the structure map and queue memory
in their canonical form. The form is the model's own (log entry 3). (spec/03_modes_power_reset.md (R59, R73),
spec/04_timebase_launch.md (R83), spec/11_queues.md (R275), spec/16_structure_map.md (R394), spec/00_scope.md;
derived.) -/
def Obligations.ResetStateAsSpecified : Prop :=
  (State.reset.mode.mode = .COLD ∧ State.reset.ns = 0 ∧ State.reset.ref.timeValid = false ∧
  State.reset.struct_.live = false ∧ State.reset.fuse.blown = false ∧ State.reset.host.taken = [] ∧
  State.reset.notices.buffer = [] ∧ State.reset.launch.entries = [] ∧ State.reset.txn.slots = [] ∧
  State.reset.faults.log = [] ∧ State.reset.cipher.reqs = [] ∧ State.reset.pending = [] ∧
  (∀ d, State.reset.domain d = 2) ∧ (∀ a, State.reset.word a = defaultWord a) ∧ (∀ a, State.reset.qbyte a = 0)) ∧
  (State.reset.sound = true)

/-- For every state whose structure map and queue memory are in canonical form (addresses strictly rising, no cell equal
to what an unlisted address reads as), a step that answers a next state keeps them so. So equal memories are equal
data, and a read never depends on a stale cell. The form is the model's own (log entry 3). (spec/11_queues.md (R275),
spec/16_structure_map.md (R394); derived.) -/
def Obligations.StepKeepsMemoriesCanonical : Prop :=
  ∀ s t : State, s.sound = true → step s = .next t → t.sound = true

/-- For every command or event i and state s, if exec of i answers a next state t, then the queue of waiting commands in t
is that of s: every effect is on the block, none on what the outside world has sent (log entry 1).
(spec/12_host_link.md (R300); derived.) -/
def Obligations.ExecLeavesTheQueue : Prop :=
  ∀ (i : Instr) (s t : State), exec i s = .next t → t.pending = s.pending

/-- For every state in which the fuse is blown, a step that answers a next state leaves it blown: no command, no reset, no
loss of supply undoes it (R53, R73). (spec/02_bitas_image.md (R53), spec/03_modes_power_reset.md (R73),
spec/17_electrical.md (R409); derived.) -/
def Obligations.BlownFuseStaysBlown : Prop :=
  ∀ s t : State, s.fuse.blown = true → step s = .next t → t.fuse.blown = true

/-- Of every command a session can give: one that a FENCE holds does nothing yet. Of the others, on a bench member every
one but NOP, READ and READ_BLOCK completes READ_ONLY; else in DRAIN every one but those and FULL_RESET completes
MODE_REFUSED; else KEY_LOAD, LOAD_IMAGE, FULL_RESET and LEDGER_WRITE from a session other than 0 whose PRIV is clear
complete NOT_PRIVILEGED. A refused command does nothing else. (spec/03_modes_power_reset.md (R72),
spec/12_host_link.md (R300, R302); derived.) -/
def Obligations.CommandsRefusedBeforeTheirRules : Prop :=
  ∀ (i : Instr) (c : Cmd) (op : Nat) (s : State), commandOf i = some (c, op) →
    (s.fenced c op = true → exec i s = .next s) ∧
    (s.fenced c op = false → op ∉ [opNOP, opREAD, opREAD_BLOCK] →
      (s.benchRole = roleMEMBER → exec i s = .next (s.complete c op stREAD_ONLY)) ∧
      (s.benchRole ≠ roleMEMBER → s.mode.mode = .DRAIN → op ≠ opFULL_RESET →
        exec i s = .next (s.complete c op stMODE_REFUSED)) ∧
      (s.benchRole ≠ roleMEMBER → s.mode.mode ≠ .DRAIN → op ∈ [opKEY_LOAD, opLOAD_IMAGE, opFULL_RESET, opLEDGER_WRITE] →
        c.session.val ≠ 0 → s.getF (F.HL_SESS2_PRIV c.session) = 0 →
        exec i s = .next (s.complete c op stNOT_PRIVILEGED)))

/-- A NOP that runs completes OK with payload words 2 to 11 as result words, and does nothing else. With the link down the
completion is discarded and counted, and the command slot is free. With QUIET set nothing is written and the slot is
free. Else the completion notice waits behind every notice handed over before it, code COMPLETION, coalesced count 1,
UNIT the session, payload word 0 the tag, session and opcode, word 1 the status, then the result words; the slot is
held and marked completed. A READ that runs of 1 to 8 words from a word-aligned address inside one address range
completes with the words as they read in the state it finds, OK, or QUEUE_ECC where a poisoned word of queue memory is
among them. A count of 0 or above 8 completes INVALID_VALUE, an address with bits [1:0] not zero or a range that
leaves the map BAD_ADDRESS. A READ changes nothing but its own command slot and the notices. (spec/11_queues.md
(R277), spec/12_host_link.md (R296, R300, R303, R304, R305, R306, R307); derived.) -/
def Obligations.NopAndReadComplete : Prop :=
  (∀ (c : Cmd) (payload : List Word) (s : State), s.runs c opNOP →
    (s.linkUp = false → exec (.nop c payload) s = .next { s with host := { s.host with
        taken := s.host.taken.eraseP (·.isOf c opNOP), discardedSince := s.host.discardedSince + 1 } }) ∧
    (s.linkUp = true → c.quiet = true → exec (.nop c payload) s = .next { s with host := { s.host with
        taken := s.host.taken.eraseP (·.isOf c opNOP) } }) ∧
    (s.linkUp = true → c.quiet = false → ∃ n : Notice,
      exec (.nop c payload) s = .next { s with
        host := { s.host with taken := changeFirst (·.isOf c opNOP) (fun t => { t with done := true }) s.host.taken }
        notices := { s.notices with buffer := s.notices.buffer ++ [n] } } ∧
      n.code = 0x01 ∧ n.count = 1 ∧ n.unit = c.session.val ∧ n.time = s.ns ∧ n.member = s.memberNo ∧
      n.payload = (32, c.tag.toNat + c.session.val * 2 ^ 16) :: (32, 0) :: (payload.take 10).map (fun w => (32, w.toNat)))) ∧
  (∀ (c : Cmd) (a n : Nat) (s : State), s.runs c opREAD →
    (n = 0 ∨ 8 < n → exec (.read c a n) s = .next (s.complete c opREAD stINVALID_VALUE)) ∧
    (1 ≤ n → n ≤ 8 → inMap a n = false → exec (.read c a n) s = .next (s.complete c opREAD stBAD_ADDRESS)) ∧
    (1 ≤ n → n ≤ 8 → inMap a n = true →
      exec (.read c a n) s = .next (s.complete c opREAD (if s.readPoisoned a n then stQUEUE_ECC else stOK)
        ((List.range n).map fun i => s.readWord (a + 4 * i)))) ∧
    (∃ t, exec (.read c a n) s = .next t ∧ t = { s with host := t.host, notices := t.notices } ∧
      t.host = { s.host with taken := t.host.taken, discardedSince := t.host.discardedSince }))

/-- MD_STATE.MODE reads the mode and PREV_MODE the previous one; MD_OPTAG.IN_FLIGHT the operation tags in use; TB_NOW the
whole nanoseconds of device time and its 16-bit fraction; TB_FREQOFS the frequency correction; TB_LQSTAT.PENDING the
launch-queue entries; HL_NSTAT.BUFFERED the notices waiting, completions apart; HL_ENGSTAT.SLOTS the command slots
held; TN_STAT.OPEN the transactions that are not FREE; CX_QSTAT.PENDING the cipher requests; a word of queue memory
its four bytes, least significant first, or zero where it is poisoned. (spec/01_architecture.md (R25),
spec/03_modes_power_reset.md (R59, R80), spec/04_timebase_launch.md (R81, R111), spec/12_host_link.md (R321),
spec/13_transactions.md (R341), spec/15_faults_service.md (R393); derived.) -/
def Obligations.LiveWordsOfTheMap : Prop :=
  ∀ (s : State) (w : Nat),
    (s.readWord F.MD_STATE).field 3 0 = s.mode.mode.num ∧
    (s.mode.prev < 12 → (s.readWord F.MD_STATE).field 7 4 = s.mode.prev) ∧
    (s.tags.inUse.length ≤ 8192 → (s.readWord F.MD_OPTAG).field 13 0 = s.tags.inUse.length) ∧
    s.readWord F.TB_NOW_LO = BitVec.ofNat 32 s.ns ∧ s.readWord F.TB_NOW_HI = BitVec.ofNat 32 (s.ns / 2 ^ 32) ∧
    s.readWord F.TB_NOW_FRAC = BitVec.ofNat 32 s.frac ∧ s.frac < 65536 ∧
    s.readWord F.TB_FREQOFS = BitVec.ofInt 32 s.ref.freqOfs ∧
    (s.launch.entries.length ≤ 2048 → (s.readWord F.TB_LQSTAT).field 11 0 = s.launch.entries.length) ∧
    (s.notices.count ≤ 512 → (s.readWord F.HL_NSTAT).field 25 16 = s.notices.count) ∧
    (s.host.taken.length ≤ 256 → (s.readWord F.HL_ENGSTAT).field 16 8 = s.host.taken.length) ∧
    (s.txn.slots.length ≤ 512 → (s.readWord F.TN_STAT).field 9 0 = s.txn.slots.length) ∧
    (w < 4194304 → s.queues.poison.contains w = true → s.readWord (0x10000000 + 4 * w) = 0) ∧
    (w < 4194304 → s.queues.poison.contains w = false → s.readWord (0x10000000 + 4 * w) = BitVec.ofNat 32
      ((s.qbyte (4 * w)).toNat + 256 * (s.qbyte (4 * w + 1)).toNat + 65536 * (s.qbyte (4 * w + 2)).toNat +
        16777216 * (s.qbyte (4 * w + 3)).toNat))

/-- A WRITE that runs of 1 to 13 words inside one address range: where any word is refused it completes with the first
refusal and changes nothing else; else every word is written in ascending address and it completes with the first
status other than OK. No word or a range that leaves the map completes INVALID_VALUE or BAD_ADDRESS. A REGISTER_WRITE,
COUNTER_CLEAR or W1C_CLEAR of a session is the WRITE of its one word, and a W1C_CLEAR reaches only the W1C bits the
device does not set in the same tick. REGISTER_WRITE by a session of a word that is not refused and whose register has
no effect of its own stores the word as the access kinds of its fields say and completes OK; a word with an ST field
is also reported once, counted in CF_STREFUSED and with one STRUCT_WRITE_REFUSED of the address, the value and the
session. COUNTER_CLEAR is the same write, and W1C_CLEAR that of the W1C bits of its mask but for those the device sets
in the same tick, as of OVERRUN in QM_QSTAT, whose other fields it leaves. Nothing else changes. Through BAR0, out of
DRAIN, the write of a mirrored word does the same with source 0x10 and without a completion. (spec/00_scope.md (R7,
R8, R9, R11), spec/02_bitas_image.md (R34), spec/12_host_link.md (R305, R306); derived.) -/
def Obligations.RegisterWritesRefusedOrStored : Prop :=
  (∀ (c : Cmd) (a : Nat) (ws : List Word) (v mask racing : Word) (s : State), s.runs c opWRITE →
    (1 ≤ ws.length → ws.length ≤ 13 → inMap a ws.length = true →
      (∀ st, s.wordsRefused (s.privileged c.session) a ws = some st →
        exec (.write c a ws) s = .next (s.complete c opWRITE st)) ∧
      (s.wordsRefused (s.privileged c.session) a ws = none →
        exec (.write c a ws) s = .next ((s.writeWords c.session a ws).1.complete c opWRITE (s.writeWords c.session a ws).2))) ∧
    (ws = [] ∨ 13 < ws.length → exec (.write c a ws) s = .next (s.complete c opWRITE stINVALID_VALUE)) ∧
    (1 ≤ ws.length → ws.length ≤ 13 → inMap a ws.length = false →
      exec (.write c a ws) s = .next (s.complete c opWRITE stBAD_ADDRESS)) ∧
    exec (.registerWrite (.cmd c) a v) s = exec (.write c a [v]) s ∧
    exec (.counterClear c a v) s = exec (.write c a [v]) s ∧
    exec (.w1cClear (.cmd c) a mask racing) s = exec (.write c a [mask &&& w1cBits a &&& ~~~racing]) s) ∧
  (∀ (c : Cmd) (a : Nat) (v mask racing : Word) (q : QueueId) (h k : RegHit) (s t : State), regAt a = some h →
    h.rd.reg ∉ [.MD_STATE, .MD_MODECTL, .MD_OPTAG, .MD_ABORTINFO, .CF_KEYSTAGE, .CF_FUSECTL, .TB_STEPCTL, .SC_LPGAIN, .SC_LPCAP,
      .SC_LANECTL, .PL_BLANK, .PL_PORTSTAT, .CH_POOLSTAT, .QM_QCFG, .QM_QCTL, .HL_SESS2, .HL_NRING2, .HL_DRING2, .QMEM, .EP0] →
    t = s.setWord a (h.rd.written (s.word a) v) →
    (s.runs c opWRITE → inMap a 1 = true → s.wordRefused (s.privileged c.session) a v = none →
      (h.rd.structural = false →
        exec (.registerWrite (.cmd c) a v) s = .next (t.complete c opWRITE stOK) ∧
        exec (.counterClear c a v) s = .next (t.complete c opWRITE stOK) ∧
        (v = mask &&& w1cBits a &&& ~~~racing → exec (.w1cClear (.cmd c) a mask racing) s = .next (t.complete c opWRITE stOK))) ∧
      (h.rd.structural = true →
        exec (.registerWrite (.cmd c) a v) s = .next (((t.bump F.CF_STREFUSED_COUNT).notice
          ncSTRUCT_WRITE_REFUSED c.session [(32, a), (32, v.toNat), (8, c.session)] a).complete c opWRITE stOK))) ∧
    (∀ off, bar0Mirror off = some a → s.mode.mode ≠ .DRAIN → s.wordRefused true a v = none → h.rd.structural = false →
      exec (.registerWrite .bar0 off v) s = .next t) ∧
    (regAt (F.QM_QSTAT q) = some k → v = mask &&& w1cBits (F.QM_QSTAT q) &&& ~~~racing →
      (mask.bit 0 = true → racing.bit 0 = false → (k.rd.written (s.word a) v).bit 0 = false) ∧
      (mask.bit 0 = false ∨ racing.bit 0 = true → (k.rd.written (s.word a) v).bit 0 = (s.word a).bit 0) ∧
      (k.rd.written (s.word a) v).field 31 2 = (s.word a).field 31 2))

/-- For a write that runs: OPTAG_HW_CLEAR sets the operation tags' high-water mark to the number in use; POOL_HW_CLEAR
sets CH_POOLSTAT.HIGH_WATER to BUSY; ABORTINFO_CLEAR empties the list of aborted tags, clears OVERFLOW and raises
EPOCH by one modulo 2^16. Each completes OK and changes nothing else. For a write that runs of word 0 of an entry in a
canonical state: with STATE ACTIVE the entry is ACTIVE, its LASTRX is the device time of the write, and EVT_RX keeps
its value; with STATE FREE the entry is FREE and its mailbox is empty. The word's other fields that the host may write
are taken. Both complete OK. For a write that runs: QCFG_STALE_WRITE stores the stale limit and OVR_NOTE and marks the
tick of the write for the queue's stale deadline. LANE_RUN sets or clears RUN of the lane, and of a lane whose
SC_LANECFG.PORT names no port it does nothing else. LPGAIN_WRITE takes both fields; a new attenuation is set from the
first LINE cycle after the write, and a new receive gain marks INV the output samples of the first 6 us (rounded up)
stamped from that cycle on; nothing else changes. Each completes OK. For a write that runs: STEP_SET, while TIME_VALID
is zero or in STANDBY or ACQUIRE, ends every pending launched action with TIME_STEPPED, sets DT to the 64-bit
TB_SETTIME with a zero fraction, sets TIME_VALID, drops the phase still to be slewed out, moves the stamps that
running intervals are measured from by the step (log entry 141), writes one TIME_STEPPED with the old DT, the new DT
and the number of actions removed, and completes OK; with TIME_VALID set in any other mode it completes STEP_REFUSED
and steps nothing. STEP_ACCEPT of a rejected reference clears REJECTED and has the reference taken; else it changes
nothing. (spec/01_architecture.md (R25), spec/03_modes_power_reset.md (R79, R80), spec/04_timebase_launch.md (R83,
R84, R88, R111), spec/05_sample_chain.md (R117, R118, R124, R139), spec/08_chirp_phy.md (R219), spec/09_radio_mac.md
(R224, R225, R226), spec/11_queues.md (R290, R293); derived.) -/
def Obligations.WritesWithEffectsAndSteppedTime : Prop :=
  ((∀ (c : Cmd) (v : Word) (s : State), s.runs c opWRITE →
    exec (.optagHwClear c) s = .next (({ s with tags := { s.tags with highWater := s.tags.inUse.length } } : State).complete c opWRITE stOK) ∧
    exec (.poolHwClear c) s =
      .next ((s.setF F.CH_POOLSTAT_HIGH_WATER (s.getF F.CH_POOLSTAT_BUSY)).complete c opWRITE stOK) ∧
    exec (.abortinfoClear c v) s = .next (({ s with domains := { s.domains with
      abortList := [], overflow := false, epoch := (s.domains.epoch + 1) % 65536 } } : State).complete c opWRITE stOK)) ∧
  (∀ (c : Cmd) (e : EndpointId) (v : Word) (s : State), s.runs c opWRITE → s.sound = true → s.ns < 2 ^ 64 →
    v.field 18 12 ≤ 95 → v.field 23 21 ≤ 4 →
    (∃ t : State, exec (.epStateActive c e v) s = .next (t.complete c opWRITE stOK) ∧ t.getF (F.EP0_STATE e) = 2 ∧ t.lastRx e = s.ns ∧
      t.word (F.EP4 e) = s.word (F.EP4 e) ∧ t.getF (F.EP0_PORT e) = v.field (F.EP0_PORT e).hi (F.EP0_PORT e).lo ∧
      s.wordsKept t [F.EP0 e, F.EP8 e, F.EP9 e, F.MC_EPSTAT] ∧ t = { s with map := t.map, radio := t.radio } ∧
      t.radio.mbx = s.radio.mbx) ∧
    (∃ t : State, exec (.epStateFree c e v) s = .next (t.complete c opWRITE stOK) ∧ t.getF (F.EP0_STATE e) = 0 ∧
      (∀ m ∈ t.radio.mbx, m ∈ s.radio.mbx ∧ m.ep ≠ e.val) ∧ t = { s with map := t.map, radio := t.radio })) ∧
  (∀ (c : Cmd) (q : QueueId) (l : Lane) (p : LinePort) (v : Word) (s : State), s.runs c opWRITE →
    (exec (.qcfgStaleWrite c q v) s =
      .next (((s.setWord (F.QM_QCFG q) (((s.word (F.QM_QCFG q)).setField 15 0 (v.field 15 0)).setField 16 16 (v.field 16 16))).setQst q
        { s.qst q with staleSet := s.ns }).complete c opWRITE stOK)) ∧
    (96 ≤ s.getF (F.SC_LANECFG_PORT l) →
      exec (.laneRun c l false) s = .next ((s.setF (F.SC_LANECTL_RUN l) 0).complete c opWRITE stOK) ∧
      exec (.laneRun c l true) s = .next ((s.setF (F.SC_LANECTL_RUN l) 1).complete c opWRITE stOK)) ∧
    (∀ run : Bool, s.sound = true → ∃ t : State, exec (.laneRun c l run) s = .next (t.complete c opWRITE stOK) ∧
      t.getF (F.SC_LANECTL_RUN l) = boolNat run ∧
      t = { s with map := t.map, sample := t.sample, plc := t.plc, out := t.out }) ∧
    (s.sound = true → ∃ t : State, exec (.lpgainWrite c p v) s = .next (t.complete c opWRITE stOK) ∧
      t = { s with map := t.map, sample := t.sample, out := t.out } ∧
      s.wordsKept t [F.SC_LPGAIN p] ∧ t.getF (F.SC_LPGAIN_RXGAIN p) = v.field 3 0 ∧ t.getF (F.SC_LPGAIN_TXATT p) = v.field 12 8 ∧
      (s.getF (F.SC_LPGAIN_TXATT p) = v.field 12 8 → t.out = s.out) ∧
      (s.getF (F.SC_LPGAIN_TXATT p) ≠ v.field 12 8 → t.out = s.out ++ [.lineAtt p (v.field 12 8) (lineAfter s.now16)]) ∧
      (s.getF (F.SC_LPGAIN_RXGAIN p) = v.field 3 0 → t.sample = s.sample) ∧
      (s.getF (F.SC_LPGAIN_RXGAIN p) ≠ v.field 3 0 → t.sample = { s.sample with ports := t.sample.ports } ∧
        (∀ k, k ≠ p.val → t.stream k = s.stream k) ∧ (t.stream p) = { s.stream p with inv := (t.stream p).inv } ∧
        (∀ n : Nat, lineAfter s.now16 ≤ n * s.period16 p → n * s.period16 p < lineAfter s.now16 + gainInv (s.preset p) * s.period16 p →
          t.invAt p (n * s.period16 p) = true))))) ∧
  (∀ (c : Cmd) (s : State), s.runs c opWRITE →
    (s.ref.timeValid = false ∨ s.mode.mode = .STANDBY ∨ s.mode.mode = .ACQUIRE → ∃ (e d : State) (n : Nat),
      n = (s.word F.TB_SETTIME_LO).toNat + (s.word F.TB_SETTIME_HI).toNat * 2 ^ 32 ∧
      e = (s.endEntries s.launch.entries stTIME_STEPPED).shiftStamps ((n : Int) - s.ns) ∧
      d = (({ e with dt := n * dtUnit, ref := { e.ref with timeValid := true, slew := 0 } } : State).notice ncTIME_STEPPED 0 [(64, s.ns), (64, n), (16, s.launch.entries.length)]) ∧
      exec (.stepSet c) s = .next (({ d with ref := { d.ref with wasSet := true } } : State).complete c opWRITE stOK) ∧
      d.ns = n ∧ d.frac = 0) ∧
    (s.ref.timeValid = true → s.mode.mode ≠ .STANDBY → s.mode.mode ≠ .ACQUIRE →
      exec (.stepSet c) s = .next (s.complete c opWRITE stSTEP_REFUSED)) ∧
    (s.ref.rejected = true → exec (.stepAccept c) s = .next (({ s with ref := { s.ref with
      rejected := false, accepting := true, bad := 0 } } : State).complete c opWRITE stOK)) ∧
    (s.ref.rejected = false → exec (.stepAccept c) s = .next (s.complete c opWRITE stOK)))

/-- One occurrence of a notice now: one that is never merged, or of a key no waiting notice and no open span has, waits at
the end of the buffer, or, where 512 notices wait already, is lost and counted in HL_NSTAT.LOST. One whose key a
waiting notice has raises that notice's count by one (to at most 65,535) and sets its LAST_DELTA; no other notice
changes. The first occurrence of a key opens a gathering span unless 64 are open. It writes nothing but the notice
path, HL_NSTAT and FT_AGGSTAT. (spec/01_architecture.md (R21), spec/12_host_link.md (R301, R310),
spec/15_faults_service.md (R383, R384); derived.) -/
def Obligations.NoticesWaitMergeOrAreLost : Prop :=
  ∀ (code unit ext : Nat) (p : List (Nat × Nat)) (n : Notice) (s : State),
    n = { code := code, block := blockOfCode code unit, time := s.ns, unit := unit, member := s.memberNo, ext := ext, payload := p } →
    code ≠ ncCOMPLETION →
    (neverMerged code = true → s.notices.count < 512 →
      s.notice code unit p ext = { s with notices := { s.notices with buffer := s.notices.buffer ++ [n] } }) ∧
    (neverMerged code = true → 512 ≤ s.notices.count →
      s.notice code unit p ext =
        ({ s with notices := { s.notices with lostSince := s.notices.lostSince + 1 } } : State).bump F.HL_NSTAT_LOST) ∧
    (neverMerged code = false → s.notices.buffer.any (·.sameKey n) = true →
      s.notice code unit p ext = { s with notices := { s.notices with
        buffer := changeFirst (·.sameKey n) (fun w => { w with
          count := min 65535 (w.count + 1), lastDelta := min 0xFFFFFFFF (s.ns - w.time) }) s.notices.buffer } }) ∧
    (neverMerged code = false → s.notices.buffer.any (·.sameKey n) = false → s.notices.spans.find? (·.hasKey n) = none →
      s.notices.count < 512 → s.notices.spans.length < 64 →
      s.notice code unit p ext = { s with notices := { s.notices with
        buffer := s.notices.buffer ++ [n],
        spans := s.notices.spans ++ [{
          code := code, block := n.block, unit := unit, member := n.member, ext := ext, last := s.ns,
          gap := if code = ncEVENT_CAPTURED then 1000 else 1000000 }] } }) ∧
    (s.notice code unit p ext = { s with map := (s.notice code unit p ext).map, notices := (s.notice code unit p ext).notices }) ∧
    s.wordsKept (s.notice code unit p ext) [F.HL_NSTAT, F.FT_AGGSTAT]

/-- For a write that runs: FUSE_ARM sets ARMED. FUSE_BLOW in RUN or STANDBY, with CF_STATUS.SIGNED one, armed, no
programming in progress and the staged digest equal to that of the live structure's key, clears ARMED and starts
programming; else it sets REFUSED, clears ARMED and blows nothing. When programming ends the fuse is blown with the
staged digest. Nothing else changes. (spec/02_bitas_image.md (R53, R58); derived.) -/
def Obligations.FuseArmBlowAndProgram : Prop :=
  ∀ (c : Cmd) (s : State),
    (s.runs c opWRITE →
      exec (.fuseArm c) s = .next (({ s with fuse := { s.fuse with armed := true } } : State).complete c opWRITE stOK) ∧
      ((s.mode.mode = .RUN ∨ s.mode.mode = .STANDBY) ∧ s.getF F.CF_STATUS_SIGNED = 1 ∧ s.fuse.armed = true ∧ s.fuse.busy = false ∧
          ((List.range 12).flatMap fun i => bytesLE 4 (aget 0 s.fuse.stage i).toNat) = s.struct_.keyDigest →
        exec (.fuseBlow c) s = .next (({ s with fuse := { s.fuse with
          armed := false, busy := true, burning := s.struct_.keyDigest } } : State).complete c opWRITE stOK)) ∧
      ((s.mode.mode ≠ .RUN ∧ s.mode.mode ≠ .STANDBY) ∨ s.getF F.CF_STATUS_SIGNED = 0 ∨ s.fuse.armed = false ∨ s.fuse.busy = true ∨
          ((List.range 12).flatMap fun i => bytesLE 4 (aget 0 s.fuse.stage i).toNat) ≠ s.struct_.keyDigest →
        exec (.fuseBlow c) s = .next (({ s with fuse := { s.fuse with
          armed := false, refused := true } } : State).complete c opWRITE stOK))) ∧
    (s.fuse.busy = true → exec .fuseProgramDone s = .next { s with fuse := { s.fuse with
      busy := false, blown := true, digest := s.fuse.burning, burning := [] } })

/-- For a write that runs, on any queue: MARK sets M to R. RELEASE sets REL and M to R, and the twin is told. CLRCNT
clears ORPHANS and CORR. REWIND sets R to M. ADVANCE c, where the words from R to the end of the last complete item
are at least c and c is above 0, sets R to R + c modulo twice the queue size, stamps the read and clears STALE; where
they are fewer it completes QUEUE_UNDERRUN and changes nothing. All but that complete OK; none touches queue memory or
a word outside the queue's descriptor. For a FLUSH that runs of a queue that is no transaction's staging queue and
behind whose open item nothing waits: with no item open R, M and REL take the value of W and STALE clears; with an
item of a host producer open W first returns to the item's header, the item is discarded and its producer enters
orphan state. It completes OK; queue memory, OVERRUN, the counts and what is reserved stay. A flush of the staging
queue of a SCHEDULED or SEALED transaction completes QUEUE_BUSY and moves nothing. HL_CDB, HL_NDB and HL_DDB: on an
enabled ring whose content after the doorbell would not exceed the ring size the host's count is recorded modulo 2^16
and nothing else changes, but that a DMA ring that stood at an entry with OWN clear stands no longer. On a ring with
EN clear, or where the content would exceed the size, the count is not recorded: HL_SESSERR.COUNT rises, KIND and
INDEX name the ring (0 command, 1 notice, 2 DMA), and one SESSION_ERROR carries kind, index and count. A write that
runs of word 2 of a disabled session ring by session 0 or another session with PRIV, whose SIZE is legal and EN set:
where the ring and its write-back address lie in windows that permit them, SIZE and PRIV are taken, both counts start
at zero, EN is set and it completes OK; else it completes WINDOW_VIOLATION and EN stays zero. A write that clears EN
of an enabled ring clears it. The first enable of the notice ring after a full reset also writes the MODE_CHANGE owed,
with cause 0. (spec/03_modes_power_reset.md (R63), spec/11_queues.md (R282, R283, R288, R289, R290, R293),
spec/12_host_link.md (R299, R300, R301, R315, R318, R321), spec/13_transactions.md (R336); derived.) -/
def Obligations.QueueControlDoorbellsAndRings : Prop :=
  ((∀ (c : Cmd) (q : QueueId) (n : Nat) (s : State), s.runs c opWRITE →
    exec (.qctlMark c q) s = .next ((s.setF (F.QM_QMP_PTR q) (s.getF (F.QM_QRP_PTR q))).complete c opWRITE stOK) ∧
    (∃ r : List (Nat × Nat), (∀ x ∈ r, x ∈ s.plc.relayed) ∧
      exec (.qctlRelease c q) s = .next ((({ (s.setF (F.QM_QREL_PTR q) (s.getF (F.QM_QRP_PTR q))).setF (F.QM_QMP_PTR q)
        (s.getF (F.QM_QRP_PTR q)) with plc := { s.plc with relayed := r } } : State).mirror (.queueRelease q (s.qDiff q (s.qR q) (s.qRel q)))).complete c opWRITE stOK)) ∧
    exec (.qctlClrcnt c q) s =
      .next (((s.setF (F.QM_QSTAT_ORPHANS q) 0).setF (F.QM_QCFG_CORR q) 0).complete c opWRITE stOK) ∧
    (∃ t : State, exec (.qctlRewind c q) s = .next (t.complete c opWRITE stOK) ∧
      t = { s.setF (F.QM_QRP_PTR q) (s.getF (F.QM_QMP_PTR q)) with queues := t.queues } ∧ t.queues.poison = s.queues.poison ∧
      (∀ k, k ≠ q.val → t.qst k = s.qst k)) ∧
    (n < 2 ^ 19 → s.qAhead q < n → exec (.qctlAdvance c q n) s = .next (s.complete c opWRITE stQUEUE_UNDERRUN)) ∧
    (n < 2 ^ 19 → 0 < n → n ≤ s.qAhead q → ∃ x, exec (.qctlAdvance c q n) s =
      .next ((((s.setQst q { s.qst q with tr := s.ns, late := x }).setF (F.QM_QRP_PTR q)
        ((s.getF (F.QM_QRP_PTR q) + n) % 2 ^ (s.getF (F.QM_QPLACE_SIZE q) + 7))).setF (F.QM_QSTAT_STALE q) 0).complete c opWRITE stOK))) ∧
  (∀ (c : Cmd) (q : QueueId) (s : State), s.runs c opWRITE →
    (s.stageHolder q = none → (s.qst q).behind = [] → ∃ (t : State) (w : Nat),
      exec (.qctlFlush c q) s = .next (t.complete c opWRITE stOK) ∧
      t = { s with map := t.map, queues := t.queues, plc := { s.plc with relayed := t.plc.relayed } } ∧
      (w = match (s.qst q).open_ with | some o => o.header | none => s.getF (F.QM_QWP_PTR q)) ∧
      (s.sound = true → w < 2 ^ 19 → t.getF (F.QM_QWP_PTR q) = w ∧ t.getF (F.QM_QRP_PTR q) = w ∧ t.getF (F.QM_QMP_PTR q) = w ∧
        t.getF (F.QM_QREL_PTR q) = w ∧ t.getF (F.QM_QSTAT_STALE q) = 0 ∧
        t.getF (F.QM_QSTAT_OVERRUN q) = s.getF (F.QM_QSTAT_OVERRUN q) ∧ t.getF (F.QM_QSTAT_ORPHANS q) = s.getF (F.QM_QSTAT_ORPHANS q)) ∧
      s.wordsKept t [F.QM_QWP q, F.QM_QRP q, F.QM_QMP q, F.QM_QREL q, F.QM_QSTAT q] ∧
      (t.qst q).open_ = none ∧ (t.qst q).reserved = (s.qst q).reserved ∧ (∀ k, k ≠ q.val → t.qst k = s.qst k) ∧ t.queues.poison = s.queues.poison ∧
      (∀ o, (s.qst q).open_ = some o → o.producer.isHost = true → (o.producer, true) ∈ (t.qst q).orphans)) ∧
    (∀ t, s.stageHolder q = some t → t.phase = .scheduled ∨ t.phase = .sealed →
      exec (.qctlFlush c q) s = .next (s.complete c opWRITE stQUEUE_BUSY)))) ∧
  ((∀ (n : Session) (r : RingId) (count : Nat) (s : State),
    (s.getF (F.HL_SESS2_EN n) = 1 → (count % 65536 + 65536 - s.getF (F.HL_SESS5_CONS n)) % 65536 ≤ 16 * 2 ^ s.getF (F.HL_SESS2_SIZE n) →
      exec (.hlCdb n count) s = .next (s.setF (F.HL_SESS5_PROD n) (count % 65536))) ∧
    (s.getF F.HL_NRING2_EN = 1 → (s.getF F.HL_NRING5_PROD + 65536 - count % 65536) % 65536 ≤ 16 * 2 ^ s.getF F.HL_NRING2_SIZE →
      exec (.hlNdb count) s = .next (s.setF F.HL_NRING5_CONS (count % 65536))) ∧
    (s.getF (F.HL_DRING2_EN r) = 1 → (count % 65536 + 65536 - s.getF (F.HL_DRING3_CONS r)) % 65536 ≤ 16 * 2 ^ s.getF (F.HL_DRING2_SIZE r) →
      exec (.hlDdb r count) s = .next ((s.setF (F.HL_DRING3_PROD r) (count % 65536)).setDmaRing r
        { s.dmaRing r with stopped := false })) ∧
    (s.getF (F.HL_SESS2_EN n) = 0 ∨
        16 * 2 ^ s.getF (F.HL_SESS2_SIZE n) < (count % 65536 + 65536 - s.getF (F.HL_SESS5_CONS n)) % 65536 →
      exec (.hlCdb n count) s = .next ((((s.bump F.HL_SESSERR_COUNT).setF F.HL_SESSERR_KIND 0).setF F.HL_SESSERR_INDEX n).notice
        ncSESSION_ERROR n [(8, 0), (8, n), (16, count % 65536)])) ∧
    (s.getF F.HL_NRING2_EN = 0 ∨ 16 * 2 ^ s.getF F.HL_NRING2_SIZE < (s.getF F.HL_NRING5_PROD + 65536 - count % 65536) % 65536 →
      exec (.hlNdb count) s = .next ((((s.bump F.HL_SESSERR_COUNT).setF F.HL_SESSERR_KIND 1).setF F.HL_SESSERR_INDEX 0).notice
        ncSESSION_ERROR 0 [(8, 1), (8, 0), (16, count % 65536)])) ∧
    (s.getF (F.HL_DRING2_EN r) = 0 ∨
        16 * 2 ^ s.getF (F.HL_DRING2_SIZE r) < (count % 65536 + 65536 - s.getF (F.HL_DRING3_CONS r)) % 65536 →
      exec (.hlDdb r count) s = .next ((((s.bump F.HL_SESSERR_COUNT).setF F.HL_SESSERR_KIND 2).setF F.HL_SESSERR_INDEX r).notice
        ncSESSION_ERROR r [(8, 2), (8, r), (16, count % 65536)]))) ∧
  (∀ (c : Cmd) (n : Session) (v : Word) (s z : State), s.runs c opWRITE → s.privileged c.session = true → v.field 3 0 ≤ 8 →
    s.getF (F.HL_SESS2_EN n) = 0 → n.val ≠ 0 → z = (s.setF (F.HL_SESS2_SIZE n) (v.field 3 0)).setF (F.HL_SESS2_PRIV n) (v.field 5 5) →
    z.getF (F.HL_SESS2_EN n) = 0 → v.bit 4 = true →
    (z.ringOk (.session n) = true → exec (.ringEnable (.cmd c) (.session n) v) s =
      .next (((z.setWord (F.HL_SESS5 n) 0).setF (F.HL_SESS2_EN n) 1).complete c opWRITE stOK)) ∧
    (z.ringOk (.session n) = false → exec (.ringEnable (.cmd c) (.session n) v) s = .next (z.complete c opWRITE stWINDOW_VIOLATION)) ∧
    (v.field 3 0 ≤ 9 → s.getF F.HL_NRING2_EN = 0 → s.mode.firstNoticeOwed = true → s.mode.mode ≠ .DRAIN →
      (s.setF F.HL_NRING2_SIZE (v.field 3 0)).getF F.HL_NRING2_EN = 0 → (s.setF F.HL_NRING2_SIZE (v.field 3 0)).ringOk .notice = true → ∃ y : State,
        y = { ((s.setF F.HL_NRING2_SIZE (v.field 3 0)).setWord F.HL_NRING5 0).setF F.HL_NRING2_EN 1 with
          mode := { s.mode with firstNoticeOwed := false } } ∧
        exec (.ringEnable .bar0 .notice v) s =
          .next (y.notice ncMODE_CHANGE 0 [(8, s.mode.prev), (8, s.mode.mode.num), (8, 0)]))))

/-- A read of the first word of an RS group by a requester returns it and leaves that requester a shadow of each other
word of the group from the same tick, replacing its earlier ones; an 8-byte read returns the first word and the next
and leaves no shadow of the next. A read of another word of the group returns the requester's shadow of it, if it has
one, and consumes that shadow only; without one it returns the live value and changes nothing else. Device time does
not move in any of these reads. TB_NOW is such a group, of LO with HI and FRAC; so are the pairs of the mains phase,
the zero crossing, the radio counter and the slot number. (R108; stated.) -/
def Obligations.SnapshotReadsThroughBar0 : Prop :=
  ∀ (req f w : Nat) (s : State),
    (rsPartners f ≠ [] →
      (∃ t : State, exec (.nowLoRead req f false) s = .next t ∧ t.host.readData = [s.readWord f] ∧ t.dt = s.dt ∧
        ∀ u ∈ rsPartners f, t.shadowWord f req u = some (s.readWord u)) ∧
      (∃ t : State, exec (.nowLoRead req f true) s = .next t ∧ t.host.readData = [s.readWord f, s.readWord (f + 4)] ∧ t.dt = s.dt ∧
        t.shadowWord f req (f + 4) = none ∧ ∀ u ∈ rsPartners f, u ≠ f + 4 → t.shadowWord f req u = some (s.readWord u))) ∧
    (rsFirst w = some f →
      (∀ x, s.shadowWord f req w = some x → ∃ t : State, exec (.rsShadowRead req w) s = .next t ∧ t.host.readData = [x] ∧ t.dt = s.dt ∧
        t.shadowWord f req w = none ∧ (((s.shadowsOf f).filter (·.requester == req)).length ≤ 1 →
          ∀ u, u ≠ w → t.shadowWord f req u = s.shadowWord f req u)) ∧
      (s.shadowWord f req w = none →
        exec (.rsShadowRead req w) s = .next { s with host := { s.host with readData := [s.readWord w] } })) ∧
    rsPartners F.TB_NOW_LO = [F.TB_NOW_LO + 4, F.TB_NOW_FRAC] ∧ rsFirst (F.TB_NOW_LO + 4) = some F.TB_NOW_LO ∧
    rsFirst F.TB_NOW_FRAC = some F.TB_NOW_LO ∧ rsPartners F.MC_ASN_LO = [F.MC_ASN_LO + 4] ∧ rsFirst (F.MC_ASN_LO + 4) = some F.MC_ASN_LO ∧
    (∀ p : Fin 6, rsPartners (F.TB_MANGLE p) = [F.TB_MFREQ p] ∧ rsPartners (F.TB_MZC_LO p) = [F.TB_MZC_HI p]) ∧
    (∀ n : RfPort, rsPartners (F.SC_RFCNT_LO n) = [F.SC_RFCNT_HI n] ∧ rsFirst (F.SC_RFCNT_HI n) = some (F.SC_RFCNT_LO n))

/-- For a command that runs: a length that is no multiple of 4 from 4 to 1,048,576 completes INVALID_VALUE, a range that
leaves the map BAD_ADDRESS, a host range outside every window with the access WINDOW_VIOLATION, each with 0 bytes
moved and nothing else changed. READ_BLOCK of a permitted range that gets a DMA tag writes the words, in ascending
address and little-endian, to the host address and completes with the length, OK or QUEUE_ECC where a poisoned word
was among them. WRITE_BLOCK whose host read fails completes DMA_ERROR with 0 bytes moved; else it writes group after
group and completes with the bytes applied. Without a free DMA tag the read is held at its source and counted in
MD_OPSTALL. ENQUEUE that runs, of 1 to 13 words at the descriptor of a queue: to a disabled or a store queue it
completes QUEUE_OFF; with START set while another producer's item is open QUEUE_BUSY; with START set and its own item
open, or clear with no item of its own open, or with a bad header, ITEM_FORMAT; without room QUEUE_FULL with OVERRUN
set: a refused write writes nothing. One whole item with a good header into a queue with room and no open item is
written at W, W advances by its words modulo twice the size, no item is left open, and it completes OK; queue memory
outside those words keeps its value. (spec/01_architecture.md (R22, R23), spec/11_queues.md (R282, R284, R285, R289),
spec/12_host_link.md (R305, R306, R318, R320); derived.) -/
def Obligations.BlockCopiesAndEnqueue : Prop :=
  (∀ (c : Cmd) (a host len : Nat) (ans : HostAnswer) (s : State), s.runs c opREAD_BLOCK → s.runs c opWRITE_BLOCK →
    (len < 4 ∨ 1048576 < len ∨ len % 4 ≠ 0 →
      exec (.readBlock c a host len) s = .next (s.complete c opREAD_BLOCK stINVALID_VALUE [0]) ∧
      exec (.writeBlock c a host len ans) s = .next (s.complete c opWRITE_BLOCK stINVALID_VALUE [0])) ∧
    (4 ≤ len → len ≤ 1048576 → len % 4 = 0 →
      (inMap a (len / 4) = false →
        exec (.readBlock c a host len) s = .next (s.complete c opREAD_BLOCK stBAD_ADDRESS [0]) ∧
        exec (.writeBlock c a host len ans) s = .next (s.complete c opWRITE_BLOCK stBAD_ADDRESS [0])) ∧
      (inMap a (len / 4) = true →
        (s.hostOk host len true = false → exec (.readBlock c a host len) s = .next (s.complete c opREAD_BLOCK stWINDOW_VIOLATION [0])) ∧
        (s.hostOk host len true = true → s.canRead (.block c) → ∃ u, u = s.afterRead ∧
          exec (.readBlock c a host len) s = .next (({ u with out := u.out ++ [.hostWrite host (bytesOfWords (u.readWords a (len / 4)))] } :
            State).complete c opREAD_BLOCK (if u.readPoisoned a (len / 4) then stQUEUE_ECC else stOK) [BitVec.ofNat 32 len])) ∧
        (s.hostOk host len true = true → s.host.heldDma = [] → s.readTag (.block c) = none → s.tags.take tcDMA = none →
          exec (.readBlock c a host len) s =
            .next (({ s with host := { s.host with heldDma := [.block c] } } : State).bump F.MD_OPSTALL_DMA)) ∧
        (c.session.val = 0 → s.hostOk host len false = false →
          exec (.writeBlock c a host len ans) s = .next (s.complete c opWRITE_BLOCK stWINDOW_VIOLATION [0])) ∧
        (c.session.val = 0 → s.hostOk host len false = true → s.canRead (.block c) → ∃ u, u = s.afterRead ∧
          exec (.writeBlock c a host len .failed) s = .next (u.complete c opWRITE_BLOCK stDMA_ERROR [0]) ∧
          (∀ b : List Byte, b.length = len → len ≤ 4 * groupLen a → s.wordsRefused true a (wordsOfBytes b) = none →
            exec (.writeBlock c a host len (.data b)) s = .next ((u.writeWords 0 a (wordsOfBytes b)).1.complete c
              opWRITE_BLOCK (u.writeWords 0 a (wordsOfBytes b)).2 [BitVec.ofNat 32 len])))))) ∧
  (∀ (c : Cmd) (q : QueueId) (start : Bool) (w : Word) (ws : List Word) (s : State), s.runs c opENQUEUE →
    ws.length ≤ 12 → s.txn.flushes = [] →
    (s.qUsable q = false → exec (.enqueue c (F.QM_QPLACE q) start (w :: ws)) s = .next (s.complete c opENQUEUE stQUEUE_OFF)) ∧
    (s.qUsable q = true → (s.qst q).orphans = [] →
      (∀ o, (s.qst q).open_ = some o → o.producer ≠ .session c.session →
        exec (.enqueue c (F.QM_QPLACE q) true (w :: ws)) s = .next (s.complete c opENQUEUE stQUEUE_BUSY) ∧
        exec (.enqueue c (F.QM_QPLACE q) false (w :: ws)) s = .next (s.complete c opENQUEUE stITEM_FORMAT)) ∧
      ((s.qst q).open_ = none → exec (.enqueue c (F.QM_QPLACE q) false (w :: ws)) s = .next (s.complete c opENQUEUE stITEM_FORMAT)) ∧
      ((s.qst q).open_ = none → w.bit 31 = false ∨ w.field 17 0 = 0 ∨ s.qSize q < w.field 17 0 →
        exec (.enqueue c (F.QM_QPLACE q) true (w :: ws)) s = .next (s.complete c opENQUEUE stITEM_FORMAT)) ∧
      ((s.qst q).open_ = none → w.bit 31 = true → w.field 17 0 = ws.length + 1 → ws.length + 1 ≤ s.qSize q →
        (s.qRoom q < ws.length + 1 →
          exec (.enqueue c (F.QM_QPLACE q) true (w :: ws)) s =
            .next ((s.setF (F.QM_QSTAT_OVERRUN q) 1).complete c opENQUEUE stQUEUE_FULL)) ∧
        (ws.length + 1 ≤ s.qRoom q → (s.qst q).behind = [] → ∃ t : State,
          exec (.enqueue c (F.QM_QPLACE q) true (w :: ws)) s = .next (t.complete c opENQUEUE stOK) ∧
          t = { s with map := t.map, qmem := t.qmem, queues := t.queues, bench := t.bench } ∧ (t.qst q).open_ = none ∧
          (s.mode.twinDriven = false → t.bench = s.bench) ∧
          t.map = (s.setF (F.QM_QWP_PTR q) ((s.qW q + (ws.length + 1)) % s.qMod q)).map ∧
          t.qmem = (s.qPut q (s.qW q) (w :: ws)).qmem))))

/-- With the link up, the device a bus master, fewer than 256 commands taken and session n the next to serve: a fetch
whose entry and write-back address lie in permitted windows raises the consumer count by one, takes the command into a
command slot with its opcode, tag and FENCE, writes the count to the write-back address, and does nothing else; a
session field of another session completes INVALID_VALUE, an opcode not listed BAD_OPCODE. An entry outside every
window, or a failed read, takes no command: the session is stopped with EN cleared and one SESSION_ERROR. With 256
slots held nothing is taken. With the link up, the device a bus master, the notice ring enabled with a free entry and
its memory in permitted windows, nothing lost before, and a notice without a token bucket (a completion, a session
error or one of the host link) first in the buffer, none waiting for a token: NOTICE_WRITE writes its 64 bytes at the
ring's producer count, raises the count, writes the count to the write-back address, frees the command slot of a
completion, and takes the notice out of the buffer; when IRQ_COUNT notices are then unsignalled vector 0 is signalled
after those writes, else one more is unsignalled. The bytes are word 0 code, block and count, words 1 and 2 the time,
word 3 UNIT and MEMBER, then the payload. With a full or disabled ring nothing is written. IRQ_TIMER: when IRQ_TIME
µs, not zero, have passed since the first unsignalled notice, vector 0 is signalled and none is unsignalled.
TOKEN_REFILL: each source block's bucket gains RATE tokens for every millisecond of device time begun since the last
refill, up to BURST, and no bucket loses one. SPAN_EXPIRY: a span whose gap passed, and 2 µs more, closes, and its
held notice, if any, is handed to the writer. Before its time each changes nothing of what it stands for.
(spec/12_host_link.md (R299, R300, R301, R303, R304, R307, R310, R313, R318, R320), spec/15_faults_service.md (R383,
R384); derived.) -/
def Obligations.CommandsTakenAndNoticesWritten : Prop :=
  (∀ (n : Session) (b : List Byte) (s z : State) (h : HostState) (w : Word) (cons : Nat), w = wordAt (wordsOfBytes b) 0 → cons = s.getF (F.HL_SESS5_CONS n) →
    h = { s.host with
      lastServed := n.val,
      taken := s.host.taken ++ [{ session := n, opcode := w.field 31 24, tag := w.field 15 0, fence := w.bit 18 }] } →
    z = { s.setF (F.HL_SESS5_CONS n) (cons + 1) with host := h } →
    (s.linkUp = true → s.getF F.HL_LINKSTAT_BME = 1 → s.host.taken.length < 256 → s.nextSession = some n.val →
      (s.hostOk (s.ringAddr (.session n) cons) 64 false = true → z.hostOk (z.ringWb (.session n)) 4 true = true →
        w.field 23 20 = n.val → opcodeKnown (w.field 31 24) = true →
        exec (.commandFetch n (.data b)) s = .next { z with
          out := s.out ++ [.hostWrite (z.ringWb (.session n)) (bytesLE 4 (z.getF (F.HL_SESS5_CONS n)))] }) ∧
      (s.hostOk (s.ringAddr (.session n) cons) 64 false = true → z.hostOk (z.ringWb (.session n)) 4 true = true →
        z.linkUp = true → w.field 23 20 ≠ n.val → ∃ (t : State) (c : Cmd),
          exec (.commandFetch n (.data b)) s = .next t ∧ c.session = n ∧ c.tag.toNat = w.field 15 0 ∧ c.quiet = w.bit 19 ∧
          t.notices = (z.complete c (w.field 31 24) stINVALID_VALUE).notices ∧
          t.host.taken = (z.complete c (w.field 31 24) stINVALID_VALUE).host.taken) ∧
      exec (.commandFetch n .failed) s = .next ((s.ringOff (.session n)).sessionError (.session n) cons) ∧
      (s.hostOk (s.ringAddr (.session n) cons) 64 false = false →
        exec (.commandFetch n (.data b)) s = .next ((s.ringOff (.session n)).sessionError (.session n) cons))) ∧
    (256 ≤ s.host.taken.length ∨ s.linkUp = false ∨ s.getF F.HL_LINKSTAT_BME = 0 →
      exec (.commandFetch n (.data b)) s = .next s)) ∧
  ((∀ (n : Notice) (rest : List Notice) (s z y : State) (p : Nat), s.notices.buffer = n :: rest → s.notices.lostSince = 0 →
    (∀ m ∈ n :: rest, tokenFree m = true) → p = s.getF F.HL_NRING5_PROD →
    z = { s.setF F.HL_NRING5_PROD (p + 1) with out := s.out ++ [.hostWrite (s.ringAddr .notice p) n.bytes] } →
    y = { z with out := z.out ++ [.hostWrite (z.ringWb .notice) (bytesLE 4 (z.getF F.HL_NRING5_PROD))] } →
    (s.noticeRoom = true → s.hostOk (s.ringAddr .notice p) 64 true = true → z.hostOk (z.ringWb .notice) 4 true = true →
      (s.notices.unsignalled + 1 < y.getF F.HL_NRING6_IRQ_COUNT → ∃ t, exec .noticeWrite s = .next (State.freeSlot t n) ∧
        t.notices = { s.notices with
          buffer := rest, unsignalled := s.notices.unsignalled + 1,
          firstUnsignalled := if s.notices.unsignalled = 0 then s.ns else s.notices.firstUnsignalled } ∧
        t = { y with notices := t.notices }) ∧
      (y.getF F.HL_NRING6_IRQ_COUNT ≤ s.notices.unsignalled + 1 → ∃ t, exec .noticeWrite s = .next (State.freeSlot t n) ∧
        t.notices = { s.notices with buffer := rest, unsignalled := 0 } ∧
        t = { State.signal { y with notices := { s.notices with unsignalled := 0 } } 0 with notices := t.notices })) ∧
    (s.noticeRoom = false → exec .noticeWrite s = .next s) ∧
    (n.code = ncCOMPLETION → n.block < 256 → n.count < 65536 → n.bytes.take 4 = bytesLE 4 (n.code * 2 ^ 24 + n.block * 2 ^ 16 + n.count) ∧
      (n.bytes.drop 4).take 8 = bytesLE 8 n.time ∧ (n.bytes.drop 12).take 4 = bytesLE 4 (n.unit % 65536 + n.member % 32 * 65536) ∧
      n.bytes.length = 64)) ∧
  (∀ (i b : Nat) (sp : Span) (s : State),
    (s.getF F.HL_NRING6_IRQ_TIME ≠ 0 → s.notices.unsignalled ≠ 0 →
      s.notices.firstUnsignalled + 1000 * s.getF F.HL_NRING6_IRQ_TIME ≤ s.ns →
      exec .irqTimer s = .next (State.signal { s with notices := { s.notices with unsignalled := 0 } } 0)) ∧
    (s.ns < s.notices.firstUnsignalled + 1000 * s.getF F.HL_NRING6_IRQ_TIME → exec .irqTimer s = .next s) ∧
    (s.masked 0 = false → s.getF F.HL_LINKSTAT_BME = 1 → s.linkUp = true → s.signal 0 = { s with out := s.out ++ [.msix 0] }) ∧
    (b < 15 → s.notices.lastMs ≤ s.ns / 1000000 → ∃ t, exec .tokenRefill s = .next t ∧
      t = { s with notices := { s.notices with tokens := t.notices.tokens, lastMs := s.ns / 1000000 } } ∧
      t.tokens b = min (s.burst b) (s.tokens b + (s.ns / 1000000 - s.notices.lastMs) * s.rate b)) ∧
    (s.notices.spans[i]? = some sp → sp.due + 2000 ≤ s.ns →
      (sp.held = none →
        exec (.spanExpiry i) s = .next { s with notices := { s.notices with spans := s.notices.spans.eraseIdx i } }) ∧
      (∀ n, sp.held = some n → exec (.spanExpiry i) s =
        .next (State.hand { s with notices := { s.notices with spans := s.notices.spans.eraseIdx i } } n))) ∧
    (s.notices.spans[i]? = some sp → s.ns < sp.due + 2000 → exec (.spanExpiry i) s = .next s)))

/-- Loss of an up link, in a canonical state with no bench request held for a tag: the link is down and counted in DOWNS,
EN of every session, of the notice ring and of every DMA ring is clear, no descriptor is in progress or fetched ahead,
no DMA read is open or held, completions that waited are discarded and counted, and every other waiting notice still
waits; mode, structure and radios go on untouched. When the link trains again UP, SPEED and WIDTH show it, both counts
of losses restart and one HOST_LINK_STATE carries the losses and the discarded completions, each saturated.
BUS_MASTER_ENABLE on an up link sets BME and sends the interrupts that were pending. (spec/12_host_link.md (R295,
R296, R321); derived.) -/
def Obligations.LossAndReturnOfTheHostLink : Prop :=
  ∀ (speed width : Nat) (n : Session) (r : RingId) (s : State),
    (s.sound = true → s.linkUp = true → s.bench.heldReqs = [] → ∃ t, exec .hostLinkLoss s = .next t ∧ t.linkUp = false ∧ t.getF (F.HL_SESS2_EN n) = 0 ∧
      t.getF F.HL_NRING2_EN = 0 ∧ t.getF (F.HL_DRING2_EN r) = 0 ∧ (t.dmaRing r).run = none ∧ (t.dmaRing r).fetched = [] ∧
      t.notices.buffer = s.notices.buffer.filter Notice.buffered ∧ t.host.taken = s.host.taken.filter (!·.done) ∧
      t.host.discardedSince = s.host.discardedSince + (s.notices.buffer.filter fun m => !m.buffered).length ∧
      t.host.lossesSince = s.host.lossesSince + 1 ∧ t.host.reads = [] ∧ t.host.heldDma = [] ∧
      t = { s with map := t.map, notices := t.notices, host := t.host, queues := t.queues, tags := t.tags }) ∧
    (s.linkUp = false → exec .hostLinkLoss s = .next s) ∧
    (s.linkUp = false → s.mode.mode ≠ .OFF → exec (.hostLinkState speed width) s = .next
      (State.notice
        { ((s.setF F.HL_LINKSTAT_UP 1).setF F.HL_LINKSTAT_SPEED speed).setF F.HL_LINKSTAT_WIDTH width with
          host := { s.host with lossesSince := 0, discardedSince := 0 } } ncHOST_LINK_STATE 0
        [(16, s.host.lossesSince), (16, s.host.discardedSince)])) ∧
    (s.linkUp = true → exec .busMasterEnable s = .next (s.setF F.HL_LINKSTAT_BME 1).sendPending) ∧
    (s.linkUp = true → s.host.pba = [] → exec .busMasterEnable s = .next (s.setF F.HL_LINKSTAT_BME 1))

/-- A fetch that finds the link up, the device a bus master, the ring enabled and not stopped with one descriptor to read,
nothing fetched ahead and none in progress, and a DMA tag free: a descriptor with OWN set that no rule refuses is in
progress, no byte has moved, and the read of a TO_QUEUE buffer is issued; one with OWN clear stops the ring there; one
that is refused is written back with DONE_LEN 0 and its status and counted. An entry outside every window, or a failed
read, takes no descriptor: EN clears and one SESSION_ERROR is written. In DRAIN no descriptor starts. With the link up
and the device a bus master. TO_QUEUE of a buffer of at most 128 words whose issued read returns is one producer write
of the ring, and the descriptor completes with its status and with the bytes written, or 0 where it is refused; a
failed read completes DMA_ERROR with 0. FROM_QUEUE with a complete item at R no longer than LENGTH marks and reads the
item, writes its words to host memory, issues the zero-length read and waits; a longer item completes BUFFER_SHORT
unread; without an item it waits. The write response releases the item and completes the descriptor with the bytes
moved. A timeout of an open read completes DMA_ERROR, a FROM_QUEUE item going back to M; without an open read neither
does anything. The completion of the descriptor in progress, with nothing fetched ahead, no read open or held and its
ring entry in a writable window, writes words 4 and 5 (bytes moved and status), then word 0 with OWN clear and the
other bits unchanged, advances the consumer count, counts DONE for OK and ERRORS otherwise, and signals the ring's
vector where INT is set; no descriptor is then in progress. A ring entry outside every window stops the ring instead.
It is the completion of every DMA statement. (spec/11_queues.md (R283, R285), spec/12_host_link.md (R302, R314, R315,
R316, R317, R318, R320); derived.) -/
def Obligations.DmaDescriptorsFromFetchToWriteBack : Prop :=
  (∀ (r : RingId) (b : List Byte) (s u : State) (at_ : Nat) (d : List Word), at_ = s.getF (F.HL_DRING3_CONS r) →
    d = (List.range 8).map (wordAt (wordsOfBytes b)) → b.length = 32 →
    s.linkUp = true → s.getF F.HL_LINKSTAT_BME = 1 → s.ringOn (.dma r) = true → s.dmaRing r = {} →
    (s.getF (F.HL_DRING3_PROD r) + 131072 - at_) % 65536 = 1 → s.canRead (.fetch r) → u = s.afterRead →
    (s.hostOk (s.ringAddr (.dma r) at_) 32 false = true →
      (dOwn d = true → s.mode.mode ≠ .DRAIN → s.descRefused r d = none → ∃ v : State,
        v = u.setDmaRing r { run := some { desc := { index := at_ % 65536, words := d } } } ∧
        (dKind d ≠ 0 → exec (.descriptorFetch r (.data b)) s = .next v) ∧
        (dKind d = 0 → exec (.descriptorFetch r (.data b)) s = .next (v.readIssue (.run r)))) ∧
      (∀ st, dOwn d = true → s.mode.mode ≠ .DRAIN → s.descRefused r d = some st →
        exec (.descriptorFetch r (.data b)) s = .next ((u.setDmaRing r {}).writeDesc r d 0 st)) ∧
      (dOwn d = true → s.mode.mode = .DRAIN → exec (.descriptorFetch r (.data b)) s =
        .next (u.setDmaRing r { fetched := [{ index := at_ % 65536, words := d }] })) ∧
      (dOwn d = false → exec (.descriptorFetch r (.data b)) s = .next (u.setDmaRing r { stopped := true })) ∧
      exec (.descriptorFetch r .failed) s = .next ((u.ringOff (.dma r)).sessionError (.dma r) at_)) ∧
    (s.hostOk (s.ringAddr (.dma r) at_) 32 false = false →
      exec (.descriptorFetch r (.data b)) s = .next ((u.ringOff (.dma r)).sessionError (.dma r) at_))) ∧
  ((∀ (r : RingId) (b : List Byte) (s u : State) (g n : Nat) (d : DescRun), (s.dmaRing r).run = some d → u = s.readEnd (.run r) → s.linkUp = true →
    s.getF F.HL_LINKSTAT_BME = 1 →
    (dKind d.desc.words = 0 → d.waiting = false → dRemote d.desc.words = false → s.readTag (.run r) = some g →
      exec (.dmaToQueue r .failed) s = .next (u.dmaFinish r stDMA_ERROR 0) ∧
      (dLen d.desc.words % 4 = 0 → 4 ≤ dLen d.desc.words → dLen d.desc.words ≤ 512 → b.length = dLen d.desc.words → ∃ x,
        x = u.qProduce (dQueue d.desc.words) (.ring r) (dStart d.desc.words) (wordsOfBytes b) ∧
        exec (.dmaToQueue r (.data b)) s = .next (x.1.dmaFinish r x.2 (if x.2 = stOK then dLen d.desc.words else 0)))) ∧
    (dKind d.desc.words = 1 → d.waiting = false → s.qUsable (dQueue d.desc.words) = true → s.qHeadLost (dQueue d.desc.words) = false →
      (s.qItemAt (dQueue d.desc.words) (s.qR (dQueue d.desc.words)) = none → exec (.dmaFromQueue r) s = .next s) ∧
      (s.qItemAt (dQueue d.desc.words) (s.qR (dQueue d.desc.words)) = some n →
        (dLen d.desc.words < 4 * n → exec (.dmaFromQueue r) s = .next (s.dmaFinish r stBUFFER_SHORT 0)) ∧
        (4 * n ≤ dLen d.desc.words → ∃ (y : State) (st : Nat),
          y = (s.qMark (dQueue d.desc.words)).qConsume (dQueue d.desc.words) ∧
          exec (.dmaFromQueue r) s = .next ((State.setDmaRun
            { y with out := y.out ++ [.hostWrite (dAddr d.desc.words) (bytesOfWords (s.qHostWords (dQueue d.desc.words)
              (s.qR (dQueue d.desc.words)) n))] } r { d with moved := 4 * n, status := st, waiting := true }).readIssue (.run r)) ∧
          (s.qPoisoned (dQueue d.desc.words) (s.qR (dQueue d.desc.words)) n = false → st = stOK)))) ∧
    (dKind d.desc.words = 1 → d.waiting = true → s.readTag (.run r) = some g →
      exec (.dmaWriteResponse r) s = .next ((u.qRelease (dQueue d.desc.words)).dmaFinish r d.status d.moved) ∧
      exec (.dmaTimeout r) s = .next ((u.qRewind (dQueue d.desc.words)).dmaFinish r stDMA_ERROR 0)) ∧
    (dKind d.desc.words ≠ 1 → s.readTag (.run r) = some g → exec (.dmaTimeout r) s = .next (u.dmaFinish r stDMA_ERROR 0)) ∧
    (s.readTag (.run r) = none → exec (.dmaWriteResponse r) s = .next s ∧ exec (.dmaTimeout r) s = .next s)) ∧
  (∀ (r : RingId) (s y z : State) (d : DescRun) (st moved a : Nat), s.dmaRing r = { run := some d } → y = s.setDmaRing r {} →
    s.readTag (.run r) = none → .run r ∉ s.host.heldDma →
    a = y.ringAddr (.dma r) (y.getF (F.HL_DRING3_CONS r)) →
    (y.hostOk a 32 true = true → z = (State.setF { y with out := y.out ++ [.hostWrite (a + 16) (bytesLE 4 moved ++ bytesLE 4 st),
        .hostWrite a (bytesLE 4 ((wordAt d.desc.words 0).setField 31 31 0).toNat)] } (F.HL_DRING3_CONS r)
        (y.getF (F.HL_DRING3_CONS r) + 1)).bump (if st = stOK then F.HL_DRING4_DONE r else F.HL_DRING4_ERRORS r) →
      (dInt d.desc.words = false → s.dmaFinish r st moved = z) ∧
      (dInt d.desc.words = true → s.dmaFinish r st moved = z.signal (z.getF (F.HL_DRING2_VECTOR r)))) ∧
    (y.hostOk a 32 true = false →
      s.dmaFinish r st moved = (y.ringOff (.dma r)).sessionError (.dma r) (y.getF (F.HL_DRING3_CONS r)))))

/-- For an EXCHANGE in progress on the ring SV_CFG names, not yet waiting: a count of 0 or blocks past 511 complete
LEDGER_RANGE and a response buffer shorter than 32 bytes a block BUFFER_SHORT, with nothing written. A dump, whose
command is read under a DMA tag, of one reserved block writes its 32 bytes to the response address and waits for the
write response with 32 bytes moved, all zeros. While the first block is field-held the dump waits, and after 10 ms
ends REQUEST_WITHDRAWN. LEDGER_READ of a block above 511 or of 80 to 383 completes LEDGER_RANGE; of a held block it
waits; otherwise it completes OK with the newer valid copy's 32 bytes and sequence byte, counting invalid copies, or
LEDGER_FAIL with a LEDGER record. LEDGER_WRITE above 511 completes LEDGER_RANGE and outside 384 to 511 LEDGER_ACCESS;
on a free block it claims it and programs the older or invalid copy. A copy that verifies gives the block its new
content and completes the write with its new sequence byte; one that fails leaves its copy invalid and is programmed
once more, and a second failure ends the write LEDGER_FAIL. A host access that has waited 10 ms for a field-held block
completes SV_BUSY and is counted. The life counters are written at whole powered hours only. A field that appears or
goes sets SV_STAT and writes FIELD_STATE where the device is powered. (spec/12_host_link.md (R316, R319),
spec/15_faults_service.md (R386, R387, R388, R389, R390, R391); derived.) -/
def Obligations.ServiceLedger : Prop :=
  (∀ (cmd : List Byte) (s u : State) (d : DescRun) (b : Nat) (x : List Byte), u = s.afterRead → s.linkUp = true → s.getF F.HL_LINKSTAT_BME = 1 →
    (s.dmaRing (s.getF F.SV_CFG_RING)).run = some d → dKind d.desc.words = 2 → d.waiting = false → d.moved = 0 →
    b = natLE (cmd.take 2) →
    (d.started = false → s.canRead (.run (s.getF F.SV_CFG_RING)) → (natLE ((cmd.drop 2).take 2) = 0 ∨ 512 < b + natLE ((cmd.drop 2).take 2)) →
      exec (.ledgerDump cmd) s = .next (u.dmaFinish (s.getF F.SV_CFG_RING) stLEDGER_RANGE 0)) ∧
    (natLE ((cmd.drop 2).take 2) = 1 → b < 512 → d.started = true → s.lclaim b = some .field →
      (∀ since, d.held = some since → since + 10000000 ≤ s.ns →
        exec (.ledgerDump cmd) s = .next (s.dmaFinish (s.getF F.SV_CFG_RING) stREQUEST_WITHDRAWN 0))) ∧
    (natLE ((cmd.drop 2).take 2) = 1 → b < 512 → d.started = false → s.canRead (.run (s.getF F.SV_CFG_RING)) →
      (dRespLen d.desc.words < 32 → exec (.ledgerDump cmd) s = .next (u.dmaFinish (s.getF F.SV_CFG_RING) stBUFFER_SHORT 0)) ∧
      (32 ≤ dRespLen d.desc.words → s.lclaim b = some .field → d.held = none → exec (.ledgerDump cmd) s =
          .next (u.setDmaRun (s.getF F.SV_CFG_RING) { d with started := true, held := some s.ns })) ∧
      (32 ≤ dRespLen d.desc.words → s.lclaim b ≠ some .field → hostBlock b = false → x = List.replicate 32 0 → exec (.ledgerDump cmd) s =
          .next ((State.setDmaRun { u with out := s.out ++ [.hostWrite (dRespAddr d.desc.words) x] } (s.getF F.SV_CFG_RING)
            { d with moved := 32, started := true, held := none, status := stOK, waiting := true }).readIssue
              (.run (s.getF F.SV_CFG_RING)))))) ∧
  (∀ (c : Cmd) (b n : Nat) (k : LedgerBlock) (d : List Word) (op : LedgerWriteOp) (w : LedgerWait) (s : State),
    (s.runs c opLEDGER_READ →
      (512 ≤ b ∨ (80 ≤ b ∧ b < 384) → exec (.ledgerRead c b) s = .next (s.complete c opLEDGER_READ stLEDGER_RANGE)) ∧
      (b < 80 ∨ (384 ≤ b ∧ b < 512) →
        (s.lclaim b ≠ none → exec (.ledgerRead c b) s = .next (s.lwait c b none)) ∧
        (s.lclaim b = none → (s.lcopy b 0).valid = true → (s.lcopy b 1).valid = true →
          (1 ≤ ((s.lcopy b 1).seq + 256 - (s.lcopy b 0).seq) % 256 → ((s.lcopy b 1).seq + 256 - (s.lcopy b 0).seq) % 256 ≤ 127 →
            exec (.ledgerRead c b) s = .next (s.complete c opLEDGER_READ stOK
              (wordsOfBytes (s.lcopy b 1).data ++ [BitVec.ofNat 32 (s.lcopy b 1).seq]))) ∧
          (127 < ((s.lcopy b 1).seq + 256 - (s.lcopy b 0).seq) % 256 →
            exec (.ledgerRead c b) s = .next (s.complete c opLEDGER_READ stOK
              (wordsOfBytes (s.lcopy b 0).data ++ [BitVec.ofNat 32 (s.lcopy b 0).seq])))) ∧
        (s.lclaim b = none → (s.lcopy b 0).valid = false → (s.lcopy b 1).valid = true →
          exec (.ledgerRead c b) s = .next ((s.bump F.SV_LDGSTAT_BADCOPY 1).complete c opLEDGER_READ stOK
            (wordsOfBytes (s.lcopy b 1).data ++ [BitVec.ofNat 32 (s.lcopy b 1).seq]))) ∧
        (s.lclaim b = none → (s.lcopy b 0).valid = false → (s.lcopy b 1).valid = false → s.mode.mode ≠ .OFF →
          exec (.ledgerRead c b) s = .next (((s.bump F.SV_LDGSTAT_BADCOPY 2).report 9 0xA b b).1.complete c opLEDGER_READ stLEDGER_FAIL)))) ∧
    (s.runs c opLEDGER_WRITE →
      (512 ≤ b → exec (.ledgerWrite c b d) s = .next (s.complete c opLEDGER_WRITE stLEDGER_RANGE)) ∧
      (b < 384 → exec (.ledgerWrite c b d) s = .next (s.complete c opLEDGER_WRITE stLEDGER_ACCESS)) ∧
      (384 ≤ b → b < 512 → op = { block := b, data := bytesOfWords ((List.range 8).map (wordAt d)), cmd := some c } →
        (s.lclaim b ≠ none → exec (.ledgerWrite c b d) s = .next (s.lwait c b (some op.data))) ∧
        (s.lclaim b = none → exec (.ledgerWrite c b d) s = .next (s.lbegin op)))) ∧
    (s.service.writes.find? (·.block == k.val) = some op →
      (∃ y : State, exec (.ledgerProgrammed k true) s = .next (y.lend op) ∧
        y.lcopy op.block (s.ltarget op.block).1 = { data := op.data, seq := (s.ltarget op.block).2, valid := true } ∧
        (op.cmd = some c → op.field = false → y = ((s.setLcopy op.block (s.ltarget op.block).1 {
          data := op.data, seq := (s.ltarget op.block).2, valid := true }).complete c opLEDGER_WRITE stOK [BitVec.ofNat 32 (s.ltarget op.block).2]))) ∧
      (∃ y : State, y = s.setLcopy k (s.ltarget k).1 { s.lcopy k (s.ltarget k).1 with valid := false } ∧
        (op.tries = 0 → ∃ z : State, exec (.ledgerProgrammed k false) s = .next z ∧
          z.service.writes = (y.service.writes.map fun o => if o = op then { o with tries := 1 } else o) ∧
          z = { y with service := { y.service with writes := z.service.writes } }) ∧
        (op.tries ≠ 0 → exec (.ledgerProgrammed k false) s = .next (y.programFailed op)))) ∧
    (s.service.writes.find? (·.block == k.val) = none → exec (.ledgerProgrammed k true) s = .next s ∧ exec (.ledgerProgrammed k false) s = .next s) ∧
    (s.service.waits.find? (fun x => x.block == k.val && decide (x.since + 10000000 ≤ s.ns)) = some w → s.lclaim k = some .field →
      exec (.ledgerClaimTimeout k) s = .next ((({ s with service := { s.service with waits := s.service.waits.erase w } } : State).bump
        F.SV_CNT_BUSY).complete w.cmd (if w.write.isSome then opLEDGER_WRITE else opLEDGER_READ) stSV_BUSY)) ∧
    ((∀ x ∈ s.service.waits, x.block = k.val → s.ns < x.since + 10000000) ∨ s.lclaim k ≠ some .field →
      exec (.ledgerClaimTimeout k) s = .next s) ∧
    (s.mode.mode ≠ .OFF → aonCount s.service.powered + (s.service.lifeHour + 1) * hourCycles ≤ aonCount s.tick → n < 6 → s.lclaim (10 + n) ≠ some .field →
      ∃ y : State, exec .lifeCounterUpdate s = .next y ∧ y.service.lifeHour = s.service.lifeHour + 1 ∧ y.service.faultEntries = 0 ∧
        ∃ o ∈ y.service.writes, o.block = 10 + n) ∧
    (s.mode.mode = .OFF ∨ aonCount s.tick < aonCount s.service.powered + (s.service.lifeHour + 1) * hourCycles → exec .lifeCounterUpdate s = .next s) ∧
    (s.mode.mode ≠ .OFF → exec (.fieldState true) s = .next ((s.setF F.SV_STAT_FIELD 1).notice ncFIELD_STATE 0 [(8, 1)]) ∧
      exec (.fieldState false) s = .next (((s.setF F.SV_STAT_FIELD 0).fieldGone).notice ncFIELD_STATE 0 [(8, 0)])) ∧
    (s.mode.mode = .OFF → exec (.fieldState true) s = .next (s.setF F.SV_STAT_FIELD 1)))

/-- A KEY_LOAD of a session completes with the first check of R257 that fails and changes nothing: a reserved OP, a slot
that is none or a 256-bit key for an endpoint is INVALID_VALUE, a KEK drawer whose partition lacks KEK is KEY_USE for
a ROLL or REPLACE. Where every check passes, in a canonical state: ROLL makes the unwrapped key current and the old
current key previous, sets ROLLING; REPLACE replaces the current key; END_ROLL empties the previous generation and
clears ROLLING; CLEAR empties both; GEN rises by one modulo 256 for all but END_ROLL and a CLEAR of an empty slot; no
other word of the map, no other slot and no request of another slot or of an earlier tick changes. ROLL_WINDOW_EXPIRY
of a rolling slot whose window of WINDOW minutes has passed acts as END_ROLL; before that, or with WINDOW 0, it
changes nothing. (spec/10_cipher_keys.md (R254, R255, R256, R257); derived.) -/
def Obligations.KeyLoadsAndTheRolloverWindow : Prop :=
  ∀ (c : Cmd) (w : List Word) (k : KeySlot) (s : State) (n st : Nat) (key : List Byte) (g : KeyGens), s.sound = true →
    n = klTarget w → g = s.keysOf n → s.checkLoad w (some c.session.val) = (st, key) → s.runs c opKEY_LOAD →
    (st ≠ stOK → exec (.keyLoad c w) s = .next (s.complete c opKEY_LOAD st)) ∧
    (4 ≤ klOp w ∨ slotOk n = false ∨ (n < 2 ^ 17 ∧ klSize w = 1) → st = stINVALID_VALUE) ∧
    (klForm w = true → klOp w < 2 → s.drawerUse (klKek w) useKEK (some c.session.val) = false → st = stKEY_USE) ∧
    (st = stOK → ∃ t : State, exec (.keyLoad c w) s = .next (t.complete c opKEY_LOAD stOK [BitVec.ofNat 32 (t.getF (slGEN n))]) ∧
      s.wordsKept t [slotWord n] ∧ (∀ m, m ≠ n → t.keysOf m = s.keysOf m) ∧
      t = { s with map := t.map, cipher := { s.cipher with keys := t.cipher.keys, reqs := t.cipher.reqs } } ∧
      (∀ r ∈ s.cipher.reqs, r.slot ≠ n ∨ r.started ≠ s.ns → r ∈ t.cipher.reqs) ∧ t.getF (slAUTHFAIL n) = s.getF (slAUTHFAIL n) ∧
      (klOp w = 0 → t.keysOf n = { cur := some key, prev := g.cur, rolled := s.ns } ∧ t.getF (slROLLING n) = 1 ∧
        t.getF (slCUR n) = keyKind (some key) ∧ t.getF (slPREV n) = keyKind g.cur ∧ t.getF (slGEN n) = (s.getF (slGEN n) + 1) % 256) ∧
      (klOp w = 1 → t.keysOf n = { g with cur := some key } ∧ t.getF (slROLLING n) = s.getF (slROLLING n) ∧
        t.getF (slCUR n) = keyKind (some key) ∧ t.getF (slGEN n) = (s.getF (slGEN n) + 1) % 256) ∧
      (klOp w = 2 → t.keysOf n = { g with prev := none } ∧ t.getF (slROLLING n) = 0 ∧ t.getF (slPREV n) = 0 ∧
        t.getF (slGEN n) = s.getF (slGEN n)) ∧
      (klOp w = 3 → (g.cur ≠ none ∨ g.prev ≠ none → t.keysOf n = {} ∧ t.getF (slCUR n) = 0 ∧ t.getF (slPREV n) = 0 ∧
        t.getF (slROLLING n) = 0 ∧ t.getF (slGEN n) = (s.getF (slGEN n) + 1) % 256) ∧ (g.cur = none → g.prev = none → t.map = s.map ∧ t.cipher.keys = s.cipher.keys))) ∧
    (s.flag (slROLLING k.name) = true → s.getF F.CX_ROLLCFG_WINDOW ≠ 0 →
      (s.keysOf k.name).rolled + 60000000000 * s.getF F.CX_ROLLCFG_WINDOW ≤ s.ns → ∃ t, exec (.rollWindowExpiry k) s = .next t ∧
        t.keysOf k.name = { s.keysOf k.name with prev := none } ∧ t.getF (slROLLING k.name) = 0 ∧ t.getF (slPREV k.name) = 0 ∧
        t.getF (slGEN k.name) = s.getF (slGEN k.name) ∧ s.wordsKept t [slotWord k.name]) ∧
    (s.getF F.CX_ROLLCFG_WINDOW = 0 ∨ s.ns < (s.keysOf k.name).rolled + 60000000000 * s.getF F.CX_ROLLCFG_WINDOW →
      exec (.rollWindowExpiry k) s = .next s)

/-- With a structure that takes amendments: a ROUTE_INSERT whose MEDIUM is not 3 and whose fields are permitted takes the
lowest entry whose VALID is zero, stores its first two words with VALID set and the reserved bit zero, USES zero, and
completes OK with the entry's number; no other word changes. Words that are not permitted complete AMEND_INVALID, and
with every entry VALID the command completes ROUTE_FULL. ROUTE_REMOVE of a VALID entry clears VALID alone and
completes OK; of another, NOT_FOUND. While no structure is live or the factory default stands after a failed load,
both complete AMEND_STALE. (spec/03_modes_power_reset.md (R61), spec/09_radio_mac.md (R244), spec/12_host_link.md
(R305); derived.) -/
def Obligations.RoutesInsertedAndRemoved : Prop :=
  ∀ (c : Cmd) (w : List Word) (i : RouteId) (s : State) (n : Nat), ((wordAt w 0).field 2 1 = 3 → routeOk (wordAt w 0) = false) ∧
    (s.runs c opROUTE_INSERT →
      (s.struct_.live = false ∨ s.mode.mode = .DEFAULTED → exec (.routeInsert c w) s = .next (s.complete c opROUTE_INSERT stAMEND_STALE)) ∧
      (s.struct_.live = true → s.mode.mode ≠ .DEFAULTED →
        (routeOk (wordAt w 0) = false → exec (.routeInsert c w) s = .next (s.complete c opROUTE_INSERT stAMEND_INVALID)) ∧
        (routeOk (wordAt w 0) = true → (∀ k < 65536, s.getF (F.RT0_VALID k) = 1) →
          exec (.routeInsert c w) s = .next (s.complete c opROUTE_INSERT stROUTE_FULL)) ∧
        (s.sound = true → routeOk (wordAt w 0) = true → n < 65536 → s.getF (F.RT0_VALID n) = 0 → (∀ k < n, s.getF (F.RT0_VALID k) = 1) →
          ∃ t : State, exec (.routeInsert c w) s = .next (t.complete c opROUTE_INSERT stOK [BitVec.ofNat 32 n]) ∧
            t.getF (F.RT0_VALID n) = 1 ∧ (t.word (F.RT0 n)).field 30 1 = (wordAt w 0).field 30 1 ∧ (t.word (F.RT0 n)).bit 31 = false ∧
            t.word (F.RT1 n) = wordAt w 1 ∧ t.word (F.RT2 n) = 0 ∧ s.wordsKept t [F.RT0 n, F.RT1 n, F.RT2 n] ∧
            t = { s with map := t.map }))) ∧
    (s.runs c opROUTE_REMOVE →
      (s.struct_.live = false ∨ s.mode.mode = .DEFAULTED → exec (.routeRemove c i) s = .next (s.complete c opROUTE_REMOVE stAMEND_STALE)) ∧
      (s.struct_.live = true → s.mode.mode ≠ .DEFAULTED →
        (s.getF (F.RT0_VALID i) = 0 → exec (.routeRemove c i) s = .next (s.complete c opROUTE_REMOVE stNOT_FOUND)) ∧
        (s.getF (F.RT0_VALID i) = 1 →
          exec (.routeRemove c i) s = .next ((s.setF (F.RT0_VALID i) 0).complete c opROUTE_REMOVE stOK))))

/-- A CIPHER request of a reserved OP, TAGLEN or slot completes INVALID_VALUE, of an endpoint key for another OP than
CCM_ENC or CCM_DEC KEY_USE, of a domain CPH not ON DOMAIN_DOWN once its key is there. With an entry, a tag and a key
it starts in the engine with the keys of its slot captured and completes nothing yet. When CIPHER_DONE compares the
blocks of the only request as equal, its entry and tag are free, and the command completes: OK with the output item
written whole and the input item released; AUTH_FAIL where a tag does not verify, with AUTHFAIL.HOST raised and the
input released; ITEM_SHORT with no input item; where they differ, CIPHER_FAULT and the mismatch counted.
(spec/10_cipher_keys.md (R247, R248, R250, R253, R259, R265); derived.) -/
def Obligations.CipherRequests : Prop :=
  ∀ (c : Cmd) (w : List Word) (s t x : State) (g : Nat) (r : CipherReq) (it : List Word) (key : List Byte) (e : OpTag) (spare : Nat),
    (s.runs c opCIPHER →
      (cqForm w = false → exec (.cipher c w) s = .next (s.complete c opCIPHER stINVALID_VALUE)) ∧
      (cqForm w = true → isDrawer (cqSlot w) = false → 3 ≤ cqOp w → exec (.cipher c w) s = .next (s.complete c opCIPHER stKEY_USE)) ∧
      (cqForm w = true → isDrawer (cqSlot w) = false → cqOp w < 3 → (s.keysOf (cqSlot w)).cur ≠ none → cqGen w = false →
        (s.domOn domCPH = false → exec (.cipher c w) s = .next (s.complete c opCIPHER stDOMAIN_DOWN)) ∧
        (s.domOn domCPH = true → 1024 ≤ s.cipher.reqs.length →
          exec (.cipher c w) s = .next ((s.bump F.CX_QSTAT_FULL).complete c opCIPHER stCIPHER_FULL)) ∧
        (s.domOn domCPH = true → s.cipher.reqs.length < 1024 → s.takeTag tcCIPHER = (t, some g) → t.cipher = s.cipher →
          t.map = s.map → t.dt = s.dt → ∃ q, exec (.cipher c w) s = .next { t with cipher := { s.cipher with reqs := s.cipher.reqs ++ [q] } } ∧
            q.tag = g ∧ q.requester = rqSession c.session ∧ q.cls = clHOST ∧ q.job = .host c w ∧ q.ended = none ∧
            q.cur = (s.keysOf (cqSlot w)).cur ∧ q.prev = (s.keysOf (cqSlot w)).prev ∧ q.started = s.ns))) ∧
    (s.cipher.reqs = [r] → s.cipher.held = [] → r.tag = e.val → r.ended = none → r.job = .host c w → cqGen w = false → r.cur = some key →
      x = ({ s with cipher := { s.cipher with reqs := [] } } : State).giveTag e →
      (x.qUsable (cqIn w) = true → x.qHeadLost (cqIn w) = false → x.qFront (cqIn w) = some it →
        x.qPoisoned (cqIn w) (x.qR (cqIn w)) it.length = false →
        (4 * (it.length - 1) < cqNeed w → exec (.cipherDone e true spare) s =
          .next ((x.takeInput (cqIn w)).complete c opCIPHER stITEM_SHORT)) ∧
        (cqNeed w ≤ 4 * (it.length - 1) → it ≠ [] →
          (cqResult w key (bytesOfWords (it.drop 1)) = none → exec (.cipherDone e true spare) s =
            .next (((x.takeInput (cqIn w)).bump F.CX_AUTHFAIL_HOST).complete c opCIPHER stAUTH_FAIL)) ∧
          (∀ o, cqResult w key (bytesOfWords (it.drop 1)) = some o →
            ((x.qHwItem (cqOut w) (.hw 7 0) (itemOf (wordsOfBytes o))).2 = true → exec (.cipherDone e true spare) s =
              .next (((x.qHwItem (cqOut w) (.hw 7 0) (itemOf (wordsOfBytes o))).1.takeInput (cqIn w)).complete c opCIPHER stOK)) ∧
            ((x.qHwItem (cqOut w) (.hw 7 0) (itemOf (wordsOfBytes o))).2 = false → exec (.cipherDone e true spare) s =
              .next ((x.qHwItem (cqOut w) (.hw 7 0) (itemOf (wordsOfBytes o))).1.complete c opCIPHER stOUT_FULL))))) ∧
      (x.qUsable (cqIn w) = false → exec (.cipherDone e true spare) s = .next (x.complete c opCIPHER stITEM_SHORT)) ∧
      exec (.cipherDone e false spare) s = .next (((x.takeInput (cqIn w)).complete c opCIPHER stCIPHER_FAULT).mismatch r.pair r.cls spare))

/-- The only request in the engine: when the verification of a frame ends, its entry and tag are free. A frame that
verifies under neither generation is dropped, its slot's AUTHFAIL and AUTHFAIL.FRAME are counted and AUTH_FAIL written
with entry and slot. One that verifies under the current generation, with an event counter above EVT_RX, leaves that
counter in EVT_RX and is routed as accepted; under both, CX_DUALKEY is counted as well; a counter below the stored one
is counted as a replay and the frame is not routed. When the securing of a relayed frame ends, the frame secured under
the captured current key with the assigned counter is written towards its next hop. A tag whose request is of another
kind changes nothing. (spec/09_radio_mac.md (R228, R245), spec/10_cipher_keys.md (R248, R259, R261, R262, R263);
derived.) -/
def Obligations.FramesVerifiedAndSecured : Prop :=
  ∀ (e : OpTag) (s x : State) (r : CipherReq) (f : RxFrame) (ep slot : Nat) (o : RelayOut) (key : List Byte),
    s.cipher.reqs = [r] → s.cipher.held = [] → r.tag = e.val → r.ended = none →
    x = ({ s with cipher := { s.cipher with reqs := [] } } : State).giveTag e →
    (r.job = .verify f ep slot → levelOk (secLevel f.body f.mac.secAt) (x.getF F.CX_SECCFG_MINLVL) = true →
      ((∀ k, r.cur = some k → verifyBytes k f.mac.tx f.mac.secAt f.body = none) →
        (∀ k, r.prev = some k → verifyBytes k f.mac.tx f.mac.secAt f.body = none) →
        exec (.frameVerified e) s = .next (x.verifyFailed f ep slot)) ∧
      (∀ k b, r.cur = some k → r.prev = none → verifyBytes k f.mac.tx f.mac.secAt f.body = some b →
        exec (.frameVerified e) s = .next (x.frameVerified { f with body := b } ep)) ∧
      (∀ k l b d, r.cur = some k → r.prev = some l → verifyBytes k f.mac.tx f.mac.secAt f.body = some b →
        verifyBytes l f.mac.tx f.mac.secAt f.body = some d →
        exec (.frameVerified e) s = .next ((x.bump F.CX_DUALKEY_COUNT).frameVerified { f with body := b } ep))) ∧
    (r.job = .verify f ep slot → levelOk (secLevel f.body f.mac.secAt) (x.getF F.CX_SECCFG_MINLVL) = false →
      exec (.frameVerified e) s = .next (x.verifyFailed f ep slot)) ∧
    (r.job = .relay o → exec (.frameVerified e) s = .next s ∧
      (r.cur = some key → exec (.frameSecured e) s = .next (x.relayWrite o (secureBytes key x.ownAddr r.counter (x.getF F.CX_SECCFG_TXLVL)
        (o.header ++ BitVec.ofNat 8 (x.getF F.CX_SECCFG_TXLVL) :: bytesLE 4 r.counter) o.payload)))) ∧
    (f.mac.sec = true → f.medium = 0 → x.sound = true → ep < 131072 →
      (x.getF (F.EP4_EVT_RX ep) < secCounter f.body f.mac.secAt → ∃ y : State, x.frameVerified f ep = y.accepted f ep ∧
        y.getF (F.EP4_EVT_RX ep) = secCounter f.body f.mac.secAt ∧
        y = { x with map := y.map, bench := y.bench, plc := y.plc, radio := { x.radio with lapsed := y.radio.lapsed } }) ∧
      ( secCounter f.body f.mac.secAt < x.getF (F.EP4_EVT_RX ep) → ∃ y : State, x.frameVerified f ep =
        (y.bump F.MC_RXSTAT2_REPLAY).ackNone f ∧ y.getF (F.EP4_EVT_RX ep) = x.getF (F.EP4_EVT_RX ep) ∧
        y = { x with map := y.map, plc := y.plc, radio := { x.radio with lapsed := y.radio.lapsed } }))

/-- A host entry without BENCH is refused with LAUNCH_LATE, counted, where its launch time is less than now and its
minimum lead, and with LAUNCH_RANGE more than 2^48 ns ahead; a COMMIT entry with INVALID_VALUE. One with a right
target, a driven edge pin, a right gain, its domain ON, in time and with room takes the free place freed least
recently and completes OK with its handle; nothing else changes but the twin's copy. A cancel that names a pending
host entry not due, not begun outside and with no item read ends it CANCELLED, its front-end write not yet sent
withdrawn; of one due or begun outside it completes TOO_LATE; of a handle nothing ever had, NOT_FOUND. LAUNCH_STAGE
marks an entry not yet due whose time is at most 2 µs ahead, and none whose time is further ahead.
(spec/04_timebase_launch.md (R96, R97, R98, R99, R100, R101), spec/12_host_link.md (R305); derived.) -/
def Obligations.LaunchInsertsAndCancels : Prop :=
  ∀ (c : Cmd) (w : List Word) (s : State) (i g h : Nat) (k : EntryId) (p : Pool) (e : LqEntry) (l : List Word), l = (List.range 8).map (wordAt w) →
    leBench l = false → (leHasAngle l = true → leAnglePort l < 96) →
    (s.runs c opLAUNCH → s.hostForm l = true → leTargetOk l = true →
        (leType l = leTypeEVENT_EDGE → s.getF (F.TB_EVTCFG_DIR (leIndex l)) = 1) → (leType l = leTypeGAIN → leGainOk l = true) →
        s.mode.mode ≠ .DRAIN → (∀ d, leDomain l = some d → s.domOn d = true) →
      (leTime16 l < (s.ns + leLead l) * 65536 + s.frac →
        exec (.launch c w) s = .next ((s.bump F.TB_LQMISS_LATE).complete c opLAUNCH stLAUNCH_LATE)) ∧
      ((s.ns + 2 ^ 48) * 65536 + s.frac < leTime16 l → exec (.launch c w) s = .next (s.complete c opLAUNCH stLAUNCH_RANGE)) ∧
      ((s.ns + leLead l) * 65536 + s.frac ≤ leTime16 l → leTime16 l ≤ (s.ns + 2 ^ 48) * 65536 + s.frac →
        (2048 ≤ s.launch.entries.length →
          exec (.launch c w) s = .next ((s.bump F.TB_LQSTAT_REFUSED).complete c opLAUNCH stLAUNCH_FULL)) ∧
        (s.launch.entries.length < 2048 → s.launch.pool.take 2048 32 = some (i, g, p) → ∃ t : State,
          exec (.launch c w) s = .next (t.complete c opLAUNCH stOK [BitVec.ofNat 32 (i + g * 2048)]) ∧
          t.launch.pool = p ∧ t.launch.seq = s.launch.seq + 1 ∧
          t.launch.entries = s.launch.entries ++ [{ entry := i, gen := g, words := l, inserter := .host, seq := s.launch.seq }] ∧
          t = { s with launch := t.launch, bench := t.bench }))) ∧
    (s.runs c opLAUNCH → leType l = leTypeCOMMIT → exec (.launch c w) s = .next (s.complete c opLAUNCH stINVALID_VALUE)) ∧
    (s.runs c opLAUNCH_CANCEL → s.lqAt (h % 2048) = some e → e.gen = h / 2048 % 32 → e.words = l → e.inserter = .host → e.item = none →
        afind s.chirp.sending e.port = none →
      (s.lqDue e = true ∨ e.outside = true →
        exec (.launchCancel c w h) s = .next (s.complete c opLAUNCH_CANCEL stTOO_LATE)) ∧
      (s.lqDue e = false → e.outside = false → exec (.launchCancel c w h) s =
        .next (((s.dropOfs e.entry).launchDone e stCANCELLED).complete c opLAUNCH_CANCEL stOK))) ∧
    (s.runs c opLAUNCH_CANCEL → s.lqAt (h % 2048) = none → afind s.launch.past (h % 2048) = none →
      exec (.launchCancel c w h) s = .next (s.complete c opLAUNCH_CANCEL stNOT_FOUND)) ∧
    (s.lqAt k = some e → e.due = none → leHasAngle e.words = false →
      (leTime16 e.words ≤ (s.ns + 2000) * 65536 + s.frac → ∃ t, exec (.launchStage k) s = .next t ∧
        t.lqAt k = some { e with staged := true } ∧ t = { s with launch := { s.launch with entries := t.launch.entries } }) ∧
      ((s.ns + 2000) * 65536 + s.frac < leTime16 e.words → exec (.launchStage k) s = .next s))

/-- For an entry of its type that is due, first in the order of R100 and that nothing stops: PLC_BAND with a mask within
BANDS becomes LIVE of its port, one outside changes nothing and reports BAND_OFF; RF_TUNE, RF_PROFILE and GAIN of an
RF pair whose front-end accepted the write are in force, one unanswered reports RFC_TIMEOUT, counted; GAIN of a line
port sets its transmit attenuator or receive step from the first LINE cycle not before the launch tick; EVENT_EDGE
drives the pin, stamped, unless the pin has become an input; MARKER is kept with its time for the first sample of its
port at or after it. Each reports and frees its entry. Where the mode, its domain or an unlocked tracker stops it the
entry ends with that status; an entry not yet due, or of another type, stays as it is. (spec/04_timebase_launch.md
(R99, R100, R102, R110), spec/05_sample_chain.md (R113, R117, R137, R138), spec/06_plc_phy.md (R161); derived.) -/
def Obligations.LaunchedActionsTakeEffect : Prop :=
  ∀ (i : EntryId) (s : State) (e : LqEntry) (st : Nat), s.lqAt i = some e →
    (s.lqReady e = true → s.actionStop e = none →
      (leType e.words = leTypePLC_BAND →
        ((∀ b < 4, (wordAt e.words 5).bit b = true → s.getF (F.SC_LPCFG_BANDS e.port) / 2 ^ b % 2 = 1) → exec (.plcBand i) s =
          .next (((s.setF (F.PL_PORTLIVE_LIVE e.port) ((wordAt e.words 5).field 3 0)).rxFollowPort e.port).launchDone e (leOK e.words))) ∧
        ((∃ b < 4, (wordAt e.words 5).bit b = true ∧ s.getF (F.SC_LPCFG_BANDS e.port) / 2 ^ b % 2 = 0) →
          exec (.plcBand i) s = .next (s.launchDone e lpBAND_OFF))) ∧
      (leType e.words = leTypeRF_TUNE →
        (e.rfc = 1 → exec (.rfTune i) s =
          .next ((s.setF (F.CH_TUNED_FREQ (leIndex e.words)) (wordAt e.words 5).toNat).launchDone e (leOK e.words))) ∧
        (e.rfc = 2 → exec (.rfTune i) s =
          .next ((s.launchDone e stRFC_TIMEOUT).bump (F.SC_RFCSTAT_TIMEOUT (leIndex e.words / 2))))) ∧
      (leType e.words = leTypeRF_PROFILE → e.rfc = 1 → exec (.rfProfile i) s =
        .next ((s.setF (F.CH_PAIRSTAT_PROFILE (leIndex e.words)) ((wordAt e.words 5).field 3 0)).launchDone e (leOK e.words))) ∧
      (leType e.words = leTypeGAIN → leKind e.words = 0 →
        ((wordAt e.words 5).bit 7 = true → ∃ y, y = s.setF (F.SC_LPGAIN_TXATT (leIndex e.words)) ((wordAt e.words 5).field 4 0) ∧
          (s.getF (F.SC_LPGAIN_TXATT (leIndex e.words)) = (wordAt e.words 5).field 4 0 → exec (.gain i) s = .next (y.launchDone e (leOK e.words))) ∧
          (s.getF (F.SC_LPGAIN_TXATT (leIndex e.words)) ≠ (wordAt e.words 5).field 4 0 → exec (.gain i) s =
            .next ((y.emitOut (.lineAtt (leIndex e.words) ((wordAt e.words 5).field 4 0) (lineAt s.now16))).launchDone e (leOK e.words)))) ∧
        ((wordAt e.words 5).bit 7 = false → exec (.gain i) s =
          .next ((s.setRxGain (leIndex e.words) ((wordAt e.words 5).field 4 0) (lineAt s.now16)).launchDone e (leOK e.words)))) ∧
      (leType e.words = leTypeGAIN → leKind e.words = 3 → (wordAt e.words 5).bit 7 = false → e.rfc = 1 → exec (.gain i) s =
        .next ((s.setF (F.CH_PAIRSTAT_RXSTEP (leIndex e.words)) ((wordAt e.words 5).field 5 0)).launchDone e (leOK e.words))) ∧
      (leType e.words = leTypeEVENT_EDGE →
        (s.getF (F.TB_EVTCFG_DIR (leIndex e.words)) = 0 → exec (.eventEdge i) s = .next (s.launchDone e stINVALID_VALUE)) ∧
        (s.getF (F.TB_EVTCFG_DIR (leIndex e.words)) = 1 → ∃ y : State, exec (.eventEdge i) s = .next (y.launchDone e (leOK e.words)) ∧
          y.out = s.out ++ [.edge (leIndex e.words) ((wordAt e.words 5).bit 0) (s.lqNs e)] ∧
          (leIndex e.words ∈ y.launch.levels ↔ (wordAt e.words 5).bit 0 = true) ∧
          (∀ m, m ≠ leIndex e.words → (m ∈ y.launch.levels ↔ m ∈ s.launch.levels)) ∧
          y = { s with out := y.out, launch := { s.launch with levels := y.launch.levels } })) ∧
      (leType e.words = leTypeMARKER →
        (leKind e.words = 0 → ∃ c, c = s.stream (leIndex e.words) ∧ exec (.marker i) s = .next ((s.setStream (leIndex e.words)
          { c with marks := c.marks ++ [(s.lqTime16 e).getD (leTime16 e.words)] }).launchDone e (leOK e.words))) ∧
        (leKind e.words ≠ 0 → ∃ l, l = s.rfLink (leIndex e.words) ∧ exec (.marker i) s = .next ((s.setRfLink (leIndex e.words)
          { l with marks := l.marks ++ [(s.lqTime16 e).getD (leTime16 e.words)] }).launchDone e (leOK e.words))))) ∧
    (s.lqReady e = true → s.actionStop e = some st → leType e.words = leTypePLC_BAND → exec (.plcBand i) s = .next (s.launchDone e st)) ∧
    (s.lqReady e = true → s.actionStop e = some st → leType e.words = leTypeMARKER → exec (.marker i) s = .next (s.launchDone e st)) ∧
    (s.lqReady e = false ∨ leType e.words ≠ leTypePLC_BAND → exec (.plcBand i) s = .next s) ∧
    (s.lqReady e = false ∨ leType e.words ≠ leTypeEVENT_EDGE → exec (.eventEdge i) s = .next s) ∧
    (s.lqReady e = false ∨ leType e.words ≠ leTypeRF_TUNE → exec (.rfTune i) s = .next s) ∧
    (s.lqReady e = false ∨ leType e.words ≠ leTypeRF_PROFILE → exec (.rfProfile i) s = .next s) ∧
    (s.lqReady e = false ∨ leType e.words ≠ leTypeGAIN → exec (.gain i) s = .next s) ∧
    (s.lqReady e = false ∨ leType e.words ≠ leTypeMARKER → exec (.marker i) s = .next s) ∧
    (s.mode.mode = .FAULT → s.sentBefore = none → s.actionStop e = some stMODE_SILENT) ∧
    (s.mode.mode ≠ .FAULT → leKind e.words = 0 → s.domOn (domOfLine (leIndex e.words)) = false → s.actionStop e = some stDOMAIN_DOWN)

/-- A whole frame on an ALIGNED link whose CRC is bad is discarded and counted in CRCERR; what is no whole receive frame
is discarded; on a link OFF nothing changes. A good frame that follows the last on an ALIGNED link and is in time,
with lock unchanged, no step pending and no clipping, makes its counter the last, shows it in SC_RFCNT, and its pairs
go out channelised; nothing else changes where no stream is lent. 12.5 us after the stamp of the next frame's pair 0
an ALIGNED link enters GAP; before, nothing changes. The first control-link write of a link in time that no rule stops
is sent as the 80 bits of R136: accepted, it waits for its launch time; refused, it ends RFC_NAK; unanswered for the
first time with time left, it is sent again. A parity error stops its lane, sets PARERR and records the word. A
capture item is 64 lane words behind their stamp, or a drop counted in CAPDROP; the words of a lane that did not run
are zero and INV. (spec/05_sample_chain.md (R124, R127, R129, R130, R131, R132, R136, R138); derived.) -/
def Obligations.SampleChainEvents : Prop :=
  ∀ (n : RfPort) (ch : List LinkChar) (k : RfcLink) (lane : Lane) (word x : Nat) (p : LinePort) (lv : List ModSample) (e : LqEntry) (s : State),
    (s.getF (F.SC_RFSTAT_STATE n) = 0 → exec (.rfRxFrame n ch) s = .next s) ∧
    (s.getF (F.SC_RFSTAT_STATE n) = 2 → rfFrameWhole ch = true → frameCrcOk ch = false → exec (.rfRxFrame n ch) s =
      .next ((s.setRfLink n { s.rfLink n with cand := none }).bump (F.SC_RFSTAT_CRCERR n))) ∧
    (s.getF (F.SC_RFSTAT_STATE n) = 2 → rfFrameWhole ch = false →
      exec (.rfRxFrame n ch) s = .next (s.setRfLink n { s.rfLink n with cand := none })) ∧
    (s.getF (F.SC_RFSTAT_STATE n) = 2 → rfFrameGood ch = true → (rfChg ch).testBit 7 = false → (rfFlags ch).testBit 1 = true →
        (rfFlags ch).testBit 0 = false → (s.rfLink n).locked = true → (s.rfLink n).last = some x →
        s.rfExtend n (rfCounter ch) (s.rfArrival n) = x + 32 → s.rfStamp n (x + 32 : Nat) ≤ s.now16 →
        (s.now16 : Int) ≤ s.rfStamp n (x + 32 : Nat) + 12500 * 65536 → (∀ d ∈ s.chirp.demods, d.lender = none) →
      ∃ (t : State) (o : List Out), exec (.rfRxFrame n ch) s = .next t ∧ (t.rfLink n).last = some (x + 32) ∧
        t = { s with map := t.map, sample := t.sample, out := s.out ++ o } ∧ s.wordsKept t [F.SC_RFCNT_LO n, F.SC_RFCNT_HI n] ∧
        o.length = (x + 64 - (s.rfLink n).next) / s.chanPairs n) ∧
    ((s.rfLink n).last = some x →
      (s.getF (F.SC_RFSTAT_STATE n) = 2 → s.rfStamp n (x + 32) + 12500 * 65536 ≤ s.now16 →
        exec (.rfFrameMissing n) s = .next ((((s.setRfLink n { s.rfLink n with missing := some (x + 32), cand := none }).rfState n 3
          false).gapDemods n).chanGap n)) ∧
      ((s.now16 : Int) < s.rfStamp n (x + 32) + 12500 * 65536 → exec (.rfFrameMissing n) s = .next s)) ∧
    (s.rfcNext k = some e → s.ns + 2000 ≤ s.lqNs e →
        (leType e.words = leTypeRF_TUNE → s.inTransmit (leIndex e.words) (s.lqNs e) = false) → e.rfc = 0 →
      (∃ y : State, (∀ rd, exec (.rfcTransaction k (.accept rd)) s = .next (y.lqUpdate e.entry fun z => { z with rfc := 1, outside := true })) ∧
        exec (.rfcTransaction k .nak) s = .next ((y.launchDone e stRFC_NAK).bump (F.SC_RFCSTAT_NAK k)) ∧
        (s.ns + 4480 ≤ s.lqNs e →
          exec (.rfcTransaction k .none) s = .next (y.lqUpdate e.entry fun z => { z with rfc := 2, outside := true })) ∧
        (s.lqNs e < s.ns + 4480 →
          exec (.rfcTransaction k .none) s = .next ((y.launchDone e stRFC_TIMEOUT).bump (F.SC_RFCSTAT_TIMEOUT k))) ∧
        y = { s with out := s.out ++ [.rfc k (rfcBits false (leIndex e.words) false (rfcOf e.words).1
          (s.rfCount (leIndex e.words) (s.lqNs e)) (rfcOf e.words).2)] })) ∧
    (s.rfcNext k = none → s.sample.rfc = [] → ∀ resp, exec (.rfcTransaction k resp) s = .next s) ∧
    exec (.laneParityError lane word) s =
      .next (((s.setRun lane false).setF (F.SC_LANESTAT_PARERR lane) 1).report 2 0 lane word).1 ∧
    (96 ≤ s.getF (F.SC_LANECFG_PORT lane) → s.setRun lane false = s.setF (F.SC_LANECTL_RUN lane) 0) ∧
    ((s.stream p).capNext = some x → s.getF (F.SC_LPCAP_EN p) = 1 → s.lineActive p = true → (x + 63) * s.period16 p ≤ s.now16 →
      ∃ (c : PortStream) (ws : List Word) (sat : Nat) (z : State), ws.length = 64 ∧
        (∀ j < 64, s.ranAt p ((x + j) * s.period16 p) = false → (ws.getD j 0).field 19 0 = 0 ∧ (ws.getD j 0).bit 23 = true) ∧
        z = ((s.setStream p { c with capNext := some (x + 64) }).bump (F.SC_LANESTAT_SAT (s.getF (F.SC_LPCFG_LANE p))) sat).bump
          (F.SC_LPSTAT_OVL p) (ws.filter (·.bit 21)).length ∧
        exec (.captureItem p lv) s = .next (match z.qHwItem (s.getF (F.SC_LPCAP_QUEUE p)) (.hw 3 p)
            (itemOf (lo32 (x * s.period16 p / 65536) :: hi32 (x * s.period16 p / 65536) :: ws)) with
          | (r, true) => r
          | (r, false) => r.bump (F.SC_LPSTAT_CAPDROP p)))

/-- In LOAD from the host: an offer of session 0 inside a permitted window is taken and its read issued; outside LOAD, or
while the boot flash is the source, LOAD_IMAGE completes MODE_REFUSED. A read that ends without its bytes completes
DMA_ERROR and the loader waits 10 s more; the third failure gives up with cause NO_IMAGE, as does the passing of the
limit with no offer, and a flash that does not answer. Bytes read complete the command OK and are checked in the order
of R47: the first check that fails gives the load up with its cause and section, and else the structure is live and
the mode is CHECK. Giving up makes the mode DEFAULTED with its self-test to come. (spec/02_bitas_image.md (R46, R47,
R48, R49), spec/03_modes_power_reset.md (R59, R63), spec/12_host_link.md (R305, R318); derived.) -/
def Obligations.ImagesOfferedReadAndGivenUp : Prop :=
  ∀ (c : Cmd) (host len cause ty : Nat) (b : List Byte) (im : Image) (s u : State), s.bench.heldReqs = [] → u = s.readEnd .image →
    (s.runs c opLOAD_IMAGE →
      (s.mode.mode ≠ .LOAD ∨ s.hostSource = false ∨ c.session.val ≠ 0 →
        exec (.loadImage c host len) s = .next (s.complete c opLOAD_IMAGE stMODE_REFUSED)) ∧
      (s.mode.mode = .LOAD → s.hostSource = true → c.session.val = 0 → s.mode.loadCmd = none → s.hostOk host len false = true →
        exec (.loadImage c host len) s = .next (State.readIssue { s with mode := { s.mode with loadCmd := some (c, len) } } .image))) ∧
    (s.mode.mode = .LOAD → s.hostSource = true → s.mode.loadCmd = some (c, len) →
      (s.mode.loadFailures < 2 → ∃ y, exec (.loadAttemptFailed .dmaError) s = .next y ∧
        y.mode = { s.mode with loadCmd := none, loadFailures := s.mode.loadFailures + 1, loadLimit := s.ns + 10000000000 } ∧
        y = { u.complete c opLOAD_IMAGE stDMA_ERROR with mode := y.mode }) ∧
      (2 ≤ s.mode.loadFailures → ∃ y, exec (.loadAttemptFailed .dmaError) s = .next (State.loadFail y lcNO_IMAGE 0) ∧
        y = { u.complete c opLOAD_IMAGE stDMA_ERROR with mode := y.mode }) ∧
      (∀ y : State, s.readTag .image ≠ none → y = u.complete c opLOAD_IMAGE stOK →
        (checkImage (b.take len) len false (y.getF F.MD_ID_STEPPING) y.fusedDigest = .error (cause, ty) →
          exec (.imageReadDone b) s = .next (y.loadFail cause ty)) ∧
        (checkImage (b.take len) len false (y.getF F.MD_ID_STEPPING) y.fusedDigest = .ok im → (y.built im).inconsistent = none →
          exec (.imageReadDone b) s = .next (y.loadImage im)))) ∧
    (s.mode.mode = .LOAD → s.hostSource = true → s.mode.loadCmd = none →
      (s.mode.loadLimit + 2000 ≤ s.ns → exec .loadTimeout s = .next (s.loadFail lcNO_IMAGE 0)) ∧
      (s.ns < s.mode.loadLimit + 2000 → exec .loadTimeout s = .next s)) ∧
    (s.mode.mode = .LOAD → s.hostSource = false → exec .noImage s = .next (s.loadFail lcNO_IMAGE 0)) ∧
    ((s.loadFail cause ty).mode.mode = .DEFAULTED ∧ (s.loadFail cause ty).mode.testing = true ∧ (s.loadImage im).mode.mode = .CHECK)

/-- A request that runs: RUN in QUIET with TWIN_ACTIVE_N high or no twin enters RUN with cause 0x06, pulling the line low
where there is a twin; in STANDBY under HOLD_STANDBY it enters ACQUIRE and acquisition starts; QUIET in RUN enters
QUIET with cause 0x08 and, by the model's choice (log entry 72), releases the line once nothing is sent; SHADOW in RUN
or QUIET with a twin enters SHADOW with cause 0x09 and the line is released once nothing is sent; DRAIN in a mode from
LOAD to SHADOW enters DRAIN; FAULT_ACK in FAULT stops the watchdog. Each completes OK. A request whose mode or guard
is another leaves the mode, sets REFUSED and completes MODE_REFUSED. A mode change records the old mode as the
previous one and clears DEF_TX. (spec/03_modes_power_reset.md (R63, R64, R67, R72, R80); derived.) -/
def Obligations.ModeRequestsOfTheHost : Prop :=
  ∀ (c : Cmd) (low : Bool) (m : Mode) (cause : Nat) (s z : State), s.runs c opWRITE →
    z = { s with mode := { s.mode with twinOther := low } } →
    (s.mode.mode = .QUIET → (low = false ∧ s.mode.twinDriven = false) ∨ s.getF F.MD_BOOTCFG_TWIN_ROLE = 0 → ∃ t : State,
      exec (.reqRun c low) s = .next (t.complete c opWRITE stOK) ∧ t.mode.mode = .RUN ∧ t.mode.prev = 8 ∧
      (t.mode.twinDriven = true ↔ s.getF F.MD_BOOTCFG_TWIN_ROLE ≠ 0) ∧ t.map = (z.changeMode .RUN 0x06).map) ∧
    (s.mode.mode = .STANDBY → s.getF F.MD_BOOTCFG_HOLD_STANDBY ≠ 0 →
      exec (.reqRun c low) s = .next (((z.changeMode .ACQUIRE 0x06).beginAcquire).complete c opWRITE stOK)) ∧
    (¬ (s.mode.mode = .QUIET ∧ ((low = false ∧ s.mode.twinDriven = false) ∨ s.getF F.MD_BOOTCFG_TWIN_ROLE = 0)) →
      ¬ (s.mode.mode = .STANDBY ∧ s.getF F.MD_BOOTCFG_HOLD_STANDBY ≠ 0) →
      exec (.reqRun c low) s = .next (State.complete { z with mode := { z.mode with refused := true } } c opWRITE stMODE_REFUSED)) ∧
    (s.mode.mode = .RUN → ∃ y : State, y = s.changeMode .QUIET 0x08 ∧ exec (.reqQuiet c) s = .next (State.complete
      (State.twinSettle { y with mode := { y.mode with twinReleasing := y.mode.twinDriven } }) c opWRITE stOK)) ∧
    (s.mode.mode ≠ .RUN → exec (.reqQuiet c) s =
      .next (State.complete { s with mode := { s.mode with refused := true } } c opWRITE stMODE_REFUSED)) ∧
    (s.mode.mode = .RUN ∨ s.mode.mode = .QUIET → s.getF F.MD_BOOTCFG_TWIN_ROLE ≠ 0 → ∃ t : State,
      exec (.reqShadow c) s = .next (t.complete c opWRITE stOK) ∧ t.mode.mode = .SHADOW ∧ t.mode.lastTwin = s.ns ∧
      (s.mode.twinDriven = true → (t.mode.twinDriven = true ↔ s.sending = true))) ∧
    (¬ ((s.mode.mode = .RUN ∨ s.mode.mode = .QUIET) ∧ s.getF F.MD_BOOTCFG_TWIN_ROLE ≠ 0) → exec (.reqShadow c) s =
      .next (State.complete { s with mode := { s.mode with refused := true } } c opWRITE stMODE_REFUSED)) ∧
    (s.mode.mode.canDrain = true → exec (.reqDrain c) s = .next ((s.enterDrain none).complete c opWRITE stOK)) ∧
    (s.mode.mode.canDrain = false → exec (.reqDrain c) s =
      .next (State.complete { s with mode := { s.mode with refused := true } } c opWRITE stMODE_REFUSED)) ∧
    (s.mode.mode = .FAULT → exec (.faultAck c) s =
      .next (State.complete { s with mode := { s.mode with wdogStart := none } } c opWRITE stOK)) ∧
    (s.mode.mode ≠ .FAULT → exec (.faultAck c) s =
      .next (State.complete { s with mode := { s.mode with refused := true } } c opWRITE stMODE_REFUSED)) ∧
    ((s.changeMode m cause).mode.mode = m ∧ (s.changeMode m cause).mode.prev = s.mode.mode.num ∧ (s.changeMode m cause).mode.defTx = false ∧
      (s.changeMode m cause).map = (s.notice ncMODE_CHANGE 0 [(8, s.mode.mode.num), (8, m.num), (8, cause)]).map)

/-- A full reset leaves the map and queue memory at their reset values, nothing launched, held or waiting but the commands
not yet taken, the mode COLD with the cause, the flags and the mode before it, and keeps the ledger's copies and the
fuses. RESET_PIN resets with cause 1; WATCHDOG_RESET, once WDOG times 100 ms, in whole cycles of 32.768 kHz rounded
up, have passed in FAULT, with cause 2, and not before; a FULL_RESET without GRACEFUL with cause 4 and its HOST_LOAD
flag, with GRACEFUL in a working mode enters DRAIN, in FAULT resets at once; a directive of the master on a member
likewise with cause 3 after its acknowledgement. A loss of the supplies leaves mode OFF, the fuses, and the ledger
copies. (spec/03_modes_power_reset.md (R67, R71, R72, R73, R80), spec/17_electrical.md (R409); derived.) -/
def Obligations.ResetsKeepLedgerFusesAndCause : Prop :=
  ∀ (o : ResetSources) (c : Cmd) (gr hl : Bool) (from_ : Member) (tag : OpTag) (t0 cause seen : Nat) (s : State),
    (s.fuse.busy = false → ∃ t, t = s.fullReset cause gr hl seen ∧ t.map = [] ∧ t.qmem = [] ∧ t.dt = 0 ∧ t.tick = s.tick ∧ t.pending = s.pending ∧
      t.out = s.out ∧ t.notices = {} ∧ t.host = {} ∧ t.launch = {} ∧ t.txn = {} ∧ t.cipher = {} ∧ t.faults = {} ∧
      t.service.copies = s.service.copies ∧ t.fuse = { blown := s.fuse.blown, digest := s.fuse.digest } ∧
      t.mode = { prev := s.mode.mode.num, cause := cause, graceful := gr, hostLoad := hl, seen := seen }) ∧
    (s.mode.mode ≠ .OFF → exec (.resetPin o) s = .next (s.fullReset 1 false false (seenBits { o with pin := true }))) ∧
    (s.mode.mode = .FAULT → s.mode.wdogStart = some t0 → o.pin = false →
      (aonCount t0 + s.wdogCycles ≤ aonCount s.tick →
        exec (.watchdogReset o) s = .next (s.fullReset 2 false false (seenBits { o with watchdog := true }))) ∧
      (aonCount s.tick < aonCount t0 + s.wdogCycles → exec (.watchdogReset o) s = .next s)) ∧
    (s.runs c opFULL_RESET →
      (c.f16 = false → s.mode.mode ≠ .FAULT → exec (.fullReset c) s = .next (s.fullReset 4 false c.f17 8)) ∧
      (c.f16 = true → s.mode.mode.canDrain = true →
        exec (.fullReset c) s = .next (s.enterDrain (some { cause := 4, hostLoad := c.f17 }))) ∧
      (s.mode.mode = .FAULT → exec (.fullReset c) s = .next (s.fullReset 4 false false 8))) ∧
    (s.benchRole = roleMEMBER → from_.val = 0 → s.benchSeen from_ tag = none →
      (gr = false → (s.benchReply from_ tag stOK []).mode.mode ≠ .FAULT → exec (.resetDirective gr hl from_ tag) s =
        .next ((s.benchReply from_ tag stOK []).fullReset 3 false hl 4)) ∧
      (gr = true → (s.benchReply from_ tag stOK []).mode.mode.canDrain = true → exec (.resetDirective gr hl from_ tag) s =
        .next ((s.benchReply from_ tag stOK []).enterDrain (some { cause := 3, hostLoad := hl })))) ∧
    (s.benchRole ≠ roleMEMBER → exec (.resetDirective gr hl from_ tag) s = .next s) ∧
    (s.mode.mode ≠ .OFF → s.fuse.busy = false → s.service.writes = [] → ∃ t, exec .supplyLoss s = .next t ∧ t.mode.mode = .OFF ∧
      t.map = [] ∧ t.qmem = [] ∧ t.fuse = { blown := s.fuse.blown, digest := s.fuse.digest } ∧ t.service = { copies := s.service.copies })

/-- SUPPLIES_UP in OFF enters COLD; COLD_TO_LOAD in COLD enters LOAD with device time zero and the straps sampled. A
self-test of CHECK with no failed unit enters STANDBY with cause 0x03, settles the domains the structure powers down,
and without HOLD_STANDBY enters ACQUIRE and starts acquisition; that of DEFAULTED ends there and starts acquisition in
DEFAULTED. With both conditions of R92, ACQUIRE_COMPLETE enters SHADOW for a SECONDARY, else QUIET under START_QUIET,
else RUN; DEF_TX_START sets DEF_TX. Without them, or in another mode, each changes nothing. In SHADOW: a PRIMARY that
senses the line high enters RUN with cause 0x0A, TWIN_TAKEOVER is written, and the line and the mirrored entries
follow 1 us later; a SECONDARY only waits to sense it again, 5 us later takes over if it is still high and stays in
SHADOW if it is low. Silence of TWIN_MISS ms with the line low is reported once. A device that drives the line sends
every update mirrored since the last message on an UP twin group. A message received in SHADOW renews the silence
limit and its records are applied in order: an event counter record sets EVT_TX and EVT_RX of its entry, a beacon
record its sequence number; in another mode but RUN none is applied. One received in RUN is a conflict: reported, and
the larger member number enters SHADOW. (spec/03_modes_power_reset.md (R62, R63, R68, R69, R70, R425),
spec/04_timebase_launch.md (R92), spec/14_bench_peer.md (R356), spec/17_electrical.md (R408); derived.) -/
def Obligations.BootAcquisitionAndTwin : Prop :=
  (∀ (s : State) (a b : Bool) (l : List UnitRef),
    (s.mode.mode = .OFF → ∃ t, exec .suppliesUp s = .next t ∧ t.mode = {} ∧ t.service.powered = s.tick ∧ t.service.copies = s.service.copies ∧
      t = { s with mode := t.mode, service := t.service }) ∧
    (s.mode.mode ≠ .OFF → exec .suppliesUp s = .next s) ∧
    (s.mode.mode = .COLD → ∃ t, exec (.coldToLoad a b) s = .next t ∧ t.dt = 0 ∧
      t.mode = { s.mode with mode := .LOAD, prev := 1, bootSrc := a, benchMasterN := b, loadLimit := 10000000000 } ∧
      t = { s.setF F.MD_ID_AUTHBOOT (boolNat s.fuse.blown) with dt := t.dt, mode := t.mode }) ∧
    (s.mode.mode ≠ .COLD → exec (.coldToLoad a b) s = .next s) ∧
    (s.mode.mode = .CHECK → exec (.selfTestDone []) s = .next ((s.changeMode .STANDBY 0x03).settleDomains).leaveStandby) ∧
    (s.getF F.MD_BOOTCFG_HOLD_STANDBY = 1 → s.leaveStandby = s) ∧
    (s.getF F.MD_BOOTCFG_HOLD_STANDBY = 0 → s.leaveStandby = (s.changeMode .ACQUIRE 0x05).beginAcquire) ∧
    (s.mode.mode ≠ .CHECK → exec (.selfTestDone l) s = .next s) ∧
    (s.mode.mode = .DEFAULTED → s.mode.testing = true → exec (.defaultedTestDone []) s =
      .next (State.settleDomains { s with mode := { s.mode with testing := false } }).beginAcquire) ∧
    (s.mode.testing = false → exec (.defaultedTestDone l) s = .next s) ∧
    (s.timeCondition = true → s.mainsCondition = true →
      (s.mode.mode = .ACQUIRE → s.getF F.MD_BOOTCFG_TWIN_ROLE = 2 → exec .acquireComplete s = .next (s.enterShadow 0x07)) ∧
      (s.mode.mode = .ACQUIRE → s.getF F.MD_BOOTCFG_TWIN_ROLE ≠ 2 → s.getF F.MD_BOOTCFG_START_QUIET = 1 →
        exec .acquireComplete s = .next (s.changeMode .QUIET 0x07)) ∧
      (s.mode.mode = .ACQUIRE → s.getF F.MD_BOOTCFG_TWIN_ROLE ≠ 2 → s.getF F.MD_BOOTCFG_START_QUIET = 0 →
        exec .acquireComplete s = .next (s.enterRun 0x07)) ∧
      (s.mode.mode = .DEFAULTED → s.mode.testing = false → s.mode.acquiring = true →
        exec .defTxStart s = .next { s with mode := { s.mode with defTx := true } })) ∧
    (s.timeCondition = false ∨ s.mainsCondition = false → exec .acquireComplete s = .next s ∧ exec .defTxStart s = .next s)) ∧
  (∀ (low : Bool) (g : Group) (l : List TwinRecord) (e : EntryId) (ep : EndpointId) (tx rx : Word) (t0 : Nat) (s z : State),
    (s.mode.mode = .SHADOW →
      (s.getF F.MD_BOOTCFG_TWIN_ROLE = 2 →
        exec .twinTakeover s = .next { s with mode := { s.mode with twinOther := false, twinRecheck := some s.ns } }) ∧
      (s.getF F.MD_BOOTCFG_TWIN_ROLE ≠ 2 → ∃ t : State, exec .twinTakeover s = .next t ∧ t.mode.mode = .RUN ∧ t.mode.prev = 9 ∧
        t.service.takeovers = s.service.takeovers + 1 ∧ t.service.takeoverTime = s.ns ∧
        t.mode.takeoverAt = some s.ns ∧ t.launch = s.launch ∧ t.plc.resuming = (List.range 96).filter s.lineActive) ∧
      (s.mode.twinRecheck = some t0 → s.ns < t0 + 5000 → exec (.twinRecheck low) s = .next s) ∧
      (s.mode.twinRecheck = some t0 → t0 + 5000 ≤ s.ns → low = true →
        exec (.twinRecheck low) s = .next { s with mode := { s.mode with twinRecheck := none, twinOther := true } }) ∧
      (s.mode.twinRecheck = some t0 → t0 + 5000 ≤ s.ns → low = false → ∃ t : State, exec (.twinRecheck low) s = .next t ∧
        t.mode.mode = .RUN ∧ t.mode.takeoverAt = some s.ns)) ∧
    (s.mode.mode ≠ .SHADOW → exec .twinTakeover s = .next s ∧ exec (.twinRecheck low) s = .next s ∧ exec .twinLinkLost s = .next s) ∧
    (s.mode.mode = .SHADOW → s.mode.twinOther = true → s.mode.twinLost = false → s.mode.lastTwin + s.getF F.MD_BOOTCFG_TWIN_MISS * 1000000 ≤ s.ns →
      exec .twinLinkLost s = .next (State.notice { s with mode := { s.mode with twinLost := true } } ncTWIN_LINK_LOST 0 [])) ∧
    (s.mode.twinLost = true ∨ s.mode.twinOther = false → exec .twinLinkLost s = .next s) ∧
    (s.mode.twinDriven = true → s.twinGroup = some g.val → s.groupUp g = true → exec (.twinSend g) s =
      .next (State.sendOn { s with bench := { s.bench with twin := [] } } g ((s.expected g).getD 0) 0 false 0 (.twin s.bench.twin))) ∧
    (s.twinGroup = some g.val → s.groupUp g = true →
      (s.mode.mode = .SHADOW → z = { s with mode := { s.mode with lastTwin := s.ns, twinLost := false, twinOther := s.mode.twinOther || s.mode.twinRecheck.isNone } } →
        exec (.twinMessage g []) s = .next z ∧
        exec (.twinMessage g [.eventCounter ep tx rx]) s = .next ((z.setWord (F.EP3 ep) tx).setWord (F.EP4 ep) rx) ∧
        exec (.twinMessage g [.launchRemoval e]) s =
          .next { z with launch := { s.launch with mirrored := s.launch.mirrored.filter (·.1 != e.val) } }) ∧
      (s.mode.mode = .QUIET → exec (.twinMessage g l) s = .next { s with mode := { s.mode with lastTwin := s.ns, twinLost := false } }) ∧
      (s.mode.mode = .RUN → z = (State.notice { s with service := { s.service with conflictTime := s.ns } } ncTWIN_CONFLICT 0 []).twinLedger →
        ((s.expected g).getD 0 < z.memberNo → exec (.twinMessage g l) s = .next (z.enterShadow 0x09)) ∧
        (z.memberNo ≤ (s.expected g).getD 0 → exec (.twinMessage g l) s = .next z))) ∧
    (s.twinGroup ≠ some g.val → exec (.twinMessage g l) s = .next s))

/-- A DRAINING domain with nothing in flight enters CLAMPING; one with work in flight stays until the drain limit, when,
no domain of a lower index being overdue, what remains ends, one DOMAIN_ABORTED is written and CLAMPING follows at
once or after a down-ramp. A CLAMPING domain goes OFF and, powered by the structure outside DRAIN and FAULT, starts to
power up again. A POWERING_UP domain comes ON with its units started, and drains at once where the structure no longer
powers it or in DRAIN. In DRAIN entered for a reset, when every switched domain is OFF and the core holds nothing, the
reset follows with GRACEFUL set. A domain in another state is not changed. Each change of state writes one
DOMAIN_STATE notice. (spec/03_modes_power_reset.md (R72, R77, R78, R79); derived.) -/
def Obligations.PowerDomainsDrainClampAndReturn : Prop :=
  ∀ (d : Domain) (s z : State) (p : PendingReset) (v t0 : Nat),
    (d.val = 63 → exec (.domainDrained d) s = .next s.drainEnd ∧ exec (.domainOff d) s = .next s ∧ exec (.domainOn d) s = .next s ∧
      (s.mode.mode = .DRAIN → s.mode.drainStart = some t0 → s.host.reads ≠ [] →
        (t0 + 1000 * s.getF F.MD_DOMCTL_DRAIN_LIMIT ≤ s.ns → s.limitBefore 43 = false →
          exec (.drainLimitExpiry d) s = .next (s.abortCore.1.abortNotice 63 s.abortCore.2 0).drainEnd) ∧
        (s.ns < t0 + 1000 * s.getF F.MD_DOMCTL_DRAIN_LIMIT → exec (.drainLimitExpiry d) s = .next s))) ∧
    (d.val < 43 →
      (s.domain d = 3 → s.domainBusy d = false → exec (.domainDrained d) s = .next ((s.clampDomain d).twinSettle)) ∧
      (s.domain d = 3 → s.domainBusy d = true → exec (.domainDrained d) s = .next s) ∧
      (s.domain d ≠ 3 → exec (.domainDrained d) s = .next s ∧ exec (.drainLimitExpiry d) s = .next s) ∧
      (s.domain d = 3 → s.domainBusy d = true → afind s.domains.rampTo d = none →
        (s.ns < aget 0 s.domains.drainSince d + 1000 * s.getF F.MD_DOMCTL_DRAIN_LIMIT → exec (.drainLimitExpiry d) s = .next s) ∧
        (aget 0 s.domains.drainSince d + 1000 * s.getF F.MD_DOMCTL_DRAIN_LIMIT ≤ s.ns → s.limitBefore d = false →
          z = (s.abortDomain d).1.abortNotice d (s.abortDomain d).2.1 (s.abortDomain d).2.2 →
          (z.domainBusy d = false → exec (.drainLimitExpiry d) s = .next ((z.clampDomain d).twinSettle)) ∧
          (z.domainBusy d = true → exec (.drainLimitExpiry d) s = .next z.twinSettle))) ∧
      (s.domain d = 4 → z = (s.setDomain d 0).domainLeavesOn d → z.mode.mode ≠ .DRAIN →
        (z.wantsOn d = true → z.mode.mode ≠ .FAULT → exec (.domainOff d) s = .next (z.powerUp d)) ∧ (z.wantsOn d = false → exec (.domainOff d) s = .next z)) ∧
      (s.domain d ≠ 4 → exec (.domainOff d) s = .next s) ∧
      (s.domain d = 1 → z = (s.setDomain d 2).domainComesOn d →
        (z.mode.mode ≠ .DRAIN → z.wantsOn d = true → exec (.domainOn d) s = .next z) ∧
        (z.mode.mode = .DRAIN ∨ z.wantsOn d = false → exec (.domainOn d) s = .next (z.drainDomain d))) ∧
      (s.domain d ≠ 1 → exec (.domainOn d) s = .next s) ∧
      ((s.setDomain d v).domain d = v ∧ (∀ k, k ≠ d.val → (s.setDomain d v).domain k = s.domain k) ∧ (s.setDomain d v).qmem = s.qmem)) ∧
    (s.mode.mode = .DRAIN → s.mode.drainStart ≠ none → (∀ k < 43, s.domain k = 0) → s.host.reads = [] →
      (s.mode.drainReset = some p → s.drainEnd = s.resetBy p true) ∧
      (s.mode.drainReset = none → s.drainEnd = { s with mode := { s.mode with drainStart := none } }))

/-- The selected edge of the PPS input in use, its cable delay taken off, is the reference's pulse: unlabelled in FREE it
changes only what is remembered of it; locked, within STEP_LIMIT, it is accepted and the loop disciplines DT; beyond
STEP_LIMIT with no step permitted it is rejected, the third in a row setting REJECTED. An edge of the other direction
changes nothing. A correct sentence not in reception at a change of TB_REFCFG labels the next pulse; a wrong one
changes nothing. 1.5 s of silence (10 ms of a bench) and 2 µs more take LOCKED to HOLDOVER and ACQUIRING to FREE. A
HOLDOVER of LIMIT minutes sets EXPIRED and is reported once. After 60 s of accepted pulses the reference returns to
PPS_IN[0]. A time cell of a peer sets PF_TIMEOFS; one from the master on a LOCKED member disciplines DT. A selected
edge of an input pin is one EVENT_CAPTURED. On an active line port while trackers run: the first crossing makes an
UNLOCKED tracker LOCKING. In LOCKING a crossing 1/65 s to 1/45 s after the latest is accepted, and the third whose
period differs by at most 0.1 % from the one before makes it LOCKED; one outside starts again. In LOCKED, a crossing
within T/16 of its prediction is accepted and keeps LOCKED where the fit stays within 45 to 65 Hz. A predicted
crossing that passes by more than T/16 is missed, the second in a row makes LOCKED COASTING. A tracker that coasted
COAST cycles, and one in LOCKING without a crossing for 2/45 s, fall to UNLOCKED with no fit and end the launched
actions waiting for its angle. Before those limits, or on a port not active, nothing changes.
(spec/04_timebase_launch.md (R83, R84, R86, R87, R88, R89, R90, R93, R95, R99, R104, R110); derived.) -/
def Obligations.TimeReferenceAndMainsTrackers : Prop :=
  (∀ (i : Nat) (rising : Bool) (ch : List Byte) (sec t0 : Nat) (g : Group) (tc : TimeCell) (pin : EventPin) (s z : State),
    s.struct_.live = true →
    (s.refSel = 1 → i = 0 → rising = !s.flag F.TB_REFCFG_PPS_EDGE → afind s.ref.labels 0 = none →
        z = { s with ref := { s.ref with lastStamp := aset s.ref.lastStamp 0 s.ns } } →
      (s.ref.state = 0 → exec (.ppsEdge i rising) s = .next z) ∧
      (s.ref.state ≠ 0 → exec (.ppsEdge i rising) s =
        .next (z.refPhase ((s.ns : Int) - signed 16 (s.getF F.TB_PPSCOMP_DELAY0)).toNat none))) ∧
    (rising = s.flag F.TB_REFCFG_PPS_EDGE → exec (.ppsEdge i rising) s = .next s) ∧
    (s.ref.timeValid = true → s.mode.mode = .RUN → s.ref.accepting = false → ∀ (n : Nat) (e : Int), e = (n : Int) - nearestSecond n * 1000000000 →
      (1000 * s.getF F.TB_HOLDCFG_STEP_LIMIT < e.natAbs → s.ref.bad < 2 →
        s.refPhase n none = { s with ref := { s.ref with bad := s.ref.bad + 1, good := 0, phaseErr := e } }) ∧
      (1000 * s.getF F.TB_HOLDCFG_STEP_LIMIT < e.natAbs → s.ref.bad = 2 → s.ref.rejected = false → (s.refPhase n none).ref.rejected = true) ∧
      (e.natAbs ≤ 1000 * s.getF F.TB_HOLDCFG_STEP_LIMIT → s.ref.state = 2 → s.ns ≤ s.ref.lastGood + s.lossTime → s.refPhase n none =
        State.discipline { s with ref := { s.ref with lastGood := s.ns, phaseErr := e, bad := 0 } })) ∧
    (sentenceSecond ch = none → exec (.todSentence i ch) s = .next s) ∧
    (sentenceSecond ch = some sec → s.getF F.TB_REFCFG_TOD_LABEL = 0 → s.todCut ch.length = false → exec (.todSentence i ch) s =
      .next { s with ref := { s.ref with labels := aset s.ref.labels i (sec + s.getF F.TB_UTCOFS_OFS, s.ns) } }) ∧
    (s.refSel ≠ 0 →
      (s.ref.lastGood + (if s.refSel = 4 then 10000000 else 1500000000) + 2000 ≤ s.ns →
        (s.ref.state = 2 → exec .refLoss s = .next (s.setRefState 3)) ∧ (s.ref.state = 1 → exec .refLoss s = .next (s.setRefState 0)) ∧
        (s.ref.state = 0 ∨ s.ref.state = 3 → exec .refLoss s = .next s)) ∧
      (s.ns < s.ref.lastGood + (if s.refSel = 4 then 10000000 else 1500000000) + 2000 → exec .refLoss s = .next s)) ∧
    (s.ref.state = 3 → s.ref.expired = false →
      (s.ref.holdSince + 60000000000 * s.getF F.TB_HOLDCFG_LIMIT ≤ s.ns → exec .holdoverExpired s =
        .next (State.notice { s with ref := { s.ref with expired := true } } ncHOLDOVER_EXPIRED 0 [])) ∧
      (s.ns < s.ref.holdSince + 60000000000 * s.getF F.TB_HOLDCFG_LIMIT → exec .holdoverExpired s = .next s)) ∧
    (s.ref.expired = true → exec .holdoverExpired s = .next s) ∧
    (s.refSel = 3 → s.ref.activePps = 1 → s.ref.state = 2 → s.ref.pps0Since = some t0 → s.ns ≤ s.ref.otherLast + 1500000000 →
      (t0 + 60000000000 ≤ s.ns → exec .pps0Return s =
        .next (State.refNotice { s with ref := { s.ref with activePps := 0, pps0Since := none, lastGood := s.ns } })) ∧
      (s.ns < t0 + 60000000000 → exec .pps0Return s = .next s)) ∧
    (2 ≤ g.val → s.benchRole ≠ roleMEMBER → s.groupUp g = true → ∀ d : Int, d = (tc.dt : Int) + (aget 0 s.bench.delays g / 16 : Nat) - tc.arrival →
      -2147483648 ≤ d → d ≤ 2147483647 → exec (.timeCell g tc) s = .next (s.setF (F.PF_TIMEOFS_OFS (g - 2)) (unsignedOf 32 d))) ∧
    (g.val < 2 → s.benchRole ≠ roleMEMBER → exec (.timeCell g tc) s = .next s) ∧
    (g.val = 0 → s.benchRole = roleMEMBER → s.refSel = 4 → s.groupUp g = true → s.timeGroup = some 0 → s.ref.state = 2 → s.ref.side = 0 →
      s.ref.timeValid = true → s.mode.mode = .RUN → exec (.timeCell g tc) s = .next ((s.setF F.TB_BENCHDLY_DELAY (aget 0 s.bench.delays 0)).refGood
        (roundDiv ((tc.arrival : Int) * 16 - ((tc.dt : Int) * 16 + (tc.frac / 4096 : Nat) + aget 0 s.bench.delays 0 +
          signed 16 (s.getF F.TB_BENCHASYM_EAST))) 16)).discipline) ∧
    (s.getF (F.TB_EVTCFG_DIR pin) = 0 →
      (s.getF (F.TB_EVTCFG_CAPTURE pin) = 3 ∨ s.getF (F.TB_EVTCFG_CAPTURE pin) = (if rising then 1 else 2) →
        exec (.eventCapture pin rising) s = .next (s.notice ncEVENT_CAPTURED pin [(8, if rising then 0 else 1)])) ∧
      (s.getF (F.TB_EVTCFG_CAPTURE pin) = 0 → exec (.eventCapture pin rising) s = .next s)) ∧
    (s.getF (F.TB_EVTCFG_DIR pin) = 1 → exec (.eventCapture pin rising) s = .next s)) ∧
  (∀ (p : LinePort) (back x a b k n : Nat) (t : Tracker) (f : Fit) (s : State), t = s.tracker p → x = s.ns - back →
    (s.tracking p = false → exec (.mainsCrossing p back) s = .next s) ∧
    (s.tracking p = true → t.fit = none →
      (t.crossings = [] → ∃ y, y.state = 1 ∧ y.crossings = [(0, x)] ∧ exec (.mainsCrossing p back) s = .next (s.mainsState p y)) ∧
      (t.crossings = [(k, a)] → 1000000000 ≤ (x - a) * 65 → (x - a) * 45 ≤ 1000000000 →
        ∃ y, y.state = 1 ∧ y.crossings = [(k + 1, x), (k, a)] ∧ exec (.mainsCrossing p back) s = .next (s.mainsState p y)) ∧
      (t.crossings = [(k + 1, a), (k, b)] → 1000000000 ≤ (x - a) * 65 → (x - a) * 45 ≤ 1000000000 →
          (max (x - a) (a - b) - min (x - a) (a - b)) * 1000 ≤ a - b →
        ∃ y, y.state = 2 ∧ y.crossings = [(k + 2, x), (k + 1, a), (k, b)] ∧ exec (.mainsCrossing p back) s = .next (s.mainsState p y)) ∧
      (∀ l, t.crossings = (k, a) :: l → (x - a) * 65 < 1000000000 ∨ 1000000000 < (x - a) * 45 →
        ∃ y, y.state = 1 ∧ y.crossings = [(0, x)] ∧ exec (.mainsCrossing p back) s = .next (s.mainsState p y))) ∧
    (t.fit = some f →
      (s.tracking p = true → t.state = 2 → (max x (f.nearest x).2 - min x (f.nearest x).2) * 16 ≤ f.period →
        (∀ g, fitOf ((((f.nearest x).1.toNat, x) :: t.crossings).take 8) = some g → 45000 ≤ g.mHz ∧ g.mHz ≤ 65000) →
        ∃ y : Tracker, y.state = 2 ∧ y.crossings = (((f.nearest x).1.toNat, x) :: t.crossings).take 8 ∧ y.missed = 0 ∧
          y.lastCycle = (f.nearest x).1.toNat ∧ exec (.mainsCrossing p back) s = .next (s.setTracker p y)) ∧
      (f.crossing (t.lastCycle + 1) * 16 + f.period < s.ns * 16 →
        (t.state = 2 → t.missed = 0 → exec (.mainsCrossingMissed p) s =
          .next (s.setTracker p { t with missed := 1, lastCycle := t.lastCycle + 1 })) ∧
        (t.state = 2 → 1 ≤ t.missed → exec (.mainsCrossingMissed p) s = .next (s.mainsState p { t with
          state := 3, missed := t.missed + 1, run := 0, lastCycle := t.lastCycle + 1, coastFrom := t.lastCycle + 1 }))) ∧
      (s.ns * 16 ≤ f.crossing (t.lastCycle + 1) * 16 + f.period → exec (.mainsCrossingMissed p) s = .next s) ∧
      (t.state = 3 → n = f.crossing (t.coastFrom + s.getF F.TB_MAINSCFG_COAST) →
        (n ≤ s.ns → ∃ y, y.state = 0 ∧ y.crossings = [] ∧ exec (.coastExpiry p) s = .next ((s.mainsState p y).anglesLost p)) ∧
        (s.ns < n → exec (.coastExpiry p) s = .next s))) ∧
    (t.fit = none → exec (.mainsCrossingMissed p) s = .next s ∧ exec (.coastExpiry p) s = .next s) ∧
    (∀ l, t.state = 1 → t.crossings = (k, a) :: l →
      (a * 45 + 2000000000 ≤ s.ns * 45 → ∃ y, y.state = 0 ∧ y.crossings = [] ∧
        exec (.lockingTimeout p) s = .next ((s.mainsState p y).anglesLost p)) ∧
      (s.ns * 45 < a * 45 + 2000000000 → exec (.lockingTimeout p) s = .next s)) ∧
    (t.state ≠ 1 → exec (.lockingTimeout p) s = .next s) ∧
    ((s.tracker p).state = t.state → s.mainsState p t = s.setTracker p t))

/-- On the band channel whose receptions a port's are kept on: a detection in SEARCH, its metric at least DETTHR and its
windows without INV, enters SYNC and counts DETECT; SYNCM enters HEADER with the frame's start; 16 symbols without it
return to SEARCH and count FALSEDET; a header whose CRC and fields are right enters PAYLOAD with the frame's length in
symbols, any other returns to SEARCH and counts HDRFAIL. When the last symbol has been received and no launched action
of the tick is left, an uncorrectable frame counts RSFAIL and is dropped; a decoded one counts OK and leaves LQI and
MEAN_SNR; RSCORR and the erased symbols are counted. A beacon is then consumed; an ACK resolves its attempt; a DATA
frame without ACKREQ goes to the device or is counted OVERHEARD. When the suspension ends the port's SUSPENDED
receivers enter SEARCH. In another state, or before its time, each changes nothing. (spec/06_plc_phy.md (R155, R156,
R161, R164), spec/07_plc_access.md (R169, R171, R177); derived.) -/
def Obligations.PowerLineReception : Prop :=
  ∀ (p : LinePort) (b : Band) (deep : Bool) (start n h c m metric e d : Nat) (w : Word) (rx : PlcRx) (psdu : List Byte) (r : PlcReception)
      (s z : State),
    h = s.rxHome p → c = b.num →
    (s.plcSearching p c = true → s.getF (F.PL_BANDCFG_DETTHR p c) ≤ metric → e ≤ s.ns → s.ns ≤ e + 40000 →
      s.windowsValid p e = true → exec (.plcDetect p ⟨b, metric, e⟩) s =
      .next ((s.setRx h c 2 (some { detected := s.ns, port := p })).bump (F.PL_RXCNT_DETECT h c))) ∧
    (s.rxState h c ≠ 1 ∨ metric < s.getF (F.PL_BANDCFG_DETTHR p c) ∨ s.ns < e ∨ s.windowsValid p e = false →
      exec (.plcDetect p ⟨b, metric, e⟩) s = .next s) ∧
    ((s.pchan h c).rx = some r → s.rxState h c = 2 →
      (d = start + (if deep then 16 else 8) * 680000 → d ≤ s.ns → s.ns ≤ d + 40000 →
        start + (if deep then 15 else 8) * 680000 ≤ r.detected + 16 * 680000 →
        exec (.plcSyncm p b deep start) s = .next (s.setRx h c 3 (some { r with port := p, start := start, deep := deep }))) ∧
      (s.ns < start + (if deep then 16 else 8) * 680000 → exec (.plcSyncm p b deep start) s = .next s) ∧
      (r.detected + 10880000 ≤ s.ns → exec (.plcSyncTimeout p b) s = .next ((s.setRx h c 1 none).bump (F.PL_RXLOSS_FALSEDET h c))) ∧
      (s.ns < r.detected + 10880000 → exec (.plcSyncTimeout p b) s = .next s)) ∧
    ((s.pchan h c).rx = some r → s.rxState h c = 3 →
      (s.ns < r.headerEnd (s.nCar h c) → exec (.plcHeaderDecided p b w) s = .next s) ∧
      (r.headerEnd (s.nCar h c) ≤ s.ns → s.ns ≤ r.headerEnd (s.nCar h c) + 60000 →
      (phCrcOk w = true → phMode w < 5 → 1 ≤ phLen w → phLen w ≤ 2048 → (phMode w = 4 ↔ r.deep = true) →
        n = frameSyms (phMode w) (phLen w) (s.nCar h c) → n ≤ 4096 →
        exec (.plcHeaderDecided p b w) s = .next (s.setRx h c 4 (some { r with header := w, nsym := n }))) ∧
      (phCrcOk w = false ∨ 5 ≤ phMode w ∨ phLen w = 0 ∨ 2048 < phLen w ∨ (phMode w = 4 ∧ r.deep = false) ∨ (phMode w < 4 ∧ r.deep = true) →
        exec (.plcHeaderDecided p b w) s = .next ((s.setRx h c 1 none).bump (F.PL_RXERR_HDRFAIL h c))))) ∧
    (s.rxState h c ≠ 2 → exec (.plcSyncm p b deep start) s = .next s) ∧ (s.rxState h c ≠ 3 → exec (.plcHeaderDecided p b w) s = .next s) ∧
    ((s.pchan h c).rx = some r → s.rxState h c = 4 → r.nsym ≠ 0 →
      (s.ns < r.start + 680000 * r.nsym → exec (.plcFrameDue p b rx) s = .next s) ∧
      (s.launchesDue = true → exec (.plcFrameDue p b rx) s = .next s) ∧
      (r.start + 680000 * r.nsym ≤ s.ns → s.ns ≤ r.start + 680000 * r.nsym + 150000 → s.launchesDue = false →
          z = ((s.setRx h c 1 none).bump (F.PL_CORR_RSCORR h c) rx.rsCorr).bump (F.PL_CORR_ERASED h c) (s.erasedSyms r rx.overloads) →
        (rx.psdu = none → exec (.plcFrameDue p b rx) s = .next (z.bump (F.PL_RXERR_RSFAIL h c))) ∧
        (rx.psdu = some psdu → psdu.length = phLen r.header → ∀ (v : Int) (y : State), v = meanSnr (rx.snr.map (clampInt (-128) 127)) →
            y = ((z.setF (F.PL_RXQUAL_LQI h c) (lqi v)).setF (F.PL_RXQUAL_MEAN_SNR h c) (unsignedOf 8 v)).bump (F.PL_RXCNT_OK h c) →
          (phFt r.header = 2 → exec (.plcFrameDue p b rx) s = .next y) ∧
          (phFt r.header = 1 → exec (.plcFrameDue p b rx) s = .next (y.plcAckIn r.port c psdu)) ∧
          (phFt r.header = 0 → plcHeaderFault psdu 0 = false → psduAckReq 0 psdu = false → y.plcForMe psdu = false →
            exec (.plcFrameDue p b rx) s = .next (y.bump F.PL_RPTSTAT1_OVERHEARD)) ∧
          (phFt r.header = 0 → plcHeaderFault psdu 0 = false → psduAckReq 0 psdu = false → y.plcForMe psdu = true →
            exec (.plcFrameDue p b rx) s = .next (y.frameIn {
              medium := 0, port := h, band := c, record := y.plcRecord h c r rx, body := psdu, due := s.ns,
              end_ := r.start + symsDur r.nsym }))))) ∧
    (s.sound = true → aget 0 s.plc.suspendTo p ≤ s.ns → m < 4 → ∃ t : State, exec (.plcSuspendEnd p) s = .next t ∧
      t.rxState p m = (if s.rxState p m = 5 then 1 else s.rxState p m) ∧ t = { s with map := t.map, plc := t.plc }) ∧
    (s.ns < aget 0 s.plc.suspendTo p → exec (.plcSuspendEnd p) s = .next s)

/-- The item of a PLC_FRAME entry is read from 100 µs before its launch, not earlier. A due entry whose item is read and
secured and that nothing stops is sent: it leaves the queue and its band channel sends it for its length in symbols;
stopped, it ends with that status, counted. When its last sample has left it counts SENT; with ACKREQ its band channel
is reserved for the ACK; a host frame's item is released and OK reported, an attempt without ACKREQ releases its item,
one with ACKREQ waits for its ACK. On a group that does not combine, an ACK to the device with the SEQ awaited, in
time, releases the item where BUSY is clear and is a missing ACK where it is set; a port that awaits none ignores it;
the passing of the deadline and 2 µs is a missing ACK. An ACK owed and verified in time is sent 680 µs after the
frame, on the frame's mode, with BUSY as found; what stops it counts REFUSED. (spec/04_timebase_launch.md (R96, R99),
spec/06_plc_phy.md (R155, R162, R163), spec/07_plc_access.md (R170, R174, R177, R178, R179); derived.) -/
def Obligations.PowerLineTransmission : Prop :=
  ∀ (i : EntryId) (p : LinePort) (b : Band) (psdu : List Byte) (c st : Nat) (it : List Word) (e : LqEntry) (t : PlcSending) (a : PlcAttempt)
      (k : PlcAckDue) (s z : State), c = b.num →
    (s.lqAt i = some e → leType e.words = leTypePLC_FRAME →
      (e.item = none → e.due = none → s.lqNs e ≤ s.ns + 100000 → exec (.plcItemRead i) s = .next (s.plcRead e)) ∧
      (s.ns + 100000 < s.lqNs e → exec (.plcItemRead i) s = .next s) ∧
      (s.lqReady e = false → exec (.plcFrame i) s = .next s) ∧
      (s.lqReady e = true → e.item = some it → e.secured = some psdu →
        (s.plcStop? e = some st → exec (.plcFrame i) s = .next (s.txFail e st)) ∧
        (s.plcStop? e = none → e.inserter = .host → e.entry = i → exec (.plcFrame i) s =
          .next ((s.lqRemove i).plcStart e.port e.band (s.lqNs e) (.host e) e psdu (itMode it) (itFt it)
            (psduAckReq (itFt it) psdu)).endOfTick))) ∧
    ((s.pchan p c).tx = some t →
      (s.ns < t.end_ → exec (.plcTxDone p b) s = .next s) ∧
      (t.end_ ≤ s.ns → z = (((s.plcStop p c t.end_).bump (F.PL_TXCNT_SENT p c)).twinSettle).sentReserve p c t →
        (t.kind = .host e → exec (.plcTxDone p b) s = .next ((z.qRelease (leQueue e.words)).launchReport e lpOK)) ∧
        (t.ackReq = true → t.end_ + 680000 + symsDur (z.ackSyms p c t.mode) ≤ (z.pchan p c).reservedTo) ∧
        (t.kind = .attempt p → (z.pchan p c).attempt = some a → t.ackReq = false →
          exec (.plcTxDone p b) s = .next (z.releaseAttempt p c a.queue)) ∧
        (t.kind = .attempt p → (z.pchan p c).attempt = some a → t.ackReq = true → c ≠ 2 → ∃ y, exec (.plcTxDone p b) s = .next y ∧
          (y.pchan p c).attempt = some { a with
            waiting := true, deadline := t.end_ + 680000 + 680000 * z.ackSyms p c t.mode + 150000, seq := psduSeq t.psdu,
            dst := psduDst t.psdu } ∧
          (y.pchan p c).reservedTo = (z.pchan p c).reservedTo ∧ y = { z with plc := y.plc }) ∧
        (t.kind = .ack ∨ t.kind = .beacon → exec (.plcTxDone p b) s = .next z))) ∧
    ((s.pchan p c).attempt = some a →
      (a.waiting = true → psdu.length = 6 → s.toMe (le32 psdu 0) = true → (psdu.getD 4 0).toNat = a.seq → s.ns ≤ a.deadline →
        a.on_ = p.val → s.combines (p / 3) = false → s.getF (F.PL_FGCFG_COUPLING (p / 3)) = 0 →
        (∀ h, h / 3 = p.val / 3 → h ≠ p.val → (s.pchan h c).attempt = none) →
        (bitAt psdu 5 0 = false → exec (.plcAckRx p b psdu) s = .next (s.releaseAttempt p c a.queue)) ∧
        (bitAt psdu 5 0 = true → exec (.plcAckRx p b psdu) s = .next (s.ackMissed p c a))) ∧
      (a.waiting = true → a.deadline + 2000 ≤ s.ns → exec (.plcAckExpiry p b) s = .next (s.ackMissed p c a)) ∧
      (s.ns < a.deadline + 2000 → exec (.plcAckExpiry p b) s = .next s)) ∧
    (psdu.length ≠ 6 ∨ s.toMe (le32 psdu 0) = false ∨ (∀ h x, (s.pchan h c).attempt = some x → x.waiting = false ∨ x.seq ≠ (psdu.getD 4 0).toNat) →
      exec (.plcAckRx p b psdu) s = .next s) ∧
    ((s.pchan p c).ack = some k → s.combines (p / 3) = false → z = s.setPchan p c { s.pchan p c with ack := none } →
      (s.ns < k.at_ → exec (.plcAckSend p b) s = .next s) ∧
      (k.at_ ≤ s.ns → k.ready = false → exec (.plcAckSend p b) s = .next z) ∧
      (k.at_ ≤ s.ns → k.ready = true → s.ownStop p c = true →
        exec (.plcAckSend p b) s = .next (z.bump (F.PL_TXCNT_REFUSED p c))) ∧
      (k.at_ ≤ s.ns → k.ready = true → s.ownStop p c = false →
        ∃ x, exec (.plcAckSend p b) s = .next ((z.plcStart p c k.at_ .ack x (bytesLE 4 k.dst ++ [BitVec.ofNat 8 k.seq, if k.busy then 1 else 0])
          k.mode 1 false).bump (if k.busy then F.PL_ACKCNT_BUSYSENT p c else F.PL_ACKCNT_ACKSENT p c)))) ∧
    (s.mayTransmit = false → s.plcStop? e = some stMODE_SILENT)

/-- 2 µs before the slot a band channel has drawn in its window of a round after the idle start, a channel with a pending
frame that is idle, outside a contention-free period, starts an attempt: the queue's mark, an entry at the slot, the
item read; busy, it counts DEFER; with nothing to offer, or an attempt unresolved, nothing happens. Without a mains
grid or a beacon the slots lie 680 µs apart from 1,360 µs after the idle start. Band C starts one once 85 + 2 n ms
have passed since it turned idle. A beacon coordinator whose next superframe has come sends its beacon, with the
sequence number one higher, stored, and the superframe starts; with no fit it falls back, reported. Within a grant of
its own the device starts an attempt that ends in its usable part; one that does not counts DEFER. At a mains cycle
boundary of a port amended settings come in force and FALLBACK clears once LOCKED. Otherwise each changes nothing.
(spec/07_plc_access.md (R172, R174, R175, R176, R180, R181, R182, R183, R184, R185, R186, R187); derived.) -/
def Obligations.PowerLineAccess : Prop :=
  ∀ (p : LinePort) (b : Band) (round draw : Nat) (d : Fin 16) (spectra : List Spectrum) (c k q w u o : Nat) (f : Fit) (g : List (Nat × Nat × Nat))
      (s z : State), c = b.num →
    (z = s.unblock p c → z.offered p c = none → exec (.contentionDecision p b ⟨round, draw, spectra⟩) s = .next z ∧
      (c = 2 → exec (.bandcAccess p ⟨d, spectra⟩) s = .next z) ∧ exec (.grantLaunch p b) s = .next z) ∧
    (z = s.unblock p c → z.offered p c = some (k, q) → c ≠ 2 → z.lineActive p = true → z.plc.resuming.contains p.val = false →
        draw < z.winSlots p k → z.slotStart p c (z.idleStart p c spectra) (round * z.roundSlots p + z.winStart p k) = some w →
        z.slotStart p c (z.idleStart p c spectra) (round * z.roundSlots p + z.winStart p k + draw) = some u → z.pendingFor q w = true →
      (u ≤ z.ns + 2000 → z.ns + 2000 < u + 2 →
        (loudNow (z.accWord p (3 + c)).toNat spectra = true ∨ z.bandBusy p c = true →
          exec (.contentionDecision p b ⟨round, draw, spectra⟩) s = .next (z.bump (F.PL_ACCCNT_DEFER p c))) ∧
        (loudNow (z.accWord p (3 + c)).toNat spectra = false → z.bandBusy p c = false → z.beforeCfp p c q u = true →
          exec (.contentionDecision p b ⟨round, draw, spectra⟩) s = .next (z.startAttempt p c k q u))) ∧
      (z.ns + 2000 < u ∨ u + 2 ≤ z.ns + 2000 → exec (.contentionDecision p b ⟨round, draw, spectra⟩) s = .next z)) ∧
    (s.beaconDisc p = false → s.accMsync p = false → s.slotStart p c u w = some (u + 1360000 + w * 680000)) ∧
    (z = s.unblock p 2 → z.offered p 2 = some (k, q) → z.lineActive p = true → z.plc.resuming.contains p.val = false →
        z.isSending p 2 = false → z.pendingFor q (z.ns + 2000) = true → (∀ e, (z.pchan p 2).lastEnd = some e → e + 125000000 ≤ z.ns + 2000) →
      ((bandcSense (z.getF (F.PL_BCTHR_BUSYTHR p)) spectra).busy = true →
        exec (.bandcAccess p ⟨d, spectra⟩) s = .next (z.bump (F.PL_ACCCNT_DEFER p 2))) ∧
      ((bandcSense (z.getF (F.PL_BCTHR_BUSYTHR p)) spectra).busy = false →
        (bandcSense (z.getF (F.PL_BCTHR_BUSYTHR p)) spectra).since + (85 + 2 * d.val) * 1000000 ≤ z.ns + 2000 →
        exec (.bandcAccess p ⟨d, spectra⟩) s = .next (z.startAttempt p 2 k q (z.ns + 2000)))) ∧
    ((s.pchan p c).attempt ≠ none → s.offered p c = none) ∧
    (s.mayTransmit = false → s.unblock p c = s) ∧
    (c ≠ 2 → s.beaconDisc p = true → s.lineActive p = true → s.bandLive p c = true → s.plc.resuming.contains p.val = false →
      ((s.tracker p).fit = none → exec (.beaconLaunch p b) s =
        .next (((s.bump (F.PL_TXCNT_REFUSED p c)).setF (F.PL_ACCSTAT_FALLBACK p) 1).notice ncACCESS_FALLBACK p [])) ∧
      ((s.tracker p).fit = some f →
        (s.ns < s.nextSuper p c f → exec (.beaconLaunch p b) s = .next s) ∧
        (s.nextSuper p c f ≤ s.ns → (s.pchan p c).superframe ≠ none → s.ownStop p c = false → s.sound = true → ∃ (t : State) (x : PlcSending),
          exec (.beaconLaunch p b) s = .next t ∧ t.getF (F.PL_BSN_BSN p c) = (s.getF (F.PL_BSN_BSN p c) + 1) % 2 ^ 32 ∧
          (t.pchan p c).tx = some x ∧ x.start = s.nextSuper p c f ∧ x.kind = .beacon ∧ x.ackReq = false ∧
          x.mode = s.getF (F.PL_BANDCFG_DEFMODE p c) ∧ (t.pchan p c).superframe = some (s.nextSuper p c f) ∧
          (t.pchan p c).beaconSent = true ∧ t = { s with map := t.map, plc := t.plc, out := t.out, bench := t.bench }))) ∧
    (s.beaconDisc p = false → exec (.beaconLaunch p b) s = .next s) ∧
    (z = s.unblock p c → z.offered p c = some (k, q) → (z.tracker p).fit = some f → c ≠ 2 → z.beaconDisc p = true → z.lineActive p = true →
        (z.pchan p c).superframe = some w → (z.pchan p c).beaconSent = true → o = z.offerPort p q → z.isSending o c = false →
        z.plc.resuming.contains p.val = false → z.pendingFor q (z.ns + 2000) = true →
        g = ((z.grants p c).filter fun x => z.toMe x.1 && decide (w + x.2.1 * 680000 ≤ z.ns + 2000) &&
          decide (z.ns + 2000 < w + (x.2.1 + x.2.2) * 680000)) →
      ((∃ x ∈ g, z.attemptStart o c (z.ns + 2000) + z.offerNs o c q ≤ w + usableEnd x.2.1 x.2.2 (z.nextSuper p c f - w)) →
        exec (.grantLaunch p b) s = .next (z.startAttempt p c k q (z.ns + 2000))) ∧
      (g ≠ [] → (∀ x ∈ g, w + usableEnd x.2.1 x.2.2 (z.nextSuper p c f - w) < z.attemptStart o c (z.ns + 2000) + z.offerNs o c q) →
        exec (.grantLaunch p b) s = .next (z.bump (F.PL_ACCCNT_DEFER p c))) ∧
      (g = [] → exec (.grantLaunch p b) s = .next z)) ∧
    ((∀ f, (s.tracker p).fit = some f → f.cycle s.now16 ≤ (s.tracker p).boundary) → exec (.mainsCycleBoundary p) s = .next s) ∧
    ((s.tracker p).fit = some f → (s.tracker p).boundary < f.cycle s.now16 → (s.tracker p).state = 2 → s.sound = true → ∃ t : State,
      exec (.mainsCycleBoundary p) s = .next t ∧ t.getF (F.PL_ACCSTAT_FALLBACK p) = 0 ∧ afind t.plc.access p = none ∧
      t.plc.resuming.contains p.val = false ∧ t = { s with map := t.map, plc := t.plc, mains := t.mains } ∧
      s.wordsKept t [F.PL_ACCSTAT p])

/-- For bytes below 256: bit 8 i + j of the chain's input is bit j of byte i, the input holds eight bits for each byte,
and the chain's input of a header word is its 32 bits from bit 0 up, through its four bytes, the byte of bits [7:0]
first; the header symbols of a frame carry these bits coded. (R147; stated.) -/
def Obligations.BitsEnterTheChain : Prop :=
  ∀ (bs : List Nat) (i j mode ft seed ncar nh : Nat) (psdu : List Byte) (h : Word),
    (bitsOfBytes bs).length = 8 * bs.length ∧
    (i < bs.length → j < 8 → (bitsOfBytes bs).getD (8 * i + j) 0 = bs.getD i 0 / 2 ^ j % 2) ∧
    (i < 32 → (bitsOfBytes [h.field 7 0, h.field 15 8, h.field 23 16, h.field 31 24]).getD i 0 = h.toNat / 2 ^ i % 2) ∧
    (h = plcHeader mode ft psdu.length seed → nh = headerSyms (mode == 4) ncar → (plcSymbols mode ft seed ncar psdu).take nh =
      (List.range nh).map (symbolSteps (convEncode ((List.range 32).map fun b => h.toNat / 2 ^ b % 2)) (headRep (mode == 4)) nh ncar 1))

/-- A detection of a searching detector, its four windows valid and their ratio at least 6 dB plus DETTHR, that is no held
frame counts DETECT and waits for the allocator; with three frames held there it counts STACKMISS too and is dropped.
The allocator serves the earliest detection: with a demodulator free and, for class U, more free than RESERVE, it
takes one; else it counts RESERVED or, with none free and no borrowing, EMPTY. A held frame whose sync word and
delimiter are right goes on to its first block, else ends as SYNCMISS; a right header, or implicit mode, gives LEN, CR
and CRC and goes on to the payload, else it ends as HDRFAIL; a preamble may end LOST, and any frame ends INVALID at a
symbol after its preamble with too many INV samples. When its last symbol is received a frame whose decoded payload
has the right CRC, or has none, counts OK, frees its demodulator and comes in; a wrong one ends as CRCFAIL. Suspension
ends with its time. (spec/08_chirp_phy.md (R198, R200, R201, R202, R204, R205, R206, R208, R209, R211, R219);
derived.) -/
def Obligations.ChirpReception : Prop :=
  ∀ (n : RfPort) (ch : Fin 32) (sf : Fin 8) (bin start ratio v0 v1 t t0 h : Nat) (values ns : List Nat) (power : Int) (u : DemodRef) (rx : ChirpRx)
      (w : ChirpLoss) (d : Demod) (x : Detection) (delim : Bool) (s : State),
    (s.searching n ch sf = false → exec (.chirpDetect n ch sf bin start ⟨ratio, power⟩) s = .next s) ∧
    (x = { port := n, chan := ch, sf := sf, bin := bin, start := start, power := power, tick := s.tick } →
      (ratio < 12 + s.getF (F.CH_DETCFG_DETTHR n) → s.windowsMatch x ratio = false) ∧
      (s.windowsMatch x ratio = false → exec (.chirpDetect n ch sf bin start ⟨ratio, power⟩) s = .next s) ∧
      (s.searching n ch sf = true → s.windowsMatch x ratio = true → (∀ y ∈ s.heldOn n ch sf, s.sameFrame y bin start = false) →
        (3 ≤ (s.heldOn n ch sf).length → exec (.chirpDetect n ch sf bin start ⟨ratio, power⟩) s =
          .next ((s.bump (F.CH_DETCNT_DETECT n)).bump (F.CH_STACK_STACKMISS n))) ∧
        (s.heldOn n ch sf = [] → ∃ y : State, exec (.chirpDetect n ch sf bin start ⟨ratio, power⟩) s = .next y ∧
          y.chirp.waiting = s.chirp.waiting ++ [x] ∧
          y = { s.bump (F.CH_DETCNT_DETECT n) with chirp := { s.chirp with waiting := y.chirp.waiting } }))) ∧
    (∀ z : State, nextDetection s.chirp.waiting = some x → x.port = n.val → x.chan = ch.val → x.sf = sf.val →
        z = { s with chirp := { s.chirp with waiting := s.chirp.waiting.erase x } } →
      (z.poolFree = 0 → s.getF F.BN_CFG_BORROW = 0 → exec (.demodGrant n ch sf) s = .next (z.bump F.CH_POOLMISS_EMPTY)) ∧
      (∀ k l, 0 < z.poolFree → z.freeUnits = k :: l →
        (s.getF (F.CH_PORTCFG_GCLASS n) = 0 → z.poolFree ≤ s.getF F.CH_POOLCFG_RESERVE →
          exec (.demodGrant n ch sf) s = .next (z.bump F.CH_POOLMISS_RESERVED)) ∧
        (s.getF (F.CH_PORTCFG_GCLASS n) = 1 ∨ s.getF F.CH_POOLCFG_RESERVE < z.poolFree → ∃ y : State, exec (.demodGrant n ch sf) s = .next y ∧
          (∃ q ∈ y.chirp.demods, q.slot = k ∧ q.det = x ∧ q.stage = .preamble ∧ q.lender = none ∧ q.lent = none) ∧
          y.chirp.demods.length = s.chirp.demods.length + 1 ∧ y = { z with map := y.map, chirp := { z.chirp with demods := y.chirp.demods } }))) ∧
    (nextDetection s.chirp.waiting = none → exec (.demodGrant n ch sf) s = .next s) ∧
    (s.demodAt u = some d → t0 = tSym d.det.sf (s.demodBw d) →
      (d.stage = .preamble → s.chirpTime d.det d.lent.isSome (s.demodBw d) (t + 2 * t0) 10000 = true →
        (nearBin d.det.sf v0 (syncSymbols d.det.sf (s.getF (F.CH_PORTCFG_SYNC d.det.port))).1 = true →
          nearBin d.det.sf v1 (syncSymbols d.det.sf (s.getF (F.CH_PORTCFG_SYNC d.det.port))).2 = true →
          exec (.syncDecided u v0 v1 true t) s = .next (s.changeDemod d { d with stage := .first, syncT := t })) ∧
        (nearBin d.det.sf v0 (syncSymbols d.det.sf (s.getF (F.CH_PORTCFG_SYNC d.det.port))).1 = false ∨
          nearBin d.det.sf v1 (syncSymbols d.det.sf (s.getF (F.CH_PORTCFG_SYNC d.det.port))).2 = false ∨ delim = false →
          exec (.syncDecided u v0 v1 delim t) s = .next (s.endLent d .syncMiss))) ∧
      (d.stage = .preamble → exec (.chirpLost u .lost) s = .next (s.endLent d .lost) ∧
        (t < d.det.start + 4 * t0 → exec (.chirpLost u (.invalid t)) s = .next s) ∧
        (d.det.start + 4 * t0 ≤ t → t + t0 ≤ s.ns → s.symbolInvalid d t = true →
          exec (.chirpLost u (.invalid t)) s = .next (s.endLent d .invalid))) ∧
      (d.stage = .first → values.length = 8 → s.chirpTime d.det d.lent.isSome (s.demodBw d) (s.payStart d 8) 20000 = true →
          ns = (blockNibbles d.det.sf 4 (firstRows d.det.sf) values).1 → h = headerOf ns →
        (s.implicitSf d = false → chirpHeaderOk h = true → exec (.firstBlockDecided u values) s = .next (s.changeDemod d { d with
          stage := .payload, len := h / 16 % 256, cr := h % 4 + 1, crcOn := h / 4 % 2 == 1, nibbles := ns.drop 5,
          corrected := (blockNibbles d.det.sf 4 (firstRows d.det.sf) values).2 })) ∧
        (s.implicitSf d = false → chirpHeaderOk h = false → exec (.firstBlockDecided u values) s = .next (s.endLent d .hdrFail)) ∧
        (s.implicitSf d = true → exec (.firstBlockDecided u values) s = .next (s.changeDemod d { d with
          stage := .payload, implicit := true, len := s.getF (F.CH_IMPL_LEN d.det.port), cr := s.getF (F.CH_IMPL_CR d.det.port),
          crcOn := s.flag (F.CH_IMPL_CRC_ON d.det.port), nibbles := ns,
          corrected := (blockNibbles d.det.sf 4 (firstRows d.det.sf) values).2 }))) ∧
      (d.stage ≠ .preamble → exec (.syncDecided u v0 v1 delim t) s = .next s ∧ exec (.chirpLost u .lost) s = .next s ∧
        (d.syncT ≤ t → t + t0 ≤ s.ns → s.symbolInvalid d t = true → exec (.chirpLost u (.invalid t)) s = .next (s.endLent d .invalid))) ∧
      (s.symbolInvalid d t = false → exec (.chirpLost u (.invalid t)) s = .next s) ∧
      (d.stage = .payload → rx.values.length = chirpFurther d.det.sf (s.demodBw d) (!d.implicit) d.crcOn d.len * (4 + d.cr) →
          s.chirpTime d.det d.lent.isSome (s.demodBw d) (s.demodEnd d) 40000 = true → s.launchesDue = false → d.lent = none →
        (d.crcOn = true → chirpCrc (s.demodBytes d rx.values).1 ≠ (s.demodBytes d rx.values).2.1 →
          exec (.chirpFrameDue u rx) s = .next (s.endLent d .crcFail)) ∧
        (d.crcOn = false ∨ chirpCrc (s.demodBytes d rx.values).1 = (s.demodBytes d rx.values).2.1 → exec (.chirpFrameDue u rx) s =
          .next (((s.freeDemod d).bump (F.CH_RXCNT_OK d.det.port)).radioIn
            (s.chirpFrame d (s.chirpRecord d (s.demodBytes d rx.values).2.2 rx) (s.demodBytes d rx.values).1)))) ∧
      (s.ns < s.demodEnd d ∨ s.launchesDue = true → exec (.chirpFrameDue u rx) s = .next s)) ∧
    (s.demodAt u = none → exec (.syncDecided u v0 v1 delim t) s = .next s ∧ exec (.firstBlockDecided u values) s = .next s ∧
      exec (.chirpLost u w) s = .next s ∧ exec (.chirpFrameDue u rx) s = .next s) ∧
    (afind s.chirp.sending n = none → aget 0 s.chirp.suspendTo n ≤ s.ns →
      exec (.chirpSuspendEnd n) s = .next (s.setF (F.CH_PAIRSTAT_SUSPENDED n) 0)) ∧
    (s.ns < aget 0 s.chirp.suspendTo n → exec (.chirpSuspendEnd n) s = .next s)

/-- From 164 µs before its launch the item of an RF_TX is read and checked: a wrong form ends INVALID_ITEM, a channel not
enabled CHANNEL_OFF, else the pair's profile is taken and securing begins. With no item by launch less the ramp and 20
µs it ends MISSED_LAUNCH. At the refusal point its interval is charged, or it ends DUTY_REFUSED. At its up-ramp,
permitted and secured, the pair transmits: held frames end as preempted, detection is suspended. At its launch time
the frame's samples leave and the entry is gone; one whose ramp has not started is not sent. At the end of the
down-ramp SENT is counted, detection stays suspended 50 µs more, a host frame's item is released and OK reported.
Before its time each changes nothing. (spec/08_chirp_phy.md (R208, R213, R216, R217, R218), spec/09_radio_mac.md
(R241, R242); derived.) -/
def Obligations.ChirpTransmission : Prop :=
  ∀ (i : EntryId) (n : RfPort) (e : LqEntry) (it : List Word) (a b st : Nat) (r : RfSending) (s z : State),
    (s.lqAt i = some e → leType e.words = leTypeRF_TX →
      (s.ns + 164000 < s.lqNs e → exec (.rfTxItemRead i) s = .next s) ∧
      (s.lqNs e ≤ s.ns + 164000 → e.item = some it → e.securing = false → e.secured = none → e.due = none →
        (rfItValid it = false → exec (.rfTxItemRead i) s = .next (s.txFail e rtINVALID_ITEM)) ∧
        (rfItValid it = true → s.chanOn e.port (rfItChan it) = false → exec (.rfTxItemRead i) s = .next (s.txFail e rtCHANNEL_OFF)) ∧
        (rfItValid it = true → s.chanOn e.port (rfItChan it) = true → rfItFofsEn it = false → ∃ y : State,
          exec (.rfTxItemRead i) s = .next (y.secureEntry e.entry) ∧
          y = s.lqUpdate e.entry fun x => { x with profile := s.getF (F.CH_PAIRSTAT_PROFILE e.port) })) ∧
      (e.item = none →
        (s.lqNs e < s.ns + s.rampNs (s.getF (F.CH_PAIRSTAT_PROFILE e.port)) + 20000 →
          exec (.rfItemDeadline i) s = .next (s.txFail e rtMISSED_LAUNCH)) ∧
        (s.ns + s.rampNs (s.getF (F.CH_PAIRSTAT_PROFILE e.port)) + 20000 ≤ s.lqNs e → exec (.rfItemDeadline i) s = .next s) ∧
        exec (.dutyCheck i) s = .next s ∧ exec (.uprampStart i) s = .next s) ∧
      (e.item ≠ none → exec (.rfItemDeadline i) s = .next s) ∧
      (e.item = some it → s.rfSpan e = some (a, b) →
        (s.ns + 20000 < a → exec (.dutyCheck i) s = .next s) ∧
        (a ≤ s.ns + 20000 → e.charged = false → z = (s.dutyCharge e.port (rfItChan it) (b - a) ((a - 20000) / 1000000000)).1 →
          ((s.dutyCharge e.port (rfItChan it) (b - a) ((a - 20000) / 1000000000)).2 = true →
            exec (.dutyCheck i) s = .next (z.lqUpdate i fun x => { x with charged := true })) ∧
          ((s.dutyCharge e.port (rfItChan it) (b - a) ((a - 20000) / 1000000000)).2 = false → exec (.dutyCheck i) s = .next (z.txFail e rtDUTY_REFUSED))) ∧
        (s.ns < a → exec (.uprampStart i) s = .next s) ∧
        (a ≤ s.ns → e.charged = true → e.due = none → afind s.chirp.sending e.port = none →
          (s.rampStop e = some st → exec (.uprampStart i) s = .next (s.txFail e st)) ∧
          (s.rampStop e = none → ∃ y : State, exec (.uprampStart i) s = .next (y.emitRamp e.port e.profile true a) ∧
            afind y.chirp.sending e.port = some {
              entry := { e with outside := true, ramped := true }, start := a, end_ := b, dur := s.rampNs e.profile, ofs := rfItFofsEn it } ∧
            (∀ q ∈ y.chirp.demods, q.lent = none → q.det.port ≠ e.port)))) ∧
      (s.lqReady e = false → exec (.rfTx i) s = .next s) ∧
      (s.lqReady e = true → s.lqNoMains e = false → e.item = some it →
        (afind s.chirp.sending e.port = some r → r.entry.entry = e.entry → r.entry.gen = e.gen → exec (.rfTx i) s =
          .next ((s.lqRemove i).emitOut (.chirpFrame e.port (s.chirpWave e.port it (s.lqNs e))))) ∧
        (afind s.chirp.sending e.port = none → s.mayTransmit = false → exec (.rfTx i) s = .next (s.txFail e stMODE_SILENT)))) ∧
    (afind s.chirp.sending n = some r →
      (s.ns < r.end_ → exec (.rfTxEnd n) s = .next s) ∧
      (r.end_ ≤ s.ns → s.lqAt r.entry.entry = none → r.ofs = false → r.entry.inserter = .host →
        z = ((s.emitRamp n r.entry.profile false (r.end_ - r.dur)).rfStop n r.end_).bump (F.CH_TXCNT_SENT n) →
        exec (.rfTxEnd n) s = .next (((z.qRelease (leQueue r.entry.words)).launchReport r.entry rtOK).twinSettle) ∧
        afind z.chirp.sending n = none ∧ aget 0 z.chirp.suspendTo n = r.end_ + 50000)) ∧
    (afind s.chirp.sending n = none → exec (.rfTxEnd n) s = .next s)

/-- 2 ms ahead, a link active in the coming slot, the lowest on its pair, with a channel and not skipped, is to serve its
pair in that slot; without a channel, or skipped, it counts SKIPPED; a lower link on the pair makes it count COLLIDE;
one not active changes nothing. At the start of a slot the links of earlier slots end and changed links take effect.
With no schedule running nothing happens. A transmit link that serves its pair launches the item at its queue's read
pointer as an attempt, or releases it with SLOT_OVERRUN where it would not end in the slot; with no item it does
nothing. An owed ACK is launched ACKGAP after the frame. An attempt whose ACK deadline and 2 µs have passed is a
missing ACK; before, nothing changes. (spec/08_chirp_phy.md (R212, R213), spec/09_radio_mac.md (R230, R231, R232,
R234, R235); derived.) -/
def Obligations.SlotsAndScheduledFrames : Prop :=
  ∀ (l : LinkId) (n : RfPort) (k c : Nat) (v : SlotServe) (a : RfAttempt) (q : RfAckDue) (it : List Word) (s z : State),
    (s.slotAhead = none → exec (.slotPrepare l) s = .next s) ∧
    (s.slotAhead = some k → s.linkActive l k = false → exec (.slotPrepare l) s = .next s) ∧
    (s.slotAhead = some k → s.linkActive l k = true → s.ns ≤ s.epoch + k * s.slotNs → afind s.radio.serve (s.linkPair l) = none →
      ((∃ i < l.val, s.linkPair i = s.linkPair l ∧ s.linkActive i k = true) →
        exec (.slotPrepare l) s = .next (s.bump F.MC_SCHEDSTAT_COLLIDE)) ∧
      ((∀ i < l.val, s.linkPair i ≠ s.linkPair l ∨ s.linkActive i k = false) →
        (s.linkChan l k = none → exec (.slotPrepare l) s = .next (s.bump F.MC_SCHEDSTAT_SKIPPED)) ∧
        (s.linkChan l k = some c → s.linkTx l = true → s.linkAny l = false → v = {
            link := l, asn := k, start := s.epoch + k * s.slotNs, chan := c, delta := s.slotDelta (s.linkNeigh l) (s.epoch + k * s.slotNs),
            guard := s.slotGuard (s.linkNeigh l) (s.epoch + k * s.slotNs),
            expect := (s.epoch + k * s.slotNs : Nat) + s.getF F.MC_TIMING_TXOFS * 10000 + s.slotDelta (s.linkNeigh l) (s.epoch + k * s.slotNs),
            classS := false } →
          (s.linkSkipped l c v = true → exec (.slotPrepare l) s = .next (s.bump F.MC_SCHEDSTAT_SKIPPED)) ∧
          (s.linkSkipped l c v = false → exec (.slotPrepare l) s =
            .next { s with radio := { s.radio with serve := aset s.radio.serve (s.linkPair l) v } })))) ∧
    (s.slotsRun = false → exec .slotStart s = .next s) ∧
    (s.slotsRun = true → (∀ x ∈ s.radio.serve, x.2.classS = false) → exec .slotStart s = .next { s with radio := { s.radio with
      serve := s.radio.serve.filter (fun x => !decide (x.2.asn < s.asn)), asn := s.asn, oldLinks := [] } }) ∧
    (afind s.radio.serve (s.linkPair l) = none → exec (.schedTx l) s = .next s) ∧
    (afind s.radio.serve (s.linkPair l) = some v → v.link = l.val → s.linkTx l = true → s.radio.attempts = [] →
        s.qUsable (s.linkQueue l) = true → s.qHeadLost (s.linkQueue l) = false →
      (s.qFront (s.linkQueue l) = none → exec (.schedTx l) s = .next s) ∧
      (s.qFront (s.linkQueue l) = some it → s.qPoisoned (s.linkQueue l) (s.qR (s.linkQueue l)) it.length = false →
          bitAt (rfItPayload (schedItem it (s.linkSf l) (s.linkCr l) v.chan)) 0 3 = false →
          c = v.expect.toNat + s.rfAir (s.linkPair l) (schedItem it (s.linkSf l) (s.linkCr l) v.chan) +
            s.rampNs (s.getF (F.CH_PAIRSTAT_PROFILE (s.linkPair l))) →
        (v.start + s.slotNs ≤ c → exec (.schedTx l) s =
          .next ((((s.qMark (s.linkQueue l)).qConsume (s.linkQueue l)).qRelease (s.linkQueue l)).notice ncSLOT_OVERRUN (s.linkPair l) [])) ∧
        (c < v.start + s.slotNs → ∀ y : State, y = (s.qMark (s.linkQueue l)).qConsume (s.linkQueue l) →
          z = { y with radio := { y.radio with attempts := y.radio.attempts ++ [{ link := l, queue := s.linkQueue l, pair := s.linkPair l }] } } →
          ∀ x, x = z.lqInsert (entryWords leTypeRF_TX 2 (s.linkPair l) v.expect.toNat (s.linkQueue l)) (.sched l) → x.2.1 = stOK →
          exec (.schedTx l) s = .next (x.1.lqUpdate (x.2.2 % 2048) fun e => {
            e with item := some (schedItem it (s.linkSf l) (s.linkCr l) v.chan), readFrom := s.qR (s.linkQueue l) })))) ∧
    (afind s.radio.acks n = none → exec (.schedAckSend n) s = .next s) ∧
    (afind s.radio.acks n = some q → z = { s with radio := { s.radio with acks := adel s.radio.acks n } } → exec (.schedAckSend n) s =
      .next (z.launchItem n q.at_ (.radioAck n) (z.rfAckItem q.chan q.sf q.cr q.dst q.seq 0 false)).1) ∧
    (s.radio.attempts = [a] → a.pair = n.val → a.waiting = true →
      (a.deadline + 2000 ≤ s.ns → exec (.rfAckExpiry n) s = .next (s.rfAckMissed a)) ∧
      (s.ns < a.deadline + 2000 → exec (.rfAckExpiry n) s = .next s)) ∧
    (aget 0 s.radio.used a.queue < s.getF F.MC_SCHEDCFG_RETRIES → ∃ y : State, s.rfAckMissed a = y ∧
      aget 0 y.radio.used a.queue = aget 0 s.radio.used a.queue + 1 ∧ y.queues = (s.qRewind a.queue).queues ∧ y.qmem = s.qmem) ∧
    (s.getF F.MC_SCHEDCFG_RETRIES ≤ aget 0 s.radio.used a.queue → s.rfAckMissed a = (s.rfRelease a).notice ncRF_NOACK a.pair [])

/-- An ACTIVE supervised entry not heard by its deadline and 2 µs, with no verification in time pending, is LOST: its
mailbox frames dropped, EP_LOST written; before, or unsupervised, nothing changes. A provisional entry not written by
the host for PROVTTL s and 2 µs is FREE again. The item at the head of a served downlink queue goes into the mailbox
of a sleepy entry, else into the queue of its link, and is read and released; with no place it stays; one naming no
entry is released and counted. A mailbox frame older than its partition's MBXTTL is freed, counted and reported. A
poll window with no mailbox frame is answered with an ACK at its opening; with no time left in it MISSED counts. At a
second boundary buckets older than an hour leave and MC_DCUSED follows. (spec/09_radio_mac.md (R226, R229, R236, R237,
R238, R240); derived.) -/
def Obligations.EndpointsMailboxesAndBudgets : Prop :=
  ∀ (ep : EndpointId) (k : DlqId) (d t0 q e : Nat) (it : List Word) (f : MbxFrame) (w : PollWindow) (s z : State),
    (s.superDeadline ep = some d →
      (d + 2000 ≤ s.ns → s.verifying ep d = false → exec (.supervisionExpiry ep) s = .next (s.epLost ep)) ∧
      (s.ns < d + 2000 ∨ s.verifying ep d = true → exec (.supervisionExpiry ep) s = .next s)) ∧
    (s.superDeadline ep = none → exec (.supervisionExpiry ep) s = .next s) ∧
    (s.epState ep = epACTIVE → s.getF (F.EP7_SUPERV ep) ≠ 0 → afind s.radio.lapsed ep = none → s.superDeadline ep = some (s.lastRx ep + 10000000 * s.getF (F.EP7_SUPERV ep))) ∧
    (s.sound = true → s.mbxOf ep = [] → ∃ t : State, s.epLost ep = t ∧ t.epState ep = epLOST) ∧
    (afind s.radio.prov ep = some t0 → s.epState ep = epPROV →
      (t0 + 1000000000 * s.getF F.MC_JOINCFG_PROVTTL + 2000 ≤ s.ns → exec (.provisionalExpiry ep) s = .next (s.setEp ep epFREE)) ∧
      (s.ns < t0 + 1000000000 * s.getF F.MC_JOINCFG_PROVTTL + 2000 → exec (.provisionalExpiry ep) s = .next s)) ∧
    (s.struct_.live = true → s.getF (F.MC_DLQ_EN k) = 1 → q = s.getF (F.MC_DLQ_QUEUE k) → s.qUsable q = true → s.radio.dlqStopped = [] →
        s.qHeadLost q = false →
      (s.qFront q = none → exec (.dlqServe k) s = .next s) ∧
      (s.qFront q = some it → s.qPoisoned q (s.qR q) it.length = false → rfItValid it = true → 20 ≤ rfItLen it →
        (s.ownEp (rfRxa (rfItPayload it)) = none →
          exec (.dlqServe k) s = .next (((s.bump F.MC_ROUTESTAT_NEXTHOP).qConsume q).qRelease q)) ∧
        (s.ownEp (rfRxa (rfItPayload it)) = some e → s.getF (F.EP0_SLEEPY e) = 1 →
          (∀ y, s.mbxPut e it = (y, .ok) → exec (.dlqServe k) s = .next ((y.qConsume q).qRelease q)) ∧
          (∀ y, s.mbxPut e it = (y, .storeFull) → exec (.dlqServe k) s = .next { y with radio := { y.radio with
            dlqStopped := y.radio.dlqStopped ++ [(k.val, 2 ^ 17 + (s.partOf e).getD 8)] } }) ∧
          (∀ y, s.mbxPut e it = (y, .endpointFull) → exec (.dlqServe k) s = .next { y with radio := { y.radio with
            dlqStopped := y.radio.dlqStopped ++ [(k.val, e)] } })))) ∧
    (s.getF (F.MC_DLQ_EN k) = 0 → exec (.dlqServe k) s = .next s) ∧
    (s.mbxOf ep = [f] → s.getF (F.MC_PART0_MBXTTL f.part) ≠ 0 →
      (s.mbxSecond f + s.getF (F.MC_PART0_MBXTTL f.part) < s.ns / 1000000000 → exec (.mbxExpired ep) s =
        .next (((s.mbxFree f).bump F.MC_MBXSTAT_EXPIRED).notice ncMBX_EXPIRED (s.getF (F.EP0_PORT ep)) [])) ∧
      (s.ns / 1000000000 ≤ s.mbxSecond f + s.getF (F.MC_PART0_MBXTTL f.part) → exec (.mbxExpired ep) s = .next s)) ∧
    (s.mbxOf ep = [] → exec (.mbxExpired ep) s = .next s) ∧
    (s.radio.polls = [] → exec (.pollResponse ep) s = .next s) ∧
    (s.radio.polls = [w] → w.ep = ep.val → s.mbxOf ep = [] → z = { s with radio := { s.radio with polls := [] } } →
      (z.pollTime w = none → exec (.pollResponse ep) s = .next (z.bump F.MC_MBXSTAT_MISSED)) ∧
      (z.pollTime w = some t0 → ∀ x, x = z.launchItem w.pair t0 (.radioAck w.pair)
          (z.rfAckItem w.chan w.sf w.cr (z.epAddr ep) (w.ackSeq.getD 0) (z.getF (F.EP10_FOFS ep)) true) →
        exec (.pollResponse ep) s = .next (if x.2.1 = stOK then x.1 else x.1.bump F.MC_MBXSTAT_MISSED))) ∧
    (s.radio.duty = [] → exec .dcSecond s = .next s) ∧
    (∀ l : List (Nat × Nat), s.radio.duty = [(8 * 3 + 2, l)] → afind l (s.ns / 1000000000 - 1) = none → ∃ y : State,
      exec .dcSecond s = .next (y.showUsed 3 2) ∧
      y.radio.duty = [(26, l.filter fun x => decide (s.ns / 1000000000 < x.1 + 3600))] ∧ y = { s with radio := { s.radio with duty := y.radio.duty } })

/-- A CARD_EXCHANGE on the port's ring ends DOMAIN_DOWN while CPH is not on; else, with a tag for its read, it ends
PORT_OFF with the port disabled and APDU_INVALID with a bad header, activates the port when it is off or RESET is set
(cold or warm), and otherwise sends the APDU. CARD_RST_N rises 512 card clocks after CARD_CLK runs, with F 372 and D
1. An answer that begins before 400 or after 40,000 clocks, is malformed, offers no protocol, asks for a CRC or is
unsupported fails with ATR_FAIL, as does none in 40,000 clocks; any other makes the port READY and its exchange
starts. A complete exchange captures its key with KEK, deactivates with DEACT, and writes the header with the length
and the status; one longer than its buffer ends BUFFER_SHORT. Deactivation ends in OFF. An event whose port is not in
the state for it changes nothing. In EXCHANGE with a response not complete: under T=0 a character with a parity error
counts PARITY and is awaited again, and after 4 repeats ends the exchange with CARD_PARITY; SW1 is any procedure byte
6x but 0x60, or 9x; 0x60 waits on; a data character joins the response. An error signal sends the character again and
counts PARITY, up to 4 times, then ends the exchange with CARD_PARITY. A waiting time that has passed counts TIMEOUT
and ends a T=0 exchange with CARD_TIMEOUT; under T=1 an R-block is sent, and a second failure ends the exchange with
that status. Under T=1 a whole block with a wrong LRC counts PARITY and is answered by an R-block. With no exchange,
or before the waiting time has passed, nothing changes. (spec/10_cipher_keys.md (R266, R267, R268, R269, R270, R271,
R272, R273), spec/12_host_link.md (R320); derived.) -/
def Obligations.CardPortExchanges : Prop :=
  (∀ (k : CardPort) (cmd atr pps : List Byte) (b t n : Nat) (d : DescRun) (r : CardRun) (a : AtrInfo) (key : List Byte) (s s1 : State),
    (n = s.getF (F.CX_CARDCFG_RING k) → s.dmaRun n = none → exec (.cardExchange k cmd) s = .next s) ∧
    (n = s.getF (F.CX_CARDCFG_RING k) → s.dmaRun n = some d → dKind d.desc.words = 2 → d.started = false → d.waiting = false →
      s.cardRun k = none → s.cardState k ≠ cdDEACTIVATING →
      r = { ring := n, header := cmd.take 8, apdu := (cmd.drop 8).take (ccLen cmd) } →
      (s.domOn domCPH = false → exec (.cardExchange k cmd) s = .next (s.dmaFinish n stDOMAIN_DOWN 0)) ∧
      (s.domOn domCPH = true → s.canRead (.run n) → ∃ y : State, y = s.afterRead.setDmaRun n { d with started := true } ∧
        (s.flag (F.CX_CARDCFG_EN k) = false → exec (.cardExchange k cmd) s = .next (y.cardError k r csPORT_OFF)) ∧
        (s.flag (F.CX_CARDCFG_EN k) = true →
          (ccValid cmd = false → exec (.cardExchange k cmd) s = .next (y.cardError k r csAPDU_INVALID)) ∧
          (ccValid cmd = true → s.cardState k = cdOFF → ∃ z : State, exec (.cardExchange k cmd) s = .next z ∧ z.cardState k = cdACTIVATING ∧
            z.cardRun k = some r ∧ (z.card k).rstHigh = false) ∧
          (ccValid cmd = true → s.cardState k ≠ cdOFF → ccReset cmd = false →
            exec (.cardExchange k cmd) s = .next (y.cardStart k r))))) ∧
    (s.cardState k = cdACTIVATING →
      ((s.card k).rstHigh = false →
        ((s.card k).since + (if (s.card k).clkOn then 0 else 200000) + s.cardClocks k 512 ≤ s.ns → ∃ y : State,
          exec (.cardActivate k) s = .next y ∧ (y.card k).rstHigh = true ∧ (y.card k).clkOn = true ∧ (y.card k).since = s.ns ∧
          y.getF (F.CX_CARDETU_F k) = 372 ∧ y.getF (F.CX_CARDETU_D k) = 1) ∧
        (s.ns < (s.card k).since + s.cardClocks k 512 → exec (.cardActivate k) s = .next s) ∧
        exec (.cardAtr k b atr pps) s = .next s ∧ exec (.atrFail k) s = .next s) ∧
      ((s.card k).rstHigh = true →
        (b < 400 ∨ 40000 < b → exec (.cardAtr k b atr pps) s = .next (s.atrFails k)) ∧
        (readAtr atr = none → exec (.cardAtr k b atr pps) s = .next (s.atrFails k)) ∧
        (readAtr atr = some a →
          (atrProtocol a (s.flag (F.CX_CARDCFG_TPREF k)) = none → exec (.cardAtr k b atr pps) s = .next (s.atrFails k)) ∧
          (atrProtocol a (s.flag (F.CX_CARDCFG_TPREF k)) = some t →
            (a.supported = false ∨ t = 1 ∧ a.crc = true → exec (.cardAtr k b atr pps) s = .next (s.atrFails k)) ∧
            (400 ≤ b → b ≤ 40000 → a.supported = true → a.crc = false → s1 = s.atrTake k a t pps →
              (s1.cardRun k = some r → exec (.cardAtr k b atr pps) s = .next ((s1.setCardState k cdREADY).cardStart k r)) ∧
              (s1.cardRun k = none → exec (.cardAtr k b atr pps) s = .next (s1.setCardState k cdREADY))))) ∧
        ((s.card k).since + s.cardClocks k 40000 ≤ s.ns → exec (.atrFail k) s = .next (s.atrFails k)) ∧
        (s.ns < (s.card k).since + s.cardClocks k 40000 → exec (.atrFail k) s = .next s))) ∧
    (s.cardState k ≠ cdACTIVATING → exec (.cardActivate k) s = .next s ∧ exec (.cardAtr k b atr pps) s = .next s ∧
      exec (.atrFail k) s = .next s) ∧
    (s.cardRun k = some r → s.dmaRun r.ring = some d → r.complete = true →
      (ccKek r.header = false → ccDeact r.header = false → r.response.length + 8 ≤ dRespLen d.desc.words →
        s1 = (s.cardLast k csOK).setCardState k cdREADY → exec (.cardExchangeEnd k) s =
          .next (((s1.cardWrite r (r.response.length - 2) r.flushed r.response.length).cardHead k r r.response.length csOK).exchangeEnd
            r.ring stOK (8 + r.response.length))) ∧
      (s.cardCapture r = (csOK, some key) → ccDeact r.header = true → dRespLen d.desc.words < 8 + r.response.length →
        exec (.cardExchangeEnd k) s =
          .next ((((s.loadKey (2 ^ 17 + ccDrawer r.header) 0 key).cardLast k csOK).cardOff k).exchangeEnd r.ring stBUFFER_SHORT r.flushed)) ∧
      (ccKek r.header = true → s.drawerUse (ccDrawer r.header) useKEK none = false → s.cardCapture r = (csKEK_REFUSED, none))) ∧
    (s.cardRun k = some r → r.complete = false → exec (.cardExchangeEnd k) s = .next s) ∧
    (s.cardState k = cdDEACTIVATING → exec (.cardDeactivated k) s = .next (s.setCardState k cdOFF)) ∧
    (s.cardState k ≠ cdDEACTIVATING → exec (.cardDeactivated k) s = .next s)) ∧
  (∀ (k : CardPort) (x sw1 : Byte) (ok : Bool) (i j m : Nat) (r : CardRun) (s : State),
    (s.cardRun k = some r → s.cardState k = cdEXCHANGE → r.complete = false →
      (s.cardT1 k = false →
        (r.repeats < 4 → exec (.cardCharacter k x false) s =
          .next (((s.setCard k { s.card k with since := s.ns }).setCardRun k { r with repeats := r.repeats + 1 }).bump (F.CX_CARDERR_PARITY k))) ∧
        (4 ≤ r.repeats → exec (.cardCharacter k x false) s = .next (s.cardFail k r csPARITY)) ∧
        (r.stage = .proc → x = 0x60 → exec (.cardCharacter k x true) s =
          .next ((s.setCard k { s.card k with since := s.ns, signalled := none }).setCardRun k { r with repeats := 0 })) ∧
        (r.stage = .proc → x ≠ 0x60 → x.toNat / 16 = 6 ∨ x.toNat / 16 = 9 → exec (.cardCharacter k x true) s =
          .next ((s.setCard k { s.card k with since := s.ns, signalled := none }).setCardRun k { r with repeats := 0, stage := .sw2 x })) ∧
        (r.stage = .sw2 sw1 → exec (.cardCharacter k x true) s =
          .next ((s.setCard k { s.card k with since := s.ns, signalled := none }).t0Status k { r with repeats := 0 } sw1 x)) ∧
        (r.stage = .data m → exec (.cardCharacter k x true) s =
          .next ((s.setCard k { s.card k with since := s.ns, signalled := none }).cardFlush k { r with
            repeats := 0, response := r.response ++ [x], crossed := r.crossed + 1, stage := if m ≤ 1 then .proc else .data (m - 1) })) ∧
        ((s.card k).since + s.cardClocks k (960 * (s.card k).wi * s.getF (F.CX_CARDETU_F k)) ≤ s.ns →
          exec (.cardTimeout k) s = .next ((s.bump (F.CX_CARDERR_TIMEOUT k)).cardFail k r csTIMEOUT)) ∧
        (i < (s.card k).lastSent.length →
          ((s.card k).signalled = some (i, m) → 4 ≤ m → exec (.cardErrorSignal k i) s = .next (s.cardFail k r csPARITY)) ∧
          ((s.card k).signalled = none ∨ (s.card k).signalled = some (j, m) ∧ j ≠ i → exec (.cardErrorSignal k i) s =
            .next (((s.emitOut (.cardSend k (((s.card k).lastSent.drop i).take 1))).bump (F.CX_CARDERR_PARITY k)).setCard k
              { s.card k with since := max (s.card k).since s.ns, signalled := some (i, 1) }))) ∧
        ((s.card k).lastSent.length ≤ i → exec (.cardErrorSignal k i) s = .next s)) ∧
      (s.cardT1 k = true →
        (r.block.length + 1 < 4 → exec (.cardCharacter k x ok) s = .next ((s.setCard k { s.card k with since := s.ns }).setCardRun k
          { r with block := r.block ++ [x], bad := r.bad || !ok })) ∧
        (3 ≤ r.block.length → 4 + ((r.block ++ [x]).getD 2 0).toNat ≤ r.block.length + 1 →
          (ok = false ∨ r.bad = true ∨ lrc (r.block ++ [x]) ≠ 0 → exec (.cardCharacter k x ok) s =
            .next (((s.setCard k { s.card k with since := s.ns }).bump (F.CX_CARDERR_PARITY k)).t1Fail k
              { r with block := [], bad := false } csPARITY 1)) ∧
          (ok = true → r.bad = false → lrc (r.block ++ [x]) = 0 → exec (.cardCharacter k x ok) s =
            .next ((s.setCard k { s.card k with since := s.ns }).t1Block k r (r.block ++ [x])))) ∧
        ((s.card k).since + s.cardClocks k (s.cardWait k r) ≤ s.ns → exec (.cardTimeout k) s =
          .next ((s.bump (F.CX_CARDERR_TIMEOUT k)).t1Fail k { r with block := [], bad := false } csTIMEOUT 2)) ∧
        exec (.cardErrorSignal k i) s = .next s) ∧
      (s.ns < (s.card k).since + s.cardClocks k (s.cardWait k r) → exec (.cardTimeout k) s = .next s)) ∧
    (s.cardRun k = some r → r.rblock = true → s.t1Fail k r csTIMEOUT 2 = s.cardFail k r csTIMEOUT) ∧
    (s.cardRun k = none → exec (.cardCharacter k x ok) s = .next s ∧ exec (.cardTimeout k) s = .next s ∧ exec (.cardErrorSignal k i) s = .next s))

/-- A stale deadline due for evaluation sets STALE and writes one QUEUE_STALE with the queue, the unread words and Tr;
STALE set, or no deadline due, changes nothing. A host item open beyond QM_OPENLIM × 100 µs is discarded, W returns to
its header, its producer is orphaned and QUEUE_OPEN_EXPIRED is written; a hardware item, LIMIT 0 or an item not yet
that old is left. A hardware item is written whole where the queue is usable, nothing is open and it has room, else
the queue overruns. A scrub read due counts a corrected error to its bank and queue, marks a double error's word
poisoned and reports it once (a word already poisoned is not reported again), and its bank's next read falls due 256
ticks later at the next offset; before it is due it changes nothing. A bank copy is done 65,536 ticks after it began.
A tag that is not quiet answers an INVENTORY of one subcarrier whose AFI and mask match with its UID; STAY_QUIET,
SELECT and RESET_TO_READY set the tag's state. A request of two subcarriers, addressed to another tag, with the select
flag at a tag not selected, or at a quiet tag without an address, changes nothing. Reads answer flags and the blocks'
bytes, with the security status where asked; naming no block, more than 8, a reserved one, one above 511 or, by a
standard command, above 255 gives error 0x10; one the host holds, by a claim of an earlier tick, gives 0x12 and is
counted, to a write as to a read. A write to blocks 0 to 79, or with FIELD_WR clear, gives 0x12; without supplies in a
weak field 0x0F; else it claims the block for the field, before a host claim of the same tick, and programs it. Lock
and all other commands give error 0x01. System information reports DSFID 0, AFI 0, 512 blocks of 32 bytes and
MD_ID.STEPPING. (spec/11_queues.md (R276, R277, R278, R286, R287, R290), spec/15_faults_service.md (R385, R386, R387,
R388, R393), spec/17_electrical.md (R421); derived.) -/
def Obligations.QueueLimitsScrubbersAndFieldTag : Prop :=
  (∀ (q : QueueId) (b : PhysBank) (u : Upset) (hw : HwUnit) (body : List Word) (n o : Nat) (x : OpenItem) (c : BankCopy) (s : State),
    (s.staleDue q = true → ∃ y : State, exec (.queueStale q) s =
        .next (y.notice ncQUEUE_STALE q [(16, q), (32, s.qUnread q), (64, (s.qst q).tr)]) ∧
      y = (s.setQst q { s.qst q with late := none }).setF (F.QM_QSTAT_STALE q) 1) ∧
    (s.staleDue q = false → exec (.queueStale q) s = .next s) ∧ (s.flag (F.QM_QSTAT_STALE q) = true → s.staleDue q = false) ∧
    (s.struct_.live = true → s.flag (F.QM_QSTAT_STALE q) = false → (s.qst q).late = none →
      s.staleDue q = (decide (s.getF (F.QM_QCFG_STALE q) ≠ 0) && s.qHasItem q && decide (max (max (s.qst q).tr (s.qst q).tn +
        10000 * s.getF (F.QM_QCFG_STALE q)) (s.qst q).staleSet + 2000 ≤ s.ns))) ∧
    ((s.qst q).open_ = some x →
      (x.producer.isHost = true → s.getF F.QM_OPENLIM_LIMIT ≠ 0 → x.since + s.getF F.QM_OPENLIM_LIMIT * 100000 + 2000 ≤ s.ns →
        exec (.queueOpenExpired q) s = .next ((((s.setF (F.QM_QWP_PTR q) x.header).setQst q { s.qst q with
          open_ := none, orphans := (s.qst q).orphans.filter (·.1 != x.producer) ++ [(x.producer, true)] }).qSettle q).notice ncQUEUE_OPEN_EXPIRED q
          [(16, q), (32, x.producer.field), (32, x.written)])) ∧
      (x.producer.isHost = false ∨ s.getF F.QM_OPENLIM_LIMIT = 0 ∨ s.ns < x.since + s.getF F.QM_OPENLIM_LIMIT * 100000 + 2000 →
        exec (.queueOpenExpired q) s = .next s)) ∧
    ((s.qst q).open_ = none → exec (.queueOpenExpired q) s = .next s) ∧
    (s.qUsable q = true → s.txn.flushes.contains q.val = false → (s.qst q).open_ = none → (itemOf body).length ≤ s.qRoom q →
      exec (.hwItemWrite q hw body) s = .next (((s.qPut q (s.qW q) (itemOf body)).qAdvanceW q (itemOf body).length none).mirror
        (.queueWrite q (itemOf body)))) ∧
    (s.qUsable q = false ∨ (s.qst q).open_.isSome = true ∨ s.qRoom q < (itemOf body).length →
      exec (.hwItemWrite q hw body) s = .next (s.qOverrun q (.hw hw.block hw.index))) ∧
    (s.tick < aget 0 s.queues.scrubDue b → exec (.scrubRead b u) s = .next s) ∧
    (aget 0 s.queues.scrubDue b ≤ s.tick → o = aget 0 s.queues.scrubAt b →
      exec (.scrubRead b .none) s = .next (s.scrubNext b o) ∧
      exec (.scrubRead b .single) s = .next ((s.corrected b (s.wordOfBank b o)).scrubNext b o) ∧
      exec (.scrubRead b .double) s = .next ((s.poisoned b o (s.wordOfBank b o)).scrubNext b o) ∧
      (s.queues.poison.contains (poisonKey b o (s.wordOfBank b o)) = true → exec (.scrubRead b .double) s = .next (s.scrubNext b o))) ∧
    aget 0 (s.scrubNext b o).queues.scrubDue b = s.tick + 256 ∧ aget 0 (s.scrubNext b o).queues.scrubAt b = (o + 1) % 65536 ∧
    (s.queues.copies = [c] → c.isOf n = true →
      (c.started + 65536 ≤ s.tick → exec (.bankCopyDone n) s = .next { s with queues := { s.queues with copies := [{ c with ended := true }] } }) ∧
      (s.tick < c.started + 65536 → exec (.bankCopyDone n) s = .next s)) ∧
    (s.queues.copies = [] → exec (.bankCopyDone n) s = .next s)) ∧
  (∀ (f : FieldCmd) (b code : Nat) (d data : List Byte) (seq : Nat) (s : State),
    (f.twoSubcarriers = false → s.service.tag ≠ .quiet → f.afi = none ∨ f.afi = some 0 → tagUid % 2 ^ f.maskLen = f.mask % 2 ^ f.maskLen →
      exec (.inventory f) s = .next (s.emitOut (.field ([0, 0] ++ bytesLE 8 tagUid)))) ∧
    (f.twoSubcarriers = true ∨ s.service.tag = .quiet ∨ tagUid % 2 ^ f.maskLen ≠ f.mask % 2 ^ f.maskLen → exec (.inventory f) s = .next s) ∧
    (f.twoSubcarriers = true ∨ (f.selectFlag = true ∧ s.service.tag ≠ .selected) ∨ (f.selectFlag = false ∧ f.addressed = true ∧ f.uid ≠ tagUid) ∨
        (f.selectFlag = false ∧ f.addressed = false ∧ s.service.tag = .quiet) →
      s.hears f = false ∧ exec (.stayQuiet f) s = .next s ∧ exec (.resetToReady f) s = .next s ∧ exec (.getSystemInformation f) s = .next s ∧
      exec (.readSingleBlock f b) s = .next s ∧ exec (.writeSingleBlock f b d) s = .next s ∧ exec (.readMultipleBlocks f b code) s = .next s ∧
      exec (.extendedReadSingleBlock f b) s = .next s ∧ exec (.extendedWriteSingleBlock f b d) s = .next s ∧
      exec (.extendedReadMultipleBlocks f b code) s = .next s ∧ exec (.extendedGetSystemInformation f) s = .next s ∧
      exec (.unsupportedFieldCommand f code) s = .next s) ∧
    (f.twoSubcarriers = false → f.addressed = true →
      (f.uid = tagUid → exec (.select f) s = .next (({ s with service := { s.service with tag := .selected } } : State).emitOut (.field [0]))) ∧
      (f.uid ≠ tagUid → s.service.tag = .selected → exec (.select f) s = .next { s with service := { s.service with tag := .ready } })) ∧
    (f.addressed = false → exec (.select f) s = .next s ∧ exec (.stayQuiet f) s = .next s) ∧
    (s.hears f = true →
      (f.addressed = true → exec (.stayQuiet f) s = .next { s with service := { s.service with tag := .quiet } }) ∧
      exec (.resetToReady f) s = .next (({ s with service := { s.service with tag := .ready } } : State).emitOut (.field [0])) ∧
      exec (.unsupportedFieldCommand f code) s = .next (s.emitOut (.field [1, 0x01])) ∧
      exec (.getSystemInformation f) s = .next (s.emitOut (.field ([0, 0x0F] ++ bytesLE 8 tagUid ++ [0, 0, 0xFF, 31,
        BitVec.ofNat 8 (s.getF F.MD_ID_STEPPING)]))) ∧
      (f.fields = 15 → exec (.extendedGetSystemInformation f) s = .next (s.emitOut (.field ([0, 0x0F] ++ bytesLE 8 tagUid ++ [0, 0] ++
        bytesLE 2 511 ++ [31, BitVec.ofNat 8 (s.getF F.MD_ID_STEPPING)])))) ∧
      (256 ≤ b → exec (.readSingleBlock f b) s = .next (s.emitOut (.field [1, 0x10])) ∧
        (80 ≤ b → s.mode.mode ≠ .OFF → exec (.writeSingleBlock f b d) s = .next (s.emitOut (.field [1, 0x10])))) ∧
      (code = 0 ∨ 8 < code → exec (.readMultipleBlocks f b code) s = .next (s.emitOut (.field [1, 0x10])) ∧
        exec (.extendedReadMultipleBlocks f b code) s = .next (s.emitOut (.field [1, 0x10]))) ∧
      (80 ≤ b → b < 384 ∨ 512 ≤ b → exec (.extendedReadSingleBlock f b) s = .next (s.emitOut (.field [1, 0x10]))) ∧
      (b < 80 ∨ (384 ≤ b ∧ b < 512) →
        (s.hostHolds b = true → exec (.extendedReadSingleBlock f b) s = .next ((s.bump F.SV_CNT_LOCKED).emitOut (.field [1, 0x12]))) ∧
        (s.hostHolds b = false → (s.lcopy b 0).valid = true → (s.lcopy b 1).valid = true → s.lread b = some (data, seq) →
          exec (.extendedReadSingleBlock f b) s = .next (s.emitOut (.field (0 :: ((if f.option then [0] else []) ++ data)))) ∧
          exec (.extendedReadMultipleBlocks f b 1) s = .next (s.emitOut (.field (0 :: ((if f.option then [0] else []) ++ data)))) ∧
          (b < 256 → exec (.readSingleBlock f b) s = .next (s.emitOut (.field (0 :: ((if f.option then [0] else []) ++ data)))) ∧
            exec (.readMultipleBlocks f b 1) s = .next (s.emitOut (.field (0 :: ((if f.option then [0] else []) ++ data))))))) ∧
      (s.mode.mode ≠ .OFF ∨ f.weak = false →
        (b < 80 → exec (.writeSingleBlock f b d) s = .next (s.emitOut (.field [1, 0x12])) ∧
          exec (.extendedWriteSingleBlock f b d) s = .next (s.emitOut (.field [1, 0x12]))) ∧
        (384 ≤ b → b < 512 → s.hostHolds b = true →
          exec (.extendedWriteSingleBlock f b d) s = .next ((s.bump F.SV_CNT_LOCKED).emitOut (.field [1, 0x12]))) ∧
        (384 ≤ b → b < 512 → s.hostHolds b = false →
          (s.flag F.SV_CFG_FIELD_WR = false → exec (.extendedWriteSingleBlock f b d) s = .next (s.emitOut (.field [1, 0x12]))) ∧
          (s.flag F.SV_CFG_FIELD_WR = true → exec (.extendedWriteSingleBlock f b d) s = .next ((s.yieldClaim b).lbegin { block := b, data := d, field := true })))) ∧
      (s.claimNow b = none → s.yieldClaim b = s ∧ s.hostHolds b = (s.lclaim b == some .host)) ∧
      (s.claimNow b ≠ none → s.hostHolds b = false) ∧
      (s.mode.mode = .OFF → f.weak = true → exec (.writeSingleBlock f b d) s = .next (s.emitOut (.field [1, 0x0F])) ∧
        exec (.extendedWriteSingleBlock f b d) s = .next (s.emitOut (.field [1, 0x0F])))))

/-- A detected error is recorded: a repeat of an open record of the same code and unit counts and stamps it and makes no
new one, any other makes the next record; one of the reporting path also enters FAULT with cause 0x0C. A record closes
AUTOCLOSE seconds after its last occurrence, which a repeat stamped later does not put off, and by FAULT_CLOSE: 256
closes every open record, above 256 is INVALID_VALUE, a record not open NO_RECORD. A wedged live unit is recorded and
its work ends, one UNIT_WEDGED is written, and a bank, a CORE unit or the CORE PLL takes the device to FAULT; a unit
not live or already wedged changes nothing. With AUTOSPARE the lowest free spare replaces a wedged unit in a later
tick. An audit step lasts its DWELL; a first mismatch restarts it with the next free spare, or is UNRESOLVED where
there is none; the second comparison gives SPARE where it agrees and LIVE where it does not. Reserved codes record
nothing. (spec/03_modes_power_reset.md (R63), spec/15_faults_service.md (R375, R376, R377, R378, R379, R381, R382,
R390); derived.) -/
def Obligations.FaultRecordsWedgesAndAudits : Prop :=
  ∀ (code i v a : Nat) (c : Cmd) (u : UnitRef) (k : SparedKind) (ix : LogIndex) (dt : Word) (r : FaultRec) (s : State),
    (s.mode.mode ≠ .OFF → code ≠ 0 → code ≤ 9 →
      (escalating code u = false → exec (.faultDetect code u dt) s = .next (s.report code u.kind u.unit dt.toNat).1) ∧
      (escalating code u = true → exec (.faultDetect code u dt) s = .next (s.reportEscalated code u.kind u.unit dt.toNat 0x0C).1) ∧
      (s.openRecord code u.kind u.unit = some (i, r) → escalating code u = false → ∃ q : FaultRec,
        q = { r with count := min 65535 (r.count + 1), last := s.ns, escalated := r.escalated || false,
                        lapsed := if s.getF F.FT_CFG_AUTOCLOSE ≠ 0 ∧ s.closeDue r < s.ns then some (s.closeDue r) else r.lapsed } ∧
        exec (.faultDetect code u dt) s = .next ((s.setRecord i q).recordNotice q i)) ∧
      (s.openRecord code u.kind u.unit = none → s.faults.log.length < 256 → escalating code u = false →
        exec (.faultDetect code u dt) s = .next (s.newRecord s.faults.log.length false code u.kind u.unit dt.toNat false))) ∧
    (s.mode.mode = .OFF ∨ code = 0 ∨ 9 < code → exec (.faultDetect code u dt) s = .next s) ∧
    (afind s.faults.log ix = some r → r.isOpen = true → s.getF F.FT_CFG_AUTOCLOSE ≠ 0 →
      (r.lapsed = none → s.closeDue r = r.last + s.getF F.FT_CFG_AUTOCLOSE * 1000000000) ∧
      (s.closeDue r + 2000 ≤ s.ns → exec (.faultAutoclose ix) s = .next (s.closeRecord ix)) ∧
      (s.ns < s.closeDue r + 2000 → exec (.faultAutoclose ix) s = .next s)) ∧
    (s.getF F.FT_CFG_AUTOCLOSE = 0 ∨ afind s.faults.log ix = none → exec (.faultAutoclose ix) s = .next s) ∧
    (s.runs c opFAULT_CLOSE →
      (v ∈ s.openRecords → v < 256 → exec (.faultClose c v) s = .next ((s.closeRecord v).complete c opFAULT_CLOSE stOK [1])) ∧
      (v ∉ s.openRecords → v < 256 → exec (.faultClose c v) s = .next (s.complete c opFAULT_CLOSE stNO_RECORD)) ∧
      (v = 256 → exec (.faultClose c v) s = .next ((s.openRecords.foldl (fun z j => z.closeRecord j) s).complete c opFAULT_CLOSE stOK
        [BitVec.ofNat 32 s.openRecords.length])) ∧
      (256 < v → exec (.faultClose c v) s = .next (s.complete c opFAULT_CLOSE stINVALID_VALUE))) ∧
    (s.mode.mode = .OFF ∨ s.canWedge u = false → exec (.unitWedged u) s = .next s) ∧
    (s.mode.mode ≠ .OFF → s.canWedge u = true →
      (u.kind.val = kPIPE → exec (.unitWedged u) s = .next (s.wedgePipe u.unit)) ∧
      (u.kind.val ≠ kPIPE → exec (.unitWedged u) s = .next (s.wedgeUnit u) ∧
        (u.kind.val = kQBANK ∨ u.kind.val = kEPBANK ∨ 6 < u.kind.val → s.mode.mode.canFault = true → (s.wedgeUnit u).mode.mode = .FAULT))) ∧
    (s.isWedged u.kind u.unit = true → u.kind.val ≤ 6 → s.canWedge u = false) ∧
    (u.kind.val ≤ 3 → s.isWedged u.kind u.unit = true → s.role u.kind u.unit = roleLIVE → s.flag F.FT_CFG_AUTOSPARE = true →
      (s.tick ≤ aget 0 s.faults.wedgedAt (4096 * u.kind + u.unit) → exec (.autospareSubst u) s = .next s) ∧
      (s.freeSpares u.kind ≠ [] → aget 0 s.faults.wedgedAt (4096 * u.kind + u.unit) < s.tick → ∃ y : State,
        exec (.autospareSubst u) s = .next (y.takeUp u.kind u.unit (s.getF (mapLogical u.kind u.unit))) ∧
        y = (s.retire u.kind u.unit (((s.openRecord fcWEDGE u.kind u.unit).map (·.1)).getD 0)).1) ∧
      (s.freeSpares u.kind = [] → exec (.autospareSubst u) s = .next s)) ∧
    (s.isWedged u.kind u.unit = false ∨ s.flag F.FT_CFG_AUTOSPARE = false → exec (.autospareSubst u) s = .next s) ∧
    (s.struct_.live = true → s.mode.mode ≠ .FAULT →
      (s.flag (F.FT_AUDCFG_EN k) = false → exec (.auditStep k) s = .next (s.setAudit k { s.audit k with active := false, suspect := none })) ∧
      (s.flag (F.FT_AUDCFG_EN k) = true →
        ((s.audit k).active = false ∨ ((s.audit k).suspect = none ∧ (s.audit k).dwellEnd ≤ s.ns) →
          exec (.auditStep k) s = .next ((s.endPass k (s.audit k)).startStep k)) ∧
        ((s.audit k).active = true → s.ns < (s.audit k).dwellEnd → exec (.auditStep k) s = .next s))) ∧
    ((s.audit k).active = true →
      ((s.audit k).suspect = none → exec (.auditMismatch k true) s = .next s ∧
        (s.freeSpares k = [(s.audit k).spare] → exec (.auditMismatch k false) s =
          .next ((s.bump (F.FT_AUDSTAT_MISMATCH k)).judgeNone k (s.audit k).live (s.audit k).spare))) ∧
      ((s.audit k).suspect = some a →
        ((s.audit k).dwellEnd ≤ s.ns → exec (.auditMismatch k true) s = .next (s.judgeSpare k (s.audit k).live a (s.audit k).spare)) ∧
        exec (.auditMismatch k false) s = .next ((s.bump (F.FT_AUDSTAT_MISMATCH k)).judgeLive k (s.audit k).live a (s.audit k).spare))) ∧
    ((s.audit k).active = false → exec (.auditMismatch k true) s = .next s ∧ exec (.auditMismatch k false) s = .next s)

/-- TXN_OPEN with MEMBERS on a device that is no bench master completes INVALID_VALUE, naming a held staging queue
QUEUE_BUSY, with no slot or tag TXN_LIMIT, counted; else it completes OK with the handle and age of a new OPEN
transaction. Any other command whose handle names none, or a part of another master's, completes NOT_OPEN. TXN_ADD
refuses a bad form or MEMBER with INVALID_VALUE, a 65th action with ACTIONS_FULL, and an action its checks refuse with
their status; one they pass claims its lock. TXN_COMMIT lacking room in a target queue completes QUEUE_FULL; a
bench-wide one earlier than 200 µs ahead COMMIT_TOO_SOON; with AT it inserts its COMMIT entry; without it, its checks
passing, every action takes effect in order and it completes OK, else it aborts with their status. TXN_ABORT frees the
slot, or completes TOO_LATE in or after the commit tick of a launched COMMIT or once the decision is sent. TXN_STATUS
returns the slot's four words. (spec/13_transactions.md (R322, R323, R327, R328, R333, R336, R337, R338, R341, R343);
derived.) -/
def Obligations.TransactionCommands : Prop :=
  ∀ (c : Cmd) (w : List Word) (t t1 : Txn) (i g tag st h : Nat) (p : Pool) (a : TxnAction) (f : CommitFail) (s s1 s2 : State),
    (s.runs c opTXN_OPEN →
      ((wordAt w 1).toNat ≠ 0 → s.benchRole ≠ roleMASTER → exec (.txnOpen c w) s = .next (s.complete c opTXN_OPEN stINVALID_VALUE)) ∧
      ((wordAt w 1).toNat = 0 ∨ s.benchRole = roleMASTER →
        ((wordAt w 0).bit 14 = true → s.stageHolder ((wordAt w 0).field 13 0) ≠ none →
          exec (.txnOpen c w) s = .next (s.complete c opTXN_OPEN stQUEUE_BUSY)) ∧
        ((wordAt w 0).bit 14 = false ∨ s.stageHolder ((wordAt w 0).field 13 0) = none →
          (s.ageTick.takeSlot = none → exec (.txnOpen c w) s = .next ((s.bump F.TN_STAT_REFUSED).complete c opTXN_OPEN stTXN_LIMIT)) ∧
          (s.ageTick.takeSlot = some (s1, i, g, tag) → t = {
              slot := i, gen := g, tag := tag, age := { time := s1.ns, frac := s1.frac, member := s1.memberNo },
              session := c.session, members := (wordAt w 1).toNat,
              stageQ := if (wordAt w 0).bit 14 then some ((wordAt w 0).field 13 0) else none } →
            s2 = { s1.openSlot t with txn := { (s1.openSlot t).txn with lastOpen := some (s1.ns, s1.frac) } } →
            exec (.txnOpen c w) s = .next (s2.complete c opTXN_OPEN stOK
              [BitVec.ofNat 32 (i + g * 512), lo32 s1.ns, hi32 s1.ns, BitVec.ofNat 32 (s1.frac + s1.memberNo * 2 ^ 16)]))))) ∧
    (s.txnOf (wordAt w 0).toNat = none ∨ (s.txnOf (wordAt w 0).toNat = some t ∧ t.master ≠ none) →
      (s.runs c opTXN_ADD → exec (.txnAdd c w) s = .next (s.complete c opTXN_ADD stNOT_OPEN)) ∧
      (s.runs c opTXN_COMMIT → exec (.txnCommit c w) s = .next (s.complete c opTXN_COMMIT stNOT_OPEN))) ∧
    (s.txnOf (wordAt w 0).toNat = none → s.runs c opTXN_ABORT →
      (s.txn.late.contains ((wordAt w 0).toNat % 65536) = true → exec (.txnAbort c w) s = .next (s.complete c opTXN_ABORT stTOO_LATE)) ∧
      (s.txn.late.contains ((wordAt w 0).toNat % 65536) = false → exec (.txnAbort c w) s = .next (s.complete c opTXN_ABORT stNOT_OPEN))) ∧
    (s.txnOf (wordAt w 0).toNat = some t → t.master ≠ none → s.runs c opTXN_ABORT →
      exec (.txnAbort c w) s = .next (s.complete c opTXN_ABORT stNOT_OPEN)) ∧
    (s.txnOf (wordAt w 0).toNat = some t → t.master = none →
      (s.runs c opTXN_STATUS → exec (.txnStatus c w) s = .next (s.complete c opTXN_STATUS stOK [t.slotWord 0, t.slotWord 1, t.slotWord 2, t.slotWord 3])) ∧
      (s.runs c opTXN_ABORT →
        ((t.phase = .scheduled ∧ t.commitAt ≤ s.ns) ∨ (t.phase = .sealed ∧ t.decided ≠ none) →
          exec (.txnAbort c w) s = .next (s.complete c opTXN_ABORT stTOO_LATE)) ∧
        (t.phase = .opened ∨ t.phase = .waiting ∨ t.phase = .reclaim ∨ (t.phase = .scheduled ∧ s.ns < t.commitAt) ∨
            (t.phase = .sealed ∧ t.decided = none) →
          exec (.txnAbort c w) s = .next ((s.abortTxn t { status := stTXN_ABORTED } (!t.launched)).complete c opTXN_ABORT stOK))) ∧
      (t.phase = .waiting ∨ t.phase = .scheduled ∨ t.phase = .sealed →
        (s.runs c opTXN_ADD → exec (.txnAdd c w) s = .next (s.complete c opTXN_ADD stNOT_OPEN)) ∧
        (s.runs c opTXN_COMMIT → exec (.txnCommit c w) s = .next (s.complete c opTXN_COMMIT stNOT_OPEN))) ∧
      (t.phase = .reclaim → t.wasScheduled = false → t.heldCommit = none → s.runs c opTXN_COMMIT →
        exec (.txnCommit c w) s = .next (s.setTxn { t with heldCommit := some (c, w) })) ∧
      (t.phase = .opened → s.runs c opTXN_ADD → a = {
          record := (List.range 8).map fun j => wordAt w (j + 1), item := [], index := t.actions.length } →
        (acForm a.record = false ∨ t.memberOk (acMember a.record) = false →
          exec (.txnAdd c w) s = .next (s.complete c opTXN_ADD stINVALID_VALUE)) ∧
        (acForm a.record = true → t.memberOk (acMember a.record) = true →
          (64 ≤ t.actions.length → exec (.txnAdd c w) s = .next (s.complete c opTXN_ADD stACTIONS_FULL)) ∧
          (t.actions.length < 64 → acStaged a.record = false → t.remote a = false →
            (s.checkAction a false (some c.session.val) = (stOK, a) → exec (.txnAdd c w) s = .next (s.claimAction t a (.host c))) ∧
            ((s.checkAction a false (some c.session.val)).1 ≠ stOK → acType a.record ≠ acAMEND → exec (.txnAdd c w) s =
              .next (s.complete c opTXN_ADD (s.checkAction a false (some c.session.val)).1))))) ∧
      (t.phase = .opened → s.runs c opTXN_COMMIT →
        (t.members ≠ 0 → (wordAt w 1).bit 0 = false → exec (.txnCommit c w) s = .next (s.complete c opTXN_COMMIT stINVALID_VALUE)) ∧
        (t.members ≠ 0 → (wordAt w 1).bit 0 = true → (wordAt w 2).toNat + (wordAt w 3).toNat * 2 ^ 32 < s.ns + 200000 →
          exec (.txnCommit c w) s = .next (s.complete c opTXN_COMMIT stCOMMIT_TOO_SOON)) ∧
        (t.members = 0 → s.reserveFor t = none → exec (.txnCommit c w) s = .next (s.complete c opTXN_COMMIT stQUEUE_FULL)) ∧
        (t.members = 0 → (wordAt w 1).bit 0 = false → s.reserveFor t = some (s1, t1) →
          (s1.commitChecks { t1 with commitAt := s1.ns } s1 t1.here = none → exec (.txnCommit c w) s =
            .next (((s1.applyAll { t1 with commitAt := s1.ns }).freeTxn { t1 with commitAt := s1.ns }).complete c opTXN_COMMIT stOK)) ∧
          (s1.commitChecks { t1 with commitAt := s1.ns } s1 t1.here = some f → exec (.txnCommit c w) s =
            .next ((s1.abortCommit { t1 with commitAt := s1.ns } f true).complete c opTXN_COMMIT f.status))) ∧
        (t.members ≠ 0 → (wordAt w 1).bit 0 = true → s.ns + 200000 ≤ (wordAt w 2).toNat + (wordAt w 3).toNat * 2 ^ 32 →
          s.reserveFor t = some (s1, t1) → exec (.txnCommit c w) s =
            .next (s1.commitBench t1 c ((wordAt w 2).toNat + (wordAt w 3).toNat * 2 ^ 32))) ∧
        (t.members = 0 → (wordAt w 1).bit 0 = true → s.reserveFor t = some (s1, t1) →
          s1.lqInsert (t1.commitEntry ((wordAt w 2).toNat + (wordAt w 3).toNat * 2 ^ 32)) (.txn t1.slot) = (s2, st, h) →
          (st = stOK → exec (.txnCommit c w) s = .next ((s2.setTxn { t1 with
            phase := .scheduled, entry := some h, commitAt := (wordAt w 2).toNat + (wordAt w 3).toNat * 2 ^ 32 }).complete c opTXN_COMMIT stOK
            [BitVec.ofNat 32 h])) ∧
          (st ≠ stOK → exec (.txnCommit c w) s = .next (((s2.unreserve t1).setTxn { t1 with
            phase := .opened, reserved := [] }).complete c opTXN_COMMIT st))))) ∧
    (s.txnOf (wordAt w 0).toNat = none → s.runs c opTXN_STATUS → exec (.txnStatus c w) s = .next (s.complete c opTXN_STATUS stNOT_OPEN)) ∧
    (p.take 512 128 = none → s.txn.pool = p → s.takeSlot = none)

/-- A waiting action whose lock has become free is added and its command completes OK with its index; while another holds
it, or an older one waits for it, it waits. A wait longer than WAIT_LIMIT ends: an action's with LOCK_TIMEOUT, its
transaction OPEN again; a claim's in RECLAIM aborts its transaction with LOCK_TIMEOUT; with WAIT_LIMIT 0, or before it
has passed, nothing changes. A younger transaction that is not sealed and holds the lock claimed by an older one is
wounded: it releases every lock, and one TXN_WOUNDED is written; it reclaims where AUTORETRY is set and retries are
left, else it aborts with WOUNDED. A launched COMMIT entry whose checks pass applies every action in order and writes
TXN_DONE with OK; one whose checks fail aborts with their status and nothing is applied; one still in RECLAIM aborts
with WOUNDED; a member's part without the decision COMMIT with DECISION_MISSING, a master's with VOTE_MISSING. A
member without a part takes a slot for the master's first action, or refuses it TXN_LIMIT, counted; an action of a bad
form is refused INVALID_VALUE, a 65th ACTIONS_FULL, one its checks refuse with their status, and one they pass claims
its lock. A wound of a transaction opened here and not sealed is made, of a sealed one refused TOO_LATE. A part
prepares and votes, and with no room for its items votes NO. A NO aborts the master's undecided transaction VOTE_NO; a
YES after V is not counted; V passed undecided aborts VOTE_MISSING. COMMIT by C - GUARD marks a part decided, ABORT
ends it; a prepared part without a decision aborts DECISION_MISSING at C - GUARD. The last report ends the
transaction, as does 1 ms after C. Each request is acknowledged; a repeated one gets its ACK again and nothing else. A
request not from the master, or to no master, changes nothing. (spec/04_timebase_launch.md (R99),
spec/13_transactions.md (R328, R329, R330, R331, R332, R333, R337, R338, R339, R340, R343); derived.) -/
def Obligations.TransactionLocksCommitsAndBenchWide : Prop :=
  (∀ (i : TxnSlot) (e : EntryId) (k h m m' st : Nat) (c : Cmd) (t : Txn) (a : TxnAction) (l : Lock) (x : LqEntry) (f : CommitFail) (s y z : State),
    (s.txnAt i = some t → t.phase = .waiting → t.adding = some (a, .host c) → t.wants = some (k, l) →
      (s.holders t l = [] → s.olderWaits t l = false →
        exec (.lockGrant i k) s = .next ((s.addAction t a).complete c opTXN_ADD stOK [BitVec.ofNat 32 a.index])) ∧
      (s.holders t l ≠ [] ∨ s.olderWaits t l = true → exec (.lockGrant i k) s = .next s) ∧
      (m ≠ k → exec (.lockGrant i m) s = .next s ∧ exec (.lockTimeout i m) s = .next s) ∧
      (s.getF F.TN_CTL_WAIT_LIMIT ≠ 0 → t.since + s.getF F.TN_CTL_WAIT_LIMIT * 1000000 < s.ns →
        exec (.lockTimeout i k) s = .next ((s.setTxn { t with phase := .opened, adding := none }).complete c opTXN_ADD stLOCK_TIMEOUT)) ∧
      (s.getF F.TN_CTL_WAIT_LIMIT = 0 ∨ s.ns ≤ t.since + s.getF F.TN_CTL_WAIT_LIMIT * 1000000 → exec (.lockTimeout i k) s = .next s)) ∧
    (s.txnAt i = some t → t.phase = .reclaim → t.wants = some (k, l) → s.getF F.TN_CTL_WAIT_LIMIT ≠ 0 →
      t.since + s.getF F.TN_CTL_WAIT_LIMIT * 1000000 < s.ns → exec (.lockTimeout i k) s = .next (s.abortTxn t { status := stLOCK_TIMEOUT } false)) ∧
    (s.txnAt i = none ∨ (s.txnAt i = some t ∧ (t.phase = .opened ∨ t.phase = .scheduled ∨ t.phase = .sealed)) →
      exec (.lockGrant i k) s = .next s ∧ exec (.lockTimeout i k) s = .next s) ∧
    (y = (s.bump F.TN_WOUND_WOUNDS).notice ncTXN_WOUNDED t.slot [(16, t.handle), (16, h), (8, m'), (8, min (t.wounds + 1) 15)] →
      t.adding = none → s.flag F.TN_CTL_AUTORETRY = false →
      s.woundTxn t h m' = y.abortTxn { t with wounds := min (t.wounds + 1) 15 } { status := stWOUNDED } false) ∧
    (s.lqAt e = some x → leType x.words = leTypeCOMMIT → s.lqReady x = true →
      (s.actionStop x = some st → exec (.commit e) s = .next (s.endEntry x st)) ∧
      (s.actionStop x = none →
        (s.txn.slots.find? (·.entry == some x.handle) = none → exec (.commit e) s = .next (s.lqRemove x.entry)) ∧
        (s.txn.slots.find? (·.entry == some x.handle) = some t → z = s.lqRemove x.entry →
            y = (if t.master.isNone = true then { z with txn := { z.txn with late := z.txn.late ++ [t.handle] } } else z) →
          (t.phase = .reclaim → exec (.commit e) s = .next (y.abortTxn { t with entry := none } { status := stWOUNDED } false)) ∧
          (t.phase = .scheduled → t.master = none → t.members = 0 →
            (y.commitChecks { t with entry := none } y t.here = none → exec (.commit e) s =
              .next ((y.applyAll { t with entry := none }).finishTxn { t with entry := none } { status := stOK })) ∧
            (y.commitChecks { t with entry := none } y t.here = some f → exec (.commit e) s =
              .next (y.abortCommit { t with entry := none } f false))) ∧
          (t.phase = .sealed →
            (t.master = some (m, h) → t.decided ≠ some true → exec (.commit e) s =
              .next (y.abortTxn { t with entry := none } { status := stDECISION_MISSING } false)) ∧
            (t.master = some (m, h) → t.decided = some true → y.commitChecks { t with entry := none } y t.here = none →
              exec (.commit e) s = .next ((y.applyAll { t with entry := none }).reportPart { t with entry := none } m h stOK)) ∧
            (t.master = none → t.members ≠ 0 → t.decided ≠ some true → exec (.commit e) s =
              .next (y.abortTxn { t with entry := none } { status := stVOTE_MISSING } false)) ∧
            (t.master = none → t.members ≠ 0 → t.decided = some true → y.commitChecks { t with entry := none } y t.here = none →
              exec (.commit e) s = .next ((y.applyAll { t with entry := none }).ownPart { t with entry := none } stOK)))))) ∧
    (s.lqAt e = none → exec (.commit e) s = .next s)) ∧
  (∀ (j : Member) (tag : OpTag) (b : BenchAction) (i : TxnSlot) (wn h time st ix m hh : Nat) (yes : Bool) (t t1 : Txn) (a : TxnAction) (q : BenchDone) (s s1 : State),
    (s.benchRole ≠ roleMEMBER ∨ j.val ≠ 0 → exec (.benchAction j tag b) s = .next s ∧ exec (.prepare j tag h time) s = .next s ∧
      exec (.decision j tag h yes) s = .next s) ∧
    (s.benchRole ≠ roleMASTER → exec (.woundRequest j tag i wn) s = .next s ∧ exec (.vote j tag h yes st ix) s = .next s ∧
      exec (.outcomeReport j tag h st) s = .next s) ∧
    (s.benchRole = roleMEMBER → j.val = 0 →
      (s.benchSeen j tag = some q → s1 = s.benchPost j (.ack tag q.status q.words) → exec (.benchAction j tag b) s = .next s1 ∧
        exec (.prepare j tag h time) s = .next s1 ∧ exec (.decision j tag h yes) s = .next s1) ∧
      (s.benchSeen j tag = none →
        ((∀ x ∈ s.txn.slots, (x.adding.map (·.2)) ≠ some (.bench j tag)) →
          (s.partWith j b.handle = none → s.newPart j b.handle (max 1 b.members) b.age = none → exec (.benchAction j tag b) s =
            .next ((s.bump F.TN_STAT_REFUSED).benchReply j tag stTXN_LIMIT [])) ∧
          (s.partWith j b.handle = none → s.newPart j b.handle (max 1 b.members) b.age = some (s1, t) →
            exec (.benchAction j tag b) s = .next (s.partAction s1 t b j tag)) ∧
          (s.partWith j b.handle = some t →
            exec (.benchAction j tag b) s = .next (s.partAction s t b j tag) ∧
            (t.phase = .opened →
              (acForm b.record = false → acType b.record ≠ acAMEND → exec (.benchAction j tag b) s = .next (s.benchReply j tag stINVALID_VALUE [])) ∧
              (acForm b.record = true → t.actions.length < 64 → acStaged b.record = false →
                s.checkAction { record := b.record, item := [], index := b.index } false none = (stOK, a) →
                exec (.benchAction j tag b) s = .next (s.claimAction t a (.bench j tag)))))) ∧
        (s.partWith j h = some t →
          (t.phase = .opened → s1 = s.benchReply j tag stOK [] → exec (.prepare j tag h time) s = .next (s1.prepareVote t h time) ∧
            (s1.reserveFor t = none → exec (.prepare j tag h time) s = .next (s1.benchAsk 0 (.vote h false stQUEUE_FULL 0) .none).1)) ∧
          (t.phase ≠ .opened → exec (.prepare j tag h time) s = .next (s.benchReply j tag stNOT_OPEN [])) ∧
          (s1 = s.benchReply j tag stOK [] →
            (s1.ns + s1.getF F.TN_BCFG_GUARD * 1000 ≤ t.commitAt → exec (.decision j tag h true) s = .next (s1.setTxn { t with decided := some true })) ∧
            (t.commitAt < s1.ns + s1.getF F.TN_BCFG_GUARD * 1000 → exec (.decision j tag h true) s = .next s1)) ∧
          exec (.decision j tag h false) s = .next ((s.benchReply j tag stOK []).abortTxn t { status := stTXN_ABORTED } false)) ∧
        (s.partWith j h = none → exec (.decision j tag h yes) s = .next (s.benchReply j tag stOK [])))) ∧
    (s.benchRole = roleMASTER →
      (s.benchSeen j tag = some q → s1 = s.benchPost j (.ack tag q.status q.words) → exec (.woundRequest j tag i wn) s = .next s1 ∧
        exec (.vote j tag h yes st ix) s = .next s1 ∧ exec (.outcomeReport j tag h st) s = .next s1) ∧
      (s.benchSeen j tag = none →
        (s.txnAt i = none → exec (.woundRequest j tag i wn) s = .next (s.benchReply j tag stOK [])) ∧
        (s.txnAt i = some t →
          (t.master = none → t.woundable = true → exec (.woundRequest j tag i wn) s =
            .next ((s.woundTxn t wn s.memberNo).benchReply j tag stOK [])) ∧
          (t.woundable = false → exec (.woundRequest j tag i wn) s = .next (s.benchReply j tag stTOO_LATE []))) ∧
        (s1 = s.benchReply j tag stOK [] →
          (s1.undecided h = none → exec (.vote j tag h yes st ix) s = .next s1) ∧
          (s1.undecided h = some t →
            ((s1.otherMembers t).contains j.val = true →
              exec (.vote j tag h false st ix) s = .next (s1.abortTxn t { status := stVOTE_NO, index := ix, member := j } false) ∧
              (s1.voteDeadline t < s1.ns → exec (.vote j tag h true st ix) s = .next s1) ∧
              (s1.ns ≤ s1.voteDeadline t → exec (.vote j tag h true st ix) s =
                .next (s1.decideTxn { t with votes := t.votes ++ [j.val] }))) ∧
            ((s1.otherMembers t).contains j.val = false → exec (.vote j tag h yes st ix) s = .next s1)) ∧
          (s1.txnOf h = some t → s1.awaiting t = true → (s1.otherMembers t).contains j.val = true → t.reports.any (·.1 == j.val) = false →
            t1 = { t with reports := t.reports ++ [(j.val, st)] } →
            (s1.allReported t1 = true → exec (.outcomeReport j tag h st) s = .next (s1.benchDone t1)) ∧
            (s1.allReported t1 = false → exec (.outcomeReport j tag h st) s = .next (s1.setTxn t1)))))) ∧
    (s.txnAt i = none → exec (.voteDeadline i) s = .next s ∧ exec (.decisionDeadline i) s = .next s ∧ exec (.outcomeTimeout i) s = .next s) ∧
    (s.txnAt i = some t →
      (t.phase = .sealed → t.master = none → t.decided = none →
        (s.expired (s.voteDeadline t) = true → ∃ n : Nat, exec (.voteDeadline i) s = .next (s.abortTxn t { status := stVOTE_MISSING, member := n } false)) ∧
        (s.expired (s.voteDeadline t) = false → exec (.voteDeadline i) s = .next s)) ∧
      (t.master = some (m, hh) → t.prepared = true → t.decided = none →
        (t.commitAt - s.getF F.TN_BCFG_GUARD * 1000 + 2000 ≤ s.ns → exec (.decisionDeadline i) s =
          .next (s.abortTxn t { status := stDECISION_MISSING } false)) ∧
        (s.ns < t.commitAt - s.getF F.TN_BCFG_GUARD * 1000 + 2000 → exec (.decisionDeadline i) s = .next s)) ∧
      (s.awaiting t = true → t.reports.any (·.1 == s.memberNo) = true →
        (t.commitAt + 1002000 ≤ s.ns → exec (.outcomeTimeout i) s = .next (s.benchDone t)) ∧
        (s.ns < t.commitAt + 1002000 → exec (.outcomeTimeout i) s = .next s))))

/-- A disabled group takes no GROUP_UP. An enabled bench group whose neighbour is not the one expected is ALIGNING with
MISMATCH and one BENCH_MISMATCH; with a skew above 320 ns or another lane count it is ALIGNING; else it is UP and
takes the neighbour's RDI and LINKMAP. A lost condition takes an UP group to ALIGNING and counts its lost messages; of
a group not UP it shows only the lane. A frame of a group that is DOWN does nothing; an errored one is counted,
discarded cells are counted, an UP group's RDI and LINKMAP are taken. A frame sends its overhead on the lanes of the
enabled groups, and at MFI 0 a TIME cell on each group toward a member farther from the master. An echo request of an
UP group is answered once 2 µs have passed; a response to the last request gives the delay. A link leaves its WTR when
that has passed. A second is classified 10 s after it ends, once, with PERF_UAS where unavailable time begins or ends.
A message on a group not UP, or on a peer port without an UP neighbour, changes nothing. One for another member leaves
on that member's path, or is counted UNROUTABLE. One of a reserved KIND is counted CELLERR, one whose tag does not
check or whose counter is not above the last accepted AUTHFAIL, and neither does anything else; any other is accepted,
its counter kept, and acts. A lender grants a credit for a set-aside demodulator that is neither granted nor serving,
where the borrower can be reached and CHC is on. A LEASE start without a granted credit changes nothing; with one it
takes the lowest free unit for the stream, or is answered that it failed. A SAMPLE cell marks its stream live, with
the INV and OVL samples it carries, and ends the frame at a GAP sample; its end, or 1 ms without a cell, frees the
demodulator; of an unknown stream they change nothing. (spec/14_bench_peer.md (R346, R350, R351, R353, R354, R355,
R357, R358, R360, R361, R362, R364, R365, R368, R371); derived.) -/
def Obligations.BenchGroupsMessagesAndLeases : Prop :=
  (∀ (g : Group) (b : Neighbour) (lane lost mfi n t2 t3 t4 t0 k : Nat) (why : LaneFail) (rdi err : Bool) (map : Word) (s x : State),
    (s.groupEnabled g = false → exec (.groupUp g b) s = .next s) ∧
    (s.groupEnabled g = true → x = s.groupLocked g b →
      (x.matches g b = false →
        (x.flag (F.BN_GRPSTAT_MISMATCH g) = true → exec (.groupUp g b) s = .next (x.setGroup g 1 5)) ∧
        (x.flag (F.BN_GRPSTAT_MISMATCH g) = false → exec (.groupUp g b) s = .next (((x.setF (F.BN_GRPSTAT_MISMATCH g) 1).notice
          ncBENCH_MISMATCH g [(8, g), (8, b.member), (16, b.prefix_), (8, b.nmemb)]).setGroup g 1 5))) ∧
      (x.matches g b = true → g.val < 2 → ∃ y : State, y = x.setF (F.BN_GRPSTAT_MISMATCH g) 0 ∧
        (50 < b.skew → exec (.groupUp g b) s = .next (y.setGroup g 1 2)) ∧
        (b.skew ≤ 50 → b.lanes ≠ y.groupLanes g → exec (.groupUp g b) s = .next (y.setGroup g 1 4)) ∧
        (b.skew ≤ 50 → b.lanes = y.groupLanes g → exec (.groupUp g b) s =
          .next (((y.setGroup g 2 0).takeRdi g b.rdi).takeMap g b.linkmap.toNat))) ∧
      (2 ≤ g.val → b.skew ≤ 50 → b.lanes = x.groupLanes g → exec (.groupUp g b) s = .next (x.setGroup g 2 0 |>.takeRdi g b.rdi |>.takeMap g b.linkmap.toNat))) ∧
    (x = s.laneState g lane why.left →
      (x.groupUp g = false → exec (.groupDown g lane why lost) s = .next x) ∧
      (x.groupUp g = true →
        (g.val < 2 → exec (.groupDown g lane why lost) s = .next ((x.bump (F.BN_GRPERR_MSGLOST g) lost).setGroup g 1 why.cond)) ∧
        (2 ≤ g.val → exec (.groupDown g lane why lost) s = .next (x.setGroup g 1 why.cond)))) ∧
    (s.getF (grpState g) = 0 → exec (.rdiRx g lane rdi map err k) s = .next s) ∧
    (s.getF (grpState g) = 2 → 2 ≤ g.val →
      exec (.rdiRx g lane rdi map false k) s = .next ((s.takeRdi g rdi).takeMap g map.toNat)) ∧
    (s.getF (grpState g) = 1 → 2 ≤ g.val → exec (.rdiRx g lane rdi map true k) s = .next (s.erroredFrame g lane) ∧
      exec (.rdiRx g lane rdi map false k) s = .next s) ∧
    (s.getF (grpState g) = 2 → g.val < 2 → ∃ y : State, y = s.bump (F.BN_GRPERR_CELLERR g) k ∧
      (y.groupUp g = true → exec (.rdiRx g lane rdi map false k) s = .next ((y.takeRdi g rdi).takeMap g map.toNat))) ∧
    (x = s.sendOverhead mfi → x = { s with out := x.out } ∧
      (mfi ≠ 0 → mfi ≠ 50 → exec (.multiframe mfi) s = .next x) ∧
      (mfi = 0 → exec (.multiframe mfi) s = .next (((((List.range 6).filter fun j => x.groupUp j).filter fun j => x.sendsTime j).foldl
        (fun a j => a.emitOut (.cell j 1 [a.ns, a.frac, (x.hopsFrom x.memberNo).getD 0, a.ref.state])) x))) ∧
      (mfi = 50 → (∀ j < 6, x.groupUp j = false) → exec (.multiframe mfi) s = .next x)) ∧
    ((∀ j < 6, s.groupEnabled j = false) → s.sendOverhead mfi = s) ∧ (s.overheadBytes g mfi lane).length = 11 ∧
    (s.groupUp g = false → exec (.echoCell g (.request n t2 t3)) s = .next s ∧ exec (.echoCell g (.response n t2 t3 t4)) s = .next s) ∧
    (s.groupUp g = true →
      (t2 + 2000 ≤ t3 → exec (.echoCell g (.request n t2 t3)) s = .next (s.emitOut (.cell g 2 [1, n, t2, t3]))) ∧
      (t3 < t2 + 2000 → exec (.echoCell g (.request n t2 t3)) s = .next s) ∧
      ((aget (65536, 0) s.bench.echo g).1 ≠ n → exec (.echoCell g (.response n t2 t3 t4)) s = .next s) ∧
      (aget (65536, 0) s.bench.echo g = (n, t0) → ∃ y : State, exec (.echoCell g (.response n t2 t3 t4)) s = .next y ∧
        aget 0 y.bench.delays g = min (2 ^ 24 - 1) (((t4 - t0) - (t3 - t2)) * 8) ∧
        (s.timeGroup ≠ some g.val → y = { s with bench := { s.bench with delays := y.bench.delays } }))) ∧
    (afind s.bench.wtr n = some t0 →
      (t0 + s.getF F.BN_CFG_WTR * 1000000000 ≤ s.ns → ∃ y : State, exec (.wtrExpiry n) s = .next y.refreshPaths ∧
        y = { s with bench := { s.bench with wtr := s.bench.wtr.filter (·.1 != n) } }) ∧
      (s.ns < t0 + s.getF F.BN_CFG_WTR * 1000000000 → exec (.wtrExpiry n) s = .next s)) ∧
    (afind s.bench.wtr n = none → exec (.wtrExpiry n) s = .next s) ∧
    (s.struct_.live = false ∨ s.groupLanes g = 0 ∨ s.ns / 1000000000 < 11 ∨ (aget {} s.bench.perf g).last = some (s.ns / 1000000000 - 11) →
      exec (.perfSecond g) s = .next s) ∧
    (s.struct_.live = true → s.groupLanes g ≠ 0 → n = s.ns / 1000000000 - 11 → 11 ≤ s.ns / 1000000000 →
      (aget {} s.bench.perf g).last ≠ some n → (aget {} s.bench.perf g).unavail = false →
      (∀ i < 10, s.isSes g (n + i) = true) → ∃ y : State, exec (.perfSecond g) s = .next (y.notice ncPERF_UAS g
        [(8, g), (8, 1), (64, n * 1000000000)]) ∧ (aget {} y.bench.perf g).unavail = true)) ∧
  (∀ (g : Group) (m : BenchMsg) (j : Member) (k n u stream first gain step time st : Nat) (port : RfPort) (chan : Fin 32) (sf : Fin 8) (bw : Fin 3)
      (ws : List Word) (xs : List (BitVec 56)) (d : Demod) (s : State),
    (s.groupUp g = false → exec (.benchMessage g m) s = .next s) ∧
    (2 ≤ g.val → s.groupUp g = true →
      (s.peerUp (g - 2) = false → exec (.benchMessage g m) s = .next s) ∧
      (s.peerUp (g - 2) = true → exec (.benchMessage g m) s = .next (s.receive g m))) ∧
    (g.val < 2 → s.groupUp g = true →
      (m.dst.val ≠ s.memberNo →
        (s.pathTo m.dst = 2 → exec (.benchMessage g m) s = .next (s.bump F.BN_REQSTAT_UNROUTABLE m.cells)) ∧
        (s.pathTo m.dst ≠ 2 → exec (.benchMessage g m) s = .next (s.emitOut (.forward (s.pathTo m.dst) m)))) ∧
      (m.dst.val = s.memberNo →
        (m.kind = 0 ∨ 7 < m.kind → exec (.benchMessage g m) s = .next (s.bump (F.BN_GRPERR_CELLERR g))) ∧
        (1 ≤ m.kind → m.kind ≤ 7 →
          (s.tagChecks g m = 0 ∨ s.replayed g m = true → exec (.benchMessage g m) s = .next (s.bump (F.BN_GRPERR_AUTHFAIL g))) ∧
          (s.tagChecks g m = 1 → s.replayed g m = false → ∃ y : State, exec (.benchMessage g m) s = .next (y.benchAct g m) ∧
            y = { s with bench := { s.bench with accepted := aset s.bench.accepted (64 * g + m.src) m.counter } })))) ∧
    (m.content = .ack n st ws → s.benchAct g m = benchAck n st ws s) ∧
    (m.content = .lease .credit → s.benchAct g m = s.bump (F.BN_CREDIT_CREDITS m.src)) ∧
    (m.content = .read k n → s.benchRole = roleMEMBER → m.src.val = 0 → s.benchSeen m.src m.tag = none → 1 ≤ n → n ≤ 8 → inMap k n = true →
      s.readPoisoned k n = false → s.benchAct g m = s.benchReply m.src m.tag stOK (s.readWords k n)) ∧
    (s.groupGcm g = false → s.tagChecks g m = 1) ∧
    (s.groupGcm g = true → s.drawerUse (s.groupDrawer g) useLINK none = false → s.tagChecks g m = 0) ∧
    (n = s.getF (F.BN_LEASE_BORROWER k) → 8 ≤ k ∨ s.getF (F.BN_LEASE_COUNT k) = 0 ∨ s.pathTo n = 2 ∨ s.domOn domCHC = false ∨
        s.setAside n ≤ aget 0 s.bench.granted n + s.serving n → exec (.leaseCredit k) s = .next s) ∧
    (n = s.getF (F.BN_LEASE_BORROWER k) → k < 8 → s.getF (F.BN_LEASE_COUNT k) ≠ 0 → s.pathTo n ≠ 2 → n ≠ s.memberNo → s.domOn domCHC = true →
      aget 0 s.bench.granted n + s.serving n < s.setAside n → ∃ y : State, exec (.leaseCredit k) s = .next (y.benchPost n (.lease .credit)) ∧
      y = { s with bench := { s.bench with granted := aset s.bench.granted n (aget 0 s.bench.granted n + 1) } }) ∧
    (aget 0 s.bench.granted j.val = 0 → exec (.leaseStart j stream port chan sf bw step gain time) s = .next s) ∧
    (aget 0 s.bench.granted j.val = n + 1 → ∃ y : State, y = { s with bench := { s.bench with granted := aset s.bench.granted j.val n } } ∧
      (s.domOn domCHC = true → y.freeUnits.head? = some u → ∃ z : State, exec (.leaseStart j stream port chan sf bw step gain time) s = .next z ∧
        (∃ q ∈ z.chirp.demods, q.slot = u ∧ q.lent = some (j.val, stream, s.ns) ∧ q.step = step ∧ q.bw = bw.val ∧ q.det.start = time) ∧
        z.chirp.demods.length = s.chirp.demods.length + 1) ∧
      (y.freeUnits = [] → exec (.leaseStart j stream port chan sf bw step gain time) s =
        .next (y.benchPost j (.lease (.failed stream (HeldEnd.num .domainDown)))))) ∧
    (s.lentFor j stream = none → exec (.sampleCell j stream first xs) s = .next s ∧ exec (.leaseEnd j stream st) s = .next s ∧
      exec (.leaseIdleFree j stream) s = .next s) ∧
    (s.lentFor j stream = some d →
      ((∀ x ∈ xs, x.getLsbD 42 = false) →
        exec (.sampleCell j stream first xs) s = .next (s.changeDemod d { d.samples first xs with lent := some (j.val, stream, s.ns) })) ∧
      ((∃ x ∈ xs, x.getLsbD 42 = true) → exec (.sampleCell j stream first xs) s = .next (s.endLent d .gap)) ∧
      exec (.leaseEnd j stream st) s = .next (s.freeDemod d) ∧
      (d.lent = some (j.val, stream, time) →
        (time + 1000000 ≤ s.ns → exec (.leaseIdleFree j stream) s = .next (s.freeDemod d)) ∧
        (s.ns < time + 1000000 → exec (.leaseIdleFree j stream) s = .next s))))

/-- On a device that is no master each bench command completes NOT_MASTER. On a master MEMBER_RESET with an empty mask or
with bit 0, REMOTE_READ of 0 or more than 8 words and REMOTE_WRITE of 0 or more than 13 complete INVALID_VALUE; a
request to a member past the last completes NO_MEMBER, one while BPL is not ON DOMAIN_DOWN, a HANDOVER to an address
with no route PEER_UNREACHABLE; otherwise the request is issued and its command waits. A LAUNCH entry with BENCH whose
own checks refuse it completes with that status, counted; else it goes to every named member. An ACK by the deadline
frees the request's tag and ends what it was for; a later one, or one that fits no request, changes nothing. A request
whose ACK deadline has passed goes once more the other way under RING, counted, else it ends BENCH_TIMEOUT; before
then nothing changes. (spec/04_timebase_launch.md (R103), spec/12_host_link.md (R305), spec/14_bench_peer.md (R357,
R369); derived.) -/
def Obligations.BenchCommandsRequestsAndBenchLaunches : Prop :=
  ∀ (c : Cmd) (w ws : List Word) (a m n st : Nat) (g : Group) (tag : OpTag) (r : BenchReq) (e : List Word) (s y : State),
    (s.benchRole ≠ roleMASTER →
      (s.runs c opMEMBER_RESET → exec (.memberReset c w) s = .next (s.complete c opMEMBER_RESET stNOT_MASTER)) ∧
      (s.runs c opREMOTE_READ → exec (.remoteRead c a w) s = .next (s.complete c opREMOTE_READ stNOT_MASTER)) ∧
      (s.runs c opREMOTE_WRITE → exec (.remoteWrite c a w) s = .next (s.complete c opREMOTE_WRITE stNOT_MASTER)) ∧
      (s.runs c opHANDOVER → exec (.handover c w) s = .next (s.complete c opHANDOVER stNOT_MASTER))) ∧
    (s.benchRole = roleMASTER →
      (s.runs c opMEMBER_RESET →
        ((wordAt w 0).bit 0 = true ∨ wordAt w 0 = 0 → exec (.memberReset c w) s = .next (s.complete c opMEMBER_RESET stINVALID_VALUE)) ∧
        (wordAt w 0 = 2 → s.benchAsk 1 (.reset c.f16 c.f17) (.reset c) = (y, stOK) → exec (.memberReset c w) s =
          .next { y with bench := { y.bench with resets := (c, 1, stOK) :: y.bench.resets } }) ∧
        (wordAt w 0 = 2 → s.benchAsk 1 (.reset c.f16 c.f17) (.reset c) = (y, stNO_MEMBER) →
          exec (.memberReset c w) s = .next (y.complete c opMEMBER_RESET stNO_MEMBER))) ∧
      (n = (wordAt w 0).field 3 0 → m = (wordAt w 0).field 20 16 →
        (s.runs c opREMOTE_READ →
          (n = 0 ∨ 8 < n → exec (.remoteRead c a w) s = .next (s.complete c opREMOTE_READ stINVALID_VALUE)) ∧
          (1 ≤ n → n ≤ 8 →
            (s.benchAsk m (.read a n) (.read c) = (y, stOK) → exec (.remoteRead c a w) s = .next y) ∧
            (s.nmemb < m → exec (.remoteRead c a w) s = .next (s.complete c opREMOTE_READ stNO_MEMBER)) ∧
            (m ≤ s.nmemb → m ≠ s.memberNo → s.domOn domBPL = false →
              exec (.remoteRead c a w) s = .next (s.complete c opREMOTE_READ stDOMAIN_DOWN)))) ∧
        (s.runs c opREMOTE_WRITE →
          (n = 0 ∨ 13 < n → exec (.remoteWrite c a w) s = .next (s.complete c opREMOTE_WRITE stINVALID_VALUE)) ∧
          (1 ≤ n → n ≤ 13 →
            (s.benchAsk m (.write a ((List.range n).map fun i => wordAt w (1 + i))) (.write c) = (y, stOK) →
              exec (.remoteWrite c a w) s = .next y) ∧
            (s.nmemb < m → exec (.remoteWrite c a w) s = .next (s.complete c opREMOTE_WRITE stNO_MEMBER))))) ∧
      (s.runs c opHANDOVER → m = (wordAt w 1).field 15 0 →
        (s.domOn domBPL = true → s.peerPort m = none → exec (.handover c w) s = .next ((s.bump F.PF_STAT_NOROUTE).complete c opHANDOVER stPEER_UNREACHABLE)) ∧
        (s.domOn domBPL = false → exec (.handover c w) s = .next (s.complete c opHANDOVER stDOMAIN_DOWN)) ∧
        (s.domOn domBPL = true → s.peerPort m ≠ none → exec (.handover c w) s = .next (s.benchTake 0 (.peerHandover m (s.getF F.PF_CFG_ADDR)
          (Fin.ofNat 131072 ((wordAt w 0).field 16 0)) (s.handWords ((wordAt w 0).field 16 0))) (.handover c) 2)) ∧
        (s.handWords n).length = 16 ∧ wordAt (s.handWords n) 1 = 0 ∧ wordAt (s.handWords n) 10 = 0) ∧
      (s.runs c opLAUNCH → e = (List.range 8).map (wordAt w) → leBench e = true →
        (s.hostForm e = false → exec (.launch c w) s = .next ((s.lqCountRefusal stINVALID_VALUE).complete c opLAUNCH stINVALID_VALUE)) ∧
        (s.hostForm e = true → s.lqStatus e ≠ stOK →
          exec (.launch c w) s = .next ((s.lqCountRefusal (s.lqStatus e)).complete c opLAUNCH (s.lqStatus e))) ∧
        (s.hostForm e = true → s.lqStatus e = stOK → s.namedMembers e = [m] → s.benchAsk m (.launch e) (.launch c m) = (y, stOK) →
          exec (.launch c w) s = .next (y.launchSettle { cmd := c, entry := e, waiting := [m] })))) ∧
    (s.requestOf tag = none → exec (.benchAck g tag st ws) s = .next s ∧ exec (.benchTimeout tag) s = .next s) ∧
    (s.requestOf tag = some r →
      (s.ns ≤ r.deadline → exec (.benchAck g tag st ws) s = .next (s.closeRequest r st ws)) ∧
      (r.deadline < s.ns → exec (.benchAck g tag st ws) s = .next s) ∧
      (r.deadline + 2000 ≤ s.ns →
        (s.ring = true → r.retried = false → peerDst r.content = none → exec (.benchTimeout tag) s = .next (s.retryRequest r)) ∧
        (s.ring = false ∨ r.retried = true ∨ peerDst r.content ≠ none →
          exec (.benchTimeout tag) s = .next (s.closeRequest r stBENCH_TIMEOUT []))) ∧
      (s.ns < r.deadline + 2000 → exec (.benchTimeout tag) s = .next s)) ∧
    (y = ({ s with bench := { s.bench with reqs := s.bench.reqs.filter (·.tag != r.tag) } } : State).freeTag r.tag →
      (r.purpose = .read c → s.closeRequest r st ws = y.complete c opREMOTE_READ st ws) ∧
      (r.purpose = .write c → s.closeRequest r st ws = y.complete c opREMOTE_WRITE st) ∧
      (r.purpose = .handover c → s.closeRequest r st ws = y.complete c opHANDOVER st) ∧
      (r.purpose = .none → s.closeRequest r st ws = y))

/-- On a peer group that is not UP, or on a member, nothing is sent and a HELLO changes nothing. On an UP one a HELLO
carries the address, PREFIX, port and member count; a HELLO with the own address sets DUPADDR and takes the neighbour
down; the first of a neighbour marks it UP with one PEER_STATE, a later one only renews it; 350 ms without one take it
down, and its routes go at once. The vector is sent where due, the own address first at metric 0, each route learned
on the port with metric 16. A learned metric is the neighbour's plus 1; a better route replaces, an unreachable one of
its own port is removed with a PEER_ROUTE, one to an address with PF_RT full is counted, the own address ignored. A
route not refreshed for 3 s is removed. A hand-over puts its 18-word item into HANDQ, writes HANDOVER_IN and is
acknowledged OK, or QUEUE_FULL where it has no room. (spec/14_bench_peer.md (R366, R367, R368, R369, R371); derived.) -/
def Obligations.PeerFabricNeighboursRoutesAndHandOver : Prop :=
  ∀ (g : Group) (h : HelloCell) (tag : OpTag) (e : EndpointId) (a i m src : Nat) (l : List (Nat × Nat)) (ws : List Word) (s y : State),
    (s.peerOn g = false → exec (.helloSend g) s = .next s ∧ exec (.helloCell g h) s = .next s ∧ exec (.routeAdvertise g) s = .next s ∧
      exec (.routeMessage g l) s = .next s) ∧
    (s.peerOn g = true →
      (s.benchRole = roleMASTER → exec (.helloSend g) s = .next (s.emitOut (.cell g 5 [s.getF F.PF_CFG_ADDR, s.ownPrefix, g - 2, s.nmemb + 1]))) ∧
      (s.benchRole = roleNONE → exec (.helloSend g) s = .next (s.emitOut (.cell g 5 [s.getF F.PF_CFG_ADDR, s.ownPrefix, g - 2, 1]))) ∧
      (h.addr = s.getF F.PF_CFG_ADDR → exec (.helloCell g h) s = .next ((s.setF (F.PF_PORTSTAT_DUPADDR (g - 2)) 1).peerGone (g - 2))) ∧
      (h.addr ≠ s.getF F.PF_CFG_ADDR → exec (.helloCell g h) s = .next (s.neighbourUp g h.addr)) ∧
      (s.peerUp (g - 2) = false → exec (.routeAdvertise g) s = .next s ∧ exec (.routeMessage g l) s = .next s) ∧
      (s.peerUp (g - 2) = true →
        (s.bench.routeChanged.contains g.val = false → afind s.bench.routeSent g = some a →
          s.ns < a + 1000000000 → exec (.routeAdvertise g) s = .next s) ∧
        (s.bench.routeChanged.contains g.val = true ∨ afind s.bench.routeSent g = none ∨
            (afind s.bench.routeSent g = some a ∧ a + 1000000000 ≤ s.ns) → ∃ z : State,
          exec (.routeAdvertise g) s = .next (z.sendOn g 0 0 false 16 (.route (s.vector (g - 2)))) ∧
          (s.vector (g - 2)).head? = some (s.getF F.PF_CFG_ADDR, 0) ∧ z.bench.routeSent = aset s.bench.routeSent g s.ns ∧
          z = { s with bench := { s.bench with routeSent := z.bench.routeSent, routeChanged := z.bench.routeChanged } }) ∧
        exec (.routeMessage g [(a, m)]) s = .next (s.learnRoute (g - 2) (a, m)))) ∧
    (a = s.getF F.PF_CFG_ADDR → s.learnRoute (g - 2) (a, m) = s) ∧
    (a ≠ s.getF F.PF_CFG_ADDR →
      (s.peerRoute a = some i → s.getF (F.PF_RT_PORT i) = g - 2 →
        (15 ≤ m → s.learnRoute (g - 2) (a, m) = s.dropRoute i) ∧
        (m < 15 → s.learnRoute (g - 2) (a, m) = s.putPeerRoute i a (m + 1) (g - 2))) ∧
      (s.peerRoute a = some i → s.getF (F.PF_RT_PORT i) ≠ g - 2 →
        (m + 1 < s.getF (F.PF_RT_METRIC i) → m < 15 → s.learnRoute (g - 2) (a, m) = s.putPeerRoute i a (m + 1) (g - 2)) ∧
        (s.getF (F.PF_RT_METRIC i) ≤ m + 1 → s.getF (F.PF_RT_METRIC i) ≤ 16 → s.learnRoute (g - 2) (a, m) = s)) ∧
      (s.peerRoute a = none → m < 15 → (∀ j < 256, s.flag (F.PF_RT_VALID j) = true) → s.learnRoute (g - 2) (a, m) = s.bump F.PF_STAT_RTFULL)) ∧
    (s.flag (F.PF_PORTSTAT_NEIGH_UP (g - 2)) = false → s.peerGone (g - 2) = s ∧ exec (.peerDown g) s = .next s) ∧
    (2 ≤ g.val →
      (aget 0 s.bench.hello g + 350000000 ≤ s.ns → exec (.peerDown g) s = .next (s.peerGone (g - 2))) ∧
      (s.ns < aget 0 s.bench.hello g + 350000000 → exec (.peerDown g) s = .next s)) ∧
    (i < 256 → s.flag (F.PF_RT_VALID i) = true → aget 0 s.bench.refresh i + 3000000000 ≤ s.ns → exec (.routeExpiry i) s = .next (s.dropRoute i)) ∧
    (s.flag (F.PF_RT_VALID i) = false ∨ s.ns < aget 0 s.bench.refresh i + 3000000000 → exec (.routeExpiry i) s = .next s) ∧
    (y = s.qOverrun (s.getF F.PF_CFG_HANDQ) (.hw 12 0) → s.qCanTake (s.getF F.PF_CFG_HANDQ) (handItem src ws).length = false →
      exec (.handoverIn tag src e ws) s = .next (y.peerPost src 16 tag (.peerAck src (s.getF F.PF_CFG_ADDR) tag stQUEUE_FULL)).1) ∧
    (s.qHwItem (s.getF F.PF_CFG_HANDQ) (.hw 12 0) (handItem src ws) = (y, true) → exec (.handoverIn tag src e ws) s =
      .next ((y.notice ncHANDOVER_IN 0 [(16, src), (32, e)]).peerPost src 16 tag (.peerAck src (s.getF F.PF_CFG_ADDR) tag stOK)).1) ∧
    (handItem src ws).length = 18

/-- For a command that runs. WRITE of 1 to 13 words inside one address range, none refused, writes them in ascending
address and completes with the first status other than OK. WRITE, REGISTER_WRITE, COUNTER_CLEAR and, for the W1C bits
of its mask not set in the same tick, W1C_CLEAR of one word of a plain register, not refused, store it and complete
OK. OPTAG_HW_CLEAR, POOL_HW_CLEAR and ABORTINFO_CLEAR set the mark to the tags in use, to BUSY, and empty the list of
aborted tags, and complete OK. READ_BLOCK of a permitted range with a DMA tag free writes the words to the host and
completes with the length, OK or QUEUE_ECC. WRITE_BLOCK by session 0 of one group that is not refused, with a DMA tag
free and its bytes read, writes them and completes with the length. ENQUEUE of one whole item into a usable queue with
room, nothing open, writes it at W and completes OK. LEDGER_READ of a readable block no one holds, copy 1 the newer
valid one, completes OK with its 32 bytes and sequence byte; LEDGER_WRITE of a free block from 384 to 511 claims it
and programs. FAULT_CLOSE of an open record closes it and completes OK with 1; 256 closes every open record.
(spec/00_scope.md (R8), spec/01_architecture.md (R22, R25), spec/03_modes_power_reset.md (R79), spec/08_chirp_phy.md
(R219), spec/11_queues.md (R285), spec/12_host_link.md (R305, R306, R320), spec/15_faults_service.md (R378, R390,
R391); derived.) -/
def Obligations.HostCommandsComplete : Prop :=
  ∀ (c : Cmd) (a b n host len st : Nat) (v mask racing w : Word) (h : RegHit) (ws : List Word) (x : List Byte) (q : QueueId) (s t u : State),
    (s.runs c opWRITE →
      (1 ≤ ws.length → ws.length ≤ 13 → inMap a ws.length = true → s.wordsRefused (s.privileged c.session) a ws = none →
        s.writeWords c.session a ws = (t, st) → exec (.write c a ws) s = .next (t.complete c opWRITE st)) ∧
      (regAt a = some h → h.rd.structural = false →
        h.rd.reg ∉ [.MD_STATE, .MD_MODECTL, .MD_OPTAG, .MD_ABORTINFO, .CF_KEYSTAGE, .CF_FUSECTL, .TB_STEPCTL, .SC_LPGAIN, .SC_LPCAP,
          .SC_LANECTL, .PL_BLANK, .PL_PORTSTAT, .CH_POOLSTAT, .QM_QCFG, .QM_QCTL, .HL_SESS2, .HL_NRING2, .HL_DRING2, .QMEM, .EP0] →
        inMap a 1 = true → s.wordRefused (s.privileged c.session) a v = none → t = s.setWord a (h.rd.written (s.word a) v) →
        exec (.write c a [v]) s = .next (t.complete c opWRITE stOK) ∧
        exec (.registerWrite (.cmd c) a v) s = .next (t.complete c opWRITE stOK) ∧
        exec (.counterClear c a v) s = .next (t.complete c opWRITE stOK) ∧
        (v = mask &&& w1cBits a &&& ~~~racing → exec (.w1cClear (.cmd c) a mask racing) s = .next (t.complete c opWRITE stOK))) ∧
      exec (.optagHwClear c) s = .next (({ s with tags := { s.tags with highWater := s.tags.inUse.length } } : State).complete c opWRITE stOK) ∧
      exec (.poolHwClear c) s = .next ((s.setF F.CH_POOLSTAT_HIGH_WATER (s.getF F.CH_POOLSTAT_BUSY)).complete c opWRITE stOK) ∧
      exec (.abortinfoClear c v) s = .next (({ s with domains := { s.domains with
        abortList := [], overflow := false, epoch := (s.domains.epoch + 1) % 65536 } } : State).complete c opWRITE stOK)) ∧
    (4 ≤ len → len ≤ 1048576 → len % 4 = 0 → inMap a (len / 4) = true → s.canRead (.block c) → u = s.afterRead →
      (s.runs c opREAD_BLOCK → s.hostOk host len true = true → exec (.readBlock c a host len) s =
        .next (({ u with out := u.out ++ [.hostWrite host (bytesOfWords (u.readWords a (len / 4)))] } : State).complete c opREAD_BLOCK
          (if u.readPoisoned a (len / 4) then stQUEUE_ECC else stOK) [BitVec.ofNat 32 len])) ∧
      (s.runs c opWRITE_BLOCK → c.session.val = 0 → s.hostOk host len false = true → x.length = len → len ≤ 4 * groupLen a →
        s.wordsRefused true a (wordsOfBytes x) = none → u.writeWords 0 a (wordsOfBytes x) = (t, st) →
        exec (.writeBlock c a host len (.data x)) s = .next (t.complete c opWRITE_BLOCK st [BitVec.ofNat 32 len]))) ∧
    (s.runs c opENQUEUE → ws.length ≤ 12 → s.txn.flushes = [] → s.qUsable q = true → (s.qst q).orphans = [] → (s.qst q).open_ = none →
      w.bit 31 = true → w.field 17 0 = ws.length + 1 → ws.length + 1 ≤ s.qSize q → ws.length + 1 ≤ s.qRoom q → (s.qst q).behind = [] →
      s.mode.twinDriven = false → ∃ y : State, exec (.enqueue c (F.QM_QPLACE q) true (w :: ws)) s = .next (y.complete c opENQUEUE stOK) ∧
        y.map = (s.setF (F.QM_QWP_PTR q) ((s.qW q + (ws.length + 1)) % s.qMod q)).map ∧ y.qmem = (s.qPut q (s.qW q) (w :: ws)).qmem ∧
        (y.qst q).open_ = none ∧ y = { s with map := y.map, qmem := y.qmem, queues := y.queues }) ∧
    (s.runs c opLEDGER_READ → b < 80 ∨ (384 ≤ b ∧ b < 512) → s.lclaim b = none → (s.lcopy b 0).valid = true → (s.lcopy b 1).valid = true →
      1 ≤ ((s.lcopy b 1).seq + 256 - (s.lcopy b 0).seq) % 256 → ((s.lcopy b 1).seq + 256 - (s.lcopy b 0).seq) % 256 ≤ 127 →
      exec (.ledgerRead c b) s = .next (s.complete c opLEDGER_READ stOK
        (wordsOfBytes (s.lcopy b 1).data ++ [BitVec.ofNat 32 (s.lcopy b 1).seq]))) ∧
    (s.runs c opLEDGER_WRITE → 384 ≤ b → b < 512 → s.lclaim b = none → exec (.ledgerWrite c b ws) s = .next (s.lbegin {
      block := b, data := bytesOfWords ((List.range 8).map (wordAt ws)), cmd := some c })) ∧
    (s.runs c opFAULT_CLOSE →
      (n ∈ s.openRecords → n < 256 → exec (.faultClose c n) s = .next ((s.closeRecord n).complete c opFAULT_CLOSE stOK [1])) ∧
      exec (.faultClose c 256) s = .next ((s.openRecords.foldl (fun z j => z.closeRecord j) s).complete c opFAULT_CLOSE stOK
        [BitVec.ofNat 32 s.openRecords.length]))

/-- For a WRITE that runs. REQ_RUN in QUIET without a twin enters RUN, REQ_QUIET in RUN enters QUIET, REQ_SHADOW in RUN or
QUIET with a twin enters SHADOW, REQ_DRAIN in a mode that may drain enters DRAIN, FAULT_ACK in FAULT stops the
watchdog. FUSE_ARM arms; FUSE_BLOW under its five conditions starts programming, and FUSE_PROGRAM_DONE leaves the fuse
blown with the digest. STEP_SET where a step is permitted sets DT to TB_SETTIME; STEP_ACCEPT of a rejected reference
takes it. QCTL_ADVANCE of 1 to the words ahead moves R, QCTL_RELEASE sets REL and M to R, QCTL_MARK M to R,
QCTL_REWIND R to M, QCTL_CLRCNT clears both counts, QCTL_FLUSH of a queue that stages nothing, with nothing open or
waiting, sets R, M and REL to W. QCFG_STALE_WRITE stores the limit and OVR_NOTE. LANE_RUN sets RUN as told,
LPGAIN_WRITE both fields. RING_ENABLE with EN of a disabled session ring, permitted and inside its windows, enables it
with both counts zero. EP_STATE_ACTIVE and EP_STATE_FREE set the state of the entry. Each completes OK.
(spec/02_bitas_image.md (R53), spec/03_modes_power_reset.md (R63, R64, R67, R72), spec/04_timebase_launch.md (R84,
R88), spec/05_sample_chain.md (R117, R124), spec/09_radio_mac.md (R224, R226), spec/11_queues.md (R288, R289, R290),
spec/12_host_link.md (R299); derived.) -/
def Obligations.ControlWritesComplete : Prop :=
  ∀ (c : Cmd) (lineLow run : Bool) (q : QueueId) (n k : Nat) (l : Lane) (p : LinePort) (m : Session) (e : EndpointId) (v : Word) (s z : State),
    (s.fuse.busy = true → exec .fuseProgramDone s = .next { s with fuse := { s.fuse with
      busy := false, blown := true, digest := s.fuse.burning, burning := [] } }) ∧
    (s.runs c opWRITE →
      (s.mode.mode = .QUIET → s.getF F.MD_BOOTCFG_TWIN_ROLE = 0 → ∃ t : State, exec (.reqRun c lineLow) s = .next (t.complete c opWRITE stOK) ∧
        t.mode.mode = .RUN ∧ t.mode.prev = 8) ∧
      (s.mode.mode = .RUN → ∃ t : State, exec (.reqQuiet c) s = .next (t.complete c opWRITE stOK) ∧ t.mode.mode = .QUIET ∧ t.mode.prev = 7) ∧
      (s.mode.mode = .RUN ∨ s.mode.mode = .QUIET → s.getF F.MD_BOOTCFG_TWIN_ROLE ≠ 0 → ∃ t : State,
        exec (.reqShadow c) s = .next (t.complete c opWRITE stOK) ∧ t.mode.mode = .SHADOW) ∧
      (s.mode.mode.canDrain = true → exec (.reqDrain c) s = .next ((s.enterDrain none).complete c opWRITE stOK)) ∧
      (s.mode.mode = .FAULT → exec (.faultAck c) s = .next (State.complete { s with mode := { s.mode with wdogStart := none } } c opWRITE stOK)) ∧
      exec (.fuseArm c) s = .next (({ s with fuse := { s.fuse with armed := true } } : State).complete c opWRITE stOK) ∧
      (s.mode.mode = .RUN ∨ s.mode.mode = .STANDBY → s.getF F.CF_STATUS_SIGNED = 1 → s.fuse.armed = true → s.fuse.busy = false →
        ((List.range 12).flatMap fun i => bytesLE 4 (aget 0 s.fuse.stage i).toNat) = s.struct_.keyDigest →
        exec (.fuseBlow c) s = .next (({ s with fuse := { s.fuse with
          armed := false, busy := true, burning := s.struct_.keyDigest } } : State).complete c opWRITE stOK)) ∧
      (s.ref.timeValid = false ∨ s.mode.mode = .STANDBY ∨ s.mode.mode = .ACQUIRE → ∃ t : State,
        exec (.stepSet c) s = .next (t.complete c opWRITE stOK) ∧ t.ref.timeValid = true ∧ t.frac = 0 ∧
        t.ns = (s.word F.TB_SETTIME_LO).toNat + (s.word F.TB_SETTIME_HI).toNat * 2 ^ 32) ∧
      (s.ref.rejected = true → exec (.stepAccept c) s = .next (({ s with ref := { s.ref with
        rejected := false, accepting := true, bad := 0 } } : State).complete c opWRITE stOK)) ∧
      (n < 2 ^ 19 → 0 < n → n ≤ s.qAhead q → s.sound = true → ∃ t : State, exec (.qctlAdvance c q n) s = .next (t.complete c opWRITE stOK) ∧
        t.getF (F.QM_QRP_PTR q) = (s.getF (F.QM_QRP_PTR q) + n) % 2 ^ (s.getF (F.QM_QPLACE_SIZE q) + 7) % 2 ^ 19 ∧
        t.getF (F.QM_QSTAT_STALE q) = 0 ∧ s.wordsKept t [F.QM_QRP q, F.QM_QSTAT q]) ∧
      (s.sound = true → ∃ t : State, exec (.qctlRelease c q) s = .next (t.complete c opWRITE stOK) ∧
        t.getF (F.QM_QREL_PTR q) = s.getF (F.QM_QRP_PTR q) ∧ t.getF (F.QM_QMP_PTR q) = s.getF (F.QM_QRP_PTR q) ∧
        s.wordsKept t [F.QM_QREL q, F.QM_QMP q]) ∧
      exec (.qctlMark c q) s = .next ((s.setF (F.QM_QMP_PTR q) (s.getF (F.QM_QRP_PTR q))).complete c opWRITE stOK) ∧
      (∃ t : State, exec (.qctlRewind c q) s = .next (t.complete c opWRITE stOK) ∧
        t = { s.setF (F.QM_QRP_PTR q) (s.getF (F.QM_QMP_PTR q)) with queues := t.queues }) ∧
      (s.stageHolder q = none → (s.qst q).behind = [] → (s.qst q).open_ = none → s.sound = true → ∃ t : State,
        exec (.qctlFlush c q) s = .next (t.complete c opWRITE stOK) ∧ t.getF (F.QM_QRP_PTR q) = s.getF (F.QM_QWP_PTR q) ∧
        t.getF (F.QM_QMP_PTR q) = s.getF (F.QM_QWP_PTR q) ∧ t.getF (F.QM_QREL_PTR q) = s.getF (F.QM_QWP_PTR q)) ∧
      exec (.qctlClrcnt c q) s = .next (((s.setF (F.QM_QSTAT_ORPHANS q) 0).setF (F.QM_QCFG_CORR q) 0).complete c opWRITE stOK) ∧
      exec (.qcfgStaleWrite c q v) s =
        .next (((s.setWord (F.QM_QCFG q) (((s.word (F.QM_QCFG q)).setField 15 0 (v.field 15 0)).setField 16 16 (v.field 16 16))).setQst q
          { s.qst q with staleSet := s.ns }).complete c opWRITE stOK) ∧
      (s.sound = true → ∃ t : State, exec (.laneRun c l run) s = .next (t.complete c opWRITE stOK) ∧
        t.getF (F.SC_LANECTL_RUN l) = boolNat run) ∧
      (s.sound = true → ∃ t : State, exec (.lpgainWrite c p v) s = .next (t.complete c opWRITE stOK) ∧
        t.getF (F.SC_LPGAIN_RXGAIN p) = v.field 3 0 ∧ t.getF (F.SC_LPGAIN_TXATT p) = v.field 12 8 ∧ s.wordsKept t [F.SC_LPGAIN p]) ∧
      (s.privileged c.session = true → v.field 3 0 ≤ 8 → v.bit 4 = true → s.getF (F.HL_SESS2_EN m) = 0 → m.val ≠ 0 →
        z = (s.setF (F.HL_SESS2_SIZE m) (v.field 3 0)).setF (F.HL_SESS2_PRIV m) (v.field 5 5) → z.getF (F.HL_SESS2_EN m) = 0 →
        z.ringOk (.session m) = true → exec (.ringEnable (.cmd c) (.session m) v) s =
          .next (((z.setWord (F.HL_SESS5 m) 0).setF (F.HL_SESS2_EN m) 1).complete c opWRITE stOK)) ∧
      (s.sound = true → s.ns < 2 ^ 64 → v.field 18 12 ≤ 95 → v.field 23 21 ≤ 4 →
        (∃ t : State, exec (.epStateActive c e v) s = .next (t.complete c opWRITE stOK) ∧ t.getF (F.EP0_STATE e) = 2 ∧ t.lastRx e = s.ns) ∧
        (∃ t : State, exec (.epStateFree c e v) s = .next (t.complete c opWRITE stOK) ∧ t.getF (F.EP0_STATE e) = 0)))

/-- NOW_LO_READ returns the word and leaves shadows of the others; RS_SHADOW_READ returns a shadow and consumes it.
HL_CDB, HL_NDB, HL_DDB within an enabled ring record the count. With the link up, a bus master, everything in windows
that permit it: COMMAND_FETCH by the session whose turn it is takes the command and writes the count back;
NOTICE_WRITE of a first notice that needs no token, with ring room, takes it out and writes its bytes;
DESCRIPTOR_FETCH of one permitted descriptor puts it in progress; DMA_TO_QUEUE writes a buffer of at most 128 words
and completes its descriptor; DMA_FROM_QUEUE reads an item that fits and waits; DMA_WRITE_RESPONSE releases it and
completes; DMA_TIMEOUT completes DMA_ERROR, the item going back to M. IRQ_TIMER once its time has passed signals
vector 0; TOKEN_REFILL adds a bucket's tokens; SPAN_EXPIRY once its gap has passed closes the span and hands on what
it holds. HOST_LINK_LOSS of an up link leaves it down with every ring disabled; HOST_LINK_STATE of a down link shows
it up; BUS_MASTER_ENABLE sets BME. (spec/04_timebase_launch.md (R108, R109), spec/12_host_link.md (R295, R296, R300,
R301, R307, R310, R313, R315, R316, R317), spec/15_faults_service.md (R383, R384); derived.) -/
def Obligations.HostLinkEventsComplete : Prop :=
  ∀ (req f x n a g len w speed width : Nat) (ses : Session) (r : RingId) (y : Word) (b : List Byte) (i : Nat) (sp : Span) (nt : Notice) (rest : List Notice)
      (d : DescRun) (ds : List Word) (s z u : State),
    (rsPartners f ≠ [] → ∃ t : State, exec (.nowLoRead req f false) s = .next t ∧ t.host.readData = [s.readWord f] ∧
      ∀ v ∈ rsPartners f, t.shadowWord f req v = some (s.readWord v)) ∧
    (rsFirst w = some f → s.shadowWord f req w = some y → ∃ t : State, exec (.rsShadowRead req w) s = .next t ∧ t.host.readData = [y] ∧
      t.shadowWord f req w = none) ∧
    (s.getF (F.HL_SESS2_EN ses) = 1 → (x % 65536 + 65536 - s.getF (F.HL_SESS5_CONS ses)) % 65536 ≤ 16 * 2 ^ s.getF (F.HL_SESS2_SIZE ses) →
      exec (.hlCdb ses x) s = .next (s.setF (F.HL_SESS5_PROD ses) (x % 65536))) ∧
    (s.getF F.HL_NRING2_EN = 1 → (s.getF F.HL_NRING5_PROD + 65536 - x % 65536) % 65536 ≤ 16 * 2 ^ s.getF F.HL_NRING2_SIZE →
      exec (.hlNdb x) s = .next (s.setF F.HL_NRING5_CONS (x % 65536))) ∧
    (s.getF (F.HL_DRING2_EN r) = 1 → (x % 65536 + 65536 - s.getF (F.HL_DRING3_CONS r)) % 65536 ≤ 16 * 2 ^ s.getF (F.HL_DRING2_SIZE r) →
      exec (.hlDdb r x) s = .next ((s.setF (F.HL_DRING3_PROD r) (x % 65536)).setDmaRing r { s.dmaRing r with stopped := false })) ∧
    (s.linkUp = true → s.getF F.HL_LINKSTAT_BME = 1 →
      (s.host.taken.length < 256 → s.nextSession = some ses.val → a = s.getF (F.HL_SESS5_CONS ses) →
        s.hostOk (s.ringAddr (.session ses) a) 64 false = true → y = wordAt (wordsOfBytes b) 0 → y.field 23 20 = ses.val →
        opcodeKnown (y.field 31 24) = true → z = { s.setF (F.HL_SESS5_CONS ses) (a + 1) with host := { s.host with
          lastServed := ses.val,
          taken := s.host.taken ++ [{ session := ses, opcode := y.field 31 24, tag := y.field 15 0, fence := y.bit 18 }] } } →
        z.hostOk (z.ringWb (.session ses)) 4 true = true → exec (.commandFetch ses (.data b)) s = .next { z with
          out := s.out ++ [.hostWrite (z.ringWb (.session ses)) (bytesLE 4 (z.getF (F.HL_SESS5_CONS ses)))] }) ∧
      (s.notices.buffer = nt :: rest → s.notices.lostSince = 0 → (∀ m ∈ nt :: rest, tokenFree m = true) → s.noticeRoom = true →
        s.hostOk (s.ringAddr .notice (s.getF F.HL_NRING5_PROD)) 64 true = true →
        z = { s.setF F.HL_NRING5_PROD (s.getF F.HL_NRING5_PROD + 1) with
          out := s.out ++ [.hostWrite (s.ringAddr .notice (s.getF F.HL_NRING5_PROD)) nt.bytes] } →
        z.hostOk (z.ringWb .notice) 4 true = true → ∃ t : State, exec .noticeWrite s = .next (t.freeSlot nt) ∧ t.notices.buffer = rest ∧
          t.map = z.map ∧ ∃ o, t.out = z.out ++ o) ∧
      (a = s.getF (F.HL_DRING3_CONS r) → ds = (List.range 8).map (wordAt (wordsOfBytes b)) → b.length = 32 → s.ringOn (.dma r) = true →
        s.dmaRing r = {} → (s.getF (F.HL_DRING3_PROD r) + 131072 - a) % 65536 = 1 → s.canRead (.fetch r) →
        s.hostOk (s.ringAddr (.dma r) a) 32 false = true → dOwn ds = true → s.mode.mode ≠ .DRAIN → s.descRefused r ds = none → dKind ds ≠ 0 →
        exec (.descriptorFetch r (.data b)) s = .next (s.afterRead.setDmaRing r { run := some { desc := { index := a % 65536, words := ds } } })) ∧
      ((s.dmaRing r).run = some d → u = s.readEnd (.run r) →
        (dKind d.desc.words = 0 → d.waiting = false → dRemote d.desc.words = false → s.readTag (.run r) = some g → dLen d.desc.words % 4 = 0 →
          4 ≤ dLen d.desc.words → dLen d.desc.words ≤ 512 → b.length = dLen d.desc.words →
          u.qProduce (dQueue d.desc.words) (.ring r) (dStart d.desc.words) (wordsOfBytes b) = (z, stOK) →
          exec (.dmaToQueue r (.data b)) s = .next (z.dmaFinish r stOK (dLen d.desc.words))) ∧
        (dKind d.desc.words = 1 → d.waiting = false → s.qUsable (dQueue d.desc.words) = true → s.qHeadLost (dQueue d.desc.words) = false →
          s.qItemAt (dQueue d.desc.words) (s.qR (dQueue d.desc.words)) = some n → 4 * n ≤ dLen d.desc.words →
          s.qPoisoned (dQueue d.desc.words) (s.qR (dQueue d.desc.words)) n = false →
          z = (s.qMark (dQueue d.desc.words)).qConsume (dQueue d.desc.words) → exec (.dmaFromQueue r) s = .next ((State.setDmaRun
            { z with out := z.out ++ [.hostWrite (dAddr d.desc.words) (bytesOfWords (s.qHostWords (dQueue d.desc.words)
              (s.qR (dQueue d.desc.words)) n))] } r { d with moved := 4 * n, status := stOK, waiting := true }).readIssue (.run r))) ∧
        (dKind d.desc.words = 1 → d.waiting = true → s.readTag (.run r) = some g →
          exec (.dmaWriteResponse r) s = .next ((u.qRelease (dQueue d.desc.words)).dmaFinish r d.status d.moved) ∧
          exec (.dmaTimeout r) s = .next ((u.qRewind (dQueue d.desc.words)).dmaFinish r stDMA_ERROR 0)))) ∧
    (s.getF F.HL_NRING6_IRQ_TIME ≠ 0 → s.notices.unsignalled ≠ 0 → s.notices.firstUnsignalled + 1000 * s.getF F.HL_NRING6_IRQ_TIME ≤ s.ns →
      exec .irqTimer s = .next (State.signal { s with notices := { s.notices with unsignalled := 0 } } 0)) ∧
    (a < 15 → s.notices.lastMs ≤ s.ns / 1000000 → ∃ t : State, exec .tokenRefill s = .next t ∧ t.notices.lastMs = s.ns / 1000000 ∧
      t.tokens a = min (s.burst a) (s.tokens a + (s.ns / 1000000 - s.notices.lastMs) * s.rate a)) ∧
    (s.notices.spans[i]? = some sp → sp.due + 2000 ≤ s.ns → z = { s with notices := { s.notices with spans := s.notices.spans.eraseIdx i } } →
      (sp.held = none → exec (.spanExpiry i) s = .next z) ∧ (sp.held = some nt → exec (.spanExpiry i) s = .next (z.hand nt))) ∧
    (s.sound = true → s.linkUp = true → s.bench.heldReqs = [] → ∃ t : State, exec .hostLinkLoss s = .next t ∧ t.linkUp = false ∧
      t.getF (F.HL_SESS2_EN ses) = 0 ∧ t.getF F.HL_NRING2_EN = 0 ∧ t.getF (F.HL_DRING2_EN r) = 0 ∧ t.host.lossesSince = s.host.lossesSince + 1) ∧
    (s.linkUp = false → s.mode.mode ≠ .OFF → exec (.hostLinkState speed width) s = .next (State.notice
      { ((s.setF F.HL_LINKSTAT_UP 1).setF F.HL_LINKSTAT_SPEED speed).setF F.HL_LINKSTAT_WIDTH width with
        host := { s.host with lossesSince := 0, discardedSince := 0 } } ncHOST_LINK_STATE 0 [(16, s.host.lossesSince), (16, s.host.discardedSince)])) ∧
    (s.linkUp = true → exec .busMasterEnable s = .next (s.setF F.HL_LINKSTAT_BME 1).sendPending)

/-- SUPPLIES_UP in OFF enters COLD; COLD_TO_LOAD in COLD enters LOAD with DT zero; SELF_TEST_DONE in CHECK with no failed
unit enters STANDBY; DEFAULTED_TEST_DONE ends the test of DEFAULTED and starts acquisition. With both conditions of
R92 ACQUIRE_COMPLETE enters RUN (no secondary, no START_QUIET) and DEF_TX_START sets DEF_TX. In SHADOW: TWIN_TAKEOVER
of a primary enters RUN, its line following 1 us later; TWIN_RECHECK with the line still high 5 us later does so too;
TWIN_LINK_LOST is reported once, after TWIN_MISS ms with the line low; TWIN_MESSAGE renews the silence limit.
TWIN_SEND of the device that drives the line sends what was mirrored. DOMAIN_DRAINED of a draining domain with nothing
in flight clamps it; DRAIN_LIMIT_EXPIRY at the limit, first of its index, ends what remains and clamps it; DOMAIN_OFF
of a clamping domain makes it OFF; DOMAIN_ON of a rising one ON. UNIT_WEDGED of a live unit that is no pipe records it
and ends its work. AUTOSPARE_SUBST in a later tick with a free spare replaces a wedged live unit.
(spec/03_modes_power_reset.md (R59, R62, R63, R68, R69, R70, R72, R77, R78), spec/04_timebase_launch.md (R92),
spec/14_bench_peer.md (R356), spec/15_faults_service.md (R381, R382); derived.) -/
def Obligations.ModeAndDomainEventsComplete : Prop :=
  ∀ (a b low : Bool) (g : Group) (d : Domain) (u : UnitRef) (t0 : Nat) (s z : State),
    (s.mode.mode = .OFF → ∃ t : State, exec .suppliesUp s = .next t ∧ t.mode.mode = .COLD ∧ t.service.powered = s.tick) ∧
    (s.mode.mode = .COLD → ∃ t : State, exec (.coldToLoad a b) s = .next t ∧ t.mode.mode = .LOAD ∧ t.dt = 0 ∧ t.mode.bootSrc = a) ∧
    (s.mode.mode = .CHECK → exec (.selfTestDone []) s = .next ((s.changeMode .STANDBY 0x03).settleDomains).leaveStandby) ∧
    (s.mode.mode = .DEFAULTED → s.mode.testing = true → exec (.defaultedTestDone []) s =
      .next (State.settleDomains { s with mode := { s.mode with testing := false } }).beginAcquire) ∧
    (s.timeCondition = true → s.mainsCondition = true →
      (s.mode.mode = .ACQUIRE → s.getF F.MD_BOOTCFG_TWIN_ROLE ≠ 2 → s.getF F.MD_BOOTCFG_START_QUIET = 0 →
        exec .acquireComplete s = .next (s.enterRun 0x07)) ∧
      (s.mode.mode = .DEFAULTED → s.mode.testing = false → s.mode.acquiring = true →
        exec .defTxStart s = .next { s with mode := { s.mode with defTx := true } })) ∧
    (s.mode.mode = .SHADOW →
      (s.getF F.MD_BOOTCFG_TWIN_ROLE ≠ 2 → ∃ t : State, exec .twinTakeover s = .next t ∧ t.mode.mode = .RUN ∧ t.mode.prev = 9 ∧
        t.mode.takeoverAt = some s.ns) ∧
      (s.mode.twinRecheck = some t0 → t0 + 5000 ≤ s.ns → ∃ t : State, exec (.twinRecheck false) s = .next t ∧ t.mode.mode = .RUN ∧
        t.mode.takeoverAt = some s.ns) ∧
      (s.mode.twinOther = true → s.mode.twinLost = false → s.mode.lastTwin + s.getF F.MD_BOOTCFG_TWIN_MISS * 1000000 ≤ s.ns →
        exec .twinLinkLost s = .next (State.notice { s with mode := { s.mode with twinLost := true } } ncTWIN_LINK_LOST 0 [])) ∧
      (s.twinGroup = some g.val → s.groupUp g = true → exec (.twinMessage g []) s = .next { s with mode := { s.mode with
        lastTwin := s.ns, twinLost := false, twinOther := s.mode.twinOther || s.mode.twinRecheck.isNone } })) ∧
    (s.mode.twinDriven = true → s.twinGroup = some g.val → s.groupUp g = true → exec (.twinSend g) s =
      .next (State.sendOn { s with bench := { s.bench with twin := [] } } g ((s.expected g).getD 0) 0 false 0 (.twin s.bench.twin))) ∧
    (d.val < 43 →
      (s.domain d = 3 → s.domainBusy d = false → exec (.domainDrained d) s = .next ((s.clampDomain d).twinSettle)) ∧
      (s.domain d = 3 → s.domainBusy d = true → afind s.domains.rampTo d = none → s.limitBefore d = false →
        aget 0 s.domains.drainSince d + 1000 * s.getF F.MD_DOMCTL_DRAIN_LIMIT ≤ s.ns →
        z = (s.abortDomain d).1.abortNotice d (s.abortDomain d).2.1 (s.abortDomain d).2.2 → z.domainBusy d = false →
        exec (.drainLimitExpiry d) s = .next ((z.clampDomain d).twinSettle)) ∧
      (s.domain d = 4 → z = (s.setDomain d 0).domainLeavesOn d → z.mode.mode ≠ .DRAIN → z.wantsOn d = false →
        exec (.domainOff d) s = .next z) ∧
      (s.domain d = 1 → z = (s.setDomain d 2).domainComesOn d → z.mode.mode ≠ .DRAIN → z.wantsOn d = true →
        exec (.domainOn d) s = .next z)) ∧
    (s.mode.mode ≠ .OFF → s.canWedge u = true → u.kind.val ≠ kPIPE → exec (.unitWedged u) s = .next (s.wedgeUnit u)) ∧
    (u.kind.val ≤ 3 → s.isWedged u.kind u.unit = true → s.role u.kind u.unit = roleLIVE → s.flag F.FT_CFG_AUTOSPARE = true →
      s.freeSpares u.kind ≠ [] → aget 0 s.faults.wedgedAt (4096 * u.kind + u.unit) < s.tick → ∃ y : State,
      exec (.autospareSubst u) s = .next (y.takeUp u.kind u.unit (s.getF (mapLogical u.kind u.unit))) ∧
      y = (s.retire u.kind u.unit (((s.openRecord fcWEDGE u.kind u.unit).map (·.1)).getD 0)).1)

/-- PPS_EDGE of the input in use, its selected edge, unlabelled, with the reference past FREE is the loop's pulse;
TOD_SENTENCE that is right labels its second; TIME_CELL of a peer sets PF_TIMEOFS; REF_LOSS 1.5 s (10 ms of a bench)
and 2 us after the last good pulse takes LOCKED to HOLDOVER; HOLDOVER_EXPIRED at its limit sets EXPIRED; PPS0_RETURN
after 60 s returns to input 0. On an active port while trackers run MAINS_CROSSING starts an UNLOCKED tracker;
MAINS_CROSSING_MISSED counts a miss; COAST_EXPIRY and LOCKING_TIMEOUT past their limits leave the tracker UNLOCKED;
MAINS_CYCLE_BOUNDARY at a new cycle keeps it and, LOCKED, clears FALLBACK. For an entry due, first and not stopped:
PLC_BAND within BANDS becomes LIVE, RF_TUNE, RF_PROFILE and a radio GAIN the front end accepted are in force, a line
GAIN sets the receive step, EVENT_EDGE drives its output pin, MARKER is kept with its time, and each reports; COMMIT
of a one-device SCHEDULED transaction whose checks pass applies every action. EVENT_CAPTURE of a selected edge of an
input pin is one EVENT_CAPTURED. (spec/04_timebase_launch.md (R86, R87, R88, R90, R93, R95, R99, R102, R104, R110),
spec/05_sample_chain.md (R113, R137, R138), spec/13_transactions.md (R336, R343); derived.) -/
def Obligations.TimeAndLaunchEventsComplete : Prop :=
  ∀ (i : Nat) (ch : List Byte) (sec t0 back n a k : Nat) (g : Group) (tc : TimeCell) (pin : EventPin) (p : LinePort) (en : EntryId) (e : LqEntry)
      (t : Tracker) (f : Fit) (l : List (Nat × Nat)) (x : Txn) (s z y : State), t = s.tracker p →
    (s.struct_.live = true → s.refSel = 1 → afind s.ref.labels 0 = none → s.ref.state ≠ 0 →
      z = { s with ref := { s.ref with lastStamp := aset s.ref.lastStamp 0 s.ns } } →
      exec (.ppsEdge 0 (!s.flag F.TB_REFCFG_PPS_EDGE)) s = .next (z.refPhase ((s.ns : Int) - signed 16 (s.getF F.TB_PPSCOMP_DELAY0)).toNat none)) ∧
    (s.struct_.live = true → sentenceSecond ch = some sec → s.getF F.TB_REFCFG_TOD_LABEL = 0 → s.todCut ch.length = false →
      exec (.todSentence i ch) s = .next { s with ref := { s.ref with labels := aset s.ref.labels i (sec + s.getF F.TB_UTCOFS_OFS, s.ns) } }) ∧
    (2 ≤ g.val → s.benchRole ≠ roleMEMBER → s.groupUp g = true → ∀ d : Int, d = (tc.dt : Int) + (aget 0 s.bench.delays g / 16 : Nat) - tc.arrival →
      -2147483648 ≤ d → d ≤ 2147483647 → exec (.timeCell g tc) s = .next (s.setF (F.PF_TIMEOFS_OFS (g - 2)) (unsignedOf 32 d))) ∧
    (s.refSel ≠ 0 → s.ref.lastGood + (if s.refSel = 4 then 10000000 else 1500000000) + 2000 ≤ s.ns → s.ref.state = 2 →
      exec .refLoss s = .next (s.setRefState 3)) ∧
    (s.ref.state = 3 → s.ref.expired = false → s.ref.holdSince + 60000000000 * s.getF F.TB_HOLDCFG_LIMIT ≤ s.ns →
      exec .holdoverExpired s = .next (State.notice { s with ref := { s.ref with expired := true } } ncHOLDOVER_EXPIRED 0 [])) ∧
    (s.refSel = 3 → s.ref.activePps = 1 → s.ref.state = 2 → s.ref.pps0Since = some t0 → s.ns ≤ s.ref.otherLast + 1500000000 →
      t0 + 60000000000 ≤ s.ns → exec .pps0Return s =
        .next (State.refNotice { s with ref := { s.ref with activePps := 0, pps0Since := none, lastGood := s.ns } })) ∧
    (s.tracking p = true → t.fit = none → t.crossings = [] → ∃ q, q.state = 1 ∧ q.crossings = [(0, s.ns - back)] ∧
      exec (.mainsCrossing p back) s = .next (s.mainsState p q)) ∧
    (t.fit = some f → f.crossing (t.lastCycle + 1) * 16 + f.period < s.ns * 16 → t.state = 2 → t.missed = 0 →
      exec (.mainsCrossingMissed p) s = .next (s.setTracker p { t with missed := 1, lastCycle := t.lastCycle + 1 })) ∧
    (t.fit = some f → t.state = 3 → f.crossing (t.coastFrom + s.getF F.TB_MAINSCFG_COAST) ≤ s.ns → ∃ q, q.state = 0 ∧ q.crossings = [] ∧
      exec (.coastExpiry p) s = .next ((s.mainsState p q).anglesLost p)) ∧
    (t.state = 1 → t.crossings = (k, a) :: l → a * 45 + 2000000000 ≤ s.ns * 45 → ∃ q, q.state = 0 ∧ q.crossings = [] ∧
      exec (.lockingTimeout p) s = .next ((s.mainsState p q).anglesLost p)) ∧
    (t.fit = some f → t.boundary < f.cycle s.now16 → t.state = 2 → s.sound = true → ∃ q : State, exec (.mainsCycleBoundary p) s = .next q ∧
      q.getF (F.PL_ACCSTAT_FALLBACK p) = 0 ∧ s.wordsKept q [F.PL_ACCSTAT p]) ∧
    (s.lqAt en = some e → s.lqReady e = true → s.actionStop e = none →
      (leType e.words = leTypeCOMMIT → s.txn.slots.find? (·.entry == some e.handle) = some x → x.phase = .scheduled → x.master = none →
        x.members = 0 → z = s.lqRemove e.entry → y = { z with txn := { z.txn with late := z.txn.late ++ [x.handle] } } →
        y.commitChecks { x with entry := none } y x.here = none →
        exec (.commit en) s = .next ((y.applyAll { x with entry := none }).finishTxn { x with entry := none } { status := stOK })) ∧
      (leType e.words = leTypePLC_BAND → (∀ b < 4, (wordAt e.words 5).bit b = true → s.getF (F.SC_LPCFG_BANDS e.port) / 2 ^ b % 2 = 1) →
        exec (.plcBand en) s =
          .next (((s.setF (F.PL_PORTLIVE_LIVE e.port) ((wordAt e.words 5).field 3 0)).rxFollowPort e.port).launchDone e (leOK e.words))) ∧
      (leType e.words = leTypeRF_TUNE → e.rfc = 1 → exec (.rfTune en) s =
        .next ((s.setF (F.CH_TUNED_FREQ (leIndex e.words)) (wordAt e.words 5).toNat).launchDone e (leOK e.words))) ∧
      (leType e.words = leTypeRF_PROFILE → e.rfc = 1 → exec (.rfProfile en) s =
        .next ((s.setF (F.CH_PAIRSTAT_PROFILE (leIndex e.words)) ((wordAt e.words 5).field 3 0)).launchDone e (leOK e.words))) ∧
      (leType e.words = leTypeGAIN → (wordAt e.words 5).bit 7 = false →
        (leKind e.words = 0 → exec (.gain en) s =
          .next ((s.setRxGain (leIndex e.words) ((wordAt e.words 5).field 4 0) (lineAt s.now16)).launchDone e (leOK e.words))) ∧
        (leKind e.words = 3 → e.rfc = 1 → exec (.gain en) s =
          .next ((s.setF (F.CH_PAIRSTAT_RXSTEP (leIndex e.words)) ((wordAt e.words 5).field 5 0)).launchDone e (leOK e.words)))) ∧
      (leType e.words = leTypeEVENT_EDGE → s.getF (F.TB_EVTCFG_DIR (leIndex e.words)) = 1 → ∃ q : State,
        exec (.eventEdge en) s = .next (q.launchDone e (leOK e.words)) ∧
        q.out = s.out ++ [.edge (leIndex e.words) ((wordAt e.words 5).bit 0) (s.lqNs e)]) ∧
      (leType e.words = leTypeMARKER → leKind e.words = 0 → ∃ c, c = s.stream (leIndex e.words) ∧ exec (.marker en) s =
        .next ((s.setStream (leIndex e.words) { c with marks := c.marks ++ [(s.lqTime16 e).getD (leTime16 e.words)] }).launchDone e (leOK e.words)))) ∧
    (s.struct_.live = true → s.getF (F.TB_EVTCFG_DIR pin) = 0 → s.getF (F.TB_EVTCFG_CAPTURE pin) = 3 →
      exec (.eventCapture pin true) s = .next (s.notice ncEVENT_CAPTURED pin [(8, 0)]) ∧
      exec (.eventCapture pin false) s = .next (s.notice ncEVENT_CAPTURED pin [(8, 1)]))

/-- RF_RX_FRAME of a good frame next in order and in time, nothing changing, makes its counter the last. RF_FRAME_MISSING
past its time starts GAP. RFC_TRANSACTION in time, accepted, marks its write. LANE_PARITY_ERROR stops its lane.
CAPTURE_ITEM due writes 64 words or counts a drop. PLC_DETECT in SEARCH enters SYNC; PLC_SYNCM in time HEADER;
PLC_SYNC_TIMEOUT counts FALSEDET; PLC_HEADER_DECIDED of a right header enters PAYLOAD; PLC_FRAME_DUE of a decoded
beacon counts OK with its quality; PLC_SUSPEND_END returns receivers to SEARCH. PLC_ITEM_READ from 100 us ahead reads
the item; PLC_FRAME due, secured, not stopped, sends it; PLC_TX_DONE after a host frame counts SENT, releases and
reports OK. PLC_ACK_RX of the ACK awaited releases the item; PLC_ACK_EXPIRY past the deadline is a missing ACK;
PLC_ACK_SEND owed, verified and not stopped, sends it. With an item pending, the band idle and the time reached
CONTENTION_DECISION at its slot, BANDC_ACCESS and GRANT_LAUNCH in a grant start an attempt; BEACON_LAUNCH at the next
superframe sends the beacon. (spec/05_sample_chain.md (R124, R127, R129, R131, R136, R138), spec/06_plc_phy.md (R155,
R156, R162, R163), spec/07_plc_access.md (R174, R177, R178, R179, R180, R182, R183, R184); derived.) -/
def Obligations.SampleAndPowerLineEventsComplete : Prop :=
  ∀ (n : RfPort) (ch : List LinkChar) (rk : RfcLink) (lane : Lane) (word : Nat) (hw : Word) (p : LinePort) (b : Band) (lv : List ModSample) (e : LqEntry)
      (i : EntryId) (deep : Bool) (start metric end_ x h c m w u q k o round draw cls : Nat) (d : Fin 16) (spectra : List Spectrum) (rx : PlcRx)
      (r : PlcReception) (psdu : List Byte) (it : List Word) (t : PlcSending) (a : PlcAttempt) (ak : PlcAckDue) (f : Fit) (s z : State),
    (s.getF (F.SC_RFSTAT_STATE n) = 2 → rfFrameGood ch = true → (rfChg ch).testBit 7 = false → (rfFlags ch).testBit 1 = true →
      (rfFlags ch).testBit 0 = false → (s.rfLink n).locked = true → (s.rfLink n).last = some x →
      s.rfExtend n (rfCounter ch) (s.rfArrival n) = x + 32 → s.rfStamp n (x + 32 : Nat) ≤ s.now16 →
      (s.now16 : Int) ≤ s.rfStamp n (x + 32 : Nat) + 12500 * 65536 → (∀ d ∈ s.chirp.demods, d.lender = none) →
      ∃ y : State, exec (.rfRxFrame n ch) s = .next y ∧ (y.rfLink n).last = some (x + 32)) ∧
    ((s.rfLink n).last = some x → s.getF (F.SC_RFSTAT_STATE n) = 2 → s.rfStamp n (x + 32) + 12500 * 65536 ≤ s.now16 →
      exec (.rfFrameMissing n) s = .next ((((s.setRfLink n { s.rfLink n with missing := some (x + 32), cand := none }).rfState n 3
        false).gapDemods n).chanGap n)) ∧
    (s.rfcNext rk = some e → s.ns + 2000 ≤ s.lqNs e → (leType e.words = leTypeRF_TUNE → s.inTransmit (leIndex e.words) (s.lqNs e) = false) →
      e.rfc = 0 → exec (.rfcTransaction rk (.accept 0)) s = .next (State.lqUpdate { s with out := s.out ++ [.rfc rk (rfcBits false
        (leIndex e.words) false (rfcOf e.words).1 (s.rfCount (leIndex e.words) (s.lqNs e)) (rfcOf e.words).2)] } e.entry
        fun z => { z with rfc := 1, outside := true })) ∧
    exec (.laneParityError lane word) s = .next (((s.setRun lane false).setF (F.SC_LANESTAT_PARERR lane) 1).report 2 0 lane word).1 ∧
    ((s.stream p).capNext = some x → s.getF (F.SC_LPCAP_EN p) = 1 → s.lineActive p = true → (x + 63) * s.period16 p ≤ s.now16 →
      ∃ (y : State) (ws : List Word), ws.length = 64 ∧ exec (.captureItem p lv) s = .next (match y.qHwItem (s.getF (F.SC_LPCAP_QUEUE p)) (.hw 3 p)
          (itemOf (lo32 (x * s.period16 p / 65536) :: hi32 (x * s.period16 p / 65536) :: ws)) with
        | (v, true) => v
        | (v, false) => v.bump (F.SC_LPSTAT_CAPDROP p)) ∧ (y.stream p).capNext = some (x + 64)) ∧
    (h = s.rxHome p → c = b.num →
      (s.plcSearching p c = true → s.getF (F.PL_BANDCFG_DETTHR p c) ≤ metric → end_ ≤ s.ns → s.ns ≤ end_ + 40000 → s.windowsValid p end_ = true →
        exec (.plcDetect p ⟨b, metric, end_⟩) s = .next ((s.setRx h c 2 (some { detected := s.ns, port := p })).bump (F.PL_RXCNT_DETECT h c))) ∧
      ((s.pchan h c).rx = some r →
        (s.rxState h c = 2 → u = start + (if deep then 16 else 8) * 680000 → u ≤ s.ns → s.ns ≤ u + 40000 →
          start + (if deep then 15 else 8) * 680000 ≤ r.detected + 16 * 680000 →
          exec (.plcSyncm p b deep start) s = .next (s.setRx h c 3 (some { r with port := p, start := start, deep := deep }))) ∧
        (s.rxState h c = 2 → r.detected + 10880000 ≤ s.ns →
          exec (.plcSyncTimeout p b) s = .next ((s.setRx h c 1 none).bump (F.PL_RXLOSS_FALSEDET h c))) ∧
        (s.rxState h c = 3 → r.headerEnd (s.nCar h c) ≤ s.ns → s.ns ≤ r.headerEnd (s.nCar h c) + 60000 → phCrcOk hw = true → phMode hw < 5 →
          1 ≤ phLen hw → phLen hw ≤ 2048 → (phMode hw = 4 ↔ r.deep = true) → k = frameSyms (phMode hw) (phLen hw) (s.nCar h c) → k ≤ 4096 →
          exec (.plcHeaderDecided p b hw) s = .next (s.setRx h c 4 (some { r with header := hw, nsym := k }))) ∧
        (s.rxState h c = 4 → r.nsym ≠ 0 → r.start + 680000 * r.nsym ≤ s.ns → s.ns ≤ r.start + 680000 * r.nsym + 150000 → s.launchesDue = false →
          z = ((s.setRx h c 1 none).bump (F.PL_CORR_RSCORR h c) rx.rsCorr).bump (F.PL_CORR_ERASED h c) (s.erasedSyms r rx.overloads) →
          rx.psdu = some psdu → psdu.length = phLen r.header → phFt r.header = 2 → ∀ v : Int, v = meanSnr (rx.snr.map (clampInt (-128) 127)) →
          exec (.plcFrameDue p b rx) s = .next (((z.setF (F.PL_RXQUAL_LQI h c) (lqi v)).setF (F.PL_RXQUAL_MEAN_SNR h c)
            (unsignedOf 8 v)).bump (F.PL_RXCNT_OK h c))))) ∧
    (s.sound = true → aget 0 s.plc.suspendTo p ≤ s.ns → m < 4 → ∃ y : State, exec (.plcSuspendEnd p) s = .next y ∧
      y.rxState p m = (if s.rxState p m = 5 then 1 else s.rxState p m) ∧ y = { s with map := y.map, plc := y.plc }) ∧
    (s.lqAt i = some e → leType e.words = leTypePLC_FRAME →
      (e.item = none → e.due = none → s.lqNs e ≤ s.ns + 100000 → exec (.plcItemRead i) s = .next (s.plcRead e)) ∧
      (s.lqReady e = true → e.item = some it → e.secured = some psdu → s.plcStop? e = none → e.inserter = .host → e.entry = i →
        exec (.plcFrame i) s = .next ((s.lqRemove i).plcStart e.port e.band (s.lqNs e) (.host e) e psdu (itMode it) (itFt it)
          (psduAckReq (itFt it) psdu)).endOfTick)) ∧
    (c = b.num →
      ((s.pchan p c).tx = some t → t.end_ ≤ s.ns → t.kind = .host e →
        z = (((s.plcStop p c t.end_).bump (F.PL_TXCNT_SENT p c)).twinSettle).sentReserve p c t →
        exec (.plcTxDone p b) s = .next ((z.qRelease (leQueue e.words)).launchReport e lpOK)) ∧
      ((s.pchan p c).attempt = some a → a.waiting = true →
        (psdu.length = 6 → s.toMe (le32 psdu 0) = true → (psdu.getD 4 0).toNat = a.seq → s.ns ≤ a.deadline → a.on_ = p.val →
          s.combines (p / 3) = false → s.getF (F.PL_FGCFG_COUPLING (p / 3)) = 0 → bitAt psdu 5 0 = false →
          (∀ j, j / 3 = p.val / 3 → j ≠ p.val → (s.pchan j c).attempt = none) →
          exec (.plcAckRx p b psdu) s = .next (s.releaseAttempt p c a.queue)) ∧
        (a.deadline + 2000 ≤ s.ns → exec (.plcAckExpiry p b) s = .next (s.ackMissed p c a))) ∧
      ((s.pchan p c).ack = some ak → s.combines (p / 3) = false → ak.at_ ≤ s.ns → ak.ready = true → s.ownStop p c = false →
        z = s.setPchan p c { s.pchan p c with ack := none } → ∃ y, exec (.plcAckSend p b) s = .next ((z.plcStart p c ak.at_ .ack y
          (bytesLE 4 ak.dst ++ [BitVec.ofNat 8 ak.seq, if ak.busy then 1 else 0]) ak.mode 1 false).bump
          (if ak.busy then F.PL_ACKCNT_BUSYSENT p c else F.PL_ACKCNT_ACKSENT p c))) ∧
      (z = s.unblock p c → z.offered p c = some (cls, q) → z.lineActive p = true → z.plc.resuming.contains p.val = false →
        (c ≠ 2 → draw < z.winSlots p cls → z.slotStart p c (z.idleStart p c spectra) (round * z.roundSlots p + z.winStart p cls) = some w →
          z.slotStart p c (z.idleStart p c spectra) (round * z.roundSlots p + z.winStart p cls + draw) = some u → z.pendingFor q w = true →
          u ≤ z.ns + 2000 → z.ns + 2000 < u + 2 → loudNow (z.accWord p (3 + c)).toNat spectra = false → z.bandBusy p c = false →
          z.beforeCfp p c q u = true → exec (.contentionDecision p b ⟨round, draw, spectra⟩) s = .next (z.startAttempt p c cls q u)) ∧
        (c = 2 → z.isSending p 2 = false → z.pendingFor q (z.ns + 2000) = true → (∀ j, (z.pchan p 2).lastEnd = some j → j + 125000000 ≤ z.ns + 2000) →
          (bandcSense (z.getF (F.PL_BCTHR_BUSYTHR p)) spectra).busy = false →
          (bandcSense (z.getF (F.PL_BCTHR_BUSYTHR p)) spectra).since + (85 + 2 * d.val) * 1000000 ≤ z.ns + 2000 →
          exec (.bandcAccess p ⟨d, spectra⟩) s = .next (z.startAttempt p 2 cls q (z.ns + 2000))) ∧
        (c ≠ 2 → z.beaconDisc p = true → (z.tracker p).fit = some f → (z.pchan p c).superframe = some w → (z.pchan p c).beaconSent = true →
          o = z.offerPort p q → z.isSending o c = false → z.pendingFor q (z.ns + 2000) = true →
          (∃ g ∈ z.grants p c, z.toMe g.1 = true ∧ w + g.2.1 * 680000 ≤ z.ns + 2000 ∧ z.ns + 2000 < w + (g.2.1 + g.2.2) * 680000 ∧
            z.attemptStart o c (z.ns + 2000) + z.offerNs o c q ≤ w + usableEnd g.2.1 g.2.2 (z.nextSuper p c f - w)) →
          exec (.grantLaunch p b) s = .next (z.startAttempt p c cls q (z.ns + 2000)))) ∧
      (c ≠ 2 → s.beaconDisc p = true → s.lineActive p = true → s.bandLive p c = true → s.plc.resuming.contains p.val = false →
        (s.tracker p).fit = some f → s.nextSuper p c f ≤ s.ns → (s.pchan p c).superframe ≠ none → s.ownStop p c = false → s.sound = true →
        ∃ (y : State) (v : PlcSending), exec (.beaconLaunch p b) s = .next y ∧ (y.pchan p c).tx = some v ∧ v.kind = .beacon ∧
          v.start = s.nextSuper p c f ∧ y.getF (F.PL_BSN_BSN p c) = (s.getF (F.PL_BSN_BSN p c) + 1) % 2 ^ 32))

/-- CHIRP_DETECT of a searching detector, nothing held, waits; DEMOD_GRANT with more free than RESERVE takes a
demodulator; SYNC_DECIDED right goes on to the first block, FIRST_BLOCK_DECIDED with a right header to the payload;
CHIRP_LOST ends a preamble; CHIRP_FRAME_DUE with a right CRC counts OK and the frame comes in. RF_TX_ITEM_READ from
164 us ahead of a right item begins securing; RF_ITEM_DEADLINE without one ends MISSED_LAUNCH; DUTY_CHECK within
budget charges it; UPRAMP_START permitted and secured transmits; RF_TX at its time sends the samples; RF_TX_END after
the down-ramp counts SENT and reports OK; CHIRP_SUSPEND_END resumes detection. SLOT_PREPARE of an active transmit link
with a channel serves its pair; SLOT_START ends earlier links; SCHED_TX of an item that fits launches an attempt;
SCHED_ACK_SEND launches the ACK owed; RF_ACK_EXPIRY past the deadline is a missing ACK. SUPERVISION_EXPIRY past it
makes the entry LOST; PROVISIONAL_EXPIRY makes it FREE; DLQ_SERVE moves a sleepy entry's item to its mailbox;
MBX_EXPIRED frees an old frame; POLL_RESPONSE answers in its window; DC_SECOND drops old buckets.
(spec/08_chirp_phy.md (R204, R205, R206, R208, R209, R213, R216, R218), spec/09_radio_mac.md (R226, R229, R230, R232,
R234, R235, R236, R237, R238, R240, R241, R242); derived.) -/
def Obligations.RadioEventsComplete : Prop :=
  ∀ (n : RfPort) (ch : Fin 32) (sf : Fin 8) (bin start ratio v0 v1 t h k a0 b0 c t0 q e q0 : Nat) (values ns : List Nat) (power : Int) (u : DemodRef)
      (rx : ChirpRx) (d : Demod) (x : Detection) (i : EntryId) (le : LqEntry) (it : List Word) (r : RfSending) (link : LinkId) (v : SlotServe)
      (ak : RfAckDue) (a : RfAttempt) (ep : EndpointId) (dk : DlqId) (f : MbxFrame) (pw : PollWindow) (l : List (Nat × Nat)) (s y z : State),
    (x = { port := n, chan := ch, sf := sf, bin := bin, start := start, power := power, tick := s.tick } → s.searching n ch sf = true →
      s.windowsMatch x ratio = true → s.heldOn n ch sf = [] → ∃ y : State, exec (.chirpDetect n ch sf bin start ⟨ratio, power⟩) s = .next y ∧
      y.chirp.waiting = s.chirp.waiting ++ [x]) ∧
    (nextDetection s.chirp.waiting = some x → x.port = n.val → x.chan = ch.val → x.sf = sf.val →
      z = { s with chirp := { s.chirp with waiting := s.chirp.waiting.erase x } } → s.getF F.CH_POOLCFG_RESERVE < z.poolFree →
      ∀ ks, z.freeUnits = k :: ks → ∃ y : State, exec (.demodGrant n ch sf) s = .next y ∧
        (∃ q ∈ y.chirp.demods, q.slot = k ∧ q.det = x ∧ q.stage = .preamble ∧ q.lender = none ∧ q.lent = none)) ∧
    (s.demodAt u = some d →
      (d.stage = .preamble → s.chirpTime d.det d.lent.isSome (s.demodBw d) (t + 2 * tSym d.det.sf (s.demodBw d)) 10000 = true →
        nearBin d.det.sf v0 (syncSymbols d.det.sf (s.getF (F.CH_PORTCFG_SYNC d.det.port))).1 = true →
        nearBin d.det.sf v1 (syncSymbols d.det.sf (s.getF (F.CH_PORTCFG_SYNC d.det.port))).2 = true →
        exec (.syncDecided u v0 v1 true t) s = .next (s.changeDemod d { d with stage := .first, syncT := t })) ∧
      (d.stage = .preamble → exec (.chirpLost u .lost) s = .next (s.endLent d .lost)) ∧
      (d.stage = .first → values.length = 8 → s.chirpTime d.det d.lent.isSome (s.demodBw d) (s.payStart d 8) 20000 = true →
        ns = (blockNibbles d.det.sf 4 (firstRows d.det.sf) values).1 → h = headerOf ns → s.implicitSf d = false → chirpHeaderOk h = true →
        exec (.firstBlockDecided u values) s = .next (s.changeDemod d { d with
          stage := .payload, len := h / 16 % 256, cr := h % 4 + 1, crcOn := h / 4 % 2 == 1, nibbles := ns.drop 5,
          corrected := (blockNibbles d.det.sf 4 (firstRows d.det.sf) values).2 })) ∧
      (d.stage = .payload → rx.values.length = chirpFurther d.det.sf (s.demodBw d) (!d.implicit) d.crcOn d.len * (4 + d.cr) →
        s.chirpTime d.det d.lent.isSome (s.demodBw d) (s.demodEnd d) 40000 = true → s.launchesDue = false → d.lent = none →
        d.crcOn = false ∨ chirpCrc (s.demodBytes d rx.values).1 = (s.demodBytes d rx.values).2.1 → exec (.chirpFrameDue u rx) s =
          .next (((s.freeDemod d).bump (F.CH_RXCNT_OK d.det.port)).radioIn
            (s.chirpFrame d (s.chirpRecord d (s.demodBytes d rx.values).2.2 rx) (s.demodBytes d rx.values).1)))) ∧
    (s.lqAt i = some le → leType le.words = leTypeRF_TX →
      (s.lqNs le ≤ s.ns + 164000 → le.item = some it → le.securing = false → le.secured = none → le.due = none → rfItValid it = true →
        s.chanOn le.port (rfItChan it) = true → rfItFofsEn it = false → exec (.rfTxItemRead i) s = .next (State.secureEntry
          (s.lqUpdate le.entry fun x => { x with profile := s.getF (F.CH_PAIRSTAT_PROFILE le.port) }) le.entry)) ∧
      (le.item = none → s.lqNs le < s.ns + s.rampNs (s.getF (F.CH_PAIRSTAT_PROFILE le.port)) + 20000 →
        exec (.rfItemDeadline i) s = .next (s.txFail le rtMISSED_LAUNCH)) ∧
      (le.item = some it → s.rfSpan le = some (a0, b0) →
        (a0 ≤ s.ns + 20000 → le.charged = false → s.dutyCharge le.port (rfItChan it) (b0 - a0) ((a0 - 20000) / 1000000000) = (z, true) →
          exec (.dutyCheck i) s = .next (z.lqUpdate i fun x => { x with charged := true })) ∧
        (a0 ≤ s.ns → le.charged = true → le.due = none → afind s.chirp.sending le.port = none → s.rampStop le = none → ∃ y : State,
          exec (.uprampStart i) s = .next (y.emitRamp le.port le.profile true a0) ∧ afind y.chirp.sending le.port = some {
            entry := { le with outside := true, ramped := true }, start := a0, end_ := b0, dur := s.rampNs le.profile, ofs := rfItFofsEn it })) ∧
      (s.lqReady le = true → s.lqNoMains le = false → le.item = some it → afind s.chirp.sending le.port = some r → r.entry.entry = le.entry →
        r.entry.gen = le.gen → exec (.rfTx i) s =
          .next ((s.lqRemove i).emitOut (.chirpFrame le.port (s.chirpWave le.port it (s.lqNs le)))))) ∧
    (afind s.chirp.sending n = some r → r.end_ ≤ s.ns → s.lqAt r.entry.entry = none → r.ofs = false → r.entry.inserter = .host →
      z = ((s.emitRamp n r.entry.profile false (r.end_ - r.dur)).rfStop n r.end_).bump (F.CH_TXCNT_SENT n) →
      exec (.rfTxEnd n) s = .next (((z.qRelease (leQueue r.entry.words)).launchReport r.entry rtOK).twinSettle)) ∧
    (afind s.chirp.sending n = none → aget 0 s.chirp.suspendTo n ≤ s.ns →
      exec (.chirpSuspendEnd n) s = .next (s.setF (F.CH_PAIRSTAT_SUSPENDED n) 0)) ∧
    (s.slotAhead = some k → s.linkActive link k = true → s.ns ≤ s.epoch + k * s.slotNs → afind s.radio.serve (s.linkPair link) = none →
      (∀ j < link.val, s.linkPair j ≠ s.linkPair link ∨ s.linkActive j k = false) → s.linkChan link k = some c → s.linkTx link = true →
      s.linkAny link = false → v = {
        link := link, asn := k, start := s.epoch + k * s.slotNs, chan := c,
        delta := s.slotDelta (s.linkNeigh link) (s.epoch + k * s.slotNs), guard := s.slotGuard (s.linkNeigh link) (s.epoch + k * s.slotNs),
        expect := (s.epoch + k * s.slotNs : Nat) + s.getF F.MC_TIMING_TXOFS * 10000 + s.slotDelta (s.linkNeigh link) (s.epoch + k * s.slotNs),
        classS := false } → s.linkSkipped link c v = false →
      exec (.slotPrepare link) s = .next { s with radio := { s.radio with serve := aset s.radio.serve (s.linkPair link) v } }) ∧
    (s.slotsRun = true → (∀ x ∈ s.radio.serve, x.2.classS = false) → exec .slotStart s = .next { s with radio := { s.radio with
      serve := s.radio.serve.filter (fun x => !decide (x.2.asn < s.asn)), asn := s.asn, oldLinks := [] } }) ∧
    (afind s.radio.serve (s.linkPair link) = some v → v.link = link.val → s.linkTx link = true → s.radio.attempts = [] → q0 = s.linkQueue link →
      s.qUsable q0 = true → s.qHeadLost q0 = false → s.qFront q0 = some it → s.qPoisoned q0 (s.qR q0) it.length = false →
      bitAt (rfItPayload (schedItem it (s.linkSf link) (s.linkCr link) v.chan)) 0 3 = false →
      v.expect.toNat + s.rfAir (s.linkPair link) (schedItem it (s.linkSf link) (s.linkCr link) v.chan) +
        s.rampNs (s.getF (F.CH_PAIRSTAT_PROFILE (s.linkPair link))) < v.start + s.slotNs → y = (s.qMark q0).qConsume q0 →
      z = { y with radio := { y.radio with attempts := y.radio.attempts ++ [{ link := link, queue := q0, pair := s.linkPair link }] } } →
      ∀ g, g = z.lqInsert (entryWords leTypeRF_TX 2 (s.linkPair link) v.expect.toNat q0) (.sched link) → g.2.1 = stOK →
      exec (.schedTx link) s = .next (g.1.lqUpdate (g.2.2 % 2048) fun e => {
        e with item := some (schedItem it (s.linkSf link) (s.linkCr link) v.chan), readFrom := s.qR q0 })) ∧
    (afind s.radio.acks n = some ak → z = { s with radio := { s.radio with acks := adel s.radio.acks n } } → exec (.schedAckSend n) s =
      .next (z.launchItem n ak.at_ (.radioAck n) (z.rfAckItem ak.chan ak.sf ak.cr ak.dst ak.seq 0 false)).1) ∧
    (s.radio.attempts = [a] → a.pair = n.val → a.waiting = true → a.deadline + 2000 ≤ s.ns → exec (.rfAckExpiry n) s = .next (s.rfAckMissed a)) ∧
    (s.superDeadline ep = some t0 → t0 + 2000 ≤ s.ns → s.verifying ep t0 = false → exec (.supervisionExpiry ep) s = .next (s.epLost ep)) ∧
    (afind s.radio.prov ep = some t0 → s.epState ep = epPROV → t0 + 1000000000 * s.getF F.MC_JOINCFG_PROVTTL + 2000 ≤ s.ns →
      exec (.provisionalExpiry ep) s = .next (s.setEp ep epFREE)) ∧
    (s.struct_.live = true → s.getF (F.MC_DLQ_EN dk) = 1 → q = s.getF (F.MC_DLQ_QUEUE dk) → s.qUsable q = true → s.radio.dlqStopped = [] →
      s.qHeadLost q = false → s.qFront q = some it → s.qPoisoned q (s.qR q) it.length = false → rfItValid it = true → 20 ≤ rfItLen it →
      s.ownEp (rfRxa (rfItPayload it)) = some e → s.getF (F.EP0_SLEEPY e) = 1 → s.mbxPut e it = (y, .ok) →
      exec (.dlqServe dk) s = .next ((y.qConsume q).qRelease q)) ∧
    (s.mbxOf ep = [f] → s.getF (F.MC_PART0_MBXTTL f.part) ≠ 0 → s.mbxSecond f + s.getF (F.MC_PART0_MBXTTL f.part) < s.ns / 1000000000 →
      exec (.mbxExpired ep) s = .next (((s.mbxFree f).bump F.MC_MBXSTAT_EXPIRED).notice ncMBX_EXPIRED (s.getF (F.EP0_PORT ep)) [])) ∧
    (s.radio.polls = [pw] → pw.ep = ep.val → s.mbxOf ep = [] → z = { s with radio := { s.radio with polls := [] } } → z.pollTime pw = some t0 →
      z.launchItem pw.pair t0 (.radioAck pw.pair)
        (z.rfAckItem pw.chan pw.sf pw.cr (z.epAddr ep) (pw.ackSeq.getD 0) (z.getF (F.EP10_FOFS ep)) true) = (y, stOK, k) →
      exec (.pollResponse ep) s = .next y) ∧
    (s.radio.duty = [(26, l)] → afind l (s.ns / 1000000000 - 1) = none → ∃ y : State, exec .dcSecond s = .next (y.showUsed 3 2) ∧
      y.radio.duty = [(26, l.filter fun x => decide (s.ns / 1000000000 < x.1 + 3600))])

/-- FRAME_VERIFIED of the engine's only request, a frame right under the current generation alone, routes it;
FRAME_SECURED writes the relayed frame secured under it. CARD_EXCHANGE with CPH on, a tag, the port enabled and off,
and a right header activates the port; CARD_ACTIVATE after 512 clocks raises CARD_RST_N; CARD_ATR supported, in 400 to
40,000 clocks, makes the port READY and starts the exchange; ATR_FAIL after 40,000 clocks without one fails it. Under
T=0 in an exchange, CARD_CHARACTER of SW2 ends the response; CARD_ERROR_SIGNAL sends the character again; CARD_TIMEOUT
past the waiting time ends it CARD_TIMEOUT. CARD_EXCHANGE_END of a complete response that fits, no KEK and no DEACT,
writes it with header and status OK; CARD_DEACTIVATED makes the port OFF. QUEUE_STALE due sets STALE and is reported;
QUEUE_OPEN_EXPIRED past the limit discards the host item; HW_ITEM_WRITE with room writes it whole; SCRUB_READ due
takes its bank to the next offset, counting a corrected and poisoning an uncorrected word; BANK_COPY_DONE after 65,536
ticks ends the copy. (spec/09_radio_mac.md (R245), spec/10_cipher_keys.md (R259, R261, R262, R263, R266, R267, R268,
R269, R270, R271, R273), spec/11_queues.md (R276, R278, R285, R286, R287, R290), spec/12_host_link.md (R320),
spec/15_faults_service.md (R381); derived.) -/
def Obligations.CipherCardAndQueueEventsComplete : Prop :=
  ∀ (g : OpTag) (r : CipherReq) (f : RxFrame) (ep slot : Nat) (o : RelayOut) (key kb : List Byte) (k : CardPort) (cmd atr pps : List Byte)
      (bg t i n : Nat) (x sw1 : Byte) (a : AtrInfo) (d : DescRun) (cr : CardRun) (q : QueueId) (bank : PhysBank) (hw : HwUnit) (body : List Word)
      (oi : OpenItem) (bc : BankCopy) (s z : State),
    (s.cipher.reqs = [r] → s.cipher.held = [] → r.tag = g.val → r.ended = none → r.cur = some key →
      z = ({ s with cipher := { s.cipher with reqs := [] } } : State).giveTag g →
      (r.job = .verify f ep slot → levelOk (secLevel f.body f.mac.secAt) (z.getF F.CX_SECCFG_MINLVL) = true → r.prev = none →
        verifyBytes key f.mac.tx f.mac.secAt f.body = some kb → exec (.frameVerified g) s = .next (z.frameVerified { f with body := kb } ep)) ∧
      (r.job = .relay o → exec (.frameSecured g) s = .next (z.relayWrite o (secureBytes key z.ownAddr r.counter (z.getF F.CX_SECCFG_TXLVL)
        (o.header ++ BitVec.ofNat 8 (z.getF F.CX_SECCFG_TXLVL) :: bytesLE 4 r.counter) o.payload)))) ∧
    (n = s.getF (F.CX_CARDCFG_RING k) → s.dmaRun n = some d → dKind d.desc.words = 2 → d.started = false → d.waiting = false →
      s.cardRun k = none → s.cardState k = cdOFF → s.domOn domCPH = true → s.canRead (.run n) → s.flag (F.CX_CARDCFG_EN k) = true →
      ccValid cmd = true → cr = { ring := n, header := cmd.take 8, apdu := (cmd.drop 8).take (ccLen cmd) } → ∃ y : State,
      exec (.cardExchange k cmd) s = .next y ∧ y.cardState k = cdACTIVATING ∧ y.cardRun k = some cr ∧ (y.card k).rstHigh = false) ∧
    (s.cardState k = cdACTIVATING →
      ((s.card k).rstHigh = false → (s.card k).since + (if (s.card k).clkOn then 0 else 200000) + s.cardClocks k 512 ≤ s.ns → ∃ y : State,
        exec (.cardActivate k) s = .next y ∧ (y.card k).rstHigh = true ∧ y.getF (F.CX_CARDETU_F k) = 372 ∧ y.getF (F.CX_CARDETU_D k) = 1) ∧
      ((s.card k).rstHigh = true →
        (readAtr atr = some a → atrProtocol a (s.flag (F.CX_CARDCFG_TPREF k)) = some t → 400 ≤ bg → bg ≤ 40000 → a.supported = true →
          a.crc = false → z = s.atrTake k a t pps → z.cardRun k = some cr →
          exec (.cardAtr k bg atr pps) s = .next ((z.setCardState k cdREADY).cardStart k cr)) ∧
        ((s.card k).since + s.cardClocks k 40000 ≤ s.ns → exec (.atrFail k) s = .next (s.atrFails k)))) ∧
    (s.cardRun k = some cr → s.cardState k = cdEXCHANGE → cr.complete = false → s.cardT1 k = false →
      (cr.stage = .sw2 sw1 → exec (.cardCharacter k x true) s =
        .next ((s.setCard k { s.card k with since := s.ns, signalled := none }).t0Status k { cr with repeats := 0 } sw1 x)) ∧
      (i < (s.card k).lastSent.length → (s.card k).signalled = none → exec (.cardErrorSignal k i) s =
        .next (((s.emitOut (.cardSend k (((s.card k).lastSent.drop i).take 1))).bump (F.CX_CARDERR_PARITY k)).setCard k
          { s.card k with since := max (s.card k).since s.ns, signalled := some (i, 1) })) ∧
      ((s.card k).since + s.cardClocks k (960 * (s.card k).wi * s.getF (F.CX_CARDETU_F k)) ≤ s.ns →
        exec (.cardTimeout k) s = .next ((s.bump (F.CX_CARDERR_TIMEOUT k)).cardFail k cr csTIMEOUT))) ∧
    (s.cardRun k = some cr → s.dmaRun cr.ring = some d → cr.complete = true → ccKek cr.header = false → ccDeact cr.header = false →
      cr.response.length + 8 ≤ dRespLen d.desc.words → z = (s.cardLast k csOK).setCardState k cdREADY → exec (.cardExchangeEnd k) s =
        .next (((z.cardWrite cr (cr.response.length - 2) cr.flushed cr.response.length).cardHead k cr cr.response.length csOK).exchangeEnd
          cr.ring stOK (8 + cr.response.length))) ∧
    (s.cardState k = cdDEACTIVATING → exec (.cardDeactivated k) s = .next (s.setCardState k cdOFF)) ∧
    (s.staleDue q = true → ∃ y : State, exec (.queueStale q) s =
        .next (y.notice ncQUEUE_STALE q [(16, q), (32, s.qUnread q), (64, (s.qst q).tr)]) ∧
      y = (s.setQst q { s.qst q with late := none }).setF (F.QM_QSTAT_STALE q) 1) ∧
    ((s.qst q).open_ = some oi → oi.producer.isHost = true → s.getF F.QM_OPENLIM_LIMIT ≠ 0 →
      oi.since + s.getF F.QM_OPENLIM_LIMIT * 100000 + 2000 ≤ s.ns → exec (.queueOpenExpired q) s =
        .next ((((s.setF (F.QM_QWP_PTR q) oi.header).setQst q { s.qst q with
          open_ := none, orphans := (s.qst q).orphans.filter (·.1 != oi.producer) ++ [(oi.producer, true)] }).qSettle q).notice ncQUEUE_OPEN_EXPIRED q
          [(16, q), (32, oi.producer.field), (32, oi.written)])) ∧
    (s.qUsable q = true → s.txn.flushes.contains q.val = false → (s.qst q).open_ = none → (itemOf body).length ≤ s.qRoom q →
      exec (.hwItemWrite q hw body) s = .next (((s.qPut q (s.qW q) (itemOf body)).qAdvanceW q (itemOf body).length none).mirror
        (.queueWrite q (itemOf body)))) ∧
    (aget 0 s.queues.scrubDue bank ≤ s.tick → n = aget 0 s.queues.scrubAt bank →
      exec (.scrubRead bank .none) s = .next (s.scrubNext bank n) ∧
      exec (.scrubRead bank .single) s = .next ((s.corrected bank (s.wordOfBank bank n)).scrubNext bank n) ∧
      exec (.scrubRead bank .double) s = .next ((s.poisoned bank n (s.wordOfBank bank n)).scrubNext bank n)) ∧
    (s.queues.copies = [bc] → bc.isOf n = true → bc.started + 65536 ≤ s.tick →
      exec (.bankCopyDone n) s = .next { s with queues := { s.queues with copies := [{ bc with ended := true }] } })

/-- With the device powered FAULT_DETECT of a code 1 to 9 that does not escalate records it. FAULT_AUTOCLOSE past its time
and 2 us closes the record. AUDIT_STEP of an enabled kind, idle, begins a step; AUDIT_MISMATCH of a step with the one
free spare judges it unresolved. LIFE_COUNTER_UPDATE at a full hour counts it. LEDGER_PROGRAMMED of a verified copy
gives the block its new content; LEDGER_CLAIM_TIMEOUT after 10 ms ends the wait SV_BUSY; LEDGER_DUMP of one reserved
block, not field-held, writes 32 zero bytes and waits. FIELD_STATE sets SV_STAT and is reported. A tag that hears the
command: INVENTORY that matches answers its UID; STAY_QUIET makes it quiet; SELECT of its UID selects it;
RESET_TO_READY makes it ready; GET_SYSTEM_INFORMATION and the extended one answer 512 blocks of 32 bytes;
READ_SINGLE_BLOCK, READ_MULTIPLE_BLOCKS and their extended forms answer a free block's bytes; WRITE_SINGLE_BLOCK of a
block up to 79 answers 0x12, EXTENDED_WRITE_SINGLE_BLOCK of a free block from 384 to 511 with FIELD_WR claims and
programs it; UNSUPPORTED_FIELD_COMMAND answers error 0x01. (spec/12_host_link.md (R319), spec/15_faults_service.md
(R375, R376, R377, R385, R386, R387, R388, R389, R390, R391, R393), spec/17_electrical.md (R421); derived.) -/
def Obligations.ServiceFaultAndFieldEventsComplete : Prop :=
  ∀ (code b n seq : Nat) (u : UnitRef) (dt : Word) (ix : LogIndex) (r : FaultRec) (k : SparedKind) (lb : LedgerBlock) (op : LedgerWriteOp)
      (lw : LedgerWait) (cmd data wr : List Byte) (d : DescRun) (f : FieldCmd) (s v : State),
    (s.mode.mode ≠ .OFF → code ≠ 0 → code ≤ 9 → escalating code u = false →
      exec (.faultDetect code u dt) s = .next (s.report code u.kind u.unit dt.toNat).1) ∧
    (afind s.faults.log ix = some r → r.isOpen = true → s.getF F.FT_CFG_AUTOCLOSE ≠ 0 → s.closeDue r + 2000 ≤ s.ns →
      exec (.faultAutoclose ix) s = .next (s.closeRecord ix)) ∧
    (s.struct_.live = true → s.mode.mode ≠ .FAULT → s.flag (F.FT_AUDCFG_EN k) = true → (s.audit k).active = false →
      exec (.auditStep k) s = .next ((s.endPass k (s.audit k)).startStep k)) ∧
    ((s.audit k).active = true → (s.audit k).suspect = none → s.freeSpares k = [(s.audit k).spare] → exec (.auditMismatch k false) s =
      .next ((s.bump (F.FT_AUDSTAT_MISMATCH k)).judgeNone k (s.audit k).live (s.audit k).spare)) ∧
    (s.mode.mode ≠ .OFF → aonCount s.service.powered + (s.service.lifeHour + 1) * hourCycles ≤ aonCount s.tick → ∃ y : State,
      exec .lifeCounterUpdate s = .next y ∧ y.service.lifeHour = s.service.lifeHour + 1) ∧
    (s.service.writes.find? (·.block == lb.val) = some op → ∃ y : State, exec (.ledgerProgrammed lb true) s = .next (y.lend op) ∧
      y.lcopy op.block (s.ltarget op.block).1 = { data := op.data, seq := (s.ltarget op.block).2, valid := true }) ∧
    (s.service.waits.find? (fun x => x.block == lb.val && decide (x.since + 10000000 ≤ s.ns)) = some lw → s.lclaim lb = some .field →
      exec (.ledgerClaimTimeout lb) s = .next ((({ s with service := { s.service with waits := s.service.waits.erase lw } } : State).bump
        F.SV_CNT_BUSY).complete lw.cmd (if lw.write.isSome then opLEDGER_WRITE else opLEDGER_READ) stSV_BUSY)) ∧
    (v = s.afterRead → s.linkUp = true → s.getF F.HL_LINKSTAT_BME = 1 → (s.dmaRing (s.getF F.SV_CFG_RING)).run = some d →
      dKind d.desc.words = 2 → d.waiting = false → d.moved = 0 → d.started = false → s.canRead (.run (s.getF F.SV_CFG_RING)) →
      n = natLE (cmd.take 2) → natLE ((cmd.drop 2).take 2) = 1 → n < 512 → 32 ≤ dRespLen d.desc.words → s.lclaim n ≠ some .field →
      hostBlock n = false → exec (.ledgerDump cmd) s = .next ((State.setDmaRun
        { v with out := s.out ++ [.hostWrite (dRespAddr d.desc.words) (List.replicate 32 0)] } (s.getF F.SV_CFG_RING)
        { d with moved := 32, started := true, held := none, status := stOK, waiting := true }).readIssue (.run (s.getF F.SV_CFG_RING)))) ∧
    (s.mode.mode ≠ .OFF → exec (.fieldState true) s = .next ((s.setF F.SV_STAT_FIELD 1).notice ncFIELD_STATE 0 [(8, 1)]) ∧
      exec (.fieldState false) s = .next (((s.setF F.SV_STAT_FIELD 0).fieldGone).notice ncFIELD_STATE 0 [(8, 0)])) ∧
    (f.twoSubcarriers = false → s.service.tag ≠ .quiet → f.afi = none ∨ f.afi = some 0 → tagUid % 2 ^ f.maskLen = f.mask % 2 ^ f.maskLen →
      exec (.inventory f) s = .next (s.emitOut (.field ([0, 0] ++ bytesLE 8 tagUid)))) ∧
    (f.twoSubcarriers = false → f.addressed = true → f.uid = tagUid →
      exec (.select f) s = .next (({ s with service := { s.service with tag := .selected } } : State).emitOut (.field [0]))) ∧
    (s.hears f = true →
      (f.addressed = true → exec (.stayQuiet f) s = .next { s with service := { s.service with tag := .quiet } }) ∧
      exec (.resetToReady f) s = .next (({ s with service := { s.service with tag := .ready } } : State).emitOut (.field [0])) ∧
      exec (.unsupportedFieldCommand f code) s = .next (s.emitOut (.field [1, 0x01])) ∧
      exec (.getSystemInformation f) s = .next (s.emitOut (.field ([0, 0x0F] ++ bytesLE 8 tagUid ++ [0, 0, 0xFF, 31,
        BitVec.ofNat 8 (s.getF F.MD_ID_STEPPING)]))) ∧
      (f.fields = 15 → exec (.extendedGetSystemInformation f) s = .next (s.emitOut (.field ([0, 0x0F] ++ bytesLE 8 tagUid ++ [0, 0] ++
        bytesLE 2 511 ++ [31, BitVec.ofNat 8 (s.getF F.MD_ID_STEPPING)])))) ∧
      (b < 80 ∨ (384 ≤ b ∧ b < 512) → s.hostHolds b = false → (s.lcopy b 0).valid = true → (s.lcopy b 1).valid = true →
        s.lread b = some (data, seq) →
        exec (.extendedReadSingleBlock f b) s = .next (s.emitOut (.field (0 :: ((if f.option then [0] else []) ++ data)))) ∧
        exec (.extendedReadMultipleBlocks f b 1) s = .next (s.emitOut (.field (0 :: ((if f.option then [0] else []) ++ data)))) ∧
        (b < 256 → exec (.readSingleBlock f b) s = .next (s.emitOut (.field (0 :: ((if f.option then [0] else []) ++ data)))) ∧
          exec (.readMultipleBlocks f b 1) s = .next (s.emitOut (.field (0 :: ((if f.option then [0] else []) ++ data)))))) ∧
      (s.mode.mode ≠ .OFF ∨ f.weak = false →
        (b < 80 → exec (.writeSingleBlock f b wr) s = .next (s.emitOut (.field [1, 0x12]))) ∧
        (384 ≤ b → b < 512 → s.hostHolds b = false → s.flag F.SV_CFG_FIELD_WR = true →
          exec (.extendedWriteSingleBlock f b wr) s = .next ((s.yieldClaim b).lbegin { block := b, data := wr, field := true }))))

/-- LOCK_GRANT of a free lock no older transaction waits for adds the waiting action and completes its command OK;
LOCK_TIMEOUT past WAIT_LIMIT completes it LOCK_TIMEOUT, the transaction OPEN again. On a member, from its master, for
its part, a request not seen before: BENCH_ACTION of a right action its checks pass claims its lock; PREPARE of an
OPEN part is acknowledged and voted on; DECISION COMMIT by C - GUARD is acknowledged and marks the part decided, ABORT
ends it. On a master, a request not seen before: WOUND_REQUEST of a transaction opened here and not sealed wounds it
and answers OK; VOTE YES of an expected member in time is counted, NO aborts the undecided transaction VOTE_NO;
OUTCOME_REPORT is taken and the last one ends the transaction. VOTE_DEADLINE past V, undecided, aborts VOTE_MISSING;
DECISION_DEADLINE at C - GUARD and 2 us, a prepared part undecided, aborts DECISION_MISSING; OUTCOME_TIMEOUT 1 ms and
2 us after C, the own part reported, ends the transaction. (spec/13_transactions.md (R328, R329, R330, R331, R332,
R337, R338, R339, R340); derived.) -/
def Obligations.TransactionEventsComplete : Prop :=
  ∀ (i : TxnSlot) (k h m hh time st ix wn : Nat) (c : Cmd) (j : Member) (tag : OpTag) (b : BenchAction) (l : Lock) (a : TxnAction) (t t1 : Txn) (s s1 : State),
    (s.txnAt i = some t → t.phase = .waiting → t.adding = some (a, .host c) → t.wants = some (k, l) →
      (s.holders t l = [] → s.olderWaits t l = false →
        exec (.lockGrant i k) s = .next ((s.addAction t a).complete c opTXN_ADD stOK [BitVec.ofNat 32 a.index])) ∧
      (s.getF F.TN_CTL_WAIT_LIMIT ≠ 0 → t.since + s.getF F.TN_CTL_WAIT_LIMIT * 1000000 < s.ns →
        exec (.lockTimeout i k) s = .next ((s.setTxn { t with phase := .opened, adding := none }).complete c opTXN_ADD stLOCK_TIMEOUT))) ∧
    (s.benchRole = roleMEMBER → j.val = 0 → s.benchSeen j tag = none →
      ((∀ x ∈ s.txn.slots, (x.adding.map (·.2)) ≠ some (.bench j tag)) → s.partWith j b.handle = some t → t.phase = .opened →
        acForm b.record = true → t.actions.length < 64 → acStaged b.record = false →
        s.checkAction { record := b.record, item := [], index := b.index } false none = (stOK, a) →
        exec (.benchAction j tag b) s = .next (s.claimAction t a (.bench j tag))) ∧
      (s.partWith j h = some t → s1 = s.benchReply j tag stOK [] →
        (t.phase = .opened → exec (.prepare j tag h time) s = .next (s1.prepareVote t h time)) ∧
        (s1.ns + s1.getF F.TN_BCFG_GUARD * 1000 ≤ t.commitAt → exec (.decision j tag h true) s = .next (s1.setTxn { t with decided := some true })) ∧
        exec (.decision j tag h false) s = .next (s1.abortTxn t { status := stTXN_ABORTED } false))) ∧
    (s.benchRole = roleMASTER → s.benchSeen j tag = none →
      (s.txnAt i = some t → t.master = none → t.woundable = true →
        exec (.woundRequest j tag i wn) s = .next ((s.woundTxn t wn s.memberNo).benchReply j tag stOK [])) ∧
      (s1 = s.benchReply j tag stOK [] →
        (s1.undecided h = some t → (s1.otherMembers t).contains j.val = true →
          (s1.ns ≤ s1.voteDeadline t → exec (.vote j tag h true st ix) s = .next (s1.decideTxn { t with votes := t.votes ++ [j.val] })) ∧
          exec (.vote j tag h false st ix) s = .next (s1.abortTxn t { status := stVOTE_NO, index := ix, member := j } false)) ∧
        (s1.txnOf h = some t → s1.awaiting t = true → (s1.otherMembers t).contains j.val = true → t.reports.any (·.1 == j.val) = false →
          t1 = { t with reports := t.reports ++ [(j.val, st)] } →
          (s1.allReported t1 = true → exec (.outcomeReport j tag h st) s = .next (s1.benchDone t1)) ∧
          (s1.allReported t1 = false → exec (.outcomeReport j tag h st) s = .next (s1.setTxn t1))))) ∧
    (s.txnAt i = some t →
      (t.phase = .sealed → t.master = none → t.decided = none → s.expired (s.voteDeadline t) = true → ∃ n : Nat,
        exec (.voteDeadline i) s = .next (s.abortTxn t { status := stVOTE_MISSING, member := n } false)) ∧
      (t.master = some (m, hh) → t.prepared = true → t.decided = none → t.commitAt - s.getF F.TN_BCFG_GUARD * 1000 + 2000 ≤ s.ns →
        exec (.decisionDeadline i) s = .next (s.abortTxn t { status := stDECISION_MISSING } false)) ∧
      (s.awaiting t = true → t.reports.any (·.1 == s.memberNo) = true → t.commitAt + 1002000 ≤ s.ns →
        exec (.outcomeTimeout i) s = .next (s.benchDone t)))

/-- GROUP_UP of an enabled peer group, its skew and lanes right, makes it UP with the neighbour's RDI and LINKMAP;
GROUP_DOWN of an UP bench group makes it ALIGNING and counts lost messages; RDI_RX of a good frame of an UP peer group
takes its RDI and LINKMAP; MULTIFRAME sends a frame's overhead; ECHO_CELL of a request to an UP group is answered
after 2 us; WTR_EXPIRY past the limit refreshes the paths; PERF_SECOND with ten severely errored seconds begins
unavailable time, reported. BENCH_MESSAGE to this member, of a known kind, its tag right and new, acts. LEASE_CREDIT
of an ungranted demodulator posts the credit; LEASE_START with a credit, CHC on and a unit free takes it; SAMPLE_CELL
without GAP reaches its stream; LEASE_END, and LEASE_IDLE_FREE after 1 ms, free it. On an UP peer group HELLO_SEND of
a master sends its HELLO and HELLO_CELL of another address brings the neighbour up; with it, ROUTE_ADVERTISE changed
sends the vector and ROUTE_MESSAGE is learned. PEER_DOWN after 350 ms takes the neighbour down; ROUTE_EXPIRY after 3 s
drops the route; HANDOVER_IN with room puts the item, is reported and acknowledged OK. (spec/14_bench_peer.md (R346,
R350, R351, R353, R354, R355, R358, R360, R361, R362, R364, R365, R366, R367, R368, R369); derived.) -/
def Obligations.BenchAndPeerEventsComplete : Prop :=
  ∀ (g : Group) (b : Neighbour) (lane lost mfi n t2 t3 t0 k u stream first gain step time st a src i : Nat) (why : LaneFail) (rdi : Bool) (map : Word)
      (m : BenchMsg) (j : Member) (port : RfPort) (chan : Fin 32) (sf : Fin 8) (bw : Fin 3) (xs : List (BitVec 56)) (d : Demod) (h : HelloCell)
      (tag : OpTag) (e : EndpointId) (ws : List Word) (s x y : State),
    (s.groupEnabled g = true → 2 ≤ g.val → x = s.groupLocked g b → b.skew ≤ 50 → b.lanes = x.groupLanes g →
      exec (.groupUp g b) s = .next (x.setGroup g 2 0 |>.takeRdi g b.rdi |>.takeMap g b.linkmap.toNat)) ∧
    (x = s.laneState g lane why.left → x.groupUp g = true → g.val < 2 →
      exec (.groupDown g lane why lost) s = .next ((x.bump (F.BN_GRPERR_MSGLOST g) lost).setGroup g 1 why.cond)) ∧
    (s.getF (grpState g) = 2 → 2 ≤ g.val → exec (.rdiRx g lane rdi map false k) s = .next ((s.takeRdi g rdi).takeMap g map.toNat)) ∧
    (mfi ≠ 0 → mfi ≠ 50 → exec (.multiframe mfi) s = .next (s.sendOverhead mfi)) ∧
    (s.groupUp g = true → t2 + 2000 ≤ t3 → exec (.echoCell g (.request n t2 t3)) s = .next (s.emitOut (.cell g 2 [1, n, t2, t3]))) ∧
    (afind s.bench.wtr n = some t0 → t0 + s.getF F.BN_CFG_WTR * 1000000000 ≤ s.ns →
      y = { s with bench := { s.bench with wtr := s.bench.wtr.filter (·.1 != n) } } → exec (.wtrExpiry n) s = .next y.refreshPaths) ∧
    (s.struct_.live = true → s.groupLanes g ≠ 0 → n = s.ns / 1000000000 - 11 → 11 ≤ s.ns / 1000000000 → (aget {} s.bench.perf g).last ≠ some n →
      (aget {} s.bench.perf g).unavail = false → (∀ i < 10, s.isSes g (n + i) = true) → ∃ z : State,
      exec (.perfSecond g) s = .next (z.notice ncPERF_UAS g [(8, g), (8, 1), (64, n * 1000000000)]) ∧ (aget {} z.bench.perf g).unavail = true) ∧
    (g.val < 2 → s.groupUp g = true → m.dst.val = s.memberNo → 1 ≤ m.kind → m.kind ≤ 7 → s.tagChecks g m = 1 → s.replayed g m = false →
      exec (.benchMessage g m) s = .next (State.benchAct { s with bench := { s.bench with
        accepted := aset s.bench.accepted (64 * g + m.src) m.counter } } g m)) ∧
    (n = s.getF (F.BN_LEASE_BORROWER k) → k < 8 → s.getF (F.BN_LEASE_COUNT k) ≠ 0 → s.pathTo n ≠ 2 → n ≠ s.memberNo → s.domOn domCHC = true →
      aget 0 s.bench.granted n + s.serving n < s.setAside n → exec (.leaseCredit k) s = .next (State.benchPost { s with bench := { s.bench with
        granted := aset s.bench.granted n (aget 0 s.bench.granted n + 1) } } n (.lease .credit))) ∧
    (aget 0 s.bench.granted j.val = n + 1 → y = { s with bench := { s.bench with granted := aset s.bench.granted j.val n } } → s.domOn domCHC = true →
      y.freeUnits.head? = some u → ∃ z : State, exec (.leaseStart j stream port chan sf bw step gain time) s = .next z ∧
        (∃ q ∈ z.chirp.demods, q.slot = u ∧ q.lent = some (j.val, stream, s.ns) ∧ q.step = step ∧ q.bw = bw.val ∧ q.det.start = time)) ∧
    (s.lentFor j stream = some d →
      ((∀ x ∈ xs, x.getLsbD 42 = false) →
        exec (.sampleCell j stream first xs) s = .next (s.changeDemod d { d.samples first xs with lent := some (j.val, stream, s.ns) })) ∧
      exec (.leaseEnd j stream st) s = .next (s.freeDemod d) ∧
      (d.lent = some (j.val, stream, time) → time + 1000000 ≤ s.ns → exec (.leaseIdleFree j stream) s = .next (s.freeDemod d))) ∧
    (s.peerOn g = true →
      (s.benchRole = roleMASTER → exec (.helloSend g) s = .next (s.emitOut (.cell g 5 [s.getF F.PF_CFG_ADDR, s.ownPrefix, g - 2, s.nmemb + 1]))) ∧
      (h.addr ≠ s.getF F.PF_CFG_ADDR → exec (.helloCell g h) s = .next (s.neighbourUp g h.addr)) ∧
      (s.peerUp (g - 2) = true →
        (s.bench.routeChanged.contains g.val = true → ∃ z : State,
          exec (.routeAdvertise g) s = .next (z.sendOn g 0 0 false 16 (.route (s.vector (g - 2)))) ∧ z.bench.routeSent = aset s.bench.routeSent g s.ns) ∧
        exec (.routeMessage g [(a, k)]) s = .next (s.learnRoute (g - 2) (a, k)))) ∧
    (2 ≤ g.val → s.flag (F.PF_PORTSTAT_NEIGH_UP (g - 2)) = true → aget 0 s.bench.hello g + 350000000 ≤ s.ns →
      exec (.peerDown g) s = .next (s.peerGone (g - 2))) ∧
    (i < 256 → s.flag (F.PF_RT_VALID i) = true → aget 0 s.bench.refresh i + 3000000000 ≤ s.ns → exec (.routeExpiry i) s = .next (s.dropRoute i)) ∧
    (s.qHwItem (s.getF F.PF_CFG_HANDQ) (.hw 12 0) (handItem src ws) = (y, true) → exec (.handoverIn tag src e ws) s =
      .next ((y.notice ncHANDOVER_IN 0 [(16, src), (32, e)]).peerPost src 16 tag (.peerAck src (s.getF F.PF_CFG_ADDR) tag stOK)).1)
end

