-- ==== Sys2Proof/Laws/State.lean ====
section
/-! SUPPORT. What the plain updates of State leave as it was, one lemma per field and update. -/
namespace Sys2Proof.Machine
open Sys2Proof

@[simp] theorem State.setWord_qmem (s : State) (a : Nat) (w : Word) : (s.setWord a w).qmem = s.qmem := rfl
@[simp] theorem State.setWord_tick (s : State) (a : Nat) (w : Word) : (s.setWord a w).tick = s.tick := rfl
@[simp] theorem State.setWord_dt (s : State) (a : Nat) (w : Word) : (s.setWord a w).dt = s.dt := rfl
@[simp] theorem State.setWord_fresh (s : State) (a : Nat) (w : Word) : (s.setWord a w).fresh = s.fresh := rfl
@[simp] theorem State.setWord_out (s : State) (a : Nat) (w : Word) : (s.setWord a w).out = s.out := rfl
@[simp] theorem State.setWord_pending (s : State) (a : Nat) (w : Word) : (s.setWord a w).pending = s.pending := rfl
@[simp] theorem State.setWord_notices (s : State) (a : Nat) (w : Word) : (s.setWord a w).notices = s.notices := rfl
@[simp] theorem State.setWord_host (s : State) (a : Nat) (w : Word) : (s.setWord a w).host = s.host := rfl
@[simp] theorem State.setWord_queues (s : State) (a : Nat) (w : Word) : (s.setWord a w).queues = s.queues := rfl
@[simp] theorem State.setWord_faults (s : State) (a : Nat) (w : Word) : (s.setWord a w).faults = s.faults := rfl
@[simp] theorem State.setWord_service (s : State) (a : Nat) (w : Word) : (s.setWord a w).service = s.service := rfl
@[simp] theorem State.setWord_mode (s : State) (a : Nat) (w : Word) : (s.setWord a w).mode = s.mode := rfl
@[simp] theorem State.setWord_domains (s : State) (a : Nat) (w : Word) : (s.setWord a w).domains = s.domains := rfl
@[simp] theorem State.setWord_fuse (s : State) (a : Nat) (w : Word) : (s.setWord a w).fuse = s.fuse := rfl
@[simp] theorem State.setWord_struct_ (s : State) (a : Nat) (w : Word) : (s.setWord a w).struct_ = s.struct_ := rfl
@[simp] theorem State.setWord_tags (s : State) (a : Nat) (w : Word) : (s.setWord a w).tags = s.tags := rfl
@[simp] theorem State.setWord_ref (s : State) (a : Nat) (w : Word) : (s.setWord a w).ref = s.ref := rfl
@[simp] theorem State.setWord_mains (s : State) (a : Nat) (w : Word) : (s.setWord a w).mains = s.mains := rfl
@[simp] theorem State.setWord_launch (s : State) (a : Nat) (w : Word) : (s.setWord a w).launch = s.launch := rfl
@[simp] theorem State.setWord_sample (s : State) (a : Nat) (w : Word) : (s.setWord a w).sample = s.sample := rfl
@[simp] theorem State.setWord_plc (s : State) (a : Nat) (w : Word) : (s.setWord a w).plc = s.plc := rfl
@[simp] theorem State.setWord_chirp (s : State) (a : Nat) (w : Word) : (s.setWord a w).chirp = s.chirp := rfl
@[simp] theorem State.setWord_radio (s : State) (a : Nat) (w : Word) : (s.setWord a w).radio = s.radio := rfl
@[simp] theorem State.setWord_cipher (s : State) (a : Nat) (w : Word) : (s.setWord a w).cipher = s.cipher := rfl
@[simp] theorem State.setWord_bench (s : State) (a : Nat) (w : Word) : (s.setWord a w).bench = s.bench := rfl
@[simp] theorem State.setWord_txn (s : State) (a : Nat) (w : Word) : (s.setWord a w).txn = s.txn := rfl

@[simp] theorem State.setF_qmem (s : State) (f : Fld) (v : Nat) : (s.setF f v).qmem = s.qmem := rfl
@[simp] theorem State.setF_tick (s : State) (f : Fld) (v : Nat) : (s.setF f v).tick = s.tick := rfl
@[simp] theorem State.setF_dt (s : State) (f : Fld) (v : Nat) : (s.setF f v).dt = s.dt := rfl
@[simp] theorem State.setF_fresh (s : State) (f : Fld) (v : Nat) : (s.setF f v).fresh = s.fresh := rfl
@[simp] theorem State.setF_out (s : State) (f : Fld) (v : Nat) : (s.setF f v).out = s.out := rfl
@[simp] theorem State.setF_pending (s : State) (f : Fld) (v : Nat) : (s.setF f v).pending = s.pending := rfl
@[simp] theorem State.setF_notices (s : State) (f : Fld) (v : Nat) : (s.setF f v).notices = s.notices := rfl
@[simp] theorem State.setF_host (s : State) (f : Fld) (v : Nat) : (s.setF f v).host = s.host := rfl
@[simp] theorem State.setF_queues (s : State) (f : Fld) (v : Nat) : (s.setF f v).queues = s.queues := rfl
@[simp] theorem State.setF_faults (s : State) (f : Fld) (v : Nat) : (s.setF f v).faults = s.faults := rfl
@[simp] theorem State.setF_service (s : State) (f : Fld) (v : Nat) : (s.setF f v).service = s.service := rfl
@[simp] theorem State.setF_mode (s : State) (f : Fld) (v : Nat) : (s.setF f v).mode = s.mode := rfl
@[simp] theorem State.setF_domains (s : State) (f : Fld) (v : Nat) : (s.setF f v).domains = s.domains := rfl
@[simp] theorem State.setF_fuse (s : State) (f : Fld) (v : Nat) : (s.setF f v).fuse = s.fuse := rfl
@[simp] theorem State.setF_struct_ (s : State) (f : Fld) (v : Nat) : (s.setF f v).struct_ = s.struct_ := rfl
@[simp] theorem State.setF_tags (s : State) (f : Fld) (v : Nat) : (s.setF f v).tags = s.tags := rfl
@[simp] theorem State.setF_ref (s : State) (f : Fld) (v : Nat) : (s.setF f v).ref = s.ref := rfl
@[simp] theorem State.setF_mains (s : State) (f : Fld) (v : Nat) : (s.setF f v).mains = s.mains := rfl
@[simp] theorem State.setF_launch (s : State) (f : Fld) (v : Nat) : (s.setF f v).launch = s.launch := rfl
@[simp] theorem State.setF_sample (s : State) (f : Fld) (v : Nat) : (s.setF f v).sample = s.sample := rfl
@[simp] theorem State.setF_plc (s : State) (f : Fld) (v : Nat) : (s.setF f v).plc = s.plc := rfl
@[simp] theorem State.setF_chirp (s : State) (f : Fld) (v : Nat) : (s.setF f v).chirp = s.chirp := rfl
@[simp] theorem State.setF_radio (s : State) (f : Fld) (v : Nat) : (s.setF f v).radio = s.radio := rfl
@[simp] theorem State.setF_cipher (s : State) (f : Fld) (v : Nat) : (s.setF f v).cipher = s.cipher := rfl
@[simp] theorem State.setF_bench (s : State) (f : Fld) (v : Nat) : (s.setF f v).bench = s.bench := rfl
@[simp] theorem State.setF_txn (s : State) (f : Fld) (v : Nat) : (s.setF f v).txn = s.txn := rfl

@[simp] theorem State.bump_qmem (s : State) (f : Fld) (n : Nat) : (s.bump f n).qmem = s.qmem := rfl
@[simp] theorem State.bump_tick (s : State) (f : Fld) (n : Nat) : (s.bump f n).tick = s.tick := rfl
@[simp] theorem State.bump_dt (s : State) (f : Fld) (n : Nat) : (s.bump f n).dt = s.dt := rfl
@[simp] theorem State.bump_fresh (s : State) (f : Fld) (n : Nat) : (s.bump f n).fresh = s.fresh := rfl
@[simp] theorem State.bump_out (s : State) (f : Fld) (n : Nat) : (s.bump f n).out = s.out := rfl
@[simp] theorem State.bump_pending (s : State) (f : Fld) (n : Nat) : (s.bump f n).pending = s.pending := rfl
@[simp] theorem State.bump_notices (s : State) (f : Fld) (n : Nat) : (s.bump f n).notices = s.notices := rfl
@[simp] theorem State.bump_host (s : State) (f : Fld) (n : Nat) : (s.bump f n).host = s.host := rfl
@[simp] theorem State.bump_queues (s : State) (f : Fld) (n : Nat) : (s.bump f n).queues = s.queues := rfl
@[simp] theorem State.bump_faults (s : State) (f : Fld) (n : Nat) : (s.bump f n).faults = s.faults := rfl
@[simp] theorem State.bump_service (s : State) (f : Fld) (n : Nat) : (s.bump f n).service = s.service := rfl
@[simp] theorem State.bump_mode (s : State) (f : Fld) (n : Nat) : (s.bump f n).mode = s.mode := rfl
@[simp] theorem State.bump_domains (s : State) (f : Fld) (n : Nat) : (s.bump f n).domains = s.domains := rfl
@[simp] theorem State.bump_fuse (s : State) (f : Fld) (n : Nat) : (s.bump f n).fuse = s.fuse := rfl
@[simp] theorem State.bump_struct_ (s : State) (f : Fld) (n : Nat) : (s.bump f n).struct_ = s.struct_ := rfl
@[simp] theorem State.bump_tags (s : State) (f : Fld) (n : Nat) : (s.bump f n).tags = s.tags := rfl
@[simp] theorem State.bump_ref (s : State) (f : Fld) (n : Nat) : (s.bump f n).ref = s.ref := rfl
@[simp] theorem State.bump_mains (s : State) (f : Fld) (n : Nat) : (s.bump f n).mains = s.mains := rfl
@[simp] theorem State.bump_launch (s : State) (f : Fld) (n : Nat) : (s.bump f n).launch = s.launch := rfl
@[simp] theorem State.bump_sample (s : State) (f : Fld) (n : Nat) : (s.bump f n).sample = s.sample := rfl
@[simp] theorem State.bump_plc (s : State) (f : Fld) (n : Nat) : (s.bump f n).plc = s.plc := rfl
@[simp] theorem State.bump_chirp (s : State) (f : Fld) (n : Nat) : (s.bump f n).chirp = s.chirp := rfl
@[simp] theorem State.bump_radio (s : State) (f : Fld) (n : Nat) : (s.bump f n).radio = s.radio := rfl
@[simp] theorem State.bump_cipher (s : State) (f : Fld) (n : Nat) : (s.bump f n).cipher = s.cipher := rfl
@[simp] theorem State.bump_bench (s : State) (f : Fld) (n : Nat) : (s.bump f n).bench = s.bench := rfl
@[simp] theorem State.bump_txn (s : State) (f : Fld) (n : Nat) : (s.bump f n).txn = s.txn := rfl

@[simp] theorem State.setQword_map (s : State) (a : Nat) (w : Word) : (s.setQword a w).map = s.map := rfl
@[simp] theorem State.setQword_tick (s : State) (a : Nat) (w : Word) : (s.setQword a w).tick = s.tick := rfl
@[simp] theorem State.setQword_dt (s : State) (a : Nat) (w : Word) : (s.setQword a w).dt = s.dt := rfl
@[simp] theorem State.setQword_fresh (s : State) (a : Nat) (w : Word) : (s.setQword a w).fresh = s.fresh := rfl
@[simp] theorem State.setQword_out (s : State) (a : Nat) (w : Word) : (s.setQword a w).out = s.out := rfl
@[simp] theorem State.setQword_pending (s : State) (a : Nat) (w : Word) : (s.setQword a w).pending = s.pending := rfl
@[simp] theorem State.setQword_notices (s : State) (a : Nat) (w : Word) : (s.setQword a w).notices = s.notices := rfl
@[simp] theorem State.setQword_host (s : State) (a : Nat) (w : Word) : (s.setQword a w).host = s.host := rfl
@[simp] theorem State.setQword_faults (s : State) (a : Nat) (w : Word) : (s.setQword a w).faults = s.faults := rfl
@[simp] theorem State.setQword_service (s : State) (a : Nat) (w : Word) : (s.setQword a w).service = s.service := rfl
@[simp] theorem State.setQword_mode (s : State) (a : Nat) (w : Word) : (s.setQword a w).mode = s.mode := rfl
@[simp] theorem State.setQword_domains (s : State) (a : Nat) (w : Word) : (s.setQword a w).domains = s.domains := rfl
@[simp] theorem State.setQword_fuse (s : State) (a : Nat) (w : Word) : (s.setQword a w).fuse = s.fuse := rfl
@[simp] theorem State.setQword_struct_ (s : State) (a : Nat) (w : Word) : (s.setQword a w).struct_ = s.struct_ := rfl
@[simp] theorem State.setQword_tags (s : State) (a : Nat) (w : Word) : (s.setQword a w).tags = s.tags := rfl
@[simp] theorem State.setQword_ref (s : State) (a : Nat) (w : Word) : (s.setQword a w).ref = s.ref := rfl
@[simp] theorem State.setQword_mains (s : State) (a : Nat) (w : Word) : (s.setQword a w).mains = s.mains := rfl
@[simp] theorem State.setQword_launch (s : State) (a : Nat) (w : Word) : (s.setQword a w).launch = s.launch := rfl
@[simp] theorem State.setQword_sample (s : State) (a : Nat) (w : Word) : (s.setQword a w).sample = s.sample := rfl
@[simp] theorem State.setQword_plc (s : State) (a : Nat) (w : Word) : (s.setQword a w).plc = s.plc := rfl
@[simp] theorem State.setQword_chirp (s : State) (a : Nat) (w : Word) : (s.setQword a w).chirp = s.chirp := rfl
@[simp] theorem State.setQword_radio (s : State) (a : Nat) (w : Word) : (s.setQword a w).radio = s.radio := rfl
@[simp] theorem State.setQword_cipher (s : State) (a : Nat) (w : Word) : (s.setQword a w).cipher = s.cipher := rfl
@[simp] theorem State.setQword_bench (s : State) (a : Nat) (w : Word) : (s.setQword a w).bench = s.bench := rfl
@[simp] theorem State.setQword_txn (s : State) (a : Nat) (w : Word) : (s.setQword a w).txn = s.txn := rfl

@[simp] theorem State.emitOut_map (s : State) (o : Out) : (s.emitOut o).map = s.map := rfl
@[simp] theorem State.emitOut_qmem (s : State) (o : Out) : (s.emitOut o).qmem = s.qmem := rfl
@[simp] theorem State.emitOut_tick (s : State) (o : Out) : (s.emitOut o).tick = s.tick := rfl
@[simp] theorem State.emitOut_dt (s : State) (o : Out) : (s.emitOut o).dt = s.dt := rfl
@[simp] theorem State.emitOut_fresh (s : State) (o : Out) : (s.emitOut o).fresh = s.fresh := rfl
@[simp] theorem State.emitOut_pending (s : State) (o : Out) : (s.emitOut o).pending = s.pending := rfl
@[simp] theorem State.emitOut_notices (s : State) (o : Out) : (s.emitOut o).notices = s.notices := rfl
@[simp] theorem State.emitOut_host (s : State) (o : Out) : (s.emitOut o).host = s.host := rfl
@[simp] theorem State.emitOut_queues (s : State) (o : Out) : (s.emitOut o).queues = s.queues := rfl
@[simp] theorem State.emitOut_faults (s : State) (o : Out) : (s.emitOut o).faults = s.faults := rfl
@[simp] theorem State.emitOut_service (s : State) (o : Out) : (s.emitOut o).service = s.service := rfl
@[simp] theorem State.emitOut_mode (s : State) (o : Out) : (s.emitOut o).mode = s.mode := rfl
@[simp] theorem State.emitOut_domains (s : State) (o : Out) : (s.emitOut o).domains = s.domains := rfl
@[simp] theorem State.emitOut_fuse (s : State) (o : Out) : (s.emitOut o).fuse = s.fuse := rfl
@[simp] theorem State.emitOut_struct_ (s : State) (o : Out) : (s.emitOut o).struct_ = s.struct_ := rfl
@[simp] theorem State.emitOut_tags (s : State) (o : Out) : (s.emitOut o).tags = s.tags := rfl
@[simp] theorem State.emitOut_ref (s : State) (o : Out) : (s.emitOut o).ref = s.ref := rfl
@[simp] theorem State.emitOut_mains (s : State) (o : Out) : (s.emitOut o).mains = s.mains := rfl
@[simp] theorem State.emitOut_launch (s : State) (o : Out) : (s.emitOut o).launch = s.launch := rfl
@[simp] theorem State.emitOut_sample (s : State) (o : Out) : (s.emitOut o).sample = s.sample := rfl
@[simp] theorem State.emitOut_plc (s : State) (o : Out) : (s.emitOut o).plc = s.plc := rfl
@[simp] theorem State.emitOut_chirp (s : State) (o : Out) : (s.emitOut o).chirp = s.chirp := rfl
@[simp] theorem State.emitOut_radio (s : State) (o : Out) : (s.emitOut o).radio = s.radio := rfl
@[simp] theorem State.emitOut_cipher (s : State) (o : Out) : (s.emitOut o).cipher = s.cipher := rfl
@[simp] theorem State.emitOut_bench (s : State) (o : Out) : (s.emitOut o).bench = s.bench := rfl
@[simp] theorem State.emitOut_txn (s : State) (o : Out) : (s.emitOut o).txn = s.txn := rfl

@[simp] theorem State.setTracker_map (s : State) (p : Nat) (x : Tracker) : (s.setTracker p x).map = s.map := rfl
@[simp] theorem State.setTracker_qmem (s : State) (p : Nat) (x : Tracker) : (s.setTracker p x).qmem = s.qmem := rfl
@[simp] theorem State.setTracker_tick (s : State) (p : Nat) (x : Tracker) : (s.setTracker p x).tick = s.tick := rfl
@[simp] theorem State.setTracker_dt (s : State) (p : Nat) (x : Tracker) : (s.setTracker p x).dt = s.dt := rfl
@[simp] theorem State.setTracker_fresh (s : State) (p : Nat) (x : Tracker) : (s.setTracker p x).fresh = s.fresh := rfl
@[simp] theorem State.setTracker_out (s : State) (p : Nat) (x : Tracker) : (s.setTracker p x).out = s.out := rfl
@[simp] theorem State.setTracker_pending (s : State) (p : Nat) (x : Tracker) : (s.setTracker p x).pending = s.pending := rfl
@[simp] theorem State.setTracker_notices (s : State) (p : Nat) (x : Tracker) : (s.setTracker p x).notices = s.notices := rfl
@[simp] theorem State.setTracker_host (s : State) (p : Nat) (x : Tracker) : (s.setTracker p x).host = s.host := rfl
@[simp] theorem State.setTracker_queues (s : State) (p : Nat) (x : Tracker) : (s.setTracker p x).queues = s.queues := rfl
@[simp] theorem State.setTracker_faults (s : State) (p : Nat) (x : Tracker) : (s.setTracker p x).faults = s.faults := rfl
@[simp] theorem State.setTracker_service (s : State) (p : Nat) (x : Tracker) : (s.setTracker p x).service = s.service := rfl
@[simp] theorem State.setTracker_mode (s : State) (p : Nat) (x : Tracker) : (s.setTracker p x).mode = s.mode := rfl
@[simp] theorem State.setTracker_domains (s : State) (p : Nat) (x : Tracker) : (s.setTracker p x).domains = s.domains := rfl
@[simp] theorem State.setTracker_fuse (s : State) (p : Nat) (x : Tracker) : (s.setTracker p x).fuse = s.fuse := rfl
@[simp] theorem State.setTracker_struct_ (s : State) (p : Nat) (x : Tracker) : (s.setTracker p x).struct_ = s.struct_ := rfl
@[simp] theorem State.setTracker_tags (s : State) (p : Nat) (x : Tracker) : (s.setTracker p x).tags = s.tags := rfl
@[simp] theorem State.setTracker_ref (s : State) (p : Nat) (x : Tracker) : (s.setTracker p x).ref = s.ref := rfl
@[simp] theorem State.setTracker_launch (s : State) (p : Nat) (x : Tracker) : (s.setTracker p x).launch = s.launch := rfl
@[simp] theorem State.setTracker_sample (s : State) (p : Nat) (x : Tracker) : (s.setTracker p x).sample = s.sample := rfl
@[simp] theorem State.setTracker_plc (s : State) (p : Nat) (x : Tracker) : (s.setTracker p x).plc = s.plc := rfl
@[simp] theorem State.setTracker_chirp (s : State) (p : Nat) (x : Tracker) : (s.setTracker p x).chirp = s.chirp := rfl
@[simp] theorem State.setTracker_radio (s : State) (p : Nat) (x : Tracker) : (s.setTracker p x).radio = s.radio := rfl
@[simp] theorem State.setTracker_cipher (s : State) (p : Nat) (x : Tracker) : (s.setTracker p x).cipher = s.cipher := rfl
@[simp] theorem State.setTracker_bench (s : State) (p : Nat) (x : Tracker) : (s.setTracker p x).bench = s.bench := rfl
@[simp] theorem State.setTracker_txn (s : State) (p : Nat) (x : Tracker) : (s.setTracker p x).txn = s.txn := rfl

@[simp] theorem State.setDmaRing_map (s : State) (r : Nat) (x : RingState) : (s.setDmaRing r x).map = s.map := rfl
@[simp] theorem State.setDmaRing_qmem (s : State) (r : Nat) (x : RingState) : (s.setDmaRing r x).qmem = s.qmem := rfl
@[simp] theorem State.setDmaRing_tick (s : State) (r : Nat) (x : RingState) : (s.setDmaRing r x).tick = s.tick := rfl
@[simp] theorem State.setDmaRing_dt (s : State) (r : Nat) (x : RingState) : (s.setDmaRing r x).dt = s.dt := rfl
@[simp] theorem State.setDmaRing_fresh (s : State) (r : Nat) (x : RingState) : (s.setDmaRing r x).fresh = s.fresh := rfl
@[simp] theorem State.setDmaRing_out (s : State) (r : Nat) (x : RingState) : (s.setDmaRing r x).out = s.out := rfl
@[simp] theorem State.setDmaRing_pending (s : State) (r : Nat) (x : RingState) : (s.setDmaRing r x).pending = s.pending := rfl
@[simp] theorem State.setDmaRing_notices (s : State) (r : Nat) (x : RingState) : (s.setDmaRing r x).notices = s.notices := rfl
@[simp] theorem State.setDmaRing_queues (s : State) (r : Nat) (x : RingState) : (s.setDmaRing r x).queues = s.queues := rfl
@[simp] theorem State.setDmaRing_faults (s : State) (r : Nat) (x : RingState) : (s.setDmaRing r x).faults = s.faults := rfl
@[simp] theorem State.setDmaRing_service (s : State) (r : Nat) (x : RingState) : (s.setDmaRing r x).service = s.service := rfl
@[simp] theorem State.setDmaRing_mode (s : State) (r : Nat) (x : RingState) : (s.setDmaRing r x).mode = s.mode := rfl
@[simp] theorem State.setDmaRing_domains (s : State) (r : Nat) (x : RingState) : (s.setDmaRing r x).domains = s.domains := rfl
@[simp] theorem State.setDmaRing_fuse (s : State) (r : Nat) (x : RingState) : (s.setDmaRing r x).fuse = s.fuse := rfl
@[simp] theorem State.setDmaRing_struct_ (s : State) (r : Nat) (x : RingState) : (s.setDmaRing r x).struct_ = s.struct_ := rfl
@[simp] theorem State.setDmaRing_tags (s : State) (r : Nat) (x : RingState) : (s.setDmaRing r x).tags = s.tags := rfl
@[simp] theorem State.setDmaRing_ref (s : State) (r : Nat) (x : RingState) : (s.setDmaRing r x).ref = s.ref := rfl
@[simp] theorem State.setDmaRing_mains (s : State) (r : Nat) (x : RingState) : (s.setDmaRing r x).mains = s.mains := rfl
@[simp] theorem State.setDmaRing_launch (s : State) (r : Nat) (x : RingState) : (s.setDmaRing r x).launch = s.launch := rfl
@[simp] theorem State.setDmaRing_sample (s : State) (r : Nat) (x : RingState) : (s.setDmaRing r x).sample = s.sample := rfl
@[simp] theorem State.setDmaRing_plc (s : State) (r : Nat) (x : RingState) : (s.setDmaRing r x).plc = s.plc := rfl
@[simp] theorem State.setDmaRing_chirp (s : State) (r : Nat) (x : RingState) : (s.setDmaRing r x).chirp = s.chirp := rfl
@[simp] theorem State.setDmaRing_radio (s : State) (r : Nat) (x : RingState) : (s.setDmaRing r x).radio = s.radio := rfl
@[simp] theorem State.setDmaRing_cipher (s : State) (r : Nat) (x : RingState) : (s.setDmaRing r x).cipher = s.cipher := rfl
@[simp] theorem State.setDmaRing_bench (s : State) (r : Nat) (x : RingState) : (s.setDmaRing r x).bench = s.bench := rfl
@[simp] theorem State.setDmaRing_txn (s : State) (r : Nat) (x : RingState) : (s.setDmaRing r x).txn = s.txn := rfl

@[simp] theorem State.setShadows_map (s : State) (a : Nat) (l : List Shadow) : (s.setShadows a l).map = s.map := rfl
@[simp] theorem State.setShadows_qmem (s : State) (a : Nat) (l : List Shadow) : (s.setShadows a l).qmem = s.qmem := rfl
@[simp] theorem State.setShadows_tick (s : State) (a : Nat) (l : List Shadow) : (s.setShadows a l).tick = s.tick := rfl
@[simp] theorem State.setShadows_dt (s : State) (a : Nat) (l : List Shadow) : (s.setShadows a l).dt = s.dt := rfl
@[simp] theorem State.setShadows_fresh (s : State) (a : Nat) (l : List Shadow) : (s.setShadows a l).fresh = s.fresh := rfl
@[simp] theorem State.setShadows_out (s : State) (a : Nat) (l : List Shadow) : (s.setShadows a l).out = s.out := rfl
@[simp] theorem State.setShadows_pending (s : State) (a : Nat) (l : List Shadow) : (s.setShadows a l).pending = s.pending := rfl
@[simp] theorem State.setShadows_notices (s : State) (a : Nat) (l : List Shadow) : (s.setShadows a l).notices = s.notices := rfl
@[simp] theorem State.setShadows_queues (s : State) (a : Nat) (l : List Shadow) : (s.setShadows a l).queues = s.queues := rfl
@[simp] theorem State.setShadows_faults (s : State) (a : Nat) (l : List Shadow) : (s.setShadows a l).faults = s.faults := rfl
@[simp] theorem State.setShadows_service (s : State) (a : Nat) (l : List Shadow) : (s.setShadows a l).service = s.service := rfl
@[simp] theorem State.setShadows_mode (s : State) (a : Nat) (l : List Shadow) : (s.setShadows a l).mode = s.mode := rfl
@[simp] theorem State.setShadows_domains (s : State) (a : Nat) (l : List Shadow) : (s.setShadows a l).domains = s.domains := rfl
@[simp] theorem State.setShadows_fuse (s : State) (a : Nat) (l : List Shadow) : (s.setShadows a l).fuse = s.fuse := rfl
@[simp] theorem State.setShadows_struct_ (s : State) (a : Nat) (l : List Shadow) : (s.setShadows a l).struct_ = s.struct_ := rfl
@[simp] theorem State.setShadows_tags (s : State) (a : Nat) (l : List Shadow) : (s.setShadows a l).tags = s.tags := rfl
@[simp] theorem State.setShadows_ref (s : State) (a : Nat) (l : List Shadow) : (s.setShadows a l).ref = s.ref := rfl
@[simp] theorem State.setShadows_mains (s : State) (a : Nat) (l : List Shadow) : (s.setShadows a l).mains = s.mains := rfl
@[simp] theorem State.setShadows_launch (s : State) (a : Nat) (l : List Shadow) : (s.setShadows a l).launch = s.launch := rfl
@[simp] theorem State.setShadows_sample (s : State) (a : Nat) (l : List Shadow) : (s.setShadows a l).sample = s.sample := rfl
@[simp] theorem State.setShadows_plc (s : State) (a : Nat) (l : List Shadow) : (s.setShadows a l).plc = s.plc := rfl
@[simp] theorem State.setShadows_chirp (s : State) (a : Nat) (l : List Shadow) : (s.setShadows a l).chirp = s.chirp := rfl
@[simp] theorem State.setShadows_radio (s : State) (a : Nat) (l : List Shadow) : (s.setShadows a l).radio = s.radio := rfl
@[simp] theorem State.setShadows_cipher (s : State) (a : Nat) (l : List Shadow) : (s.setShadows a l).cipher = s.cipher := rfl
@[simp] theorem State.setShadows_bench (s : State) (a : Nat) (l : List Shadow) : (s.setShadows a l).bench = s.bench := rfl
@[simp] theorem State.setShadows_txn (s : State) (a : Nat) (l : List Shadow) : (s.setShadows a l).txn = s.txn := rfl

@[simp] theorem State.readOut_map (s : State) (l : List Word) : (s.readOut l).map = s.map := rfl
@[simp] theorem State.readOut_qmem (s : State) (l : List Word) : (s.readOut l).qmem = s.qmem := rfl
@[simp] theorem State.readOut_tick (s : State) (l : List Word) : (s.readOut l).tick = s.tick := rfl
@[simp] theorem State.readOut_dt (s : State) (l : List Word) : (s.readOut l).dt = s.dt := rfl
@[simp] theorem State.readOut_fresh (s : State) (l : List Word) : (s.readOut l).fresh = s.fresh := rfl
@[simp] theorem State.readOut_out (s : State) (l : List Word) : (s.readOut l).out = s.out := rfl
@[simp] theorem State.readOut_pending (s : State) (l : List Word) : (s.readOut l).pending = s.pending := rfl
@[simp] theorem State.readOut_notices (s : State) (l : List Word) : (s.readOut l).notices = s.notices := rfl
@[simp] theorem State.readOut_queues (s : State) (l : List Word) : (s.readOut l).queues = s.queues := rfl
@[simp] theorem State.readOut_faults (s : State) (l : List Word) : (s.readOut l).faults = s.faults := rfl
@[simp] theorem State.readOut_service (s : State) (l : List Word) : (s.readOut l).service = s.service := rfl
@[simp] theorem State.readOut_mode (s : State) (l : List Word) : (s.readOut l).mode = s.mode := rfl
@[simp] theorem State.readOut_domains (s : State) (l : List Word) : (s.readOut l).domains = s.domains := rfl
@[simp] theorem State.readOut_fuse (s : State) (l : List Word) : (s.readOut l).fuse = s.fuse := rfl
@[simp] theorem State.readOut_struct_ (s : State) (l : List Word) : (s.readOut l).struct_ = s.struct_ := rfl
@[simp] theorem State.readOut_tags (s : State) (l : List Word) : (s.readOut l).tags = s.tags := rfl
@[simp] theorem State.readOut_ref (s : State) (l : List Word) : (s.readOut l).ref = s.ref := rfl
@[simp] theorem State.readOut_mains (s : State) (l : List Word) : (s.readOut l).mains = s.mains := rfl
@[simp] theorem State.readOut_launch (s : State) (l : List Word) : (s.readOut l).launch = s.launch := rfl
@[simp] theorem State.readOut_sample (s : State) (l : List Word) : (s.readOut l).sample = s.sample := rfl
@[simp] theorem State.readOut_plc (s : State) (l : List Word) : (s.readOut l).plc = s.plc := rfl
@[simp] theorem State.readOut_chirp (s : State) (l : List Word) : (s.readOut l).chirp = s.chirp := rfl
@[simp] theorem State.readOut_radio (s : State) (l : List Word) : (s.readOut l).radio = s.radio := rfl
@[simp] theorem State.readOut_cipher (s : State) (l : List Word) : (s.readOut l).cipher = s.cipher := rfl
@[simp] theorem State.readOut_bench (s : State) (l : List Word) : (s.readOut l).bench = s.bench := rfl
@[simp] theorem State.readOut_txn (s : State) (l : List Word) : (s.readOut l).txn = s.txn := rfl

@[simp] theorem State.setQst_map (s : State) (q : Nat) (x : QueueState) : (s.setQst q x).map = s.map := rfl
@[simp] theorem State.setQst_qmem (s : State) (q : Nat) (x : QueueState) : (s.setQst q x).qmem = s.qmem := rfl
@[simp] theorem State.setQst_tick (s : State) (q : Nat) (x : QueueState) : (s.setQst q x).tick = s.tick := rfl
@[simp] theorem State.setQst_dt (s : State) (q : Nat) (x : QueueState) : (s.setQst q x).dt = s.dt := rfl
@[simp] theorem State.setQst_fresh (s : State) (q : Nat) (x : QueueState) : (s.setQst q x).fresh = s.fresh := rfl
@[simp] theorem State.setQst_out (s : State) (q : Nat) (x : QueueState) : (s.setQst q x).out = s.out := rfl
@[simp] theorem State.setQst_pending (s : State) (q : Nat) (x : QueueState) : (s.setQst q x).pending = s.pending := rfl
@[simp] theorem State.setQst_notices (s : State) (q : Nat) (x : QueueState) : (s.setQst q x).notices = s.notices := rfl
@[simp] theorem State.setQst_host (s : State) (q : Nat) (x : QueueState) : (s.setQst q x).host = s.host := rfl
@[simp] theorem State.setQst_faults (s : State) (q : Nat) (x : QueueState) : (s.setQst q x).faults = s.faults := rfl
@[simp] theorem State.setQst_service (s : State) (q : Nat) (x : QueueState) : (s.setQst q x).service = s.service := rfl
@[simp] theorem State.setQst_mode (s : State) (q : Nat) (x : QueueState) : (s.setQst q x).mode = s.mode := rfl
@[simp] theorem State.setQst_domains (s : State) (q : Nat) (x : QueueState) : (s.setQst q x).domains = s.domains := rfl
@[simp] theorem State.setQst_fuse (s : State) (q : Nat) (x : QueueState) : (s.setQst q x).fuse = s.fuse := rfl
@[simp] theorem State.setQst_struct_ (s : State) (q : Nat) (x : QueueState) : (s.setQst q x).struct_ = s.struct_ := rfl
@[simp] theorem State.setQst_tags (s : State) (q : Nat) (x : QueueState) : (s.setQst q x).tags = s.tags := rfl
@[simp] theorem State.setQst_ref (s : State) (q : Nat) (x : QueueState) : (s.setQst q x).ref = s.ref := rfl
@[simp] theorem State.setQst_mains (s : State) (q : Nat) (x : QueueState) : (s.setQst q x).mains = s.mains := rfl
@[simp] theorem State.setQst_launch (s : State) (q : Nat) (x : QueueState) : (s.setQst q x).launch = s.launch := rfl
@[simp] theorem State.setQst_sample (s : State) (q : Nat) (x : QueueState) : (s.setQst q x).sample = s.sample := rfl
@[simp] theorem State.setQst_plc (s : State) (q : Nat) (x : QueueState) : (s.setQst q x).plc = s.plc := rfl
@[simp] theorem State.setQst_chirp (s : State) (q : Nat) (x : QueueState) : (s.setQst q x).chirp = s.chirp := rfl
@[simp] theorem State.setQst_radio (s : State) (q : Nat) (x : QueueState) : (s.setQst q x).radio = s.radio := rfl
@[simp] theorem State.setQst_cipher (s : State) (q : Nat) (x : QueueState) : (s.setQst q x).cipher = s.cipher := rfl
@[simp] theorem State.setQst_bench (s : State) (q : Nat) (x : QueueState) : (s.setQst q x).bench = s.bench := rfl
@[simp] theorem State.setQst_txn (s : State) (q : Nat) (x : QueueState) : (s.setQst q x).txn = s.txn := rfl

@[simp] theorem State.lqUpdate_map (s : State) (i : Nat) (f : LqEntry → LqEntry) : (s.lqUpdate i f).map = s.map := rfl
@[simp] theorem State.lqUpdate_qmem (s : State) (i : Nat) (f : LqEntry → LqEntry) : (s.lqUpdate i f).qmem = s.qmem := rfl
@[simp] theorem State.lqUpdate_tick (s : State) (i : Nat) (f : LqEntry → LqEntry) : (s.lqUpdate i f).tick = s.tick := rfl
@[simp] theorem State.lqUpdate_dt (s : State) (i : Nat) (f : LqEntry → LqEntry) : (s.lqUpdate i f).dt = s.dt := rfl
@[simp] theorem State.lqUpdate_fresh (s : State) (i : Nat) (f : LqEntry → LqEntry) : (s.lqUpdate i f).fresh = s.fresh := rfl
@[simp] theorem State.lqUpdate_out (s : State) (i : Nat) (f : LqEntry → LqEntry) : (s.lqUpdate i f).out = s.out := rfl
@[simp] theorem State.lqUpdate_pending (s : State) (i : Nat) (f : LqEntry → LqEntry) : (s.lqUpdate i f).pending = s.pending := rfl
@[simp] theorem State.lqUpdate_notices (s : State) (i : Nat) (f : LqEntry → LqEntry) : (s.lqUpdate i f).notices = s.notices := rfl
@[simp] theorem State.lqUpdate_host (s : State) (i : Nat) (f : LqEntry → LqEntry) : (s.lqUpdate i f).host = s.host := rfl
@[simp] theorem State.lqUpdate_queues (s : State) (i : Nat) (f : LqEntry → LqEntry) : (s.lqUpdate i f).queues = s.queues := rfl
@[simp] theorem State.lqUpdate_faults (s : State) (i : Nat) (f : LqEntry → LqEntry) : (s.lqUpdate i f).faults = s.faults := rfl
@[simp] theorem State.lqUpdate_service (s : State) (i : Nat) (f : LqEntry → LqEntry) : (s.lqUpdate i f).service = s.service := rfl
@[simp] theorem State.lqUpdate_mode (s : State) (i : Nat) (f : LqEntry → LqEntry) : (s.lqUpdate i f).mode = s.mode := rfl
@[simp] theorem State.lqUpdate_domains (s : State) (i : Nat) (f : LqEntry → LqEntry) : (s.lqUpdate i f).domains = s.domains := rfl
@[simp] theorem State.lqUpdate_fuse (s : State) (i : Nat) (f : LqEntry → LqEntry) : (s.lqUpdate i f).fuse = s.fuse := rfl
@[simp] theorem State.lqUpdate_struct_ (s : State) (i : Nat) (f : LqEntry → LqEntry) : (s.lqUpdate i f).struct_ = s.struct_ := rfl
@[simp] theorem State.lqUpdate_tags (s : State) (i : Nat) (f : LqEntry → LqEntry) : (s.lqUpdate i f).tags = s.tags := rfl
@[simp] theorem State.lqUpdate_ref (s : State) (i : Nat) (f : LqEntry → LqEntry) : (s.lqUpdate i f).ref = s.ref := rfl
@[simp] theorem State.lqUpdate_mains (s : State) (i : Nat) (f : LqEntry → LqEntry) : (s.lqUpdate i f).mains = s.mains := rfl
@[simp] theorem State.lqUpdate_sample (s : State) (i : Nat) (f : LqEntry → LqEntry) : (s.lqUpdate i f).sample = s.sample := rfl
@[simp] theorem State.lqUpdate_plc (s : State) (i : Nat) (f : LqEntry → LqEntry) : (s.lqUpdate i f).plc = s.plc := rfl
@[simp] theorem State.lqUpdate_chirp (s : State) (i : Nat) (f : LqEntry → LqEntry) : (s.lqUpdate i f).chirp = s.chirp := rfl
@[simp] theorem State.lqUpdate_radio (s : State) (i : Nat) (f : LqEntry → LqEntry) : (s.lqUpdate i f).radio = s.radio := rfl
@[simp] theorem State.lqUpdate_cipher (s : State) (i : Nat) (f : LqEntry → LqEntry) : (s.lqUpdate i f).cipher = s.cipher := rfl
@[simp] theorem State.lqUpdate_bench (s : State) (i : Nat) (f : LqEntry → LqEntry) : (s.lqUpdate i f).bench = s.bench := rfl
@[simp] theorem State.lqUpdate_txn (s : State) (i : Nat) (f : LqEntry → LqEntry) : (s.lqUpdate i f).txn = s.txn := rfl

end Sys2Proof.Machine
end

