-- ==== Sys2Proof/Laws/Notices.lean ====
section
/-! SUPPORT. What a notice, a completion and a mirrored update change: each says once all the fields the operation can write. -/
namespace Sys2Proof.Machine
open Sys2Proof

/-- `hand` writes nothing but map, notices. -/
theorem State.hand_frame (s : State) (n : Notice) : s.hand n = { s with map := (s.hand n).map, notices := (s.hand n).notices } := by
  unfold State.hand; dsimp only; split <;> rfl
@[simp] theorem State.hand_qmem (s : State) (n : Notice) : (s.hand n).qmem = s.qmem := by
  rw [State.hand_frame]
@[simp] theorem State.hand_tick (s : State) (n : Notice) : (s.hand n).tick = s.tick := by
  rw [State.hand_frame]
@[simp] theorem State.hand_dt (s : State) (n : Notice) : (s.hand n).dt = s.dt := by
  rw [State.hand_frame]
@[simp] theorem State.hand_fresh (s : State) (n : Notice) : (s.hand n).fresh = s.fresh := by
  rw [State.hand_frame]
@[simp] theorem State.hand_out (s : State) (n : Notice) : (s.hand n).out = s.out := by
  rw [State.hand_frame]
@[simp] theorem State.hand_pending (s : State) (n : Notice) : (s.hand n).pending = s.pending := by
  rw [State.hand_frame]
@[simp] theorem State.hand_host (s : State) (n : Notice) : (s.hand n).host = s.host := by
  rw [State.hand_frame]
@[simp] theorem State.hand_queues (s : State) (n : Notice) : (s.hand n).queues = s.queues := by
  rw [State.hand_frame]
@[simp] theorem State.hand_faults (s : State) (n : Notice) : (s.hand n).faults = s.faults := by
  rw [State.hand_frame]
@[simp] theorem State.hand_service (s : State) (n : Notice) : (s.hand n).service = s.service := by
  rw [State.hand_frame]
@[simp] theorem State.hand_mode (s : State) (n : Notice) : (s.hand n).mode = s.mode := by
  rw [State.hand_frame]
@[simp] theorem State.hand_domains (s : State) (n : Notice) : (s.hand n).domains = s.domains := by
  rw [State.hand_frame]
@[simp] theorem State.hand_fuse (s : State) (n : Notice) : (s.hand n).fuse = s.fuse := by
  rw [State.hand_frame]
@[simp] theorem State.hand_struct_ (s : State) (n : Notice) : (s.hand n).struct_ = s.struct_ := by
  rw [State.hand_frame]
@[simp] theorem State.hand_tags (s : State) (n : Notice) : (s.hand n).tags = s.tags := by
  rw [State.hand_frame]
@[simp] theorem State.hand_ref (s : State) (n : Notice) : (s.hand n).ref = s.ref := by
  rw [State.hand_frame]
@[simp] theorem State.hand_mains (s : State) (n : Notice) : (s.hand n).mains = s.mains := by
  rw [State.hand_frame]
@[simp] theorem State.hand_launch (s : State) (n : Notice) : (s.hand n).launch = s.launch := by
  rw [State.hand_frame]
@[simp] theorem State.hand_sample (s : State) (n : Notice) : (s.hand n).sample = s.sample := by
  rw [State.hand_frame]
@[simp] theorem State.hand_plc (s : State) (n : Notice) : (s.hand n).plc = s.plc := by
  rw [State.hand_frame]
@[simp] theorem State.hand_chirp (s : State) (n : Notice) : (s.hand n).chirp = s.chirp := by
  rw [State.hand_frame]
@[simp] theorem State.hand_radio (s : State) (n : Notice) : (s.hand n).radio = s.radio := by
  rw [State.hand_frame]
@[simp] theorem State.hand_cipher (s : State) (n : Notice) : (s.hand n).cipher = s.cipher := by
  rw [State.hand_frame]
@[simp] theorem State.hand_bench (s : State) (n : Notice) : (s.hand n).bench = s.bench := by
  rw [State.hand_frame]
@[simp] theorem State.hand_txn (s : State) (n : Notice) : (s.hand n).txn = s.txn := by
  rw [State.hand_frame]

/-- `mergeSpan` writes nothing but map, notices. -/
theorem State.mergeSpan_frame (s : State) (sp : Span) (n : Notice) : s.mergeSpan sp n = { s with map := (s.mergeSpan sp n).map, notices := (s.mergeSpan sp n).notices } := by
  unfold State.mergeSpan
  dsimp only
  repeat' split
  all_goals first
    | rfl
    | rw [State.hand_frame]
@[simp] theorem State.mergeSpan_qmem (s : State) (sp : Span) (n : Notice) : (s.mergeSpan sp n).qmem = s.qmem := by
  rw [State.mergeSpan_frame]
@[simp] theorem State.mergeSpan_tick (s : State) (sp : Span) (n : Notice) : (s.mergeSpan sp n).tick = s.tick := by
  rw [State.mergeSpan_frame]
@[simp] theorem State.mergeSpan_dt (s : State) (sp : Span) (n : Notice) : (s.mergeSpan sp n).dt = s.dt := by
  rw [State.mergeSpan_frame]
@[simp] theorem State.mergeSpan_fresh (s : State) (sp : Span) (n : Notice) : (s.mergeSpan sp n).fresh = s.fresh := by
  rw [State.mergeSpan_frame]
@[simp] theorem State.mergeSpan_out (s : State) (sp : Span) (n : Notice) : (s.mergeSpan sp n).out = s.out := by
  rw [State.mergeSpan_frame]
@[simp] theorem State.mergeSpan_pending (s : State) (sp : Span) (n : Notice) : (s.mergeSpan sp n).pending = s.pending := by
  rw [State.mergeSpan_frame]
@[simp] theorem State.mergeSpan_host (s : State) (sp : Span) (n : Notice) : (s.mergeSpan sp n).host = s.host := by
  rw [State.mergeSpan_frame]
@[simp] theorem State.mergeSpan_queues (s : State) (sp : Span) (n : Notice) : (s.mergeSpan sp n).queues = s.queues := by
  rw [State.mergeSpan_frame]
@[simp] theorem State.mergeSpan_faults (s : State) (sp : Span) (n : Notice) : (s.mergeSpan sp n).faults = s.faults := by
  rw [State.mergeSpan_frame]
@[simp] theorem State.mergeSpan_service (s : State) (sp : Span) (n : Notice) : (s.mergeSpan sp n).service = s.service := by
  rw [State.mergeSpan_frame]
@[simp] theorem State.mergeSpan_mode (s : State) (sp : Span) (n : Notice) : (s.mergeSpan sp n).mode = s.mode := by
  rw [State.mergeSpan_frame]
@[simp] theorem State.mergeSpan_domains (s : State) (sp : Span) (n : Notice) : (s.mergeSpan sp n).domains = s.domains := by
  rw [State.mergeSpan_frame]
@[simp] theorem State.mergeSpan_fuse (s : State) (sp : Span) (n : Notice) : (s.mergeSpan sp n).fuse = s.fuse := by
  rw [State.mergeSpan_frame]
@[simp] theorem State.mergeSpan_struct_ (s : State) (sp : Span) (n : Notice) : (s.mergeSpan sp n).struct_ = s.struct_ := by
  rw [State.mergeSpan_frame]
@[simp] theorem State.mergeSpan_tags (s : State) (sp : Span) (n : Notice) : (s.mergeSpan sp n).tags = s.tags := by
  rw [State.mergeSpan_frame]
@[simp] theorem State.mergeSpan_ref (s : State) (sp : Span) (n : Notice) : (s.mergeSpan sp n).ref = s.ref := by
  rw [State.mergeSpan_frame]
@[simp] theorem State.mergeSpan_mains (s : State) (sp : Span) (n : Notice) : (s.mergeSpan sp n).mains = s.mains := by
  rw [State.mergeSpan_frame]
@[simp] theorem State.mergeSpan_launch (s : State) (sp : Span) (n : Notice) : (s.mergeSpan sp n).launch = s.launch := by
  rw [State.mergeSpan_frame]
@[simp] theorem State.mergeSpan_sample (s : State) (sp : Span) (n : Notice) : (s.mergeSpan sp n).sample = s.sample := by
  rw [State.mergeSpan_frame]
@[simp] theorem State.mergeSpan_plc (s : State) (sp : Span) (n : Notice) : (s.mergeSpan sp n).plc = s.plc := by
  rw [State.mergeSpan_frame]
@[simp] theorem State.mergeSpan_chirp (s : State) (sp : Span) (n : Notice) : (s.mergeSpan sp n).chirp = s.chirp := by
  rw [State.mergeSpan_frame]
@[simp] theorem State.mergeSpan_radio (s : State) (sp : Span) (n : Notice) : (s.mergeSpan sp n).radio = s.radio := by
  rw [State.mergeSpan_frame]
@[simp] theorem State.mergeSpan_cipher (s : State) (sp : Span) (n : Notice) : (s.mergeSpan sp n).cipher = s.cipher := by
  rw [State.mergeSpan_frame]
@[simp] theorem State.mergeSpan_bench (s : State) (sp : Span) (n : Notice) : (s.mergeSpan sp n).bench = s.bench := by
  rw [State.mergeSpan_frame]
@[simp] theorem State.mergeSpan_txn (s : State) (sp : Span) (n : Notice) : (s.mergeSpan sp n).txn = s.txn := by
  rw [State.mergeSpan_frame]

/-- `firstOccurrence` writes nothing but map, notices. -/
theorem State.firstOccurrence_frame (s : State) (n : Notice) : s.firstOccurrence n = { s with map := (s.firstOccurrence n).map, notices := (s.firstOccurrence n).notices } := by
  unfold State.firstOccurrence
  dsimp only
  split
  · rw [State.hand_frame]
  · unfold State.bump State.setF State.setWord; rw [State.hand_frame]
@[simp] theorem State.firstOccurrence_qmem (s : State) (n : Notice) : (s.firstOccurrence n).qmem = s.qmem := by
  rw [State.firstOccurrence_frame]
@[simp] theorem State.firstOccurrence_tick (s : State) (n : Notice) : (s.firstOccurrence n).tick = s.tick := by
  rw [State.firstOccurrence_frame]
@[simp] theorem State.firstOccurrence_dt (s : State) (n : Notice) : (s.firstOccurrence n).dt = s.dt := by
  rw [State.firstOccurrence_frame]
@[simp] theorem State.firstOccurrence_fresh (s : State) (n : Notice) : (s.firstOccurrence n).fresh = s.fresh := by
  rw [State.firstOccurrence_frame]
@[simp] theorem State.firstOccurrence_out (s : State) (n : Notice) : (s.firstOccurrence n).out = s.out := by
  rw [State.firstOccurrence_frame]
@[simp] theorem State.firstOccurrence_pending (s : State) (n : Notice) : (s.firstOccurrence n).pending = s.pending := by
  rw [State.firstOccurrence_frame]
@[simp] theorem State.firstOccurrence_host (s : State) (n : Notice) : (s.firstOccurrence n).host = s.host := by
  rw [State.firstOccurrence_frame]
@[simp] theorem State.firstOccurrence_queues (s : State) (n : Notice) : (s.firstOccurrence n).queues = s.queues := by
  rw [State.firstOccurrence_frame]
@[simp] theorem State.firstOccurrence_faults (s : State) (n : Notice) : (s.firstOccurrence n).faults = s.faults := by
  rw [State.firstOccurrence_frame]
@[simp] theorem State.firstOccurrence_service (s : State) (n : Notice) : (s.firstOccurrence n).service = s.service := by
  rw [State.firstOccurrence_frame]
@[simp] theorem State.firstOccurrence_mode (s : State) (n : Notice) : (s.firstOccurrence n).mode = s.mode := by
  rw [State.firstOccurrence_frame]
@[simp] theorem State.firstOccurrence_domains (s : State) (n : Notice) : (s.firstOccurrence n).domains = s.domains := by
  rw [State.firstOccurrence_frame]
@[simp] theorem State.firstOccurrence_fuse (s : State) (n : Notice) : (s.firstOccurrence n).fuse = s.fuse := by
  rw [State.firstOccurrence_frame]
@[simp] theorem State.firstOccurrence_struct_ (s : State) (n : Notice) : (s.firstOccurrence n).struct_ = s.struct_ := by
  rw [State.firstOccurrence_frame]
@[simp] theorem State.firstOccurrence_tags (s : State) (n : Notice) : (s.firstOccurrence n).tags = s.tags := by
  rw [State.firstOccurrence_frame]
@[simp] theorem State.firstOccurrence_ref (s : State) (n : Notice) : (s.firstOccurrence n).ref = s.ref := by
  rw [State.firstOccurrence_frame]
@[simp] theorem State.firstOccurrence_mains (s : State) (n : Notice) : (s.firstOccurrence n).mains = s.mains := by
  rw [State.firstOccurrence_frame]
@[simp] theorem State.firstOccurrence_launch (s : State) (n : Notice) : (s.firstOccurrence n).launch = s.launch := by
  rw [State.firstOccurrence_frame]
@[simp] theorem State.firstOccurrence_sample (s : State) (n : Notice) : (s.firstOccurrence n).sample = s.sample := by
  rw [State.firstOccurrence_frame]
@[simp] theorem State.firstOccurrence_plc (s : State) (n : Notice) : (s.firstOccurrence n).plc = s.plc := by
  rw [State.firstOccurrence_frame]
@[simp] theorem State.firstOccurrence_chirp (s : State) (n : Notice) : (s.firstOccurrence n).chirp = s.chirp := by
  rw [State.firstOccurrence_frame]
@[simp] theorem State.firstOccurrence_radio (s : State) (n : Notice) : (s.firstOccurrence n).radio = s.radio := by
  rw [State.firstOccurrence_frame]
@[simp] theorem State.firstOccurrence_cipher (s : State) (n : Notice) : (s.firstOccurrence n).cipher = s.cipher := by
  rw [State.firstOccurrence_frame]
@[simp] theorem State.firstOccurrence_bench (s : State) (n : Notice) : (s.firstOccurrence n).bench = s.bench := by
  rw [State.firstOccurrence_frame]
@[simp] theorem State.firstOccurrence_txn (s : State) (n : Notice) : (s.firstOccurrence n).txn = s.txn := by
  rw [State.firstOccurrence_frame]

/-- `place` writes nothing but map, notices. -/
theorem State.place_frame (s : State) (n : Notice) : s.place n = { s with map := (s.place n).map, notices := (s.place n).notices } := by
  unfold State.place
  split
  · exact State.hand_frame ..
  · split
    · rfl
    · split
      · exact State.mergeSpan_frame ..
      · exact State.firstOccurrence_frame ..
@[simp] theorem State.place_qmem (s : State) (n : Notice) : (s.place n).qmem = s.qmem := by
  rw [State.place_frame]
@[simp] theorem State.place_tick (s : State) (n : Notice) : (s.place n).tick = s.tick := by
  rw [State.place_frame]
@[simp] theorem State.place_dt (s : State) (n : Notice) : (s.place n).dt = s.dt := by
  rw [State.place_frame]
@[simp] theorem State.place_fresh (s : State) (n : Notice) : (s.place n).fresh = s.fresh := by
  rw [State.place_frame]
@[simp] theorem State.place_out (s : State) (n : Notice) : (s.place n).out = s.out := by
  rw [State.place_frame]
@[simp] theorem State.place_pending (s : State) (n : Notice) : (s.place n).pending = s.pending := by
  rw [State.place_frame]
@[simp] theorem State.place_host (s : State) (n : Notice) : (s.place n).host = s.host := by
  rw [State.place_frame]
@[simp] theorem State.place_queues (s : State) (n : Notice) : (s.place n).queues = s.queues := by
  rw [State.place_frame]
@[simp] theorem State.place_faults (s : State) (n : Notice) : (s.place n).faults = s.faults := by
  rw [State.place_frame]
@[simp] theorem State.place_service (s : State) (n : Notice) : (s.place n).service = s.service := by
  rw [State.place_frame]
@[simp] theorem State.place_mode (s : State) (n : Notice) : (s.place n).mode = s.mode := by
  rw [State.place_frame]
@[simp] theorem State.place_domains (s : State) (n : Notice) : (s.place n).domains = s.domains := by
  rw [State.place_frame]
@[simp] theorem State.place_fuse (s : State) (n : Notice) : (s.place n).fuse = s.fuse := by
  rw [State.place_frame]
@[simp] theorem State.place_struct_ (s : State) (n : Notice) : (s.place n).struct_ = s.struct_ := by
  rw [State.place_frame]
@[simp] theorem State.place_tags (s : State) (n : Notice) : (s.place n).tags = s.tags := by
  rw [State.place_frame]
@[simp] theorem State.place_ref (s : State) (n : Notice) : (s.place n).ref = s.ref := by
  rw [State.place_frame]
@[simp] theorem State.place_mains (s : State) (n : Notice) : (s.place n).mains = s.mains := by
  rw [State.place_frame]
@[simp] theorem State.place_launch (s : State) (n : Notice) : (s.place n).launch = s.launch := by
  rw [State.place_frame]
@[simp] theorem State.place_sample (s : State) (n : Notice) : (s.place n).sample = s.sample := by
  rw [State.place_frame]
@[simp] theorem State.place_plc (s : State) (n : Notice) : (s.place n).plc = s.plc := by
  rw [State.place_frame]
@[simp] theorem State.place_chirp (s : State) (n : Notice) : (s.place n).chirp = s.chirp := by
  rw [State.place_frame]
@[simp] theorem State.place_radio (s : State) (n : Notice) : (s.place n).radio = s.radio := by
  rw [State.place_frame]
@[simp] theorem State.place_cipher (s : State) (n : Notice) : (s.place n).cipher = s.cipher := by
  rw [State.place_frame]
@[simp] theorem State.place_bench (s : State) (n : Notice) : (s.place n).bench = s.bench := by
  rw [State.place_frame]
@[simp] theorem State.place_txn (s : State) (n : Notice) : (s.place n).txn = s.txn := by
  rw [State.place_frame]

/-- `noticeAt` writes nothing but map, notices. -/
theorem State.noticeAt_frame (s : State) (t code u : Nat) (p : List (Nat × Nat)) (ext : Nat) : s.noticeAt t code u p ext = { s with map := (s.noticeAt t code u p ext).map, notices := (s.noticeAt t code u p ext).notices } := by
  unfold State.noticeAt; exact State.place_frame ..
@[simp] theorem State.noticeAt_qmem (s : State) (t code u : Nat) (p : List (Nat × Nat)) (ext : Nat) : (s.noticeAt t code u p ext).qmem = s.qmem := by
  rw [State.noticeAt_frame]
@[simp] theorem State.noticeAt_tick (s : State) (t code u : Nat) (p : List (Nat × Nat)) (ext : Nat) : (s.noticeAt t code u p ext).tick = s.tick := by
  rw [State.noticeAt_frame]
@[simp] theorem State.noticeAt_dt (s : State) (t code u : Nat) (p : List (Nat × Nat)) (ext : Nat) : (s.noticeAt t code u p ext).dt = s.dt := by
  rw [State.noticeAt_frame]
@[simp] theorem State.noticeAt_fresh (s : State) (t code u : Nat) (p : List (Nat × Nat)) (ext : Nat) : (s.noticeAt t code u p ext).fresh = s.fresh := by
  rw [State.noticeAt_frame]
@[simp] theorem State.noticeAt_out (s : State) (t code u : Nat) (p : List (Nat × Nat)) (ext : Nat) : (s.noticeAt t code u p ext).out = s.out := by
  rw [State.noticeAt_frame]
@[simp] theorem State.noticeAt_pending (s : State) (t code u : Nat) (p : List (Nat × Nat)) (ext : Nat) : (s.noticeAt t code u p ext).pending = s.pending := by
  rw [State.noticeAt_frame]
@[simp] theorem State.noticeAt_host (s : State) (t code u : Nat) (p : List (Nat × Nat)) (ext : Nat) : (s.noticeAt t code u p ext).host = s.host := by
  rw [State.noticeAt_frame]
@[simp] theorem State.noticeAt_queues (s : State) (t code u : Nat) (p : List (Nat × Nat)) (ext : Nat) : (s.noticeAt t code u p ext).queues = s.queues := by
  rw [State.noticeAt_frame]
@[simp] theorem State.noticeAt_faults (s : State) (t code u : Nat) (p : List (Nat × Nat)) (ext : Nat) : (s.noticeAt t code u p ext).faults = s.faults := by
  rw [State.noticeAt_frame]
@[simp] theorem State.noticeAt_service (s : State) (t code u : Nat) (p : List (Nat × Nat)) (ext : Nat) : (s.noticeAt t code u p ext).service = s.service := by
  rw [State.noticeAt_frame]
@[simp] theorem State.noticeAt_mode (s : State) (t code u : Nat) (p : List (Nat × Nat)) (ext : Nat) : (s.noticeAt t code u p ext).mode = s.mode := by
  rw [State.noticeAt_frame]
@[simp] theorem State.noticeAt_domains (s : State) (t code u : Nat) (p : List (Nat × Nat)) (ext : Nat) : (s.noticeAt t code u p ext).domains = s.domains := by
  rw [State.noticeAt_frame]
@[simp] theorem State.noticeAt_fuse (s : State) (t code u : Nat) (p : List (Nat × Nat)) (ext : Nat) : (s.noticeAt t code u p ext).fuse = s.fuse := by
  rw [State.noticeAt_frame]
@[simp] theorem State.noticeAt_struct_ (s : State) (t code u : Nat) (p : List (Nat × Nat)) (ext : Nat) : (s.noticeAt t code u p ext).struct_ = s.struct_ := by
  rw [State.noticeAt_frame]
@[simp] theorem State.noticeAt_tags (s : State) (t code u : Nat) (p : List (Nat × Nat)) (ext : Nat) : (s.noticeAt t code u p ext).tags = s.tags := by
  rw [State.noticeAt_frame]
@[simp] theorem State.noticeAt_ref (s : State) (t code u : Nat) (p : List (Nat × Nat)) (ext : Nat) : (s.noticeAt t code u p ext).ref = s.ref := by
  rw [State.noticeAt_frame]
@[simp] theorem State.noticeAt_mains (s : State) (t code u : Nat) (p : List (Nat × Nat)) (ext : Nat) : (s.noticeAt t code u p ext).mains = s.mains := by
  rw [State.noticeAt_frame]
@[simp] theorem State.noticeAt_launch (s : State) (t code u : Nat) (p : List (Nat × Nat)) (ext : Nat) : (s.noticeAt t code u p ext).launch = s.launch := by
  rw [State.noticeAt_frame]
@[simp] theorem State.noticeAt_sample (s : State) (t code u : Nat) (p : List (Nat × Nat)) (ext : Nat) : (s.noticeAt t code u p ext).sample = s.sample := by
  rw [State.noticeAt_frame]
@[simp] theorem State.noticeAt_plc (s : State) (t code u : Nat) (p : List (Nat × Nat)) (ext : Nat) : (s.noticeAt t code u p ext).plc = s.plc := by
  rw [State.noticeAt_frame]
@[simp] theorem State.noticeAt_chirp (s : State) (t code u : Nat) (p : List (Nat × Nat)) (ext : Nat) : (s.noticeAt t code u p ext).chirp = s.chirp := by
  rw [State.noticeAt_frame]
@[simp] theorem State.noticeAt_radio (s : State) (t code u : Nat) (p : List (Nat × Nat)) (ext : Nat) : (s.noticeAt t code u p ext).radio = s.radio := by
  rw [State.noticeAt_frame]
@[simp] theorem State.noticeAt_cipher (s : State) (t code u : Nat) (p : List (Nat × Nat)) (ext : Nat) : (s.noticeAt t code u p ext).cipher = s.cipher := by
  rw [State.noticeAt_frame]
@[simp] theorem State.noticeAt_bench (s : State) (t code u : Nat) (p : List (Nat × Nat)) (ext : Nat) : (s.noticeAt t code u p ext).bench = s.bench := by
  rw [State.noticeAt_frame]
@[simp] theorem State.noticeAt_txn (s : State) (t code u : Nat) (p : List (Nat × Nat)) (ext : Nat) : (s.noticeAt t code u p ext).txn = s.txn := by
  rw [State.noticeAt_frame]

/-- `notice` writes nothing but map, notices. -/
theorem State.notice_frame (s : State) (code u : Nat) (p : List (Nat × Nat)) (ext : Nat) : s.notice code u p ext = { s with map := (s.notice code u p ext).map, notices := (s.notice code u p ext).notices } := by
  unfold State.notice; exact State.noticeAt_frame ..
@[simp] theorem State.notice_qmem (s : State) (code u : Nat) (p : List (Nat × Nat)) (ext : Nat) : (s.notice code u p ext).qmem = s.qmem := by
  rw [State.notice_frame]
@[simp] theorem State.notice_tick (s : State) (code u : Nat) (p : List (Nat × Nat)) (ext : Nat) : (s.notice code u p ext).tick = s.tick := by
  rw [State.notice_frame]
@[simp] theorem State.notice_dt (s : State) (code u : Nat) (p : List (Nat × Nat)) (ext : Nat) : (s.notice code u p ext).dt = s.dt := by
  rw [State.notice_frame]
@[simp] theorem State.notice_fresh (s : State) (code u : Nat) (p : List (Nat × Nat)) (ext : Nat) : (s.notice code u p ext).fresh = s.fresh := by
  rw [State.notice_frame]
@[simp] theorem State.notice_out (s : State) (code u : Nat) (p : List (Nat × Nat)) (ext : Nat) : (s.notice code u p ext).out = s.out := by
  rw [State.notice_frame]
@[simp] theorem State.notice_pending (s : State) (code u : Nat) (p : List (Nat × Nat)) (ext : Nat) : (s.notice code u p ext).pending = s.pending := by
  rw [State.notice_frame]
@[simp] theorem State.notice_host (s : State) (code u : Nat) (p : List (Nat × Nat)) (ext : Nat) : (s.notice code u p ext).host = s.host := by
  rw [State.notice_frame]
@[simp] theorem State.notice_queues (s : State) (code u : Nat) (p : List (Nat × Nat)) (ext : Nat) : (s.notice code u p ext).queues = s.queues := by
  rw [State.notice_frame]
@[simp] theorem State.notice_faults (s : State) (code u : Nat) (p : List (Nat × Nat)) (ext : Nat) : (s.notice code u p ext).faults = s.faults := by
  rw [State.notice_frame]
@[simp] theorem State.notice_service (s : State) (code u : Nat) (p : List (Nat × Nat)) (ext : Nat) : (s.notice code u p ext).service = s.service := by
  rw [State.notice_frame]
@[simp] theorem State.notice_mode (s : State) (code u : Nat) (p : List (Nat × Nat)) (ext : Nat) : (s.notice code u p ext).mode = s.mode := by
  rw [State.notice_frame]
@[simp] theorem State.notice_domains (s : State) (code u : Nat) (p : List (Nat × Nat)) (ext : Nat) : (s.notice code u p ext).domains = s.domains := by
  rw [State.notice_frame]
@[simp] theorem State.notice_fuse (s : State) (code u : Nat) (p : List (Nat × Nat)) (ext : Nat) : (s.notice code u p ext).fuse = s.fuse := by
  rw [State.notice_frame]
@[simp] theorem State.notice_struct_ (s : State) (code u : Nat) (p : List (Nat × Nat)) (ext : Nat) : (s.notice code u p ext).struct_ = s.struct_ := by
  rw [State.notice_frame]
@[simp] theorem State.notice_tags (s : State) (code u : Nat) (p : List (Nat × Nat)) (ext : Nat) : (s.notice code u p ext).tags = s.tags := by
  rw [State.notice_frame]
@[simp] theorem State.notice_ref (s : State) (code u : Nat) (p : List (Nat × Nat)) (ext : Nat) : (s.notice code u p ext).ref = s.ref := by
  rw [State.notice_frame]
@[simp] theorem State.notice_mains (s : State) (code u : Nat) (p : List (Nat × Nat)) (ext : Nat) : (s.notice code u p ext).mains = s.mains := by
  rw [State.notice_frame]
@[simp] theorem State.notice_launch (s : State) (code u : Nat) (p : List (Nat × Nat)) (ext : Nat) : (s.notice code u p ext).launch = s.launch := by
  rw [State.notice_frame]
@[simp] theorem State.notice_sample (s : State) (code u : Nat) (p : List (Nat × Nat)) (ext : Nat) : (s.notice code u p ext).sample = s.sample := by
  rw [State.notice_frame]
@[simp] theorem State.notice_plc (s : State) (code u : Nat) (p : List (Nat × Nat)) (ext : Nat) : (s.notice code u p ext).plc = s.plc := by
  rw [State.notice_frame]
@[simp] theorem State.notice_chirp (s : State) (code u : Nat) (p : List (Nat × Nat)) (ext : Nat) : (s.notice code u p ext).chirp = s.chirp := by
  rw [State.notice_frame]
@[simp] theorem State.notice_radio (s : State) (code u : Nat) (p : List (Nat × Nat)) (ext : Nat) : (s.notice code u p ext).radio = s.radio := by
  rw [State.notice_frame]
@[simp] theorem State.notice_cipher (s : State) (code u : Nat) (p : List (Nat × Nat)) (ext : Nat) : (s.notice code u p ext).cipher = s.cipher := by
  rw [State.notice_frame]
@[simp] theorem State.notice_bench (s : State) (code u : Nat) (p : List (Nat × Nat)) (ext : Nat) : (s.notice code u p ext).bench = s.bench := by
  rw [State.notice_frame]
@[simp] theorem State.notice_txn (s : State) (code u : Nat) (p : List (Nat × Nat)) (ext : Nat) : (s.notice code u p ext).txn = s.txn := by
  rw [State.notice_frame]

/-- `complete` writes nothing but host, notices. -/
theorem State.complete_frame (s : State) (c : Cmd) (op st : Nat) (res : List Word) : s.complete c op st res = { s with host := (s.complete c op st res).host, notices := (s.complete c op st res).notices } := by
  unfold State.complete; split
  · rfl
  · split <;> rfl
@[simp] theorem State.complete_map (s : State) (c : Cmd) (op st : Nat) (res : List Word) : (s.complete c op st res).map = s.map := by
  rw [State.complete_frame]
@[simp] theorem State.complete_qmem (s : State) (c : Cmd) (op st : Nat) (res : List Word) : (s.complete c op st res).qmem = s.qmem := by
  rw [State.complete_frame]
@[simp] theorem State.complete_tick (s : State) (c : Cmd) (op st : Nat) (res : List Word) : (s.complete c op st res).tick = s.tick := by
  rw [State.complete_frame]
@[simp] theorem State.complete_dt (s : State) (c : Cmd) (op st : Nat) (res : List Word) : (s.complete c op st res).dt = s.dt := by
  rw [State.complete_frame]
@[simp] theorem State.complete_fresh (s : State) (c : Cmd) (op st : Nat) (res : List Word) : (s.complete c op st res).fresh = s.fresh := by
  rw [State.complete_frame]
@[simp] theorem State.complete_out (s : State) (c : Cmd) (op st : Nat) (res : List Word) : (s.complete c op st res).out = s.out := by
  rw [State.complete_frame]
@[simp] theorem State.complete_pending (s : State) (c : Cmd) (op st : Nat) (res : List Word) : (s.complete c op st res).pending = s.pending := by
  rw [State.complete_frame]
@[simp] theorem State.complete_queues (s : State) (c : Cmd) (op st : Nat) (res : List Word) : (s.complete c op st res).queues = s.queues := by
  rw [State.complete_frame]
@[simp] theorem State.complete_faults (s : State) (c : Cmd) (op st : Nat) (res : List Word) : (s.complete c op st res).faults = s.faults := by
  rw [State.complete_frame]
@[simp] theorem State.complete_service (s : State) (c : Cmd) (op st : Nat) (res : List Word) : (s.complete c op st res).service = s.service := by
  rw [State.complete_frame]
@[simp] theorem State.complete_mode (s : State) (c : Cmd) (op st : Nat) (res : List Word) : (s.complete c op st res).mode = s.mode := by
  rw [State.complete_frame]
@[simp] theorem State.complete_domains (s : State) (c : Cmd) (op st : Nat) (res : List Word) : (s.complete c op st res).domains = s.domains := by
  rw [State.complete_frame]
@[simp] theorem State.complete_fuse (s : State) (c : Cmd) (op st : Nat) (res : List Word) : (s.complete c op st res).fuse = s.fuse := by
  rw [State.complete_frame]
@[simp] theorem State.complete_struct_ (s : State) (c : Cmd) (op st : Nat) (res : List Word) : (s.complete c op st res).struct_ = s.struct_ := by
  rw [State.complete_frame]
@[simp] theorem State.complete_tags (s : State) (c : Cmd) (op st : Nat) (res : List Word) : (s.complete c op st res).tags = s.tags := by
  rw [State.complete_frame]
@[simp] theorem State.complete_ref (s : State) (c : Cmd) (op st : Nat) (res : List Word) : (s.complete c op st res).ref = s.ref := by
  rw [State.complete_frame]
@[simp] theorem State.complete_mains (s : State) (c : Cmd) (op st : Nat) (res : List Word) : (s.complete c op st res).mains = s.mains := by
  rw [State.complete_frame]
@[simp] theorem State.complete_launch (s : State) (c : Cmd) (op st : Nat) (res : List Word) : (s.complete c op st res).launch = s.launch := by
  rw [State.complete_frame]
@[simp] theorem State.complete_sample (s : State) (c : Cmd) (op st : Nat) (res : List Word) : (s.complete c op st res).sample = s.sample := by
  rw [State.complete_frame]
@[simp] theorem State.complete_plc (s : State) (c : Cmd) (op st : Nat) (res : List Word) : (s.complete c op st res).plc = s.plc := by
  rw [State.complete_frame]
@[simp] theorem State.complete_chirp (s : State) (c : Cmd) (op st : Nat) (res : List Word) : (s.complete c op st res).chirp = s.chirp := by
  rw [State.complete_frame]
@[simp] theorem State.complete_radio (s : State) (c : Cmd) (op st : Nat) (res : List Word) : (s.complete c op st res).radio = s.radio := by
  rw [State.complete_frame]
@[simp] theorem State.complete_cipher (s : State) (c : Cmd) (op st : Nat) (res : List Word) : (s.complete c op st res).cipher = s.cipher := by
  rw [State.complete_frame]
@[simp] theorem State.complete_bench (s : State) (c : Cmd) (op st : Nat) (res : List Word) : (s.complete c op st res).bench = s.bench := by
  rw [State.complete_frame]
@[simp] theorem State.complete_txn (s : State) (c : Cmd) (op st : Nat) (res : List Word) : (s.complete c op st res).txn = s.txn := by
  rw [State.complete_frame]

/-- `mirror` writes nothing but bench. -/
theorem State.mirror_frame (s : State) (r : TwinRecord) : s.mirror r = { s with bench := (s.mirror r).bench } := by
  unfold State.mirror; split <;> rfl
@[simp] theorem State.mirror_map (s : State) (r : TwinRecord) : (s.mirror r).map = s.map := by
  rw [State.mirror_frame]
@[simp] theorem State.mirror_qmem (s : State) (r : TwinRecord) : (s.mirror r).qmem = s.qmem := by
  rw [State.mirror_frame]
@[simp] theorem State.mirror_tick (s : State) (r : TwinRecord) : (s.mirror r).tick = s.tick := by
  rw [State.mirror_frame]
@[simp] theorem State.mirror_dt (s : State) (r : TwinRecord) : (s.mirror r).dt = s.dt := by
  rw [State.mirror_frame]
@[simp] theorem State.mirror_fresh (s : State) (r : TwinRecord) : (s.mirror r).fresh = s.fresh := by
  rw [State.mirror_frame]
@[simp] theorem State.mirror_out (s : State) (r : TwinRecord) : (s.mirror r).out = s.out := by
  rw [State.mirror_frame]
@[simp] theorem State.mirror_pending (s : State) (r : TwinRecord) : (s.mirror r).pending = s.pending := by
  rw [State.mirror_frame]
@[simp] theorem State.mirror_notices (s : State) (r : TwinRecord) : (s.mirror r).notices = s.notices := by
  rw [State.mirror_frame]
@[simp] theorem State.mirror_host (s : State) (r : TwinRecord) : (s.mirror r).host = s.host := by
  rw [State.mirror_frame]
@[simp] theorem State.mirror_queues (s : State) (r : TwinRecord) : (s.mirror r).queues = s.queues := by
  rw [State.mirror_frame]
@[simp] theorem State.mirror_faults (s : State) (r : TwinRecord) : (s.mirror r).faults = s.faults := by
  rw [State.mirror_frame]
@[simp] theorem State.mirror_service (s : State) (r : TwinRecord) : (s.mirror r).service = s.service := by
  rw [State.mirror_frame]
@[simp] theorem State.mirror_mode (s : State) (r : TwinRecord) : (s.mirror r).mode = s.mode := by
  rw [State.mirror_frame]
@[simp] theorem State.mirror_domains (s : State) (r : TwinRecord) : (s.mirror r).domains = s.domains := by
  rw [State.mirror_frame]
@[simp] theorem State.mirror_fuse (s : State) (r : TwinRecord) : (s.mirror r).fuse = s.fuse := by
  rw [State.mirror_frame]
@[simp] theorem State.mirror_struct_ (s : State) (r : TwinRecord) : (s.mirror r).struct_ = s.struct_ := by
  rw [State.mirror_frame]
@[simp] theorem State.mirror_tags (s : State) (r : TwinRecord) : (s.mirror r).tags = s.tags := by
  rw [State.mirror_frame]
@[simp] theorem State.mirror_ref (s : State) (r : TwinRecord) : (s.mirror r).ref = s.ref := by
  rw [State.mirror_frame]
@[simp] theorem State.mirror_mains (s : State) (r : TwinRecord) : (s.mirror r).mains = s.mains := by
  rw [State.mirror_frame]
@[simp] theorem State.mirror_launch (s : State) (r : TwinRecord) : (s.mirror r).launch = s.launch := by
  rw [State.mirror_frame]
@[simp] theorem State.mirror_sample (s : State) (r : TwinRecord) : (s.mirror r).sample = s.sample := by
  rw [State.mirror_frame]
@[simp] theorem State.mirror_plc (s : State) (r : TwinRecord) : (s.mirror r).plc = s.plc := by
  rw [State.mirror_frame]
@[simp] theorem State.mirror_chirp (s : State) (r : TwinRecord) : (s.mirror r).chirp = s.chirp := by
  rw [State.mirror_frame]
@[simp] theorem State.mirror_radio (s : State) (r : TwinRecord) : (s.mirror r).radio = s.radio := by
  rw [State.mirror_frame]
@[simp] theorem State.mirror_cipher (s : State) (r : TwinRecord) : (s.mirror r).cipher = s.cipher := by
  rw [State.mirror_frame]
@[simp] theorem State.mirror_txn (s : State) (r : TwinRecord) : (s.mirror r).txn = s.txn := by
  rw [State.mirror_frame]

end Sys2Proof.Machine
end

