-- ==== Sys2Proof/Laws/Memory.lean ====
section
/-! SUPPORT. The laws of the sparse memories: a read after a write, the other addresses, and the canonical form kept. -/
namespace Sys2Proof.Machine
open Sys2Proof

section
variable {α : Type}

theorem Memory.read_insert_same (d : Nat → α) (l : List (Nat × α)) (a : Nat) (v : α) :
    Memory.read d (Memory.insert l a v) a = v := by
  induction l with
  | nil => simp [Memory.insert, Memory.read]
  | cons c t ih =>
    obtain ⟨k, w⟩ := c
    unfold Memory.insert
    split
    · simp [Memory.read]
    · split
      · simp [Memory.read]
      · simp [Memory.read, *]

theorem Memory.read_insert_other (d : Nat → α) (l : List (Nat × α)) (a b : Nat) (v : α) (h : b ≠ a) :
    Memory.read d (Memory.insert l a v) b = Memory.read d l b := by
  induction l with
  | nil => simp [Memory.insert, Memory.read, Ne.symm h]
  | cons c t ih =>
    obtain ⟨k, w⟩ := c
    unfold Memory.insert
    split
    · rename_i e; subst e; simp [Memory.read, Ne.symm h]
    · split
      · simp [Memory.read, Ne.symm h]
      · simp only [Memory.read, ih]

theorem Memory.read_erase_other (d : Nat → α) (l : List (Nat × α)) (a b : Nat) (h : b ≠ a) :
    Memory.read d (Memory.erase l a) b = Memory.read d l b := by
  induction l with
  | nil => rfl
  | cons c t ih =>
    obtain ⟨k, w⟩ := c
    unfold Memory.erase
    split
    · rename_i e; subst e; simp [Memory.read, Ne.symm h]
    · simp only [Memory.read, ih]

/-- Below the first cell nothing is listed. -/
theorem Memory.read_below (d : Nat → α) (l : List (Nat × α)) (b a : Nat) (h : Memory.rising b l = true) (ha : a < b) :
    Memory.read d l a = d a := by
  induction l generalizing b with
  | nil => rfl
  | cons c t ih =>
    obtain ⟨k, w⟩ := c
    simp only [Memory.rising, Bool.and_eq_true, decide_eq_true_eq] at h
    have : k ≠ a := by omega
    simp only [Memory.read, this, if_false]
    exact ih (k + 1) h.2 (by omega)

theorem Memory.read_erase_same (d : Nat → α) (l : List (Nat × α)) (b a : Nat) (h : Memory.rising b l = true) :
    Memory.read d (Memory.erase l a) a = d a := by
  induction l generalizing b with
  | nil => rfl
  | cons c t ih =>
    obtain ⟨k, w⟩ := c
    simp only [Memory.rising, Bool.and_eq_true, decide_eq_true_eq] at h
    unfold Memory.erase
    split
    · rename_i e; subst e; exact Memory.read_below d t (k + 1) k h.2 (by omega)
    · rename_i e; simp only [Memory.read, e, if_false]; exact ih (k + 1) h.2

theorem Memory.rising_mono (l : List (Nat × α)) (b c : Nat) (h : Memory.rising b l = true) (hc : c ≤ b) :
    Memory.rising c l = true := by
  cases l with
  | nil => rfl
  | cons x t =>
    simp only [Memory.rising, Bool.and_eq_true, decide_eq_true_eq] at h ⊢
    exact ⟨by omega, h.2⟩

theorem Memory.rising_erase (l : List (Nat × α)) (b a : Nat) (h : Memory.rising b l = true) :
    Memory.rising b (Memory.erase l a) = true := by
  induction l generalizing b with
  | nil => rfl
  | cons c t ih =>
    obtain ⟨k, w⟩ := c
    simp only [Memory.rising, Bool.and_eq_true, decide_eq_true_eq] at h
    unfold Memory.erase
    split
    · exact Memory.rising_mono t (k + 1) b h.2 (by omega)
    · simp only [Memory.rising, Bool.and_eq_true, decide_eq_true_eq]; exact ⟨h.1, ih (k + 1) h.2⟩

theorem Memory.rising_insert (l : List (Nat × α)) (b a : Nat) (v : α) (h : Memory.rising b l = true) (ha : b ≤ a) :
    Memory.rising b (Memory.insert l a v) = true := by
  induction l generalizing b with
  | nil => simp [Memory.insert, Memory.rising, ha]
  | cons c t ih =>
    obtain ⟨k, w⟩ := c
    simp only [Memory.rising, Bool.and_eq_true, decide_eq_true_eq] at h
    unfold Memory.insert
    split
    · rename_i e; subst e; simp only [Memory.rising, Bool.and_eq_true, decide_eq_true_eq]; exact ⟨ha, h.2⟩
    · split
      · simp only [Memory.rising, Bool.and_eq_true, decide_eq_true_eq]
        exact ⟨ha, by omega, h.2⟩
      · simp only [Memory.rising, Bool.and_eq_true, decide_eq_true_eq]
        exact ⟨h.1, ih (k + 1) h.2 (by omega)⟩

variable [DecidableEq α]

theorem Memory.all_erase (d : Nat → α) (l : List (Nat × α)) (a : Nat)
    (h : (l.all fun c => decide (c.2 ≠ d c.1)) = true) : ((Memory.erase l a).all fun c => decide (c.2 ≠ d c.1)) = true := by
  induction l with
  | nil => rfl
  | cons c t ih =>
    obtain ⟨k, w⟩ := c
    simp only [List.all_cons, Bool.and_eq_true] at h
    unfold Memory.erase
    split
    · exact h.2
    · simp only [List.all_cons, Bool.and_eq_true]; exact ⟨h.1, ih h.2⟩

theorem Memory.all_insert (d : Nat → α) (l : List (Nat × α)) (a : Nat) (v : α) (hv : v ≠ d a)
    (h : (l.all fun c => decide (c.2 ≠ d c.1)) = true) :
    ((Memory.insert l a v).all fun c => decide (c.2 ≠ d c.1)) = true := by
  induction l with
  | nil => simp [Memory.insert, hv]
  | cons c t ih =>
    obtain ⟨k, w⟩ := c
    simp only [List.all_cons, Bool.and_eq_true] at h
    unfold Memory.insert
    split
    · simp only [List.all_cons, Bool.and_eq_true]; exact ⟨by simp [hv], h.2⟩
    · split
      · simp only [List.all_cons, Bool.and_eq_true]; exact ⟨by simp [hv], h⟩
      · simp only [List.all_cons, Bool.and_eq_true]; exact ⟨h.1, ih h.2⟩

/-- A write keeps the canonical form. -/
theorem Memory.wf_write (d : Nat → α) (l : List (Nat × α)) (a : Nat) (v : α) (h : Memory.wf d l = true) :
    Memory.wf d (Memory.write d l a v) = true := by
  simp only [Memory.wf, Bool.and_eq_true] at h ⊢
  unfold Memory.write
  split
  · exact ⟨Memory.rising_erase l 0 a h.1, Memory.all_erase d l a h.2⟩
  · rename_i hv; exact ⟨Memory.rising_insert l 0 a v h.1 (Nat.zero_le _), Memory.all_insert d l a v hv h.2⟩

/-- A read after a write of the same address gives the value written, where the memory is canonical. -/
theorem Memory.read_write_same (d : Nat → α) (l : List (Nat × α)) (a : Nat) (v : α) (h : Memory.wf d l = true) :
    Memory.read d (Memory.write d l a v) a = v := by
  simp only [Memory.wf, Bool.and_eq_true] at h
  unfold Memory.write
  split
  · rename_i e; rw [Memory.read_erase_same d l 0 a h.1, e]
  · exact Memory.read_insert_same d l a v

/-- A write leaves every other address alone. -/
theorem Memory.read_write_other (d : Nat → α) (l : List (Nat × α)) (a b : Nat) (v : α) (h : b ≠ a) :
    Memory.read d (Memory.write d l a v) b = Memory.read d l b := by
  unfold Memory.write
  split
  · exact Memory.read_erase_other d l a b h
  · exact Memory.read_insert_other d l a b v h
end

end Sys2Proof.Machine
end

