-- ==== Sys2Proof/WellFormed.lean ====
section
/-! DEFINITION. Which commands and events can come to the block at all: the sizes and ranges the spec gives the operands
that a plain number or list does not already bound. A value the device itself answers with a status (an unknown address, a
count out of range) is well formed: its meaning gives the status. -/
namespace Sys2Proof

/-- A list no longer than `n`. -/
def shortList {α : Type} (n : Nat) (l : List α) : Bool := decide (l.length ≤ n)

/-- A character or link frame of `n` bytes. -/
def hasLen {α : Type} (n : Nat) (l : List α) : Bool := l.length == n

/-- The bits of a number fit in `n`. -/
def fits (n v : Nat) : Bool := decide (v < 2 ^ n)

/-- What a host memory read returns fits in one read of `n` bytes. -/
def HostAnswer.wf (n : Nat) : HostAnswer → Bool
  | .data b => shortList n b
  | .failed => true

/-- A decoded power-line frame: at most 2,048 bytes. -/
def PlcRx.wf (r : PlcRx) : Bool :=
  match r.psdu with
  | some b => shortList 2048 b
  | none => true

/-- Symbol values of chirps of at most 2^12 chips (R196). -/
def chirpValues (l : List Nat) : Bool := l.all (fits 12)

/-- The decided symbols of a chirp frame's further blocks. -/
def ChirpRx.wf (r : ChirpRx) : Bool := chirpValues r.values

/-- The well-formed commands and events. -/
def Instr.wf : Instr → Bool
  | .nop _ p => shortList 10 p
  | .write _ _ d => shortList 13 d
  | .writeBlock _ _ _ _ a => a.wf (2 ^ 20)
  | .enqueue _ _ _ d => shortList 13 d
  | .launch _ e => shortList 14 e
  | .launchCancel _ e _ => shortList 14 e
  | .routeInsert _ w => shortList 14 w
  | .keyLoad _ r => shortList 15 r
  | .cipher _ r => shortList 15 r
  | .txnOpen _ p => shortList 15 p
  | .txnAdd _ p => shortList 15 p
  | .txnCommit _ p => shortList 15 p
  | .txnAbort _ p => shortList 15 p
  | .txnStatus _ p => shortList 15 p
  | .memberReset _ p => shortList 15 p
  | .remoteRead _ _ p => shortList 15 p
  | .remoteWrite _ _ p => shortList 15 p
  | .handover _ p => shortList 15 p
  | .ledgerWrite _ _ d => shortList 8 d
  | .ppsEdge i _ => decide (i < 2)
  | .todSentence i ch => decide (i < 2) && shortList 82 ch
  | .rfRxFrame _ ch => shortList 384 ch
  | .plcFrameDue _ _ r => r.wf
  | .plcAckRx _ _ b => shortList 2048 b
  | .chirpFrameDue _ r => r.wf
  | .firstBlockDecided _ v => hasLen 8 v && chirpValues v
  | .sampleCell _ _ k l => fits 48 k && hasLen 8 l
  | .cardAtr _ _ a p => shortList 33 a && shortList 6 p
  | .commandFetch _ a => a.wf 64
  | .descriptorFetch _ a => a.wf (32 * 16)
  | .dmaToQueue _ a => a.wf (2 ^ 20)
  | .hostLinkState sp w => fits 4 sp && fits 6 w
  | .writeSingleBlock _ _ d => hasLen 32 d
  | .extendedWriteSingleBlock _ _ d => hasLen 32 d
  | .multiframe m => decide (m < 100)
  | _ => true

end Sys2Proof
end

