-- ==== Sys2Proof/Laws/PerInstr.lean ====
section
/-! SUPPORT. Family `Operands`: a well-formed host command fits its command record of 16 words (R303), the first word of
which is the header. -/
namespace Sys2Proof.Laws

/-- Words of a command record an instruction takes after its header word; none where it is no host command. -/
def recordWords : Instr → Nat
  | .nop _ w => w.length
  | .write _ _ w => w.length
  | .enqueue _ _ _ w => w.length
  | .launch _ w => w.length
  | .launchCancel _ w _ => w.length
  | .routeInsert _ w => w.length
  | .keyLoad _ w => w.length
  | .cipher _ w => w.length
  | .txnOpen _ w => w.length
  | .txnAdd _ w => w.length
  | .txnCommit _ w => w.length
  | .txnAbort _ w => w.length
  | .txnStatus _ w => w.length
  | .memberReset _ w => w.length
  | .remoteRead _ _ w => w.length
  | .remoteWrite _ _ w => w.length
  | .handover _ w => w.length
  | .ledgerWrite _ _ w => w.length
  | _ => 0

/-- The family's statement. -/
def Operands.Statement (i : Instr) : Prop := i.wf = true → recordWords i ≤ 15

theorem shortList_le {α : Type} {m n : Nat} {l : List α} (hm : m ≤ n) (h : shortList m l = true) : l.length ≤ n :=
  Nat.le_trans (of_decide_eq_true h) hm

theorem Operands.nop : ∀ a0 a1, Operands.Statement (.nop a0 a1) := fun _ _ h => shortList_le (by decide) h
theorem Operands.read : ∀ a0 a1 a2, Operands.Statement (.read a0 a1 a2) := fun _ _ _ _ => Nat.zero_le _
theorem Operands.write : ∀ a0 a1 a2, Operands.Statement (.write a0 a1 a2) := fun _ _ _ h => shortList_le (by decide) h
theorem Operands.readBlock : ∀ a0 a1 a2 a3, Operands.Statement (.readBlock a0 a1 a2 a3) := fun _ _ _ _ _ => Nat.zero_le _
theorem Operands.writeBlock : ∀ a0 a1 a2 a3 a4, Operands.Statement (.writeBlock a0 a1 a2 a3 a4) := fun _ _ _ _ _ _ => Nat.zero_le _
theorem Operands.enqueue : ∀ a0 a1 a2 a3, Operands.Statement (.enqueue a0 a1 a2 a3) := fun _ _ _ _ h => shortList_le (by decide) h
theorem Operands.launch : ∀ a0 a1, Operands.Statement (.launch a0 a1) := fun _ _ h => shortList_le (by decide) h
theorem Operands.launchCancel : ∀ a0 a1 a2, Operands.Statement (.launchCancel a0 a1 a2) := fun _ _ _ h => shortList_le (by decide) h
theorem Operands.routeInsert : ∀ a0 a1, Operands.Statement (.routeInsert a0 a1) := fun _ _ h => shortList_le (by decide) h
theorem Operands.routeRemove : ∀ a0 a1, Operands.Statement (.routeRemove a0 a1) := fun _ _ _ => Nat.zero_le _
theorem Operands.keyLoad : ∀ a0 a1, Operands.Statement (.keyLoad a0 a1) := fun _ _ h => shortList_le (by decide) h
theorem Operands.cipher : ∀ a0 a1, Operands.Statement (.cipher a0 a1) := fun _ _ h => shortList_le (by decide) h
theorem Operands.loadImage : ∀ a0 a1 a2, Operands.Statement (.loadImage a0 a1 a2) := fun _ _ _ _ => Nat.zero_le _
theorem Operands.fullReset : ∀ a0, Operands.Statement (.fullReset a0) := fun _ _ => Nat.zero_le _
theorem Operands.txnOpen : ∀ a0 a1, Operands.Statement (.txnOpen a0 a1) := fun _ _ h => shortList_le (by decide) h
theorem Operands.txnAdd : ∀ a0 a1, Operands.Statement (.txnAdd a0 a1) := fun _ _ h => shortList_le (by decide) h
theorem Operands.txnCommit : ∀ a0 a1, Operands.Statement (.txnCommit a0 a1) := fun _ _ h => shortList_le (by decide) h
theorem Operands.txnAbort : ∀ a0 a1, Operands.Statement (.txnAbort a0 a1) := fun _ _ h => shortList_le (by decide) h
theorem Operands.txnStatus : ∀ a0 a1, Operands.Statement (.txnStatus a0 a1) := fun _ _ h => shortList_le (by decide) h
theorem Operands.memberReset : ∀ a0 a1, Operands.Statement (.memberReset a0 a1) := fun _ _ h => shortList_le (by decide) h
theorem Operands.remoteRead : ∀ a0 a1 a2, Operands.Statement (.remoteRead a0 a1 a2) := fun _ _ _ h => shortList_le (by decide) h
theorem Operands.remoteWrite : ∀ a0 a1 a2, Operands.Statement (.remoteWrite a0 a1 a2) := fun _ _ _ h => shortList_le (by decide) h
theorem Operands.handover : ∀ a0 a1, Operands.Statement (.handover a0 a1) := fun _ _ h => shortList_le (by decide) h
theorem Operands.ledgerRead : ∀ a0 a1, Operands.Statement (.ledgerRead a0 a1) := fun _ _ _ => Nat.zero_le _
theorem Operands.ledgerWrite : ∀ a0 a1 a2, Operands.Statement (.ledgerWrite a0 a1 a2) := fun _ _ _ h => shortList_le (by decide) h
theorem Operands.faultClose : ∀ a0 a1, Operands.Statement (.faultClose a0 a1) := fun _ _ _ => Nat.zero_le _
theorem Operands.reqRun : ∀ a0 a1, Operands.Statement (.reqRun a0 a1) := fun _ _ _ => Nat.zero_le _
theorem Operands.reqQuiet : ∀ a0, Operands.Statement (.reqQuiet a0) := fun _ _ => Nat.zero_le _
theorem Operands.reqShadow : ∀ a0, Operands.Statement (.reqShadow a0) := fun _ _ => Nat.zero_le _
theorem Operands.reqDrain : ∀ a0, Operands.Statement (.reqDrain a0) := fun _ _ => Nat.zero_le _
theorem Operands.faultAck : ∀ a0, Operands.Statement (.faultAck a0) := fun _ _ => Nat.zero_le _
theorem Operands.optagHwClear : ∀ a0, Operands.Statement (.optagHwClear a0) := fun _ _ => Nat.zero_le _
theorem Operands.poolHwClear : ∀ a0, Operands.Statement (.poolHwClear a0) := fun _ _ => Nat.zero_le _
theorem Operands.abortinfoClear : ∀ a0 a1, Operands.Statement (.abortinfoClear a0 a1) := fun _ _ _ => Nat.zero_le _
theorem Operands.counterClear : ∀ a0 a1 a2, Operands.Statement (.counterClear a0 a1 a2) := fun _ _ _ _ => Nat.zero_le _
theorem Operands.w1cClear : ∀ a0 a1 a2 a3, Operands.Statement (.w1cClear a0 a1 a2 a3) := fun _ _ _ _ _ => Nat.zero_le _
theorem Operands.registerWrite : ∀ a0 a1 a2, Operands.Statement (.registerWrite a0 a1 a2) := fun _ _ _ _ => Nat.zero_le _
theorem Operands.fuseArm : ∀ a0, Operands.Statement (.fuseArm a0) := fun _ _ => Nat.zero_le _
theorem Operands.fuseBlow : ∀ a0, Operands.Statement (.fuseBlow a0) := fun _ _ => Nat.zero_le _
theorem Operands.fuseProgramDone : Operands.Statement .fuseProgramDone := fun _ => Nat.zero_le _
theorem Operands.stepSet : ∀ a0, Operands.Statement (.stepSet a0) := fun _ _ => Nat.zero_le _
theorem Operands.stepAccept : ∀ a0, Operands.Statement (.stepAccept a0) := fun _ _ => Nat.zero_le _
theorem Operands.qctlAdvance : ∀ a0 a1 a2, Operands.Statement (.qctlAdvance a0 a1 a2) := fun _ _ _ _ => Nat.zero_le _
theorem Operands.qctlRelease : ∀ a0 a1, Operands.Statement (.qctlRelease a0 a1) := fun _ _ _ => Nat.zero_le _
theorem Operands.qctlMark : ∀ a0 a1, Operands.Statement (.qctlMark a0 a1) := fun _ _ _ => Nat.zero_le _
theorem Operands.qctlRewind : ∀ a0 a1, Operands.Statement (.qctlRewind a0 a1) := fun _ _ _ => Nat.zero_le _
theorem Operands.qctlFlush : ∀ a0 a1, Operands.Statement (.qctlFlush a0 a1) := fun _ _ _ => Nat.zero_le _
theorem Operands.qctlClrcnt : ∀ a0 a1, Operands.Statement (.qctlClrcnt a0 a1) := fun _ _ _ => Nat.zero_le _
theorem Operands.qcfgStaleWrite : ∀ a0 a1 a2, Operands.Statement (.qcfgStaleWrite a0 a1 a2) := fun _ _ _ _ => Nat.zero_le _
theorem Operands.laneRun : ∀ a0 a1 a2, Operands.Statement (.laneRun a0 a1 a2) := fun _ _ _ _ => Nat.zero_le _
theorem Operands.lpgainWrite : ∀ a0 a1 a2, Operands.Statement (.lpgainWrite a0 a1 a2) := fun _ _ _ _ => Nat.zero_le _
theorem Operands.ringEnable : ∀ a0 a1 a2, Operands.Statement (.ringEnable a0 a1 a2) := fun _ _ _ _ => Nat.zero_le _
theorem Operands.epStateActive : ∀ a0 a1 a2, Operands.Statement (.epStateActive a0 a1 a2) := fun _ _ _ _ => Nat.zero_le _
theorem Operands.epStateFree : ∀ a0 a1 a2, Operands.Statement (.epStateFree a0 a1 a2) := fun _ _ _ _ => Nat.zero_le _
theorem Operands.nowLoRead : ∀ a0 a1 a2, Operands.Statement (.nowLoRead a0 a1 a2) := fun _ _ _ _ => Nat.zero_le _
theorem Operands.rsShadowRead : ∀ a0 a1, Operands.Statement (.rsShadowRead a0 a1) := fun _ _ _ => Nat.zero_le _
theorem Operands.hlCdb : ∀ a0 a1, Operands.Statement (.hlCdb a0 a1) := fun _ _ _ => Nat.zero_le _
theorem Operands.hlNdb : ∀ a0, Operands.Statement (.hlNdb a0) := fun _ _ => Nat.zero_le _
theorem Operands.hlDdb : ∀ a0 a1, Operands.Statement (.hlDdb a0 a1) := fun _ _ _ => Nat.zero_le _
theorem Operands.suppliesUp : Operands.Statement .suppliesUp := fun _ => Nat.zero_le _
theorem Operands.supplyLoss : Operands.Statement .supplyLoss := fun _ => Nat.zero_le _
theorem Operands.resetPin : ∀ a0, Operands.Statement (.resetPin a0) := fun _ _ => Nat.zero_le _
theorem Operands.coldToLoad : ∀ a0 a1, Operands.Statement (.coldToLoad a0 a1) := fun _ _ _ => Nat.zero_le _
theorem Operands.imageReadDone : ∀ a0, Operands.Statement (.imageReadDone a0) := fun _ _ => Nat.zero_le _
theorem Operands.loadAttemptFailed : ∀ a0, Operands.Statement (.loadAttemptFailed a0) := fun _ _ => Nat.zero_le _
theorem Operands.loadTimeout : Operands.Statement .loadTimeout := fun _ => Nat.zero_le _
theorem Operands.selfTestDone : ∀ a0, Operands.Statement (.selfTestDone a0) := fun _ _ => Nat.zero_le _
theorem Operands.defaultedTestDone : ∀ a0, Operands.Statement (.defaultedTestDone a0) := fun _ _ => Nat.zero_le _
theorem Operands.defTxStart : Operands.Statement .defTxStart := fun _ => Nat.zero_le _
theorem Operands.acquireComplete : Operands.Statement .acquireComplete := fun _ => Nat.zero_le _
theorem Operands.twinTakeover : Operands.Statement .twinTakeover := fun _ => Nat.zero_le _
theorem Operands.twinRecheck : ∀ a0, Operands.Statement (.twinRecheck a0) := fun _ _ => Nat.zero_le _
theorem Operands.twinLinkLost : Operands.Statement .twinLinkLost := fun _ => Nat.zero_le _
theorem Operands.twinSend : ∀ a0, Operands.Statement (.twinSend a0) := fun _ _ => Nat.zero_le _
theorem Operands.twinMessage : ∀ a0 a1, Operands.Statement (.twinMessage a0 a1) := fun _ _ _ => Nat.zero_le _
theorem Operands.domainDrained : ∀ a0, Operands.Statement (.domainDrained a0) := fun _ _ => Nat.zero_le _
theorem Operands.drainLimitExpiry : ∀ a0, Operands.Statement (.drainLimitExpiry a0) := fun _ _ => Nat.zero_le _
theorem Operands.domainOff : ∀ a0, Operands.Statement (.domainOff a0) := fun _ _ => Nat.zero_le _
theorem Operands.domainOn : ∀ a0, Operands.Statement (.domainOn a0) := fun _ _ => Nat.zero_le _
theorem Operands.unitWedged : ∀ a0, Operands.Statement (.unitWedged a0) := fun _ _ => Nat.zero_le _
theorem Operands.autospareSubst : ∀ a0, Operands.Statement (.autospareSubst a0) := fun _ _ => Nat.zero_le _
theorem Operands.watchdogReset : ∀ a0, Operands.Statement (.watchdogReset a0) := fun _ _ => Nat.zero_le _
theorem Operands.resetDirective : ∀ a0 a1 a2 a3, Operands.Statement (.resetDirective a0 a1 a2 a3) := fun _ _ _ _ _ => Nat.zero_le _
theorem Operands.ppsEdge : ∀ a0 a1, Operands.Statement (.ppsEdge a0 a1) := fun _ _ _ => Nat.zero_le _
theorem Operands.todSentence : ∀ a0 a1, Operands.Statement (.todSentence a0 a1) := fun _ _ _ => Nat.zero_le _
theorem Operands.timeCell : ∀ a0 a1, Operands.Statement (.timeCell a0 a1) := fun _ _ _ => Nat.zero_le _
theorem Operands.refLoss : Operands.Statement .refLoss := fun _ => Nat.zero_le _
theorem Operands.holdoverExpired : Operands.Statement .holdoverExpired := fun _ => Nat.zero_le _
theorem Operands.pps0Return : Operands.Statement .pps0Return := fun _ => Nat.zero_le _
theorem Operands.mainsCrossing : ∀ a0 a1, Operands.Statement (.mainsCrossing a0 a1) := fun _ _ _ => Nat.zero_le _
theorem Operands.mainsCrossingMissed : ∀ a0, Operands.Statement (.mainsCrossingMissed a0) := fun _ _ => Nat.zero_le _
theorem Operands.coastExpiry : ∀ a0, Operands.Statement (.coastExpiry a0) := fun _ _ => Nat.zero_le _
theorem Operands.lockingTimeout : ∀ a0, Operands.Statement (.lockingTimeout a0) := fun _ _ => Nat.zero_le _
theorem Operands.mainsCycleBoundary : ∀ a0, Operands.Statement (.mainsCycleBoundary a0) := fun _ _ => Nat.zero_le _
theorem Operands.launchStage : ∀ a0, Operands.Statement (.launchStage a0) := fun _ _ => Nat.zero_le _
theorem Operands.commit : ∀ a0, Operands.Statement (.commit a0) := fun _ _ => Nat.zero_le _
theorem Operands.plcBand : ∀ a0, Operands.Statement (.plcBand a0) := fun _ _ => Nat.zero_le _
theorem Operands.rfTune : ∀ a0, Operands.Statement (.rfTune a0) := fun _ _ => Nat.zero_le _
theorem Operands.gain : ∀ a0, Operands.Statement (.gain a0) := fun _ _ => Nat.zero_le _
theorem Operands.rfProfile : ∀ a0, Operands.Statement (.rfProfile a0) := fun _ _ => Nat.zero_le _
theorem Operands.plcFrame : ∀ a0, Operands.Statement (.plcFrame a0) := fun _ _ => Nat.zero_le _
theorem Operands.rfTx : ∀ a0, Operands.Statement (.rfTx a0) := fun _ _ => Nat.zero_le _
theorem Operands.eventEdge : ∀ a0, Operands.Statement (.eventEdge a0) := fun _ _ => Nat.zero_le _
theorem Operands.marker : ∀ a0, Operands.Statement (.marker a0) := fun _ _ => Nat.zero_le _
theorem Operands.eventCapture : ∀ a0 a1, Operands.Statement (.eventCapture a0 a1) := fun _ _ _ => Nat.zero_le _
theorem Operands.rfRxFrame : ∀ a0 a1, Operands.Statement (.rfRxFrame a0 a1) := fun _ _ _ => Nat.zero_le _
theorem Operands.rfFrameMissing : ∀ a0, Operands.Statement (.rfFrameMissing a0) := fun _ _ => Nat.zero_le _
theorem Operands.rfcTransaction : ∀ a0 a1, Operands.Statement (.rfcTransaction a0 a1) := fun _ _ _ => Nat.zero_le _
theorem Operands.laneParityError : ∀ a0 a1, Operands.Statement (.laneParityError a0 a1) := fun _ _ _ => Nat.zero_le _
theorem Operands.captureItem : ∀ a0 a1, Operands.Statement (.captureItem a0 a1) := fun _ _ _ => Nat.zero_le _
theorem Operands.plcDetect : ∀ a0 a1, Operands.Statement (.plcDetect a0 a1) := fun _ _ _ => Nat.zero_le _
theorem Operands.plcSyncm : ∀ a0 a1 a2 a3, Operands.Statement (.plcSyncm a0 a1 a2 a3) := fun _ _ _ _ _ => Nat.zero_le _
theorem Operands.plcSyncTimeout : ∀ a0 a1, Operands.Statement (.plcSyncTimeout a0 a1) := fun _ _ _ => Nat.zero_le _
theorem Operands.plcHeaderDecided : ∀ a0 a1 a2, Operands.Statement (.plcHeaderDecided a0 a1 a2) := fun _ _ _ _ => Nat.zero_le _
theorem Operands.plcFrameDue : ∀ a0 a1 a2, Operands.Statement (.plcFrameDue a0 a1 a2) := fun _ _ _ _ => Nat.zero_le _
theorem Operands.plcSuspendEnd : ∀ a0, Operands.Statement (.plcSuspendEnd a0) := fun _ _ => Nat.zero_le _
theorem Operands.plcItemRead : ∀ a0, Operands.Statement (.plcItemRead a0) := fun _ _ => Nat.zero_le _
theorem Operands.plcTxDone : ∀ a0 a1, Operands.Statement (.plcTxDone a0 a1) := fun _ _ _ => Nat.zero_le _
theorem Operands.contentionDecision : ∀ a0 a1 a2, Operands.Statement (.contentionDecision a0 a1 a2) := fun _ _ _ _ => Nat.zero_le _
theorem Operands.plcAckSend : ∀ a0 a1, Operands.Statement (.plcAckSend a0 a1) := fun _ _ _ => Nat.zero_le _
theorem Operands.plcAckRx : ∀ a0 a1 a2, Operands.Statement (.plcAckRx a0 a1 a2) := fun _ _ _ _ => Nat.zero_le _
theorem Operands.plcAckExpiry : ∀ a0 a1, Operands.Statement (.plcAckExpiry a0 a1) := fun _ _ _ => Nat.zero_le _
theorem Operands.bandcAccess : ∀ a0 a1, Operands.Statement (.bandcAccess a0 a1) := fun _ _ _ => Nat.zero_le _
theorem Operands.beaconLaunch : ∀ a0 a1, Operands.Statement (.beaconLaunch a0 a1) := fun _ _ _ => Nat.zero_le _
theorem Operands.grantLaunch : ∀ a0 a1, Operands.Statement (.grantLaunch a0 a1) := fun _ _ _ => Nat.zero_le _
theorem Operands.chirpDetect : ∀ a0 a1 a2 a3 a4 a5, Operands.Statement (.chirpDetect a0 a1 a2 a3 a4 a5) := fun _ _ _ _ _ _ _ => Nat.zero_le _
theorem Operands.demodGrant : ∀ a0 a1 a2, Operands.Statement (.demodGrant a0 a1 a2) := fun _ _ _ _ => Nat.zero_le _
theorem Operands.syncDecided : ∀ a0 a1 a2 a3 a4, Operands.Statement (.syncDecided a0 a1 a2 a3 a4) := fun _ _ _ _ _ _ => Nat.zero_le _
theorem Operands.firstBlockDecided : ∀ a0 a1, Operands.Statement (.firstBlockDecided a0 a1) := fun _ _ _ => Nat.zero_le _
theorem Operands.chirpLost : ∀ a0 a1, Operands.Statement (.chirpLost a0 a1) := fun _ _ _ => Nat.zero_le _
theorem Operands.chirpFrameDue : ∀ a0 a1, Operands.Statement (.chirpFrameDue a0 a1) := fun _ _ _ => Nat.zero_le _
theorem Operands.rfTxItemRead : ∀ a0, Operands.Statement (.rfTxItemRead a0) := fun _ _ => Nat.zero_le _
theorem Operands.rfItemDeadline : ∀ a0, Operands.Statement (.rfItemDeadline a0) := fun _ _ => Nat.zero_le _
theorem Operands.dutyCheck : ∀ a0, Operands.Statement (.dutyCheck a0) := fun _ _ => Nat.zero_le _
theorem Operands.uprampStart : ∀ a0, Operands.Statement (.uprampStart a0) := fun _ _ => Nat.zero_le _
theorem Operands.rfTxEnd : ∀ a0, Operands.Statement (.rfTxEnd a0) := fun _ _ => Nat.zero_le _
theorem Operands.chirpSuspendEnd : ∀ a0, Operands.Statement (.chirpSuspendEnd a0) := fun _ _ => Nat.zero_le _
theorem Operands.frameVerified : ∀ a0, Operands.Statement (.frameVerified a0) := fun _ _ => Nat.zero_le _
theorem Operands.frameSecured : ∀ a0, Operands.Statement (.frameSecured a0) := fun _ _ => Nat.zero_le _
theorem Operands.supervisionExpiry : ∀ a0, Operands.Statement (.supervisionExpiry a0) := fun _ _ => Nat.zero_le _
theorem Operands.provisionalExpiry : ∀ a0, Operands.Statement (.provisionalExpiry a0) := fun _ _ => Nat.zero_le _
theorem Operands.slotPrepare : ∀ a0, Operands.Statement (.slotPrepare a0) := fun _ _ => Nat.zero_le _
theorem Operands.slotStart : Operands.Statement .slotStart := fun _ => Nat.zero_le _
theorem Operands.schedTx : ∀ a0, Operands.Statement (.schedTx a0) := fun _ _ => Nat.zero_le _
theorem Operands.schedAckSend : ∀ a0, Operands.Statement (.schedAckSend a0) := fun _ _ => Nat.zero_le _
theorem Operands.rfAckExpiry : ∀ a0, Operands.Statement (.rfAckExpiry a0) := fun _ _ => Nat.zero_le _
theorem Operands.dlqServe : ∀ a0, Operands.Statement (.dlqServe a0) := fun _ _ => Nat.zero_le _
theorem Operands.mbxExpired : ∀ a0, Operands.Statement (.mbxExpired a0) := fun _ _ => Nat.zero_le _
theorem Operands.pollResponse : ∀ a0, Operands.Statement (.pollResponse a0) := fun _ _ => Nat.zero_le _
theorem Operands.dcSecond : Operands.Statement .dcSecond := fun _ => Nat.zero_le _
theorem Operands.cipherDone : ∀ a0 a1 a2, Operands.Statement (.cipherDone a0 a1 a2) := fun _ _ _ _ => Nat.zero_le _
theorem Operands.rollWindowExpiry : ∀ a0, Operands.Statement (.rollWindowExpiry a0) := fun _ _ => Nat.zero_le _
theorem Operands.cardExchange : ∀ a0 a1, Operands.Statement (.cardExchange a0 a1) := fun _ _ _ => Nat.zero_le _
theorem Operands.cardActivate : ∀ a0, Operands.Statement (.cardActivate a0) := fun _ _ => Nat.zero_le _
theorem Operands.cardAtr : ∀ a0 a1 a2 a3, Operands.Statement (.cardAtr a0 a1 a2 a3) := fun _ _ _ _ _ => Nat.zero_le _
theorem Operands.cardCharacter : ∀ a0 a1 a2, Operands.Statement (.cardCharacter a0 a1 a2) := fun _ _ _ _ => Nat.zero_le _
theorem Operands.cardTimeout : ∀ a0, Operands.Statement (.cardTimeout a0) := fun _ _ => Nat.zero_le _
theorem Operands.cardExchangeEnd : ∀ a0, Operands.Statement (.cardExchangeEnd a0) := fun _ _ => Nat.zero_le _
theorem Operands.cardDeactivated : ∀ a0, Operands.Statement (.cardDeactivated a0) := fun _ _ => Nat.zero_le _
theorem Operands.queueStale : ∀ a0, Operands.Statement (.queueStale a0) := fun _ _ => Nat.zero_le _
theorem Operands.queueOpenExpired : ∀ a0, Operands.Statement (.queueOpenExpired a0) := fun _ _ => Nat.zero_le _
theorem Operands.hwItemWrite : ∀ a0 a1 a2, Operands.Statement (.hwItemWrite a0 a1 a2) := fun _ _ _ _ => Nat.zero_le _
theorem Operands.scrubRead : ∀ a0 a1, Operands.Statement (.scrubRead a0 a1) := fun _ _ _ => Nat.zero_le _
theorem Operands.bankCopyDone : ∀ a0, Operands.Statement (.bankCopyDone a0) := fun _ _ => Nat.zero_le _
theorem Operands.hostLinkLoss : Operands.Statement .hostLinkLoss := fun _ => Nat.zero_le _
theorem Operands.hostLinkState : ∀ a0 a1, Operands.Statement (.hostLinkState a0 a1) := fun _ _ _ => Nat.zero_le _
theorem Operands.commandFetch : ∀ a0 a1, Operands.Statement (.commandFetch a0 a1) := fun _ _ _ => Nat.zero_le _
theorem Operands.noticeWrite : Operands.Statement .noticeWrite := fun _ => Nat.zero_le _
theorem Operands.irqTimer : Operands.Statement .irqTimer := fun _ => Nat.zero_le _
theorem Operands.tokenRefill : Operands.Statement .tokenRefill := fun _ => Nat.zero_le _
theorem Operands.spanExpiry : ∀ a0, Operands.Statement (.spanExpiry a0) := fun _ _ => Nat.zero_le _
theorem Operands.descriptorFetch : ∀ a0 a1, Operands.Statement (.descriptorFetch a0 a1) := fun _ _ _ => Nat.zero_le _
theorem Operands.dmaToQueue : ∀ a0 a1, Operands.Statement (.dmaToQueue a0 a1) := fun _ _ _ => Nat.zero_le _
theorem Operands.dmaFromQueue : ∀ a0, Operands.Statement (.dmaFromQueue a0) := fun _ _ => Nat.zero_le _
theorem Operands.dmaWriteResponse : ∀ a0, Operands.Statement (.dmaWriteResponse a0) := fun _ _ => Nat.zero_le _
theorem Operands.dmaTimeout : ∀ a0, Operands.Statement (.dmaTimeout a0) := fun _ _ => Nat.zero_le _
theorem Operands.lockGrant : ∀ a0 a1, Operands.Statement (.lockGrant a0 a1) := fun _ _ _ => Nat.zero_le _
theorem Operands.lockTimeout : ∀ a0 a1, Operands.Statement (.lockTimeout a0 a1) := fun _ _ _ => Nat.zero_le _
theorem Operands.woundRequest : ∀ a0 a1 a2 a3, Operands.Statement (.woundRequest a0 a1 a2 a3) := fun _ _ _ _ _ => Nat.zero_le _
theorem Operands.benchAction : ∀ a0 a1 a2, Operands.Statement (.benchAction a0 a1 a2) := fun _ _ _ _ => Nat.zero_le _
theorem Operands.prepare : ∀ a0 a1 a2 a3, Operands.Statement (.prepare a0 a1 a2 a3) := fun _ _ _ _ _ => Nat.zero_le _
theorem Operands.vote : ∀ a0 a1 a2 a3 a4 a5, Operands.Statement (.vote a0 a1 a2 a3 a4 a5) := fun _ _ _ _ _ _ _ => Nat.zero_le _
theorem Operands.voteDeadline : ∀ a0, Operands.Statement (.voteDeadline a0) := fun _ _ => Nat.zero_le _
theorem Operands.decision : ∀ a0 a1 a2 a3, Operands.Statement (.decision a0 a1 a2 a3) := fun _ _ _ _ _ => Nat.zero_le _
theorem Operands.decisionDeadline : ∀ a0, Operands.Statement (.decisionDeadline a0) := fun _ _ => Nat.zero_le _
theorem Operands.outcomeReport : ∀ a0 a1 a2 a3, Operands.Statement (.outcomeReport a0 a1 a2 a3) := fun _ _ _ _ _ => Nat.zero_le _
theorem Operands.outcomeTimeout : ∀ a0, Operands.Statement (.outcomeTimeout a0) := fun _ _ => Nat.zero_le _
theorem Operands.groupUp : ∀ a0 a1, Operands.Statement (.groupUp a0 a1) := fun _ _ _ => Nat.zero_le _
theorem Operands.groupDown : ∀ a0 a1 a2 a3, Operands.Statement (.groupDown a0 a1 a2 a3) := fun _ _ _ _ _ => Nat.zero_le _
theorem Operands.benchMessage : ∀ a0 a1, Operands.Statement (.benchMessage a0 a1) := fun _ _ _ => Nat.zero_le _
theorem Operands.benchAck : ∀ a0 a1 a2 a3, Operands.Statement (.benchAck a0 a1 a2 a3) := fun _ _ _ _ _ => Nat.zero_le _
theorem Operands.benchTimeout : ∀ a0, Operands.Statement (.benchTimeout a0) := fun _ _ => Nat.zero_le _
theorem Operands.echoCell : ∀ a0 a1, Operands.Statement (.echoCell a0 a1) := fun _ _ _ => Nat.zero_le _
theorem Operands.wtrExpiry : ∀ a0, Operands.Statement (.wtrExpiry a0) := fun _ _ => Nat.zero_le _
theorem Operands.perfSecond : ∀ a0, Operands.Statement (.perfSecond a0) := fun _ _ => Nat.zero_le _
theorem Operands.leaseCredit : ∀ a0, Operands.Statement (.leaseCredit a0) := fun _ _ => Nat.zero_le _
theorem Operands.leaseStart : ∀ a0 a1 a2 a3 a4 a5 a6 a7 a8, Operands.Statement (.leaseStart a0 a1 a2 a3 a4 a5 a6 a7 a8) := fun _ _ _ _ _ _ _ _ _ _ => Nat.zero_le _
theorem Operands.sampleCell : ∀ a0 a1 a2 a3, Operands.Statement (.sampleCell a0 a1 a2 a3) := fun _ _ _ _ _ => Nat.zero_le _
theorem Operands.leaseEnd : ∀ a0 a1 a2, Operands.Statement (.leaseEnd a0 a1 a2) := fun _ _ _ _ => Nat.zero_le _
theorem Operands.leaseIdleFree : ∀ a0 a1, Operands.Statement (.leaseIdleFree a0 a1) := fun _ _ _ => Nat.zero_le _
theorem Operands.helloSend : ∀ a0, Operands.Statement (.helloSend a0) := fun _ _ => Nat.zero_le _
theorem Operands.helloCell : ∀ a0 a1, Operands.Statement (.helloCell a0 a1) := fun _ _ _ => Nat.zero_le _
theorem Operands.peerDown : ∀ a0, Operands.Statement (.peerDown a0) := fun _ _ => Nat.zero_le _
theorem Operands.routeAdvertise : ∀ a0, Operands.Statement (.routeAdvertise a0) := fun _ _ => Nat.zero_le _
theorem Operands.routeMessage : ∀ a0 a1, Operands.Statement (.routeMessage a0 a1) := fun _ _ _ => Nat.zero_le _
theorem Operands.routeExpiry : ∀ a0, Operands.Statement (.routeExpiry a0) := fun _ _ => Nat.zero_le _
theorem Operands.handoverIn : ∀ a0 a1 a2 a3, Operands.Statement (.handoverIn a0 a1 a2 a3) := fun _ _ _ _ _ => Nat.zero_le _
theorem Operands.faultDetect : ∀ a0 a1 a2, Operands.Statement (.faultDetect a0 a1 a2) := fun _ _ _ _ => Nat.zero_le _
theorem Operands.faultAutoclose : ∀ a0, Operands.Statement (.faultAutoclose a0) := fun _ _ => Nat.zero_le _
theorem Operands.auditStep : ∀ a0, Operands.Statement (.auditStep a0) := fun _ _ => Nat.zero_le _
theorem Operands.auditMismatch : ∀ a0 a1, Operands.Statement (.auditMismatch a0 a1) := fun _ _ _ => Nat.zero_le _
theorem Operands.lifeCounterUpdate : Operands.Statement .lifeCounterUpdate := fun _ => Nat.zero_le _
theorem Operands.ledgerProgrammed : ∀ a0 a1, Operands.Statement (.ledgerProgrammed a0 a1) := fun _ _ _ => Nat.zero_le _
theorem Operands.ledgerClaimTimeout : ∀ a0, Operands.Statement (.ledgerClaimTimeout a0) := fun _ _ => Nat.zero_le _
theorem Operands.ledgerDump : ∀ a0, Operands.Statement (.ledgerDump a0) := fun _ _ => Nat.zero_le _
theorem Operands.fieldState : ∀ a0, Operands.Statement (.fieldState a0) := fun _ _ => Nat.zero_le _
theorem Operands.inventory : ∀ a0, Operands.Statement (.inventory a0) := fun _ _ => Nat.zero_le _
theorem Operands.stayQuiet : ∀ a0, Operands.Statement (.stayQuiet a0) := fun _ _ => Nat.zero_le _
theorem Operands.readSingleBlock : ∀ a0 a1, Operands.Statement (.readSingleBlock a0 a1) := fun _ _ _ => Nat.zero_le _
theorem Operands.writeSingleBlock : ∀ a0 a1 a2, Operands.Statement (.writeSingleBlock a0 a1 a2) := fun _ _ _ _ => Nat.zero_le _
theorem Operands.readMultipleBlocks : ∀ a0 a1 a2, Operands.Statement (.readMultipleBlocks a0 a1 a2) := fun _ _ _ _ => Nat.zero_le _
theorem Operands.select : ∀ a0, Operands.Statement (.select a0) := fun _ _ => Nat.zero_le _
theorem Operands.resetToReady : ∀ a0, Operands.Statement (.resetToReady a0) := fun _ _ => Nat.zero_le _
theorem Operands.getSystemInformation : ∀ a0, Operands.Statement (.getSystemInformation a0) := fun _ _ => Nat.zero_le _
theorem Operands.extendedReadSingleBlock : ∀ a0 a1, Operands.Statement (.extendedReadSingleBlock a0 a1) := fun _ _ _ => Nat.zero_le _
theorem Operands.extendedWriteSingleBlock : ∀ a0 a1 a2, Operands.Statement (.extendedWriteSingleBlock a0 a1 a2) := fun _ _ _ _ => Nat.zero_le _
theorem Operands.extendedReadMultipleBlocks : ∀ a0 a1 a2, Operands.Statement (.extendedReadMultipleBlocks a0 a1 a2) := fun _ _ _ _ => Nat.zero_le _
theorem Operands.extendedGetSystemInformation : ∀ a0, Operands.Statement (.extendedGetSystemInformation a0) := fun _ _ => Nat.zero_le _
theorem Operands.unsupportedFieldCommand : ∀ a0 a1, Operands.Statement (.unsupportedFieldCommand a0 a1) := fun _ _ _ => Nat.zero_le _
theorem Operands.noImage : Operands.Statement .noImage := fun _ => Nat.zero_le _
theorem Operands.busMasterEnable : Operands.Statement .busMasterEnable := fun _ => Nat.zero_le _
theorem Operands.atrFail : ∀ a0, Operands.Statement (.atrFail a0) := fun _ _ => Nat.zero_le _
theorem Operands.cardErrorSignal : ∀ a0 a1, Operands.Statement (.cardErrorSignal a0 a1) := fun _ _ _ => Nat.zero_le _
theorem Operands.multiframe : ∀ a0, Operands.Statement (.multiframe a0) := fun _ _ => Nat.zero_le _
theorem Operands.rdiRx : ∀ a0 a1 a2 a3 a4 a5, Operands.Statement (.rdiRx a0 a1 a2 a3 a4 a5) := fun _ _ _ _ _ _ _ => Nat.zero_le _

end Sys2Proof.Laws
end

