-- ==== Sys2Proof/Laws/Tables.lean ====
section
/-! SUPPORT. The laws of the sparse tables of Types.lean: a read after a write, and the other keys. -/
namespace Sys2Proof.Machine
open Sys2Proof

@[simp] theorem aget_aset_same {α : Type} (d : α) (l : List (Nat × α)) (i : Nat) (v : α) : aget d (aset l i v) i = v := by
  induction l with
  | nil => simp [aset, aget]
  | cons c t ih =>
    obtain ⟨k, w⟩ := c
    unfold aset
    split
    · simp [aget]
    · split
      · simp [aget]
      · simp [aget, *]

theorem aget_aset_other {α : Type} (d : α) (l : List (Nat × α)) (i j : Nat) (v : α) (h : j ≠ i) :
    aget d (aset l i v) j = aget d l j := by
  induction l with
  | nil => simp [aset, aget, Ne.symm h]
  | cons c t ih =>
    obtain ⟨k, w⟩ := c
    unfold aset
    split
    · rename_i e; subst e; simp [aget, Ne.symm h]
    · split
      · simp [aget, Ne.symm h]
      · simp only [aget, ih]

/-- A queue's own record after it is set. -/
@[simp] theorem State.qst_setQst_same (s : State) (q : Nat) (x : QueueState) : (s.setQst q x).qst q = x := by
  simp [State.qst, State.setQst]

/-- Another queue's record is as it was. -/
theorem State.qst_setQst_other (s : State) (q k : Nat) (x : QueueState) (h : k ≠ q) : (s.setQst q x).qst k = s.qst k := by
  simp [State.qst, State.setQst, aget_aset_other _ _ _ _ _ h]

@[simp] theorem State.qst_setF (s : State) (f : Fld) (v k : Nat) : (s.setF f v).qst k = s.qst k := rfl

/-- A word outside a field's own word after the field is set. -/
theorem State.word_setF_other (s : State) (f : Fld) (v a : Nat) (h : a ≠ f.addr) : (s.setF f v).word a = s.word a :=
  Memory.read_write_other _ _ _ _ _ h

theorem State.word_setWord_other (s : State) (b a : Nat) (w : Word) (h : a ≠ b) : (s.setWord b w).word a = s.word a :=
  Memory.read_write_other _ _ _ _ _ h

theorem State.word_setWord_same (s : State) (a : Nat) (w : Word) (h : s.sound = true) : (s.setWord a w).word a = w := by
  simp only [State.sound, Bool.and_eq_true] at h
  exact Memory.read_write_same _ _ _ _ h.1

theorem State.sound_setWord (s : State) (a : Nat) (w : Word) (h : s.sound = true) : (s.setWord a w).sound = true := by
  simp only [State.sound, Bool.and_eq_true] at h ⊢
  exact ⟨Memory.wf_write _ _ _ _ h.1, h.2⟩

theorem State.sound_setF (s : State) (f : Fld) (v : Nat) (h : s.sound = true) : (s.setF f v).sound = true :=
  s.sound_setWord _ _ h

theorem wf_writeBytes (m : List Host.Cell) (a : Nat) (bs : List Byte) (h : Memory.wf (fun _ => (0 : Byte)) m = true) :
    Memory.wf (fun _ => (0 : Byte)) (writeBytes m a bs) = true := by
  induction bs generalizing m a with
  | nil => exact h
  | cons b t ih => exact ih _ _ (Memory.wf_write _ _ _ _ h)

theorem State.sound_setQword (s : State) (w : Nat) (v : Word) (h : s.sound = true) : (s.setQword w v).sound = true := by
  simp only [State.sound, Bool.and_eq_true] at h ⊢
  exact ⟨h.1, wf_writeBytes _ _ _ h.2⟩

end Sys2Proof.Machine
end

