-- ==== Sys2Proof/Laws/RegAt.lean ====
section
/-! SUPPORT. The register found at the addresses of the indexed registers that the rows of the opcode table write. -/
namespace Sys2Proof.Machine
open Sys2Proof

theorem findReg_skip0 (r : Reg) (b a : Nat) (fs : List FieldDef) (ds : List RegDef) (h : a ≠ b) :
    findReg (⟨r, b, [], fs⟩ :: ds) a = findReg ds a := by
  conv => lhs; unfold findReg
  dsimp only
  split
  · rename_i e
    split at e
    · rename_i hb; unfold dimIndex at e; rw [if_neg (by omega)] at e; cases e
    · cases e
  · rfl

theorem dimIndex1_none (n st x : Nat) (h : n ≤ x / st ∨ x % st ≠ 0) : dimIndex [(n, st)] x = none := by
  unfold dimIndex
  split
  · unfold dimIndex; rw [if_neg (by omega)]; rfl
  · rfl

theorem findReg_skip1 (r : Reg) (b n st a : Nat) (fs : List FieldDef) (ds : List RegDef)
    (h : a < b ∨ n ≤ (a - b) / st ∨ (a - b) % st ≠ 0) : findReg (⟨r, b, [(n, st)], fs⟩ :: ds) a = findReg ds a := by
  conv => lhs; unfold findReg
  dsimp only
  split
  · rename_i e
    split at e
    · rename_i hb
      rw [dimIndex1_none n st (a - b) (by omega)] at e; cases e
    · cases e
  · rfl

theorem findReg_skip2 (r : Reg) (b n st m su a : Nat) (fs : List FieldDef) (ds : List RegDef)
    (h : a < b ∨ n ≤ (a - b) / st ∨ m ≤ (a - b) % st / su ∨ (a - b) % st % su ≠ 0) :
    findReg (⟨r, b, [(n, st), (m, su)], fs⟩ :: ds) a = findReg ds a := by
  conv => lhs; unfold findReg
  dsimp only
  split
  · rename_i e
    split at e
    · rename_i hb
      unfold dimIndex at e
      split at e
      · rw [dimIndex1_none m su ((a - b) % st) (by omega)] at e; cases e
      · cases e
    · cases e
  · rfl

theorem findReg_hit1 (r : Reg) (b n st a : Nat) (fs : List FieldDef) (ds : List RegDef)
    (hb : b ≤ a) (h1 : (a - b) / st < n) (h2 : (a - b) % st = 0) :
    findReg (⟨r, b, [(n, st)], fs⟩ :: ds) a = some ⟨⟨r, b, [(n, st)], fs⟩, [(a - b) / st]⟩ := by
  conv => lhs; unfold findReg
  dsimp only
  rw [if_pos hb]
  unfold dimIndex
  rw [if_pos h1]
  unfold dimIndex
  rw [if_pos h2]
  rfl

theorem regBlock_QM (a : Nat) (h : 16777216 ≤ a) (h2 : a < 20971520) : regBlock a = regDefsQM := by
  have h3 : a / 0x100000 = 16 ∨ a / 0x100000 = 17 ∨ a / 0x100000 = 18 ∨ a / 0x100000 = 19 := by omega
  unfold regBlock
  rw [if_neg (by omega), if_neg (by omega), if_neg (by omega)]
  rcases h3 with e | e | e | e <;> rw [e] <;> rfl

theorem regBlock_SC (a : Nat) (h : 2097152 ≤ a) (h2 : a < 4194304) : regBlock a = regDefsSC := by
  have h3 : a / 0x100000 = 2 ∨ a / 0x100000 = 3 := by omega
  unfold regBlock
  rw [if_neg (by omega), if_neg (by omega), if_neg (by omega)]
  rcases h3 with e | e <;> rw [e] <;> rfl

theorem regBlock_HL (a : Nat) (h : 25165824 ≤ a) (h2 : a < 27262976) : regBlock a = regDefsHL := by
  have h3 : a / 0x100000 = 24 ∨ a / 0x100000 = 25 := by omega
  unfold regBlock
  rw [if_neg (by omega), if_neg (by omega), if_neg (by omega)]
  rcases h3 with e | e <;> rw [e] <;> rfl

theorem regBlock_EP (a : Nat) (h : 0x20000000 ≤ a) (h2 : a < 0x20800000) : regBlock a = regDefsEP := by
  unfold regBlock
  rw [if_neg (by omega), if_pos (by omega)]

theorem regBlock_QW (a : Nat) (h : 0x10000000 ≤ a) (h2 : a < 0x20000000) : regBlock a = regDefsQW := by
  unfold regBlock
  rw [if_neg (by omega), if_neg (by omega), if_pos (by omega)]

/-- The definition of QM_QPLACE. -/
abbrev defQM_QPLACE : RegDef :=
  ⟨.QM_QPLACE, 0x1000000, [(16384, 32)], [⟨15, 0, .ST, 0, true, false, []⟩, ⟨19, 16, .ST, 0, true, false, [(0, 12)]⟩,
    ⟨20, 20, .ST, 0, true, false, []⟩, ⟨21, 21, .ST, 0, true, false, []⟩]⟩

theorem regAt_QM_QPLACE (i : Nat) (h : i < 16384) : regAt (F.QM_QPLACE i) = some ⟨defQM_QPLACE, [i]⟩ := by
  have e : F.QM_QPLACE i = 16777216 + 32 * i := rfl
  unfold regAt
  rw [regBlock_QM _ (by omega) (by omega), e]
  unfold regDefsQM
  rw [findReg_hit1 (hb := by omega) (h1 := by omega) (h2 := by omega)]
  rw [show (16777216 + 32 * i - 16777216) / 32 = i by omega]

/-- The definition of QM_QCFG. -/
abbrev defQM_QCFG : RegDef :=
  ⟨.QM_QCFG, 0x1000004, [(16384, 32)], [⟨15, 0, .RW, 0, true, false, []⟩, ⟨16, 16, .RW, 0, true, false, []⟩,
    ⟨31, 24, .RO, 0, false, false, []⟩]⟩

theorem regAt_QM_QCFG (i : Nat) (h : i < 16384) : regAt (F.QM_QCFG i) = some ⟨defQM_QCFG, [i]⟩ := by
  have e : F.QM_QCFG i = 16777220 + 32 * i := rfl
  unfold regAt
  rw [regBlock_QM _ (by omega) (by omega), e]
  unfold regDefsQM
  rw [findReg_skip1 (h := by omega)]
  rw [findReg_hit1 (hb := by omega) (h1 := by omega) (h2 := by omega)]
  rw [show (16777220 + 32 * i - 16777220) / 32 = i by omega]

/-- The definition of QM_QCTL. -/
abbrev defQM_QCTL : RegDef :=
  ⟨.QM_QCTL, 0x1000018, [(16384, 32)], [⟨0, 0, .WO, 0, false, false, []⟩, ⟨1, 1, .WO, 0, false, false, []⟩,
    ⟨2, 2, .WO, 0, false, false, []⟩, ⟨3, 3, .WO, 0, false, false, []⟩, ⟨4, 4, .WO, 0, false, false, []⟩,
    ⟨5, 5, .WO, 0, false, false, []⟩, ⟨30, 12, .WO, 0, false, false, []⟩]⟩

theorem regAt_QM_QCTL (i : Nat) (h : i < 16384) : regAt (F.QM_QCTL i) = some ⟨defQM_QCTL, [i]⟩ := by
  have e : F.QM_QCTL i = 16777240 + 32 * i := rfl
  unfold regAt
  rw [regBlock_QM _ (by omega) (by omega), e]
  unfold regDefsQM
  rw [findReg_skip1 (h := by omega)]
  rw [findReg_skip1 (h := by omega)]
  rw [findReg_skip1 (h := by omega)]
  rw [findReg_skip1 (h := by omega)]
  rw [findReg_skip1 (h := by omega)]
  rw [findReg_skip1 (h := by omega)]
  rw [findReg_hit1 (hb := by omega) (h1 := by omega) (h2 := by omega)]
  rw [show (16777240 + 32 * i - 16777240) / 32 = i by omega]

/-- The definition of QM_QSTAT. -/
abbrev defQM_QSTAT : RegDef :=
  ⟨.QM_QSTAT, 0x100001c, [(16384, 32)], [⟨0, 0, .W1C, 0, false, false, []⟩, ⟨1, 1, .W1C, 0, false, false, []⟩,
    ⟨2, 2, .RO, 0, false, false, []⟩, ⟨3, 3, .RO, 0, false, false, []⟩, ⟨4, 4, .RO, 0, false, false, []⟩,
    ⟨31, 16, .RO, 0, false, false, []⟩]⟩

theorem regAt_QM_QSTAT (i : Nat) (h : i < 16384) : regAt (F.QM_QSTAT i) = some ⟨defQM_QSTAT, [i]⟩ := by
  have e : F.QM_QSTAT i = 16777244 + 32 * i := rfl
  unfold regAt
  rw [regBlock_QM _ (by omega) (by omega), e]
  unfold regDefsQM
  rw [findReg_skip1 (h := by omega)]
  rw [findReg_skip1 (h := by omega)]
  rw [findReg_skip1 (h := by omega)]
  rw [findReg_skip1 (h := by omega)]
  rw [findReg_skip1 (h := by omega)]
  rw [findReg_skip1 (h := by omega)]
  rw [findReg_skip1 (h := by omega)]
  rw [findReg_hit1 (hb := by omega) (h1 := by omega) (h2 := by omega)]
  rw [show (16777244 + 32 * i - 16777244) / 32 = i by omega]

/-- The definition of SC_LPGAIN. -/
abbrev defSC_LPGAIN : RegDef :=
  ⟨.SC_LPGAIN, 0x200008, [(96, 1024)], [⟨3, 0, .RW, 0, true, false, []⟩, ⟨12, 8, .RW, 0, true, false, []⟩]⟩

theorem regAt_SC_LPGAIN (i : Nat) (h : i < 96) : regAt (F.SC_LPGAIN i) = some ⟨defSC_LPGAIN, [i]⟩ := by
  have e : F.SC_LPGAIN i = 2097160 + 1024 * i := rfl
  unfold regAt
  rw [regBlock_SC _ (by omega) (by omega), e]
  unfold regDefsSC
  rw [findReg_skip1 (h := by omega)]
  rw [findReg_skip1 (h := by omega)]
  rw [findReg_hit1 (hb := by omega) (h1 := by omega) (h2 := by omega)]
  rw [show (2097160 + 1024 * i - 2097160) / 1024 = i by omega]

/-- The definition of SC_LANECTL. -/
abbrev defSC_LANECTL : RegDef :=
  ⟨.SC_LANECTL, 0x230004, [(104, 512)], [⟨0, 0, .RW, 0, false, false, []⟩]⟩

theorem regAt_SC_LANECTL (i : Nat) (h : i < 104) : regAt (F.SC_LANECTL i) = some ⟨defSC_LANECTL, [i]⟩ := by
  have e : F.SC_LANECTL i = 2293764 + 512 * i := rfl
  unfold regAt
  rw [regBlock_SC _ (by omega) (by omega), e]
  unfold regDefsSC
  rw [findReg_skip1 (h := by omega)]
  rw [findReg_skip1 (h := by omega)]
  rw [findReg_skip1 (h := by omega)]
  rw [findReg_skip1 (h := by omega)]
  rw [findReg_skip1 (h := by omega)]
  rw [findReg_skip1 (h := by omega)]
  rw [findReg_skip1 (h := by omega)]
  rw [findReg_skip1 (h := by omega)]
  rw [findReg_skip1 (h := by omega)]
  rw [findReg_skip1 (h := by omega)]
  rw [findReg_skip1 (h := by omega)]
  rw [findReg_skip1 (h := by omega)]
  rw [findReg_hit1 (hb := by omega) (h1 := by omega) (h2 := by omega)]
  rw [show (2293764 + 512 * i - 2293764) / 512 = i by omega]

/-- The definition of HL_SESS2. -/
abbrev defHL_SESS2 : RegDef :=
  ⟨.HL_SESS2, 0x1800008, [(16, 32)], [⟨3, 0, .RW, 0, false, false, [(0, 8)]⟩, ⟨4, 4, .RW, 0, false, false, []⟩,
    ⟨5, 5, .RW, 0, false, false, []⟩]⟩

theorem regAt_HL_SESS2 (i : Nat) (h : i < 16) : regAt (F.HL_SESS2 i) = some ⟨defHL_SESS2, [i]⟩ := by
  have e : F.HL_SESS2 i = 25165832 + 32 * i := rfl
  unfold regAt
  rw [regBlock_HL _ (by omega) (by omega), e]
  unfold regDefsHL
  rw [findReg_skip1 (h := by omega)]
  rw [findReg_skip1 (h := by omega)]
  rw [findReg_hit1 (hb := by omega) (h1 := by omega) (h2 := by omega)]
  rw [show (25165832 + 32 * i - 25165832) / 32 = i by omega]

/-- The definition of HL_DRING2. -/
abbrev defHL_DRING2 : RegDef :=
  ⟨.HL_DRING2, 0x1810008, [(256, 32)], [⟨3, 0, .RW, 0, false, false, [(0, 8)]⟩, ⟨4, 4, .RW, 0, false, false, []⟩,
    ⟨10, 5, .RW, 0, false, false, []⟩, ⟨11, 11, .RO, 0, false, false, []⟩]⟩

theorem regAt_HL_DRING2 (i : Nat) (h : i < 256) : regAt (F.HL_DRING2 i) = some ⟨defHL_DRING2, [i]⟩ := by
  have e : F.HL_DRING2 i = 25231368 + 32 * i := rfl
  unfold regAt
  rw [regBlock_HL _ (by omega) (by omega), e]
  unfold regDefsHL
  rw [findReg_skip1 (h := by omega)]
  rw [findReg_skip1 (h := by omega)]
  rw [findReg_skip1 (h := by omega)]
  rw [findReg_skip1 (h := by omega)]
  rw [findReg_skip1 (h := by omega)]
  rw [findReg_skip1 (h := by omega)]
  rw [findReg_skip2 (h := by omega)]
  rw [findReg_skip0 (h := by omega)]
  rw [findReg_skip0 (h := by omega)]
  rw [findReg_skip0 (h := by omega)]
  rw [findReg_skip0 (h := by omega)]
  rw [findReg_skip0 (h := by omega)]
  rw [findReg_skip0 (h := by omega)]
  rw [findReg_skip0 (h := by omega)]
  rw [findReg_skip0 (h := by omega)]
  rw [findReg_skip0 (h := by omega)]
  rw [findReg_skip0 (h := by omega)]
  rw [findReg_skip0 (h := by omega)]
  rw [findReg_skip0 (h := by omega)]
  rw [findReg_skip0 (h := by omega)]
  rw [findReg_skip1 (h := by omega)]
  rw [findReg_skip1 (h := by omega)]
  rw [findReg_skip1 (h := by omega)]
  rw [findReg_skip1 (h := by omega)]
  rw [findReg_skip1 (h := by omega)]
  rw [findReg_skip1 (h := by omega)]
  rw [findReg_skip1 (h := by omega)]
  rw [findReg_hit1 (hb := by omega) (h1 := by omega) (h2 := by omega)]
  rw [show (25231368 + 32 * i - 25231368) / 32 = i by omega]

/-- The definition of EP0. -/
abbrev defEP0 : RegDef :=
  ⟨.EP0, 0x20000000, [(131072, 64)], [⟨1, 0, .RW, 0, false, false, []⟩, ⟨2, 2, .RW, 0, false, false, []⟩,
    ⟨3, 3, .RW, 0, false, false, []⟩, ⟨6, 4, .RW, 0, false, false, []⟩, ⟨11, 7, .RW, 0, false, false, []⟩,
    ⟨18, 12, .RW, 0, false, false, [(0, 95)]⟩, ⟨20, 19, .RW, 0, false, false, []⟩, ⟨23, 21, .RW, 0, false, false, [(0, 4)]⟩,
    ⟨24, 24, .RW, 0, false, false, []⟩, ⟨27, 25, .RO, 0, false, false, []⟩]⟩

theorem regAt_EP0 (i : Nat) (h : i < 131072) : regAt (F.EP0 i) = some ⟨defEP0, [i]⟩ := by
  have e : F.EP0 i = 536870912 + 64 * i := rfl
  unfold regAt
  rw [regBlock_EP _ (by omega) (by omega), e]
  unfold regDefsEP
  rw [findReg_hit1 (hb := by omega) (h1 := by omega) (h2 := by omega)]
  rw [show (536870912 + 64 * i - 536870912) / 64 = i by omega]

/-- The definition of QMEM. -/
abbrev defQMEM : RegDef :=
  ⟨.QMEM, 0x10000000, [(4194304, 4)], [⟨31, 0, .RW, 0, false, false, []⟩]⟩

theorem regAt_QMEM (i : Nat) (h : i < 4194304) : regAt (F.QMEM i) = some ⟨defQMEM, [i]⟩ := by
  have e : F.QMEM i = 268435456 + 4 * i := rfl
  unfold regAt
  rw [regBlock_QW _ (by omega) (by omega), e]
  unfold regDefsQW
  rw [findReg_hit1 (hb := by omega) (h1 := by omega) (h2 := by omega)]
  rw [show (268435456 + 4 * i - 268435456) / 4 = i by omega]

end Sys2Proof.Machine
end

