-- ==== Sys2Proof/Laws/Writes.lean ====
section
/-! SUPPORT. A command that runs, and a register write of a session that is not refused. -/
namespace Sys2Proof.Machine
open Sys2Proof

theorem command_runs {s : State} {c : Cmd} {op : Nat} (h : s.runs c op) (f : State) : s.command c op f = f := by
  obtain ⟨hf, hg⟩ := h
  simp [State.command, hf, hg]

theorem writeCommand_runs {s : State} {c : Cmd} {op : Nat} (h : s.runs c op) (a n : Nat) (f : State) :
    s.writeCommand c op a n f = f := by
  have e : s.requestInDrain c op a n = s := by simp [State.requestInDrain, h.2]
  unfold State.writeCommand
  split <;> simp [e, command_runs h]

/-- A write of one word by a session that no rule refuses does what the register says and completes with its status. -/
theorem writeCmd_runs {s : State} {c : Cmd} {a : Nat} {v : Word} {d : RegHit} (h : s.runs c opWRITE) (hd : regAt a = some d)
    (hh : isHL a = false) (hacc : d.rd.fields.all (·.accepts v) = true) (hb : d.rd.reg ≠ .TN_BCFG)
    (hm : ringOfWord d.rd.reg (nthD d.idx 0) = none) (hst : d.rd.structural = false) :
    s.writeCmd c a v = (s.writeReg d a v).1.complete c opWRITE (s.writeReg d a v).2 := by
  have e : s.wordsRefused (s.privileged c.session) a [v] = none := by
    simp [State.wordsRefused, hh, State.wordRefused, hd, wordAt, hb, State.movesRing, hm]
    simpa using hacc
  simp only [State.writeCmd, writeCommand_runs h, State.cmdWrite, e, State.writeWords, State.writeWord, hd, hst, State.answer]
  by_cases hs : (s.writeReg d a v).2 = stOK <;> simp [hs]

end Sys2Proof.Machine
end

