-- ==== Sys2Proof/Tests/Slice0.lean ====
section
/-! SUPPORT. The author's own tests: an ill-formed term for each check of WellFormed, and for each statement a state and
operands that meet its hypotheses, clause by clause. -/
namespace Sys2Proof.Tests
set_option Elab.async false
open Sys2Proof Sys2Proof.Machine

/-! ## Ill-formed commands and events -/

def tc : Cmd := { session := 0, tag := 5 }
def wd (n : Nat) : Word := BitVec.ofNat 32 n
def tw (n : Nat) : List Word := List.replicate n 0
def tb (n : Nat) : List Byte := List.replicate n 0

theorem test_wf_commands : Instr.wf (.nop tc (tw 11)) = false ∧ Instr.wf (.write tc 0 (tw 14)) = false ∧
    Instr.wf (.enqueue tc 0 true (tw 14)) = false ∧ Instr.wf (.launch tc (tw 15)) = false ∧
    Instr.wf (.launchCancel tc (tw 15) 0) = false ∧ Instr.wf (.routeInsert tc (tw 15)) = false ∧
    Instr.wf (.keyLoad tc (tw 16)) = false ∧ Instr.wf (.cipher tc (tw 16)) = false ∧ Instr.wf (.ledgerWrite tc 0 (tw 9)) = false := by
  decide

theorem test_wf_transaction_and_bench_commands : Instr.wf (.txnOpen tc (tw 16)) = false ∧ Instr.wf (.txnAdd tc (tw 16)) = false ∧
    Instr.wf (.txnCommit tc (tw 16)) = false ∧ Instr.wf (.txnAbort tc (tw 16)) = false ∧ Instr.wf (.txnStatus tc (tw 16)) = false ∧
    Instr.wf (.memberReset tc (tw 16)) = false ∧ Instr.wf (.remoteRead tc 0 (tw 16)) = false ∧
    Instr.wf (.remoteWrite tc 0 (tw 16)) = false ∧ Instr.wf (.handover tc (tw 16)) = false := by
  decide

theorem test_wf_events : Instr.wf (.ppsEdge 2 true) = false ∧ Instr.wf (.todSentence 2 (tb 1)) = false ∧
    Instr.wf (.todSentence 0 (tb 83)) = false ∧ Instr.wf (.rfRxFrame 0 (List.replicate 385 0)) = false ∧
    Instr.wf (.cardAtr 0 400 (tb 34) []) = false ∧ Instr.wf (.cardAtr 0 400 [] (tb 7)) = false ∧
    Instr.wf (.hostLinkState 16 1) = false ∧ Instr.wf (.hostLinkState 1 64) = false ∧ Instr.wf (.multiframe 100) = false ∧
    Instr.wf (.writeSingleBlock {} 0 (tb 31)) = false ∧ Instr.wf (.extendedWriteSingleBlock {} 0 (tb 33)) = false ∧
    Instr.wf (.commandFetch 0 (.data (tb 65))) = false ∧ Instr.wf (.firstBlockDecided 0 (List.replicate 7 0)) = false ∧
    Instr.wf (.firstBlockDecided 0 (List.replicate 8 4096)) = false ∧ Instr.wf (.chirpFrameDue 0 { values := [4096] }) = false ∧
    Instr.wf (.sampleCell 0 0 (2 ^ 48) (List.replicate 8 0)) = false ∧ Instr.wf (.sampleCell 0 0 0 (List.replicate 7 0)) = false := by
  decide +kernel

theorem test_wf_long_lists : Instr.wf (.writeBlock tc 0 0 0 (.data (tb (2 ^ 20 + 1)))) = false ∧
    Instr.wf (.dmaToQueue 0 (.data (tb (2 ^ 20 + 1)))) = false ∧ Instr.wf (.descriptorFetch 0 (.data (tb 513))) = false ∧
    Instr.wf (.plcAckRx 0 .A (tb 2049)) = false ∧ Instr.wf (.plcFrameDue 0 .A { psdu := some (tb 2049) }) = false := by
  simp only [Instr.wf, HostAnswer.wf, shortList, tb, PlcRx.wf, List.length_replicate]
  decide

/-! ## Small states -/

/-- RUN with a live structure of factory values. -/
def base : State := { State.reset with mode := { mode := .RUN }, struct_ := { live := true } }

/-- The state with fields of the structure map set. -/
def withF (s : State) : List (Fld × Nat) → State
  | [] => s
  | (f, v) :: l => withF (s.setF f v) l

/-- The state an instruction answers. -/
def after (i : Instr) (s : State) : State :=
  match exec i s with
  | .next t => t
  | _ => s
def inMode (m : Mode) (s : State) : State := { s with mode := { s.mode with mode := m } }
def atNs (n : Nat) (s : State) : State := { s with dt := n * dtUnit }
/-- The register found at an address has the property. -/
def hitIs (a : Nat) (p : RegHit → Bool) : Bool := (regAt a).any p
/-- The host link is up. -/
def up (s : State) : State := s.setF F.HL_LINKSTAT_UP 1

/-! ## Chapter-wide statements -/

theorem test_witness_EmptyQueueStepIsOneCoreTick :
    ((inMode .OFF base).pending = [] ∧ (inMode .OFF base).mode.resetNext = none ∧ (inMode .OFF base).mode.mode = .OFF) ∧
    (base.pending = [] ∧ base.mode.resetNext = none ∧ base.mode.mode ≠ .OFF) ∧
    (∀ x ∈ [-(2 : Int) ^ 31, 2 ^ 31 - 1], -(2 : Int) ^ 31 ≤ x ∧ x < 2 ^ 31) := by
  decide

theorem test_witness_StepKeepsMemoriesCanonical : ∃ t, base.sound = true ∧ step base = .next t :=
  ⟨_, by decide, rfl⟩

theorem test_witness_ExecLeavesTheQueue : ∃ t, exec (.nop tc []) base = .next t := ⟨_, rfl⟩

def blownState : State := { base with fuse := { blown := true } }

theorem test_witness_BlownFuseStaysBlown : ∃ t, blownState.fuse.blown = true ∧ step blownState = .next t := ⟨_, by decide, rfl⟩

def fencedC : Cmd := { session := 0, tag := 5, fence := true }
def unprivC : Cmd := { session := 1, tag := 5 }
def fencedState : State := { base with host := { taken := [
  { session := 0, opcode := 5, tag := 4, fence := false }, { session := 0, opcode := opWRITE, tag := 5, fence := true }] } }

theorem test_witness_CommandsRefusedBeforeTheirRules :
    commandOf (.fuseArm fencedC) = some (fencedC, opWRITE) ∧ fencedState.fenced fencedC opWRITE = true ∧
    (let s := withF base [(F.BN_CFG_ROLE, roleMEMBER)]
     s.fenced tc opWRITE = false ∧ opWRITE ∉ [opNOP, opREAD, opREAD_BLOCK] ∧ s.benchRole = roleMEMBER) ∧
    (let s := inMode .DRAIN base
     s.fenced tc opWRITE = false ∧ s.benchRole ≠ roleMEMBER ∧ s.mode.mode = .DRAIN ∧ opWRITE ≠ opFULL_RESET) ∧
    (commandOf (.keyLoad unprivC []) = some (unprivC, opKEY_LOAD) ∧ base.fenced unprivC opKEY_LOAD = false ∧
     opKEY_LOAD ∉ [opNOP, opREAD, opREAD_BLOCK] ∧ base.benchRole ≠ roleMEMBER ∧ base.mode.mode ≠ .DRAIN ∧
     opKEY_LOAD ∈ [opKEY_LOAD, opLOAD_IMAGE, opFULL_RESET, opLEDGER_WRITE] ∧ unprivC.session.val ≠ 0 ∧
     base.getF (F.HL_SESS2_PRIV unprivC.session) = 0) := by
  decide

def quietC : Cmd := { session := 0, tag := 5, quiet := true }

theorem test_witness_NopAndReadComplete :
    (base.runs tc opNOP ∧ base.linkUp = false) ∧
    ((up base).runs quietC opNOP ∧ (up base).linkUp = true ∧ quietC.quiet = true) ∧
    ((up base).runs tc opNOP ∧ (up base).linkUp = true ∧ tc.quiet = false) ∧ base.runs tc opREAD ∧
    inMap 0xC000 1 = false ∧ inMap 0xBFFC 1 = true ∧ inMap 0 8 = true := by
  decide

/-- A word of queue memory that is poisoned, at the last word. -/
def poisonedState : State := { base with queues := { poison := [4194303] } }

theorem test_witness_LiveWordsOfTheMap :
    (base.mode.prev < 12 ∧ base.tags.inUse.length ≤ 8192 ∧ base.launch.entries.length ≤ 2048 ∧ base.notices.count ≤ 512 ∧
      base.host.taken.length ≤ 256 ∧ base.txn.slots.length ≤ 512) ∧
    ((4194303 : Nat) < 4194304 ∧ poisonedState.queues.poison.contains 4194303 = true ∧
      poisonedState.queues.poison.contains 0 = false) := by
  decide

/-! ## Registers -/

theorem test_witness_WriteRefusedWholeOrApplied :
    base.runs tc opWRITE ∧ inMap F.MD_DOMCTL 1 = true ∧ base.wordsRefused (base.privileged tc.session) F.MD_DOMCTL [1] = none ∧
    inMap 0xC000 13 = false ∧ base.wordsRefused (base.privileged unprivC.session) F.HL_NSTAT [0] = some stNOT_PRIVILEGED ∧
    inMap F.HL_NSTAT 1 = true ∧ (tw 13).length ≤ 13 ∧ 13 < (tw 14).length := by
  decide

/-- The registers whose writes do more than store. -/
def effectRegs : List Reg := [.MD_STATE, .MD_MODECTL, .MD_OPTAG, .MD_ABORTINFO, .CF_KEYSTAGE, .CF_FUSECTL, .TB_STEPCTL, .SC_LPGAIN,
  .SC_LPCAP, .SC_LANECTL, .CH_POOLSTAT, .QM_QCFG, .QM_QCTL, .HL_SESS2, .HL_NRING2, .HL_DRING2, .QMEM, .EP0]

theorem test_witness_PlainRegisterWriteStored :
    (hitIs F.MD_DOMCTL (fun h => !effectRegs.contains h.rd.reg && !h.rd.structural) = true ∧ base.runs tc opWRITE ∧
      inMap F.MD_DOMCTL 1 = true ∧ base.wordRefused (base.privileged tc.session) F.MD_DOMCTL 7 = none) ∧
    (hitIs (F.QM_QPLACE 0) (fun h => !effectRegs.contains h.rd.reg && h.rd.structural) = true ∧
      inMap (F.QM_QPLACE 0) 1 = true ∧ base.wordRefused (base.privileged tc.session) (F.QM_QPLACE 0) 7 = none) ∧
    (bar0Mirror 0x40 = some (F.HL_SESS0 0) ∧ hitIs (F.HL_SESS0 0) (fun h => !effectRegs.contains h.rd.reg && !h.rd.structural) = true ∧
      base.mode.mode ≠ .DRAIN ∧ base.wordRefused true (F.HL_SESS0 0) 64 = none) ∧
    (hitIs (F.QM_QSTAT 16383) (fun h => h.rd.reg == .QM_QSTAT) = true ∧ (1 : Word).bit 0 = true ∧ (0 : Word).bit 0 = false) := by
  decide

theorem test_witness_WritesWithEffects :
    base.runs tc opWRITE ∧ base.sound = true ∧ base.ns < 2 ^ 64 ∧ (wd (95 * 2 ^ 12 + 4 * 2 ^ 21)).field 18 12 ≤ 95 ∧
    (wd (95 * 2 ^ 12 + 4 * 2 ^ 21)).field 23 21 ≤ 4 ∧ (withF base [(F.SC_LANECTL_RUN 255, 1)]).getF (F.SC_LANECTL_RUN 255) = 1 ∧
    96 ≤ (withF base [(F.SC_LANECFG_PORT 0, 96)]).getF (F.SC_LANECFG_PORT 0) ∧ base.getF (F.SC_LPGAIN_RXGAIN 95) = (0 : Word).field 3 0 ∧
    base.getF (F.SC_LPGAIN_RXGAIN 95) ≠ (5 : Word).field 3 0 := by
  decide

theorem test_witness_SteppingDeviceTime :
    (base.runs tc opWRITE ∧ base.ref.timeValid = false) ∧
    (let s := { base with ref := { timeValid := true, rejected := true } }
     s.runs tc opWRITE ∧ s.ref.timeValid = true ∧ s.mode.mode ≠ .STANDBY ∧ s.mode.mode ≠ .ACQUIRE ∧ s.ref.rejected = true) ∧
    (let s := { inMode .STANDBY base with ref := { timeValid := true } }
     s.runs tc opWRITE ∧ s.mode.mode = .STANDBY ∧ s.ref.rejected = false) ∧
    ((inMode .ACQUIRE base).runs tc opWRITE ∧ (inMode .ACQUIRE base).mode.mode = .ACQUIRE) := by
  decide

/-- A notice of a code that may merge. -/
def routeMiss : Notice := { code := ncEVENT_CAPTURED, block := blockOfCode ncEVENT_CAPTURED 0, time := 0 }

theorem test_witness_NoticesWaitMergeOrAreLost :
    (ncMODE_CHANGE ≠ ncCOMPLETION ∧ neverMerged ncMODE_CHANGE = true ∧ base.notices.count < 512) ∧
    (neverMerged ncEVENT_CAPTURED = false ∧ ncEVENT_CAPTURED ≠ ncCOMPLETION ∧
      ({ base with notices := { buffer := [routeMiss] } } : State).notices.buffer.any (·.sameKey routeMiss) = true ∧
      base.notices.buffer.any (·.sameKey routeMiss) = false ∧ base.notices.spans.find? (·.hasKey routeMiss) = none ∧
      base.notices.spans.length < 64) := by
  decide

theorem test_witness_NoticesLost :
    512 ≤ ({ base with notices := { buffer := List.replicate 512 routeMiss } } : State).notices.count := by
  decide +kernel

def fuseState : State := { withF base [(F.CF_STATUS_SIGNED, 1)] with
  fuse := { armed := true }
  struct_ := { live := true, keyDigest := tb 48 } }

theorem test_witness_FuseArmBlowAndProgram :
    (fuseState.runs tc opWRITE ∧ fuseState.mode.mode = .RUN ∧ fuseState.getF F.CF_STATUS_SIGNED = 1 ∧ fuseState.fuse.armed = true ∧
      fuseState.fuse.busy = false ∧
      ((List.range 12).flatMap fun i => bytesLE 4 (aget 0 fuseState.fuse.stage i).toNat) = fuseState.struct_.keyDigest) ∧
    (base.runs tc opWRITE ∧ base.fuse.armed = false) ∧ ({ base with fuse := { busy := true } } : State).fuse.busy = true ∧
    ((List.range 12).flatMap fun i => bytesLE 4 (aget 0 base.fuse.stage i).toNat) ≠ base.struct_.keyDigest := by
  decide

/-- Queue 3 with two words ahead of R and a host item open. -/
def openState : State := (withF base [(F.QM_QWP_PTR 3, 2)]).setQst 3 { open_ := some { producer := .session 1, header := 2, len := 5, written := 1, since := 0 } }

/-- A transaction of bench 0 in slot 0 with staging queue 3. -/
def stagedTxn : Txn := { slot := 0, gen := 0, tag := 0, phase := .scheduled, age := { time := 0, frac := 0, member := 0 }, stageQ := some 3 }

theorem test_witness_QueueControlAndFlush :
    openState.runs tc opWRITE ∧ openState.qAhead 3 = 2 ∧ openState.qAhead 3 < 3 ∧ (3 : Nat) < 2 ^ 19 ∧
    openState.stageHolder 3 = none ∧ (openState.qst 3).behind = [] ∧ openState.sound = true ∧ (2 : Nat) < 2 ^ 19 ∧
    (∃ o, (openState.qst 3).open_ = some o ∧ o.producer.isHost = true) ∧
    (let s := { base with txn := { slots := [stagedTxn] } }
     s.stageHolder 3 = some stagedTxn ∧ stagedTxn.phase = .scheduled) := by
  refine ⟨by decide, by decide, by decide, by decide, by decide, by decide, by decide, by decide, ⟨_, rfl, by decide⟩, by decide⟩

/-! ## Host link and DMA -/

/-- Link up, bus master, window 0 over all of host memory, session 0, the notice ring and DMA ring 1 enabled. -/
def hostUp : State := withF base [(F.HL_LINKSTAT_UP, 1), (F.HL_LINKSTAT_BME, 1), (F.HL_WIN0_RD 0, 1), (F.HL_WIN0_WR 0, 1),
  (F.HL_WIN2_LIMIT_LO 0, 0xFFFFF), (F.HL_WIN3_LIMIT_HI 0, 0xFFFFFFFF), (F.HL_SESS2_EN 0, 1), (F.HL_NRING2_EN, 1), (F.HL_DRING2_EN 1, 1)]

theorem test_witness_DoorbellsAndRingEnable :
    (hostUp.getF (F.HL_SESS2_EN 0) = 1 ∧ (16 % 65536 + 65536 - hostUp.getF (F.HL_SESS5_CONS 0)) % 65536 ≤ 16 * 2 ^ hostUp.getF (F.HL_SESS2_SIZE 0) ∧
      16 * 2 ^ hostUp.getF (F.HL_SESS2_SIZE 0) < (17 % 65536 + 65536 - hostUp.getF (F.HL_SESS5_CONS 0)) % 65536) ∧
    (hostUp.getF F.HL_NRING2_EN = 1 ∧ (hostUp.getF F.HL_NRING5_PROD + 65536 - 65520 % 65536) % 65536 ≤ 16 * 2 ^ hostUp.getF F.HL_NRING2_SIZE ∧
      16 * 2 ^ hostUp.getF F.HL_NRING2_SIZE < (hostUp.getF F.HL_NRING5_PROD + 65536 - 65519 % 65536) % 65536) ∧
    (hostUp.getF (F.HL_DRING2_EN 1) = 1 ∧ (16 % 65536 + 65536 - hostUp.getF (F.HL_DRING3_CONS 1)) % 65536 ≤ 16 * 2 ^ hostUp.getF (F.HL_DRING2_SIZE 1) ∧
      16 * 2 ^ hostUp.getF (F.HL_DRING2_SIZE 1) < (17 % 65536 + 65536 - hostUp.getF (F.HL_DRING3_CONS 1)) % 65536) ∧
    (base.getF (F.HL_SESS2_EN 15) = 0 ∧ base.getF F.HL_NRING2_EN = 0 ∧ base.getF (F.HL_DRING2_EN 255) = 0) := by
  decide

def enabling : State := (hostUp.setF (F.HL_SESS2_SIZE 15) 8).setF (F.HL_SESS2_PRIV 15) 0
def closedBase : State := withF base [(F.HL_WIN0_RD 0, 0), (F.HL_WIN0_WR 0, 0)]
def closedWin : State := (closedBase.setF (F.HL_SESS2_SIZE 15) 8).setF (F.HL_SESS2_PRIV 15) 0

theorem test_witness_RingEnable :
    (hostUp.runs tc opWRITE ∧ hostUp.privileged tc.session = true ∧ (0x18 : Word).field 3 0 ≤ 8 ∧ hostUp.getF (F.HL_SESS2_EN 15) = 0 ∧
      enabling.getF (F.HL_SESS2_EN 15) = 0 ∧ (0x18 : Word).bit 4 = true ∧ enabling.ringOk (.session 15) = true) ∧
    (closedBase.runs tc opWRITE ∧ closedBase.getF (F.HL_SESS2_EN 15) = 0 ∧ closedWin.getF (F.HL_SESS2_EN 15) = 0 ∧ closedWin.ringOk (.session 15) = false) ∧
    (let s := withF hostUp [(F.HL_NRING2_EN, 0)]
     s.getF F.HL_NRING2_EN = 0 ∧ s.mode.firstNoticeOwed = true ∧ s.mode.mode ≠ .DRAIN ∧
     (s.setF F.HL_NRING2_SIZE ((0x18 : Word).field 3 0)).getF F.HL_NRING2_EN = 0 ∧
     (s.setF F.HL_NRING2_SIZE ((0x18 : Word).field 3 0)).ringOk .notice = true) := by
  decide

def latched : State := after (.nowLoRead 3 F.TB_NOW_LO false) base

theorem test_witness_SnapshotReadsThroughBar0 :
    rsPartners F.TB_NOW_LO ≠ [] ∧ rsFirst F.TB_NOW_FRAC = some F.TB_NOW_LO ∧ latched.shadowWord F.TB_NOW_LO 3 F.TB_NOW_FRAC = some 0 ∧
    ((latched.shadowsOf F.TB_NOW_LO).filter (·.requester == 3)).length ≤ 1 ∧ base.shadowWord F.TB_NOW_LO 3 F.TB_NOW_FRAC = none := by
  decide

/-- Every DMA tag is in use. -/
def noTags : State := { hostUp with tags := { dma := { next := 100000 }, shared := { next := 100000 } } }

theorem test_witness_BlockCopies :
    (hostUp.runs tc opREAD_BLOCK ∧ hostUp.runs tc opWRITE_BLOCK) ∧
    (inMap 0xBFFC (4 / 4) = true ∧ inMap 0xBFFC (8 / 4) = false ∧ inMap 0x10000000 (1048576 / 4) = true) ∧
    (hostUp.hostOk 0 1048576 true = true ∧ hostUp.hostOk 0 1048576 false = true ∧ closedBase.hostOk 0 4 true = false ∧
      closedBase.hostOk 0 4 false = false) ∧
    hostUp.canRead (.block tc) ∧
    (noTags.hostOk 0 4 true = true ∧ noTags.host.heldDma = [] ∧ noTags.readTag (.block tc) = none ∧ noTags.tags.take tcDMA = none) ∧
    (tb 4).length = 4 ∧ 4 ≤ 4 * groupLen (F.HL_SESS0 0) ∧
    hostUp.wordsRefused true (F.HL_SESS0 0) (wordsOfBytes (tb 4)) = none := by
  decide

def startWord (n : Nat) : Word := itemHeader n

theorem test_witness_Enqueue :
    base.runs tc opENQUEUE ∧ base.txn.flushes = [] ∧ State.reset.qUsable 3 = false ∧ State.reset.runs tc opENQUEUE ∧ base.qUsable 3 = true ∧
    (base.qst 3).orphans = [] ∧ (base.qst 3).open_ = none ∧ (base.qst 3).behind = [] ∧
    (openState.qst 3).open_.any (fun o => o.producer != .session (tc.session)) = true ∧ (openState.qst 3).orphans = [] ∧
    openState.qUsable 3 = true ∧ (0 : Word).bit 31 = false ∧ (startWord 0).field 17 0 = 0 ∧
    base.qSize 3 < (startWord (base.qSize 3 + 1)).field 17 0 ∧ (startWord 13).bit 31 = true ∧ (startWord 13).field 17 0 = (tw 12).length + 1 ∧
    (tw 12).length + 1 ≤ base.qSize 3 ∧ (tw 12).length + 1 ≤ base.qRoom 3 ∧
    (base.setQst 3 { reserved := base.qSize 3 }).qRoom 3 < (tw 12).length + 1 ∧ base.mode.twinDriven = false := by
  decide

/-- One command waits in session 0's ring. -/
def oneCommand : State := withF hostUp [(F.HL_SESS5_PROD 0, 1)]
def fetchZ : State := { oneCommand.setF (F.HL_SESS5_CONS 0) 1 with
  host := { lastServed := 0, taken := [{ session := 0, opcode := 0, tag := 0, fence := false }] } }

theorem test_witness_CommandTakenFromItsRing :
    (oneCommand.linkUp = true ∧ oneCommand.getF F.HL_LINKSTAT_BME = 1 ∧ oneCommand.host.taken.length < 256 ∧
      oneCommand.nextSession = some 0 ∧ oneCommand.hostOk (oneCommand.ringAddr (.session 0) 0) 64 false = true ∧
      fetchZ.hostOk (fetchZ.ringWb (.session 0)) 4 true = true ∧ fetchZ.linkUp = true) ∧
    ((wordAt (wordsOfBytes (tb 64)) 0).field 23 20 = 0 ∧ opcodeKnown ((wordAt (wordsOfBytes (tb 64)) 0).field 31 24) = true) ∧
    (wordAt (wordsOfBytes ([0, 0, 0x10, 0] ++ tb 60)) 0).field 23 20 ≠ 0 ∧
    (let s := withF oneCommand [(F.HL_WIN0_RD 0, 0)]
     s.nextSession = some 0 ∧ s.hostOk (s.ringAddr (.session 0) 0) 64 false = false) ∧
    (base.linkUp = false ∧ base.getF F.HL_LINKSTAT_BME = 0) := by
  decide

/-- A notice of block 9 waits. -/
def waiting : Notice := { code := ncSESSION_ERROR, block := 9, time := 7 }
def noticeState : State := { hostUp with notices := { buffer := [waiting] } }
def noticeZ : State := { noticeState.setF F.HL_NRING5_PROD 1 with out := [.hostWrite (noticeState.ringAddr .notice 0) waiting.bytes] }
def spanState (h : Option Notice) : State := atNs 1002000 { base with
  notices := { spans := [{ code := 2, block := 0, unit := 0, member := 0, ext := 0, last := 0, gap := 1000000, held := h }] } }

theorem test_witness_NoticesReachTheHost :
    (noticeState.notices.buffer = [waiting] ∧ noticeState.notices.lostSince = 0 ∧ (∀ m ∈ [waiting], tokenFree m = true) ∧
      noticeState.getF F.HL_NRING5_PROD = 0 ∧ noticeState.noticeRoom = true ∧
      noticeState.hostOk (noticeState.ringAddr .notice 0) 64 true = true ∧ noticeZ.hostOk (noticeZ.ringWb .notice) 4 true = true ∧
      noticeZ.getF F.HL_NRING6_IRQ_COUNT ≤ noticeState.notices.unsignalled + 1) ∧
    (noticeState.notices.unsignalled + 1 < (withF noticeZ [(F.HL_NRING6_IRQ_COUNT, 2)]).getF F.HL_NRING6_IRQ_COUNT) ∧
    base.noticeRoom = false ∧
    ((completionNotice 0 0 tc 0 0 []).code = ncCOMPLETION ∧ (completionNotice 0 0 tc 0 0 []).block < 256 ∧
      (completionNotice 0 0 tc 0 0 []).count < 65536) ∧
    (let s := atNs 1000 { withF hostUp [(F.HL_NRING6_IRQ_TIME, 1)] with notices := { unsignalled := 1 } }
     s.getF F.HL_NRING6_IRQ_TIME ≠ 0 ∧ s.notices.unsignalled ≠ 0 ∧
     s.notices.firstUnsignalled + 1000 * s.getF F.HL_NRING6_IRQ_TIME ≤ s.ns ∧
     (atNs 999 s).ns < s.notices.firstUnsignalled + 1000 * s.getF F.HL_NRING6_IRQ_TIME) ∧
    (let s := { hostUp with host := { msix := [(3, 0)] } }
     s.masked 0 = false ∧ s.getF F.HL_LINKSTAT_BME = 1 ∧ s.linkUp = true) ∧
    base.notices.lastMs ≤ base.ns / 1000000 ∧
    ((spanState none).notices.spans.all (fun sp => decide (sp.last + sp.gap + 2000 ≤ (spanState none).ns)) = true ∧
      (atNs 1001999 (spanState none)).notices.spans.all (fun sp => decide (1001999 < sp.last + sp.gap + 2000)) = true ∧
      (spanState (some waiting)).notices.spans.all (·.held == some waiting) = true) := by
  decide

theorem test_witness_LossAndReturnOfTheHostLink :
    hostUp.sound = true ∧ hostUp.linkUp = true ∧ hostUp.host.pba = [] ∧ base.linkUp = false ∧ base.mode.mode ≠ .OFF := by
  decide

/-- One entry in DMA ring 1. -/
def oneDesc : State := withF hostUp [(F.HL_DRING3_PROD 1, 1)]
/-- A descriptor word 0: OWN, KIND, LEN. -/
def descBytes (own kind len : Nat) : List Byte := bytesLE 4 (own * 2 ^ 31 + kind * 2 ^ 28 + len) ++ tb 28
def descWords (b : List Byte) : List Word := (List.range 8).map (wordAt (wordsOfBytes b))

theorem test_witness_DescriptorsFetchedAndRefused :
    (oneDesc.linkUp = true ∧ oneDesc.getF F.HL_LINKSTAT_BME = 1 ∧ oneDesc.ringOn (.dma 1) = true ∧ oneDesc.dmaRing 1 = {} ∧
      (oneDesc.getF (F.HL_DRING3_PROD 1) + 131072 - oneDesc.getF (F.HL_DRING3_CONS 1)) % 65536 = 1 ∧
      oneDesc.canRead (.fetch 1) ∧
      oneDesc.hostOk (oneDesc.ringAddr (.dma 1) 0) 32 false = true) ∧
    ((descBytes 1 0 4).length = 32 ∧ dOwn (descWords (descBytes 1 0 4)) = true ∧ oneDesc.mode.mode ≠ .DRAIN ∧
      oneDesc.descRefused 1 (descWords (descBytes 1 0 4)) = none ∧ dKind (descWords (descBytes 1 0 4)) = 0 ∧
      dKind (descWords (descBytes 1 1 4)) ≠ 0) ∧
    (oneDesc.descRefused 1 (descWords (descBytes 1 0 5))).isSome = true ∧
    dOwn (descWords (descBytes 0 0 4)) = false ∧ (inMode .DRAIN oneDesc).mode.mode = .DRAIN ∧
    (withF oneDesc [(F.HL_WIN0_RD 0, 0)]).hostOk (oneDesc.ringAddr (.dma 1) 0) 32 false = false := by
  decide

def runningDma (kind len : Nat) (f : DescRun → DescRun) (s : State) : State :=
  s.setDmaRing 1 { run := some (f { desc := { index := 0, words := [wd (2 ^ 31 + kind * 2 ^ 28 + len), 3] } }) }
/-- The read of the descriptor of ring 1 is open under the first DMA tag. -/
def reading (s : State) : State := s.readIssue (.run 1)
/-- A complete item of two words in queue 3. -/
def itemState : State := withF ((hostUp.setQword (hostUp.qAddr 3 0) (startWord 2)).setQword (hostUp.qAddr 3 1) 9) [(F.QM_QWP_PTR 3, 2)]

theorem test_witness_DescriptorsRunAndWriteBack :
    (let s := reading (runningDma 0 512 id hostUp)
     (s.dmaRing 1).run.any (fun d => dKind d.desc.words == 0 && !d.waiting && !dRemote d.desc.words && dLen d.desc.words % 4 == 0 &&
       decide (4 ≤ dLen d.desc.words) && decide (dLen d.desc.words ≤ 512)) = true ∧
     s.linkUp = true ∧ s.getF F.HL_LINKSTAT_BME = 1 ∧ (s.readTag (.run 1)).isSome = true) ∧
    (let s := runningDma 1 8 id itemState
     (s.dmaRing 1).run.any (fun d => dKind d.desc.words == 1 && !d.waiting && dQueue d.desc.words == 3 && decide (4 * 2 ≤ dLen d.desc.words)) = true ∧
     s.qUsable 3 = true ∧ s.qHeadLost 3 = false ∧ s.qItemAt 3 (s.qR 3) = some 2 ∧ s.qPoisoned 3 (s.qR 3) 2 = false ∧
     hostUp.qItemAt 3 (hostUp.qR 3) = none) ∧
    (runningDma 1 7 id itemState).dmaRing 1 = { run := some { desc := { index := 0, words := [wd (2 ^ 31 + 2 ^ 28 + 7), 3] } } } ∧
    (let s := reading (runningDma 1 8 (fun d => { d with waiting := true }) itemState)
     (s.dmaRing 1).run.any (fun d => d.waiting && dKind d.desc.words == 1) = true ∧ (s.readTag (.run 1)).isSome = true) ∧
    (let s := runningDma 0 512 id hostUp
     (s.dmaRing 1).run.isSome = true ∧ (s.dmaRing 1).fetched = [] ∧ s.readTag (.run 1) = none ∧ .run 1 ∉ s.host.heldDma) ∧
    ((hostUp.setDmaRing 1 {}).hostOk ((hostUp.setDmaRing 1 {}).ringAddr (.dma 1) 0) 32 true = true ∧ closedBase.hostOk 0 32 true = false ∧
      dInt [wd (2 ^ 30)] = true) := by
  decide

/-- DMA ring 247 is the ledger's, with a dump request in progress whose response holds `len` bytes. -/
def dumpState (len : Nat) (held : Option Nat) : State :=
  hostUp.setDmaRing 247 { run := some { desc := { index := 0, words := [wd (2 ^ 31 + 2 * 2 ^ 28 + 4), wd len] }, held := held } }
def claimed (b : Nat) (x : ClaimSide) (s : State) : State := { s with service := { s.service with claims := [(b, x)] } }
def copies (a b : LedgerCopy) (s : State) : State := { s with service := { s.service with copies := [(800, a), (801, b)] } }

theorem test_witness_LedgerDump :
    ((dumpState 32 none).linkUp = true ∧ (dumpState 32 none).getF F.SV_CFG_RING = 247 ∧
      ((dumpState 32 none).dmaRing 247).run.any (fun d => dKind d.desc.words == 2 && !d.waiting && d.moved == 0 && d.held.isNone &&
        decide (32 ≤ dRespLen d.desc.words)) = true) ∧
    (natLE (([0, 2, 1, 0] : List Byte).take 2) = 512 ∧ natLE ((([0, 2, 1, 0] : List Byte).drop 2).take 2) = 1 ∧
      natLE (([100, 0, 1, 0] : List Byte).take 2) = 100 ∧ hostBlock 100 = false) ∧
    ((dumpState 31 none).dmaRing 247).run.any (fun d => decide (dRespLen d.desc.words < 32)) = true ∧
    ((claimed 5 .field (dumpState 32 (some 0))).lclaim 5 = some .field ∧ 0 + 10000000 ≤ (atNs 10000000 base).ns ∧
      (dumpState 32 none).lclaim 100 ≠ some .field ∧ (dumpState 32 none).canRead (.run 247) ∧
      (dumpState 32 none).getF F.HL_LINKSTAT_BME = 1) := by
  decide

theorem test_witness_LedgerAccess :
    (base.runs tc opLEDGER_READ ∧ base.runs tc opLEDGER_WRITE ∧ base.lclaim 79 = none ∧ base.lclaim 511 = none) ∧
    (claimed 79 .field base).lclaim 79 ≠ none ∧
    (1 ≤ ((({} : LedgerCopy).seq + 127 + 256) - 0) % 256 ∧ ((127 + 256) - 0) % 256 ≤ 127 ∧ 127 < (128 + 256 - 0) % 256) ∧
    ({ data := [], seq := 0, valid := false } : LedgerCopy).valid = false ∧
    (let op : LedgerWriteOp := { block := 400, data := [], cmd := some tc }
     let s : State := { base with service := { writes := [op] } }
     s.service.writes.find? (·.block == 400) = some op ∧ op.tries = 0 ∧ s.service.writes.find? (·.block == 401) = none) ∧
    (let w : LedgerWait := { block := 400, cmd := tc, write := none, since := 0 }
     let s : State := atNs 10000000 { base with service := { waits := [w], claims := [(400, .field)] } }
     s.service.waits.find? (fun x => x.block == 400 && decide (x.since + 10000000 ≤ s.ns)) = some w ∧ s.lclaim 400 = some .field ∧
     (∀ x ∈ s.service.waits, x.block = 400 → (atNs 9999999 s).ns < x.since + 10000000)) ∧
    (let s : State := { base with tick := 3600 * 614400000 }
     aonCount s.service.powered + (s.service.lifeHour + 1) * hourCycles ≤ aonCount s.tick ∧
      base.lclaim 10 ≠ some .field ∧ base.lclaim 15 ≠ some .field ∧
      aonCount base.tick < aonCount base.service.powered + (base.service.lifeHour + 1) * hourCycles) := by
  decide

def clocked (x y : LedgerCopy) : State := copies x y base

theorem test_witness_LedgerCopies :
    ((clocked {} { seq := 127 }).lcopy 400 0).valid = true ∧ ((clocked {} { seq := 127 }).lcopy 400 1).seq = 127 ∧
    ((clocked {} { seq := 128 }).lcopy 400 1).seq = 128 ∧ ((clocked { valid := false } {}).lcopy 400 0).valid = false ∧
    ((clocked { valid := false } { valid := false }).lcopy 400 1).valid = false := by
  decide

/-! ## Keys, routes, ciphers -/

/-- The example of RFC 3394, section 4.1: KEK 00..0F wraps key 00112233..FF. -/
def kek : List Byte := (List.range 16).map (BitVec.ofNat 8)
def plainKey : List Byte := (List.range 16).map fun i => BitVec.ofNat 8 (17 * i)
def wrapped : List Byte := [0x1F, 0xA6, 0x8B, 0x0A, 0x81, 0x12, 0xB4, 0x47, 0xAE, 0xF3, 0x4B, 0xD8, 0xFB, 0x5A, 0x7B, 0x82,
  0x9D, 0x3E, 0x86, 0x23, 0x71, 0xD2, 0xCF, 0xE5]

/-- Drawer 0 is a KEK of partition 0, usable by session 0; entry slot 131071 holds a key. -/
def keyState : State := { withF base [(F.CX_DPART0_SIZE 0, 4), (F.CX_DPART0_USE 0, 8), (F.CX_DPART1_SESSIONS 0, 1)] with
  cipher := { keys := [(131071, { cur := some kek }), (2 ^ 17, { cur := some kek })] } }
def loadWords (op : Nat) : List Word := wd (op + 131071 * 16) :: 0 :: wordsOfBytes wrapped

theorem test_key_unwrap_rfc3394 : keyState.checkLoad (loadWords 0) (some 0) = (stOK, plainKey) := by decide +kernel

theorem test_witness_KeyLoads :
    keyState.sound = true ∧ klTarget (loadWords 0) = 131071 ∧ keyState.runs tc opKEY_LOAD ∧ klOp (loadWords 0) = 0 ∧ klOp (loadWords 1) = 1 ∧
    keyState.checkLoad (loadWords 2) (some 0) = (stOK, []) ∧ klOp (loadWords 2) = 2 ∧
    keyState.checkLoad (loadWords 3) (some 0) = (stOK, []) ∧ (keyState.keysOf 131071).cur ≠ none ∧
    base.checkLoad (loadWords 3) (some 0) = (stOK, []) ∧ base.keysOf 131071 = {} ∧
    klOp (loadWords 4) = 4 ∧ slotOk (2 ^ 17 + 4096) = false ∧ slotOk (2 ^ 17 + 4095) = true ∧ klSize [wd 8] = 1 ∧
    klForm (loadWords 0) = true ∧ (withF keyState [(F.CX_DPART0_USE 0, 7)]).drawerUse (klKek (loadWords 0)) useKEK (some 0) = false ∧
    (base.checkLoad (loadWords 0) (some 0)).1 = stNO_KEY := by
  decide +kernel

theorem test_witness_RolloverWindow :
    (let s := atNs 60000000000 (withF keyState [(slROLLING 131071, 1), (F.CX_ROLLCFG_WINDOW, 1)])
     (KeySlot.endpoint 131071).name = 131071 ∧ s.sound = true ∧ s.flag (slROLLING 131071) = true ∧ s.getF F.CX_ROLLCFG_WINDOW ≠ 0 ∧
     (s.keysOf 131071).rolled + 60000000000 * s.getF F.CX_ROLLCFG_WINDOW ≤ s.ns ∧
     (atNs 59999999999 s).ns < (s.keysOf 131071).rolled + 60000000000 * s.getF F.CX_ROLLCFG_WINDOW) ∧
    (withF base [(F.CX_ROLLCFG_WINDOW, 0)]).getF F.CX_ROLLCFG_WINDOW = 0 := by
  decide

/-- A route word: MEDIUM and PORT. -/
def routeWord (m p : Nat) : Word := wd (2 * m + 8 * p)

theorem test_witness_RoutesInsertedAndRemoved :
    (routeWord 3 0).field 2 1 = 3 ∧ base.runs tc opROUTE_INSERT ∧ base.runs tc opROUTE_REMOVE ∧
    (State.reset.runs tc opROUTE_INSERT ∧ State.reset.struct_.live = false) ∧ (inMode .DEFAULTED base).mode.mode = .DEFAULTED ∧
    base.struct_.live = true ∧ base.mode.mode ≠ .DEFAULTED ∧ routeOk (routeWord 0 32) = false ∧ routeOk (routeWord 0 31) = true ∧
    routeOk (routeWord 1 95) = true ∧ routeOk (routeWord 2 4) = false ∧ base.sound = true ∧ base.getF (F.RT0_VALID 0) = 0 ∧
    (∀ k < 1, (withF base [(F.RT0_VALID 0, 1)]).getF (F.RT0_VALID k) = 1) ∧ (withF base [(F.RT0_VALID 0, 1)]).getF (F.RT0_VALID 1) = 0 ∧
    base.getF (F.RT0_VALID 65535) = 0 := by
  decide +kernel

/-- A CIPHER request of an operation on entry slot 131071, queue 3 to queue 4, with so many message bytes. -/
def cqWords (op tagLen m : Nat) : List Word := [wd (op + 16 * tagLen), wd 131071, wd (3 + 4 * 2 ^ 16), wd (m * 2 ^ 16)]
def cipherReq (w : List Word) : CipherReq := { tag := 7, requester := 0, cls := 0, job := .host tc w, cur := some kek, prev := none, pair := 0, started := 0 }
/-- A request in the engine over an item of two words in queue 3. -/
def cipherState (w : List Word) : State := { itemState with cipher := { reqs := [cipherReq w] } }
def cipherX (w : List Word) : State := State.giveTag { cipherState w with cipher := {} } 7

theorem test_witness_CipherAsked :
    keyState.runs tc opCIPHER ∧ cqForm (cqWords 1 3 0) = false ∧ cqForm (cqWords 1 1 0) = true ∧ isDrawer (cqSlot (cqWords 3 3 0)) = false ∧
    cqForm (cqWords 3 3 0) = true ∧ cqOp (cqWords 3 3 0) = 3 ∧ (keyState.keysOf 131071).cur ≠ none ∧ cqGen (cqWords 1 1 0) = false ∧
    keyState.domOn domCPH = true ∧ ({ keyState with domains := { states := [(domCPH, 0)] } } : State).domOn domCPH = false ∧
    keyState.cipher.reqs.length < 1024 ∧ 1024 ≤ (List.replicate 1024 (cipherReq [])).length ∧ (keyState.takeTag tcCIPHER).2.isSome = true ∧
    (keyState.takeTag tcCIPHER).1.cipher = keyState.cipher ∧ (keyState.takeTag tcCIPHER).1.map = keyState.map ∧
    (keyState.takeTag tcCIPHER).1.dt = keyState.dt := by
  decide +kernel

theorem test_witness_CipherEnds :
    (let x := cipherX (cqWords 1 1 4)
     x.qUsable 3 = true ∧ x.qHeadLost 3 = false ∧ x.qFront 3 = some [startWord 2, 9] ∧ x.qPoisoned 3 (x.qR 3) 2 = false ∧
     cqNeed (cqWords 1 1 4) ≤ 4 * (2 - 1) ∧ 4 * (2 - 1) < cqNeed (cqWords 1 1 5) ∧
     (cqResult (cqWords 1 1 4) kek (bytesOfWords [9])).isSome = true ∧
     (x.qHwItem 4 (.hw 7 0) (itemOf (tw 2))).2 = true ∧ (x.qHwItem 16383 (.hw 7 0) (itemOf (tw 2))).2 = false) ∧
    cqResult (cqWords 2 1 0) kek (bytesOfWords [9]) = none ∧ (cipherX (cqWords 1 1 4)).qUsable 16383 = false := by
  decide +kernel

/-- A radio frame of zeros secured with `kek`: level 1, counter 1. -/
def securedBody : List Byte := secureBytes kek 0 1 1 (tb 20 ++ [1, 1, 0, 0, 0]) [7]
def rxOf (body : List Byte) : RxFrame := { medium := 1, port := 0, record := [], body := body, due := 0, end_ := 0 }
def verifyReq (f : RxFrame) (a b : Option (List Byte)) : CipherReq :=
  { tag := 7, requester := 0, cls := 0, job := .verify f 0 0, cur := a, prev := b, pair := 0, started := 0 }
def relayJob : RelayOut := { src := rxOf [], medium := 0, port := 0, queue := 4, ep := 0, desc := [], header := [], payload := [] }
/-- A power-line frame with a security header and counter 1. -/
def plcSecured (n : Nat) : RxFrame := { medium := 0, port := 0, record := [], body := [0, 4] ++ tb 14 ++ bytesLE 4 n ++ tb 20, due := 0, end_ := 0 }
def floorState : State := withF base [(F.EP4_EVT_RX 131071, 5)]

theorem test_witness_FramesVerifiedAndSecured :
    levelOk (secLevel securedBody 20) 1 = true ∧ (rxOf securedBody).mac.secAt = 20 ∧ (rxOf securedBody).mac.tx = 0 ∧
    (verifyBytes kek 0 20 securedBody).isSome = true ∧ verifyBytes plainKey 0 20 securedBody = none ∧
    levelOk (secLevel (tb 30) 20) 0 = false ∧ floorState.sound = true ∧ floorState.getF (F.EP4_EVT_RX 131071) = 5 := by
  decide +kernel

/-! ## Launch queue and sample chain -/

/-- A MARKER on line port 95 at 1,000 ns, and other entries. -/
def markerWords (t : Nat) : List Word := entryWords leTypeMARKER 0 95 t
def lqe (w : List Word) : LqEntry := { entry := 2047, gen := 0, words := w, inserter := .host, seq := 0 }
def queued (e : LqEntry) (s : State) : State := { s with launch := { entries := [e], pool := { next := 2048 } } }
/-- The entry has come due in the state's tick. -/
def dueNow (s : State) (e : LqEntry) : LqEntry := { e with due := some s.tick, dueAt := some (leTime16 e.words), ready := true }

theorem test_witness_LaunchInserts :
    (List.range 8).map (wordAt (markerWords 1000)) = markerWords 1000 ∧ leBench (markerWords 1000) = false ∧
    leHasAngle (markerWords 1000) = false ∧ leAnglePort (markerWords 1000) < 96 ∧ base.runs tc opLAUNCH ∧
    base.hostForm (markerWords 1000) = true ∧ leTargetOk (markerWords 1000) = true ∧ leType (markerWords 1000) ≠ leTypeEVENT_EDGE ∧
    base.mode.mode ≠ .DRAIN ∧ leDomain (markerWords 1000) = some (domOfLine 95) ∧ base.domOn (domOfLine 95) = true ∧
    leTime16 (markerWords 999) < (base.ns + leLead (markerWords 999)) * 65536 + base.frac ∧
    (base.ns + leLead (markerWords 1000)) * 65536 + base.frac ≤ leTime16 (markerWords 1000) ∧
    leTime16 (markerWords (2 ^ 48)) ≤ (base.ns + 2 ^ 48) * 65536 + base.frac ∧
    (base.ns + 2 ^ 48) * 65536 + base.frac < leTime16 (markerWords (2 ^ 48 + 1)) ∧ base.launch.entries.length < 2048 ∧
    2048 ≤ (List.replicate 2048 (lqe [])).length ∧ base.launch.pool.take 2048 32 = some (0, 0, { next := 1 }) ∧
    leType (entryWords leTypeCOMMIT 4 0 5000) = leTypeCOMMIT ∧
    (withF base [(F.TB_EVTCFG_DIR 15, 1)]).getF (F.TB_EVTCFG_DIR (leIndex (entryWords leTypeEVENT_EDGE 5 15 5000))) = 1 ∧
    leGainOk (entryWords leTypeGAIN 0 95 5000 15) = true := by
  decide +kernel

theorem test_witness_LaunchCancelsAndStages :
    (let s := queued (lqe (markerWords 1000)) base
     s.runs tc opLAUNCH_CANCEL ∧ s.lqAt (2047 % 2048) = some (lqe (markerWords 1000)) ∧ (lqe (markerWords 1000)).gen = 2047 / 2048 % 32 ∧
     (lqe (markerWords 1000)).item = none ∧ afind s.chirp.sending (lqe (markerWords 1000)).port = none ∧
     s.lqDue (lqe (markerWords 1000)) = false ∧ (lqe (markerWords 1000)).outside = false ∧
     ((atNs 1000 s).lqMark.lqAt 2047).any (fun e => (atNs 1000 s).lqMark.lqDue e) = true ∧ (lqe (markerWords 1000)).due = none ∧
     leHasAngle (markerWords 1000) = false ∧
     leTime16 (markerWords 2000) ≤ (s.ns + 2000) * 65536 + s.frac ∧ (s.ns + 2000) * 65536 + s.frac < leTime16 (markerWords 2001)) ∧
    (base.lqAt (5 % 2048) = none ∧ afind base.launch.past (5 % 2048) = none) := by
  decide +kernel

/-- A due action. -/
def dueE (w : List Word) (rfc : Nat) : LqEntry := { dueNow base (lqe w) with rfc := rfc }
def dueAction (w : List Word) (rfc : Nat) (s : State) : State := atNs 5000 (queued (dueE w rfc) s)

theorem test_witness_LaunchedActionsTakeEffect :
    (let e := dueE (entryWords leTypePLC_BAND 0 95 5000 1) 0
     let s := dueAction e.words 0 (withF base [(F.SC_LPCFG_BANDS 95, 1)])
     s.lqAt 2047 = some e ∧ s.lqReady e = true ∧ s.actionStop e = none ∧ leType e.words = leTypePLC_BAND ∧
     (∀ b < 4, (wordAt e.words 5).bit b = true → s.getF (F.SC_LPCFG_BANDS e.port) / 2 ^ b % 2 = 1)) ∧
    (let e := dueE (entryWords leTypePLC_BAND 0 95 5000 15) 0
     ∃ b < 4, (wordAt e.words 5).bit b = true ∧ (withF base [(F.SC_LPCFG_BANDS 95, 1)]).getF (F.SC_LPCFG_BANDS e.port) / 2 ^ b % 2 = 0) ∧
    (∀ r ∈ [1, 2], let e := dueE (entryWords leTypeRF_TUNE 3 31 5000 9) r
     let s := dueAction e.words r base
     s.lqReady e = true ∧ s.actionStop e = none ∧ leType e.words = leTypeRF_TUNE ∧ e.rfc = r) ∧
    (let e := dueE (entryWords leTypeRF_PROFILE 3 31 5000 9) 1
     let s := dueAction e.words 1 base
     s.lqReady e = true ∧ s.actionStop e = none ∧ leType e.words = leTypeRF_PROFILE) ∧
    ((wordAt (entryWords leTypeGAIN 0 95 5000 0x85) 5).bit 7 = true ∧ (wordAt (entryWords leTypeGAIN 0 95 5000 5) 5).bit 7 = false ∧
      leKind (entryWords leTypeGAIN 3 31 5000 5) = 3 ∧ base.getF (F.SC_LPGAIN_TXATT 95) = 0 ∧
      base.getF (F.SC_LPGAIN_TXATT 95) ≠ (wordAt (entryWords leTypeGAIN 0 95 5000 0x85) 5).field 4 0 ∧ (withF base [(F.TB_EVTCFG_DIR 15, 0)]).getF (F.TB_EVTCFG_DIR 15) = 0) ∧
    (let e := dueE (entryWords leTypeEVENT_EDGE 5 15 5000 1) 0
     let s := dueAction e.words 0 (withF base [(F.TB_EVTCFG_DIR 15, 1)])
     s.lqReady e = true ∧ s.actionStop e = none ∧ s.getF (F.TB_EVTCFG_DIR (leIndex e.words)) = 1) ∧
    (let e := dueE (markerWords 5000) 0
     let s := dueAction e.words 0 base
     s.lqReady e = true ∧ s.actionStop e = none ∧ leType e.words = leTypeMARKER ∧ (inMode .FAULT s).lqReady e = true ∧
     (inMode .FAULT s).sentBefore = none ∧
     (inMode .FAULT s).actionStop e = some stMODE_SILENT ∧ leKind e.words = 0 ∧ base.lqReady (lqe (markerWords 5000)) = false) ∧
    ({ base with domains := { states := [(domOfLine 95, 0)] } } : State).domOn (domOfLine 95) = false := by
  decide +kernel

/-- A good frame with counter 32: header, counter, LOCK set, no CHG, and its CRC. -/
def frameChars (bad : Nat) : List LinkChar :=
  let b : List Byte := [0x5A, 32, 0, 0, 0, 2, 0] ++ tb 160
  kStart :: (b ++ bytesLE 2 (crc16 b + bad)).map (·.setWidth 9) ++ List.replicate 214 0x17C
/-- Link 31 aligned with the last frame's counter 0, pair `c0` at the moment of the state. -/
def alignedLink (c0 : Nat) : State := atNs 15625 { withF base [(F.SC_RFSTAT_STATE 31, 2)] with
  sample := { links := [(31, { last := some 0, mapped := true, c0 := c0 })] } }

theorem test_witness_SampleChainEvents :
    (withF base [(F.SC_RFSTAT_STATE 31, 0)]).getF (F.SC_RFSTAT_STATE 31) = 0 ∧
    (let s := alignedLink 32
     s.getF (F.SC_RFSTAT_STATE 31) = 2 ∧ rfFrameWhole (frameChars 1) = true ∧ frameCrcOk (frameChars 1) = false ∧
      rfFrameWhole ((frameChars 0).take 383) = false ∧ rfFrameGood (frameChars 0) = true ∧ (rfChg (frameChars 0)).testBit 7 = false ∧
      (rfFlags (frameChars 0)).testBit 1 = true ∧ (rfFlags (frameChars 0)).testBit 0 = false ∧ (s.rfLink 31).locked = true ∧
      (s.rfLink 31).last = some 0 ∧ s.rfExtend 31 (rfCounter (frameChars 0)) (s.rfArrival 31) = 0 + 32 ∧
      s.rfStamp 31 (0 + 32 : Nat) ≤ s.now16 ∧ (s.now16 : Int) ≤ s.rfStamp 31 (0 + 32 : Nat) + 12500 * 65536 ∧
      ∀ d ∈ s.chirp.demods, d.lender = none) ∧
    ((alignedLink 160).rfStamp 31 (0 + 32) + 12500 * 65536 ≤ (alignedLink 160).now16 ∧
      ((alignedLink 159).now16 : Int) < (alignedLink 159).rfStamp 31 (0 + 32) + 12500 * 65536) ∧
    (let e := lqe (entryWords leTypeRF_TUNE 3 31 4480 9)
     let s := queued e base
     s.rfcNext 15 = some e ∧ s.ns + 2000 ≤ s.lqNs e ∧ s.inTransmit (leIndex e.words) (s.lqNs e) = false ∧ e.rfc = 0 ∧
     s.ns + 4480 ≤ s.lqNs e ∧ s.lqNs (lqe (entryWords leTypeRF_TUNE 3 31 4479 9)) < s.ns + 4480) ∧
    (base.rfcNext 15 = none ∧ base.sample.rfc = []) ∧ 96 ≤ base.getF (F.SC_LANECFG_PORT 103) ∧
    (let s := atNs (10 ^ 9) { withF base [(F.SC_LPCAP_EN 95, 1), (F.SC_LPCFG_ACTIVE 95, 1)] with sample := { ports := [(95, { capNext := some 0 })] } }
     (s.stream 95).capNext = some 0 ∧ s.getF (F.SC_LPCAP_EN 95) = 1 ∧ s.lineActive 95 = true ∧ (0 + 63) * s.period16 95 ≤ s.now16) := by
  decide +kernel

/-! ## Loading, modes, resets -/

/-- LOAD from the host, and the same with LOAD_IMAGE held. -/
def loading : State := let s := inMode .LOAD hostUp; { s with mode := { s.mode with bootSrc := true } }
def loadingCmd (n : Nat) : State := { loading with mode := { loading.mode with loadCmd := some (tc, 36), loadFailures := n } }

/-- An unsigned image with no sections: header of 32 bytes, SEQUENCE 1, for every stepping, and its check word. -/
def tinyImage : List Byte :=
  let h : List Byte := [0x41, 0x54, 0x49, 0x42, 1, 0, 32, 0, 36, 0, 0, 0, 0xFF, 0xFF, 0xFF, 0xFF, 0, 0, 0, 0, 7, 0, 0, 0, 1, 0, 0, 0, 0, 0, 0, 0]
  h ++ bytesLE 4 (crc32c h)
def failsWith (x : Except (Nat × Nat) Image) (e : Nat × Nat) : Bool := match x with | .ok _ => false | .error y => decide (y = e)
def loadsAs (x : Except (Nat × Nat) Image) (im : Image) : Bool := match x with | .ok y => decide (y = im) | .error _ => false
def tinyParsed : Image := { stepMask := 0xFFFFFFFF, id := 7, sequence := 1 }

theorem test_witness_ImagesOfferedReadAndGivenUp :
    (base.runs tc opLOAD_IMAGE ∧ base.mode.mode ≠ .LOAD ∧ (inMode .LOAD base).hostSource = false ∧ (1 : Session).val ≠ 0) ∧
    (loading.runs tc opLOAD_IMAGE ∧ loading.mode.mode = .LOAD ∧ loading.hostSource = true ∧ loading.mode.loadCmd = none ∧
      loading.hostOk 0 36 false = true ∧ loading.bench.heldReqs = []) ∧
    (((loadingCmd 0).readIssue .image).readTag .image ≠ none ∧ (inMode .LOAD base).mode.mode = .LOAD) ∧
    ((loadingCmd 1).mode.loadCmd = some (tc, 36) ∧ (loadingCmd 1).mode.loadFailures < 2 ∧ 2 ≤ (loadingCmd 2).mode.loadFailures) ∧
    failsWith (checkImage ([] : List Byte) 36 false 0 none) (lcMAGIC, 0) = true ∧
    ((loading.mode.loadLimit + 2000 ≤ (atNs 2000 loading).ns) ∧ (atNs 1999 loading).ns < loading.mode.loadLimit + 2000) := by
  decide +kernel

theorem test_witness_ImageLoads :
    loadsAs (checkImage (tinyImage.take 36) 36 false (((loadingCmd 0).complete tc opLOAD_IMAGE stOK).getF F.MD_ID_STEPPING) (loadingCmd 0).fusedDigest)
      tinyParsed = true := by
  decide +kernel

def holdStandby (s : State) : State := withF (inMode .STANDBY s) [(F.MD_BOOTCFG_HOLD_STANDBY, 1)]
def twinned (r : Nat) (s : State) : State := withF s [(F.MD_BOOTCFG_TWIN_ROLE, r)]

theorem test_witness_ModeRequestsOfTheHost :
    ((inMode .QUIET base).runs tc opWRITE ∧ (inMode .QUIET base).mode.mode = .QUIET ∧ (inMode .QUIET base).getF F.MD_BOOTCFG_TWIN_ROLE = 0) ∧
    ((holdStandby base).runs tc opWRITE ∧ (holdStandby base).mode.mode = .STANDBY ∧ (holdStandby base).getF F.MD_BOOTCFG_HOLD_STANDBY ≠ 0) ∧
    (base.runs tc opWRITE ∧ base.mode.mode = .RUN ∧ ¬ (base.mode.mode = .QUIET) ∧ ¬ (base.mode.mode = .STANDBY) ∧ base.mode.mode ≠ .FAULT ∧
      base.mode.mode.canDrain = true) ∧
    ((twinned 1 base).getF F.MD_BOOTCFG_TWIN_ROLE ≠ 0 ∧ (twinned 1 base).mode.mode = .RUN ∧
      ({ twinned 1 base with mode := { mode := .RUN, twinDriven := true } } : State).mode.twinDriven = true) ∧
    ((inMode .FAULT base).runs tc opWRITE ∧ (inMode .FAULT base).mode.mode = .FAULT ∧ (inMode .FAULT base).mode.mode.canDrain = false) := by
  decide

def watchdogged (t : Nat) : State := { withF base [(F.MD_BOOTCFG_WDOG, 1)] with mode := { mode := .FAULT, wdogStart := some 0 }, tick := t }
def benchMember : State := withF base [(F.BN_CFG_ROLE, roleMEMBER), (F.BN_CFG_MEMBER, 1), (F.BN_CFG_NMEMB, 1)]

theorem test_witness_ResetsKeepLedgerFusesAndCause :
    base.fuse.busy = false ∧ base.mode.mode ≠ .OFF ∧
    ((watchdogged 61458000).mode.mode = .FAULT ∧ (watchdogged 0).mode.wdogStart = some 0 ∧
      aonCount 0 + (watchdogged 0).wdogCycles ≤ aonCount (watchdogged 61458000).tick ∧
      aonCount (watchdogged 61440000).tick < aonCount 0 + (watchdogged 0).wdogCycles) ∧
    (base.runs tc opFULL_RESET ∧ tc.f16 = false ∧ base.mode.mode ≠ .FAULT ∧ base.mode.mode.canDrain = true ∧
      (inMode .FAULT base).runs tc opFULL_RESET ∧ base.runs { tc with f16 := true } opFULL_RESET) ∧
    (benchMember.benchRole = roleMEMBER ∧ benchMember.benchSeen 0 9 = none ∧
      (benchMember.benchReply 0 9 stOK []).mode.mode ≠ .FAULT ∧ (benchMember.benchReply 0 9 stOK []).mode.mode.canDrain = true) ∧
    base.benchRole ≠ roleMEMBER ∧ base.service.writes = [] := by
  decide +kernel

theorem test_witness_BootTestsAndAcquisition :
    (inMode .OFF base).mode.mode = .OFF ∧ base.mode.mode ≠ .OFF ∧ State.reset.mode.mode = .COLD ∧ base.mode.mode ≠ .COLD ∧
    (inMode .CHECK base).mode.mode = .CHECK ∧ (holdStandby base).getF F.MD_BOOTCFG_HOLD_STANDBY = 1 ∧
    (withF base [(F.MD_BOOTCFG_HOLD_STANDBY, 0)]).getF F.MD_BOOTCFG_HOLD_STANDBY = 0 ∧
    (let s := { base with mode := { mode := .DEFAULTED, testing := true } }
     s.mode.mode = .DEFAULTED ∧ s.mode.testing = true ∧ base.mode.testing = false) ∧
    (let s := atNs (10 ^ 9) (withF (inMode .ACQUIRE base) [(F.TB_REFCFG_SEL, 0), (F.MD_BOOTCFG_START_QUIET, 1)])
     s.timeCondition = true ∧ s.mainsCondition = true ∧ (twinned 2 s).getF F.MD_BOOTCFG_TWIN_ROLE = 2 ∧
     (twinned 2 s).timeCondition = true ∧ s.getF F.MD_BOOTCFG_TWIN_ROLE ≠ 2 ∧ s.getF F.MD_BOOTCFG_START_QUIET = 1 ∧
     (withF s [(F.MD_BOOTCFG_START_QUIET, 0)]).getF F.MD_BOOTCFG_START_QUIET = 0) ∧
    (let s := { atNs (10 ^ 9) (withF base [(F.TB_REFCFG_SEL, 0)]) with mode := { mode := .DEFAULTED, acquiring := true } }
     s.timeCondition = true ∧ s.mainsCondition = true ∧ s.mode.testing = false ∧ s.mode.acquiring = true) ∧
    (withF base [(F.TB_REFCFG_SEL, 4)]).timeCondition = false := by
  decide +kernel

/-- A twin whose group 0 is up. -/
def twinState (m : Mode) (r : Nat) : State := withF (inMode m base) [(F.MD_BOOTCFG_TWIN_ROLE, r), (F.MD_BOOTCFG_TWIN_MISS, 2), (F.BN_CFG_ROLE, 1),
  (F.BN_CFG_NMEMB, 1), (F.BN_GRPSTAT_STATE 0, 2)]

theorem test_witness_TwinLineAndTwinMessages :
    ((twinState .SHADOW 2).mode.mode = .SHADOW ∧ (twinState .SHADOW 2).launch.mirrored = [] ∧
      (twinState .SHADOW 2).getF F.MD_BOOTCFG_TWIN_ROLE = 2 ∧ (twinState .SHADOW 1).getF F.MD_BOOTCFG_TWIN_ROLE ≠ 2) ∧
    (let s : State := { twinState .SHADOW 2 with mode := { mode := .SHADOW, twinRecheck := some 0 } }
     s.mode.twinRecheck = some 0 ∧ (atNs 4999 s).ns < 0 + 5000 ∧ 0 + 5000 ≤ (atNs 5000 s).ns ∧ s.mode.mode = .SHADOW) ∧
    base.mode.mode ≠ .SHADOW ∧
    ((twinState .SHADOW 1).mode.twinLost = false ∧ (twinState .SHADOW 1).mode.twinOther = false ∧
      ({ twinState .SHADOW 1 with mode := { mode := .SHADOW, twinOther := true } } : State).mode.twinOther = true ∧
      (twinState .SHADOW 1).mode.lastTwin + (twinState .SHADOW 1).getF F.MD_BOOTCFG_TWIN_MISS * 1000000 ≤ (atNs 2000000 (twinState .SHADOW 1)).ns ∧
      ({ base with mode := { twinLost := true } } : State).mode.twinLost = true) ∧
    ((twinState .RUN 1).twinGroup = some 0 ∧ (twinState .RUN 1).groupUp 0 = true ∧
      ({ twinState .RUN 1 with mode := { mode := .RUN, twinDriven := true } } : State).mode.twinDriven = true) ∧
    ((twinState .QUIET 1).mode.mode = .QUIET ∧ (twinState .QUIET 1).twinGroup = some 0 ∧ (twinState .QUIET 1).groupUp 0 = true) ∧
    (let z := (State.notice { twinState .RUN 1 with service := { conflictTime := 0 } } ncTWIN_CONFLICT 0 []).twinLedger
     z.memberNo ≤ ((twinState .RUN 1).expected 0).getD 0) ∧
    (let s := withF (twinState .RUN 1) [(F.BN_CFG_MEMBER, 1), (F.BN_CFG_TWIN_PORT, 1), (F.BN_GRPSTAT_STATE 1, 2)]
     let z := (State.notice { s with service := { conflictTime := 0 } } ncTWIN_CONFLICT 0 []).twinLedger
     s.twinGroup = some 1 ∧ s.groupUp 1 = true ∧ (s.expected 1).getD 0 < z.memberNo) ∧
    base.twinGroup ≠ some 0 := by
  decide +kernel

def inDomain (d v : Nat) (s : State) : State := { s with domains := { states := [(d, v)] } }
/-- DRAIN with a read of DMA ring 1 open. -/
def drainState : State := let s := reading (runningDma 1 8 (fun d => { d with waiting := true }) (inMode .DRAIN hostUp))
  { s with mode := { s.mode with drainStart := some 0 } }

theorem test_witness_PowerDomainsDrainClampAndReturn :
    (drainState.mode.mode = .DRAIN ∧ drainState.mode.drainStart = some 0 ∧ drainState.host.reads ≠ [] ∧
      drainState.limitBefore 43 = false ∧
      0 + 1000 * drainState.getF F.MD_DOMCTL_DRAIN_LIMIT ≤ (atNs (1000 * drainState.getF F.MD_DOMCTL_DRAIN_LIMIT) drainState).ns ∧
      drainState.ns < 0 + 1000 * drainState.getF F.MD_DOMCTL_DRAIN_LIMIT) ∧
    (let s := inDomain domCPH 3 base
     domCPH < 43 ∧ s.domain domCPH = 3 ∧ s.domainBusy domCPH = false ∧ base.domain domCPH ≠ 3 ∧ base.domain domCPH ≠ 4 ∧ base.domain domCPH ≠ 1) ∧
    (let s := inDomain domCPH 3 { base with cipher := { held := [(0, 0, .relay relayJob)] } }
     s.domain domCPH = 3 ∧ s.domainBusy domCPH = true ∧ afind s.domains.rampTo domCPH = none ∧
     s.ns < aget 0 s.domains.drainSince domCPH + 1000 * s.getF F.MD_DOMCTL_DRAIN_LIMIT ∧ (atNs (10 ^ 9) s).limitBefore domCPH = false ∧
     aget 0 (atNs (10 ^ 9) s).domains.drainSince domCPH + 1000 * s.getF F.MD_DOMCTL_DRAIN_LIMIT ≤ (atNs (10 ^ 9) s).ns ∧
     ((((atNs (10 ^ 9) s).abortDomain domCPH).1.abortNotice domCPH (((atNs (10 ^ 9) s).abortDomain domCPH).2.1)
       (((atNs (10 ^ 9) s).abortDomain domCPH).2.2)).domainBusy domCPH) = false) ∧
    (let s := inDomain 0 4 base
     s.domain 0 = 4 ∧ ((s.setDomain 0 0).domainLeavesOn 0).mode.mode ≠ .DRAIN ∧
     ((s.setDomain 0 0).domainLeavesOn 0).mode.mode ≠ .FAULT) ∧
    (let s := inDomain 42 1 base
     s.domain 42 = 1 ∧ ((s.setDomain 42 2).domainComesOn 42).mode.mode ≠ .DRAIN) ∧
    ((base.wantsOn 42 = true ∨ base.wantsOn 42 = false) ∧ (withF base [(⟨F.MD_DOMCFG1, 10, 10⟩, 1)]).wantsOn 42 = true ∧
      (withF base [(⟨F.MD_DOMCFG1, 10, 10⟩, 0)]).wantsOn 42 = false) := by
  decide +kernel

theorem test_witness_DrainEnds :
    (let s : State := { inMode .DRAIN base with domains := { states := (List.range 43).map fun d => (d, 0) } }
     (∀ k < 43, s.domain k = 0) ∧ s.host.reads = [] ∧ s.mode.drainReset = none ∧
     ({ s with mode := { s.mode with drainStart := some 0, drainReset := some { cause := 4, hostLoad := false } } } : State).mode.drainStart ≠ none) := by
  decide +kernel

/-! ## Time and mains -/

/-- An example sentence: 20:15:30 on 4 July 2002. -/
def zdaSentence : List Byte := [36, 71, 80, 90, 68, 65, 44, 50, 48, 49, 53, 51, 48, 46, 48, 48, 44, 48, 52, 44, 48, 55, 44, 50, 48, 48, 50, 44,
  48, 48, 44, 48, 48, 42, 54, 48, 13, 10]
def timed (sel st : Nat) : State := { withF base [(F.TB_REFCFG_SEL, sel), (F.TB_HOLDCFG_STEP_LIMIT, 1)] with ref := { state := st, timeValid := true } }

theorem test_witness_TimeReferenceEvents :
    (base.struct_.live = true ∧ (timed 1 2).struct_.live = true ∧ (timed 1 2).refSel = 1 ∧ (!(timed 1 2).flag F.TB_REFCFG_PPS_EDGE) = true ∧
      afind (timed 1 2).ref.labels 0 = none ∧ (timed 1 2).ns ≤ (timed 1 2).ref.lastGood + (timed 1 2).lossTime ∧ (timed 1 0).ref.state = 0 ∧ (timed 1 2).ref.state ≠ 0) ∧
    ((timed 1 2).ref.timeValid = true ∧ (timed 1 2).mode.mode = .RUN ∧ (timed 1 2).ref.accepting = false ∧
      1000 * (timed 1 2).getF F.TB_HOLDCFG_STEP_LIMIT < ((1001 : Int) - nearestSecond 1001 * 1000000000).natAbs ∧
      ((1000 : Int) - nearestSecond 1000 * 1000000000).natAbs ≤ 1000 * (timed 1 2).getF F.TB_HOLDCFG_STEP_LIMIT ∧
      (timed 1 2).ref.bad < 2 ∧ ({ bad := 2 } : RefTime).bad = 2 ∧ (timed 1 2).ref.rejected = false) ∧
    (sentenceSecond [] = none ∧ sentenceSecond zdaSentence = some 79128930 ∧ base.getF F.TB_REFCFG_TOD_LABEL = 0 ∧
      base.todCut zdaSentence.length = false) ∧
    ((timed 1 2).refSel ≠ 0 ∧ (timed 1 2).ref.lastGood + 1500000000 + 2000 ≤ (atNs 1500002000 (timed 1 2)).ns ∧
      (atNs 1500001999 (timed 1 2)).ns < (timed 1 2).ref.lastGood + 1500000000 + 2000 ∧ (timed 4 2).refSel = 4 ∧ (timed 1 1).ref.state = 1 ∧
      (timed 1 3).ref.state = 3) ∧
    ((timed 1 3).ref.expired = false ∧
      (timed 1 3).ns < (timed 1 3).ref.holdSince + 60000000000 * (withF (timed 1 3) [(F.TB_HOLDCFG_LIMIT, 1)]).getF F.TB_HOLDCFG_LIMIT ∧
      (timed 1 3).ref.holdSince + 60000000000 * (withF (timed 1 3) [(F.TB_HOLDCFG_LIMIT, 1)]).getF F.TB_HOLDCFG_LIMIT ≤ (atNs 60000000000 base).ns ∧
      ({ expired := true } : RefTime).expired = true) ∧
    (let s : State := { timed 3 2 with ref := { state := 2, activePps := 1, pps0Since := some 0, otherLast := 60000000000 } }
     s.refSel = 3 ∧ s.ref.activePps = 1 ∧ s.ref.state = 2 ∧ s.ns ≤ s.ref.otherLast + 1500000000 ∧ 0 + 60000000000 ≤ (atNs 60000000000 s).ns ∧
     (atNs 59999999999 s).ns < 0 + 60000000000) ∧
    ((withF base [(F.PF_PORTSTAT_STATE 3, 2)]).groupUp 5 = true ∧ base.benchRole ≠ roleMEMBER) ∧
    (let s : State := { withF benchMember [(F.BN_GRPSTAT_STATE 0, 2), (F.TB_REFCFG_SEL, 4), (F.BN_CFG_TOPO, 1)] with
       bench := { linkmap := 2 }
       ref := { state := 2, timeValid := true, side := 0 } }
     s.benchRole = roleMEMBER ∧ s.refSel = 4 ∧ s.groupUp 0 = true ∧ s.timeGroup = some 0 ∧ s.ref.state = 2 ∧ s.ref.side = 0 ∧
     s.ref.timeValid = true ∧ s.mode.mode = .RUN ∧ s.struct_.live = true) ∧
    ((withF base [(F.TB_EVTCFG_DIR 15, 0), (F.TB_EVTCFG_CAPTURE 15, 3)]).getF (F.TB_EVTCFG_CAPTURE 15) = 3 ∧
      (withF base [(F.TB_EVTCFG_DIR 15, 0)]).getF (F.TB_EVTCFG_DIR 15) = 0 ∧
      (withF base [(F.TB_EVTCFG_CAPTURE 15, 0)]).getF (F.TB_EVTCFG_CAPTURE 15) = 0 ∧
      (withF base [(F.TB_EVTCFG_DIR 15, 1)]).getF (F.TB_EVTCFG_DIR 15) = 1) := by
  decide +kernel

/-- Line port 95 active, with a tracker, at a DT. -/
def mainsAt (t : Tracker) (n : Nat) : State := atNs n { withF base [(F.SC_LPCFG_ACTIVE 95, 1)] with
  mode := { mode := .RUN, acquiring := true }
  mains := [(95, t)] }
def lockedTracker (st : Nat) : Tracker := { state := st, crossings := [(1, 20000000), (0, 0)], lastCycle := 1, coastFrom := 1 }
def lockedFit : Fit := { n := 2, d := 1, nb := 20000000, p0 := 0 }

theorem test_witness_MainsTrackers :
    base.tracking 95 = false ∧
    (let s := mainsAt {} 0
     s.tracking 95 = true ∧ (s.tracker 95).fit = none ∧ (s.tracker 95).crossings = []) ∧
    (let t : Tracker := { state := 1, crossings := [(0, 0)] }
     t.fit = none ∧ 1000000000 ≤ (15384616 - 0) * 65 ∧ (22222222 - 0) * 45 ≤ 1000000000 ∧ (15384615 - 0) * 65 < 1000000000) ∧
    (let t : Tracker := { state := 1, crossings := [(1, 20000000), (0, 0)] }
     t.fit = none ∧ (max (40020000 - 20000000) (20000000 - 0) - min (40020000 - 20000000) (20000000 - 0)) * 1000 ≤ 20000000 - 0) ∧
    ((lockedTracker 2).fit = some lockedFit ∧ (lockedTracker 3).fit = some lockedFit ∧
      lockedFit.crossing ((lockedTracker 2).lastCycle + 1) * 16 + lockedFit.period < (mainsAt (lockedTracker 2) 41250001).ns * 16 ∧
      (mainsAt (lockedTracker 2) 41250000).ns * 16 ≤ lockedFit.crossing ((lockedTracker 2).lastCycle + 1) * 16 + lockedFit.period ∧
      (let x := 40000000
       (max x (lockedFit.nearest x).2 - min x (lockedFit.nearest x).2) * 16 ≤ lockedFit.period ∧
       (fitOf ((((lockedFit.nearest x).1.toNat, x) :: (lockedTracker 2).crossings).take 8)).all (fun g => 45000 ≤ g.mHz && g.mHz ≤ 65000) = true) ∧
      (lockedTracker 2).missed = 0 ∧ (lockedTracker 2).state = 2 ∧ (lockedTracker 3).state = 3) ∧
    (let s := mainsAt (lockedTracker 3) 0
     s.ns < lockedFit.crossing ((lockedTracker 3).coastFrom + s.getF F.TB_MAINSCFG_COAST) ∧
     lockedFit.crossing ((lockedTracker 3).coastFrom + s.getF F.TB_MAINSCFG_COAST) ≤ (atNs (10 ^ 12) s).ns) ∧
    (0 * 45 + 2000000000 ≤ (mainsAt {} 44444445).ns * 45 ∧ (mainsAt {} 44444444).ns * 45 < 0 * 45 + 2000000000) := by
  decide +kernel

/-! ## Power line -/

/-- Line port 0 active, band A live, its receiver in a state with a reception. -/
def lineState (st : Nat) (r : Option PlcReception) : State :=
  let s := withF base [(F.SC_LPCFG_ACTIVE 0, 1), (F.SC_LANECTL_RUN 0, 1), (F.SC_LANECTL_RUN 1, 1), (F.SC_LANECTL_RUN 2, 1),
    (F.SC_LANECTL_RUN 3, 1), (F.PL_PORTLIVE_LIVE 0, 15), (F.PL_FGCFG_COMB 0, 0), (F.PL_FGCFG_COUPLING 0, 0)]
  s.setRx 0 0 st r
/-- A reception of a header with PSDU length 12, MODE 0. -/
def rxHeader (ft : Nat) : Word := plcHeader 0 ft 12 1
def heldRx (ft n : Nat) : PlcReception := { detected := 0, port := 0, header := rxHeader ft, nsym := n }

theorem test_witness_PowerLineReception :
    ((lineState 1 none).rxHome 0 = 0 ∧ Band.A.num = 0 ∧ (lineState 1 none).plcSearching 0 0 = true ∧ (lineState 2 none).rxState 0 0 ≠ 1 ∧
      (withF base [(F.PL_BANDCFG_DETTHR 0 0, 7)]).getF (F.PL_BANDCFG_DETTHR 0 0) = 7 ∧
      (atNs 2000000 (lineState 1 none)).windowsValid 0 2000000 = true ∧
      ({ lineState 1 none with sample := { ports := [(0, { inv := [(0, 2 ^ 40)] })] } } : State).windowsValid 0 2000000 = false) ∧
    (((lineState 2 (some (heldRx 0 0))).pchan 0 0).rx = some (heldRx 0 0) ∧ (lineState 2 (some (heldRx 0 0))).rxState 0 0 = 2 ∧
      (heldRx 0 0).detected + 10880000 ≤ (atNs 10880000 base).ns ∧ (atNs 10879999 base).ns < (heldRx 0 0).detected + 10880000 ∧
      0 + 15 * 680000 ≤ (heldRx 0 0).detected + 16 * 680000 ∧ 5440000 + 8 * 680000 ≤ (heldRx 0 0).detected + 16 * 680000) ∧
    ((lineState 3 (some (heldRx 0 0))).rxState 0 0 = 3 ∧ 0 < (heldRx 0 0).headerEnd ((lineState 3 none).nCar 0 0) ∧ phCrcOk (rxHeader 0) = true ∧ phMode (rxHeader 0) < 5 ∧ phLen (rxHeader 0) = 12 ∧
      (phMode (rxHeader 0) = 4 ↔ (heldRx 0 0).deep = true) ∧ frameSyms 0 12 36 ≤ 4096 ∧ phCrcOk 1 = false ∧ phLen (plcHeader 0 0 2049 1) = 2049 ∧
      phMode (plcHeader 4 0 12 1) = 4 ∧ phMode (plcHeader 5 0 12 1) = 5) ∧
    ((lineState 4 (some (heldRx 0 2))).rxState 0 0 = 4 ∧ (heldRx 0 2).nsym ≠ 0 ∧ (atNs 1359999 base).ns < (heldRx 0 2).start + 680000 * 2 ∧
      (heldRx 0 2).start + 680000 * 2 ≤ (atNs 1360000 base).ns ∧ phFt (rxHeader 2) = 2 ∧ phFt (rxHeader 1) = 1 ∧ phFt (rxHeader 0) = 0 ∧
      (lineState 4 (some (heldRx 0 2))).launchesDue = false ∧
      (queued (dueNow base (lqe (markerWords 0))) base).launchesDue = true ∧
      plcHeaderFault (tb 12) 0 = false ∧ psduAckReq 0 (tb 12) = false ∧ (lineState 4 none).plcForMe (tb 12) = false ∧
      plcHeaderFault ([0, 0, 0, 0, 0xFF, 0xFF, 0xFF, 0xFF] ++ tb 4) 0 = false ∧
      (lineState 4 none).plcForMe ([0, 0, 0, 0, 0xFF, 0xFF, 0xFF, 0xFF] ++ tb 4) = true) ∧
    (base.sound = true ∧ aget 0 base.plc.suspendTo 0 ≤ base.ns ∧
      ({ base with plc := { suspendTo := [(0, 1)] } } : State).ns < aget 0 ({ base with plc := { suspendTo := [(0, 1)] } } : State).plc.suspendTo 0) := by
  decide +kernel

/-- A transmit item for a PSDU of 12 zeros, and its PLC_FRAME entry at a time. -/
def plcIt : List Word := plcItem (tb 12) 0 0
def plcEntry (t : Nat) (it : Option (List Word)) (sec : Option (List Byte)) : LqEntry :=
  { lqe (entryWords leTypePLC_FRAME 0 0 t 3) with item := it, secured := sec }
def plcDue (t : Nat) (it : Option (List Word)) (sec : Option (List Byte)) : LqEntry := dueNow base (plcEntry t it sec)
def sendingTx (k : PlcTxKind) (ack : Bool) : PlcSending :=
  { start := 0, end_ := 5000, kind := k, entry := plcEntry 0 none none, psdu := tb 12, mode := 0, ackReq := ack }
def attempt0 (w : Bool) : PlcAttempt := { queue := 3, cls := 0, waiting := w, deadline := 9000 }
def chanState (c : PlcChan) : State := (lineState 1 none).setPchan 0 0 c

theorem test_witness_PowerLineItems :
    (let s := queued (plcEntry 100000 none none) (lineState 1 none)
     s.lqAt 2047 = some (plcEntry 100000 none none) ∧ leType (plcEntry 100000 none none).words = leTypePLC_FRAME ∧
     s.lqNs (plcEntry 100000 none none) ≤ s.ns + 100000 ∧ s.ns + 100000 < s.lqNs (plcEntry 100001 none none) ∧
     s.lqReady (plcEntry 100000 none none) = false) ∧
    (let e := plcDue 5000 (some plcIt) (some (tb 12))
     let s := atNs 5000 (queued e (lineState 1 none))
     s.lqReady e = true ∧ s.plcStop? e = none ∧ (atNs 5000 (queued e base)).plcStop? e = some lpBAND_OFF ∧ itMode plcIt = 0 ∧
     (inMode .QUIET s).mayTransmit = false) := by
  decide +kernel

theorem test_witness_PowerLineTransmission :
    (let s := chanState { tx := some (sendingTx (.host (plcEntry 0 none none)) false) }
     (s.pchan 0 0).tx = some (sendingTx (.host (plcEntry 0 none none)) false) ∧ (atNs 4999 s).ns < 5000 ∧ 5000 ≤ (atNs 5000 s).ns) ∧
    (∀ ack ∈ [true, false],
     let s := chanState { tx := some (sendingTx (.attempt 0) ack), attempt := some (attempt0 false) }
     ((((s.plcStop 0 0 5000).bump (F.PL_TXCNT_SENT 0 0)).twinSettle.sentReserve 0 0 (sendingTx (.attempt 0) ack)).pchan 0 0).attempt = some (attempt0 false)) ∧
    (let s := chanState { attempt := some (attempt0 true) }
     (s.pchan 0 0).attempt = some (attempt0 true) ∧ (attempt0 true).waiting = true ∧
     (bytesLE 4 s.ownAddr ++ tb 2).length = 6 ∧ s.toMe (le32 (bytesLE 4 s.ownAddr ++ tb 2) 0) = true ∧
     ((bytesLE 4 s.ownAddr ++ tb 2).getD 4 0).toNat = (attempt0 true).seq ∧ (atNs 9000 s).ns ≤ (attempt0 true).deadline ∧
     bitAt (bytesLE 4 s.ownAddr ++ tb 2) 5 0 = false ∧ bitAt (bytesLE 4 s.ownAddr ++ [0, 1]) 5 0 = true ∧ s.toMe (le32 (tb 6) 0) = false ∧
     (attempt0 true).deadline + 2000 ≤ (atNs 11000 s).ns ∧ (atNs 10999 s).ns < (attempt0 true).deadline + 2000 ∧
     (attempt0 true).on_ = 0 ∧ s.combines 0 = false ∧ s.getF (F.PL_FGCFG_COUPLING 0) = 0 ∧
     (∀ h ∈ [1, 2], (s.pchan h 0).attempt = none) ∧ base.plc.chans = []) ∧
    (∀ ready ∈ [true, false],
     let s := chanState { ack := some { at_ := 680000, dst := 0, seq := 0, mode := 0, verifiedBy := 0, ready := ready } }
     (s.pchan 0 0).ack.any (fun k => k.ready == ready && decide (k.at_ ≤ (atNs 680000 s).ns) && decide ((atNs 679999 s).ns < k.at_)) = true ∧
     s.combines (0 / 3) = false ∧ s.ownStop 0 0 = false ∧ (inMode .QUIET s).ownStop 0 0 = true) := by
  decide +kernel

/-- Class 0 of line port 0, bands A and C, is served from queue 3, which holds a transmit item. -/
def accessState (disc : Nat) (it : List Word) : State :=
  let s := withF (lineState 1 none) [(F.PL_ACCQ_EN0 0 0 0, 1), (F.PL_ACCQ_Q0 0 0 0, 3), (F.PL_ACCQ_EN0 0 2 0, 1), (F.PL_ACCQ_Q0 0 2 0, 3),
    (F.PL_ACCCFG_DISC 0, disc), (F.PL_ACCSTAT_FALLBACK 0, 0)]
  (s.qPut 3 0 it).setF (F.QM_QWP_PTR 3) it.length
def beaconing (n : Nat) : State := atNs n { accessState 1 plcIt with mains := [(0, lockedTracker 2)] }

/-- The transform of a search window that completed at 0, at the loudest level. -/
def loud : List Spectrum := [{ at_ := 0, level := 0 }]

theorem test_witness_PowerLineAccess :
    ((base.unblock 0 0).offered 0 0 = none ∧
      (let z := (atNs 1358000 (accessState 0 plcIt)).unblock 0 0
       z.offered 0 0 = some (0, 3) ∧ z.lineActive 0 = true ∧ z.plc.resuming.contains 0 = false ∧ 0 < z.winSlots 0 0 ∧
       z.slotStart 0 0 (z.idleStart 0 0 []) (0 * z.roundSlots 0 + z.winStart 0 0) = some 1360000 ∧
       z.slotStart 0 0 (z.idleStart 0 0 []) (0 * z.roundSlots 0 + z.winStart 0 0 + 0) = some 1360000 ∧ z.pendingFor 3 1360000 = true ∧
       1360000 ≤ z.ns + 2000 ∧ z.ns + 2000 < 1360000 + 2 ∧ loudNow (z.accWord 0 (3 + 0)).toNat loud = true ∧
       loudNow (z.accWord 0 (3 + 0)).toNat [] = false ∧ z.bandBusy 0 0 = false ∧ z.beforeCfp 0 0 3 1360000 = true ∧
       (atNs 1357999 z).ns + 2000 < 1360000 ∧ 1360000 + 2 ≤ (atNs 1358002 z).ns + 2000 ∧ z.beaconDisc 0 = false ∧ z.accMsync 0 = false) ∧
      (lineState 2 none).bandBusy 0 0 = true) ∧
    (let z := (atNs 84998000 (accessState 0 plcIt)).unblock 0 2
     z.offered 0 2 = some (0, 3) ∧ z.lineActive 0 = true ∧ z.plc.resuming.contains 0 = false ∧ z.isSending 0 2 = false ∧
     z.pendingFor 3 (z.ns + 2000) = true ∧ (z.pchan 0 2).lastEnd = none ∧
     (bandcSense (z.getF (F.PL_BCTHR_BUSYTHR 0)) []).busy = false ∧
     (bandcSense (z.getF (F.PL_BCTHR_BUSYTHR 0)) []).since + (85 + 2 * 0) * 1000000 ≤ z.ns + 2000 ∧
     (bandcSense (z.getF (F.PL_BCTHR_BUSYTHR 0)) (List.replicate 12 { at_ := 0, level := 0 })).busy = true) ∧
    ((chanState { attempt := some (attempt0 false) }).pchan 0 0).attempt ≠ none ∧ (inMode .QUIET base).mayTransmit = false ∧
    ((accessState 1 plcIt).beaconDisc 0 = true ∧ (accessState 1 plcIt).lineActive 0 = true ∧ (accessState 1 plcIt).bandLive 0 0 = true ∧
      (accessState 1 plcIt).plc.resuming.contains 0 = false ∧ ((accessState 1 plcIt).tracker 0).fit = none) ∧
    (let s := (withF (beaconing 30000000) [(⟨F.PL_ACCCFG 0 + 8, 11, 0⟩, 0)]).setPchan 0 0 { superframe := some 0 }
     (s.tracker 0).fit = some lockedFit ∧ s.nextSuper 0 0 lockedFit ≤ s.ns ∧ (s.pchan 0 0).superframe ≠ none ∧ s.ownStop 0 0 = false ∧
     s.sound = true ∧ (atNs 19999999 s).ns < s.nextSuper 0 0 lockedFit) ∧
    ((accessState 1 plcIt).tracker 0).fit = none ∧
    (let s := beaconing 30000000
     lockedFit.cycle (atNs 0 s).now16 ≤ (s.tracker 0).boundary ∧ (s.tracker 0).boundary < lockedFit.cycle s.now16 ∧
     (s.tracker 0).state = 2) := by
  decide +kernel

/-- A grant of the device from slot 1 on, in a superframe of `p` cycles and one that began at 20 ms, with its beacon sent. -/
def granted (p n : Nat) : State := atNs n ((withF (beaconing 0) [(F.PL_GRADDR_ADDR 0 0 0, (beaconing 0).ownAddr), (F.PL_GRSLOT_START 0 0 0, 1),
  (F.PL_GRSLOT_LEN 0 0 0, 1023), (⟨F.PL_ACCCFG 0 + 8, 11, 0⟩, p)]).setPchan 0 0 { superframe := some 20000000, beaconSent := true })
def grantsNow (z : State) : List (Nat × Nat × Nat) := (z.grants 0 0).filter fun x => z.toMe x.1 &&
  decide (20000000 + x.2.1 * 680000 ≤ z.ns + 2000) && decide (z.ns + 2000 < 20000000 + (x.2.1 + x.2.2) * 680000)

theorem test_witness_GrantLaunch :
    (∀ x ∈ [(4095, 30000000, true), (0, 39000000, false)], let z := (granted x.1 x.2.1).unblock 0 0
     z.offered 0 0 = some (0, 3) ∧ (z.tracker 0).fit = some lockedFit ∧ z.beaconDisc 0 = true ∧ z.lineActive 0 = true ∧
     (z.pchan 0 0).superframe = some 20000000 ∧ (z.pchan 0 0).beaconSent = true ∧ z.offerPort 0 3 = 0 ∧ z.isSending 0 0 = false ∧
     z.plc.resuming.contains 0 = false ∧ z.pendingFor 3 (z.ns + 2000) = true ∧ grantsNow z ≠ [] ∧
     (grantsNow z).any (fun g => decide (z.attemptStart 0 0 (z.ns + 2000) + z.offerNs 0 0 3 ≤ 20000000 +
       usableEnd g.2.1 g.2.2 (z.nextSuper 0 0 lockedFit - 20000000))) = x.2.2) ∧
    grantsNow (beaconing 30000000) = [] := by
  decide +kernel

theorem test_witness_BitsEnterTheChain :
    (0 : Nat) < [1].length ∧ (7 : Nat) < 8 ∧ (31 : Nat) < 32 ∧ rxHeader 0 = plcHeader 0 0 (tb 12).length 1 := by
  decide

/-! ## Chirp radio -/

/-- Pair 0 aligned, channel 0 enabled, spreading factor 12 (field value 7) searched. -/
def radioBase : State := withF base [(F.SC_RFSTAT_STATE 0, 2), (F.CH_CHEN_EN 0, 1), (F.CH_SFMASK_SF0 0 0, 0x80), (F.CH_PAIRSTAT_SUSPENDED 0, 0)]
def det0 : Detection := { port := 0, chan := 0, sf := 7, bin := 0, start := 0, power := 0, tick := 0 }
def demod0 (st : DemodStage) (k : Nat) : Demod := { slot := k, det := det0, stage := st, len := 1, cr := 1 }
def withDemods (l : List Demod) (s : State) : State := { s with chirp := { s.chirp with demods := l } }
def headerBits (v : Nat) : Nat := v % 4096 + crc8 [v % 256, v / 256 % 16] * 4096

theorem test_witness_ChirpDetections :
    base.searching 31 0 7 = false ∧ radioBase.searching 0 0 7 = true ∧ radioBase.heldOn 0 0 7 = [] ∧
    (let s := atNs 131072000 (withF radioBase [(F.CH_DETCFG_DETTHR 0, 1)])
     s.searching 0 0 7 = true ∧ s.windowsMatch det0 13 = true ∧ s.windowsMatch det0 12 = false) ∧
    (let s := withDemods [demod0 .preamble 0, demod0 .preamble 1, demod0 .preamble 2] radioBase
     3 ≤ (s.heldOn 0 0 7).length ∧ ∀ y ∈ s.heldOn 0 0 7, s.sameFrame y 100 0 = false) ∧
    (nextDetection [det0] = some det0 ∧ nextDetection [] = none) := by
  decide +kernel

theorem test_witness_DemodGranted :
    (let z := { radioBase with chirp := { waiting := [] } }
     0 < z.poolFree ∧ z.freeUnits.head? = some 0 ∧
     (withF z [(F.CH_PORTCFG_GCLASS 0, 0)]).getF (F.CH_PORTCFG_GCLASS 0) = 0 ∧ (withF z [(F.CH_PORTCFG_GCLASS 0, 1)]).getF (F.CH_PORTCFG_GCLASS 0) = 1 ∧
     (withF z [(F.CH_POOLCFG_RESERVE, 0)]).getF F.CH_POOLCFG_RESERVE < z.poolFree) := by
  decide +kernel

/-- Every demodulator of the device is set aside for a borrower. -/
theorem test_witness_DemodPoolLow :
    (withF radioBase ((List.range 8).map fun k => (F.BN_LEASE_COUNT k, 511))).poolFree = 0 ∧
    (withF base [(F.BN_CFG_BORROW, 0)]).getF F.BN_CFG_BORROW = 0 := by
  decide +kernel

/-- The symbol values of a frame of one byte at SF 12, 4/5, with CRC, and the nibbles of its first block. -/
def frameValues : List Nat := chirpSymbols 7 0 1 true true [0x5A]
def frameNibbles : List Nat := (blockNibbles 7 4 (firstRows 7) (frameValues.take 8)).1
def payloadDemod (ns : List Nat) : Demod := { demod0 .payload 0 with crcOn := true, nibbles := ns }
/-- Every sample of pair 0 up to a late stamp is INV. -/
def invState (d : Demod) : State := { withDemods [d] (atNs (10 ^ 9) radioBase) with sample := { links := [(0, { inv := [(0, 2 ^ 60)] })] } }

theorem test_witness_DemodReceives :
    (let d := demod0 .preamble 0
     let s := atNs (2 * tSym 7 0) (withDemods [d] (withF radioBase [(F.CH_PORTCFG_SYNC 0, 0x12)]))
     s.demodAt 0 = some d ∧ s.demodBw d = 0 ∧ s.chirpTime d.det d.lent.isSome (s.demodBw d) (0 + 2 * tSym 7 0) 10000 = true ∧
     nearBin 7 (syncSymbols 7 0x12).1 (syncSymbols 7 (s.getF (F.CH_PORTCFG_SYNC d.det.port))).1 = true ∧
     nearBin 7 (syncSymbols 7 0x12).2 (syncSymbols 7 (s.getF (F.CH_PORTCFG_SYNC d.det.port))).2 = true ∧
     nearBin 7 0 (syncSymbols 7 (s.getF (F.CH_PORTCFG_SYNC d.det.port))).1 = false) ∧ radioBase.demodAt 2175 = none ∧
    (∀ st ∈ [DemodStage.preamble, .first], let d := demod0 st 0
     let s := invState d
     s.demodAt 0 = some d ∧ d.det.start + 4 * tSym 7 0 ≤ 4 * tSym 7 0 ∧ d.syncT ≤ 4 * tSym 7 0 ∧ 4 * tSym 7 0 + tSym 7 0 ≤ s.ns ∧
     s.symbolInvalid d (4 * tSym 7 0) = true ∧ (withDemods [d] radioBase).symbolInvalid d 0 = false) ∧
    (let d := demod0 .first 0
     let s := withF (withDemods [d] radioBase) [(F.CH_IMPL_SFMASK 0, 0)]
     s.demodAt 0 = some d ∧ (frameValues.take 8).length = 8 ∧ (atNs (s.payStart d 8) s).chirpTime d.det false 0 (s.payStart d 8) 20000 = true ∧
     s.implicitSf d = false ∧ (withF s [(F.CH_IMPL_SFMASK 0, 0x80)]).implicitSf d = true ∧ chirpHeaderOk (headerOf frameNibbles) = true ∧
     headerOf frameNibbles = chirpHeader 1 true 1 ∧
     chirpHeaderOk (headerOf (blockNibbles 7 4 (firstRows 7) (List.replicate 8 0)).1) = false) ∧
    (let d := payloadDemod (frameNibbles.drop 5)
     let s := withDemods [d] radioBase
     s.demodAt 0 = some d ∧ ([] : List Nat).length = chirpFurther 7 0 true true 1 * (4 + 1) ∧
     (atNs (s.demodEnd d) s).chirpTime d.det false 0 (s.demodEnd d) 40000 = true ∧ s.launchesDue = false ∧ s.ns < s.demodEnd d ∧
     (s.demodBytes d []).1 = [0x5A] ∧ chirpCrc (s.demodBytes d []).1 = (s.demodBytes d []).2.1 ∧
     (let e := payloadDemod (List.replicate 6 0)
      chirpCrc (s.demodBytes e []).1 ≠ (s.demodBytes e []).2.1)) ∧
    (afind base.chirp.sending 0 = none ∧ aget 0 base.chirp.suspendTo 0 ≤ base.ns ∧
      base.ns < aget 0 ({ suspendTo := [(0, 1)] } : ChirpState).suspendTo 0) := by
  decide +kernel

/-- A transmit item of one byte on channel 0, SF 12, and an RF_TX entry for it. -/
def rfIt : List Word := itemOf [wd (1 + 2 ^ 8 + 7 * 2 ^ 13), 8, 0, 0]
def rfEntry (t : Nat) (it : Option (List Word)) : LqEntry := { lqe (entryWords leTypeRF_TX 2 0 t 3) with item := it }
def rfSend (e : Nat) : RfSending := { entry := rfEntry 0 none, start := 0, end_ := e, dur := 0, ofs := false }

theorem test_witness_ChirpTransmission :
    (let s := queued (rfEntry 164000 none) radioBase
     s.lqAt 2047 = some (rfEntry 164000 none) ∧ leType (rfEntry 164000 none).words = leTypeRF_TX ∧ s.ns + 164000 < s.lqNs (rfEntry 164001 none) ∧
     s.lqNs (rfEntry 164000 none) ≤ s.ns + 164000 ∧ s.lqReady (rfEntry 164000 none) = false ∧
     s.lqNs (rfEntry 21000 none) < s.ns + s.rampNs (s.getF (F.CH_PAIRSTAT_PROFILE 0)) + 20000 ∧
     s.ns + s.rampNs (s.getF (F.CH_PAIRSTAT_PROFILE 0)) + 20000 ≤ s.lqNs (rfEntry 1000000 none)) ∧
    (rfItValid rfIt = true ∧ rfItValid [] = false ∧ rfItChan rfIt = 0 ∧ rfItFofsEn rfIt = false ∧ radioBase.chanOn 0 0 = true ∧
      (withF radioBase [(F.CH_CHEN_EN 0, 0)]).chanOn 0 0 = false) ∧
    (let e := rfEntry 1000000 (some rfIt)
     let s := queued e (withF radioBase [(F.MC_DCCFG_PROFILE, 1)])
     s.rfSpan e = some (1000000 - s.rampNs 0, 1000000 + s.rfAir 0 rfIt + s.rampNs 0) ∧ s.ns + 20000 < 1000000 - s.rampNs 0 ∧
     e.charged = false ∧ 1000000 - s.rampNs 0 ≤ (atNs 980000 s).ns + 20000 ∧
     (s.dutyCharge 0 0 1000 ((1000000 - s.rampNs 0 - 20000) / 1000000000)).2 = true ∧ (s.dutyCharge 0 0 400000001 0).2 = false) ∧
    (let e := { rfEntry 1000000 (some rfIt) with charged := true }
     let s := atNs 1000000 (queued e radioBase)
     e.due = none ∧ afind s.chirp.sending e.port = none ∧ s.rampStop { e with secured := some [] } = none ∧ s.rampStop e = some rtMISSED_LAUNCH) ∧
    (let e := { dueNow base (rfEntry 1000000 (some rfIt)) with secured := some [], charged := true, ramped := true }
     let s := atNs 1000000 (queued e radioBase)
     s.lqReady e = true ∧ s.lqNoMains e = false ∧ afind s.chirp.sending 0 = none ∧ (inMode .QUIET s).mayTransmit = false ∧
     (let z : State := { s with chirp := { sending := [(0, { rfSend 5000 with entry := e })] } }
      afind z.chirp.sending e.port = some { rfSend 5000 with entry := e } ∧ z.lqReady e = true)) ∧
    (let s : State := atNs 5000 { radioBase with chirp := { sending := [(0, rfSend 5000)] } }
     afind s.chirp.sending 0 = some (rfSend 5000) ∧ (rfSend 5000).end_ ≤ s.ns ∧ (atNs 4999 s).ns < (rfSend 5000).end_ ∧
     s.lqAt (rfSend 5000).entry.entry = none ∧ (rfSend 5000).ofs = false ∧ (rfSend 5000).entry.inserter = .host) := by
  decide +kernel

/-- A schedule of 10 ms slots whose link 0 transmits in every slot of slotframe 0 on pair 0. -/
def schedState : State := atNs 8000000 (withF radioBase [(F.MC_SCHEDCFG_SLOT_LEN, 10), (F.MC_SCHEDCFG_ENABLE, 1), (F.MC_SFRAME_EN 0, 1), (F.MC_SFRAME_LEN 0, 1),
  (F.MC_LINK0_EN 0, 1), (F.MC_LINK0_DIR 0, 1), (F.MC_LINK0_EN 1, 1), (F.MC_LINK0_DIR 1, 1), (F.MC_LINK2_QUEUE 0, 3), (F.MC_HOPLEN_L 0, 1),
  (F.MC_TIMING_TXOFS, 200), (F.EP0_STATE 0, 2), (F.EP5_CHMAP 0, 1)])
def serve0 : SlotServe := { link := 0, asn := 1, start := 10000000, chan := 0, delta := 0, guard := 0, expect := 12000000 }
def serving (it : List Word) : State :=
  let s : State := { schedState with radio := { serve := [(0, serve0)] } }
  (s.qPut 3 0 it).setF (F.QM_QWP_PTR 3) it.length

theorem test_witness_SlotsPrepared :
    base.slotAhead = none ∧ schedState.slotAhead = some 1 ∧ schedState.linkActive 511 1 = false ∧ schedState.linkActive 0 1 = true ∧
    schedState.ns ≤ schedState.epoch + 1 * schedState.slotNs ∧ afind schedState.radio.serve (schedState.linkPair 0) = none ∧
    (∃ i < 1, schedState.linkPair i = schedState.linkPair 1 ∧ schedState.linkActive i 1 = true) ∧
    schedState.linkChan 0 1 = some 0 ∧ (withF schedState [(F.EP5_CHMAP 0, 0)]).linkChan 0 1 = none ∧ schedState.linkTx 0 = true ∧
    schedState.linkAny 0 = false ∧ schedState.linkSkipped 0 0 serve0 = false ∧ schedState.linkSkipped 0 1 serve0 = true ∧
    base.slotsRun = false ∧ schedState.slotsRun = true ∧ (∀ x ∈ (serving rfIt).radio.serve, x.2.classS = false) := by
  decide +kernel

theorem test_witness_ScheduledFrames :
    (let s := serving rfIt
     afind s.radio.serve (s.linkPair 0) = some serve0 ∧ serve0.link = 0 ∧ s.linkTx 0 = true ∧ s.radio.attempts = [] ∧ s.linkQueue 0 = 3 ∧
     s.qUsable 3 = true ∧ s.qHeadLost 3 = false ∧ s.qFront 3 = some rfIt ∧ s.qPoisoned 3 (s.qR 3) rfIt.length = false ∧
     bitAt (rfItPayload (schedItem rfIt (s.linkSf 0) (s.linkCr 0) 0)) 0 3 = false ∧
     serve0.start + s.slotNs ≤ serve0.expect.toNat + s.rfAir 0 (schedItem rfIt 7 1 0) + s.rampNs 0 ∧
     (let t := withF s [(F.MC_SCHEDCFG_SLOT_LEN, 500), (F.SC_RFCFG_CHMODE 0, 0)]
      serve0.expect.toNat + t.rfAir 0 (schedItem rfIt (t.linkSf 0) (t.linkCr 0) 0) + t.rampNs 0 < serve0.start + t.slotNs ∧
      (let y := (t.qMark 3).qConsume 3
       (y.lqInsert (entryWords leTypeRF_TX 2 0 serve0.expect.toNat 3) (.sched 0)).2.1 = stOK))) ∧
    (let s : State := { schedState with radio := { serve := [(0, serve0)] } }
     s.qFront 3 = none) ∧
    (let a : RfAttempt := { link := 0, queue := 3, pair := 31, waiting := true, deadline := 0 }
     let s : State := atNs 2000 { base with radio := { attempts := [a] } }
     s.radio.attempts = [a] ∧ a.deadline + 2000 ≤ s.ns ∧ (atNs 1999 s).ns < a.deadline + 2000) ∧
    ((withF base [(F.MC_SCHEDCFG_RETRIES, 0)]).getF F.MC_SCHEDCFG_RETRIES ≤ aget 0 base.radio.used 3 ∧
      aget 0 base.radio.used 3 < (withF base [(F.MC_SCHEDCFG_RETRIES, 1)]).getF F.MC_SCHEDCFG_RETRIES) ∧
    afind ({ acks := [(31, { at_ := 0, chan := 0, sf := 0, cr := 1, dst := 0, seq := 0 })] } : RadioState).acks 31 ≠ none := by
  decide +kernel

/-- Entry 131071 active with a supervision of 10 ms, and a mailbox frame of it. -/
def epState0 : State := withF base [(F.EP0_STATE 131071, 2), (F.EP7_SUPERV 131071, 1)]
def mbx0 : MbxFrame := { part := 0, cell := 0, ep := 131071 }
def poll0 : PollWindow := { ep := 131071, pair := 31, chan := 0, sf := 0, cr := 1, opens := 5000, closes := 9000, ackSeq := none }
/-- A downlink item of 20 bytes to entry 1 of the device, in queue 3, which downlink queue 0 serves. -/
def dlqItem (rxa : Nat) : List Word := itemOf ([wd (20 + 2 ^ 8 + 7 * 2 ^ 13), 8, 0] ++ wordsOfBytes (tb 16 ++ bytesLE 4 rxa))
def dlqState (it : List Word) : State :=
  let s := withF base [(F.MC_DLQ_EN 0, 1), (F.MC_DLQ_QUEUE 0, 3), (F.MC_ADDRCFG_PREFIX, 1), (F.EP0_SLEEPY 1, 1)]
  (s.qPut 3 0 it).setF (F.QM_QWP_PTR 3) it.length

theorem test_witness_Supervision :
    epState0.superDeadline 131071 = some 10000000 ∧ 10000000 + 2000 ≤ (atNs 10002000 epState0).ns ∧ epState0.verifying 131071 10000000 = false ∧
    (atNs 10001999 epState0).ns < 10000000 + 2000 ∧ base.superDeadline 131071 = none ∧ epState0.epState 131071 = epACTIVE ∧
    epState0.getF (F.EP7_SUPERV 131071) ≠ 0 ∧ epState0.sound = true ∧ epState0.mbxOf 131071 = [] ∧
    afind epState0.radio.lapsed 131071 = none ∧
    (let s : State := withF { base with radio := { prov := [(131071, 0)] } } [(F.EP0_STATE 131071, epPROV), (F.MC_JOINCFG_PROVTTL, 1)]
     afind s.radio.prov 131071 = some 0 ∧ s.epState 131071 = epPROV ∧
     0 + 1000000000 * s.getF F.MC_JOINCFG_PROVTTL + 2000 ≤ (atNs 1000002000 s).ns ∧
     (atNs 1000001999 s).ns < 0 + 1000000000 * s.getF F.MC_JOINCFG_PROVTTL + 2000) := by
  decide +kernel

theorem test_witness_MailboxesAndBudgets :
    (let s := dlqState (dlqItem 0)
     s.struct_.live = true ∧ s.getF (F.MC_DLQ_EN 0) = 1 ∧ s.getF (F.MC_DLQ_QUEUE 0) = 3 ∧ s.qUsable 3 = true ∧ s.radio.dlqStopped = [] ∧
     s.qHeadLost 3 = false ∧ s.qFront 3 = some (dlqItem 0) ∧ s.qPoisoned 3 (s.qR 3) (dlqItem 0).length = false ∧ rfItValid (dlqItem 0) = true ∧
     20 ≤ rfItLen (dlqItem 0) ∧ s.ownEp (rfRxa (rfItPayload (dlqItem 0))) = none) ∧
    (let s := dlqState (dlqItem (2 ^ 22 + 1))
     s.ownEp (rfRxa (rfItPayload (dlqItem (2 ^ 22 + 1)))) = some 1 ∧ s.getF (F.EP0_SLEEPY 1) = 1 ∧
     (s.mbxPut 1 (dlqItem (2 ^ 22 + 1))).2 = .ok ∧
     ((withF s [(F.MC_PART1_SIZE 0, 0)]).mbxPut 1 (dlqItem (2 ^ 22 + 1))).2 = .storeFull ∧
     (({ s with radio := { mbx := List.replicate 4 { mbx0 with ep := 1 } } } : State).mbxPut 1 (dlqItem (2 ^ 22 + 1))).2 = .endpointFull) ∧
    (withF base [(F.MC_DLQ_EN 0, 0)]).getF (F.MC_DLQ_EN 0) = 0 ∧
    (let s : State := withF { base with radio := { mbx := [mbx0] } } [(F.MC_PART0_MBXTTL 0, 1)]
     s.mbxOf 131071 = [mbx0] ∧ s.getF (F.MC_PART0_MBXTTL mbx0.part) ≠ 0 ∧
     s.mbxSecond mbx0 + s.getF (F.MC_PART0_MBXTTL mbx0.part) < (atNs 2000000000 s).ns / 1000000000 ∧
     (atNs 1999999999 s).ns / 1000000000 ≤ s.mbxSecond mbx0 + s.getF (F.MC_PART0_MBXTTL mbx0.part)) ∧
    (let s : State := { base with radio := { polls := [poll0] } }
     s.mbxOf 131071 = [] ∧ ({ s with radio := {} } : State).pollTime poll0 = some 5000 ∧
     ({ s with radio := {} } : State).pollTime { poll0 with closes := 5000 } = none) ∧
    base.radio.duty = [] ∧ afind ([] : List (Nat × Nat)) (base.ns / 1000000000 - 1) = none := by
  decide +kernel

/-! ## Cards -/

/-- Port 7, its ring 1 with a card exchange whose response buffer holds `len` bytes, CPH on. -/
def cardBase (len : Nat) : State := inDomain domCPH 2 (withF (hostUp.setDmaRing 1 {
  run := some { desc := { index := 0, words := [wd (2 ^ 31 + 2 * 2 ^ 28 + 12), wd len] } } }) [(F.CX_CARDCFG_RING 7, 1), (F.CX_CARDCFG_EN 7, 1),
  (F.CX_CARDCFG_DIV 7, 200)])
/-- A command buffer: an APDU of four bytes, flags 1 KEK, 2 RESET, 4 DEACT. -/
def cardCmd (flags : Nat) : List Byte := bytesLE 2 4 ++ bytesLE 2 flags ++ tb 4 ++ [0, 0xA4, 0, 0]
def cardIn (st : Nat) (c : CardState) (s : State) : State := (s.setCard 7 c).setF (F.CX_CARDSTAT_STATE 7) st
def run0 : CardRun := { ring := 1, header := (cardCmd 0).take 8, apdu := [0, 0xA4, 0, 0] }
/-- The answer 3B 00: T=0, nothing else; 3B 80 01 81: T=1 alone; 3B 10 97: TA1 97. -/
def atr0 : List Byte := [0x3B, 0x00]
def atr1 : List Byte := [0x3B, 0x80, 0x01, 0x81]

theorem test_answers_to_reset : readAtr atr0 = some { offers := [0] } ∧ readAtr atr1 = some { offers := [1] } ∧
    readAtr [0x3B, 0x80, 0x01, 0x80] = none ∧ readAtr [0x3B, 0x10, 0x97] = some { ta1 := 0x97, offers := [0] } ∧
    fdOf 0x97 = some (512, 64) ∧ readAtr [0x3B] = none := by
  decide

theorem test_witness_CardExchanges :
    hostUp.dmaRun 1 = none ∧ hostUp.cardState 7 = cdOFF ∧
    (let s := cardBase 64
     (s.dmaRun 1).isSome = true ∧ (s.dmaRun 1).any (fun d => dKind d.desc.words == 2 && !d.started && !d.waiting) = true ∧ s.cardRun 7 = none ∧
     s.cardState 7 = cdOFF ∧ s.domOn domCPH = true ∧ (inDomain domCPH 0 s).domOn domCPH = false ∧ s.canRead (.run 1) ∧
     s.flag (F.CX_CARDCFG_EN 7) = true ∧ (withF s [(F.CX_CARDCFG_EN 7, 0)]).flag (F.CX_CARDCFG_EN 7) = false ∧
     ccValid (cardCmd 0) = true ∧ ccValid (cardCmd 8) = false ∧ ccReset (cardCmd 0) = false ∧ (cardIn cdREADY {} s).cardState 7 ≠ cdOFF) ∧
    (let s := cardIn cdACTIVATING { run := some run0 } (cardBase 64)
     s.cardState 7 = cdACTIVATING ∧ (s.card 7).rstHigh = false ∧ (s.card 7).since + 200000 + s.cardClocks 7 512 ≤ (atNs 400000 s).ns ∧
     s.ns < (s.card 7).since + s.cardClocks 7 512) ∧
    (let s := cardIn cdACTIVATING { run := some run0, rstHigh := true, clkOn := true } (cardBase 64)
     let a : AtrInfo := { offers := [0] }
     (s.card 7).rstHigh = true ∧ s.cardRun 7 = some run0 ∧ (cardIn cdACTIVATING { rstHigh := true } s).cardRun 7 = none ∧
     atrProtocol a (s.flag (F.CX_CARDCFG_TPREF 7)) = some 0 ∧ atrProtocol { offers := [2] } false = none ∧ a.supported = true ∧ a.crc = false ∧
     ({ ta2 := some 0x10 } : AtrInfo).supported = false ∧ (s.atrTake 7 a 0 []).cardRun 7 = some run0 ∧
     (s.card 7).since + s.cardClocks 7 40000 ≤ (atNs 20000000 s).ns ∧ s.ns < (s.card 7).since + s.cardClocks 7 40000) ∧
    (let r : CardRun := { run0 with complete := true, response := [0x90, 0] }
     let s := cardIn cdEXCHANGE { run := some r } (cardBase 64)
     s.cardRun 7 = some r ∧ (s.dmaRun 1).isSome = true ∧ ccKek r.header = false ∧ ccDeact r.header = false ∧
     (s.dmaRun 1).any (fun d => decide (r.response.length + 8 ≤ dRespLen d.desc.words)) = true) ∧
    (let r : CardRun := { run0 with complete := true, header := [4, 0, 5, 0, 0, 0, 0, 16], response := tb 16 ++ [0x90, 0] }
     let s := cardIn cdEXCHANGE { run := some r } (withF (cardBase 8) [(F.CX_DPART0_SIZE 0, 4), (F.CX_DPART0_USE 0, 8)])
     s.cardCapture r = (csOK, some (tb 16)) ∧ ccDeact r.header = true ∧ (s.dmaRun 1).any (fun d => decide (dRespLen d.desc.words < 8 + 18)) = true ∧
     ccKek r.header = true ∧ (withF s [(F.CX_DPART0_USE 0, 0)]).drawerUse (ccDrawer r.header) useKEK none = false) ∧
    (cardIn cdDEACTIVATING {} base).cardState 7 = cdDEACTIVATING ∧ base.cardState 7 ≠ cdDEACTIVATING := by
  decide +kernel

/-- An exchange in progress under T=0, and one under T=1. -/
def exch (r : CardRun) : State := cardIn cdEXCHANGE { run := some r, lastSent := tb 5 } (cardBase 64)
def exch1 (r : CardRun) : State := withF (exch r) [(F.CX_CARDSTAT_PROTOCOL 7, 1)]

theorem test_witness_CardCharacters :
    (let s := exch run0
     s.cardRun 7 = some run0 ∧ s.cardState 7 = cdEXCHANGE ∧ run0.complete = false ∧ s.cardT1 7 = false ∧ run0.repeats < 4 ∧
     4 ≤ ({ run0 with repeats := 4 } : CardRun).repeats ∧ run0.stage = .proc ∧ (0x61 : Byte).toNat / 16 = 6 ∧
     ({ run0 with stage := .sw2 0x90 } : CardRun).stage = .sw2 0x90 ∧ ({ run0 with stage := .data 1 } : CardRun).stage = .data 1 ∧
     (s.card 7).since + s.cardClocks 7 (960 * (s.card 7).wi * s.getF (F.CX_CARDETU_F 7)) ≤ (atNs 2000000000 s).ns ∧
     4 < (s.card 7).lastSent.length ∧ (s.card 7).lastSent.length ≤ 5 ∧ (s.card 7).signalled = none ∧
     ((s.setCard 7 { s.card 7 with signalled := some (4, 4) }).card 7).signalled = some (4, 4) ∧
     ((withF s [(F.CX_CARDETU_F 7, 372)]).card 7).since < s.cardClocks 7 (s.cardWait 7 run0) + 1) ∧
    (let r : CardRun := { run0 with block := [0, 0, 0] }
     let s := exch1 r
     s.cardRun 7 = some r ∧ s.cardT1 7 = true ∧ run0.block.length + 1 < 4 ∧ 3 ≤ r.block.length ∧
     4 + ((r.block ++ [0]).getD 2 0).toNat ≤ r.block.length + 1 ∧ lrc (r.block ++ [0]) = 0 ∧ lrc (r.block ++ [1]) ≠ 0 ∧ r.bad = false ∧
     (s.card 7).since + s.cardClocks 7 (s.cardWait 7 r) ≤ (atNs 2000000000 s).ns ∧
     ((withF s [(F.CX_CARDETU_F 7, 372), (F.CX_CARDETU_D 7, 1)]).ns <
       (s.card 7).since + s.cardClocks 7 ((withF s [(F.CX_CARDETU_F 7, 372), (F.CX_CARDETU_D 7, 1)]).cardWait 7 r))) ∧
    ({ run0 with rblock := true } : CardRun).rblock = true ∧ base.cardRun 7 = none := by
  decide +kernel

/-! ## Queues, the service tag, faults -/

def staleState : State := (withF itemState [(F.QM_QCFG_STALE 3, 1)]).setQst 3 { tr := 0, tn := 5000 }

theorem test_witness_QueueLimits :
    ((atNs 17000 staleState).staleDue 3 = true ∧ (atNs 16999 staleState).staleDue 3 = false ∧
      (withF staleState [(F.QM_QSTAT_STALE 3, 1)]).flag (F.QM_QSTAT_STALE 3) = true ∧ staleState.struct_.live = true ∧
      staleState.flag (F.QM_QSTAT_STALE 3) = false ∧ (staleState.qst 3).late = none) ∧
    (let s := withF openState [(F.QM_OPENLIM_LIMIT, 1)]
     (s.qst 3).open_.any (fun x => x.producer.isHost && decide (x.since + s.getF F.QM_OPENLIM_LIMIT * 100000 + 2000 ≤ (atNs 102000 s).ns) &&
       decide ((atNs 101999 s).ns < x.since + s.getF F.QM_OPENLIM_LIMIT * 100000 + 2000)) = true ∧ s.getF F.QM_OPENLIM_LIMIT ≠ 0 ∧
     (Producer.isHost (.hw 7 0)) = false ∧ (base.qst 3).open_ = none) ∧
    (itemState.qUsable 3 = true ∧ itemState.txn.flushes.contains 3 = false ∧ (itemState.qst 3).open_ = none ∧ (itemOf [1]).length ≤ itemState.qRoom 3 ∧
      (withF itemState [(F.QM_QPLACE_EN 3, 0)]).qUsable 3 = false) ∧
    (let s : State := { base with tick := 256, queues := { scrubDue := [(3, 256)], scrubAt := [(3, 65535)] } }
     aget 0 s.queues.scrubDue 3 ≤ s.tick ∧ (255 : Nat) < aget 0 s.queues.scrubDue 3 ∧
     ({ s.queues with poison := [poisonKey 3 65535 (s.wordOfBank 3 65535)] } : QueueMemState).poison.contains (poisonKey 3 65535 (s.wordOfBank 3 65535)) = true) ∧
    (let c : BankCopy := { kind := kQBANK, bank := 3, spare := 60, txn := 0, started := 0 }
     c.isOf 3 = true ∧ c.started + 65536 ≤ 65536 ∧ 65535 < c.started + 65536) := by
  decide

def tagAs (t : TagMode) : State := { base with service := { base.service with tag := t } }
/-- A command addressed to the device, and one to another tag. -/
def toTag : FieldCmd := { addressed := true, uid := tagUid }
def toOther : FieldCmd := { addressed := true, uid := 0 }

theorem test_witness_FieldTag :
    (({} : FieldCmd).twoSubcarriers = false ∧ (tagAs .ready).service.tag ≠ .quiet ∧ ({} : FieldCmd).afi = none ∧ ({} : FieldCmd).maskLen = 0) ∧
    (toOther.selectFlag = false ∧ toOther.addressed = true ∧ toTag.addressed = true ∧ toTag.selectFlag = false ∧
      ({ selectFlag := true } : FieldCmd).selectFlag = true ∧ (tagAs .ready).service.tag ≠ .selected ∧ (tagAs .selected).service.tag = .selected ∧
      (tagAs .quiet).service.tag = .quiet) ∧
    ((tagAs .ready).hears {} = true ∧ (tagAs .selected).hears { selectFlag := true } = true ∧ ({ fields := 15 } : FieldCmd).fields = 15) ∧
    (base.lclaim 79 ≠ some .host ∧ (base.lcopy 79 0).valid = true ∧ (base.lcopy 79 1).valid = true ∧ (base.lread 79).isSome = true ∧
      (claimed 511 .host base).lclaim 511 = some .host ∧ (base.lread 511).isSome = true ∧ base.mode.mode ≠ .OFF ∧
      (inMode .OFF base).mode.mode = .OFF ∧ ({ weak := true } : FieldCmd).weak = true ∧ base.lclaim 384 ≠ some .host ∧
      base.hostHolds 384 = false ∧ base.hostHolds 79 = false ∧ base.claimNow 384 = none ∧ (claimed 511 .host base).hostHolds 511 = true ∧
      (withF base [(F.SV_CFG_FIELD_WR, 0)]).flag F.SV_CFG_FIELD_WR = false ∧ (withF base [(F.SV_CFG_FIELD_WR, 1)]).flag F.SV_CFG_FIELD_WR = true) := by
  decide +kernel

/-- The device answers a command that carries its own UID, not another's, and a mask short of a difference. -/
theorem test_witness_FieldTagUid : (tagAs .quiet).hears toTag = true := by
  simp only [State.hears, toTag, beq_self_eq_true, Bool.not_false, Bool.true_and, if_true, Bool.false_eq_true, if_false]
/-- Whatever the tag's UID, a command can name another one. -/
theorem test_witness_FieldTagOther (u : Nat) : ({ addressed := true, uid := u + 1 } : FieldCmd).uid ≠ u := by
  show u + 1 ≠ u
  omega

theorem test_witness_FieldTagMask (u : Nat) : u % 2 ^ 1 = u % 2 ^ ({ maskLen := 1 } : FieldCmd).maskLen ∧ u % 2 ^ 1 ≠ (u + 1) % 2 ^ 1 := by
  refine ⟨rfl, ?_⟩
  omega

/-- An open record of a wedged unit, last seen at 0. -/
def rec0 (code kind unit : Nat) : FaultRec := {
  serial := 1, code := code, kind := kind, secondary := false, isOpen := true, escalated := false, retired := false, count := 1,
  unit := unit, primary := 0, first := 0, last := 0, detail := 0, mode := 5, seq := 0 }
def logged (r : FaultRec) (s : State) : State := { s with faults := { s.faults with log := [(255, r)] } }
def wedgedU (k : Fin 11) (u : Nat) (s : State) : State := { s with faults := { s.faults with wedged := [⟨k, u⟩] } }
def audited (a : Audit) (s : State) : State := { s with faults := { s.faults with audits := [(0, a)] } }

theorem test_witness_FaultRecords :
    (base.mode.mode ≠ .OFF ∧ escalating 9 ⟨10, 0⟩ = false ∧ escalating fcWEDGE ⟨9, 0⟩ = true ∧ (inMode .OFF base).mode.mode = .OFF ∧
      (logged (rec0 9 10 0) base).openRecord 9 10 0 = some (255, rec0 9 10 0) ∧ base.openRecord 9 10 0 = none ∧ base.faults.log.length < 256) ∧
    (let s := withF (logged (rec0 9 10 0) base) [(F.FT_CFG_AUTOCLOSE, 1)]
     afind s.faults.log 255 = some (rec0 9 10 0) ∧ s.getF F.FT_CFG_AUTOCLOSE ≠ 0 ∧ (rec0 9 10 0).last + s.getF F.FT_CFG_AUTOCLOSE * 1000000000 + 2000 ≤ (atNs 1000002000 s).ns ∧
     (atNs 1000001999 s).ns < (rec0 9 10 0).last + s.getF F.FT_CFG_AUTOCLOSE * 1000000000 + 2000 ∧ afind base.faults.log 255 = none ∧
     s.closeDue (rec0 9 10 0) + 2000 ≤ (atNs 1000002000 s).ns ∧ (rec0 9 10 0).lapsed = none ∧
     (withF base [(F.FT_CFG_AUTOCLOSE, 0)]).getF F.FT_CFG_AUTOCLOSE = 0 ∧ 255 ∈ s.openRecords ∧ 254 ∉ s.openRecords ∧ s.runs tc opFAULT_CLOSE) ∧
    ((withF base [(F.SC_LANECTL_RUN 0, 1)]).canWedge ⟨0, 0⟩ = true ∧ base.canWedge ⟨7, 0⟩ = false ∧ base.canWedge ⟨9, 0⟩ = true ∧ base.mode.mode.canFault = true ∧
      (base.wedgeUnit ⟨9, 0⟩).mode.mode = .FAULT ∧ (wedgedU 3 0 base).isWedged 3 0 = true ∧ base.isWedged 3 0 = false ∧
      base.canWedge ⟨6, 0⟩ = true) := by
  decide +kernel

theorem test_witness_Autospare :
    (let s := withF (wedgedU 0 0 base) [(F.FT_CFG_AUTOSPARE, 1)]
     s.isWedged 0 0 = true ∧ s.role 0 0 = roleLIVE ∧ s.flag F.FT_CFG_AUTOSPARE = true ∧ s.tick ≤ aget 0 s.faults.wedgedAt 0 ∧
     aget 0 s.faults.wedgedAt 0 < ({ s with tick := 1 } : State).tick) ∧ base.freeSpares 0 ≠ [] ∧
    (withF base [(F.FT_CFG_AUTOSPARE, 0)]).flag F.FT_CFG_AUTOSPARE = false := by
  decide +kernel

theorem test_witness_Audits :
    (let s := withF base [(F.FT_AUDCFG_EN 0, 1)]
     s.struct_.live = true ∧ s.mode.mode ≠ .FAULT ∧ (withF base [(F.FT_AUDCFG_EN 0, 0)]).flag (F.FT_AUDCFG_EN 0) = false ∧ s.flag (F.FT_AUDCFG_EN 0) = true ∧
     (s.audit 0).active = false ∧ ((audited { active := true, dwellEnd := 1 } s).audit 0).active = true ∧
     s.ns < ((audited { active := true, dwellEnd := 1 } s).audit 0).dwellEnd ∧ ((audited { active := true } s).audit 0).dwellEnd ≤ s.ns ∧
     ((audited { active := true } s).audit 0).suspect = none ∧ ((audited { active := true, suspect := some 7 } s).audit 0).suspect = some 7) := by
  decide +kernel

/-! ## Transactions -/

/-- FIELD_WRITE of all of FT_CFG with zero. -/
def acRec : List Word := [1, wd F.FT_CFG, 0xFFFFFFFF, 0, 0, 0, 0, 0]
def act0 (i : Nat) : TxnAction := { record := acRec, index := i }
def lock0 : Lock := { kind := 0, first := F.FT_CFG, count := 1 }
/-- Slot 511, opened at DT 7, of a one-device transaction. -/
def tx (p : TxnPhase) : Txn := { slot := 511, gen := 0, tag := 0, phase := p, age := { time := 7, frac := 0, member := 0 } }
def withTx (l : List Txn) (s : State) : State := { s with txn := { s.txn with slots := l } }
def master : State := withF base [(F.BN_CFG_ROLE, roleMASTER), (F.BN_CFG_NMEMB, 1)]
/-- Pool of transaction slots used up. -/
def noSlots : State := { base with txn := { pool := { next := 512 } } }
def openWords (m q : Nat) : List Word := [wd (q % 2 ^ 14 + (if q < 2 ^ 14 then 2 ^ 14 else 0)), wd m]
def commitWords (at_ : Nat) (t : Nat) : List Word := [511, wd at_, wd t, 0]

theorem test_witness_TxnOpen :
    (∀ op ∈ [opTXN_OPEN, opTXN_ADD, opTXN_COMMIT, opTXN_ABORT, opTXN_STATUS], base.runs tc op) ∧
    (wordAt (openWords 3 (2 ^ 14)) 1).toNat ≠ 0 ∧ base.benchRole ≠ roleMASTER ∧ master.benchRole = roleMASTER ∧ (wordAt (openWords 0 3) 1).toNat = 0 ∧
    (wordAt (openWords 0 3) 0).bit 14 = true ∧ (wordAt (openWords 0 (2 ^ 14)) 0).bit 14 = false ∧
    (withTx [stagedTxn] base).stageHolder 3 ≠ none ∧ base.stageHolder 3 = none ∧ noSlots.ageTick.takeSlot = none ∧ base.ageTick.takeSlot.isSome = true ∧
    (({ next := 512 } : Pool).take 512 128).isNone = true := by
  decide +kernel

theorem test_witness_TxnAddCommitAbort :
    base.txnOf 511 = none ∧ base.txn.late.contains 511 = false ∧
    ({ base with txn := { late := [511] } } : State).txn.late.contains 511 = true ∧ (withTx [{ tx .opened with master := some (0, 0) }] base).txnOf 511 = some { tx .opened with master := some (0, 0) } ∧
    (∀ p ∈ [TxnPhase.opened, .waiting, .reclaim, .scheduled, .sealed], (withTx [tx p] base).txnOf 511 = some (tx p) ∧ (tx p).phase = p) ∧
    (tx .opened).master = none ∧ (tx .scheduled).commitAt ≤ base.ns ∧ base.ns < ({ tx .scheduled with commitAt := 1 } : Txn).commitAt ∧
    ({ tx .sealed with decided := some true } : Txn).decided ≠ none ∧ (tx .sealed).decided = none ∧ (tx .reclaim).wasScheduled = false ∧
    (tx .reclaim).heldCommit = none ∧ acForm acRec = true ∧ acForm [9] = false ∧ (tx .opened).memberOk 1 = false ∧ (tx .opened).memberOk (acMember acRec) = true ∧
    (List.replicate 64 (act0 0)).length = 64 ∧ (tx .opened).actions.length < 64 ∧ acStaged acRec = false ∧ (tx .opened).remote (act0 0) = false ∧
    base.checkAction (act0 0) false (some 0) = (stOK, act0 0) ∧
    (base.checkAction { record := [1, 0xFFFFFFFC, 0xFFFFFFFF, 0] } false (some 0)).1 ≠ stOK ∧ acType acRec ≠ acAMEND := by
  decide +kernel

theorem test_witness_TxnCommit :
    ({ tx .opened with members := 3 } : Txn).members ≠ 0 ∧ (wordAt (commitWords 0 0) 1).bit 0 = false ∧ (wordAt (commitWords 1 0) 1).bit 0 = true ∧
    (wordAt (commitWords 1 199999) 2).toNat + (wordAt (commitWords 1 199999) 3).toNat * 2 ^ 32 < base.ns + 200000 ∧
    base.ns + 200000 ≤ (wordAt (commitWords 1 200000) 2).toNat + (wordAt (commitWords 1 200000) 3).toNat * 2 ^ 32 ∧
    (let t := { tx .opened with actions := [act0 0] }
     let s := withTx [t] base
     (s.reserveFor t).isSome = true ∧ ((s.reserveFor t).any fun x => (x.1.commitChecks { x.2 with commitAt := x.1.ns } x.1 x.2.here).isNone &&
       (x.1.lqInsert (x.2.commitEntry 200000) (.txn x.2.slot)).2.1 == stOK && (x.1.lqInsert (x.2.commitEntry 0) (.txn x.2.slot)).2.1 != stOK) = true) ∧
    (let t := { tx .opened with actions := [{ record := [3, 3], item := List.replicate 3 0 }] }
     let s := (withTx [t] base).setQst 3 { reserved := 1000000 }
     s.reserveFor t = none) ∧
    (let t := { tx .opened with actions := [{ record := [4, 16383] }] }
     let s := withF (withTx [t] base) [(F.QM_QPLACE_EN 16383, 0)]
     (s.reserveFor t).any (fun x => (x.1.commitChecks { x.2 with commitAt := x.1.ns } x.1 x.2.here).isSome) = true) := by
  decide +kernel

/-- Slot 511 waits for the lock of its first action. -/
def waitTx : Txn := { tx .waiting with adding := some (act0 0, .host tc) }
def holder (t : Nat) : Txn := { tx .scheduled with slot := 0, age := { time := t, frac := 0, member := 0 }, actions := [act0 0], locked := [0] }
def reclaimTx : Txn := { tx .reclaim with actions := [act0 0] }

theorem test_witness_TxnLocks :
    (let s := withTx [waitTx] base
     s.txnAt 511 = some waitTx ∧ waitTx.phase = .waiting ∧ waitTx.adding = some (act0 0, .host tc) ∧ waitTx.wants.any (fun x => x.1 == 0) = true ∧
     waitTx.wants.all (fun x => (s.holders waitTx x.2).isEmpty && !s.olderWaits waitTx x.2) = true ∧
     waitTx.wants.all (fun x => ((withTx [waitTx, holder 3] base).holders waitTx x.2).all fun v => !ageOlder waitTx.age v.age) = true ∧
     waitTx.wants.all (fun x => !((withTx [waitTx, holder 3] base).holders waitTx x.2).isEmpty) = true) ∧
    (let s := withF (withTx [waitTx] base) [(F.TN_CTL_WAIT_LIMIT, 1)]
     s.getF F.TN_CTL_WAIT_LIMIT ≠ 0 ∧ waitTx.since + s.getF F.TN_CTL_WAIT_LIMIT * 1000000 < (atNs 1000001 s).ns ∧
     (atNs 1000000 s).ns ≤ waitTx.since + s.getF F.TN_CTL_WAIT_LIMIT * 1000000 ∧ (withF s [(F.TN_CTL_WAIT_LIMIT, 0)]).getF F.TN_CTL_WAIT_LIMIT = 0) ∧
    (let s := withTx [reclaimTx] base
     s.txnAt 511 = some reclaimTx ∧ reclaimTx.phase = .reclaim ∧ reclaimTx.wants.any (fun x => x.1 == 0) = true) ∧
    base.txnAt 511 = none ∧ (withTx [tx .sealed] base).txnAt 511 = some (tx .sealed) ∧
    (tx .opened).adding = none ∧ (withF base [(F.TN_CTL_AUTORETRY, 0)]).flag F.TN_CTL_AUTORETRY = false := by
  decide +kernel

def commitE : LqEntry := dueNow base (lqe (entryWords leTypeCOMMIT 4 511 5000))
def schedTx (p : TxnPhase) : Txn := { tx p with entry := some commitE.handle, actions := [act0 0] }

theorem test_witness_TxnCommitEntries :
    (let s := withTx [schedTx .scheduled] (atNs 5000 (queued commitE base))
     s.lqAt 2047 = some commitE ∧ leType commitE.words = leTypeCOMMIT ∧ s.lqReady commitE = true ∧ s.actionStop commitE = none ∧
     (inMode .FAULT s).actionStop commitE = some stMODE_SILENT ∧ (withTx [] s).txn.slots.find? (·.entry == some commitE.handle) = none ∧
     s.txn.slots.find? (·.entry == some commitE.handle) = some (schedTx .scheduled) ∧
     (let z := s.lqRemove 2047
      let y : State := { z with txn := { z.txn with late := z.txn.late ++ [(schedTx .scheduled).handle] } }
      (y.commitChecks { schedTx .scheduled with entry := none } y (schedTx .scheduled).here).isNone = true ∧
      (y.commitChecks { schedTx .sealed with entry := none, members := 3, decided := some true } y (schedTx .sealed).here).isNone = true ∧
      (z.commitChecks { schedTx .sealed with entry := none, master := some (0, 9), decided := some true } z (schedTx .sealed).here).isNone = true) ∧
     (s.commitChecks (tx .scheduled) (withF s [(F.QM_QPLACE_EN 16383, 0)]) [{ record := [4, 16383] }]).isSome = true) ∧
    base.lqAt 2047 = none ∧ ({ schedTx .sealed with master := some (0, 9), decided := some true } : Txn).decided = some true ∧
    ({ schedTx .sealed with master := some (0, 9) } : Txn).decided ≠ some true ∧ (schedTx .reclaim).phase = .reclaim := by
  decide +kernel

/-- Member 1 of a bench, its master's transaction 9 in slot 511. -/
def part (p : TxnPhase) : Txn := { tx p with master := some (0, 9), members := 2 }
def benchAct : BenchAction := { handle := 9, age := { time := 7, frac := 0, member := 0 }, members := 2, index := 0, record := acRec, item := [] }
def done0 : BenchDone := { src := 0, tag := 5, time := 0, status := 0, words := [] }
/-- A bench-wide transaction of the master and member 1, its C at 1 ms. -/
def wide (p : TxnPhase) : Txn := { tx p with members := 3, commitAt := 1000000 }

theorem test_witness_BenchWideMember :
    (base.benchRole ≠ roleMEMBER ∧ base.benchRole ≠ roleMASTER ∧ benchMember.benchRole = roleMEMBER) ∧
    (let s : State := { benchMember with bench := { benchMember.bench with done := [done0] } }
     s.benchSeen 0 5 = some done0 ∧ benchMember.benchSeen 0 5 = none ∧ benchMember.partWith 0 9 = none ∧
     ({ benchMember with txn := { pool := { next := 512 } } } : State).newPart 0 9 (max 1 2) benchAct.age = none ∧
     (benchMember.newPart 0 9 (max 1 2) benchAct.age).isSome = true) ∧
    (let s := withTx [part .opened] benchMember
     s.partWith 0 9 = some (part .opened) ∧ (∀ x ∈ s.txn.slots, (x.adding.map (·.2)) ≠ some (.bench 0 5)) ∧ acForm benchAct.record = true ∧
     acForm [9] = false ∧ acType [9] ≠ acAMEND ∧ (part .opened).actions.length < 64 ∧
     s.checkAction { record := benchAct.record, item := [], index := 0 } false none = (stOK, { record := acRec, item := [], index := 0 }) ∧
     (withTx [part .sealed] benchMember).partWith 0 9 = some (part .sealed) ∧ (part .sealed).phase ≠ .opened) ∧
    (let t := { part .opened with actions := [{ record := [3, 3], item := List.replicate 3 0 }] }
     (((withTx [t] benchMember).setQst 3 { reserved := 1000000 }).benchReply 0 5 stOK []).reserveFor t = none) ∧
    (let t := { part .sealed with prepared := true, commitAt := 1000000 }
     let s := withF (withTx [t] benchMember) [(F.TN_BCFG_GUARD, 100)]
     s.txnAt 511 = some t ∧ t.master = some (0, 9) ∧ t.prepared = true ∧ t.decided = none ∧
     (let s1 := s.benchReply 0 5 stOK []
      s1.ns + s1.getF F.TN_BCFG_GUARD * 1000 ≤ t.commitAt ∧
      t.commitAt < ((atNs 900001 s).benchReply 0 5 stOK []).ns + s1.getF F.TN_BCFG_GUARD * 1000) ∧
     t.commitAt - s.getF F.TN_BCFG_GUARD * 1000 + 2000 ≤ (atNs 902000 s).ns ∧ (atNs 901999 s).ns < t.commitAt - s.getF F.TN_BCFG_GUARD * 1000 + 2000) := by
  decide +kernel

theorem test_witness_BenchWideMaster :
    (let s := withTx [wide .sealed] master
     s.txnAt 511 = some (wide .sealed) ∧ s.benchSeen 1 5 = none ∧ (wide .opened).woundable = true ∧ (wide .sealed).woundable = false ∧
     (let s1 := s.benchReply 1 5 stOK []
      s1.undecided 511 = some (wide .sealed) ∧ s1.undecided 9 = none ∧ (s1.otherMembers (wide .sealed)).contains 1 = true ∧
      (s1.otherMembers (wide .sealed)).contains 2 = false ∧ s1.ns ≤ s1.voteDeadline (wide .sealed) ∧
      (atNs 1000001 s1).voteDeadline (wide .sealed) < (atNs 1000001 s1).ns ∧ s1.expired (s1.voteDeadline (wide .sealed)) = false ∧
      (atNs 1002000 s1).expired ((atNs 1002000 s1).voteDeadline (wide .sealed)) = true) ∧
     (wide .sealed).master = none ∧ (wide .sealed).decided = none ∧ s.expired (s.voteDeadline (wide .sealed)) = false ∧
     (atNs 1002000 s).expired (s.voteDeadline (wide .sealed)) = true) ∧
    (let t := { wide .sealed with decided := some true, reports := [(0, 0)] }
     let s := withTx [t] master
     let s1 := s.benchReply 1 5 stOK []
     s1.txnOf 511 = some t ∧ s1.awaiting t = true ∧ (s1.otherMembers t).contains 1 = true ∧ t.reports.any (·.1 == 1) = false ∧
     s1.allReported { t with reports := t.reports ++ [(1, 0)] } = true ∧ s1.allReported { t with reports := [(1, 0)] } = false ∧
     s.awaiting t = true ∧ t.reports.any (·.1 == s.memberNo) = true ∧ t.commitAt + 1002000 ≤ (atNs 2002000 s).ns ∧ (atNs 2001999 s).ns < t.commitAt + 1002000) := by
  decide +kernel

/-! ## Bench and peer fabric -/

/-- A master whose east group runs on four lanes to member 1, and whose peer port 0 runs on four lanes. -/
def benchUp : State :=
  let s := withF master [(F.BN_GRPCFG_LANES 0, 4), (F.BN_GRPCFG_GCM 0, 0), (F.BN_GRPSTAT_STATE 0, 2), (F.PF_PORTCFG_LANES 0, 4), (F.PF_PORTSTAT_STATE 0, 2),
    (F.PF_PORTSTAT_NEIGH_UP 0, 1), (F.PF_PORTSTAT_NEIGH 0, 7), (F.PF_CFG_ADDR, 3), (F.MC_ADDRCFG_PREFIX, 1)]
  { s with bench := { s.bench with linkmap := 1 } }
def neigh (m lanes skew : Nat) : Neighbour := { member := m, master := false, prefix_ := 1, nmemb := 1, lanes := lanes, skew := skew, rdi := false, linkmap := 0 }

theorem test_witness_BenchGroups :
    base.groupEnabled 0 = false ∧ benchUp.groupEnabled 0 = true ∧ benchUp.groupEnabled 2 = true ∧
    (let x := benchUp.groupLocked 0 (neigh 2 4 0)
     x.matches 0 (neigh 2 4 0) = false ∧ x.flag (F.BN_GRPSTAT_MISMATCH 0) = false ∧ (withF x [(F.BN_GRPSTAT_MISMATCH 0, 1)]).flag (F.BN_GRPSTAT_MISMATCH 0) = true ∧
     x.matches 0 (neigh 1 4 51) = true ∧ (neigh 1 4 51).skew = 51 ∧ (neigh 1 4 50).lanes = x.groupLanes 0 ∧ (neigh 1 8 50).lanes ≠ x.groupLanes 0 ∧
     (neigh 1 4 50).lanes = (benchUp.groupLocked 2 (neigh 1 4 50)).groupLanes 2) ∧
    (let x := benchUp.laneState 0 15 (LaneFail.frame).left
     x.groupUp 0 = true ∧ (benchUp.laneState 1 15 (LaneFail.lock).left).groupUp 1 = false ∧ (benchUp.laneState 2 3 (LaneFail.lock).left).groupUp 2 = true) ∧
    (∀ j < 6, base.groupEnabled j = false) ∧ benchUp.getF (grpState 5) = 0 ∧ benchUp.getF (grpState 2) = 2 ∧ (withF benchUp [(F.PF_PORTSTAT_STATE 0, 1)]).getF (grpState 2) = 1 ∧
    (benchUp.bump (F.BN_GRPERR_CELLERR 0) 3).groupUp 0 = true ∧ benchUp.getF (grpState 0) = 2 ∧ (∀ j < 6, base.groupUp j = false) ∧
    (let s : State := { benchUp with bench := { benchUp.bench with echo := [(2, (65535, 10))] } }
     aget (65536, 0) s.bench.echo 2 = (65535, 10) ∧ (aget (65536, 0) s.bench.echo 2).1 ≠ 0 ∧ s.timeGroup ≠ some 2) := by
  decide +kernel

theorem test_witness_BenchTimes :
    (let s : State := { withF base [(F.BN_CFG_WTR, 1)] with bench := { wtr := [(31, 5)] } }
     afind s.bench.wtr 31 = some 5 ∧ 5 + s.getF F.BN_CFG_WTR * 1000000000 ≤ (atNs 1000000005 s).ns ∧
     (atNs 1000000004 s).ns < 5 + s.getF F.BN_CFG_WTR * 1000000000 ∧ afind s.bench.wtr 30 = none) ∧
    (let s := atNs 11000000000 benchUp
     s.struct_.live = true ∧ s.groupLanes 0 ≠ 0 ∧ s.groupLanes 5 = 0 ∧ 11 ≤ s.ns / 1000000000 ∧ benchUp.ns / 1000000000 < 11 ∧
     (aget {} s.bench.perf 0).last ≠ some 0 ∧ (aget {} s.bench.perf 0).unavail = false ∧
     (let z : State := { s with bench := { s.bench with perf := [(0, { errored := (List.range 10).map fun t => (t, 120000) })] } }
      (∀ i < 10, z.isSes 0 (0 + i) = true) ∧ (aget {} z.bench.perf 0).unavail = false ∧ (aget {} z.bench.perf 0).last = none)) ∧
    (aget {} ({ perf := [(0, { last := some 3 })] } : BenchState).perf 0).last = some 3 := by
  decide +kernel

def req0 (p : BenchPurpose) : BenchReq := { tag := 8191, dst := 1, content := .read 0 1, purpose := p, east := true, deadline := 100 }
/-- An EVENT_EDGE-free entry with BENCH set: a MARKER on members 0 and 1. -/
def benchEntry (t members : Nat) : List Word := (markerWords t).mapIdx fun i w => if i = 0 then w ||| wd (2 ^ 18) else if i = 7 then wd members else w

theorem test_witness_BenchRequests :
    (∀ op ∈ [opMEMBER_RESET, opREMOTE_READ, opREMOTE_WRITE, opHANDOVER, opLAUNCH], base.runs tc op ∧ benchUp.runs tc op) ∧
    base.benchRole ≠ roleMASTER ∧ benchUp.benchRole = roleMASTER ∧ (wordAt [1] 0).bit 0 = true ∧ wordAt [2] 0 = 2 ∧
    (benchUp.benchAsk 1 (.reset tc.f16 tc.f17) (.reset tc)).2 = stOK ∧ (master.benchAsk 1 (.reset tc.f16 tc.f17) (.reset tc)).2 = stNO_MEMBER ∧
    (wordAt [0x10008] 0).field 3 0 = 8 ∧ (wordAt [0x10008] 0).field 20 16 = 1 ∧ (benchUp.benchAsk 1 (.read 0 8) (.read tc)).2 = stOK ∧
    benchUp.nmemb < 2 ∧ (benchUp.benchAsk 1 (.write 0 [0]) (.write tc)).2 = stOK ∧ (wordAt [0, 7] 1).field 15 0 = 7 ∧
    benchUp.peerPort 7 = some 0 ∧ benchUp.peerPort 8 = none ∧ benchUp.domOn domBPL = true ∧ (inDomain domBPL 0 benchUp).domOn domBPL = false ∧
    (inDomain domBPL 0 benchUp).benchRole = roleMASTER ∧ 1 ≤ benchUp.nmemb ∧ 1 ≠ benchUp.memberNo ∧ (benchUp.handWords 0).length = 16 ∧
    leBench (benchEntry 1000000 3) = true ∧ benchUp.hostForm (benchEntry 1000000 3) = true ∧ benchUp.hostForm (entryWords leTypeCOMMIT 4 0 0) = false ∧
    benchUp.lqStatus (benchEntry 1000000 3) = stOK ∧ benchUp.lqStatus (benchEntry 0 3) ≠ stOK ∧ benchUp.namedMembers (benchEntry 1000000 3) = [1] ∧
    (benchUp.benchAsk 1 (.launch (benchEntry 1000000 3)) (.launch tc 1)).2 = stOK := by
  decide +kernel

theorem test_witness_BenchReplies :
    benchUp.requestOf 8191 = none ∧
    (let s : State := { benchUp with bench := { benchUp.bench with reqs := [req0 .none] } }
     s.requestOf 8191 = some (req0 .none) ∧ s.ns ≤ (req0 .none).deadline ∧ (req0 .none).deadline < (atNs 101 s).ns ∧ (req0 .none).deadline + 2000 ≤ (atNs 2100 s).ns ∧ (atNs 2099 s).ns < (req0 .none).deadline + 2000 ∧
     s.ring = false ∧ (withF s [(F.BN_CFG_TOPO, 1)]).ring = true ∧ (req0 .none).retried = false ∧ peerDst (req0 .none).content = none ∧
     peerDst (.peerHandover 7 3 0 []) ≠ none ∧ (req0 (.read tc)).purpose = .read tc) := by
  decide +kernel

def msg (kind dst ctr : Nat) (c : BenchContent) : BenchMsg := {
  kind := kind, src := 1, dst := Fin.ofNat 32 dst, tag := Fin.ofNat 8192 3, counter := ctr, content := c }
/-- A lender of two demodulators to member 1, one credit granted. -/
def lender : State :=
  let s := withF benchUp [(F.BN_LEASE_BORROWER 0, 1), (F.BN_LEASE_COUNT 0, 2)]
  { s with bench := { s.bench with granted := [(1, 1)] } }
def lentDemod : Demod := { demod0 .preamble 0 with lent := some (1, 5, 0) }

theorem test_witness_BenchMessages :
    base.groupUp 0 = false ∧ benchUp.groupUp 2 = true ∧ benchUp.peerUp 0 = true ∧ (withF benchUp [(F.PF_PORTSTAT_NEIGH_UP 0, 0)]).peerUp 0 = false ∧
    benchUp.groupUp 0 = true ∧ (msg 1 1 9 (.read 0 1)).dst.val ≠ benchUp.memberNo ∧ benchUp.pathTo (msg 1 1 9 (.read 0 1)).dst = 0 ∧
    benchUp.pathTo (msg 1 31 9 (.read 0 1)).dst = 2 ∧ (msg 1 0 9 (.read 0 1)).dst.val = benchUp.memberNo ∧ (msg 0 0 9 (.read 0 1)).kind = 0 ∧
    7 < (msg 8 0 9 (.read 0 1)).kind ∧ benchUp.tagChecks 0 (msg 1 0 9 (.read 0 1)) = 1 ∧ benchUp.replayed 0 (msg 1 0 9 (.read 0 1)) = false ∧
    (let s := withF benchUp [(F.BN_GRPCFG_GCM 0, 1), (F.CX_DPART0_SIZE 0, 4), (F.CX_DPART0_USE 0, 0)]
     s.tagChecks 0 (msg 1 0 9 (.read 0 1)) = 0 ∧ s.groupGcm 0 = true ∧ s.drawerUse (s.groupDrawer 0) useLINK none = false) ∧
    benchUp.groupGcm 0 = false ∧
    ({ benchUp with bench := { benchUp.bench with accepted := [(1, 9)] } } : State).replayed 0 (msg 1 0 9 (.read 0 1)) = true ∧
    (msg 1 0 9 (.ack 3 0 [])).content = .ack 3 0 [] ∧ (msg 1 0 9 (.lease .credit)).content = .lease .credit ∧
    (benchMember.benchRole = roleMEMBER ∧ ({ msg 1 0 9 (.read 0 1) with src := 0 } : BenchMsg).src.val = 0 ∧ benchMember.benchSeen 0 3 = none ∧
      inMap F.FT_CFG 1 = true ∧ benchMember.readPoisoned F.FT_CFG 1 = false) := by
  decide +kernel

theorem test_witness_LentDemodulators :
    (benchUp.getF (F.BN_LEASE_COUNT 7) = 0 ∧ (inDomain domCHC 0 lender).domOn domCHC = false ∧ lender.getF (F.BN_LEASE_COUNT 0) ≠ 0 ∧
      lender.pathTo (lender.getF (F.BN_LEASE_BORROWER 0)) ≠ 2 ∧ lender.getF (F.BN_LEASE_BORROWER 0) ≠ lender.memberNo ∧ lender.domOn domCHC = true ∧
      aget 0 lender.bench.granted 1 + lender.serving 1 < lender.setAside 1 ∧
      ({ lender with bench := { lender.bench with granted := [(1, 2)] } } : State).setAside 1 ≤ 2) ∧
    aget 0 benchUp.bench.granted 1 = 0 ∧ aget 0 lender.bench.granted 1 = 0 + 1 ∧
    ({ lender with bench := { lender.bench with granted := aset lender.bench.granted 1 0 } } : State).freeUnits.head? = some 0 ∧
    lender.lentFor 1 5 = none ∧ (withDemods [lentDemod] lender).lentFor 1 5 = some lentDemod ∧
    (BitVec.ofNat 56 (2 ^ 42)).getLsbD 42 = true ∧ (0 : BitVec 56).getLsbD 42 = false ∧
    (0 + 1000000 ≤ (atNs 1000000 lender).ns ∧ (atNs 999999 lender).ns < 0 + 1000000) := by
  decide +kernel

/-- A list keeps nothing that some demodulator of it serves. -/
theorem serving_all (l : List Nat) (p : Nat → Bool) :
    (l.filter fun u => p u && !(l.map (demod0 .preamble)).any fun d => d.slot == u && d.lender.isNone) = [] := by
  rw [List.filter_eq_nil_iff]
  intro u hu h
  have hany : ((l.map (demod0 .preamble)).any fun d => d.slot == u && d.lender.isNone) = true :=
    List.any_eq_true.mpr ⟨demod0 .preamble u, List.mem_map_of_mem hu, by simp [demod0]⟩
  rw [hany] at h
  simp at h

/-- With every demodulator serving a frame none is free. -/
theorem test_witness_NoFreeUnit : (withDemods ((List.range 2176).map (demod0 .preamble)) lender).freeUnits = [] := by
  unfold State.freeUnits withDemods
  generalize List.range 2176 = l
  exact serving_all l _

def helloFrom (a : Nat) : HelloCell := { addr := a, prefix_ := 0, port := 0, nmemb := 0 }
/-- One route, to address 9 over port p. -/
def routed (p m : Nat) : State := withF benchUp [(F.PF_RT_VALID 255, 1), (F.PF_RT_ADDR 255, 9), (F.PF_RT_METRIC 255, m), (F.PF_RT_PORT 255, p)]

theorem test_witness_PeerFabric :
    base.peerOn 2 = false ∧ benchUp.peerOn 2 = true ∧ (withF benchUp [(F.BN_CFG_ROLE, 0)]).benchRole = roleNONE ∧
    (withF benchUp [(F.BN_CFG_ROLE, 0)]).peerOn 2 = true ∧ (helloFrom 3).addr = benchUp.getF F.PF_CFG_ADDR ∧ (helloFrom 7).addr ≠ benchUp.getF F.PF_CFG_ADDR ∧
    (let s : State := { benchUp with bench := { benchUp.bench with routeSent := [(2, 0)] } }
     s.bench.routeChanged.contains 2 = false ∧ afind s.bench.routeSent 2 = some 0 ∧ (atNs 999999999 s).ns < 0 + 1000000000 ∧
     0 + 1000000000 ≤ (atNs 1000000000 s).ns ∧ afind benchUp.bench.routeSent 2 = none) ∧
    ((routed 0 2).peerRoute 9 = some 255 ∧ (routed 0 2).getF (F.PF_RT_PORT 255) = 0 ∧ (routed 1 2).getF (F.PF_RT_PORT 255) ≠ 0 ∧
      0 + 1 < (routed 1 2).getF (F.PF_RT_METRIC 255) ∧ (routed 1 2).getF (F.PF_RT_METRIC 255) ≤ 1 + 1 ∧ (routed 1 2).getF (F.PF_RT_METRIC 255) ≤ 16 ∧
      benchUp.peerRoute 9 = none) ∧
    (benchUp.flag (F.PF_PORTSTAT_NEIGH_UP 3) = false ∧ aget 0 benchUp.bench.hello 2 + 350000000 ≤ (atNs 350000000 benchUp).ns ∧
      (atNs 349999999 benchUp).ns < aget 0 benchUp.bench.hello 2 + 350000000) ∧
    ((routed 0 2).flag (F.PF_RT_VALID 255) = true ∧ aget 0 (routed 0 2).bench.refresh 255 + 3000000000 ≤ (atNs 3000000000 (routed 0 2)).ns ∧
      (atNs 2999999999 (routed 0 2)).ns < aget 0 (routed 0 2).bench.refresh 255 + 3000000000 ∧ benchUp.flag (F.PF_RT_VALID 255) = false) ∧
    (let s := withF benchUp [(F.PF_CFG_HANDQ, 3)]
     s.qCanTake (s.getF F.PF_CFG_HANDQ) (handItem 7 []).length = true ∧ (s.qHwItem (s.getF F.PF_CFG_HANDQ) (.hw 12 0) (handItem 7 [])).2 = true ∧
     (s.setQst 3 { reserved := 1000000 }).qCanTake (s.getF F.PF_CFG_HANDQ) (handItem 7 []).length = false) := by
  decide +kernel

theorem test_witness_RouteTableFull :
    (let s := withF benchUp ((List.range 256).map fun j => (F.PF_RT_VALID j, 1))
     ∀ j < 256, s.flag (F.PF_RT_VALID j) = true) := by
  decide +kernel

/-! ## The completion statements

Their hypotheses are the positive clauses of the statements above; each theorem here meets those of one clause for each form of
operand that the earlier ones leave, and its comment names the theorems that meet the others. A statement made of two earlier ones
has the two theorems under their first names. -/

/-- The other clauses: test_witness_WriteRefusedWholeOrApplied, PlainRegisterWriteStored, BlockCopies, Enqueue, LedgerAccess,
LedgerCopies, FaultRecords. -/
theorem test_witness_HostCommandsComplete :
    (base.runs tc opWRITE ∧ (tw 2).length ≤ 13 ∧ inMap F.MD_DOMCTL 1 = true ∧
      base.wordsRefused (base.privileged tc.session) F.MD_DOMCTL [7] = none) ∧
    (base.runs tc opLEDGER_WRITE ∧ base.lclaim 384 = none ∧ base.runs tc opFAULT_CLOSE ∧ (logged (rec0 9 10 0) base).openRecords = [255]) := by
  decide +kernel

/-- The other clauses: test_witness_ModeRequestsOfTheHost, FuseArmBlowAndProgram, SteppingDeviceTime, QueueControlAndFlush,
WritesWithEffects, RingEnable. -/
theorem test_witness_ControlWritesComplete :
    (openState.sound = true ∧ 0 < 2 ∧ 2 ≤ openState.qAhead 3) ∧
    (base.runs tc opWRITE ∧ base.stageHolder 3 = none ∧ (base.qst 3).behind = [] ∧ (base.qst 3).open_ = none ∧ base.sound = true) := by
  decide +kernel

/-- A buffer of one whole item of one word. -/
def oneWordItem : List Byte := bytesLE 4 (startWord 1).toNat

/-- The other clauses: test_witness_SnapshotReadsThroughBar0, DoorbellsAndRingEnable, CommandTakenFromItsRing, NoticesReachTheHost,
DescriptorsFetchedAndRefused, DescriptorsRunAndWriteBack, LossAndReturnOfTheHostLink. -/
theorem test_witness_HostLinkEventsComplete :
    (let s := reading (runningDma 0 (2 ^ 27 + 4) id hostUp)
     (s.dmaRing 1).run.any (fun d => dKind d.desc.words == 0 && dLen d.desc.words == 4 && dStart d.desc.words && dQueue d.desc.words == 3) = true ∧
     oneWordItem.length = 4 ∧ ((s.readEnd (.run 1)).qProduce 3 (.ring 1) true (wordsOfBytes oneWordItem)).2 = stOK) := by
  decide +kernel

/-- The other clauses: test_witness_BootTestsAndAcquisition, TwinLineAndTwinMessages, PowerDomainsDrainClampAndReturn, Autospare. -/
theorem test_witness_ModeAndDomainEventsComplete :
    (let s := inDomain 42 4 (withF base [(⟨F.MD_DOMCFG1, 10, 10⟩, 0)])
     s.domain 42 = 4 ∧ ((s.setDomain 42 0).domainLeavesOn 42).mode.mode ≠ .DRAIN ∧ ((s.setDomain 42 0).domainLeavesOn 42).wantsOn 42 = false) ∧
    (let s := inDomain 42 1 (withF base [(⟨F.MD_DOMCFG1, 10, 10⟩, 1)])
     s.domain 42 = 1 ∧ ((s.setDomain 42 2).domainComesOn 42).wantsOn 42 = true) ∧
    (base.canWedge ⟨9, 0⟩ = true ∧ (⟨9, 0⟩ : UnitRef).kind.val ≠ kPIPE) := by
  decide +kernel

/-- The other clauses: test_witness_TimeReferenceEvents, MainsTrackers, PowerLineAccess, LaunchedActionsTakeEffect, TxnCommitEntries. -/
theorem test_witness_TimeAndLaunchEventsComplete :
    (let e := dueE (entryWords leTypeGAIN 3 31 5000 5) 1
     let s := dueAction e.words 1 base
     s.lqAt 2047 = some e ∧ s.lqReady e = true ∧ s.actionStop e = none ∧ leType e.words = leTypeGAIN ∧ (wordAt e.words 5).bit 7 = false) ∧
    (let e := dueE (entryWords leTypeGAIN 0 95 5000 5) 0
     let s := dueAction e.words 0 base
     s.lqReady e = true ∧ s.actionStop e = none ∧ leKind e.words = 0) := by
  decide +kernel

/-- The other clauses: test_witness_SampleChainEvents, PowerLineReception, PowerLineItems, PowerLineTransmission, PowerLineAccess,
GrantLaunch. -/
theorem test_witness_SampleAndPowerLineEventsComplete :
    (let s := atNs 1360000 (lineState 4 (some (heldRx 2 2)))
     s.rxHome 0 = 0 ∧ s.rxState 0 0 = 4 ∧ (s.pchan 0 0).rx = some (heldRx 2 2) ∧ (heldRx 2 2).start + 680000 * 2 ≤ s.ns ∧
     s.launchesDue = false ∧ (tb 12).length = phLen (heldRx 2 2).header ∧ phFt (heldRx 2 2).header = 2) := by
  decide +kernel

/-- The other clauses: test_witness_ChirpDetections, DemodGranted, DemodReceives, ChirpTransmission, SlotsPrepared, ScheduledFrames,
Supervision, MailboxesAndBudgets. -/
theorem test_witness_RadioEventsComplete :
    (let s : State := { base with radio := { polls := [poll0] } }
     let z : State := { s with radio := {} }
     z.pollTime poll0 = some 5000 ∧ (z.launchItem 31 5000 (.radioAck 31)
       (z.rfAckItem 0 0 1 (z.epAddr 131071) 0 (z.getF (F.EP10_FOFS 131071)) true)).2.1 = stOK) := by
  decide +kernel

/-- The other clauses: test_witness_FramesVerifiedAndSecured, CardExchanges, CardCharacters, QueueLimits. -/
theorem test_witness_CipherCardAndQueueEventsComplete :
    (let r := verifyReq (rxOf securedBody) (some kek) none
     let s : State := { base with cipher := { reqs := [r] } }
     s.cipher.reqs = [r] ∧ s.cipher.held = [] ∧ r.ended = none ∧ r.cur = some kek ∧ r.prev = none ∧ r.job = .verify (rxOf securedBody) 0 0) := by
  decide +kernel

/-- The other clauses: test_witness_FaultRecords, Audits, LedgerAccess, LedgerDump, FieldTag, FieldTagUid. -/
theorem test_witness_ServiceFaultAndFieldEventsComplete :
    (let s : State := { base with faults := { wedged := [⟨2, 33⟩, ⟨2, 34⟩, ⟨2, 35⟩], audits := [(2, { active := true, spare := 32 })] } }
     (s.audit 2).active = true ∧ (s.audit 2).suspect = none ∧ s.freeSpares 2 = [(s.audit 2).spare]) ∧
    base.hostHolds 79 = false ∧ (base.lread 79).isSome = true := by
  decide +kernel

/-- The other clauses: test_witness_TxnLocks, BenchWideMember, BenchWideMaster. -/
theorem test_witness_TransactionEventsComplete :
    (let s := withTx [part .opened] benchMember
     s.benchRole = roleMEMBER ∧ s.benchSeen 0 5 = none ∧ s.partWith 0 9 = some (part .opened) ∧ (part .opened).phase = .opened) ∧
    (let s := withTx [wide .sealed] master
     s.benchRole = roleMASTER ∧ s.benchSeen 1 5 = none ∧ (s.benchReply 1 5 stOK []).undecided 511 = some (wide .sealed)) := by
  decide +kernel

/-- The other clauses: test_witness_BenchGroups, BenchTimes, BenchMessages, LentDemodulators, PeerFabric. -/
theorem test_witness_BenchAndPeerEventsComplete :
    (let s : State := { benchUp with bench := { benchUp.bench with routeChanged := [2] } }
     s.peerOn 2 = true ∧ s.peerUp (2 - 2) = true ∧ s.bench.routeChanged.contains 2 = true) ∧
    ((25 : Nat) ≠ 0 ∧ (25 : Nat) ≠ 50) ∧ benchUp.flag (F.PF_PORTSTAT_NEIGH_UP (2 - 2)) = true := by
  decide +kernel

end Sys2Proof.Tests
end

/-! Commands of a host (O50): the lemmas about register writes, block copies, queue writes, the ledger and the fault log come
first, one equation per row under the conditions in which it completes; the obligation is assembled from them by name. -/

namespace Sys2Proof.Machine
open Sys2Proof

/-! ## Register writes of a host command (R7 to R11, R306) -/

/-- The registers whose write does more than store their fields, or does something else (`State.writeReg`). -/
abbrev ownEffectRegs : List Reg :=
  [.MD_STATE, .MD_MODECTL, .MD_OPTAG, .MD_ABORTINFO, .CF_KEYSTAGE, .CF_FUSECTL, .TB_STEPCTL, .SC_LPGAIN, .SC_LPCAP,
    .SC_LANECTL, .PL_BLANK, .PL_PORTSTAT, .CH_POOLSTAT, .QM_QCFG, .QM_QCTL, .HL_SESS2, .HL_NRING2, .HL_DRING2, .QMEM, .EP0]

theorem writeReg_plain {h : RegHit} (hr : h.rd.reg ∉ ownEffectRegs) (s : State) (a : Nat) (v : Word) :
    s.writeReg h a v = (s.setWord a (h.rd.written (s.word a) v), stOK) := by
  unfold State.writeReg
  split <;> simp_all

theorem writeWord_of_not_structural {h : RegHit} {a : Nat} (hd : regAt a = some h) (hs : h.rd.structural = false)
    (s : State) (who : Nat) (v : Word) : s.writeWord who a v = s.writeReg h a v := by
  simp [State.writeWord, hd, hs]

theorem writeWords_singleton (s : State) (who a : Nat) (v : Word) : s.writeWords who a [v] = s.writeWord who a v := by
  rcases hx : s.writeWord who a v with ⟨t, st⟩
  by_cases h : st = stOK <;> simp [State.writeWords, hx, h]

theorem wordsRefused_singleton (s : State) (priv : Bool) (a : Nat) (v : Word) :
    s.wordsRefused priv a [v] = s.wordRefused priv a v := by
  have hw : wordAt [v] 0 = v := rfl
  cases hp : !priv && isHL a with
  | false => simp [State.wordsRefused, hp, hw]
  | true =>
    have hp' : (isHL a && !priv) = true := by rwa [Bool.and_comm]
    unfold State.wordRefused
    cases hd : regAt a <;> simp [State.wordsRefused, hp, hp']

/-- WRITE of 1 to 13 words of one range, none refused (R306). -/
theorem exec_write_accepted {s : State} {c : Cmd} {a : Nat} {ws : List Word} (h : s.runs c opWRITE) (h1 : 1 ≤ ws.length)
    (h13 : ws.length ≤ 13) (hm : inMap a ws.length = true) (hr : s.wordsRefused (s.privileged c.session) a ws = none) :
    exec (.write c a ws) s = .next (State.answer (s.writeWords c.session a ws) c opWRITE) := by
  have hform : ¬(ws.isEmpty = true ∨ 13 < ws.length) := by
    rw [List.isEmpty_iff_length_eq_zero]; omega
  have hst : s.writeStatus c.session a ws = s.writeWords c.session a ws := by
    rw [State.writeStatus, if_neg hform]
    simp [hm, State.cmdWrite, hr]
  change Host.Outcome.next (s.writeCommand c opWRITE a ws.length _) = _
  rw [writeCommand_runs h, hst]

/-- A row that writes one word as the command WRITE does, the word not refused (R306). -/
theorem srcWrite_cmd_accepted {s : State} {c : Cmd} {a : Nat} {v : Word} (h : s.runs c opWRITE) (hm : inMap a 1 = true)
    (hr : s.wordRefused (s.privileged c.session) a v = none) :
    s.srcWrite (.cmd c) a v = State.answer (s.writeWord c.session a v) c opWRITE := by
  have hr' : s.wordsRefused (s.privileged c.session) a [v] = none := by rw [wordsRefused_singleton, hr]
  simp [State.srcWrite, hm, State.writeCmd, writeCommand_runs h, State.cmdWrite, hr', writeWords_singleton]

/-- A word of a register that only stores its fields, written by a command: stored, with status OK. -/
theorem answer_writeWord_plain {h : RegHit} {a : Nat} (hd : regAt a = some h) (hs : h.rd.structural = false)
    (hr : h.rd.reg ∉ ownEffectRegs) (s : State) (c : Cmd) (who : Nat) (v : Word) :
    State.answer (s.writeWord who a v) c opWRITE = (s.setWord a (h.rd.written (s.word a) v)).complete c opWRITE stOK := by
  rw [writeWord_of_not_structural hd hs, writeReg_plain hr]; rfl

/-- The four rows that write one word of a register that only stores its fields (R8, R9, R139, R306). -/
theorem exec_write_rows_plain {s : State} {c : Cmd} {a : Nat} {v mask racing : Word} {h : RegHit} (hrun : s.runs c opWRITE)
    (hd : regAt a = some h) (hs : h.rd.structural = false) (hr : h.rd.reg ∉ ownEffectRegs) (hm : inMap a 1 = true)
    (hok : s.wordRefused (s.privileged c.session) a v = none) :
    let t := s.setWord a (h.rd.written (s.word a) v)
    exec (.write c a [v]) s = .next (t.complete c opWRITE stOK) ∧
    exec (.registerWrite (.cmd c) a v) s = .next (t.complete c opWRITE stOK) ∧
    exec (.counterClear c a v) s = .next (t.complete c opWRITE stOK) ∧
    (v = mask &&& w1cBits a &&& ~~~racing → exec (.w1cClear (.cmd c) a mask racing) s = .next (t.complete c opWRITE stOK)) := by
  intro t
  have hsrc : s.srcWrite (.cmd c) a v = t.complete c opWRITE stOK := by
    rw [srcWrite_cmd_accepted hrun hm hok, answer_writeWord_plain hd hs hr]
  refine ⟨?_, congrArg Host.Outcome.next hsrc, congrArg Host.Outcome.next hsrc, fun hv => ?_⟩
  · rw [exec_write_accepted hrun (by simp) (by simp) (by simpa using hm) (by rw [wordsRefused_singleton, hok]),
      writeWords_singleton, answer_writeWord_plain hd hs hr]
  · exact congrArg Host.Outcome.next (hv ▸ hsrc)

/-! ## The three clearing writes (R25, R79, R219) -/

/-- The definition of MD_OPTAG. -/
abbrev defMD_OPTAG : RegDef :=
  ⟨.MD_OPTAG, 0x40, [], [⟨13, 0, .RO, 0, false, false, []⟩, ⟨29, 16, .RO, 0, false, false, []⟩, ⟨31, 31, .WO, 0, false, false, []⟩]⟩

/-- The definition of MD_ABORTINFO. -/
abbrev defMD_ABORTINFO : RegDef :=
  ⟨.MD_ABORTINFO, 0x78, [], [⟨13, 0, .RO, 0, false, true, []⟩, ⟨15, 15, .RO, 0, false, true, []⟩, ⟨31, 16, .RO, 0, false, false, []⟩]⟩

/-- The definition of CH_POOLSTAT. -/
abbrev defCH_POOLSTAT : RegDef :=
  ⟨.CH_POOLSTAT, 0x830004, [], [⟨11, 0, .RO, 0, false, false, []⟩, ⟨27, 16, .RO, 0, false, false, []⟩, ⟨31, 31, .WO, 0, false, false, []⟩]⟩

theorem regAt_MD_OPTAG : regAt F.MD_OPTAG = some ⟨defMD_OPTAG, []⟩ := by decide
theorem regAt_MD_ABORTINFO : regAt F.MD_ABORTINFO = some ⟨defMD_ABORTINFO, []⟩ := by decide
theorem regAt_CH_POOLSTAT : regAt F.CH_POOLSTAT = some ⟨defCH_POOLSTAT, []⟩ := by decide

/-- The bit that the two high-water marks are cleared with. -/
theorem hwClear_bit : Word.bit (BitVec.ofNat 32 (2 ^ 31)) 31 = true := by decide

theorem exec_optagHwClear_runs {s : State} {c : Cmd} (h : s.runs c opWRITE) : exec (.optagHwClear c) s =
    .next (({ s with tags := { s.tags with highWater := s.tags.inUse.length } } : State).complete c opWRITE stOK) := by
  have e := writeCmd_runs (v := BitVec.ofNat 32 (2 ^ 31)) h regAt_MD_OPTAG (by decide) (by decide) (by decide) rfl (by decide)
  refine congrArg Host.Outcome.next (e.trans ?_)
  simp only [State.writeReg, hwClear_bit, if_true]

theorem exec_poolHwClear_runs {s : State} {c : Cmd} (h : s.runs c opWRITE) : exec (.poolHwClear c) s =
    .next ((s.setF F.CH_POOLSTAT_HIGH_WATER (s.getF F.CH_POOLSTAT_BUSY)).complete c opWRITE stOK) := by
  have e := writeCmd_runs (v := BitVec.ofNat 32 (2 ^ 31)) h regAt_CH_POOLSTAT (by decide) (by decide) (by decide) rfl (by decide)
  refine congrArg Host.Outcome.next (e.trans ?_)
  simp only [State.writeReg, hwClear_bit, if_true]

/-- MD_ABORTINFO takes every value: none of its fields is RW. -/
theorem exec_abortinfoClear_runs {s : State} {c : Cmd} (h : s.runs c opWRITE) (v : Word) : exec (.abortinfoClear c v) s =
    .next (({ s with domains := { s.domains with
      abortList := [], overflow := false, epoch := (s.domains.epoch + 1) % 65536 } } : State).complete c opWRITE stOK) := by
  have e := writeCmd_runs (v := v) h regAt_MD_ABORTINFO (by decide) (by simp [FieldDef.accepts]) (by decide) rfl (by decide)
  refine congrArg Host.Outcome.next (e.trans ?_)
  simp only [State.writeReg, State.abortClear]

/-! ## Block copies (R22, R306, R320) -/

/-- A DMA read that can be issued at once: its event goes on with the state that has given its tag back. -/
theorem withRead_canRead {s : State} {k : DmaRead} (h : s.canRead k) (f : State → State) : s.withRead k f = f s.afterRead := by
  obtain ⟨hheld, htag, hreq, htake⟩ := h
  obtain ⟨⟨g, ts⟩, hg⟩ := Option.ne_none_iff_exists'.mp htake
  have hfind : s.host.reads.find? (·.1 == k) = none := by simpa [State.readTag] using htag
  have hkeep : s.host.reads.filter (·.1 != k) = s.host.reads := by
    simpa [List.filter_eq_self, List.find?_eq_none] using hfind
  have hissue : s.readIssue k = { s with tags := ts, host := { s.host with reads := s.host.reads ++ [(k, g)] } } := by
    simp [State.readIssue, htag, hheld, hg]
  have htag' : (s.readIssue k).readTag k = some g := by
    simp [hissue, State.readTag, List.find?_append, hfind]
  have hhost : ({ s.host with heldDma := [] } : HostState) = s.host := by rw [← hheld]
  have hend : (s.readIssue k).readEnd k = s.afterRead := by
    simp only [State.readEnd, htag']
    simp [hissue, State.freeTag, State.giveTag, hheld, State.grantReads, State.benchHeld, hreq, State.afterRead, hg, hkeep, hhost]
  simp [State.withRead, htag', hend]

theorem afterRead_frame (s : State) : s.afterRead = { s with tags := s.afterRead.tags } := by
  unfold State.afterRead
  split <;> rfl

/-- What a word is refused for does not depend on the tags. -/
theorem wordsRefused_afterRead (s : State) (priv : Bool) (a : Nat) (ws : List Word) :
    s.afterRead.wordsRefused priv a ws = s.wordsRefused priv a ws := by
  rw [afterRead_frame]; rfl

theorem blockRefused_read {s : State} {n a host len : Nat} (h4 : 4 ≤ len) (hmax : len ≤ 1048576) (hmod : len % 4 = 0)
    (hm : inMap a (len / 4) = true) (ho : s.hostOk host len true = true) : s.blockRefused n a host len true = none := by
  have hform : ¬(len < 4 ∨ 1048576 < len ∨ len % 4 ≠ 0) := by omega
  simp [State.blockRefused, hform, hm, ho]

theorem blockRefused_write {s : State} {n a host len : Nat} (h4 : 4 ≤ len) (hmax : len ≤ 1048576) (hmod : len % 4 = 0)
    (hm : inMap a (len / 4) = true) (hp : s.privileged n = true) (ho : s.hostOk host len false = true) :
    s.blockRefused n a host len false = none := by
  have hform : ¬(len < 4 ∨ 1048576 < len ∨ len % 4 ≠ 0) := by omega
  simp [State.blockRefused, hform, hm, hp, ho]

theorem exec_readBlock_runs {s : State} {c : Cmd} {a host len : Nat} (h : s.runs c opREAD_BLOCK) (hr : s.canRead (.block c))
    (hb : s.blockRefused c.session a host len true = none) :
    exec (.readBlock c a host len) s =
      .next ((s.afterRead.emitOut (.hostWrite host (bytesOfWords (s.afterRead.readWords a (len / 4))))).complete c opREAD_BLOCK
        (if s.afterRead.readPoisoned a (len / 4) then stQUEUE_ECC else stOK) [BitVec.ofNat 32 len]) := by
  change Host.Outcome.next (s.command c opREAD_BLOCK (s.readBlock c a host len)) = _
  rw [command_runs h, State.readBlock, hb]
  dsimp only
  rw [withRead_canRead hr]

theorem length_wordsOfBytes (bs : List Byte) : (wordsOfBytes bs).length = ceilDiv bs.length 4 := by simp [wordsOfBytes]

/-- A list is its words read one by one. -/
theorem map_wordAt_range (l : List Word) : (List.range l.length).map (wordAt l) = l := by
  apply List.ext_getElem <;> simp +contextual [wordAt]

/-- A block of one group that is not refused is written whole (R306). -/
theorem writeGroups_one {s : State} {n a : Nat} {ws : List Word} (hne : ws ≠ []) (hg : ws.length ≤ groupLen a)
    (hr : s.wordsRefused (s.privileged n) a ws = none) :
    State.writeGroups ws.length s n a ws stOK 0 = ((s.writeWords n a ws).1, (s.writeWords n a ws).2, ws.length) := by
  obtain ⟨k, hk⟩ := Nat.exists_eq_succ_of_ne_zero (mt List.length_eq_zero_iff.mp hne)
  have hstop : ∀ (x : State) (b st moved : Nat), State.writeGroups k x n b [] st moved = (x, st, moved) := by
    intros; cases k <;> simp [State.writeGroups]
  have hemp : ws.isEmpty = false := by simpa using hne
  simp [hk, State.writeGroups, hemp, List.take_of_length_le hg, List.drop_eq_nil_of_le hg, hr, hstop]

theorem exec_writeBlock_one_group {s : State} {c : Cmd} {a host len : Nat} {x : List Byte} (h : s.runs c opWRITE_BLOCK)
    (hr : s.canRead (.block c)) (h0 : c.session.val = 0) (hb : s.blockRefused c.session a host len false = none)
    (h4 : 4 ≤ len) (hmod : len % 4 = 0) (hx : x.length = len) (hlen : len ≤ 4 * groupLen a)
    (hw : s.wordsRefused true a (wordsOfBytes x) = none) :
    exec (.writeBlock c a host len (.data x)) s =
      .next ((s.afterRead.writeWords 0 a (wordsOfBytes x)).1.complete c opWRITE_BLOCK
        (s.afterRead.writeWords 0 a (wordsOfBytes x)).2 [BitVec.ofNat 32 len]) := by
  have hl : (wordsOfBytes x).length = len / 4 := by rw [length_wordsOfBytes, hx, ceilDiv]; omega
  have hne : wordsOfBytes x ≠ [] := fun e => by rw [e, List.length_nil] at hl; omega
  have hw' : s.afterRead.wordsRefused (s.afterRead.privileged 0) a (wordsOfBytes x) = none := by
    rw [wordsRefused_afterRead]; exact hw
  change Host.Outcome.next (s.writeCommand c opWRITE_BLOCK a (len / 4) (s.writeBlock c a host len (.data x))) = _
  rw [writeCommand_runs h, State.writeBlock, hb]
  dsimp only
  rw [withRead_canRead hr, h0, ← hl, map_wordAt_range, writeGroups_one hne (by omega) hw', hl, Nat.mul_div_cancel' (by omega)]

/-! ## Queue writes and ENQUEUE (R285) -/

/-- `qPut` writes nothing but queue memory and its poison. -/
theorem State.qPut_frame (s : State) (q p : Nat) (ws : List Word) :
    s.qPut q p ws = { s with qmem := (s.qPut q p ws).qmem, queues := (s.qPut q p ws).queues } := by
  induction ws generalizing s p with
  | nil => rfl
  | cons w ws ih => rw [State.qPut, ih]; rfl

@[simp] theorem State.qPut_map (s : State) (q p : Nat) (ws : List Word) : (s.qPut q p ws).map = s.map := by
  rw [State.qPut_frame]

@[simp] theorem State.qPut_mode (s : State) (q p : Nat) (ws : List Word) : (s.qPut q p ws).mode = s.mode := by
  rw [State.qPut_frame]

@[simp] theorem State.qst_qPut (s : State) (q p k : Nat) (ws : List Word) : (s.qPut q p ws).qst k = s.qst k := by
  induction ws generalizing s p with
  | nil => rfl
  | cons w ws ih => rw [State.qPut, ih]; rfl

/-- `qAdvanceW` writes nothing but W and the queue's record. -/
theorem State.qAdvanceW_frame (s : State) (q n : Nat) (op : Option OpenItem) :
    s.qAdvanceW q n op = { s with map := (s.setF (F.QM_QWP_PTR q) ((s.qW q + n) % s.qMod q)).map,
                                  queues := (s.qAdvanceW q n op).queues } := by
  unfold State.qAdvanceW
  dsimp only
  split <;> rfl

theorem State.qst_qAdvanceW_open (s : State) (q n : Nat) (op : Option OpenItem) : ((s.qAdvanceW q n op).qst q).open_ = op := by
  unfold State.qAdvanceW
  dsimp only
  split <;> simp

theorem State.qst_qAdvanceW_behind (s : State) (q n : Nat) (op : Option OpenItem) :
    ((s.qAdvanceW q n op).qst q).behind = (s.qst q).behind := by
  unfold State.qAdvanceW
  dsimp only
  split <;> simp

theorem State.mirror_undriven {s : State} (h : s.mode.twinDriven = false) (r : TwinRecord) : s.mirror r = s := by
  simp [State.mirror, h]

theorem State.qSettle_nothing_behind {s : State} {q : Nat} (h : (s.qst q).behind = []) : s.qSettle q = s := by
  simp [State.qSettle, h]

/-- The words that follow within an item leave nothing of it to come (R285). -/
theorem parseItems_rest (size pos : Nat) (last : Option (Nat × Nat)) (ws : List Word) :
    parseItems size ws.length pos last ws = some (last, 0) := by
  induction ws generalizing pos with
  | nil => simp [parseItems]
  | cons w ws ih => simp [parseItems, ih]

/-- A header with the words of its item parses as one whole item (R284, R285). -/
theorem parseItems_whole {size : Nat} {w : Word} {ws : List Word} (hstart : w.bit 31 = true)
    (hlen : w.field 17 0 = ws.length + 1) (hsize : ws.length + 1 ≤ size) :
    parseItems size 0 0 none (w :: ws) = some (some (0, ws.length + 1), 0) := by
  simp [parseItems, itemStart, itemLen, hstart, hlen, hsize, parseItems_rest]

/-- A host producer's write of one whole item into a queue with room and nothing open: it is written at W (R285). -/
theorem qWriteLive_whole {s : State} {q : Nat} {w : Word} {ws : List Word} (hopen : (s.qst q).open_ = none)
    (hstart : w.bit 31 = true) (hlen : w.field 17 0 = ws.length + 1) (hsize : ws.length + 1 ≤ s.qSize q)
    (hroom : ws.length + 1 ≤ s.qRoom q) (hbehind : (s.qst q).behind = []) (htwin : s.mode.twinDriven = false) (prod : Producer) :
    s.qWriteLive q prod true (w :: ws) = ((s.qPut q (s.qW q) (w :: ws)).qAdvanceW q (ws.length + 1) none, stOK) := by
  have htwin' : ((s.qPut q (s.qW q) (w :: ws)).qAdvanceW q (ws.length + 1) none).mode.twinDriven = false := by
    rw [State.qAdvanceW_frame]; simpa using htwin
  have hbehind' : (((s.qPut q (s.qW q) (w :: ws)).qAdvanceW q (ws.length + 1) none).qst q).behind = [] := by
    rw [State.qst_qAdvanceW_behind, State.qst_qPut, hbehind]
  simp [State.qWriteLive, hopen, parseItems_whole hstart hlen hsize, Nat.not_lt.mpr hroom, State.mirror_undriven htwin',
    State.qSettle_nothing_behind hbehind']

theorem qProduce_live {s : State} {q : Nat} (hu : s.qUsable q = true) (hf : s.txn.flushes = []) (ho : (s.qst q).orphans = [])
    (prod : Producer) (start : Bool) (ws : List Word) : s.qProduce q prod start ws = s.qWriteLive q prod start ws := by
  simp [State.qProduce, hu, hf, ho]

theorem descriptorQueue_QM_QPLACE (q : QueueId) : descriptorQueue (F.QM_QPLACE q) = some q.val := by
  have hq := q.isLt
  have e : F.QM_QPLACE q = 16777216 + 32 * q.val := rfl
  rw [descriptorQueue, if_pos (by omega), e]
  congr 1
  omega

/-- ENQUEUE of 1 to 13 words at a queue's descriptor is the queue's answer to the session's write (R285, R305). -/
theorem exec_enqueue_runs {s : State} {c : Cmd} {ws : List Word} (h : s.runs c opENQUEUE) (h1 : 1 ≤ ws.length)
    (h13 : ws.length ≤ 13) (q : QueueId) (start : Bool) :
    exec (.enqueue c (F.QM_QPLACE q) start ws) s =
      .next (State.answer (s.qProduce q (.session c.session) start ws) c opENQUEUE) := by
  have hform : ¬(ws.isEmpty = true ∨ 13 < ws.length) := by
    rw [List.isEmpty_iff_length_eq_zero]; omega
  change Host.Outcome.next (s.command c opENQUEUE _) = _
  simp only [command_runs h, State.enqueueStatus, descriptorQueue_QM_QPLACE, hform, if_false]

/-! ## The ledger and the fault log (R387, R388, R390) -/

/-- With both copies valid, copy 1 is taken where its sequence byte is 1 to 127 ahead (R387). -/
theorem lnewer_copy1 {s : State} {b : Nat} (h0 : (s.lcopy b 0).valid = true) (h1 : (s.lcopy b 1).valid = true)
    (hlo : 1 ≤ ((s.lcopy b 1).seq + 256 - (s.lcopy b 0).seq) % 256)
    (hhi : ((s.lcopy b 1).seq + 256 - (s.lcopy b 0).seq) % 256 ≤ 127) : s.lnewer b = some 1 := by
  simp [State.lnewer, h0, h1, hlo, hhi]

/-- A read of a block with both copies valid counts nothing (R387). -/
theorem lget_both_valid {s : State} {b k : Nat} (h0 : (s.lcopy b 0).valid = true) (h1 : (s.lcopy b 1).valid = true)
    (hn : s.lnewer b = some k) : s.lget b = (s, some ((s.lcopy b k).data, (s.lcopy b k).seq)) := by
  simp [State.lget, h0, h1, boolNat, State.lread, hn]

theorem exec_ledgerRead_unclaimed {s : State} {c : Cmd} {b : Nat} (h : s.runs c opLEDGER_READ) (hb : b < 80 ∨ (384 ≤ b ∧ b < 512))
    (hc : s.lclaim b = none) : exec (.ledgerRead c b) s = .next (s.readFor c b) := by
  change Host.Outcome.next (s.command c opLEDGER_READ (s.ledgerRead c b)) = _
  have hblock : hostBlock b = true := by simpa [hostBlock] using hb
  rw [command_runs h]
  simp [State.ledgerRead, hblock, hc]

theorem exec_ledgerWrite_unclaimed {s : State} {c : Cmd} {b : Nat} (h : s.runs c opLEDGER_WRITE) (hlo : 384 ≤ b) (hhi : b < 512)
    (hc : s.lclaim b = none) (ws : List Word) : exec (.ledgerWrite c b ws) s =
      .next (s.lbegin { block := b, data := bytesOfWords ((List.range 8).map (wordAt ws)), cmd := some c }) := by
  change Host.Outcome.next (s.command c opLEDGER_WRITE _) = _
  rw [command_runs h]
  simp [State.ledgerWrite, Nat.not_le.mpr hhi, Nat.not_lt.mpr hlo, hc]

theorem exec_faultClose_runs {s : State} {c : Cmd} (h : s.runs c opFAULT_CLOSE) (v : Nat) : exec (.faultClose c v) s =
    .next ((s.closeFaults v).1.complete c opFAULT_CLOSE (s.closeFaults v).2.1 (s.closeFaults v).2.2) :=
  congrArg Host.Outcome.next (command_runs h _)

theorem closeFaults_open {s : State} {n : Nat} (hn : n ∈ s.openRecords) (hlt : n < 256) :
    s.closeFaults n = (s.closeRecord n, stOK, [1]) := by
  simp [State.closeFaults, hn, Nat.ne_of_lt hlt, Nat.not_lt.mpr (Nat.le_of_lt hlt)]

end Sys2Proof.Machine

namespace Sys2Proof
open Machine

/-- Settles O50: each clause is the row's own lemma above, the command running. -/
theorem hostCommandsComplete : Obligations.HostCommandsComplete := by
  intro c a b n host len st v mask racing w h ws x q s t u
  refine ⟨fun hrun => ⟨?write, ?plain, ?optag, ?pool, ?abort⟩, fun h4 hmax hmod hm hr hu => ⟨?readBlock, ?writeBlock⟩,
    ?enqueue, ?ledgerRead, ?ledgerWrite, fun hrun => ⟨?close, ?closeAll⟩⟩
  case write =>
    intro h1 h13 hm hr hw
    rw [exec_write_accepted hrun h1 h13 hm hr, hw]; rfl
  case plain =>
    rintro hd hs hr hm hok rfl
    exact exec_write_rows_plain hrun hd hs hr hm hok
  case optag => exact exec_optagHwClear_runs hrun
  case pool => exact exec_poolHwClear_runs hrun
  case abort => exact exec_abortinfoClear_runs hrun v
  case readBlock =>
    intro hrun ho
    subst hu
    exact exec_readBlock_runs hrun hr (blockRefused_read h4 hmax hmod hm ho)
  case writeBlock =>
    intro hrun h0 ho hx hlen hok hw
    subst hu
    have hp : s.privileged c.session = true := by simp [State.privileged, h0]
    rw [exec_writeBlock_one_group hrun hr h0 (blockRefused_write h4 hmax hmod hm hp ho) h4 hmod hx hlen hok, hw]
  case enqueue =>
    intro hrun h12 hf hu ho hopen hstart hlen hsize hroom hbehind htwin
    have hput := State.qPut_frame s q (s.qW q) (w :: ws)
    have hadv := State.qAdvanceW_frame (s.qPut q (s.qW q) (w :: ws)) q (ws.length + 1) none
    refine ⟨(s.qPut q (s.qW q) (w :: ws)).qAdvanceW q (ws.length + 1) none, ?_, ?_, ?_, State.qst_qAdvanceW_open _ _ _ _, ?_⟩
    · rw [exec_enqueue_runs hrun (by simp) (by simpa using Nat.succ_le_succ h12), qProduce_live hu hf ho,
        qWriteLive_whole hopen hstart hlen hsize hroom hbehind htwin]
      rfl
    · rw [hadv, hput]; rfl
    · rw [hadv]
    · rw [hadv, hput]
  case ledgerRead =>
    intro hrun hb hc h0 h1 hlo hhi
    rw [exec_ledgerRead_unclaimed hrun hb hc, State.readFor, lget_both_valid h0 h1 (lnewer_copy1 h0 h1 hlo hhi)]
  case ledgerWrite => exact fun hrun hlo hhi hc => exec_ledgerWrite_unclaimed hrun hlo hhi hc ws
  case close =>
    intro hn hlt
    rw [exec_faultClose_runs hrun, closeFaults_open hn hlt]
  case closeAll => exact exec_faultClose_runs hrun 256

end Sys2Proof

/-! Writes with an effect of their own (O11): what a field reads after a field is set, then one section per kind of register
(endpoint entries, queue limits, lanes, gains, the time base), each with the equation of its rows; the obligation is assembled
from them by name. -/

namespace Sys2Proof

/-! ## A field of a word after a field is set -/

section
variable {hi lo : Nat}

/-- A field depends only on the bits below the one after its last. -/
theorem Word.field_eq_mod (w : Word) (h : lo ≤ hi) : w.field hi lo = w.toNat % 2 ^ (hi + 1) / 2 ^ lo := by
  rw [Word.field, ← Nat.mod_mul_right_div_self, ← Nat.pow_add, Nat.add_sub_cancel' (by omega)]

/-- A word is what stands above a field, the field, and what stands below it. -/
theorem Word.toNat_split (w : Word) (h : lo ≤ hi) :
    w.toNat = 2 ^ (hi + 1) * (w.toNat / 2 ^ (hi + 1)) + (w.field hi lo * 2 ^ lo + w.toNat % 2 ^ lo) := by
  rw [Word.field_eq_mod _ h, ← Nat.mod_mod_of_dvd _ (Nat.pow_dvd_pow 2 (by omega : lo ≤ hi + 1)), Nat.div_add_mod', Nat.div_add_mod]

/-- What a field of any value and the bits below it make stays below the bits above. -/
theorem Word.field_below_lt (w : Word) (v : Nat) (h : lo ≤ hi) :
    v % 2 ^ (hi + 1 - lo) * 2 ^ lo + w.toNat % 2 ^ lo < 2 ^ (hi + 1) := by
  have hv : (v % 2 ^ (hi + 1 - lo) + 1) * 2 ^ lo ≤ 2 ^ (hi + 1 - lo) * 2 ^ lo :=
    Nat.mul_le_mul_right _ (Nat.mod_lt _ (Nat.two_pow_pos _))
  have hr : w.toNat % 2 ^ lo < 2 ^ lo := Nat.mod_lt _ (Nat.two_pow_pos _)
  rw [← Nat.pow_add, Nat.sub_add_cancel (by omega), Nat.succ_mul] at hv
  omega

/-- The field's own bits are replaced; what stands above and below stays. -/
theorem Word.toNat_setField (w : Word) (v : Nat) (h : lo ≤ hi) (h32 : hi < 32) : (w.setField hi lo v).toNat =
    2 ^ (hi + 1) * (w.toNat / 2 ^ (hi + 1)) + (v % 2 ^ (hi + 1 - lo) * 2 ^ lo + w.toNat % 2 ^ lo) := by
  have hsplit := w.toNat_split h
  have hlow := w.field_below_lt v h
  have htop : 2 ^ (hi + 1) * (w.toNat / 2 ^ (hi + 1)) + 2 ^ (hi + 1) ≤ 2 ^ 32 := by
    have h32' : (2 : Nat) ^ 32 = 2 ^ (hi + 1) * 2 ^ (31 - hi) := by rw [← Nat.pow_add]; congr 1; omega
    rw [h32', ← Nat.mul_succ]
    exact Nat.mul_le_mul_left _ (Nat.div_lt_of_lt_mul (h32' ▸ w.isLt))
  rw [Word.setField, BitVec.toNat_ofNat, Nat.mod_eq_of_lt] <;> omega

/-- The bits above a field stay when it is set. -/
theorem Word.setField_above (w : Word) (v : Nat) (h : lo ≤ hi) (h32 : hi < 32) :
    (w.setField hi lo v).toNat / 2 ^ (hi + 1) = w.toNat / 2 ^ (hi + 1) := by
  rw [Word.toNat_setField w v h h32, Nat.mul_add_div (Nat.two_pow_pos _), Nat.div_eq_of_lt (w.field_below_lt v h), Nat.add_zero]

/-- The field and the bits below it, after the field is set. -/
theorem Word.setField_low (w : Word) (v : Nat) (h : lo ≤ hi) (h32 : hi < 32) :
    (w.setField hi lo v).toNat % 2 ^ (hi + 1) = v % 2 ^ (hi + 1 - lo) * 2 ^ lo + w.toNat % 2 ^ lo := by
  rw [Word.toNat_setField w v h h32, Nat.mul_add_mod, Nat.mod_eq_of_lt (w.field_below_lt v h)]

/-- A field reads what it is set to, as far as it is wide. -/
theorem Word.field_setField_same (w : Word) (v : Nat) (h : lo ≤ hi) (h32 : hi < 32) :
    (w.setField hi lo v).field hi lo = v % 2 ^ (hi + 1 - lo) := by
  rw [Word.field_eq_mod _ h, Word.setField_low w v h h32, Nat.mul_comm, Nat.mul_add_div (Nat.two_pow_pos _),
    Nat.div_eq_of_lt (Nat.mod_lt _ (Nat.two_pow_pos _)), Nat.add_zero]

/-- A field above or below the field that is set keeps its value. -/
theorem Word.field_setField_disjoint (w : Word) (v : Nat) {i j : Nat} (h : lo ≤ hi) (h32 : hi < 32) (hij : j ≤ i)
    (hd : hi < j ∨ i < lo) : (w.setField hi lo v).field i j = w.field i j := by
  rcases hd with hd | hd
  · have hj : 2 ^ j = 2 ^ (hi + 1) * 2 ^ (j - (hi + 1)) := by rw [← Nat.pow_add]; congr 1; omega
    simp only [Word.field, hj, ← Nat.div_div_eq_div_mul, Word.setField_above w v h h32]
  · have hmod : (w.setField hi lo v).toNat % 2 ^ (i + 1) = w.toNat % 2 ^ (i + 1) := by
      have hlo : 2 ^ lo ∣ 2 ^ (hi + 1) := Nat.pow_dvd_pow 2 (by omega)
      have hi' : 2 ^ (i + 1) ∣ 2 ^ lo := Nat.pow_dvd_pow 2 (by omega)
      rw [← Nat.mod_mod_of_dvd _ (Nat.dvd_trans hi' hlo), Word.setField_low w v h h32, Nat.mul_comm, ← Nat.mod_mod_of_dvd _ hi',
        Nat.mul_add_mod, Nat.mod_mod, Nat.mod_mod_of_dvd _ hi']
    rw [Word.field_eq_mod _ hij, Word.field_eq_mod _ hij, hmod]

end

end Sys2Proof

namespace Sys2Proof.Machine
open Sys2Proof

/-! ## A field of the map after a field is set -/

theorem State.getF_lt (s : State) (f : Fld) : s.getF f < 2 ^ (f.hi + 1 - f.lo) := Nat.mod_lt _ (Nat.two_pow_pos _)

/-- A field reads what it is set to, where the map is canonical. -/
theorem State.getF_setF_same (s : State) (f : Fld) (v : Nat) (hs : s.sound = true) (h : f.lo ≤ f.hi) (h32 : f.hi < 32) :
    (s.setF f v).getF f = v % 2 ^ (f.hi + 1 - f.lo) := by
  rw [State.getF, State.setF, State.word_setWord_same _ _ _ hs, Word.field_setField_same _ _ h h32]

/-- A field of another word keeps its value. -/
theorem State.getF_setF_other (s : State) (f g : Fld) (v : Nat) (h : g.addr ≠ f.addr) : (s.setF f v).getF g = s.getF g := by
  rw [State.getF, State.word_setF_other _ _ _ _ h, State.getF]

/-- Another field of the same word keeps its value, where the map is canonical. -/
theorem State.getF_setF_disjoint (s : State) (f g : Fld) (v : Nat) (hs : s.sound = true) (ha : g.addr = f.addr) (h : f.lo ≤ f.hi)
    (h32 : f.hi < 32) (hg : g.lo ≤ g.hi) (hd : f.hi < g.lo ∨ g.hi < f.lo) : (s.setF f v).getF g = s.getF g := by
  rw [State.getF, State.getF, ha, State.setF, State.word_setWord_same _ _ _ hs, Word.field_setField_disjoint _ _ h h32 hg hd]

theorem State.wordsKept.trans {s t u : State} {l : List Nat} (h : s.wordsKept t l) (h' : t.wordsKept u l) : s.wordsKept u l :=
  fun a ha => (h' a ha).trans (h a ha)

theorem State.wordsKept.mono {s t : State} {l m : List Nat} (h : s.wordsKept t l) (hl : l ⊆ m) : s.wordsKept t m :=
  fun a ha => h a fun hm => ha (hl hm)

theorem State.wordsKept_setWord (s : State) {a : Nat} (w : Word) {l : List Nat} (h : a ∈ l) : s.wordsKept (s.setWord a w) l :=
  fun b hb => State.word_setWord_other s a b w fun e => hb (e ▸ h)

theorem State.wordsKept_setF (s : State) {f : Fld} (v : Nat) {l : List Nat} (h : f.addr ∈ l) : s.wordsKept (s.setF f v) l :=
  s.wordsKept_setWord _ h

/-- A field of a word that is kept keeps its value. -/
theorem State.wordsKept.getF_eq {s t : State} {l : List Nat} (h : s.wordsKept t l) {f : Fld} (hf : f.addr ∉ l) :
    t.getF f = s.getF f := by
  rw [State.getF, h _ hf, State.getF]

/-! ## Writes of one register word -/

theorem isHL_of_lt {a : Nat} (h : a < 0x1800000) : isHL a = false := by simp [isHL, Nat.not_le.mpr h]

theorem isHL_of_ge {a : Nat} (h : 0x1812000 ≤ a) : isHL a = false := by simp [isHL, Nat.not_lt.mpr h]

/-! ## Word 0 of an endpoint entry (R224 to R226, R236) -/

/-- Word 0 takes a value whose PORT and CR are defined, whatever STATE is set to. -/
theorem accepts_EP0 {v : Word} (st : Nat) (hport : v.field 18 12 ≤ 95) (hcr : v.field 23 21 ≤ 4) :
    defEP0.fields.all (·.accepts (v.setField 1 0 st)) = true := by
  have hp : (v.setField 1 0 st).field 18 12 = v.field 18 12 :=
    Word.field_setField_disjoint v st (by omega) (by omega) (by omega) (by omega)
  have hc : (v.setField 1 0 st).field 23 21 = v.field 23 21 :=
    Word.field_setField_disjoint v st (by omega) (by omega) (by omega) (by omega)
  simp [FieldDef.accepts, hp, hc, hport, hcr]

/-- A write of word 0 with STATE set to `st`: the entry's state, then the other fields. -/
theorem writeCmd_EP0 {s : State} {c : Cmd} {v : Word} (h : s.runs c opWRITE) (e : EndpointId) {st : Nat} (hst : st < 4)
    (hport : v.field 18 12 ≤ 95) (hcr : v.field 23 21 ≤ 4) : s.writeCmd c (F.EP0 e) (v.setField 1 0 st) =
      ((s.epHostState e st).setEp0 e (v.setField 1 0 st)).complete c opWRITE stOK := by
  have hfield : (v.setField 1 0 st).field 1 0 = st :=
    (Word.field_setField_same v st (by omega) (by omega)).trans (Nat.mod_eq_of_lt hst)
  have hw := writeCmd_runs h (regAt_EP0 e e.isLt) (isHL_of_ge (by unfold F.EP0; omega)) (accepts_EP0 st hport hcr) (by simp) rfl rfl
  rw [hw]
  simp only [State.writeReg, nthD, List.getD_cons_zero, hfield]

/-! What the parts of such a write leave as it was. -/

theorem State.wordsKept_setEp (s : State) (e st : Nat) : s.wordsKept (s.setEp e st) [F.EP0 e, F.MC_EPSTAT] :=
  (s.wordsKept_setF (f := F.EP0_STATE e) st (by simp)).trans (State.wordsKept_setF _ (f := F.MC_EPSTAT_ACTIVE) _ (by simp))

theorem State.wordsKept_setLastRx (s : State) (e t : Nat) : s.wordsKept (s.setLastRx e t) [F.EP8 e, F.EP9 e] :=
  (s.wordsKept_setWord _ (by simp)).trans (State.wordsKept_setWord _ _ (by simp))

theorem State.wordsKept_setEp0 (s : State) (e : Nat) (v : Word) : s.wordsKept (s.setEp0 e v) [F.EP0 e] :=
  s.wordsKept_setWord _ (by simp)

theorem State.sound_setEp {s : State} (hs : s.sound = true) (e st : Nat) : (s.setEp e st).sound = true :=
  State.sound_setF _ _ _ (s.sound_setF _ _ hs)

theorem State.sound_setLastRx {s : State} (hs : s.sound = true) (e t : Nat) : (s.setLastRx e t).sound = true :=
  State.sound_setWord _ _ _ (s.sound_setWord _ _ hs)

theorem State.getF_setEp_state {s : State} (hs : s.sound = true) (e : Nat) {st : Nat} (hst : st < 4) :
    (s.setEp e st).getF (F.EP0_STATE e) = st := by
  have hsame : (s.setF (F.EP0_STATE e) st).getF (F.EP0_STATE e) = st :=
    (s.getF_setF_same _ _ hs (by simp) (by simp)).trans (Nat.mod_eq_of_lt hst)
  refine Eq.trans ?_ hsame
  exact State.getF_setF_other _ _ _ _ (by dsimp only [F.EP0, F.MC_EPSTAT]; omega)

/-- LASTRX reads the device time it is set to. -/
theorem State.lastRx_setLastRx {s : State} (hs : s.sound = true) (e : Nat) {t : Nat} (ht : t < 2 ^ 64) :
    (s.setLastRx e t).lastRx e = t := by
  have hlo : (s.setLastRx e t).word (F.EP8 e) = lo32 t := by
    rw [State.setLastRx, State.set64, State.word_setWord_other _ _ _ _ (by unfold F.EP8 F.EP9; omega),
      State.word_setWord_same _ _ _ hs]
  have hhi : (s.setLastRx e t).word (F.EP9 e) = hi32 t := State.word_setWord_same _ _ _ (s.sound_setWord _ _ hs)
  rw [State.lastRx, State.get64, hlo, hhi, lo32, hi32, BitVec.toNat_ofNat, BitVec.toNat_ofNat]
  omega

section
variable {s : State} (hs : s.sound = true) (e : Nat) (v : Word)
include hs

/-- The other fields of word 0 do not reach STATE. -/
theorem State.getF_setEp0_state : (s.setEp0 e v).getF (F.EP0_STATE e) = s.getF (F.EP0_STATE e) := by
  have hst : (s.word (F.EP0 e)).field 1 0 < 2 ^ 2 := s.getF_lt (F.EP0_STATE e)
  rw [State.getF, State.setEp0, State.word_setWord_same _ _ _ hs,
    Word.field_setField_disjoint _ _ (by omega) (by omega) (by simp) (by simp),
    Word.field_setField_disjoint _ _ (by omega) (by omega) (by simp) (by simp),
    Word.field_setField_same _ _ (by omega) (by omega), Nat.mod_eq_of_lt hst, State.getF]

theorem State.getF_setEp0_port : (s.setEp0 e v).getF (F.EP0_PORT e) = v.field 18 12 := by
  rw [State.getF, State.setEp0, State.word_setWord_same _ _ _ hs,
    Word.field_setField_disjoint _ _ (by omega) (by omega) (by simp) (by simp),
    Word.field_setField_disjoint _ _ (by omega) (by omega) (by simp) (by simp),
    Word.field_setField_disjoint _ _ (by omega) (by omega) (by simp) (by simp)]

theorem State.sound_mbxSync : (s.mbxSync e).sound = true :=
  State.sound_setF _ _ _ (State.sound_setF _ _ _ (State.sound_setF _ _ _ (State.sound_setF _ _ _ (s.sound_setF _ _ hs))))

/-- MBXN of an entry does not reach STATE of any. -/
theorem State.getF_setF_mbxn_state (k n : Nat) : (s.setF (F.EP0_MBXN e) n).getF (F.EP0_STATE k) = s.getF (F.EP0_STATE k) := by
  by_cases hk : F.EP0 k = F.EP0 e
  · exact s.getF_setF_disjoint _ _ _ hs hk (by simp) (by simp) (by simp) (by simp)
  · exact s.getF_setF_other _ _ _ hk

/-- The mailbox references and MBXN do not reach STATE of any entry. -/
theorem State.getF_mbxSync_state (k : Nat) : (s.mbxSync e).getF (F.EP0_STATE k) = s.getF (F.EP0_STATE k) := by
  have h12 : F.EP0 k ≠ F.EP12 e := by unfold F.EP0 F.EP12; omega
  have h13 : F.EP0 k ≠ F.EP13 e := by unfold F.EP0 F.EP13; omega
  rw [State.mbxSync, State.getF_setF_mbxn_state
      (State.sound_setF _ _ _ (State.sound_setF _ _ _ (State.sound_setF _ _ _ (s.sound_setF _ _ hs)))),
    State.getF_setF_other _ _ _ _ h13, State.getF_setF_other _ _ _ _ h13, State.getF_setF_other _ _ _ _ h12,
    State.getF_setF_other _ _ _ _ h12]

end

/-! A mailbox that is dropped. -/

theorem State.setF_frame (s : State) (f : Fld) (v : Nat) : s.setF f v = { s with map := (s.setF f v).map } := rfl

/-- Updates of the map alone, one after another. -/
theorem State.map_only_trans {s t u : State} (h : t = { s with map := t.map }) (h' : u = { t with map := u.map }) :
    u = { s with map := u.map } := by
  rw [h', h]

theorem State.mbxSync_frame (s : State) (e : Nat) : s.mbxSync e = { s with map := (s.mbxSync e).map } :=
  State.map_only_trans (State.map_only_trans (State.map_only_trans (State.map_only_trans (s.setF_frame _ _) (State.setF_frame _ _ _))
    (State.setF_frame _ _ _)) (State.setF_frame _ _ _)) (State.setF_frame _ _ _)

theorem State.mbxFree_frame (s : State) (f : MbxFrame) :
    s.mbxFree f = { s with map := (s.mbxFree f).map, radio := (s.mbxFree f).radio } := by
  rw [State.mbxFree, State.mbxSync_frame]

theorem State.mbx_mbxFree (s : State) (f : MbxFrame) :
    (s.mbxFree f).radio.mbx = s.radio.mbx.filter fun x => x.part != f.part || x.cell != f.cell := by
  rw [State.mbxFree, State.mbxSync_frame]

theorem State.sound_mbxFree {s : State} (hs : s.sound = true) (f : MbxFrame) : (s.mbxFree f).sound = true := by
  rw [State.mbxFree]; exact State.sound_mbxSync (by exact hs) f.ep

theorem State.getF_mbxFree_state {s : State} (hs : s.sound = true) (f : MbxFrame) (k : Nat) :
    (s.mbxFree f).getF (F.EP0_STATE k) = s.getF (F.EP0_STATE k) := by
  rw [State.mbxFree, State.getF_mbxSync_state (by exact hs)]; rfl

theorem State.mbxDrop_uncounted (s : State) (e : Nat) : s.mbxDrop e false = (s.mbxOf e).foldl State.mbxFree s := by
  simp [State.mbxDrop]

/-- Freeing the frames of a list writes nothing but the map and the mailboxes. -/
theorem State.foldl_mbxFree_frame (l : List MbxFrame) (s : State) : l.foldl State.mbxFree s =
    { s with map := (l.foldl State.mbxFree s).map, radio := (l.foldl State.mbxFree s).radio } := by
  induction l generalizing s with
  | nil => rfl
  | cons f l ih => rw [List.foldl_cons, ih, State.mbxFree_frame]

/-- The frames left are those in no cell of the list. -/
theorem State.mem_foldl_mbxFree (l : List MbxFrame) (s : State) (m : MbxFrame) : m ∈ (l.foldl State.mbxFree s).radio.mbx ↔
    m ∈ s.radio.mbx ∧ ∀ f ∈ l, m.part ≠ f.part ∨ m.cell ≠ f.cell := by
  induction l generalizing s with
  | nil => simp
  | cons f l ih => simp [ih, State.mbx_mbxFree, and_assoc]

theorem State.sound_foldl_mbxFree (l : List MbxFrame) {s : State} (hs : s.sound = true) : (l.foldl State.mbxFree s).sound = true := by
  induction l generalizing s with
  | nil => exact hs
  | cons f l ih => exact ih (State.sound_mbxFree hs f)

theorem State.getF_foldl_mbxFree_state (l : List MbxFrame) {s : State} (hs : s.sound = true) (k : Nat) :
    (l.foldl State.mbxFree s).getF (F.EP0_STATE k) = s.getF (F.EP0_STATE k) := by
  induction l generalizing s with
  | nil => rfl
  | cons f l ih => exact (ih (State.sound_mbxFree hs f)).trans (State.getF_mbxFree_state hs f k)

/-- After a mailbox is dropped the frames left are those of other entries. -/
theorem State.mem_mbxDrop {s : State} {e : Nat} {m : MbxFrame} (h : m ∈ (s.mbxDrop e false).radio.mbx) :
    m ∈ s.radio.mbx ∧ m.ep ≠ e := by
  rw [State.mbxDrop_uncounted, State.mem_foldl_mbxFree] at h
  obtain ⟨hm, hcells⟩ := h
  refine ⟨hm, fun he => ?_⟩
  have hown : m ∈ s.mbxOf e := List.mem_filter.mpr ⟨hm, by simp [he]⟩
  simpa using hcells m hown

/-! The two rows. -/

/-- Word 0 written with STATE ACTIVE (R226). -/
theorem exec_epStateActive_runs {s : State} {c : Cmd} {v : Word} (h : s.runs c opWRITE) (e : EndpointId)
    (hport : v.field 18 12 ≤ 95) (hcr : v.field 23 21 ≤ 4) : exec (.epStateActive c e v) s =
      .next ((((s.setEp e epACTIVE).setLastRx e s.ns).setEp0 e (v.setField 1 0 epACTIVE)).complete c opWRITE stOK) :=
  congrArg Host.Outcome.next (writeCmd_EP0 h e (by decide) hport hcr)

/-- Word 0 written with STATE FREE (R226). -/
theorem exec_epStateFree_runs {s : State} {c : Cmd} {v : Word} (h : s.runs c opWRITE) (e : EndpointId)
    (hport : v.field 18 12 ≤ 95) (hcr : v.field 23 21 ≤ 4) : exec (.epStateFree c e v) s =
      .next ((((s.setEp e epFREE).mbxDrop e false).setEp0 e (v.setField 1 0 epFREE)).complete c opWRITE stOK) :=
  congrArg Host.Outcome.next (writeCmd_EP0 h e (by decide) hport hcr)

/-! What the whole of each write leaves and what it makes of the entry. -/

theorem State.setWord_frame (s : State) (a : Nat) (w : Word) : s.setWord a w = { s with map := (s.setWord a w).map } := rfl

theorem State.setLastRx_frame (s : State) (e t : Nat) : s.setLastRx e t = { s with map := (s.setLastRx e t).map } :=
  State.map_only_trans (s.setWord_frame _ _) (State.setWord_frame _ _ _)

theorem State.setEp0_frame (s : State) (e : Nat) (v : Word) : s.setEp0 e v = { s with map := (s.setEp0 e v).map } :=
  s.setWord_frame _ _

/-- A new state of an entry writes nothing but the map and the entry's provisional lifetime. -/
theorem State.setEp_frame (s : State) (e st : Nat) : s.setEp e st =
    { s with map := (s.setEp e st).map, radio := { s.radio with prov := (s.setEp e st).radio.prov } } := by
  rw [State.setEp, State.map_only_trans (s.setF_frame _ _) (State.setF_frame _ F.MC_EPSTAT_ACTIVE _)]

@[simp] theorem State.setLastRx_radio (s : State) (e t : Nat) : (s.setLastRx e t).radio = s.radio := by
  rw [State.setLastRx_frame]

@[simp] theorem State.setEp0_radio (s : State) (e : Nat) (v : Word) : (s.setEp0 e v).radio = s.radio := by
  rw [State.setEp0_frame]

@[simp] theorem State.setEp_mbx (s : State) (e st : Nat) : (s.setEp e st).radio.mbx = s.radio.mbx := by
  rw [State.setEp_frame]

theorem State.mbxDrop_frame (s : State) (e : Nat) :
    s.mbxDrop e false = { s with map := (s.mbxDrop e false).map, radio := (s.mbxDrop e false).radio } := by
  rw [State.mbxDrop_uncounted, State.foldl_mbxFree_frame]

/-- LASTRX is kept with its two words. -/
theorem State.wordsKept.lastRx_eq {s t : State} {l : List Nat} (h : s.wordsKept t l) {e : Nat}
    (h8 : F.EP8 e ∉ l) (h9 : F.EP9 e ∉ l) :
    t.lastRx e = s.lastRx e := by
  rw [State.lastRx, State.get64, h _ h8, h _ h9, State.lastRx, State.get64]

section
variable {s : State} {e : EndpointId} {v : Word}

/-- An entry made ACTIVE (R226). -/
theorem epStateActive_effect (hs : s.sound = true) (hns : s.ns < 2 ^ 64) :
    let t := ((s.setEp e epACTIVE).setLastRx e s.ns).setEp0 e (v.setField 1 0 epACTIVE)
    t.getF (F.EP0_STATE e) = 2 ∧ t.lastRx e = s.ns ∧ t.word (F.EP4 e) = s.word (F.EP4 e) ∧
      t.getF (F.EP0_PORT e) = v.field (F.EP0_PORT e).hi (F.EP0_PORT e).lo ∧
      s.wordsKept t [F.EP0 e, F.EP8 e, F.EP9 e, F.MC_EPSTAT] ∧ t = { s with map := t.map, radio := t.radio } ∧
      t.radio.mbx = s.radio.mbx := by
  intro t
  have hs1 := State.sound_setEp hs e epACTIVE
  have hs2 := State.sound_setLastRx hs1 e s.ns
  have hkept : s.wordsKept t [F.EP0 e, F.EP8 e, F.EP9 e, F.MC_EPSTAT] :=
    (((s.wordsKept_setEp e epACTIVE).mono (by simp)).trans ((State.wordsKept_setLastRx _ e s.ns).mono (by simp))).trans
      ((State.wordsKept_setEp0 _ e _).mono (by simp))
  have hstate : t.getF (F.EP0_STATE e) = 2 := by
    rw [State.getF_setEp0_state hs2, (State.wordsKept_setLastRx _ _ _).getF_eq (by simp), State.getF_setEp_state hs e (by decide)]
  have hlast : t.lastRx e = s.ns := by
    rw [(State.wordsKept_setEp0 _ _ _).lastRx_eq (by simp) (by simp), State.lastRx_setLastRx hs1 e hns]
  have hevt : t.word (F.EP4 e) = s.word (F.EP4 e) := by
    refine hkept _ ?_
    simp [F.EP4, F.EP0, F.EP8, F.EP9, F.MC_EPSTAT]
    omega
  have hport : t.getF (F.EP0_PORT e) = v.field 18 12 := by
    rw [State.getF_setEp0_port hs2, Word.field_setField_disjoint _ _ (by omega) (by omega) (by omega) (by omega)]
  have hframe : t = { s with map := t.map, radio := t.radio } := by
    dsimp only [t]; rw [State.setEp0_frame, State.setLastRx_frame, State.setEp_frame]
  exact ⟨hstate, hlast, hevt, hport, hkept, hframe, by simp [t]⟩

/-- An entry made FREE (R226). -/
theorem epStateFree_effect (hs : s.sound = true) :
    let t := ((s.setEp e epFREE).mbxDrop e false).setEp0 e (v.setField 1 0 epFREE)
    t.getF (F.EP0_STATE e) = 0 ∧ (∀ m ∈ t.radio.mbx, m ∈ s.radio.mbx ∧ m.ep ≠ e.val) ∧
      t = { s with map := t.map, radio := t.radio } := by
  intro t
  have hs1 := State.sound_setEp hs e epFREE
  have hs2 : ((s.setEp e epFREE).mbxDrop e false).sound = true := by
    rw [State.mbxDrop_uncounted]; exact State.sound_foldl_mbxFree _ hs1
  refine ⟨?_, ?_, ?_⟩
  · rw [State.getF_setEp0_state hs2, State.mbxDrop_uncounted, State.getF_foldl_mbxFree_state _ hs1,
      State.getF_setEp_state hs e (by decide)]
  · intro m hm
    rw [State.setEp0_radio] at hm
    simpa using State.mem_mbxDrop hm
  · have h : t = { s.setEp e epFREE with map := t.map, radio := t.radio } := by
      dsimp only [t]; rw [State.setEp0_frame, State.mbxDrop_frame]
    rw [h, State.setEp_frame]

end

/-! ## The stale limit of a queue (R290, R293) -/

/-- QM_QCFG takes the stale limit and OVR_NOTE; CORR keeps its count. -/
theorem written_QM_QCFG (old v : Word) :
    defQM_QCFG.written old v = (old.setField 15 0 (v.field 15 0)).setField 16 16 (v.field 16 16) := by
  simp [RegDef.written, FieldDef.written]

theorem State.qst_setWord (s : State) (a : Nat) (w : Word) (k : Nat) : (s.setWord a w).qst k = s.qst k := rfl

/-- A new stale limit is marked with the tick of its write (R290). -/
theorem exec_qcfgStaleWrite_runs {s : State} {c : Cmd} (h : s.runs c opWRITE) (q : QueueId) (v : Word) :
    exec (.qcfgStaleWrite c q v) s = .next (((s.setWord (F.QM_QCFG q) (((s.word (F.QM_QCFG q)).setField 15 0 (v.field 15 0)).setField
      16 16 (v.field 16 16))).setQst q { s.qst q with staleSet := s.ns }).complete c opWRITE stOK) := by
  have hw := writeCmd_runs (v := v) h (regAt_QM_QCFG q q.isLt) (isHL_of_lt (by unfold F.QM_QCFG; omega))
    (by simp [FieldDef.accepts]) (by simp) rfl rfl
  refine congrArg Host.Outcome.next (hw.trans ?_)
  simp only [State.writeReg, nthD, List.getD_cons_zero, written_QM_QCFG]
  rw [State.qst_setWord]

/-! ## RUN of a lane (R124, R126, R156) -/

/-- SC_LANECTL takes RUN; a port whose lanes run again has its lane start and its receivers follow. -/
theorem exec_laneRun_runs {s : State} {c : Cmd} (h : s.runs c opWRITE) (l : Lane) (run : Bool) :
    exec (.laneRun c l run) s = .next (((s.setRun l run).rxFollowLane l).complete c opWRITE stOK) := by
  have hbit : Word.bit (BitVec.ofNat 32 (boolNat run)) 0 = run := by cases run <;> decide
  have hw := writeCmd_runs (v := BitVec.ofNat 32 (boolNat run)) h (regAt_SC_LANECTL l l.isLt)
    (isHL_of_lt (by unfold F.SC_LANECTL; omega)) (by simp [FieldDef.accepts]) (by simp) rfl rfl
  refine congrArg Host.Outcome.next (hw.trans ?_)
  simp only [State.writeReg, nthD, List.getD_cons_zero, hbit]

/-- A lane whose PORT names no port: nothing follows its RUN bit. -/
theorem rxFollowLane_setRun_no_port {s : State} {l : Lane} (h : 96 ≤ s.getF (F.SC_LANECFG_PORT l)) (run : Bool) :
    (s.setRun l run).rxFollowLane l = s.setF (F.SC_LANECTL_RUN l) (boolNat run) := by
  have hset : s.setRun l run = s.setF (F.SC_LANECTL_RUN l) (boolNat run) := by
    simp [State.setRun, Nat.not_lt.mpr h]
  have hport : (s.setF (F.SC_LANECTL_RUN l) (boolNat run)).getF (F.SC_LANECFG_PORT l) = s.getF (F.SC_LANECFG_PORT l) :=
    State.getF_setF_other _ _ _ _ (by dsimp only [F.SC_LANECFG, F.SC_LANECTL]; omega)
  rw [hset, State.rxFollowLane, hport, if_neg (Nat.not_lt.mpr h)]

/-! The parts of a lane start: what each writes. -/

theorem State.noteRun_frame (s : State) (p : Nat) : s.noteRun p = { s with sample := (s.noteRun p).sample } := by
  unfold State.noteRun
  dsimp only
  split <;> rfl

theorem State.setTxAtt_frame (s : State) (p v t : Nat) :
    s.setTxAtt p v t = { s with map := (s.setF (F.SC_LPGAIN_TXATT p) v).map, out := (s.setTxAtt p v t).out } := by
  unfold State.setTxAtt
  dsimp only
  split <;> rfl

/-- What may follow a change of RUN of lane `l`: no field of the state but these four changes, nor the lane's control word. -/
structure State.LaneKept (l : Lane) (s t : State) : Prop where
  frame : t = { s with map := t.map, sample := t.sample, plc := t.plc, out := t.out }
  ctl : t.word (F.SC_LANECTL l) = s.word (F.SC_LANECTL l)

section
variable {l : Lane} {s t u : State}

theorem State.LaneKept.refl : State.LaneKept l s s := ⟨rfl, rfl⟩

theorem State.LaneKept.trans (h : State.LaneKept l s t) (h' : State.LaneKept l t u) : State.LaneKept l s u :=
  ⟨by rw [h'.frame, h.frame], h'.ctl.trans h.ctl⟩

theorem State.LaneKept.setF {f : Fld} (v : Nat) (hf : f.addr ≠ F.SC_LANECTL l) : State.LaneKept l s (s.setF f v) :=
  ⟨rfl, State.word_setF_other _ _ _ _ hf.symm⟩

theorem State.LaneKept.setStream (p : Nat) (c : PortStream) : State.LaneKept l s (s.setStream p c) := ⟨rfl, rfl⟩

theorem State.LaneKept.setPchan (p b : Nat) (c : PlcChan) : State.LaneKept l s (s.setPchan p b c) := ⟨rfl, rfl⟩

theorem State.LaneKept.noteRun (p : Nat) : State.LaneKept l s (s.noteRun p) := by
  rw [State.noteRun_frame]; exact ⟨rfl, rfl⟩

theorem State.LaneKept.setTxAtt {p : Nat} (v n : Nat) (hp : F.SC_LPGAIN p ≠ F.SC_LANECTL l) :
    State.LaneKept l s (s.setTxAtt p v n) := by
  rw [State.setTxAtt_frame]; exact ⟨rfl, State.word_setF_other _ _ _ _ hp.symm⟩

theorem State.LaneKept.portLaneStart {p : Nat} (_hp : p < 96) : State.LaneKept l s (s.portLaneStart p) := by
  have hgain : F.SC_LPGAIN p ≠ F.SC_LANECTL l := by dsimp only [F.SC_LPGAIN, F.SC_LANECTL]; omega
  have hlive : F.PL_PORTLIVE p ≠ F.SC_LANECTL l := by dsimp only [F.PL_PORTLIVE, F.SC_LANECTL]; omega
  exact (((((State.LaneKept.setF _ hgain).trans (.setTxAtt _ _ hgain)).trans (.setStream _ _)).trans (.setStream _ _)).trans
    (.setF _ hlive)).trans (.noteRun p)

/-- RUN written, and what follows it: nothing, a note of when the lanes of the port ran, or the port's lane start. -/
theorem State.LaneKept.setRun (run : Bool) : State.LaneKept l (s.setF (F.SC_LANECTL_RUN l) (boolNat run)) (s.setRun l run) := by
  unfold State.setRun
  dsimp only
  split
  · rename_i hp
    simp only [Bool.and_eq_true, decide_eq_true_eq] at hp
    obtain ⟨⟨hp, -⟩, -⟩ := hp
    split
    · exact .portLaneStart hp
    · exact .noteRun _
  · exact .refl

theorem State.LaneKept.rxTo (p b st : Nat) : State.LaneKept l s (s.rxTo p b st) :=
  (State.LaneKept.setPchan _ _ _).trans (.setF _ (by dsimp only [F.PL_RXQUAL, F.SC_LANECTL]; omega))

theorem State.LaneKept.rxFollow (p b : Nat) : State.LaneKept l s (s.rxFollow p b) := by
  unfold State.rxFollow
  dsimp only
  split
  · exact .rxTo _ _ _
  · split
    · exact (State.LaneKept.setPchan _ _ _).trans (.rxTo _ _ _)
    · exact .refl

theorem State.LaneKept.rxFollowLane : State.LaneKept l s (s.rxFollowLane l) := by
  unfold State.rxFollowLane
  dsimp only
  split
  · exact List.foldlRecOn (motive := State.LaneKept l s) _ _ .refl fun _ h b _ => h.trans (.rxFollow _ b)
  · exact .refl

end

/-- RUN reads what it is set to: nothing that follows writes the lane's control word. -/
theorem laneRun_effect {s : State} (hs : s.sound = true) (l : Lane) (run : Bool) :
    let t := (s.setRun l run).rxFollowLane l
    t.getF (F.SC_LANECTL_RUN l) = boolNat run ∧ t = { s with map := t.map, sample := t.sample, plc := t.plc, out := t.out } := by
  intro t
  have hkept : State.LaneKept l (s.setF (F.SC_LANECTL_RUN l) (boolNat run)) t := (State.LaneKept.setRun run).trans .rxFollowLane
  refine ⟨?_, ?_⟩
  · have hsame := s.getF_setF_same (F.SC_LANECTL_RUN l) (boolNat run) hs (by simp) (by simp)
    rw [State.getF, hkept.ctl]
    exact hsame.trans (by cases run <;> rfl)
  · rw [hkept.frame, State.setF_frame]

/-! ## Receive gain and transmit attenuation (R117, R118) -/

theorem State.setRxGain_frame (s : State) (p v t : Nat) : s.setRxGain p v t = { s with
    map := (s.setF (F.SC_LPGAIN_RXGAIN p) v).map
    sample := { s.sample with ports := (s.setRxGain p v t).sample.ports } } := by
  unfold State.setRxGain
  dsimp only
  split <;> rfl

/-- A new attenuation leaves for the front-end; the one in force leaves nothing (R117). -/
theorem State.setTxAtt_out (s : State) (p v t : Nat) :
    (s.setTxAtt p v t).out = if s.getF (F.SC_LPGAIN_TXATT p) = v then s.out else s.out ++ [.lineAtt p v t] := by
  unfold State.setTxAtt
  dsimp only
  split <;> rfl

theorem State.setRxGain_unchanged {s : State} {p v : Nat} (h : s.getF (F.SC_LPGAIN_RXGAIN p) = v) (t : Nat) :
    s.setRxGain p v t = s.setF (F.SC_LPGAIN_RXGAIN p) v := by
  simp [State.setRxGain, h]

theorem State.setRxGain_changed {s : State} {p v : Nat} (h : s.getF (F.SC_LPGAIN_RXGAIN p) ≠ v) (t : Nat) :
    s.setRxGain p v t = (s.setF (F.SC_LPGAIN_RXGAIN p) v).markInv p (gainInv (s.preset p)) t := by
  simp [State.setRxGain, h]

@[simp] theorem State.stream_setStream_same (s : State) (p : Nat) (c : PortStream) : (s.setStream p c).stream p = c := by
  simp [State.stream, State.setStream]

theorem State.stream_setStream_other (s : State) (p k : Nat) (c : PortStream) (h : k ≠ p) :
    (s.setStream p c).stream k = s.stream k := by
  simp [State.stream, State.setStream, aget_aset_other _ _ _ _ _ h]

theorem State.stream_markInv_other (s : State) {p k : Nat} (n t : Nat) (h : k ≠ p) : (s.markInv p n t).stream k = s.stream k :=
  s.stream_setStream_other _ _ _ h

theorem State.stream_markInv_same (s : State) (p n t : Nat) :
    (s.markInv p n t).stream p = { s.stream p with inv := ((s.markInv p n t).stream p).inv } := by
  rw [State.markInv, State.stream_setStream_same]

theorem State.period16_pos (s : State) (p : Nat) : 0 < s.period16 p := by
  refine Nat.mul_pos ?_ (by decide)
  unfold presetD
  split <;> decide

/-- `ceilDiv a b * b` is the first multiple of `b` at or after `a`. -/
theorem ceilDiv_mul_le_iff {a b k : Nat} (hb : 0 < b) : ceilDiv a b * b ≤ k * b ↔ a ≤ k * b := by
  rw [Nat.mul_le_mul_right_iff hb, ceilDiv, ← Nat.lt_succ_iff, Nat.div_lt_iff_lt_mul hb, Nat.succ_mul]
  omega

/-- A stamp in one of the port's settling intervals is INV (R113). -/
theorem State.invAt_of_mem {s : State} {p t : Nat} {x : Nat × Nat} (hx : x ∈ (s.stream p).inv) (hlo : x.1 ≤ t) (hhi : t < x.2) :
    s.invAt p t = true := by
  have hany : ((s.stream p).inv.any fun x => decide (x.1 ≤ t) && decide (t < x.2)) = true :=
    List.any_eq_true.mpr ⟨x, hx, by simp [hlo, hhi]⟩
  simp [State.invAt, hany]

/-- The output samples stamped in the `n` periods from `t` on lie in the interval that `markInv` adds. -/
theorem State.exists_inv_markInv {s : State} {p n t k : Nat} (hlo : t ≤ k * s.period16 p)
    (hhi : k * s.period16 p < t + n * s.period16 p) :
    ∃ x ∈ ((s.markInv p n t).stream p).inv, x.1 ≤ k * s.period16 p ∧ k * s.period16 p < x.2 := by
  have hpos := s.period16_pos p
  have hfirst : t ≤ ceilDiv t (s.period16 p) * s.period16 p := (ceilDiv_mul_le_iff hpos).mp (Nat.le_refl _)
  refine ⟨(ceilDiv t (s.period16 p) * s.period16 p, ceilDiv t (s.period16 p) * s.period16 p + n * s.period16 p), ?_,
    (ceilDiv_mul_le_iff hpos).mpr hlo, Nat.lt_of_lt_of_le hhi (Nat.add_le_add_right hfirst _)⟩
  rw [State.markInv, State.stream_setStream_same]
  exact List.mem_cons_self

/-- SC_LPGAIN takes both fields, from the first LINE cycle after the write on (R117). -/
theorem exec_lpgainWrite_runs {s : State} {c : Cmd} (h : s.runs c opWRITE) (p : LinePort) (v : Word) :
    exec (.lpgainWrite c p v) s = .next (((s.setRxGain p (v.field 3 0) (lineAfter s.now16)).setTxAtt p (v.field 12 8)
      (lineAfter s.now16)).complete c opWRITE stOK) := by
  have hw := writeCmd_runs (v := v) h (regAt_SC_LPGAIN p p.isLt) (isHL_of_lt (by unfold F.SC_LPGAIN; omega))
    (by simp [FieldDef.accepts]) (by simp) rfl rfl
  refine congrArg Host.Outcome.next (hw.trans ?_)
  simp only [State.writeReg, nthD, List.getD_cons_zero]

/-- The words and fields of the map after both fields are taken. -/
theorem lpgainWrite_map (s : State) (p v w t : Nat) : ((s.setRxGain p v t).setTxAtt p w t).map =
    ((s.setF (F.SC_LPGAIN_RXGAIN p) v).setF (F.SC_LPGAIN_TXATT p) w).map := by
  rw [State.setTxAtt_frame, State.setRxGain_frame]
  rfl

theorem State.getF_of_map_eq {s t : State} (h : s.map = t.map) (f : Fld) : s.getF f = t.getF f := by
  simp only [State.getF, State.word, h]

section
variable {s : State} (p v w t : Nat)

theorem wordsKept_lpgainWrite : s.wordsKept ((s.setRxGain p v t).setTxAtt p w t) [F.SC_LPGAIN p] := by
  have hkept := (s.wordsKept_setF (f := F.SC_LPGAIN_RXGAIN p) v (List.mem_singleton_self _)).trans
    (State.wordsKept_setF _ (f := F.SC_LPGAIN_TXATT p) w (List.mem_singleton_self _))
  intro a ha
  rw [State.word, lpgainWrite_map]
  exact hkept a ha

theorem lpgainWrite_rxGain (hs : s.sound = true) :
    ((s.setRxGain p v t).setTxAtt p w t).getF (F.SC_LPGAIN_RXGAIN p) = v % 16 := by
  rw [State.getF_of_map_eq (lpgainWrite_map s p v w t),
    State.getF_setF_disjoint _ (F.SC_LPGAIN_TXATT p) (F.SC_LPGAIN_RXGAIN p) _ (s.sound_setF _ _ hs)
      rfl (by simp) (by simp) (by simp) (by simp)]
  exact State.getF_setF_same _ _ _ hs (by simp) (by simp)

theorem lpgainWrite_txAtt (hs : s.sound = true) :
    ((s.setRxGain p v t).setTxAtt p w t).getF (F.SC_LPGAIN_TXATT p) = w % 32 := by
  rw [State.getF_of_map_eq (lpgainWrite_map s p v w t)]
  exact State.getF_setF_same _ _ _ (s.sound_setF _ _ hs) (by simp) (by simp)

theorem lpgainWrite_frame : (s.setRxGain p v t).setTxAtt p w t = { s with
    map := ((s.setRxGain p v t).setTxAtt p w t).map, sample := ((s.setRxGain p v t).setTxAtt p w t).sample,
    out := ((s.setRxGain p v t).setTxAtt p w t).out } := by
  rw [State.setTxAtt_frame, State.setRxGain_frame]

theorem lpgainWrite_sample : ((s.setRxGain p v t).setTxAtt p w t).sample = (s.setRxGain p v t).sample := by
  rw [State.setTxAtt_frame]

/-- What leaves for the front-end depends on the attenuation in force before the write (R117). -/
theorem lpgainWrite_out (hs : s.sound = true) : ((s.setRxGain p v t).setTxAtt p w t).out =
    if s.getF (F.SC_LPGAIN_TXATT p) = w then s.out else s.out ++ [.lineAtt p w t] := by
  have hout : (s.setRxGain p v t).out = s.out := by rw [State.setRxGain_frame]
  have hatt : (s.setRxGain p v t).getF (F.SC_LPGAIN_TXATT p) = s.getF (F.SC_LPGAIN_TXATT p) := by
    have hmap : (s.setRxGain p v t).map = (s.setF (F.SC_LPGAIN_RXGAIN p) v).map := by rw [State.setRxGain_frame]
    rw [State.getF_of_map_eq hmap,
      State.getF_setF_disjoint _ (F.SC_LPGAIN_RXGAIN p) (F.SC_LPGAIN_TXATT p) _ hs rfl (by simp) (by simp) (by simp) (by simp)]
  rw [State.setTxAtt_out, hout, hatt]

end

/-- A new receive gain touches the settling intervals of its port alone, and the output samples it makes settle are INV (R118). -/
theorem lpgainWrite_settling {s : State} {p v : Nat} (h : s.getF (F.SC_LPGAIN_RXGAIN p) ≠ v) (w t : Nat) :
    let u := (s.setRxGain p v t).setTxAtt p w t
    u.sample = { s.sample with ports := u.sample.ports } ∧ (∀ k, k ≠ p → u.stream k = s.stream k) ∧
      u.stream p = { s.stream p with inv := (u.stream p).inv } ∧
      ∀ n : Nat, t ≤ n * s.period16 p → n * s.period16 p < t + gainInv (s.preset p) * s.period16 p →
        u.invAt p (n * s.period16 p) = true := by
  intro u
  let z := s.setF (F.SC_LPGAIN_RXGAIN p) v
  have hstream (k : Nat) : u.stream k = (z.markInv p (gainInv (s.preset p)) t).stream k := by
    rw [State.stream, lpgainWrite_sample, State.setRxGain_changed h, State.stream]
  have hper : z.period16 p = s.period16 p := by
    rw [State.period16, State.preset, State.getF_setF_other _ _ _ _ (by dsimp only [F.SC_LPCFG, F.SC_LPGAIN]; omega)]
    rfl
  refine ⟨?_, fun k hk => ?_, ?_, fun n hlo hhi => ?_⟩
  · rw [lpgainWrite_sample, State.setRxGain_frame]
  · rw [hstream, State.stream_markInv_other _ _ _ hk]; rfl
  · rw [hstream, State.stream_markInv_same]; rfl
  · rw [← hper] at hlo hhi ⊢
    obtain ⟨x, hx, hxlo, hxhi⟩ := State.exists_inv_markInv hlo hhi
    exact State.invAt_of_mem (by rw [hstream]; exact hx) hxlo hxhi

/-! ## Stepping device time (R83, R84, R88) -/

/-- The definition of TB_STEPCTL. -/
abbrev defTB_STEPCTL : RegDef :=
  ⟨.TB_STEPCTL, 0x100044, [], [⟨0, 0, .WO, 0, false, false, []⟩, ⟨1, 1, .WO, 0, false, false, []⟩]⟩

theorem regAt_TB_STEPCTL : regAt F.TB_STEPCTL = some ⟨defTB_STEPCTL, []⟩ := by decide

theorem exec_stepSet_runs {s : State} {c : Cmd} (h : s.runs c opWRITE) :
    exec (.stepSet c) s = .next (s.stepSet.1.complete c opWRITE s.stepSet.2) := by
  have hset : Word.bit 1 0 = true := by decide
  have hacc : Word.bit 1 1 = false := by decide
  have hw := writeCmd_runs (v := 1) h regAt_TB_STEPCTL (by decide) (by decide) (by decide) rfl (by decide)
  refine congrArg Host.Outcome.next (hw.trans ?_)
  simp only [State.writeReg, State.stepCtl, hset, hacc, if_true, Bool.false_eq_true, if_false]

theorem exec_stepAccept_runs {s : State} {c : Cmd} (h : s.runs c opWRITE) :
    exec (.stepAccept c) s = .next (s.stepAccept.complete c opWRITE stOK) := by
  have hset : Word.bit 2 0 = false := by decide
  have hacc : Word.bit 2 1 = true := by decide
  have hw := writeCmd_runs (v := 2) h regAt_TB_STEPCTL (by decide) (by decide) (by decide) rfl (by decide)
  refine congrArg Host.Outcome.next (hw.trans ?_)
  simp only [State.writeReg, State.stepCtl, hset, hacc, if_true, Bool.false_eq_true, if_false]

theorem State.mayStep_iff (s : State) :
    s.mayStep = true ↔ s.ref.timeValid = false ∨ s.mode.mode = .STANDBY ∨ s.mode.mode = .ACQUIRE := by
  simp [State.mayStep, or_assoc]

theorem State.stepSet_refused {s : State} (h : s.mayStep = false) : s.stepSet = (s, stSTEP_REFUSED) := by
  simp [State.stepSet, h]

theorem State.stepSet_permitted {s : State} (h : s.mayStep = true) :
    let d := s.stepTo ((s.word F.TB_SETTIME_LO).toNat + (s.word F.TB_SETTIME_HI).toNat * 2 ^ 32)
    s.stepSet = ({ d with ref := { d.ref with wasSet := true } }, stOK) := by
  simp [State.stepSet, h]

/-- A step to a 64-bit time. -/
theorem State.stepTo_eq {s : State} {n : Nat} (hn : n < 2 ^ 64) :
    let e := (s.endEntries s.launch.entries stTIME_STEPPED).shiftStamps ((n : Int) - s.ns)
    s.stepTo n = ({ e with dt := n * dtUnit, ref := { e.ref with timeValid := true, slew := 0 } } : State).notice
      ncTIME_STEPPED 0 [(64, s.ns), (64, n), (16, s.launch.entries.length)] := by
  rw [State.stepTo, Nat.mod_eq_of_lt hn]

theorem State.dt_stepTo {s : State} {n : Nat} (hn : n < 2 ^ 64) : (s.stepTo n).dt = n * dtUnit := by
  rw [State.stepTo_eq hn, State.notice_dt]

/-- Device time that is a whole number of nanoseconds. -/
theorem State.ns_frac_of_dt {s : State} {n : Nat} (h : s.dt = n * dtUnit) : s.ns = n ∧ s.frac = 0 := by
  constructor
  · rw [State.ns, h, Nat.mul_div_cancel _ (by decide)]
  · rw [State.frac, h, Nat.mul_mod_left]; rfl

theorem State.stepAccept_rejected {s : State} (h : s.ref.rejected = true) :
    s.stepAccept = { s with ref := { s.ref with rejected := false, accepting := true, bad := 0 } } := by
  simp [State.stepAccept, h]

theorem State.stepAccept_not_rejected {s : State} (h : s.ref.rejected = false) : s.stepAccept = s := by
  simp [State.stepAccept, h]

end Sys2Proof.Machine

namespace Sys2Proof
open Machine

/-- Settles O11: the rows' equations under a command that runs, and what each of the states they name leaves and makes. -/
theorem writesWithEffectsAndSteppedTime : Obligations.WritesWithEffectsAndSteppedTime := by
  refine ⟨⟨fun c v s h => ?clears, fun c e v s h hs hns hport hcr => ⟨?active, ?free⟩,
    fun c q l p v s h => ⟨exec_qcfgStaleWrite_runs h q v, fun hp => ⟨?stop, ?run⟩, fun run hs => ?lane, fun hs => ?gain⟩⟩,
    fun c s h => ⟨fun hmay => ?step, fun hvalid hstandby hacquire => ?refused, fun hr => ?accept, fun hr => ?ignored⟩⟩
  case clears => exact ⟨exec_optagHwClear_runs h, exec_poolHwClear_runs h, exec_abortinfoClear_runs h v⟩
  case active => exact ⟨_, exec_epStateActive_runs h e hport hcr, epStateActive_effect hs hns⟩
  case free => exact ⟨_, exec_epStateFree_runs h e hport hcr, epStateFree_effect hs⟩
  case stop => rw [exec_laneRun_runs h, rxFollowLane_setRun_no_port hp]; rfl
  case run => rw [exec_laneRun_runs h, rxFollowLane_setRun_no_port hp]; rfl
  case lane => exact ⟨_, exec_laneRun_runs h l run, laneRun_effect hs l run⟩
  case gain =>
    have hgain : v.field 3 0 % 16 = v.field 3 0 := Nat.mod_mod _ _
    have hatt : v.field 12 8 % 32 = v.field 12 8 := Nat.mod_mod _ _
    refine ⟨_, exec_lpgainWrite_runs h p v, lpgainWrite_frame .., wordsKept_lpgainWrite _ _ _ _, ?_, ?_,
      fun hsame => ?_, fun hnew => ?_, fun hsame => ?_, fun hnew => lpgainWrite_settling hnew _ _⟩
    · rw [lpgainWrite_rxGain _ _ _ _ hs, hgain]
    · rw [lpgainWrite_txAtt _ _ _ _ hs, hatt]
    · rw [lpgainWrite_out _ _ _ _ hs, if_pos hsame]
    · rw [lpgainWrite_out _ _ _ _ hs, if_neg hnew]
    · rw [lpgainWrite_sample, State.setRxGain_unchanged hsame, State.setF_sample]
  case step =>
    have hn : (s.word F.TB_SETTIME_LO).toNat + (s.word F.TB_SETTIME_HI).toNat * 2 ^ 32 < 2 ^ 64 := by
      have hlo := (s.word F.TB_SETTIME_LO).isLt
      have hhi := (s.word F.TB_SETTIME_HI).isLt
      omega
    refine ⟨_, _, _, rfl, rfl, State.stepTo_eq hn, ?_, State.ns_frac_of_dt (State.dt_stepTo hn)⟩
    rw [exec_stepSet_runs h, State.stepSet_permitted (s.mayStep_iff.mpr hmay)]
  case refused =>
    have hno : s.mayStep = false := by
      rw [← Bool.not_eq_true, State.mayStep_iff]
      simp [hvalid, hstandby, hacquire]
    rw [exec_stepSet_runs h, State.stepSet_refused hno]
  case accept => rw [exec_stepAccept_runs h, State.stepAccept_rejected hr]
  case ignored => rw [exec_stepAccept_runs h, State.stepAccept_not_rejected hr]

end Sys2Proof

/-! Modes, resets, routes and power domains (O3, O7, O22, O29, O30, O32, O53): first what a notice and a mode change write and
leave, then the equations of the rows of each part; the obligations are assembled from them by name. -/

namespace Sys2Proof.Machine
open Sys2Proof

/-! ## What a notice writes to the map, and what that depends on (R310, R384) -/

section
variable (s : State)

/-- The words a notice can write: the counts of lost notices and of spans not opened. -/
abbrev noticeWords : List Nat := [F.HL_NSTAT, F.FT_AGGSTAT]

theorem State.wordsKept_hand (n : Notice) : s.wordsKept (s.hand n) noticeWords := by
  unfold State.hand
  dsimp only
  split
  · exact State.wordsKept_setF _ (f := F.HL_NSTAT_LOST) _ (by simp)
  · exact fun _ _ => rfl

theorem State.wordsKept_mergeSpan (sp : Span) (n : Notice) : s.wordsKept (s.mergeSpan sp n) noticeWords := by
  unfold State.mergeSpan
  extract_lets h full sp' q s'
  split
  · exact s'.wordsKept_hand h
  · exact fun _ _ => rfl

theorem State.wordsKept_firstOccurrence (n : Notice) : s.wordsKept (s.firstOccurrence n) noticeWords := by
  unfold State.firstOccurrence
  dsimp only
  split
  · exact s.wordsKept_hand n
  · exact (s.wordsKept_hand n).trans (State.wordsKept_setF _ (f := F.FT_AGGSTAT_NOSPAN) _ (by simp))

theorem State.wordsKept_place (n : Notice) : s.wordsKept (s.place n) noticeWords := by
  unfold State.place
  split
  · exact s.wordsKept_hand n
  · split
    · exact fun _ _ => rfl
    · split
      · exact s.wordsKept_mergeSpan _ n
      · exact s.wordsKept_firstOccurrence n

theorem State.wordsKept_notice (code u : Nat) (p : List (Nat × Nat)) (ext : Nat) :
    s.wordsKept (s.notice code u p ext) noticeWords := s.wordsKept_place _

end

section
variable {s t : State} (hm : s.map = t.map)
include hm

theorem State.map_bump_congr (f : Fld) (n : Nat) : (s.bump f n).map = (t.bump f n).map := by
  simp only [State.bump, State.setF, State.setWord, State.getF, State.word, hm]

variable (hn : s.notices = t.notices)
include hn

theorem State.map_hand_congr (n : Notice) : (s.hand n).map = (t.hand n).map := by
  simp only [State.hand, hn]
  split
  · exact State.map_bump_congr hm _ _
  · exact hm

theorem State.map_mergeSpan_congr (sp : Span) (n : Notice) : (s.mergeSpan sp n).map = (t.mergeSpan sp n).map := by
  unfold State.mergeSpan
  extract_lets h full sp' q s' r t'
  split
  · refine State.map_hand_congr (s := s') (t := t') hm ?_ h
    simp only [s', t', q, r, hn]
  · exact hm

theorem State.map_firstOccurrence_congr (n : Notice) : (s.firstOccurrence n).map = (t.firstOccurrence n).map := by
  simp only [State.firstOccurrence, hn]
  split
  · exact State.map_hand_congr hm hn n
  · exact State.map_bump_congr (State.map_hand_congr hm hn n) _ _

theorem State.map_place_congr (n : Notice) : (s.place n).map = (t.place n).map := by
  simp only [State.place, hn]
  split
  · exact State.map_hand_congr hm hn n
  · split
    · exact hm
    · split
      · exact State.map_mergeSpan_congr hm hn _ n
      · exact State.map_firstOccurrence_congr hm hn n

/-- What a notice writes to the map depends on the map, the notices and the time alone. -/
theorem State.map_notice_congr (hd : s.dt = t.dt) (code u : Nat) (p : List (Nat × Nat)) (ext : Nat) :
    (s.notice code u p ext).map = (t.notice code u p ext).map := by
  have hmember : s.memberNo = t.memberNo := by simp only [State.memberNo, State.getF_of_map_eq hm]
  simp only [State.notice, State.noticeAt, State.ns, hd, hmember]
  exact State.map_place_congr hm hn _

end

/-! ## What a mode change writes (R63, R80, R386) -/

theorem State.lupdate_frame (s : State) (b : Nat) (data : List Byte) :
    s.lupdate b data = { s with service := (s.lupdate b data).service } := by
  unfold State.lupdate
  split <;> rfl

theorem State.twinLedger_frame (s : State) : s.twinLedger = { s with service := s.twinLedger.service } := by
  unfold State.twinLedger
  rw [State.lupdate_frame, State.lupdate_frame]

/-- The mode's own record after a mode change. -/
def ModeState.changed (x : ModeState) (m : Mode) (before : Option (Nat × Bool)) : ModeState :=
  { x with mode := m, prev := x.mode.num, defTx := false, testing := false, before := before }

section
variable (s : State) (m : Mode) (cause : Nat)

/-- A mode change writes its MODE_CHANGE, the mode's record and, where SHADOW is involved, ledger blocks; nothing else. -/
theorem State.changeMode_frame : s.changeMode m cause = { s with
    map := (s.changeMode m cause).map, notices := (s.changeMode m cause).notices, service := (s.changeMode m cause).service,
    mode := s.mode.changed m (s.modeBefore cause) } := by
  unfold State.changeMode
  extract_lets old mode' s1 s2
  have h2 : s2 = { s with map := s2.map, notices := s2.notices, mode := s.mode.changed m (s.modeBefore cause) } :=
    s1.notice_frame _ _ _ _
  split
  · rw [s2.twinLedger_frame]; exact congrArg (fun x : State => { x with service := s2.twinLedger.service }) h2
  · rw [show s2.service = s.service from s1.notice_service _ _ _ _]; exact h2

theorem State.changeMode_mode : (s.changeMode m cause).mode = s.mode.changed m (s.modeBefore cause) := by
  rw [State.changeMode_frame]

theorem State.changeMode_map : (s.changeMode m cause).map =
    (s.notice ncMODE_CHANGE 0 [(8, s.mode.mode.num), (8, m.num), (8, cause)]).map := by
  unfold State.changeMode
  extract_lets old mode' s1 s2
  have h2 : s2.map = (s.notice ncMODE_CHANGE 0 [(8, s.mode.mode.num), (8, m.num), (8, cause)]).map :=
    State.map_notice_congr (s := s1) (t := s) rfl rfl rfl _ _ _ _
  split
  · rw [State.twinLedger_frame]; exact h2
  · exact h2

theorem State.changeMode_ns : (s.changeMode m cause).ns = s.ns := by
  rw [State.changeMode_frame]; rfl

theorem State.changeMode_sending : (s.changeMode m cause).sending = s.sending := by
  rw [State.changeMode_frame]; rfl

theorem State.getF_changeMode {f : Fld} (hf : f.addr ∉ noticeWords) : (s.changeMode m cause).getF f = s.getF f := by
  rw [State.getF_of_map_eq (s.changeMode_map m cause)]
  exact State.wordsKept.getF_eq (s.wordsKept_notice _ _ _ _) hf

end

/-- A row's outcome, from the state its meaning gives. -/
theorem next_congr {s t : State} (h : s = t) : (.next s : Result) = .next t := congrArg Host.Outcome.next h

/-! ## Routes (R61, R244, R305) -/

section
variable {s : State} {w : List Word}

/-- MEDIUM 3 is reserved. -/
theorem routeOk_medium3 {v : Word} (h : v.field 2 1 = 3) : routeOk v = false := by simp [routeOk, h]

theorem State.noAmend_iff : s.noAmend = true ↔ s.struct_.live = false ∨ s.mode.mode = .DEFAULTED := by
  simp [State.noAmend]

theorem State.takesAmendments (hl : s.struct_.live = true) (hm : s.mode.mode ≠ .DEFAULTED) : s.noAmend = false := by
  simp [State.noAmend, hl, hm]

theorem State.freeRoute_none (h : ∀ k < 65536, s.getF (F.RT0_VALID k) = 1) : s.freeRoute = none := by
  simpa [State.freeRoute, State.flag] using fun k hk => by simp [h k hk]

theorem State.freeRoute_lowest {n : Nat} (hn : n < 65536) (hfree : s.getF (F.RT0_VALID n) = 0)
    (hlow : ∀ k < n, s.getF (F.RT0_VALID k) = 1) : s.freeRoute = some n := by
  rw [State.freeRoute, List.find?_range_eq_some]
  refine ⟨by simp [State.flag, hfree], List.mem_range.mpr hn, fun k hk => by simp [State.flag, hlow k hk]⟩

theorem State.routeInsert_stale (h : s.noAmend = true) : s.routeInsert w = (s, stAMEND_STALE, []) := by
  simp [State.routeInsert, h]

theorem State.routeInsert_invalid (h : s.noAmend = false) (hw : routeOk (wordAt w 0) = false) :
    s.routeInsert w = (s, stAMEND_INVALID, []) := by
  simp [State.routeInsert, h, hw]

theorem State.routeInsert_full (h : s.noAmend = false) (hw : routeOk (wordAt w 0) = true) (hf : s.freeRoute = none) :
    s.routeInsert w = (s, stROUTE_FULL, []) := by
  simp [State.routeInsert, h, hw, hf]

theorem State.routeInsert_stored {n : Nat} (h : s.noAmend = false) (hw : routeOk (wordAt w 0) = true)
    (hf : s.freeRoute = some n) : s.routeInsert w = (s.putRoute n w, stOK, [BitVec.ofNat 32 n]) := by
  simp [State.routeInsert, h, hw, hf]

/-- The first word a stored route has (R305). -/
def routeWord0 (w : List Word) : Word := ((wordAt w 0).setField 0 0 1).setField 31 31 0

theorem routeWord0_valid (w : List Word) : (routeWord0 w).field 0 0 = 1 := by
  rw [routeWord0, Word.field_setField_disjoint _ _ (by omega) (by omega) (by omega) (by omega)]
  exact (Word.field_setField_same _ _ (by omega) (by omega)).trans rfl

theorem routeWord0_fields (w : List Word) : (routeWord0 w).field 30 1 = (wordAt w 0).field 30 1 := by
  rw [routeWord0, Word.field_setField_disjoint _ _ (by omega) (by omega) (by omega) (by omega),
    Word.field_setField_disjoint _ _ (by omega) (by omega) (by omega) (by omega)]

theorem routeWord0_reserved (w : List Word) : (routeWord0 w).bit 31 = false := by
  exact congrArg (· == 1) (Word.field_setField_same _ _ (by omega) (by omega))

section
variable (hs : s.sound = true) (n : Nat)
include hs

theorem State.putRoute_word0 : (s.putRoute n w).word (F.RT0 n) = routeWord0 w := by
  rw [State.putRoute, State.word_setWord_other _ _ _ _ (by dsimp only [F.RT0, F.RT2]; omega),
    State.word_setWord_other _ _ _ _ (by dsimp only [F.RT0, F.RT1]; omega), State.word_setWord_same _ _ _ hs, routeWord0]

theorem State.putRoute_valid : (s.putRoute n w).getF (F.RT0_VALID n) = 1 :=
  (congrArg (Word.field · 0 0) (State.putRoute_word0 hs n)).trans (routeWord0_valid w)

theorem State.putRoute_word1 : (s.putRoute n w).word (F.RT1 n) = wordAt w 1 := by
  rw [State.putRoute, State.word_setWord_other _ _ _ _ (by dsimp only [F.RT1, F.RT2]; omega),
    State.word_setWord_same _ _ _ (s.sound_setWord _ _ hs)]

theorem State.putRoute_word2 : (s.putRoute n w).word (F.RT2 n) = 0 :=
  State.word_setWord_same _ _ _ (State.sound_setWord _ _ _ (s.sound_setWord _ _ hs))

end

theorem State.wordsKept_putRoute (s : State) (n : Nat) (w : List Word) :
    s.wordsKept (s.putRoute n w) [F.RT0 n, F.RT1 n, F.RT2 n] :=
  ((s.wordsKept_setWord _ (by simp)).trans (State.wordsKept_setWord _ _ (by simp))).trans (State.wordsKept_setWord _ _ (by simp))

theorem State.putRoute_frame (s : State) (n : Nat) (w : List Word) :
    s.putRoute n w = { s with map := (s.putRoute n w).map } :=
  State.map_only_trans (State.map_only_trans (s.setWord_frame _ _) (State.setWord_frame _ _ _)) (State.setWord_frame _ _ _)

theorem State.routeRemove_stale (i : Nat) (h : s.noAmend = true) : s.routeRemove i = (s, stAMEND_STALE) := by
  simp [State.routeRemove, h]

theorem State.routeRemove_free {i : Nat} (h : s.noAmend = false) (hi : s.getF (F.RT0_VALID i) = 0) :
    s.routeRemove i = (s, stNOT_FOUND) := by
  simp [State.routeRemove, State.flag, h, hi]

theorem State.routeRemove_valid {i : Nat} (h : s.noAmend = false) (hi : s.getF (F.RT0_VALID i) = 1) :
    s.routeRemove i = (s.setF (F.RT0_VALID i) 0, stOK) := by
  simp [State.routeRemove, State.flag, h, hi]

theorem exec_routeInsert_runs {c : Cmd} (h : s.runs c opROUTE_INSERT) (w : List Word) : exec (.routeInsert c w) s =
    .next ((s.routeInsert w).1.complete c opROUTE_INSERT (s.routeInsert w).2.1 (s.routeInsert w).2.2) :=
  congrArg Host.Outcome.next (command_runs h _)

theorem exec_routeRemove_runs {c : Cmd} (h : s.runs c opROUTE_REMOVE) (i : RouteId) : exec (.routeRemove c i) s =
    .next ((s.routeRemove i).1.complete c opROUTE_REMOVE (s.routeRemove i).2) :=
  congrArg Host.Outcome.next (command_runs h _)

end

/-! ## Mode requests (R63 to R67, R72, R80) -/

section
variable {s : State} {c : Cmd} (h : s.runs c opWRITE)
include h

theorem exec_reqQuiet_runs : exec (.reqQuiet c) s = .next (State.answer s.reqQuiet c opWRITE) :=
  congrArg Host.Outcome.next (writeCommand_runs h _ _ _)

theorem exec_reqShadow_runs : exec (.reqShadow c) s = .next (State.answer s.reqShadow c opWRITE) :=
  congrArg Host.Outcome.next (writeCommand_runs h _ _ _)

theorem exec_reqDrain_runs : exec (.reqDrain c) s = .next (State.answer s.reqDrain c opWRITE) :=
  congrArg Host.Outcome.next (writeCommand_runs h _ _ _)

theorem exec_faultAck_runs : exec (.faultAck c) s = .next (State.answer s.reqFaultAck c opWRITE) :=
  congrArg Host.Outcome.next (writeCommand_runs h _ _ _)

theorem exec_reqRun_runs {low : Bool} {z : State} (hz : z = { s with mode := { s.mode with twinOther := low } }) :
    exec (.reqRun c low) s = .next (State.answer z.reqRun c opWRITE) := by
  subst hz; exact congrArg Host.Outcome.next (writeCommand_runs h _ _ _)

end

section
variable {s : State}

theorem State.reqRun_of_quiet (hm : s.mode.mode = .QUIET) (hl : s.twinLine = false ∨ s.getF F.MD_BOOTCFG_TWIN_ROLE = 0) :
    s.reqRun = (s.enterRun 0x06, stOK) := by
  have hg : (!s.twinLine) = true ∨ s.getF F.MD_BOOTCFG_TWIN_ROLE = 0 := hl.imp_left (by simp [·])
  rw [State.reqRun, if_neg (by simp [hm]), if_pos ⟨hm, hg⟩]

theorem State.reqRun_of_standby (hm : s.mode.mode = .STANDBY) (hh : s.getF F.MD_BOOTCFG_HOLD_STANDBY ≠ 0) :
    s.reqRun = ((s.changeMode .ACQUIRE 0x06).beginAcquire, stOK) := by
  rw [State.reqRun, if_pos ⟨hm, by simpa [State.flag] using hh⟩]

theorem State.reqRun_refused (hq : ¬ (s.mode.mode = .QUIET ∧ (s.twinLine = false ∨ s.getF F.MD_BOOTCFG_TWIN_ROLE = 0)))
    (hs : ¬ (s.mode.mode = .STANDBY ∧ s.getF F.MD_BOOTCFG_HOLD_STANDBY ≠ 0)) : s.reqRun = s.modeRefused := by
  rw [State.reqRun, if_neg (by simpa [State.flag] using hs), if_neg (by simpa using hq)]

theorem State.twinLine_eq_false : s.twinLine = false ↔ s.mode.twinOther = false ∧ s.mode.twinDriven = false := by
  simp [State.twinLine]

/-- Entry to RUN changes the mode and pulls the line of a device with a twin (R63). -/
theorem State.enterRun_mode (s : State) (cause : Nat) : (s.enterRun cause).mode =
    { s.mode.changed .RUN (s.modeBefore cause) with
      twinDriven := s.getF F.MD_BOOTCFG_TWIN_ROLE != 0, twinReleasing := false } := by
  simp only [State.enterRun, State.changeMode_mode, s.getF_changeMode .RUN cause (f := F.MD_BOOTCFG_TWIN_ROLE) (by decide)]

theorem State.twinSettle_mode (s : State) : s.twinSettle.mode = { s.mode with
    twinDriven := s.twinSettle.mode.twinDriven, twinReleasing := s.twinSettle.mode.twinReleasing } := by
  unfold State.twinSettle
  split <;> rfl

theorem State.twinSettle_driven (hr : s.mode.twinReleasing = true) (hd : s.mode.twinDriven = true) :
    s.twinSettle.mode.twinDriven = s.sending := by
  cases hs : s.sending <;> simp [State.twinSettle, hr, hs, hd]

theorem State.enterShadow_mode (s : State) (cause : Nat) : (s.enterShadow cause).mode.mode = .SHADOW := by
  rw [State.enterShadow, State.twinSettle_mode, State.changeMode_mode]; rfl

theorem State.enterShadow_lastTwin (s : State) (cause : Nat) : (s.enterShadow cause).mode.lastTwin = s.ns := by
  rw [State.enterShadow, State.twinSettle_mode]; exact s.changeMode_ns _ _

/-- On entry to SHADOW the line is kept while something is sent, else released at once. -/
theorem State.enterShadow_driven (cause : Nat) (hd : s.mode.twinDriven = true) :
    (s.enterShadow cause).mode.twinDriven = s.sending := by
  have hd' : (s.changeMode .SHADOW cause).mode.twinDriven = true := by rw [State.changeMode_mode]; exact hd
  refine (State.twinSettle_driven ?_ ?_).trans (s.changeMode_sending .SHADOW cause)
  · exact hd'
  · exact hd'

theorem State.reqQuiet_of_run (hm : s.mode.mode = .RUN) : s.reqQuiet =
    (State.twinSettle { s.changeMode .QUIET 0x08 with mode := { (s.changeMode .QUIET 0x08).mode with
      twinReleasing := (s.changeMode .QUIET 0x08).mode.twinDriven } }, stOK) := if_pos hm

theorem State.reqQuiet_refused (hm : s.mode.mode ≠ .RUN) : s.reqQuiet = s.modeRefused := if_neg hm

theorem State.reqShadow_of_twin (hm : s.mode.mode = .RUN ∨ s.mode.mode = .QUIET) (ht : s.getF F.MD_BOOTCFG_TWIN_ROLE ≠ 0) :
    s.reqShadow = (s.enterShadow 0x09, stOK) := if_pos ⟨hm, ht⟩

theorem State.reqShadow_refused
    (hg : ¬ ((s.mode.mode = .RUN ∨ s.mode.mode = .QUIET) ∧ s.getF F.MD_BOOTCFG_TWIN_ROLE ≠ 0)) :
    s.reqShadow = s.modeRefused := if_neg hg

theorem State.reqDrain_of_canDrain (hm : s.mode.mode.canDrain = true) : s.reqDrain = (s.enterDrain none, stOK) := if_pos hm

theorem State.reqDrain_refused (hm : s.mode.mode.canDrain = false) : s.reqDrain = s.modeRefused := if_neg (by simp [hm])

theorem State.reqFaultAck_of_fault (hm : s.mode.mode = .FAULT) :
    s.reqFaultAck = ({ s with mode := { s.mode with wdogStart := none } }, stOK) := if_pos hm

theorem State.reqFaultAck_refused (hm : s.mode.mode ≠ .FAULT) : s.reqFaultAck = s.modeRefused := if_neg hm

end

/-! A request in DRAIN (R72, R80). -/

section
variable {s : State} {c : Cmd}

theorem command_refused {op st : Nat} (hf : s.fenced c op = false) (hg : s.gate c op = some st) (f : State) :
    s.command c op f = s.complete c op st := by
  simp [State.command, hf, hg]

variable (hb : s.benchRole ≠ roleMEMBER) (hm : s.mode.mode = .DRAIN)
include hb hm

theorem State.gate_write_in_drain : s.gate c opWRITE = some stMODE_REFUSED := by
  rw [State.gate, if_neg fun h => hb h.1, if_pos ⟨hm, by decide⟩]

/-- The request is refused before its own rules, and REFUSED is set. -/
theorem exec_reqDrain_in_drain (hf : s.fenced c opWRITE = false) : exec (.reqDrain c) s =
    .next (State.complete { s with mode := { s.mode with refused := true } } c opWRITE stMODE_REFUSED) := by
  have hreq : s.requestInDrain c opWRITE F.MD_MODECTL 1 = { s with mode := { s.mode with refused := true } } :=
    if_pos ⟨hm, by simp [hf], State.gate_write_in_drain hb hm, by decide, by decide⟩
  refine congrArg Host.Outcome.next ?_
  rw [State.writeCommand, if_pos hm, hreq]
  refine command_refused ?_ (State.gate_write_in_drain ?_ ?_) _
  · exact hf
  · exact hb
  · exact hm

end

/-! ## Resets (R67, R71 to R73, R409) -/

section
variable {s : State}

/-- What a full reset keeps where no fuse is being programmed, and what every other part of the state then is. -/
theorem State.fullReset_of_fuse_idle (hb : s.fuse.busy = false) (cause : Nat) (gr hl : Bool) (seen : Nat) :
    s.fullReset cause gr hl seen = { State.reset with
      tick := s.tick, fresh := s.fresh, out := s.out, pending := s.pending,
      service := (s.fullReset cause gr hl seen).service
      fuse := { blown := s.fuse.blown, digest := s.fuse.digest }
      mode := { prev := s.mode.mode.num, cause := cause, graceful := gr, hostLoad := hl, seen := seen } } := by
  simp [State.fullReset, hb, State.reset]

theorem State.fullReset_copies (s : State) (cause : Nat) (gr hl : Bool) (seen : Nat) :
    (s.fullReset cause gr hl seen).service.copies = s.service.copies := rfl

theorem resetPin_of_not_off (hm : s.mode.mode ≠ .OFF) (o : ResetSources) :
    resetPin o s = s.fullReset 1 false false (seenBits { o with pin := true }) := if_neg hm

section
variable {t0 : Nat} (hw : s.mode.wdogStart = some t0)
include hw

theorem watchdogReset_of_due (hm : s.mode.mode = .FAULT) (hd : aonCount t0 + s.wdogCycles ≤ aonCount s.tick)
    (o : ResetSources) : watchdogReset o s = s.fullReset (if o.pin then 1 else 2) false false (seenBits { o with watchdog := true }) := by
  simp only [watchdogReset, hw]
  exact if_pos ⟨hm, hd⟩

theorem watchdogReset_of_early (hd : aonCount s.tick < aonCount t0 + s.wdogCycles) (o : ResetSources) :
    watchdogReset o s = s := by
  simp only [watchdogReset, hw]
  exact if_neg fun hg => Nat.not_lt.mpr hg.2 hd

end

section
variable (p : PendingReset)

theorem State.askReset_in_fault (hm : s.mode.mode = .FAULT) (gr : Bool) :
    s.askReset p gr = s.resetBy { p with hostLoad := false } false := if_pos hm

theorem State.askReset_at_once (hm : s.mode.mode ≠ .FAULT) : s.askReset p false = s.resetBy p false := by
  simp [State.askReset, hm]

theorem State.askReset_graceful (hm : s.mode.mode.canDrain = true) : s.askReset p true = s.enterDrain (some p) := by
  have hf : s.mode.mode ≠ .FAULT := fun e => by simp [e, Mode.canDrain] at hm
  have hd : s.mode.mode ≠ .DRAIN := fun e => by simp [e, Mode.canDrain] at hm
  simp [State.askReset, hf, hd, hm]

end

theorem exec_fullReset_runs {c : Cmd} (h : s.runs c opFULL_RESET) :
    exec (.fullReset c) s = .next (s.askReset { cause := 4, hostLoad := c.f17 } c.f16) :=
  congrArg Host.Outcome.next (command_runs h _)

theorem resetDirective_of_member {from_ : Member} {tag : OpTag} (hb : s.benchRole = roleMEMBER) (hf : from_.val = 0)
    (hs : s.benchSeen from_ tag = none) (gr hl : Bool) : resetDirective gr hl from_ tag s =
      (s.benchReply from_ tag stOK []).askReset { cause := 3, hostLoad := hl } gr := by
  rw [resetDirective, if_neg (by simp [hb, hf]), hs]

theorem resetDirective_of_no_member (hb : s.benchRole ≠ roleMEMBER) (gr hl : Bool) (from_ : Member) (tag : OpTag) :
    resetDirective gr hl from_ tag s = s := if_pos (.inl hb)

/-- What is left after a loss of the supplies that interrupts no programming. -/
theorem supplyLoss_of_idle (hm : s.mode.mode ≠ .OFF) (hw : s.service.writes = []) :
    supplyLoss s = { s.fullReset 0 false false 0 with
      mode := { mode := .OFF }, service := { copies := s.service.copies } } := by
  rw [supplyLoss, if_neg hm, hw]; rfl

end

/-! ## Boot, self-tests, acquisition and twins (R62, R63, R68 to R70, R92, R356) -/

section
variable {s : State}

theorem suppliesUp_of_off (hm : s.mode.mode = .OFF) : suppliesUp s =
    { s with mode := { mode := .COLD }, service := { s.service with powered := s.tick, lifeHour := 0 } } := if_pos hm

theorem coldToLoad_of_cold (hm : s.mode.mode = .COLD) (a b : Bool) : coldToLoad a b s =
    { s.setF F.MD_ID_AUTHBOOT (boolNat s.fuse.blown) with dt := 0, mode := { s.mode with
      mode := .LOAD, prev := Mode.COLD.num, bootSrc := a, benchMasterN := b, loadLimit := 10000000000 } } :=
  if_neg (not_not_intro hm)

/-- A self-test without a failed unit leaves the state and finds nothing that has no workaround. -/
theorem State.selfTest_nil (s : State) : s.selfTest [] = (s, false) := rfl

theorem selfTestDone_passed (hm : s.mode.mode = .CHECK) :
    selfTestDone [] s = ((s.changeMode .STANDBY 0x03).settleDomains).leaveStandby := by
  rw [selfTestDone, if_neg (not_not_intro hm), State.selfTest_nil]

theorem defaultedTestDone_passed (hm : s.mode.mode = .DEFAULTED) (ht : s.mode.testing = true) : defaultedTestDone [] s =
    (State.settleDomains { s with mode := { s.mode with testing := false } }).beginAcquire := by
  rw [defaultedTestDone, if_neg (by simp [hm, ht]), State.selfTest_nil]

section
variable (ht : s.timeCondition = true) (hc : s.mainsCondition = true)
include ht hc

theorem acquireComplete_runs (hm : s.mode.mode = .ACQUIRE) (h2 : s.getF F.MD_BOOTCFG_TWIN_ROLE ≠ 2)
    (hq : s.getF F.MD_BOOTCFG_START_QUIET = 0) : acquireComplete s = s.enterRun 0x07 := by
  simp [acquireComplete, State.flag, hm, ht, hc, h2, hq]

theorem defTxStart_of_acquiring (hm : s.mode.mode = .DEFAULTED) (htest : s.mode.testing = false)
    (ha : s.mode.acquiring = true) : defTxStart s = { s with mode := { s.mode with defTx := true } } := by
  simp [defTxStart, hm, htest, ha, ht, hc]

end

/-- A takeover enters RUN and notes its t0 (R70). -/
theorem State.takeover_mode (s : State) :
    s.takeover.mode.mode = .RUN ∧ s.takeover.mode.prev = s.mode.mode.num ∧ s.takeover.mode.takeoverAt = some s.ns := by
  simp only [State.takeover, State.notice_mode, State.changeMode_mode]
  exact ⟨rfl, rfl, trivial⟩

section
variable (hm : s.mode.mode = .SHADOW)
include hm

theorem twinTakeover_primary (h2 : s.getF F.MD_BOOTCFG_TWIN_ROLE ≠ 2) : twinTakeover s = s.takeover := by
  simp [twinTakeover, hm, h2]

theorem twinRecheck_high {t0 : Nat} (ht : s.mode.twinRecheck = some t0) (hd : t0 + 5000 ≤ s.ns) :
    twinRecheck false s = s.takeover := by
  simp [twinRecheck, hm, ht, Nat.not_lt.mpr hd]

theorem twinLinkLost_reported (ho : s.mode.twinOther = true) (hl : s.mode.twinLost = false)
    (hd : s.mode.lastTwin + s.getF F.MD_BOOTCFG_TWIN_MISS * 1000000 ≤ s.ns) : twinLinkLost s =
      State.notice { s with mode := { s.mode with twinLost := true } } ncTWIN_LINK_LOST 0 [] :=
  if_pos ⟨hm, ho, by simp [hl], hd⟩

theorem twinMessage_of_shadow {g : Group} (hg : s.twinGroup = some g.val) (hu : s.groupUp g = true) (l : List TwinRecord) :
    twinMessage g l s = l.foldl (fun a r => a.twinRecord r) { s with mode := { s.mode with
      lastTwin := s.ns, twinLost := false, twinOther := s.mode.twinOther || s.mode.twinRecheck.isNone } } := by
  simp [twinMessage, hg, hu, hm]

end

theorem twinSend_of_driver {g : Group} (hd : s.mode.twinDriven = true) (hg : s.twinGroup = some g.val)
    (hu : s.groupUp g = true) : twinSend g s = State.sendOn { s with bench := { s.bench with twin := [] } } g
      ((s.expected g).getD 0) 0 false 0 (.twin s.bench.twin) := by
  simp [twinSend, hd, hg, hu]

end

/-! ## Power domains (R72, R77 to R79) -/

section
variable {s : State}

theorem State.domain_setDomain_same {d : Nat} (hd : d < 43) (v : Nat) : (s.setDomain d v).domain d = v := by
  simp [State.setDomain, State.domain, hd]

theorem State.domain_setDomain_other {d k : Nat} (h : k ≠ d) (v : Nat) : (s.setDomain d v).domain k = s.domain k := by
  simp [State.setDomain, State.domain, aget_aset_other _ _ _ _ _ h]

theorem State.limitPassed_iff (t : Nat) : s.limitPassed t = true ↔ t + 1000 * s.getF F.MD_DOMCTL_DRAIN_LIMIT ≤ s.ns := by
  rw [State.limitPassed, decide_eq_true_iff, Nat.mul_comm]

theorem State.limitPassed_early {t : Nat} (h : s.ns < t + 1000 * s.getF F.MD_DOMCTL_DRAIN_LIMIT) : s.limitPassed t = false := by
  rw [← Bool.not_eq_true, State.limitPassed_iff]; exact Nat.not_le.mpr h

/-! What remains at the limit ends; the domain clamps at once or waits for a down-ramp (R78). -/

section
variable {d : Nat} {z : State} (hz : z = (s.abortDomain d).1.abortNotice d (s.abortDomain d).2.1 (s.abortDomain d).2.2)
include hz

theorem State.domainLimit_idle (hb : z.domainBusy d = false) : s.domainLimit d = (z.clampDomain d).twinSettle := by
  simp [State.domainLimit, ← hz, hb]

theorem State.domainLimit_busy (hb : z.domainBusy d = true) : s.domainLimit d = z.twinSettle := by
  simp [State.domainLimit, ← hz, hb]

end

/-! The unswitched core, named 63. -/

section
variable {d : Domain} (hd : d.val = domCORE)
include hd

theorem domainDrained_core : domainDrained d s = s.drainEnd := if_pos hd

theorem domainOff_core : domainOff d s = s := if_neg fun h => absurd (hd ▸ h.2) (by decide)

theorem domainOn_core : domainOn d s = s := if_neg fun h => absurd (hd ▸ h.2) (by decide)

section
variable {t0 : Nat} (hs : s.mode.drainStart = some t0)
include hs

theorem drainLimitExpiry_core (hm : s.mode.mode = .DRAIN) (hr : s.host.reads ≠ [])
    (ht : t0 + 1000 * s.getF F.MD_DOMCTL_DRAIN_LIMIT ≤ s.ns) (hl : s.limitBefore 43 = false) :
    drainLimitExpiry d s = (s.abortCore.1.abortNotice 63 s.abortCore.2 0).drainEnd := by
  rw [drainLimitExpiry, if_pos hd, hs]
  exact if_pos ⟨hm, State.limitPassed_iff _ |>.mpr ht, by simpa using hr, by simp [hl]⟩

theorem drainLimitExpiry_core_early (ht : s.ns < t0 + 1000 * s.getF F.MD_DOMCTL_DRAIN_LIMIT) : drainLimitExpiry d s = s := by
  rw [drainLimitExpiry, if_pos hd, hs]
  exact if_neg (by simp [State.limitPassed_early ht])

end
end

/-! The switched domains, 0 to 42. -/

section
variable {d : Domain} (hd : d.val < 43)
include hd

theorem switched_ne_core : d.val ≠ domCORE := Nat.ne_of_lt (Nat.lt_trans hd (by decide))

theorem domainDrained_idle (h3 : s.domain d = 3) (hb : s.domainBusy d = false) :
    domainDrained d s = (s.clampDomain d).twinSettle := by
  rw [domainDrained, if_neg (switched_ne_core hd), if_pos ⟨hd, h3, by simp [hb]⟩]

theorem domainDrained_kept (h : s.domain d ≠ 3 ∨ s.domainBusy d = true) : domainDrained d s = s := by
  rw [domainDrained, if_neg (switched_ne_core hd), if_neg]
  rintro ⟨_, h3, hb⟩
  exact h.elim (· h3) fun h => by simp [h] at hb

theorem drainLimitExpiry_switched (h3 : s.domain d = 3) (hb : s.domainBusy d = true)
    (hr : afind s.domains.rampTo d = none) (hl : s.limitBefore d = false)
    (ht : aget 0 s.domains.drainSince d + 1000 * s.getF F.MD_DOMCTL_DRAIN_LIMIT ≤ s.ns) :
    drainLimitExpiry d s = s.domainLimit d := by
  rw [drainLimitExpiry, if_neg (switched_ne_core hd), if_pos]
  exact ⟨hd, h3, hb, by simp [hr], State.limitPassed_iff _ |>.mpr ht, by simp [hl]⟩

theorem drainLimitExpiry_kept (h : s.domain d ≠ 3 ∨
    s.ns < aget 0 s.domains.drainSince d + 1000 * s.getF F.MD_DOMCTL_DRAIN_LIMIT) : drainLimitExpiry d s = s := by
  rw [drainLimitExpiry, if_neg (switched_ne_core hd), if_neg]
  rintro ⟨_, h3, _, _, ht, _⟩
  exact h.elim (· h3) fun h => by simp [State.limitPassed_early h] at ht

section
variable {z : State} (h4 : s.domain d = 4) (hz : z = (s.setDomain d 0).domainLeavesOn d) (hm : z.mode.mode ≠ .DRAIN)
include h4 hz hm

theorem domainOff_powered (hw : z.wantsOn d = true) (hf : z.mode.mode ≠ .FAULT) : domainOff d s = z.powerUp d := by
  simp [domainOff, h4, hd, ← hz, hm, hw, hf]

theorem domainOff_unpowered (hw : z.wantsOn d = false) : domainOff d s = z := by
  simp [domainOff, h4, hd, ← hz, hm, hw]

end

section
variable {z : State} (h1 : s.domain d = 1) (hz : z = (s.setDomain d 2).domainComesOn d)
include h1 hz

theorem domainOn_powered (hm : z.mode.mode ≠ .DRAIN) (hw : z.wantsOn d = true) : domainOn d s = z := by
  simp [domainOn, h1, hd, ← hz, hm, hw]

theorem domainOn_drains (h : z.mode.mode = .DRAIN ∨ z.wantsOn d = false) : domainOn d s = z.drainDomain d := by
  simp [domainOn, h1, hd, ← hz, h]

end
end

theorem domainOff_kept {d : Domain} (h : s.domain d ≠ 4) : domainOff d s = s := if_neg fun hg => h hg.1

theorem domainOn_kept {d : Domain} (h : s.domain d ≠ 1) : domainOn d s = s := if_neg fun hg => h hg.1

/-! The end of a drain of the device. -/

section
variable (hm : s.mode.mode = .DRAIN) (hs : s.mode.drainStart ≠ none) (hd : ∀ k < 43, s.domain k = 0) (hr : s.host.reads = [])
include hm hs hd hr

theorem State.drain_over : s.mode.mode = .DRAIN ∧ s.mode.drainStart.isSome ∧
    (List.range 43).all (fun d => s.domain d == 0) ∧ s.host.reads.isEmpty :=
  ⟨hm, Option.isSome_iff_ne_none.mpr hs, by simpa using hd, by simp [hr]⟩

theorem State.drainEnd_reset {p : PendingReset} (hp : s.mode.drainReset = some p) : s.drainEnd = s.resetBy p true := by
  rw [State.drainEnd, if_pos (State.drain_over hm hs hd hr), hp]

theorem State.drainEnd_powered_down (hp : s.mode.drainReset = none) :
    s.drainEnd = { s with mode := { s.mode with drainStart := none } } := by
  rw [State.drainEnd, if_pos (State.drain_over hm hs hd hr), hp]

end
end

/-! ## Wedged units and their spares (R378 to R380) -/

section
variable {s : State} {u : UnitRef}

theorem unitWedged_spared (hm : s.mode.mode ≠ .OFF) (hw : s.canWedge u = true) (hk : u.kind.val ≠ kPIPE) :
    unitWedged u s = s.wedgeUnit u := by
  simp [unitWedged, hm, hw, hk]

theorem autospareSubst_substitutes (hk : u.kind.val ≤ 3) (hw : s.isWedged u.kind u.unit = true)
    (hr : s.role u.kind u.unit = roleLIVE) (ha : s.flag F.FT_CFG_AUTOSPARE = true) (hf : s.freeSpares u.kind ≠ [])
    (ht : aget 0 s.faults.wedgedAt (4096 * u.kind + u.unit) < s.tick) : autospareSubst u s =
      (s.retire u.kind u.unit (((s.openRecord fcWEDGE u.kind u.unit).map (·.1)).getD 0)).1.takeUp u.kind u.unit
        (s.getF (mapLogical u.kind u.unit)) :=
  if_neg (by simp [hk, hw, hr, ha, hf, ht])

end

end Sys2Proof.Machine

namespace Sys2Proof
open Machine

/-- Settles O3: every field of the reset state is its default, and nothing is listed in either memory. -/
theorem resetStateAsSpecified : Obligations.ResetStateAsSpecified := by
  refine ⟨⟨rfl, ?_, rfl, rfl, rfl, rfl, rfl, rfl, rfl, rfl, rfl, rfl, fun d => ?_, fun _ => rfl, fun _ => rfl⟩, rfl⟩
  · exact Nat.zero_div _
  · exact ite_self _

/-- Refutes O7: a write of MD_MODECTL refused in DRAIN also sets MD_STATE.REFUSED, here REQ_DRAIN right after entry to DRAIN. -/
theorem not_commandsRefusedBeforeTheirRules : ¬ Obligations.CommandsRefusedBeforeTheirRules := by
  intro h
  let c : Cmd := { session := 0, tag := 0 }
  let s : State := { State.reset with mode := { mode := .DRAIN } }
  have hf : s.fenced c opWRITE = false := rfl
  have hb : s.benchRole ≠ roleMEMBER := by decide
  have hsays := ((h (.reqDrain c) c opWRITE s rfl).2 hf (by decide)).2.1 hb rfl (by decide)
  rw [exec_reqDrain_in_drain hb rfl hf] at hsays
  have hrefused := congrArg (fun t : State => t.mode.refused) (Host.Outcome.next.inj hsays)
  simp [s] at hrefused

/-- Settles O22: the rows' equations under a command that runs, and the words a stored route has. -/
theorem routesInsertedAndRemoved : Obligations.RoutesInsertedAndRemoved := by
  intro c w i s n
  refine ⟨routeOk_medium3, fun h => ⟨fun hstale => ?stale, fun hl hm => ?insert⟩,
    fun h => ⟨fun hstale => ?staleRemove, fun hl hm => ?remove⟩⟩
  case stale => rw [exec_routeInsert_runs h, State.routeInsert_stale (State.noAmend_iff.mpr hstale)]
  case insert =>
    have ha := State.takesAmendments hl hm
    refine ⟨fun hw => ?_, fun hw hall => ?_, fun hs hw hn hfree hlow => ⟨s.putRoute n w, ?_, State.putRoute_valid hs n,
      ?_, ?_, State.putRoute_word1 hs n, State.putRoute_word2 hs n, s.wordsKept_putRoute n w, s.putRoute_frame n w⟩⟩
    · rw [exec_routeInsert_runs h, State.routeInsert_invalid ha hw]
    · rw [exec_routeInsert_runs h, State.routeInsert_full ha hw (State.freeRoute_none hall)]
    · rw [exec_routeInsert_runs h, State.routeInsert_stored ha hw (State.freeRoute_lowest hn hfree hlow)]
    · rw [State.putRoute_word0 hs n, routeWord0_fields]
    · rw [State.putRoute_word0 hs n, routeWord0_reserved]
  case staleRemove => rw [exec_routeRemove_runs h, State.routeRemove_stale _ (State.noAmend_iff.mpr hstale)]
  case remove =>
    have ha := State.takesAmendments hl hm
    refine ⟨fun hi => ?_, fun hi => ?_⟩
    · rw [exec_routeRemove_runs h, State.routeRemove_free ha hi]
    · rw [exec_routeRemove_runs h, State.routeRemove_valid ha hi]

/-- Settles O29: the request's own case of the transition table in each mode; what a mode change writes gives the rest. -/
theorem modeRequestsOfTheHost : Obligations.ModeRequestsOfTheHost := by
  intro c low m cause s z h hz
  have hmode : z.mode.mode = s.mode.mode := by rw [hz]
  have hfields : ∀ f, z.getF f = s.getF f := State.getF_of_map_eq (by rw [hz])
  have hline : z.twinLine = false ↔ low = false ∧ s.mode.twinDriven = false := by rw [State.twinLine_eq_false, hz]
  refine ⟨fun hm hg => ?run, fun hm hh => ?acquire, fun hq hs => ?noRun, fun hm => ⟨_, rfl, ?quiet⟩, fun hm => ?noQuiet,
    fun hm ht => ?shadow, fun hg => ?noShadow, fun hm => ?drain, fun hm => ?noDrain, fun hm => ?ack, fun hm => ?noAck, ?change⟩
  case run =>
    refine ⟨z.enterRun 0x06, ?_, ?_, ?_, ?_, rfl⟩
    · rw [exec_reqRun_runs h hz, State.reqRun_of_quiet (hmode.trans hm) (by rwa [hline, hfields])]; rfl
    · rw [State.enterRun_mode]; rfl
    · rw [State.enterRun_mode]; exact congrArg Mode.num (hmode.trans hm)
    · rw [State.enterRun_mode, hfields]; exact bne_iff_ne
  case acquire => rw [exec_reqRun_runs h hz, State.reqRun_of_standby (hmode.trans hm) (by rwa [hfields])]; rfl
  case noRun =>
    rw [exec_reqRun_runs h hz, State.reqRun_refused (by rwa [hmode, hline, hfields]) (by rwa [hmode, hfields])]; rfl
  case quiet => rw [exec_reqQuiet_runs h, State.reqQuiet_of_run hm]; rfl
  case noQuiet => rw [exec_reqQuiet_runs h, State.reqQuiet_refused hm]; rfl
  case shadow =>
    refine ⟨_, ?_, s.enterShadow_mode 0x09, s.enterShadow_lastTwin 0x09, fun hd => by rw [State.enterShadow_driven _ hd]⟩
    rw [exec_reqShadow_runs h, State.reqShadow_of_twin hm ht]; rfl
  case noShadow => rw [exec_reqShadow_runs h, State.reqShadow_refused hg]; rfl
  case drain => rw [exec_reqDrain_runs h, State.reqDrain_of_canDrain hm, State.answer]
  case noDrain => rw [exec_reqDrain_runs h, State.reqDrain_refused hm]; rfl
  case ack => rw [exec_faultAck_runs h, State.reqFaultAck_of_fault hm]; rfl
  case noAck => rw [exec_faultAck_runs h, State.reqFaultAck_refused hm]; rfl
  case change =>
    rw [State.changeMode_mode]
    exact ⟨rfl, rfl, rfl, s.changeMode_map m cause⟩

/-- Settles O30: each source's guard leads to the full reset, whose fields are written out once. -/
theorem resetsKeepLedgerFusesAndCause : Obligations.ResetsKeepLedgerFusesAndCause := by
  intro o c gr hl from_ tag t0 cause seen s
  refine ⟨fun hb => ⟨_, rfl, ?full⟩, fun hm => ?pin, fun hm hw hp => ⟨fun hd => ?watchdog, fun hd => ?early⟩,
    fun h => ⟨fun hg hm => ?atOnce, fun hg hm => ?drain, fun hm => ?fault⟩,
    fun hb hf hseen => ⟨fun hg hm => ?directive, fun hg hm => ?directiveDrain⟩, fun hb => ?noMember,
    fun hm hb hw => ?supply⟩
  case full =>
    rw [State.fullReset_of_fuse_idle hb]
    exact ⟨rfl, rfl, rfl, rfl, rfl, rfl, rfl, rfl, rfl, rfl, rfl, rfl, rfl, rfl, rfl⟩
  case pin => exact next_congr (resetPin_of_not_off hm o)
  case watchdog =>
    refine next_congr ((watchdogReset_of_due hw hm hd o).trans ?_)
    rw [hp]; rfl
  case early => exact next_congr (watchdogReset_of_early hw hd o)
  case atOnce => rw [exec_fullReset_runs h, hg, State.askReset_at_once _ hm]; rfl
  case drain => rw [exec_fullReset_runs h, hg, State.askReset_graceful _ hm]
  case fault => rw [exec_fullReset_runs h, State.askReset_in_fault _ hm]; rfl
  case directive =>
    subst hg
    exact next_congr ((resetDirective_of_member hb hf hseen _ _).trans (State.askReset_at_once _ hm))
  case directiveDrain =>
    subst hg
    exact next_congr ((resetDirective_of_member hb hf hseen _ _).trans (State.askReset_graceful _ hm))
  case noMember => exact next_congr (resetDirective_of_no_member hb gr hl from_ tag)
  case supply =>
    refine ⟨_, next_congr (supplyLoss_of_idle hm hw), rfl, rfl, rfl, ?_, rfl⟩
    rw [State.fullReset_of_fuse_idle hb]

/-- Settles O32: each row by the domain's state, the core apart from the switched domains. -/
theorem powerDomainsDrainClampAndReturn : Obligations.PowerDomainsDrainClampAndReturn := by
  intro d s z p v t0
  refine ⟨fun hd => ⟨?coreDrained, ?coreOff, ?coreOn, fun hm hs hr => ⟨fun ht hl => ?coreLimit, fun ht => ?coreEarly⟩⟩,
    fun hd => ⟨fun h3 hb => ?drained, fun h3 hb => ?busy, fun h3 => ⟨?otherDrained, ?otherLimit⟩,
      fun h3 hb hr => ⟨fun ht => ?early, fun ht hl hz => ⟨fun hzb => ?limit, fun hzb => ?ramp⟩⟩,
      fun h4 hz hm => ⟨fun hw hf => ?offOn, fun hw => ?off⟩, fun h4 => ?otherOff,
      fun h1 hz => ⟨fun hm hw => ?on, fun hw => ?onDrains⟩, fun h1 => ?otherOn, ?states⟩,
    fun hm hs hk hr => ⟨State.drainEnd_reset hm hs hk hr, State.drainEnd_powered_down hm hs hk hr⟩⟩
  case coreDrained => exact next_congr (domainDrained_core hd)
  case coreOff => exact next_congr (domainOff_core hd)
  case coreOn => exact next_congr (domainOn_core hd)
  case coreLimit => exact next_congr (drainLimitExpiry_core hd hs hm hr ht hl)
  case coreEarly => exact next_congr (drainLimitExpiry_core_early hd hs ht)
  case drained => exact next_congr (domainDrained_idle hd h3 hb)
  case busy => exact next_congr (domainDrained_kept hd (.inr hb))
  case otherDrained => exact next_congr (domainDrained_kept hd (.inl h3))
  case otherLimit => exact next_congr (drainLimitExpiry_kept hd (.inl h3))
  case early => exact next_congr (drainLimitExpiry_kept hd (.inr ht))
  case limit => exact next_congr ((drainLimitExpiry_switched hd h3 hb hr hl ht).trans (State.domainLimit_idle hz hzb))
  case ramp => exact next_congr ((drainLimitExpiry_switched hd h3 hb hr hl ht).trans (State.domainLimit_busy hz hzb))
  case offOn => exact next_congr (domainOff_powered hd h4 hz hm hw hf)
  case off => exact next_congr (domainOff_unpowered hd h4 hz hm hw)
  case otherOff => exact next_congr (domainOff_kept h4)
  case on => exact next_congr (domainOn_powered hd h1 hz hm hw)
  case onDrains => exact next_congr (domainOn_drains hd h1 hz hw)
  case otherOn => exact next_congr (domainOn_kept h1)
  case states => exact ⟨State.domain_setDomain_same hd v, fun k hk => State.domain_setDomain_other hk v, State.notice_qmem ..⟩

/-- Settles O53: each event's guard holds, so its row does what it is for; a takeover's mode is that of its mode change. -/
theorem modeAndDomainEventsComplete : Obligations.ModeAndDomainEventsComplete := by
  intro a b low g d u t0 s z
  refine ⟨fun hm => ⟨_, next_congr (suppliesUp_of_off hm), rfl, rfl⟩,
    fun hm => ⟨_, next_congr (coldToLoad_of_cold hm a b), rfl, rfl, rfl⟩,
    fun hm => next_congr (selfTestDone_passed hm), fun hm ht => next_congr (defaultedTestDone_passed hm ht),
    fun ht hc => ⟨fun hm h2 hq => ?acquired, fun hm htest ha => ?defTx⟩,
    fun hm => ⟨fun h2 => ?takeover, fun ht hd => ?recheck, fun ho hl hd => ?lost, fun hg hu => ?message⟩,
    fun hd hg hu => ?send, fun hd => ⟨fun h3 hb => ?drained, fun h3 hb hr hl ht hz hzb => ?limit,
      fun h4 hz hm hw => ?off, fun h1 hz hm hw => ?on⟩,
    fun hm hw hk => ?wedged, fun hk hw hr ha hf ht => ⟨_, ?spare, rfl⟩⟩
  case acquired => exact next_congr (acquireComplete_runs ht hc hm h2 hq)
  case defTx => exact next_congr (defTxStart_of_acquiring ht hc hm htest ha)
  case takeover =>
    obtain ⟨hrun, hprev, hat⟩ := s.takeover_mode
    exact ⟨_, next_congr (twinTakeover_primary hm h2), hrun, hprev.trans (congrArg Mode.num hm), hat⟩
  case recheck =>
    obtain ⟨hrun, _, hat⟩ := s.takeover_mode
    exact ⟨_, next_congr (twinRecheck_high hm ht hd), hrun, hat⟩
  case lost => exact next_congr (twinLinkLost_reported hm ho hl hd)
  case message => exact next_congr (twinMessage_of_shadow hm hg hu [])
  case send => exact next_congr (twinSend_of_driver hd hg hu)
  case drained => exact next_congr (domainDrained_idle hd h3 hb)
  case limit => exact next_congr ((drainLimitExpiry_switched hd h3 hb hr hl ht).trans (State.domainLimit_idle hz hzb))
  case off => exact next_congr (domainOff_unpowered hd h4 hz hm hw)
  case on => exact next_congr (domainOn_powered hd h1 hz hm hw)
  case wedged => exact next_congr (unitWedged_spared hm hw hk)
  case spare => exact next_congr (autospareSubst_substitutes hk hw hr ha hf ht)

end Sys2Proof

/-! Events of the receive bench and of the power-line engine (O55): what the receive link, a lane and a capture do when their
event is due, then reception, transmission and access on a band channel; the obligation is assembled from these by name. -/

namespace Sys2Proof.Machine
open Sys2Proof

/-! ## The receive link (R129, R131, R134) -/

section
variable {s : State} {n : Nat}

@[simp] theorem State.rfLink_setRfLink_same (s : State) (n : Nat) (l : RfLink) : (s.setRfLink n l).rfLink n = l := by
  simp [State.rfLink, State.setRfLink]

@[simp] theorem State.rfLink_emitOut (s : State) (o : Out) (n : Nat) : (s.emitOut o).rfLink n = s.rfLink n := rfl

/-- Channelised samples leave the last counter of their link as it is. -/
theorem State.last_chanSample (s : State) (n : Nat) (t : Int) (k : Nat) (gap : Bool) :
    ((s.chanSample n t k gap).rfLink n).last = (s.rfLink n).last := by
  simp [State.chanSample]

theorem State.last_chanTo (s : State) (n c : Nat) (gap : Bool) : ((s.chanTo n c gap).rfLink n).last = (s.rfLink n).last := by
  simp only [State.chanTo, State.rfLink_setRfLink_same]
  exact List.foldlRecOn (motive := fun a : State => (a.rfLink n).last = (s.rfLink n).last) _ _ rfl
    fun a h i _ => (a.last_chanSample n _ _ gap).trans h

/-- The cells of a stream leave the receive links as they are. -/
theorem State.streamFrame_sample (s : State) (d : Demod) (m : Nat) : (s.streamFrame d m).sample = s.sample := by
  unfold State.streamFrame
  dsimp only
  split
  · rfl
  · exact List.foldlRecOn (motive := fun a : State => a.sample = s.sample) _ _ rfl fun _ h _ _ => h

theorem State.streamCells_sample (s : State) (n : Nat) : (s.streamCells n).sample = s.sample := by
  refine List.foldlRecOn (motive := fun a : State => a.sample = s.sample) _ _ rfl fun a h d _ => ?_
  split
  · split
    · exact (a.streamFrame_sample d _).trans h
    · exact h
  · exact h

theorem State.last_rfMarkInv (s : State) (n : Nat) (a b : Int) : ((s.rfMarkInv n a b).rfLink n).last = (s.rfLink n).last := by
  simp [State.rfMarkInv]

theorem State.last_rfChanges (s : State) (n : Nat) (c : Int) (flags chg : Nat) :
    ((s.rfChanges n c flags chg).rfLink n).last = (s.rfLink n).last := by
  have hsettle (a : State) (t : Int) : ((a.rfSettle n t).rfLink n).last = (a.rfLink n).last := a.last_rfMarkInv n _ _
  have hfirst (t : Int) : ((if chg.testBit 7 then s.rfSettle n t else s).rfLink n).last = (s.rfLink n).last := by
    split
    · exact hsettle s t
    · rfl
  simp only [State.rfChanges, State.rfLink_setRfLink_same]
  split
  · rw [State.last_rfMarkInv, hfirst]
  · split
    · exact hfirst _
    · rw [hsettle, hfirst]

theorem State.last_rfClip (s : State) (n c flags : Nat) : ((s.rfClip n c flags).rfLink n).last = (s.rfLink n).last := by
  unfold State.rfClip
  dsimp only
  split
  · rw [State.rfLink_setRfLink_same]
  · rfl

theorem State.last_rfLast (s : State) (n c : Nat) : ((s.rfLast n c).rfLink n).last = some c :=
  congrArg RfLink.last (s.rfLink_setRfLink_same n _)

/-- A good frame's counter is the last one once its pairs are channelised. -/
theorem State.last_rfFrame (s : State) (n c flags chg : Nat) : ((s.rfFrame n c flags chg).rfLink n).last = some c := by
  rw [State.rfFrame, State.rfLink, State.streamCells_sample]
  exact (State.last_chanTo _ _ _ _).trans ((State.last_rfClip _ _ _ _).trans ((State.last_rfChanges _ _ _ _ _).trans (s.last_rfLast n c)))

theorem State.chanGap_of_aligned (h2 : s.getF (F.SC_RFSTAT_STATE n) = 2) : s.chanGap n = s := by
  simp [State.chanGap, h2]

theorem rfRxFrame_of_aligned {n : RfPort} {ch : List LinkChar} (h2 : s.getF (F.SC_RFSTAT_STATE n) = 2)
    (hg : rfFrameGood ch = true) : rfRxFrame n ch s = s.rfAligned n ch := by
  simp [rfRxFrame, State.rfGood, State.chanGap_of_aligned h2, h2, hg]

/-- The frame next in order, in time by its own stamp: no pair before it is missing. -/
theorem State.rfAligned_next {x : Nat} {ch : List LinkChar} (hx : (s.rfLink n).last = some x)
    (he : s.rfExtend n (rfCounter ch) (s.rfArrival n) = x + 32) (hpast : s.rfStamp n (x + 32 : Nat) ≤ s.now16)
    (hlate : (s.now16 : Int) ≤ s.rfStamp n (x + 32 : Nat) + 12500 * 65536) :
    s.rfAligned n ch = s.rfFrame n (x + 32) (rfFlags ch) (rfChg ch) := by
  simp only [State.rfAligned, he, hx, Option.getD_some, Nat.lt_irrefl, decide_false, Bool.false_or, if_false]
  exact if_neg (by simp only [Bool.or_eq_true, decide_eq_true_eq]; omega)

theorem rfFrameMissing_late {n : RfPort} {x : Nat} (hx : (s.rfLink n).last = some x) (h2 : s.getF (F.SC_RFSTAT_STATE n) = 2)
    (ht : s.rfStamp n (x + 32) + 12500 * 65536 ≤ s.now16) : rfFrameMissing n s =
      (((s.setRfLink n { s.rfLink n with missing := some (x + 32), cand := none }).rfState n 3 false).gapDemods n).chanGap n := by
  simp only [rfFrameMissing, hx]
  exact if_pos ⟨h2, ht⟩

/-! ## Control links and captures (R127, R136, R138) -/

/-- A launched write in time, sent the first time: it is marked once the front-end accepts it. -/
theorem rfcTransaction_accepted {k : RfcLink} {e : LqEntry} (hnext : s.rfcNext k = some e) (ht : s.ns + 2000 ≤ s.lqNs e)
    (hidle : leType e.words = leTypeRF_TUNE → s.inTransmit (leIndex e.words) (s.lqNs e) = false) (h0 : e.rfc = 0) (rd : Word) :
    rfcTransaction k (.accept rd) s = (s.emitOut (.rfc k (rfcBits false (leIndex e.words) false (rfcOf e.words).1
      (s.rfCount (leIndex e.words) (s.lqNs e)) (rfcOf e.words).2))).lqUpdate e.entry fun z => { z with rfc := 1, outside := true } := by
  have hnot : ¬(leType e.words = leTypeRF_TUNE ∧ s.inTransmit (leIndex e.words) (s.lqNs e) = true) :=
    fun ⟨htune, hbusy⟩ => by simp [hidle htune] at hbusy
  simp only [rfcTransaction, hnext, State.rfcLaunched, if_neg (Nat.not_lt.mpr ht), if_neg hnot, h0]
  rfl

theorem State.length_laneSteps (s : State) (p : Nat) (c : PortStream) (i m : Nat) : (s.laneSteps p c i m).2.1.length = m := by
  induction m generalizing c i with
  | zero => rfl
  | succ m ih => rw [State.laneSteps, List.length_cons, ih]

/-- 64 words of a capture that is due go to its queue as one item, or are counted as dropped. -/
theorem captureItem_due {p : LinePort} {x : Nat} (hx : (s.stream p).capNext = some x) (hen : s.getF (F.SC_LPCAP_EN p) = 1)
    (hact : s.lineActive p = true) (ht : (x + 63) * s.period16 p ≤ s.now16) (lv : List ModSample) :
    ∃ (y : State) (ws : List Word), ws.length = 64 ∧ captureItem p lv s = (match y.qHwItem (s.getF (F.SC_LPCAP_QUEUE p)) (.hw 3 p)
        (itemOf (lo32 (x * s.period16 p / 65536) :: hi32 (x * s.period16 p / 65536) :: ws)) with
      | (v, true) => v
      | (v, false) => v.bump (F.SC_LPSTAT_CAPDROP p)) ∧ (y.stream p).capNext = some (x + 64) := by
  have hdue : (s.flag (F.SC_LPCAP_EN p) && s.lineActive p && decide ((x + 63) * s.period16 p ≤ s.now16)) = true := by
    simp [State.flag, hen, hact, ht]
  simp only [captureItem, hx, if_pos hdue]
  exact ⟨_, _, s.length_laneSteps p _ x 64, rfl, congrArg PortStream.capNext (s.stream_setStream_same p _)⟩

end

/-! ## Reception on a band channel (R155, R156) -/

section
variable {s : State} {p : LinePort} {b : Band}

theorem State.within_iff (s : State) (end_ lim : Nat) : s.within end_ lim = true ↔ end_ ≤ s.ns ∧ s.ns ≤ end_ + lim := by
  simp [State.within]

theorem plcDetect_in_search {metric end_ : Nat} (hs : s.plcSearching p b.num = true)
    (hm : s.getF (F.PL_BANDCFG_DETTHR p b.num) ≤ metric) (hw : s.within end_ 40000 = true) (hv : s.windowsValid p end_ = true) :
    plcDetect p b metric end_ s = (s.setRx (s.rxHome p) b.num 2 (some { detected := s.ns, port := p })).bump
      (F.PL_RXCNT_DETECT (s.rxHome p) b.num) := by
  simp [plcDetect, hs, hm, hw, hv]

section
variable {r : PlcReception} (hr : (s.pchan (s.rxHome p) b.num).rx = some r)
include hr

theorem plcSyncm_in_time {deep : Bool} {start : Nat} (h2 : s.rxState (s.rxHome p) b.num = 2)
    (hw : s.within (start + preambleSyms deep * 680000) 40000 = true)
    (hd : start + (if deep then 15 else 8) * 680000 ≤ r.detected + 16 * 680000) :
    plcSyncm p b deep start s = s.setRx (s.rxHome p) b.num 3 (some { r with port := p, start := start, deep := deep }) := by
  simp only [plcSyncm, hr]
  exact if_pos (by simp only [h2, hw, hd]; rfl)

theorem plcSyncTimeout_due (h2 : s.rxState (s.rxHome p) b.num = 2) (hd : r.detected + 16 * 680000 ≤ s.ns) :
    plcSyncTimeout p b s = (s.setRx (s.rxHome p) b.num 1 none).bump (F.PL_RXLOSS_FALSEDET (s.rxHome p) b.num) := by
  simp only [plcSyncTimeout, hr]
  exact if_pos ⟨h2, hd⟩

theorem plcHeaderDecided_taken {hw : Word} {k : Nat} (h3 : s.rxState (s.rxHome p) b.num = 3)
    (ht : s.within (r.headerEnd (s.nCar (s.rxHome p) b.num)) 60000 = true)
    (hk : s.headerSyms (s.rxHome p) b.num r hw = some k) :
    plcHeaderDecided p b hw s = s.setRx (s.rxHome p) b.num 4 (some { r with header := hw, nsym := k }) := by
  simp [plcHeaderDecided, hr, h3, ht, hk]

/-- A decoded frame whose header names a beacon: counted OK, with its quality, and nothing more. -/
theorem plcFrameDue_beacon {rx : PlcRx} {psdu : List Byte} (h4 : s.rxState (s.rxHome p) b.num = 4) (hn : r.nsym ≠ 0)
    (ht : s.within r.lastSymbol 150000 = true) (hl : s.launchesDue = false) (hp : rx.psdu = some psdu)
    (hlen : psdu.length = phLen r.header) (hft : phFt r.header = 2) :
    let h := s.rxHome p
    let m := meanSnr (rx.snr.map (clampInt (-128) 127))
    plcFrameDue p b rx s = (((((s.setRx h b.num 1 none).bump (F.PL_CORR_RSCORR h b.num) rx.rsCorr).bump (F.PL_CORR_ERASED h b.num)
      (s.erasedSyms r rx.overloads)).setF (F.PL_RXQUAL_LQI h b.num) (lqi m)).setF (F.PL_RXQUAL_MEAN_SNR h b.num)
        (unsignedOf 8 m)).bump (F.PL_RXCNT_OK h b.num) := by
  simp [plcFrameDue, hr, h4, hn, ht, hl, hp, hlen, State.plcDecoded, hft]

end

/-- The conditions of a right header. -/
theorem State.headerSyms_right {s : State} {h c : Nat} {r : PlcReception} {hw : Word} (hcrc : phCrcOk hw = true) (hmode : phMode hw < 5)
    (hlo : 1 ≤ phLen hw) (hhi : phLen hw ≤ 2048) (hdeep : phMode hw = 4 ↔ r.deep = true)
    (hk : frameSyms (phMode hw) (phLen hw) (s.nCar h c) ≤ 4096) :
    s.headerSyms h c r hw = some (frameSyms (phMode hw) (phLen hw) (s.nCar h c)) := by
  have hd : (phMode hw == 4) = r.deep := by rw [Bool.eq_iff_iff, beq_iff_eq, hdeep]
  simp [State.headerSyms, hcrc, hmode, hlo, hhi, hd, hk]

end

/-! ### Receiver states (R155) -/

theorem State.sound_rxTo {s : State} (hs : s.sound = true) (p b st : Nat) : (s.rxTo p b st).sound = true :=
  State.sound_setF _ _ _ hs

/-- The state of a receiver after one of the port's receivers has moved. -/
theorem State.rxState_rxTo {s : State} (hs : s.sound = true) (p b st m : Nat) :
    (s.rxTo p b st).rxState p m = if m = b then st % 8 else s.rxState p m := by
  split
  · next hm => rw [hm]; exact State.getF_setF_same _ _ _ hs (by simp) (by simp)
  · next hm => exact State.getF_setF_other _ _ _ _ (by dsimp only [F.PL_RXQUAL]; omega)

theorem State.rxTo_frame (s : State) (p b st : Nat) :
    s.rxTo p b st = { s with map := (s.rxTo p b st).map, plc := (s.rxTo p b st).plc } := rfl

/-- A suspended receiver returns to SEARCH; another stays as it is. -/
def State.resumeRx (p : Nat) (s : State) (b : Nat) : State := if s.rxState p b = 5 then s.rxTo p b 1 else s

theorem plcSuspendEnd_due {s : State} {p : LinePort} (ht : aget 0 s.plc.suspendTo p ≤ s.ns) :
    plcSuspendEnd p s = (List.range 4).foldl (State.resumeRx p) s :=
  if_neg (Nat.not_lt.mpr ht)

theorem State.sound_resumeRx {s : State} (hs : s.sound = true) (p b : Nat) : (s.resumeRx p b).sound = true := by
  unfold State.resumeRx
  split
  · exact State.sound_rxTo hs p b 1
  · exact hs

theorem State.rxState_resumeRx {s : State} (hs : s.sound = true) (p b m : Nat) :
    (s.resumeRx p b).rxState p m = if m = b ∧ s.rxState p m = 5 then 1 else s.rxState p m := by
  unfold State.resumeRx
  by_cases hb : s.rxState p b = 5
  · by_cases hm : m = b <;> simp [State.rxState_rxTo hs, hb, hm]
  · have hno : ¬(m = b ∧ s.rxState p m = 5) := fun ⟨hm, h5⟩ => hb (hm ▸ h5)
    rw [if_neg hb, if_neg hno]

theorem State.rxState_foldl_resumeRx {s : State} (hs : s.sound = true) (p m : Nat) (l : List Nat) :
    (l.foldl (State.resumeRx p) s).rxState p m = if m ∈ l ∧ s.rxState p m = 5 then 1 else s.rxState p m := by
  induction l generalizing s with
  | nil => simp
  | cons b l ih =>
    rw [List.foldl_cons, ih (State.sound_resumeRx hs p b), State.rxState_resumeRx hs]
    by_cases hm : m = b
    · subst hm
      by_cases h5 : s.rxState p m = 5 <;> simp [h5]
    · simp [hm]

theorem State.foldl_resumeRx_frame (s : State) (p : Nat) (l : List Nat) : l.foldl (State.resumeRx p) s =
    { s with map := (l.foldl (State.resumeRx p) s).map, plc := (l.foldl (State.resumeRx p) s).plc } := by
  refine List.foldlRecOn (motive := fun a : State => a = { s with map := a.map, plc := a.plc }) l _ rfl fun a h b _ => ?_
  unfold State.resumeRx
  split
  · rw [State.rxTo_frame, h]
  · exact h

/-! ## Transmission on a band channel (R162, R163, R174) -/

section
variable {s : State} {i : EntryId} {e : LqEntry}

theorem plcItemRead_due (hi : s.lqAt i = some e) (hf : leType e.words = leTypePLC_FRAME) (hitem : e.item = none) (hdue : e.due = none)
    (ht : s.lqNs e ≤ s.ns + 100000) : plcItemRead i s = s.plcRead e := by
  simp [plcItemRead, hi, hf, hitem, hdue, Nat.not_lt.mpr ht]

/-- A secured host frame that nothing stops is sent at its launch. -/
theorem plcFrame_host {it : List Word} {psdu : List Byte} (hi : s.lqAt i = some e) (hf : leType e.words = leTypePLC_FRAME)
    (hr : s.lqReady e = true) (hitem : e.item = some it) (hsec : e.secured = some psdu) (hstop : s.plcStop? e = none)
    (hhost : e.inserter = .host) (hentry : e.entry = i) : plcFrame i s = ((s.lqRemove i).plcStart e.port e.band (s.lqNs e) (.host e) e psdu
      (itMode it) (itFt it) (psduAckReq (itFt it) psdu)).endOfTick := by
  simp [plcFrame, hi, hf, hr, hitem, hsec, hstop, State.plcLaunch, LqEntry.plcKind, hhost, hentry]

end

section
variable {s : State} {p : LinePort} {b : Band}

theorem plcTxDone_host {t : PlcSending} {e : LqEntry} (htx : (s.pchan p b.num).tx = some t) (hend : t.end_ ≤ s.ns)
    (hk : t.kind = .host e) :
    plcTxDone p b s = (((((s.plcStop p b.num t.end_).bump (F.PL_TXCNT_SENT p b.num)).twinSettle).sentReserve p b.num t).qRelease
      (leQueue e.words)).launchReport e lpOK := by
  simp [plcTxDone, htx, Nat.not_lt.mpr hend, hk]

/-! ## Acknowledgement (R177 to R179) -/

/-- The one index below `n` at which a search succeeds. -/
theorem findSome?_range_unique {α : Type} {f : Nat → Option α} {n k : Nat} {v : α} (hk : k < n) (hv : f k = some v)
    (hother : ∀ i < n, i ≠ k → f i = none) : (List.range n).findSome? f = some v := by
  cases hfound : (List.range n).findSome? f with
  | none =>
    have := List.findSome?_eq_none_iff.mp hfound k (List.mem_range.mpr hk)
    simp [hv] at this
  | some w =>
    obtain ⟨i, hi, hw⟩ := List.exists_of_findSome?_eq_some hfound
    by_cases hik : i = k
    · rw [← hv, ← hik, hw]
    · simp [hother i (List.mem_range.mp hi) hik] at hw

/-- The attempt of a port under single-phase coupling waits for this ACK. -/
theorem State.ackAnswers_own {psdu : List Byte} {a : PlcAttempt} (hwait : a.waiting = true) (hlen : psdu.length = 6)
    (hme : s.toMe (le32 psdu 0) = true) (hseq : (psdu.getD 4 0).toNat = a.seq) (ht : s.ns ≤ a.deadline) (hon : a.on_ = p.val)
    (hone : s.getF (F.PL_FGCFG_COUPLING (p / 3)) = 0) : s.ackAnswers p psdu a = true := by
  have hport : s.txPorts a.on_ = [(p.val, 0)] := by simp [State.txPorts, hon, State.flag, hone]
  simp only [State.ackAnswers, hwait, hlen, hme, hseq, ht, hport]
  simp

/-- The ACK awaited, not BUSY, on a port whose group has no other attempt: the item is released. -/
theorem State.plcAckIn_awaited {c : Nat} {psdu : List Byte} {a : PlcAttempt} (ha : (s.pchan p c).attempt = some a)
    (hans : s.ackAnswers p psdu a = true) (hother : ∀ j, j / 3 = p.val / 3 → j ≠ p.val → (s.pchan j c).attempt = none)
    (hbusy : bitAt psdu 5 0 = false) : s.plcAckIn p c psdu = s.releaseAttempt p c a.queue := by
  have hself : 3 * (p.val / 3) + p.val % 3 = p.val := Nat.div_add_mod _ _
  have hheld : ((List.range 3).findSome? fun i => ((s.pchan (3 * (p.val / 3) + i) c).attempt.filter fun a => s.ackAnswers p psdu a).map
      fun a => (3 * (p.val / 3) + i, a)) = some (p.val, a) := by
    refine findSome?_range_unique (k := p.val % 3) (Nat.mod_lt _ (by decide)) ?_ fun i hi hne => ?_
    · simp [hself, ha, hans]
    · rw [hother _ (by omega) (by omega)]; rfl
  simp only [State.plcAckIn, hheld, hbusy]
  rfl

theorem plcAckExpiry_late {a : PlcAttempt} (ha : (s.pchan p b.num).attempt = some a) (hwait : a.waiting = true)
    (ht : a.deadline + 2000 ≤ s.ns) : plcAckExpiry p b s = s.ackMissed p b.num a := by
  simp [plcAckExpiry, ha, hwait, State.expired, ht]

theorem plcAckSend_ready {ak : PlcAckDue} (hak : (s.pchan p b.num).ack = some ak) (hc : s.combines (p / 3) = false) (ht : ak.at_ ≤ s.ns)
    (hr : ak.ready = true) (hstop : s.ownStop p b.num = false) : ∃ y, plcAckSend p b s =
      ((s.setPchan p b.num { s.pchan p b.num with ack := none }).plcStart p b.num ak.at_ .ack y
        (bytesLE 4 ak.dst ++ [BitVec.ofNat 8 ak.seq, if ak.busy then 1 else 0]) ak.mode 1 false).bump
        (if ak.busy then F.PL_ACKCNT_BUSYSENT p b.num else F.PL_ACKCNT_ACKSENT p b.num) := by
  have hport : s.ackPort p = p.val := by simp [State.ackPort, hc]
  simp only [plcAckSend, hak, if_neg (Nat.not_lt.mpr ht), hport, hstop, hr]
  refine ⟨{ entry := 2048, gen := 0, words := [], inserter := .ack p b.num, seq := 0 }, ?_⟩
  cases ak.busy <;> rfl

end

/-! ## Medium access: attempts in contention, on band C and in a grant (R174 to R184) -/

section
variable {s z : State} {p : LinePort} {b : Band} {cls q : Nat}

/-- Nothing stands in the way of the launch at the slot drawn: the attempt starts (R180, R183). -/
theorem contentionDecision_idle {round draw w u : Nat} {spectra : List Spectrum} (hz : z = s.unblock p b.num)
    (ho : z.offered p b.num = some (cls, q)) (hact : z.lineActive p = true) (hres : z.plc.resuming.contains p.val = false)
    (hc : b.num ≠ 2) (hdraw : draw < z.winSlots p cls)
    (hw : z.slotStart p b.num (z.idleStart p b.num spectra) (round * z.roundSlots p + z.winStart p cls) = some w)
    (hu : z.slotStart p b.num (z.idleStart p b.num spectra) (round * z.roundSlots p + z.winStart p cls + draw) = some u)
    (hpend : z.pendingFor q w = true) (hlo : u ≤ z.ns + 2000) (hhi : z.ns + 2000 < u + 2)
    (hquiet : loudNow (z.accWord p (3 + b.num)).toNat spectra = false) (hbusy : z.bandBusy p b.num = false)
    (hcfp : z.beforeCfp p b.num q u = true) : contentionDecision p b round draw spectra s = z.startAttempt p b.num cls q u := by
  have hnow : ¬(z.ns + 2000 < u ∨ u + 2 ≤ z.ns + 2000) := by omega
  simp only [contentionDecision, ← hz, ho, hw, hu]
  rw [if_neg (by simp only [hc, hact, hres, hpend, Nat.not_le.mpr hdraw, hnow]; simp), if_neg (by simp [hquiet, hbusy, hcfp])]

/-- Band C is idle for its access time and the port has been silent for 125 ms (R182). -/
theorem bandcAccess_idle {d : Fin 16} {spectra : List Spectrum} (hz : z = s.unblock p 2) (ho : z.offered p 2 = some (cls, q))
    (hact : z.lineActive p = true) (hres : z.plc.resuming.contains p.val = false) (hsend : z.isSending p 2 = false)
    (hpend : z.pendingFor q (z.ns + 2000) = true) (hlast : ∀ j, (z.pchan p 2).lastEnd = some j → j + 125000000 ≤ z.ns + 2000)
    (hidle : (bandcSense (z.getF (F.PL_BCTHR_BUSYTHR p)) spectra).busy = false)
    (ht : (bandcSense (z.getF (F.PL_BCTHR_BUSYTHR p)) spectra).since + (85 + 2 * d.val) * 1000000 ≤ z.ns + 2000) :
    bandcAccess p d spectra s = z.startAttempt p 2 cls q (z.ns + 2000) := by
  simp only [bandcAccess, ← hz, ho]
  rw [if_neg ?_, if_neg (by simp [hidle]), if_neg (Nat.not_lt.mpr ht)]
  simp only [hsend, hact, hres, hpend]
  split
  · next j hj => simp only [decide_eq_false (Nat.not_lt.mpr (hlast j hj))]; simp
  · simp

/-- In a grant of the device whose usable part holds the frame (R184). -/
theorem grantLaunch_fits {f : Fit} {w o : Nat} (hz : z = s.unblock p b.num) (ho : z.offered p b.num = some (cls, q))
    (hact : z.lineActive p = true) (hres : z.plc.resuming.contains p.val = false) (hc : b.num ≠ 2) (hdisc : z.beaconDisc p = true)
    (hf : (z.tracker p).fit = some f) (hw : (z.pchan p b.num).superframe = some w) (hsent : (z.pchan p b.num).beaconSent = true)
    (hport : o = z.offerPort p q) (hsend : z.isSending o b.num = false) (hpend : z.pendingFor q (z.ns + 2000) = true)
    (hgrant : ∃ g ∈ z.grants p b.num, z.toMe g.1 = true ∧ w + g.2.1 * 680000 ≤ z.ns + 2000 ∧
      z.ns + 2000 < w + (g.2.1 + g.2.2) * 680000 ∧ z.attemptStart o b.num (z.ns + 2000) + z.offerNs o b.num q ≤
        w + usableEnd g.2.1 g.2.2 (z.nextSuper p b.num f - w)) :
    grantLaunch p b s = z.startAttempt p b.num cls q (z.ns + 2000) := by
  obtain ⟨g, hg, hme, hlo, hhi, hfit⟩ := hgrant
  have hmine : g ∈ (z.grants p b.num).filter fun g => z.toMe g.1 && decide (w + g.2.1 * slotLen ≤ z.ns + 2000) &&
      decide (z.ns + 2000 < w + (g.2.1 + g.2.2) * slotLen) := by
    simp [hg, hme, hlo, hhi]
  subst hport
  simp only [grantLaunch, ← hz, hf, ho, hw]
  rw [if_neg, if_pos (List.any_eq_true.mpr ⟨g, hmine, decide_eq_true hfit⟩)]
  simp only [hc, hdisc, hact, hsent, hsend, hres, hpend, List.isEmpty_eq_false_iff.mpr (List.ne_nil_of_mem hmine)]
  simp

end

/-! ## Beacons (R183, R185) -/

/-- What an operation keeps once a transmission has begun: the map's canonical form, and what every band channel sends. -/
structure State.SendKept (s t : State) : Prop where
  sound : s.sound = true → t.sound = true
  tx : ∀ k d, (t.pchan k d).tx = (s.pchan k d).tx

section
variable {s t u : State}

theorem State.SendKept.refl : State.SendKept s s := ⟨id, fun _ _ => rfl⟩

theorem State.SendKept.trans (h : State.SendKept s t) (h' : State.SendKept t u) : State.SendKept s u :=
  ⟨fun hs => h'.sound (h.sound hs), fun k d => (h'.tx k d).trans (h.tx k d)⟩

theorem State.SendKept.setF (f : Fld) (v : Nat) : State.SendKept s (s.setF f v) := ⟨s.sound_setF f v, fun _ _ => rfl⟩

theorem State.SendKept.foldl {α : Type} {f : State → α → State} (hf : ∀ a x, State.SendKept a (f a x)) (l : List α) :
    State.SendKept s (l.foldl f s) :=
  List.foldlRecOn (motive := State.SendKept s) l f .refl fun _ h x _ => h.trans (hf _ x)

theorem State.pchan_setPchan_same (s : State) (p b : Nat) (c : PlcChan) : (s.setPchan p b c).pchan p b = c := by
  simp [State.pchan, State.setPchan]

/-- A band channel changed in other than what it sends. -/
theorem State.SendKept.setPchan {p b : Nat} {c : PlcChan} (hc : c.tx = (s.pchan p b).tx) : State.SendKept s (s.setPchan p b c) := by
  refine ⟨id, fun k d => ?_⟩
  by_cases h : 4 * k + d = 4 * p + b
  · have hsame (a : State) : a.pchan k d = a.pchan p b := by simp [State.pchan, h]
    rw [hsame, hsame, State.pchan_setPchan_same, hc]
  · simp [State.pchan, State.setPchan, aget_aset_other _ _ _ _ _ h]

theorem State.SendKept.rxTo (p b st : Nat) : State.SendKept s (s.rxTo p b st) :=
  (State.SendKept.setPchan (by rfl)).trans (.setF _ _)

theorem State.SendKept.preemptRx (p b : Nat) : State.SendKept s (s.preemptRx p b) := by
  have hset : State.SendKept s (s.setRx p b 5 none) := (State.SendKept.setPchan (by rfl)).trans (.rxTo p b 5)
  unfold State.preemptRx
  extract_lets st r done s1
  split
  · exact .refl
  · split
    · exact .rxTo p b 5
    · split
      · exact hset.trans (.setF _ _)
      · exact hset

theorem State.SendKept.suspend (h : State.SendKept s t) (x : List (Nat × Nat)) :
    State.SendKept s { t with plc := { t.plc with suspendTo := x } } := ⟨h.sound, h.tx⟩

theorem State.SendKept.preempt (p last : Nat) : State.SendKept s (s.preempt p last) := by
  refine .foldl (fun a x => ?_) _
  exact .suspend (.foldl (fun _ b => .preemptRx x b) _) _

theorem State.SendKept.txenHigh (g n : Nat) : State.SendKept s (s.txenHigh g n) := by
  unfold State.txenHigh
  dsimp only
  split
  · split <;> exact ⟨id, fun _ _ => rfl⟩
  · exact ⟨id, fun _ _ => rfl⟩

end

section
variable (s : State) (p b start : Nat) (kind : PlcTxKind) (e : LqEntry) (psdu : List Byte) (mode ft : Nat) (ackReq : Bool)

/-- A start enters the transmission in its band channel; what comes before it and after it keeps what the channels send. -/
theorem State.plcStart_sends : ∃ (a : State) (c : PlcChan) (v : PlcSending), State.SendKept s a ∧ c.tx = some v ∧ v.kind = kind ∧
    v.start = start ∧ State.SendKept (a.setPchan p b c) (s.plcStart p b start kind e psdu mode ft ackReq) := by
  unfold State.plcStart
  extract_lets dur c waves tx s0 s1 s2 s3
  have hclip : State.SendKept s s0 := by refine .foldl (fun a x => ?_) _; exact ⟨id, fun _ _ => rfl⟩
  have hout : State.SendKept s2 s3 := by refine .foldl (fun a x => ?_) _; exact ⟨id, fun _ _ => rfl⟩
  exact ⟨s0, _, tx, hclip, rfl, rfl, rfl, ((State.SendKept.txenHigh _ _).trans hout).trans (.foldl (fun _ _ => .preempt _ _) _)⟩

theorem State.plcStart_tx : ∃ v, ((s.plcStart p b start kind e psdu mode ft ackReq).pchan p b).tx = some v ∧ v.kind = kind ∧
    v.start = start := by
  obtain ⟨a, c, v, -, hv, hkind, hstart, hkept⟩ := s.plcStart_sends p b start kind e psdu mode ft ackReq
  exact ⟨v, by rw [hkept.tx, State.pchan_setPchan_same, hv], hkind, hstart⟩

theorem State.sound_plcStart (hs : s.sound = true) : (s.plcStart p b start kind e psdu mode ft ackReq).sound = true := by
  obtain ⟨a, c, v, ha, -, -, -, hkept⟩ := s.plcStart_sends p b start kind e psdu mode ft ackReq
  exact hkept.sound (ha.sound hs)

end

/-- With the start of a superframe the grants of a band channel are those of the structure again (R187). -/
def State.renewGrants (s : State) (p b : Nat) : State :=
  { s with plc := { s.plc with grants := adel s.plc.grants (4 * p + b) } }

theorem State.ownStop_renewGrants (s : State) (p b : Nat) : (s.renewGrants p b).ownStop p b = s.ownStop p b := rfl

/-- The superframe that starts at `t` with its beacon, one number on from the last (R183, R185). -/
def State.sendBeacon (s : State) (p : LinePort) (b : Band) (t : Nat) : State :=
  let bsn := (s.getF (F.PL_BSN_BSN p b.num) + 1) % 2 ^ 32
  let psdu := s.beaconPsdu p b.num bsn
  let mode := s.getF (F.PL_BANDCFG_DEFMODE p b.num)
  let a := (s.plcStart p b.num t .beacon { entry := 2048, gen := 0, words := [], inserter := .beacon p b.num, seq := 0 } psdu mode 2
    false).setF (F.PL_BSN_BSN p b.num) bsn
  (a.setPchan p b.num { a.pchan p b.num with
    superframe := some t, beaconEnd := t + symsDur (frameSyms mode psdu.length (s.nCar p b.num)), beaconSent := true }).mirror
      (.beacon p b (BitVec.ofNat 32 bsn))

/-- The next superframe of a port with a mains angle, which nothing stops. -/
theorem beaconLaunch_sends {s : State} {p : LinePort} {b : Band} {f : Fit} (hc : b.num ≠ 2) (hdisc : s.beaconDisc p = true)
    (hact : s.lineActive p = true) (hlive : s.bandLive p b.num = true) (hres : s.plc.resuming.contains p.val = false)
    (hf : (s.tracker p).fit = some f) (ht : s.nextSuper p b.num f ≤ s.ns) (hsf : (s.pchan p b.num).superframe ≠ none)
    (hstop : s.ownStop p b.num = false) :
    beaconLaunch p b s = (s.renewGrants p b.num).sendBeacon p b (s.nextSuper p b.num f) := by
  have hkept : ¬(b.num = 2 ∨ !s.beaconDisc p ∨ !s.lineActive p ∨ !s.bandLive p b.num ∨ s.plc.resuming.contains p.val) := by
    simp only [hc, hdisc, hact, hlive, hres]; simp
  have hdue : s.superDue p b.num (s.nextSuper p b.num f) = true := by
    simp [State.superDue, ht, Option.isSome_iff_ne_none.mpr hsf]
  have hgo : ¬(s.renewGrants p b.num).ownStop p b.num = true := by rw [State.ownStop_renewGrants, hstop]; simp
  refine (if_neg hkept).trans ?_
  rw [hf]
  exact (if_neg (by simp [hdue])).trans (if_neg hgo)

/-- The beacon sent is the band channel's transmission, and shows in PL_BSN. -/
theorem State.sendBeacon_effect {s : State} (hs : s.sound = true) (p : LinePort) (b : Band) (t : Nat) :
    (∃ v, ((s.sendBeacon p b t).pchan p b.num).tx = some v ∧ v.kind = .beacon ∧ v.start = t) ∧
    (s.sendBeacon p b t).getF (F.PL_BSN_BSN p b.num) = (s.getF (F.PL_BSN_BSN p b.num) + 1) % 2 ^ 32 := by
  unfold State.sendBeacon
  extract_lets bsn psdu mode a
  rw [State.mirror_frame]
  refine ⟨?_, ?_⟩
  · obtain ⟨v, hv, hsent⟩ := s.plcStart_tx p b.num t .beacon
      { entry := 2048, gen := 0, words := [], inserter := .beacon p b.num, seq := 0 } psdu mode 2 false
    exact ⟨v, (congrArg PlcChan.tx (a.pchan_setPchan_same p b.num _)).trans hv, hsent⟩
  · exact (State.getF_setF_same _ _ _ (s.sound_plcStart _ _ _ _ _ _ _ _ _ hs) (by simp) (by simp)).trans (Nat.mod_mod _ _)

end Sys2Proof.Machine

namespace Sys2Proof
open Machine

/-- Settles O55: each event's guard holds, so its row does what it is for; what a frame, a return to SEARCH and a beacon leave is read
off the state they end in. -/
theorem sampleAndPowerLineEventsComplete : Obligations.SampleAndPowerLineEventsComplete := by
  intro n ch rk lane word hw p b lv e i deep start metric end_ x h c m w u q k o round draw cls d spectra rx r psdu it t a ak f s z
  refine ⟨fun h2 hg _ _ _ _ hx he hpast hlate _ => ?frame,
    fun hx h2 ht => next_congr (rfFrameMissing_late hx h2 ht),
    fun hnext ht hidle h0 => next_congr (rfcTransaction_accepted hnext ht hidle h0 0), rfl,
    fun hx hen hact ht => ?capture, ?reception,
    fun hs ht hm => ⟨_, next_congr (plcSuspendEnd_due ht), ?resumed, State.foldl_resumeRx_frame s p _⟩,
    fun hi hf => ⟨fun hitem hdue ht => next_congr (plcItemRead_due hi hf hitem hdue ht),
      fun hr hitem hsec hstop hhost hentry => next_congr (plcFrame_host hi hf hr hitem hsec hstop hhost hentry)⟩, ?access⟩
  case frame =>
    have hframe := (rfRxFrame_of_aligned h2 hg).trans (State.rfAligned_next hx he hpast hlate)
    exact ⟨_, next_congr hframe, s.last_rfFrame n (x + 32) _ _⟩
  case capture =>
    obtain ⟨y, ws, hlen, hcap, hnext⟩ := captureItem_due hx hen hact ht lv
    exact ⟨y, ws, hlen, next_congr hcap, hnext⟩
  case resumed =>
    rw [State.rxState_foldl_resumeRx hs]
    simp [hm]
  case reception =>
    rintro rfl rfl
    refine ⟨fun hsearch hthr hlo hhi hv => next_congr (plcDetect_in_search hsearch hthr ((s.within_iff _ _).mpr ⟨hlo, hhi⟩) hv),
      fun hr => ⟨fun h2 hu hlo hhi hd => ?syncm, fun h2 hd => next_congr (plcSyncTimeout_due hr h2 hd),
        fun h3 hlo hhi hcrc hmode hmin hmax hdeep hk hk4 => ?header, fun h4 hn hlo hhi hl hz hp hlen hft v hv => ?beacon⟩⟩
    case syncm =>
      subst hu
      exact next_congr (plcSyncm_in_time hr h2 ((s.within_iff _ _).mpr ⟨hlo, hhi⟩) hd)
    case header =>
      subst hk
      exact next_congr (plcHeaderDecided_taken hr h3 ((s.within_iff _ _).mpr ⟨hlo, hhi⟩)
        (State.headerSyms_right hcrc hmode hmin hmax hdeep hk4))
    case beacon =>
      subst hz hv
      exact next_congr (plcFrameDue_beacon hr h4 hn ((s.within_iff _ _).mpr (by rw [PlcReception.lastSymbol]; omega)) hl hp hlen hft)
  case access =>
    rintro rfl
    refine ⟨fun htx hend hk hz => ?done,
      fun ha hwait => ⟨fun hlen hme hseq ht hon _ hone hbusy hother =>
        next_congr (State.plcAckIn_awaited ha (State.ackAnswers_own hwait hlen hme hseq ht hon hone) hother hbusy),
        fun ht => next_congr (plcAckExpiry_late ha hwait ht)⟩,
      fun hak hcomb ht hr hstop hz => ?ackSent,
      fun hz ho hact hres => ⟨fun hc hdraw hw hu hpend hlo hhi hquiet hbusy hcfp =>
          next_congr (contentionDecision_idle hz ho hact hres hc hdraw hw hu hpend hlo hhi hquiet hbusy hcfp),
        fun hc hsend hpend hlast hidle ht => next_congr (bandcAccess_idle (hc ▸ hz) (hc ▸ ho) hact hres hsend hpend hlast hidle ht),
        fun hc hdisc hf hw hsent hport hsend hpend hgrant =>
          next_congr (grantLaunch_fits hz ho hact hres hc hdisc hf hw hsent hport hsend hpend hgrant)⟩,
      fun hc hdisc hact hlive hres hf ht hsf hstop hs => ?superframe⟩
    case done =>
      subst hz
      exact next_congr (plcTxDone_host htx hend hk)
    case ackSent =>
      subst hz
      obtain ⟨y, hy⟩ := plcAckSend_ready hak hcomb ht hr hstop
      exact ⟨y, next_congr hy⟩
    case superframe =>
      obtain ⟨⟨v, htx, hkind, hstart⟩, hbsn⟩ := State.sendBeacon_effect (s := s.renewGrants p b.num) hs p b (s.nextSuper p b.num f)
      exact ⟨_, v, next_congr (beaconLaunch_sends hc hdisc hact hlive hres hf ht hsf hstop), htx, hkind, hstart, hbsn⟩

end Sys2Proof

/-! The power-line coding chain and reception (O34, O37): the order of the bits of bytes and of a header word, then what an event of a
reception leaves alone, what it does with a frame that fails, and what becomes of a decoded one. -/

namespace Sys2Proof.Machine
open Sys2Proof

/-! ## Bits of bytes and of a header word (R147) -/

theorem bitsOfBytes_cons (b : Nat) (bs : List Nat) :
    bitsOfBytes (b :: bs) = ((List.range 8).map fun i => b / 2 ^ i % 2) ++ bitsOfBytes bs := List.flatMap_cons

theorem length_bitsOfBytes (bs : List Nat) : (bitsOfBytes bs).length = 8 * bs.length := by
  induction bs with
  | nil => rfl
  | cons b bs ih =>
    rw [bitsOfBytes_cons, List.length_append, List.length_map, List.length_range, ih, List.length_cons]
    omega

/-- The bits of a byte come where its place times eight says, each at its own weight. -/
theorem getD_bitsOfBytes {bs : List Nat} {i j : Nat} (hi : i < bs.length) (hj : j < 8) :
    (bitsOfBytes bs).getD (8 * i + j) 0 = bs.getD i 0 / 2 ^ j % 2 := by
  induction bs generalizing i with
  | nil => exact absurd hi (Nat.not_lt_zero _)
  | cons b bs ih =>
    rw [bitsOfBytes_cons]
    cases i with
    | zero =>
      have hbyte : 8 * 0 + j < ((List.range 8).map fun i => b / 2 ^ i % 2).length := by simpa using hj
      rw [List.getD_eq_getElem?_getD, List.getElem?_append_left hbyte]
      simp [hj]
    | succ i =>
      have hplace : 8 * (i + 1) + j - 8 = 8 * i + j := by omega
      have hbyte : ((List.range 8).map fun i => b / 2 ^ i % 2).length ≤ 8 * (i + 1) + j := by
        rw [List.length_map, List.length_range]; omega
      rw [List.getD_eq_getElem?_getD, List.getElem?_append_right hbyte, List.length_map, List.length_range, hplace,
        ← List.getD_eq_getElem?_getD, ih (Nat.lt_of_succ_lt_succ hi), List.getD_cons_succ]

/-- A bit of a byte of a number is the number's own bit. -/
theorem byte_bit_eq (x k : Nat) {j : Nat} (hj : j < 8) : x / 2 ^ (8 * k) % 256 / 2 ^ j % 2 = x / 2 ^ (8 * k + j) % 2 := by
  have h256 : 256 = 2 ^ j * 2 ^ (8 - j) := by rw [← Nat.pow_add, Nat.add_sub_cancel' (Nat.le_of_lt hj)]
  have hdvd : 2 ∣ 2 ^ (8 - j) := Nat.pow_dvd_pow 2 (by omega : 1 ≤ 8 - j)
  rw [h256, Nat.mod_mul_right_div_self, Nat.mod_mod_of_dvd _ hdvd, Nat.div_div_eq_div_mul, ← Nat.pow_add]

/-- The four bytes by which a header word enters the chain (R147): the byte of bits [7:0] first. -/
def headerBytes (h : Word) : List Nat := [h.field 7 0, h.field 15 8, h.field 23 16, h.field 31 24]

theorem getD_headerBytes (h : Word) {k : Nat} (hk : k < 4) : (headerBytes h).getD k 0 = h.toNat / 2 ^ (8 * k) % 256 := by
  match k, hk with
  | 0, _ | 1, _ | 2, _ | 3, _ => simp [headerBytes, Word.field]

theorem getD_bitsOfBytes_headerBytes (h : Word) {i : Nat} (hi : i < 32) :
    (bitsOfBytes (headerBytes h)).getD i 0 = h.toNat / 2 ^ i % 2 := by
  have hk : i / 8 < 4 := by omega
  have hj : i % 8 < 8 := Nat.mod_lt _ (by decide)
  have hbit := getD_bitsOfBytes (bs := headerBytes h) hk hj
  rwa [getD_headerBytes h hk, byte_bit_eq _ _ hj, Nat.div_add_mod] at hbit

/-- The chain's input of a header word is the word's bits from bit 0 up. -/
theorem bitsOfBytes_headerBytes (h : Word) : bitsOfBytes (headerBytes h) = (List.range 32).map fun b => h.toNat / 2 ^ b % 2 := by
  have hlen : (bitsOfBytes (headerBytes h)).length = 32 := length_bitsOfBytes _
  refine List.ext_getElem hlen fun i hi _ => ?_
  have hbit := getD_bitsOfBytes_headerBytes h (hlen ▸ hi)
  rw [List.getD_eq_getElem?_getD, List.getElem?_eq_getElem hi, Option.getD_some] at hbit
  rw [hbit, List.getElem_map, List.getElem_range]

/-- The first symbols of a frame carry its header (R146, R147). -/
theorem take_plcSymbols (mode ft seed ncar : Nat) (psdu : List Byte) :
    (plcSymbols mode ft seed ncar psdu).take (headerSyms (mode == 4) ncar) = (List.range (headerSyms (mode == 4) ncar)).map
      (symbolSteps (convEncode ((List.range 32).map fun b => (plcHeader mode ft psdu.length seed).toNat / 2 ^ b % 2)) (headRep (mode == 4))
        (headerSyms (mode == 4) ncar) ncar 1) := by
  rw [← bitsOfBytes_headerBytes, plcSymbols]
  exact List.take_left' (by simp)

end Sys2Proof.Machine

namespace Sys2Proof
open Machine

/-- Settles O37: each clause is the lemma on the bits of bytes, or on the bits of a header word, that says it. -/
theorem bitsEnterTheChain : Obligations.BitsEnterTheChain := by
  intro bs i j mode ft seed ncar nh psdu h
  refine ⟨length_bitsOfBytes bs, getD_bitsOfBytes, getD_bitsOfBytes_headerBytes h, ?_⟩
  rintro rfl rfl
  exact take_plcSymbols mode ft seed ncar psdu

end Sys2Proof

namespace Sys2Proof.Machine
open Sys2Proof

/-! ## A detection, the preamble and the header that fail, or come before their time (R155, R156) -/

section
variable {s : State} {p : LinePort} {b : Band}

theorem State.within_early {end_ : Nat} (lim : Nat) (h : s.ns < end_) : s.within end_ lim = false := by
  simp [State.within, Nat.not_le.mpr h]

theorem State.plcSearching_of_not_search (h1 : s.rxState (s.rxHome p) b.num ≠ 1) : s.plcSearching p b.num = false := by
  simp [State.plcSearching, h1]

theorem plcDetect_refused {metric end_ : Nat} (h : s.rxState (s.rxHome p) b.num ≠ 1 ∨ metric < s.getF (F.PL_BANDCFG_DETTHR p b.num) ∨
    s.ns < end_ ∨ s.windowsValid p end_ = false) : plcDetect p b metric end_ s = s := by
  refine if_neg ?_
  rcases h with h1 | hmetric | ht | hv
  · simp [State.plcSearching_of_not_search h1]
  · simp [Nat.not_le.mpr hmetric]
  · simp [State.within_early _ ht]
  · simp [hv]

theorem plcSyncm_of_not_sync {deep : Bool} {start : Nat} (h2 : s.rxState (s.rxHome p) b.num ≠ 2) : plcSyncm p b deep start s = s := by
  unfold plcSyncm
  dsimp only
  split
  · exact if_neg (by simp [h2])
  · rfl

theorem plcHeaderDecided_of_not_header {w : Word} (h3 : s.rxState (s.rxHome p) b.num ≠ 3) : plcHeaderDecided p b w s = s := by
  unfold plcHeaderDecided
  dsimp only
  split
  · exact if_pos (by simp [h3])
  · rfl

/-- What makes a header wrong: its CRC, its mode, its length, or a preamble of the other form. -/
theorem State.headerSyms_wrong {h c : Nat} {r : PlcReception} {w : Word} (hw : phCrcOk w = false ∨ 5 ≤ phMode w ∨ phLen w = 0 ∨
    2048 < phLen w ∨ (phMode w = 4 ∧ r.deep = false) ∨ (phMode w < 4 ∧ r.deep = true)) : s.headerSyms h c r w = none := by
  refine if_neg ?_
  rcases hw with hcrc | hmode | hmin | hmax | ⟨hmode, hdeep⟩ | ⟨hmode, hdeep⟩
  · simp [hcrc]
  · simp [Nat.not_lt.mpr hmode]
  · simp [hmin]
  · simp [Nat.not_le.mpr hmax]
  · simp [hmode, hdeep]
  · simp [Nat.ne_of_lt hmode, hdeep]

theorem State.setRx_dt (s : State) (h c st : Nat) (x : Option PlcReception) : (s.setRx h c st x).dt = s.dt := rfl

section
variable {r : PlcReception} (hr : (s.pchan (s.rxHome p) b.num).rx = some r)
include hr

theorem plcSyncm_early {deep : Bool} {start : Nat} (ht : s.ns < start + preambleSyms deep * 680000) : plcSyncm p b deep start s = s := by
  simp [plcSyncm, hr, State.within_early _ ht]

theorem plcSyncTimeout_early (ht : s.ns < r.detected + 16 * 680000) : plcSyncTimeout p b s = s := by
  simp only [plcSyncTimeout, hr]
  exact if_neg fun ⟨_, hlate⟩ => Nat.not_le.mpr ht hlate

theorem plcHeaderDecided_early {w : Word} (ht : s.ns < r.headerEnd (s.nCar (s.rxHome p) b.num)) : plcHeaderDecided p b w s = s := by
  simp [plcHeaderDecided, hr, State.within_early _ ht]

theorem plcHeaderDecided_failed {w : Word} (h3 : s.rxState (s.rxHome p) b.num = 3)
    (ht : s.within (r.headerEnd (s.nCar (s.rxHome p) b.num)) 60000 = true) (hw : s.headerSyms (s.rxHome p) b.num r w = none) :
    plcHeaderDecided p b w s = (s.setRx (s.rxHome p) b.num 1 none).bump (F.PL_RXERR_HDRFAIL (s.rxHome p) b.num) := by
  simp [plcHeaderDecided, hr, h3, ht, hw]

/-! ## The due frame (R156, R158, R164) -/

theorem plcFrameDue_early {rx : PlcRx} (ht : s.ns < r.lastSymbol) : plcFrameDue p b rx s = s := by
  simp [plcFrameDue, hr, State.within_early _ ht]

theorem plcFrameDue_after_launches {rx : PlcRx} (hl : s.launchesDue = true) : plcFrameDue p b rx s = s := by
  simp [plcFrameDue, hr, hl]

section
variable {rx : PlcRx} {z : State} (h4 : s.rxState (s.rxHome p) b.num = 4) (hn : r.nsym ≠ 0) (ht : s.within r.lastSymbol 150000 = true)
  (hl : s.launchesDue = false) (hz : z = ((s.setRx (s.rxHome p) b.num 1 none).bump (F.PL_CORR_RSCORR (s.rxHome p) b.num) rx.rsCorr).bump
    (F.PL_CORR_ERASED (s.rxHome p) b.num) (s.erasedSyms r rx.overloads))
include h4 hn ht hl hz

theorem plcFrameDue_uncorrectable (hp : rx.psdu = none) : plcFrameDue p b rx s = z.bump (F.PL_RXERR_RSFAIL (s.rxHome p) b.num) := by
  simp [plcFrameDue, hr, h4, hn, ht, hl, hp, hz]

/-- A decoded frame is counted OK, leaves its quality, and goes on by its type. -/
theorem plcFrameDue_decoded {psdu : List Byte} {v : Int} {y : State} (hp : rx.psdu = some psdu) (hlen : psdu.length = phLen r.header)
    (hv : v = meanSnr (rx.snr.map (clampInt (-128) 127))) (hy : y = ((z.setF (F.PL_RXQUAL_LQI (s.rxHome p) b.num) (lqi v)).setF
      (F.PL_RXQUAL_MEAN_SNR (s.rxHome p) b.num) (unsignedOf 8 v)).bump (F.PL_RXCNT_OK (s.rxHome p) b.num)) :
    plcFrameDue p b rx s = y.plcDecoded (s.rxHome p) b.num r rx psdu := by
  simp [plcFrameDue, hr, h4, hn, ht, hl, hp, hlen, hz, hv, hy]

end

end

end

/-! ## A decoded frame by its type (R169, R171, R177) -/

section
variable {y : State} {h c : Nat} {r : PlcReception} {rx : PlcRx} {psdu : List Byte}

theorem State.plcDecoded_beacon (hft : phFt r.header = 2) : y.plcDecoded h c r rx psdu = y := by
  simp only [State.plcDecoded, hft]

theorem State.plcDecoded_ack (hft : phFt r.header = 1) : y.plcDecoded h c r rx psdu = y.plcAckIn r.port c psdu := by
  simp only [State.plcDecoded, hft]

theorem State.plcOweAck_of_not_asked {ft mode frameEnd : Nat} (hack : psduAckReq ft psdu = false) :
    y.plcOweAck h c psdu ft mode frameEnd = y := by
  simp [State.plcOweAck, hack]

section
variable (hft : phFt r.header = 0) (hfault : plcHeaderFault psdu 0 = false) (hack : psduAckReq 0 psdu = false)
include hft hfault hack

theorem State.plcDecoded_overheard (hme : y.plcForMe psdu = false) :
    y.plcDecoded h c r rx psdu = y.bump F.PL_RPTSTAT1_OVERHEARD := by
  simp [State.plcDecoded, hft, hfault, State.plcOweAck_of_not_asked hack, hme]

theorem State.plcDecoded_for_me (hme : y.plcForMe psdu = true) : y.plcDecoded h c r rx psdu = y.frameIn {
    medium := 0, port := h, band := c, record := y.plcRecord h c r rx, body := psdu, due := y.ns,
    end_ := r.start + symsDur r.nsym } := by
  simp [State.plcDecoded, hft, hfault, State.plcOweAck_of_not_asked hack, hme]

end

end

end Sys2Proof.Machine

namespace Sys2Proof
open Machine

/-- Settles O34: each event's lemma for its state and time, or for what stands against it; a decoded frame goes on by its type. -/
theorem powerLineReception : Obligations.PowerLineReception := by
  intro p b deep start n h c m metric e d w rx psdu r s z hh hc
  subst hh hc
  refine ⟨fun hsearch hthr hlo hhi hv => next_congr (plcDetect_in_search hsearch hthr ((s.within_iff _ _).mpr ⟨hlo, hhi⟩) hv),
    fun hno => next_congr (plcDetect_refused hno), fun hr h2 => ?sync, fun hr h3 => ?header,
    fun h2 => next_congr (plcSyncm_of_not_sync h2), fun h3 => next_congr (plcHeaderDecided_of_not_header h3),
    fun hr h4 hn => ?due, fun hs ht hm => ⟨_, next_congr (plcSuspendEnd_due ht), ?resumed, State.foldl_resumeRx_frame s p _⟩,
    fun ht => next_congr (if_pos ht)⟩
  case sync =>
    refine ⟨fun hd hlo hhi hstart => ?_, fun ht => next_congr (plcSyncm_early hr ht), fun ht => next_congr (plcSyncTimeout_due hr h2 ht),
      fun ht => next_congr (plcSyncTimeout_early hr ht)⟩
    subst hd
    exact next_congr (plcSyncm_in_time hr h2 ((s.within_iff _ _).mpr ⟨hlo, hhi⟩) hstart)
  case header =>
    refine ⟨fun ht => next_congr (plcHeaderDecided_early hr ht), fun hlo hhi => ?_⟩
    have ht := (s.within_iff _ _).mpr ⟨hlo, hhi⟩
    refine ⟨fun hcrc hmode hmin hmax hdeep hsyms hmany => ?_,
      fun hwrong => next_congr (plcHeaderDecided_failed hr h3 ht (State.headerSyms_wrong hwrong))⟩
    subst hsyms
    exact next_congr (plcHeaderDecided_taken hr h3 ht (State.headerSyms_right hcrc hmode hmin hmax hdeep hmany))
  case due =>
    have hlast : r.lastSymbol = r.start + 680000 * r.nsym := by rw [PlcReception.lastSymbol, Nat.mul_comm]
    rw [← hlast]
    refine ⟨fun ht => next_congr (plcFrameDue_early hr ht), fun hl => next_congr (plcFrameDue_after_launches hr hl),
      fun hlo hhi hl hz => ?_⟩
    have ht := (s.within_iff _ _).mpr ⟨hlo, hhi⟩
    refine ⟨fun hp => next_congr (plcFrameDue_uncorrectable hr h4 hn ht hl hz hp), fun hp hlen v y hv hy => ?_⟩
    have hdecoded := plcFrameDue_decoded hr h4 hn ht hl hz hp hlen hv hy
    have hns : y.ns = s.ns := by simp [hy, hz, State.ns, State.setRx_dt]
    exact ⟨fun hft => next_congr (hdecoded.trans (State.plcDecoded_beacon hft)),
      fun hft => next_congr (hdecoded.trans (State.plcDecoded_ack hft)),
      fun hft hfault hack hme => next_congr (hdecoded.trans (State.plcDecoded_overheard hft hfault hack hme)),
      fun hft hfault hack hme => next_congr (hdecoded.trans (hns ▸ State.plcDecoded_for_me hft hfault hack hme))⟩
  case resumed =>
    rw [State.rxState_foldl_resumeRx hs]
    simp [hm]

end Sys2Proof

/-! Access to a power-line channel (O36): what contention, band C and a grant do where no launch is theirs, then beacons and the
boundary of a mains cycle, each with what it leaves alone. -/

namespace Sys2Proof.Machine
open Sys2Proof

/-! ## Contention, band C and grants without an attempt (R172, R174, R176, R182, R184) -/

section
variable {s z : State} {p : LinePort} {b : Band} {cls q : Nat}

/-- While an attempt is unresolved a band channel offers nothing (R172). -/
theorem State.offered_of_attempt {c : Nat} (h : (s.pchan p c).attempt ≠ none) : s.offered p c = none := by
  simp [State.offered, Option.isSome_iff_ne_none.mpr h]

/-- Queues blocked by a refusal stay so while nothing may be transmitted (R174). -/
theorem State.unblock_of_silent {c : Nat} (h : s.mayTransmit = false) : s.unblock p c = s := by
  simp [State.unblock, h]

/-- Without a mains grid or a beacon slots follow the contention gap (R180). -/
theorem State.slotStart_from_gap {c i j : Nat} (hd : s.beaconDisc p = false) (hm : s.accMsync p = false) :
    s.slotStart p c i j = some (i + 1360000 + j * 680000) := by
  simp [State.slotStart, State.mainsGrid, hd, hm]

section
variable (hz : z = s.unblock p b.num) (ho : z.offered p b.num = none)
include hz ho

theorem contentionDecision_no_offer (round draw : Nat) (spectra : List Spectrum) : contentionDecision p b round draw spectra s = z := by
  simp only [contentionDecision, ← hz, ho]

theorem grantLaunch_no_offer : grantLaunch p b s = z := by
  simp only [grantLaunch, ← hz, ho]
  cases (z.tracker p).fit <;> rfl

end

theorem bandcAccess_no_offer (hz : z = s.unblock p 2) (ho : z.offered p 2 = none) (d : Fin 16) (spectra : List Spectrum) :
    bandcAccess p d spectra s = z := by
  simp only [bandcAccess, ← hz, ho]

section
variable {round draw w u : Nat} {spectra : List Spectrum} (hz : z = s.unblock p b.num)
  (ho : z.offered p b.num = some (cls, q)) (hact : z.lineActive p = true) (hres : z.plc.resuming.contains p.val = false)
  (hc : b.num ≠ 2) (hdraw : draw < z.winSlots p cls)
  (hw : z.slotStart p b.num (z.idleStart p b.num spectra) (round * z.roundSlots p + z.winStart p cls) = some w)
  (hu : z.slotStart p b.num (z.idleStart p b.num spectra) (round * z.roundSlots p + z.winStart p cls + draw) = some u)
  (hpend : z.pendingFor q w = true)
include hz ho hw hu

/-- The decision falls 2 µs before the slot drawn and at no other time (R176). -/
theorem contentionDecision_other_time (ht : z.ns + 2000 < u ∨ u + 2 ≤ z.ns + 2000) :
    contentionDecision p b round draw spectra s = z := by
  simp only [contentionDecision, ← hz, ho, hw, hu]
  exact if_pos (.inr (.inr (.inr (.inr (.inr ht)))))

include hact hres hc hdraw hpend

/-- At its time a band channel that is not idle, or that the contention-free period stops, defers (R176, R183). -/
theorem contentionDecision_defers (hlo : u ≤ z.ns + 2000) (hhi : z.ns + 2000 < u + 2)
    (hbusy : loudNow (z.accWord p (3 + b.num)).toNat spectra = true ∨ z.bandBusy p b.num = true) :
    contentionDecision p b round draw spectra s = z.bump (F.PL_ACCCNT_DEFER p b.num) := by
  have hnow : ¬(z.ns + 2000 < u ∨ u + 2 ≤ z.ns + 2000) := by omega
  simp only [contentionDecision, ← hz, ho, hw, hu]
  rw [if_neg (by simp only [hc, hact, hres, hpend, Nat.not_le.mpr hdraw, hnow]; simp), if_pos (by simp [hbusy])]

end

/-- Band C busy at its access time defers (R182). -/
theorem bandcAccess_defers {d : Fin 16} {spectra : List Spectrum} (hz : z = s.unblock p 2) (ho : z.offered p 2 = some (cls, q))
    (hact : z.lineActive p = true) (hres : z.plc.resuming.contains p.val = false) (hsend : z.isSending p 2 = false)
    (hpend : z.pendingFor q (z.ns + 2000) = true) (hlast : ∀ j, (z.pchan p 2).lastEnd = some j → j + 125000000 ≤ z.ns + 2000)
    (hbusy : (bandcSense (z.getF (F.PL_BCTHR_BUSYTHR p)) spectra).busy = true) :
    bandcAccess p d spectra s = z.bump (F.PL_ACCCNT_DEFER p 2) := by
  simp only [bandcAccess, ← hz, ho]
  rw [if_neg ?_, if_pos hbusy]
  simp only [hsend, hact, hres, hpend]
  split
  · next j hj => simp only [decide_eq_false (Nat.not_lt.mpr (hlast j hj))]; simp
  · simp

section
variable {f : Fit} {w o : Nat} {g : List (Nat × Nat × Nat)} (hz : z = s.unblock p b.num) (ho : z.offered p b.num = some (cls, q))
  (hf : (z.tracker p).fit = some f) (hw : (z.pchan p b.num).superframe = some w)
  (hg : g = (z.grants p b.num).filter fun x => z.toMe x.1 && decide (w + x.2.1 * 680000 ≤ z.ns + 2000) &&
    decide (z.ns + 2000 < w + (x.2.1 + x.2.2) * 680000))
include hz ho hf hw hg

/-- Outside the device's grants nothing is launched (R184). -/
theorem grantLaunch_outside (hnil : g = []) : grantLaunch p b s = z := by
  simp only [grantLaunch, ← hz, hf, ho, hw, ← hg]
  exact if_pos (by simp [hnil])

variable (hact : z.lineActive p = true) (hres : z.plc.resuming.contains p.val = false) (hc : b.num ≠ 2) (hdisc : z.beaconDisc p = true)
  (hsent : (z.pchan p b.num).beaconSent = true) (hport : o = z.offerPort p q) (hsend : z.isSending o b.num = false)
  (hpend : z.pendingFor q (z.ns + 2000) = true)
include hact hres hc hdisc hsent hport hsend hpend

/-- A frame that ends in the usable part of no grant in progress defers (R184). -/
theorem grantLaunch_defers (hne : g ≠ [])
    (hlong : ∀ x ∈ g, w + usableEnd x.2.1 x.2.2 (z.nextSuper p b.num f - w) <
      z.attemptStart o b.num (z.ns + 2000) + z.offerNs o b.num q) :
    grantLaunch p b s = z.bump (F.PL_ACCCNT_DEFER p b.num) := by
  have hmisfit : ¬(g.any fun x => decide (z.attemptStart o b.num (z.ns + 2000) + z.offerNs o b.num q ≤
      w + usableEnd x.2.1 x.2.2 (z.nextSuper p b.num f - w))) = true := by
    intro hany
    obtain ⟨x, hx, hends⟩ := List.any_eq_true.mp hany
    exact absurd (of_decide_eq_true hends) (Nat.not_le.mpr (hlong x hx))
  subst hport
  simp only [grantLaunch, ← hz, hf, ho, hw, ← hg]
  rw [if_neg, if_neg hmisfit]
  simp only [hc, hdisc, hact, hsent, hsend, hres, hpend, List.isEmpty_eq_false_iff.mpr hne]
  simp

/-- A frame that ends in the usable part of one of the grants in progress starts an attempt (R184). -/
theorem grantLaunch_starts (hfit : ∃ x ∈ g, z.attemptStart o b.num (z.ns + 2000) + z.offerNs o b.num q ≤
      w + usableEnd x.2.1 x.2.2 (z.nextSuper p b.num f - w)) :
    grantLaunch p b s = z.startAttempt p b.num cls q (z.ns + 2000) := by
  obtain ⟨x, hx, hends⟩ := hfit
  simp only [hg, List.mem_filter, Bool.and_eq_true, decide_eq_true_eq] at hx
  obtain ⟨hmem, ⟨hme, hlo⟩, hhi⟩ := hx
  exact grantLaunch_fits hz ho hact hres hc hdisc hf hw hsent hport hsend hpend ⟨x, hmem, hme, hlo, hhi, hends⟩

end

end

/-! ## What a transmission's start and a beacon leave alone (R155, R163, R185) -/

/-- Nothing changes but the structure map, the state of the band channels and what leaves the device. -/
def State.SendFrame (s t : State) : Prop := t = { s with map := t.map, plc := t.plc, out := t.out }

section
variable {s t u : State}

theorem State.SendFrame.refl : State.SendFrame s s := rfl

theorem State.SendFrame.trans (h : State.SendFrame s t) (h' : State.SendFrame t u) : State.SendFrame s u := by
  unfold State.SendFrame at *
  rw [h', h]

theorem State.SendFrame.foldl {α : Type} {f : State → α → State} (hf : ∀ a x, State.SendFrame a (f a x)) (l : List α) :
    State.SendFrame s (l.foldl f s) :=
  List.foldlRecOn (motive := State.SendFrame s) l f .refl fun _ h x _ => h.trans (hf _ x)

theorem State.SendFrame.setF (f : Fld) (v : Nat) : State.SendFrame s (s.setF f v) := rfl

theorem State.SendFrame.setPchan (p b : Nat) (c : PlcChan) : State.SendFrame s (s.setPchan p b c) := rfl

theorem State.SendFrame.rxTo (p b st : Nat) : State.SendFrame s (s.rxTo p b st) := rfl

theorem State.SendFrame.preemptRx (p b : Nat) : State.SendFrame s (s.preemptRx p b) := by
  have hset : State.SendFrame s (s.setRx p b 5 none) := (State.SendFrame.setPchan _ _ _).trans (.rxTo p b 5)
  unfold State.preemptRx
  extract_lets st r done s1
  split
  · exact .refl
  · split
    · exact .rxTo p b 5
    · split
      · exact hset.trans (.setF _ _)
      · exact hset

theorem State.SendFrame.preempt (p last : Nat) : State.SendFrame s (s.preempt p last) := by
  refine .foldl (fun a x => ?_) _
  exact (State.SendFrame.foldl (fun _ b => .preemptRx x b) (List.range 4)).trans rfl

theorem State.SendFrame.txenHigh (g n : Nat) : State.SendFrame s (s.txenHigh g n) := by
  unfold State.txenHigh
  dsimp only
  split
  · split <;> rfl
  · rfl

end

section
variable (s : State) (p b start : Nat) (kind : PlcTxKind) (e : LqEntry) (psdu : List Byte) (mode ft : Nat) (ackReq : Bool)

theorem State.plcStart_frame : State.SendFrame s (s.plcStart p b start kind e psdu mode ft ackReq) := by
  unfold State.plcStart
  extract_lets dur c waves tx s0 s1 s2 s3
  have hclip : State.SendFrame s s0 := by refine .foldl (fun a x => ?_) _; rfl
  have hhigh : State.SendFrame s1 s2 := .txenHigh _ _
  have hout : State.SendFrame s2 s3 := by refine .foldl (fun a x => ?_) _; rfl
  exact (hclip.trans (.setPchan _ _ _)).trans ((hhigh.trans hout).trans (.foldl (fun _ _ => .preempt _ _) _))

/-- The frame in its band channel once it has started. -/
theorem State.plcStart_sending : ∃ v, ((s.plcStart p b start kind e psdu mode ft ackReq).pchan p b).tx = some v ∧
    v.start = start ∧ v.kind = kind ∧ v.ackReq = ackReq ∧ v.mode = mode := by
  unfold State.plcStart
  extract_lets dur c waves tx s0 s1 s2 s3
  have hout : State.SendKept s2 s3 := by refine .foldl (fun a x => ?_) _; exact ⟨id, fun _ _ => rfl⟩
  have hhigh : State.SendKept s1 s2 := .txenHigh _ _
  have hentered : (s1.pchan p b).tx = some tx := congrArg PlcChan.tx (s0.pchan_setPchan_same p b _)
  refine ⟨tx, ?_, rfl, rfl, rfl, rfl⟩
  rw [((hhigh.trans hout).trans (.foldl (fun _ _ => .preempt _ _) _)).tx, hentered]

end

section
variable {s : State} {p : LinePort} {b : Band}

theorem beaconLaunch_other_discipline (hd : s.beaconDisc p = false) : beaconLaunch p b s = s :=
  if_pos (.inr (.inl (by simp [hd])))

section
variable (hc : b.num ≠ 2) (hdisc : s.beaconDisc p = true) (hact : s.lineActive p = true) (hlive : s.bandLive p b.num = true)
  (hres : s.plc.resuming.contains p.val = false)
include hc hdisc hact hlive hres

theorem beaconLaunch_coordinating :
    ¬(b.num = 2 ∨ !s.beaconDisc p ∨ !s.lineActive p ∨ !s.bandLive p b.num ∨ s.plc.resuming.contains p.val) := by
  simp only [hc, hdisc, hact, hlive, hres]; simp

/-- A coordinator without a mains angle falls back (R186). -/
theorem beaconLaunch_without_mains (hf : (s.tracker p).fit = none) :
    beaconLaunch p b s = (s.bump (F.PL_TXCNT_REFUSED p b.num)).fallback p :=
  (if_neg (beaconLaunch_coordinating hc hdisc hact hlive hres)).trans (by rw [hf])

/-- The superframe in progress lasts until the next one's start (R183). -/
theorem beaconLaunch_early {f : Fit} (hf : (s.tracker p).fit = some f) (ht : s.ns < s.nextSuper p b.num f) : beaconLaunch p b s = s := by
  refine (if_neg (beaconLaunch_coordinating hc hdisc hact hlive hres)).trans ?_
  rw [hf]
  exact if_pos (by simp [State.superDue, ht])

end

/-- A superframe that starts with its beacon: the frame under way, the superframe's record, and nothing outside the map, the band
channels, the outputs and the twin's record (R183, R185). -/
theorem State.sendBeacon_starts (s : State) (p : LinePort) (b : Band) (t : Nat) :
    (∃ v, ((s.sendBeacon p b t).pchan p b.num).tx = some v ∧ v.start = t ∧ v.kind = .beacon ∧ v.ackReq = false ∧
      v.mode = s.getF (F.PL_BANDCFG_DEFMODE p b.num)) ∧
    ((s.sendBeacon p b t).pchan p b.num).superframe = some t ∧ ((s.sendBeacon p b t).pchan p b.num).beaconSent = true ∧
    s.sendBeacon p b t = { s with
      map := (s.sendBeacon p b t).map, plc := (s.sendBeacon p b t).plc, out := (s.sendBeacon p b t).out,
      bench := (s.sendBeacon p b t).bench } := by
  unfold State.sendBeacon
  extract_lets bsn psdu mode a
  rw [State.mirror_frame]
  have hchan := a.pchan_setPchan_same p b.num { a.pchan p b.num with
    superframe := some t, beaconEnd := t + symsDur (frameSyms mode psdu.length (s.nCar p b.num)), beaconSent := true }
  have hframe : State.SendFrame s a := (s.plcStart_frame ..).trans (.setF _ _)
  obtain ⟨v, hv, hsent⟩ := s.plcStart_sending p b.num t .beacon
    { entry := 2048, gen := 0, words := [], inserter := .beacon p b.num, seq := 0 } psdu mode 2 false
  refine ⟨⟨v, (congrArg PlcChan.tx hchan).trans hv, hsent⟩, congrArg PlcChan.superframe hchan, congrArg PlcChan.beaconSent hchan, ?_⟩
  unfold State.SendFrame at hframe
  rw [hframe]
  rfl

end

/-! ## The boundary of a mains cycle (R93, R186, R187) -/

theorem afind_adel_same {α : Type} (l : List (Nat × α)) (i : Nat) : afind (adel l i) i = none := by
  simp [afind, adel]

section
variable (s : State) (p : Nat)

/-- Changes of band channels one after another touch only their own table. -/
theorem State.foldl_setPchan_frame (g : State → Nat → PlcChan) (l : List Nat) : l.foldl (fun a b => a.setPchan p b (g a b)) s =
    { s with plc := { s.plc with chans := (l.foldl (fun a b => a.setPchan p b (g a b)) s).plc.chans } } :=
  List.foldlRecOn (motive := fun a : State => a = { s with plc := { s.plc with chans := a.plc.chans } }) l _ rfl fun a h b _ => by
    rw [h]; rfl

/-- Amended settings are in force, and only the band channels' state has changed (R187). -/
theorem State.accessTakes_effect : s.accessTakes p = { s with plc := (s.accessTakes p).plc } ∧
    afind (s.accessTakes p).plc.access p = none := by
  unfold State.accessTakes
  split
  · next h => exact ⟨rfl, h⟩
  · rw [State.foldl_setPchan_frame]
    exact ⟨rfl, afind_adel_same _ _⟩

/-- On a LOCKED tracker FALLBACK reads zero; of the map only its word has changed (R186). -/
theorem State.fallbackEnds_effect (hs : s.sound = true) (h2 : (s.tracker p).state = 2) :
    s.fallbackEnds p = { s with map := (s.fallbackEnds p).map, plc := (s.fallbackEnds p).plc } ∧
    (s.fallbackEnds p).plc.access = s.plc.access ∧ (s.fallbackEnds p).getF (F.PL_ACCSTAT_FALLBACK p) = 0 ∧
    s.wordsKept (s.fallbackEnds p) [F.PL_ACCSTAT p] := by
  have hcleared := State.getF_setF_same s (F.PL_ACCSTAT_FALLBACK p) 0 hs (by simp) (by simp)
  unfold State.fallbackEnds
  split
  · rw [State.foldl_setPchan_frame]
    exact ⟨rfl, rfl, hcleared, s.wordsKept_setF 0 (List.mem_singleton.mpr rfl)⟩
  · next h => exact ⟨rfl, rfl, by simpa [State.flag, h2] using h, fun _ _ => rfl⟩

end

section
variable {s : State} {p : LinePort}

theorem mainsCycleBoundary_within_cycle (h : ∀ f, (s.tracker p).fit = some f → f.cycle s.now16 ≤ (s.tracker p).boundary) :
    mainsCycleBoundary p s = s := by
  refine if_pos ?_
  cases hf : (s.tracker p).fit with
  | none => exact Int.le_refl _
  | some f => exact h f hf

/-- The angle has wrapped to zero: settings take effect, fallback ends, the access controller resumes. -/
def State.newCycle (s : State) (p : Nat) (n : Int) : State :=
  let a := ((s.setTracker p { s.tracker p with boundary := n }).accessTakes p).fallbackEnds p
  { a with plc := { a.plc with resuming := a.plc.resuming.filter (· != p) } }

theorem mainsCycleBoundary_wraps {f : Fit} (hf : (s.tracker p).fit = some f) (h : (s.tracker p).boundary < f.cycle s.now16) :
    mainsCycleBoundary p s = s.newCycle p (f.cycle s.now16) := by
  simp only [mainsCycleBoundary, hf]
  exact if_neg (Int.not_le.mpr h)

theorem State.newCycle_effect (hs : s.sound = true) (h2 : (s.tracker p).state = 2) (n : Int) :
    (s.newCycle p n).getF (F.PL_ACCSTAT_FALLBACK p) = 0 ∧ afind (s.newCycle p n).plc.access p = none ∧
    (s.newCycle p n).plc.resuming.contains p.val = false ∧
    s.newCycle p n = { s with map := (s.newCycle p n).map, plc := (s.newCycle p n).plc, mains := (s.newCycle p n).mains } ∧
    s.wordsKept (s.newCycle p n) [F.PL_ACCSTAT p] := by
  unfold State.newCycle
  obtain ⟨htakes, haccess⟩ := (s.setTracker p { s.tracker p with boundary := n }).accessTakes_effect p
  generalize (s.setTracker p { s.tracker p with boundary := n }).accessTakes p = y at htakes haccess ⊢
  have hsound : y.sound = true := by rw [htakes]; exact hs
  have hlocked : (y.tracker p).state = 2 := by
    rw [htakes]
    simpa [State.tracker, State.setTracker] using h2
  obtain ⟨hframe, hsame, hflag, hkept⟩ := y.fallbackEnds_effect p hsound hlocked
  generalize y.fallbackEnds p = x at hframe hsame hflag hkept ⊢
  refine ⟨hflag, hsame ▸ haccess, by simp, ?_, ?_⟩
  · rw [hframe, htakes]; rfl
  · rw [htakes] at hkept; exact hkept

end

end Sys2Proof.Machine

namespace Sys2Proof
open Machine

/-- Settles O36: each event's lemma for the channel's state and time, or for what stands against an attempt, a beacon or a boundary. -/
theorem powerLineAccess : Obligations.PowerLineAccess := by
  intro p b round draw d spectra c k q w u o f g s z hc
  subst hc
  refine ⟨fun hz ho => ⟨next_congr (contentionDecision_no_offer hz ho _ _ _),
      fun h2 => next_congr (bandcAccess_no_offer (h2 ▸ hz) (h2 ▸ ho) _ _), next_congr (grantLaunch_no_offer hz ho)⟩,
    fun hz ho hc hact hres hdraw hw hu hpend => ⟨fun hlo hhi => ⟨fun hbusy => ?defers, fun hquiet hbusy hcfp => ?starts⟩,
      fun ht => next_congr (contentionDecision_other_time hz ho hw hu ht)⟩,
    fun hd hm => State.slotStart_from_gap hd hm,
    fun hz ho hact hres hsend hpend hlast =>
      ⟨fun hbusy => next_congr (bandcAccess_defers hz ho hact hres hsend hpend hlast hbusy),
        fun hidle ht => next_congr (bandcAccess_idle hz ho hact hres hsend hpend hlast hidle ht)⟩,
    State.offered_of_attempt, State.unblock_of_silent, fun hc hdisc hact hlive hres => ⟨fun hf => ?fallback, fun hf => ?beacon⟩,
    fun hd => next_congr (beaconLaunch_other_discipline hd),
    fun hz ho hf hc hdisc hact hw hsent hport hsend hres hpend hg => ⟨fun hfit => ?granted, fun hne hlong => ?long,
      fun hnil => next_congr (grantLaunch_outside hz ho hf hw hg hnil)⟩,
    fun h => next_congr (mainsCycleBoundary_within_cycle h),
    fun hf h h2 hs => ⟨_, next_congr (mainsCycleBoundary_wraps hf h), State.newCycle_effect hs h2 _⟩⟩
  case defers => exact next_congr (contentionDecision_defers hz ho hact hres hc hdraw hw hu hpend hlo hhi hbusy)
  case starts => exact next_congr (contentionDecision_idle hz ho hact hres hc hdraw hw hu hpend hlo hhi hquiet hbusy hcfp)
  case fallback => exact next_congr (beaconLaunch_without_mains hc hdisc hact hlive hres hf)
  case beacon =>
    refine ⟨fun ht => next_congr (beaconLaunch_early hc hdisc hact hlive hres hf ht), fun ht hsf hstop hs => ?_⟩
    obtain ⟨⟨v, htx, hstart, hkind, hack, hmode⟩, hsuper, hsent, hframe⟩ :=
      (s.renewGrants p b.num).sendBeacon_starts p b (s.nextSuper p b.num f)
    have hbsn := (State.sendBeacon_effect (s := s.renewGrants p b.num) hs p b (s.nextSuper p b.num f)).2
    exact ⟨_, v, next_congr (beaconLaunch_sends hc hdisc hact hlive hres hf ht hsf hstop), hbsn, htx, hstart, hkind, hack, hmode, hsuper,
      hsent, hframe⟩
  case granted => exact next_congr (grantLaunch_starts hz ho hf hw hg hact hres hc hdisc hsent hport hsend hpend hfit)
  case long => exact next_congr (grantLaunch_defers hz ho hf hw hg hact hres hc hdisc hsent hport hsend hpend hne hlong)

end Sys2Proof

/-! Chirp reception (O38): a detection, the allocator's answer, and the milestones of a held frame to its due frame, each with
its time and what ends the frame there. -/

namespace Sys2Proof.Machine
open Sys2Proof

/-! ## Detection (R204, R209) -/

section
variable {n : RfPort} {ch : Fin 32} {sf : Fin 8} {bin start ratio : Nat} {power : Int} {x : Detection} {s : State}

theorem State.windowsMatch_of_low (h : ratio < 12 + s.getF (F.CH_DETCFG_DETTHR x.port)) : s.windowsMatch x ratio = false := by
  simp [State.windowsMatch, Nat.not_le.mpr h]

theorem chirpDetect_not_searching (h : s.searching n ch sf = false) : chirpDetect n ch sf bin start ratio power s = s :=
  if_pos (.inl (by simp [h]))

section
variable (hx : x = { port := n, chan := ch, sf := sf, bin := bin, start := start, power := power, tick := s.tick })
include hx

theorem chirpDetect_unmatched (h : s.windowsMatch x ratio = false) : chirpDetect n ch sf bin start ratio power s = s := by
  subst hx
  exact if_pos (.inr (.inl (by simp [h])))

variable (hs : s.searching n ch sf = true) (hw : s.windowsMatch x ratio = true)
include hs hw

/-- A detection that is no frame already held is counted (R209). -/
theorem chirpDetect_new (hnew : ∀ y ∈ s.heldOn n ch sf, s.sameFrame y bin start = false) :
    chirpDetect n ch sf bin start ratio power s =
      if 3 ≤ (s.heldOn n ch sf).length ∨ (s.heldOn n ch sf).any (s.tooClose · start) then
        (s.bump (F.CH_DETCNT_DETECT n)).bump (F.CH_STACK_STACKMISS n)
      else { s.bump (F.CH_DETCNT_DETECT n) with chirp := { s.chirp with waiting := s.chirp.waiting ++ [x] } } := by
  subst hx
  have hany : (s.heldOn n ch sf).any (s.sameFrame · bin start) = false := List.any_eq_false.mpr fun y hy => by simp [hnew y hy]
  exact if_neg (by simp only [hs, hw, hany]; simp)

theorem chirpDetect_waits (h0 : s.heldOn n ch sf = []) : chirpDetect n ch sf bin start ratio power s =
    { s.bump (F.CH_DETCNT_DETECT n) with chirp := { s.chirp with waiting := s.chirp.waiting ++ [x] } } := by
  rw [chirpDetect_new hx hs hw (by simp [h0])]
  exact if_neg (by simp [h0])

end

end

/-! ## The allocator (R205, R209) -/

theorem State.setDemods_frame (s : State) (l : List Demod) :
    s.setDemods l = { s with map := (s.setDemods l).map, chirp := { s.chirp with demods := l } } := rfl

/-- A grant of the device's own demodulator `u`: one more held frame, and nothing else but the map. -/
theorem State.grantLocal_effect (s : State) (x : Detection) (u : Nat) :
    (∃ q ∈ (s.grantLocal x u).chirp.demods, q.slot = u ∧ q.det = x ∧ q.stage = .preamble ∧ q.lender = none ∧ q.lent = none) ∧
    (s.grantLocal x u).chirp.demods.length = s.chirp.demods.length + 1 ∧
    s.grantLocal x u = { s with
      map := (s.grantLocal x u).map, chirp := { s.chirp with demods := (s.grantLocal x u).chirp.demods } } := by
  unfold State.grantLocal
  extract_lets held d l s1
  have hframe : s1 = { s with map := s1.map, chirp := { s.chirp with demods := l ++ [d] } } := rfl
  have hgranted : ∃ q ∈ l ++ [d], q.slot = u ∧ q.det = x ∧ q.stage = .preamble ∧ q.lender = none ∧ q.lent = none :=
    ⟨d, by simp, rfl, rfl, rfl, rfl, rfl⟩
  have hlength : (l ++ [d]).length = s.chirp.demods.length + 1 := by simp [l]
  split
  · exact ⟨hgranted, hlength, hframe⟩
  · exact ⟨hgranted, hlength, rfl⟩

section
variable {x : Detection} {s : State}

theorem State.allocate_without_free (h0 : s.poolFree = 0) (hb : s.getF F.BN_CFG_BORROW = 0) :
    s.allocate x = s.bump F.CH_POOLMISS_EMPTY := by
  simp [State.allocate, h0, State.flag, hb]

section
variable {k : Nat} {l : List Nat} (hfree : 0 < s.poolFree) (hunits : s.freeUnits = k :: l)
include hfree hunits

theorem State.allocate_within_reserve (hu : s.getF (F.CH_PORTCFG_GCLASS x.port) = 0) (hr : s.poolFree ≤ s.getF F.CH_POOLCFG_RESERVE) :
    s.allocate x = s.bump F.CH_POOLMISS_RESERVED := by
  simp [State.allocate, Nat.ne_of_gt hfree, hunits, hu, hr]

theorem State.allocate_grants (h : s.getF (F.CH_PORTCFG_GCLASS x.port) = 1 ∨ s.getF F.CH_POOLCFG_RESERVE < s.poolFree) :
    s.allocate x = s.grantLocal x k := by
  have hgive : ¬(s.getF (F.CH_PORTCFG_GCLASS x.port) == 0 && decide (s.poolFree ≤ s.getF F.CH_POOLCFG_RESERVE)) = true := by
    rcases h with hs | hr
    · simp [hs]
    · simp [hr]
  simp only [State.allocate, Nat.ne_of_gt hfree, hunits]
  exact if_neg hgive

end

theorem demodGrant_idle {n : RfPort} {ch : Fin 32} {sf : Fin 8} (h : nextDetection s.chirp.waiting = none) : demodGrant n ch sf s = s := by
  simp [demodGrant, h]

theorem demodGrant_serves {n : RfPort} {ch : Fin 32} {sf : Fin 8} {z : State} (h : nextDetection s.chirp.waiting = some x)
    (hn : x.port = n.val) (hc : x.chan = ch.val) (hsf : x.sf = sf.val)
    (hz : z = { s with chirp := { s.chirp with waiting := s.chirp.waiting.erase x } }) : demodGrant n ch sf s = z.allocate x := by
  simp only [demodGrant, h, hz]
  exact if_pos ⟨hn, hc, hsf⟩

end

/-! ## Held frames (R198, R206) -/

theorem State.chirpTime_early {s : State} {d : Detection} {lent : Bool} {m end_ lim : Nat} (h : s.ns < end_) :
    s.chirpTime d lent m end_ lim = false := by
  simp [State.chirpTime, Nat.not_le.mpr h]

section
variable {u : DemodRef} {s : State}

section
variable (h : s.demodAt u = none)
include h

theorem syncDecided_unheld (v0 v1 : Nat) (delim : Bool) (t : Nat) : syncDecided u v0 v1 delim t s = s := by
  simp only [syncDecided, h]

theorem firstBlockDecided_unheld (values : List Nat) : firstBlockDecided u values s = s := by
  simp only [firstBlockDecided, h]

theorem chirpLost_unheld (w : ChirpLoss) : chirpLost u w s = s := by
  simp only [chirpLost, h]

theorem chirpFrameDue_unheld (rx : ChirpRx) : chirpFrameDue u rx s = s := by
  simp only [chirpFrameDue, h]

end

section
variable {d : Demod} (h : s.demodAt u = some d)
include h

section
variable {v0 v1 t : Nat} {delim : Bool}

theorem syncDecided_after_preamble (hst : d.stage ≠ .preamble) : syncDecided u v0 v1 delim t s = s := by
  simp [syncDecided, h, hst]

/-- At its time the sync word and the delimiter together decide (R197, R206). -/
theorem syncDecided_decides (hst : d.stage = .preamble)
    (ht : s.chirpTime d.det d.lent.isSome (s.demodBw d) (t + 2 * tSym d.det.sf (s.demodBw d)) 10000 = true) :
    syncDecided u v0 v1 delim t s =
      if nearBin d.det.sf v0 (syncSymbols d.det.sf (s.getF (F.CH_PORTCFG_SYNC d.det.port))).1 &&
          nearBin d.det.sf v1 (syncSymbols d.det.sf (s.getF (F.CH_PORTCFG_SYNC d.det.port))).2 && delim
      then s.changeDemod d { d with stage := .first, syncT := t } else s.endLent d .syncMiss := by
  simp only [syncDecided, h]
  exact if_neg (by simp [hst, ht])

end

/-! A frame that ends LOST, or INVALID at a symbol after its preamble. -/

theorem chirpLost_in_preamble (hst : d.stage = .preamble) : chirpLost u .lost s = s.endLent d .lost := by
  simp [chirpLost, h, hst]

theorem chirpLost_after_preamble (hst : d.stage ≠ .preamble) : chirpLost u .lost s = s := by
  simp [chirpLost, h, hst]

/-- The first symbol that may end a held frame INVALID (R206). -/
def State.invalidFrom (s : State) (d : Demod) : Nat :=
  if d.stage = .preamble then d.det.start + 4 * tSym d.det.sf (s.demodBw d) else d.syncT

theorem chirpLost_invalid {t : Nat} (hlo : s.invalidFrom d ≤ t) (hhi : t + tSym d.det.sf (s.demodBw d) ≤ s.ns)
    (hbad : s.symbolInvalid d t = true) : chirpLost u (.invalid t) s = s.endLent d .invalid := by
  simp only [chirpLost, h]
  exact if_pos ⟨hlo, hhi, hbad⟩

theorem chirpLost_early_symbol {t : Nat} (hlo : t < s.invalidFrom d) : chirpLost u (.invalid t) s = s := by
  simp only [chirpLost, h]
  exact if_neg fun hdue => Nat.not_le.mpr hlo hdue.1

theorem chirpLost_good_symbol {t : Nat} (hgood : s.symbolInvalid d t = false) : chirpLost u (.invalid t) s = s := by
  simp [chirpLost, h, hgood]

/-! The first block. -/

section
variable {values : List Nat} (hst : d.stage = .first) (hlen : values.length = 8)
  (ht : s.chirpTime d.det d.lent.isSome (s.demodBw d) (s.payStart d 8) 20000 = true)
include hst hlen ht

theorem firstBlockDecided_right {x : Demod} (hx : s.firstBlock d values = some x) : firstBlockDecided u values s = s.changeDemod d x := by
  simp [firstBlockDecided, h, hst, hlen, ht, hx]

theorem firstBlockDecided_wrong (hx : s.firstBlock d values = none) : firstBlockDecided u values s = s.endLent d .hdrFail := by
  simp [firstBlockDecided, h, hst, hlen, ht, hx]

end

/-! The due frame (R199, R206). -/

theorem chirpFrameDue_early {rx : ChirpRx} (ht : s.ns < s.demodEnd d ∨ s.launchesDue = true) : chirpFrameDue u rx s = s := by
  simp only [chirpFrameDue, h]
  refine if_pos (.inr (.inr ?_))
  rcases ht with hearly | hlaunch
  · exact .inl (by simp [State.chirpTime_early hearly])
  · exact .inr hlaunch

section
variable {rx : ChirpRx} (hst : d.stage = .payload)
  (hlen : rx.values.length = chirpFurther d.det.sf (s.demodBw d) (!d.implicit) d.crcOn d.len * (4 + d.cr))
  (ht : s.chirpTime d.det d.lent.isSome (s.demodBw d) (s.demodEnd d) 40000 = true) (hl : s.launchesDue = false)
include hst hlen ht hl

theorem chirpFrameDue_wrong_crc (hon : d.crcOn = true)
    (hcrc : chirpCrc (s.demodBytes d rx.values).1 ≠ (s.demodBytes d rx.values).2.1) : chirpFrameDue u rx s = s.endLent d .crcFail := by
  simp only [chirpFrameDue, h]
  rw [if_neg (by simp [hst, hlen, ht, hl])]
  exact if_pos (by simp [hon, hcrc])

theorem chirpFrameDue_right (hown : d.lent = none)
    (hcrc : d.crcOn = false ∨ chirpCrc (s.demodBytes d rx.values).1 = (s.demodBytes d rx.values).2.1) : chirpFrameDue u rx s =
      ((s.freeDemod d).bump (F.CH_RXCNT_OK d.det.port)).radioIn
        (s.chirpFrame d (s.chirpRecord d (s.demodBytes d rx.values).2.2 rx) (s.demodBytes d rx.values).1) := by
  have hok : ¬(d.crcOn && chirpCrc (s.demodBytes d rx.values).1 != (s.demodBytes d rx.values).2.1) = true := by
    rcases hcrc with hoff | heq
    · simp [hoff]
    · simp [heq]
  simp only [chirpFrameDue, h]
  rw [if_neg (by simp [hst, hlen, ht, hl]), if_neg hok, hown]

end

end

end

section
variable {s : State} {d : Demod} {values ns : List Nat} {hd : Nat} (hns : ns = (blockNibbles d.det.sf 4 (firstRows d.det.sf) values).1)
include hns

theorem State.firstBlock_implicit (hi : s.implicitSf d = true) : s.firstBlock d values = some { d with
    stage := .payload, implicit := true, len := s.getF (F.CH_IMPL_LEN d.det.port), cr := s.getF (F.CH_IMPL_CR d.det.port),
    crcOn := s.flag (F.CH_IMPL_CRC_ON d.det.port), nibbles := ns,
    corrected := (blockNibbles d.det.sf 4 (firstRows d.det.sf) values).2 } := by
  simp only [State.firstBlock, hi, hns]
  rfl

section
variable (hh : hd = headerOf ns) (hi : s.implicitSf d = false)
include hh hi

theorem State.firstBlock_right_header (hok : chirpHeaderOk hd = true) : s.firstBlock d values = some { d with
    stage := .payload, len := hd / 16 % 256, cr := hd % 4 + 1, crcOn := hd / 4 % 2 == 1, nibbles := ns.drop 5,
    corrected := (blockNibbles d.det.sf 4 (firstRows d.det.sf) values).2 } := by
  subst hh hns
  simp [State.firstBlock, hi, hok]

theorem State.firstBlock_wrong_header (hbad : chirpHeaderOk hd = false) : s.firstBlock d values = none := by
  subst hh hns
  simp [State.firstBlock, hi, hbad]

end

end

/-! ## Suspension (R208) -/

section
variable {n : RfPort} {s : State}

theorem chirpSuspendEnd_over (hidle : afind s.chirp.sending n = none) (ht : aget 0 s.chirp.suspendTo n ≤ s.ns) :
    chirpSuspendEnd n s = s.setF (F.CH_PAIRSTAT_SUSPENDED n) 0 :=
  if_pos ⟨by simp [hidle], ht⟩

theorem chirpSuspendEnd_early (ht : s.ns < aget 0 s.chirp.suspendTo n) : chirpSuspendEnd n s = s :=
  if_neg fun hover => Nat.not_le.mpr ht hover.2

end

end Sys2Proof.Machine

namespace Sys2Proof
open Machine

/-- Settles O38: each event's lemma for the detector, the allocator's pool, or the held frame's stage and time. -/
theorem chirpReception : Obligations.ChirpReception := by
  intro n ch sf bin start ratio v0 v1 t t0 h values ns power u rx w d x delim s
  refine ⟨fun hs => next_congr (chirpDetect_not_searching hs),
    fun hx => ⟨fun hlow => ?low, fun hw => next_congr (chirpDetect_unmatched hx hw), fun hs hw hnew =>
      ⟨fun h3 => ?full, fun h0 => ⟨_, next_congr (chirpDetect_waits hx hs hw h0), rfl, rfl⟩⟩⟩,
    fun z hnext hn hc hsf hz => ?allocator, fun hnone => next_congr (demodGrant_idle hnone), fun hd ht0 => ?held,
    fun hnone => ⟨next_congr (syncDecided_unheld hnone _ _ _ _), next_congr (firstBlockDecided_unheld hnone _),
      next_congr (chirpLost_unheld hnone _), next_congr (chirpFrameDue_unheld hnone _)⟩,
    fun hidle ht => next_congr (chirpSuspendEnd_over hidle ht), fun ht => next_congr (chirpSuspendEnd_early ht)⟩
  case low => exact State.windowsMatch_of_low (hx ▸ hlow)
  case full => exact next_congr ((chirpDetect_new hx hs hw hnew).trans (if_pos (.inl h3)))
  case allocator =>
    have hserves := demodGrant_serves hnext hn hc hsf hz
    have hget (f : Fld) : z.getF f = s.getF f := by rw [hz]; rfl
    refine ⟨fun h0 hb => next_congr (hserves.trans (State.allocate_without_free h0 ((hget _).trans hb))),
      fun k l hfree hunits => ⟨fun hu hr => ?reserved, fun hgive => ?grants⟩⟩
    case reserved =>
      refine next_congr (hserves.trans (State.allocate_within_reserve hfree hunits ?_ ((hget F.CH_POOLCFG_RESERVE).symm ▸ hr)))
      rw [hn, hget, hu]
    case grants =>
      rw [← hn, ← hget, ← hget] at hgive
      obtain ⟨hgranted, hlength, hframe⟩ := z.grantLocal_effect x k
      exact ⟨_, next_congr (hserves.trans (State.allocate_grants hfree hunits hgive)), hgranted, by rw [hlength, hz], hframe⟩
  case held =>
    subst ht0
    refine ⟨fun hst ht => ⟨fun h0 h1 => ?sync, fun hbad => ?miss⟩, fun hst => ?preamble, fun hst hlen ht hns hh =>
        ⟨fun hi hok => next_congr (firstBlockDecided_right hd hst hlen ht (State.firstBlock_right_header hns hh hi hok)),
          fun hi hbad => next_congr (firstBlockDecided_wrong hd hst hlen ht (State.firstBlock_wrong_header hns hh hi hbad)),
          fun hi => next_congr (firstBlockDecided_right hd hst hlen ht (State.firstBlock_implicit hns hi))⟩,
      fun hst => ?later,
      fun hgood => next_congr (chirpLost_good_symbol hd hgood),
      fun hst hlen ht hl hown => ⟨fun hon hcrc => next_congr (chirpFrameDue_wrong_crc hd hst hlen ht hl hon hcrc),
        fun hcrc => next_congr (chirpFrameDue_right hd hst hlen ht hl hown hcrc)⟩,
      fun ht => next_congr (chirpFrameDue_early hd ht)⟩
    case sync => exact next_congr ((syncDecided_decides hd hst ht).trans (if_pos (by simp [h0, h1])))
    case miss =>
      refine next_congr ((syncDecided_decides hd hst ht).trans (if_neg ?_))
      rcases hbad with h0 | h1 | hdelim
      · simp [h0]
      · simp [h1]
      · simp [hdelim]
    case preamble =>
      have hfrom : s.invalidFrom d = d.det.start + 4 * tSym d.det.sf (s.demodBw d) := if_pos hst
      exact ⟨next_congr (chirpLost_in_preamble hd hst), fun ht => next_congr (chirpLost_early_symbol hd (hfrom ▸ ht)),
        fun hlo hhi hbad => next_congr (chirpLost_invalid hd (hfrom ▸ hlo) hhi hbad)⟩
    case later =>
      have hfrom : s.invalidFrom d = d.syncT := if_neg hst
      exact ⟨next_congr (syncDecided_after_preamble hd hst), next_congr (chirpLost_after_preamble hd hst),
        fun hlo hhi hbad => next_congr (chirpLost_invalid hd (hfrom ▸ hlo) hhi hbad)⟩

end Sys2Proof

/-! Chirp transmission (O39): the launch entry of a frame up to its up-ramp, then the pair's transmission to the end of its
down-ramp. -/

namespace Sys2Proof.Machine
open Sys2Proof

theorem afind_aset_same {α : Type} (l : List (Nat × α)) (i : Nat) (v : α) : afind (aset l i v) i = some v := by
  induction l with
  | nil => simp [aset, afind]
  | cons c t ih =>
    obtain ⟨k, w⟩ := c
    unfold aset
    split
    · simp [afind]
    · next hk =>
      split
      · simp [afind]
      · simpa [afind, hk] using ih

/-! ## Held frames that end, and the pair's transmission (R206, R208) -/

theorem State.chirp_benchPost (s : State) (dst : Nat) (c : BenchContent) : (s.benchPost dst c).chirp = s.chirp := by
  unfold State.benchPost
  dsimp only
  split <;> rfl

theorem State.chirp_countEnd (s : State) (n : Nat) (w : HeldEnd) : (s.countEnd n w).chirp = s.chirp := by
  cases w <;> rfl

/-- A held frame that ends leaves the list of held frames, and nothing else of the engine's state changes. -/
theorem State.chirp_endHeld (s : State) (d : Demod) (w : HeldEnd) :
    (s.endHeld d w).chirp = { s.chirp with demods := s.chirp.demods.filter (· != d) } := by
  unfold State.endHeld
  extract_lets s1 s2
  have h2 : s2.chirp = s1.chirp := s1.chirp_countEnd _ w
  split
  · rfl
  · split
    · exact (s2.chirp_benchPost _ _).trans h2
    · exact h2

theorem State.mem_foldl_endHeld (w : HeldEnd) (l : List Demod) (s : State) (q : Demod) :
    q ∈ (l.foldl (fun a d => a.endHeld d w) s).chirp.demods ↔ q ∈ s.chirp.demods ∧ q ∉ l := by
  induction l generalizing s with
  | nil => simp
  | cons d l ih => simp [ih, State.chirp_endHeld, and_assoc]

/-- No own frame of the port is held once the port's frames have ended. -/
theorem State.port_ne_of_mem_endPort {s : State} {n : Nat} {w : HeldEnd} {q : Demod} (hq : q ∈ (s.endPort n w).chirp.demods)
    (hown : q.lent = none) : q.det.port ≠ n := by
  obtain ⟨hheld, hother⟩ := (s.mem_foldl_endHeld w _ q).mp hq
  exact fun hn => hother (List.mem_filter.mpr ⟨hheld, by simp [hown, hn]⟩)

theorem State.sending_endPort (s : State) (n : Nat) (w : HeldEnd) : (s.endPort n w).chirp.sending = s.chirp.sending :=
  List.foldlRecOn (motive := fun a : State => a.chirp.sending = s.chirp.sending) _ _ rfl fun a h d _ => by
    rw [a.chirp_endHeld, ← h]

/-- Once its down-ramp is over a pair transmits no more, and its detection stays suspended for 50 µs (R208). -/
theorem State.rfStop_effect (s : State) (n t : Nat) :
    afind (s.rfStop n t).chirp.sending n = none ∧ aget 0 (s.rfStop n t).chirp.suspendTo n = t + 50000 :=
  ⟨afind_adel_same _ _, aget_aset_same _ _ _ _⟩

/-! ## The entry up to its up-ramp (R213, R217, R218, R241) -/

section
variable {i : EntryId} {e : LqEntry} {it : List Word} {s : State}

theorem State.rfItemRead_invalid (hv : rfItValid it = false) : s.rfItemRead e it = s.txFail e rtINVALID_ITEM := by
  simp [State.rfItemRead, hv]

section
variable (hv : rfItValid it = true)
include hv

theorem State.rfItemRead_channel_off (hc : s.chanOn e.port (rfItChan it) = false) :
    s.rfItemRead e it = s.txFail e rtCHANNEL_OFF := by
  simp [State.rfItemRead, hv, hc]

/-- A right item without a frequency offset: the pair's profile is taken and securing begins (R218). -/
theorem State.rfItemRead_secures (hc : s.chanOn e.port (rfItChan it) = true) (hofs : rfItFofsEn it = false) :
    s.rfItemRead e it =
      State.secureEntry (s.lqUpdate e.entry fun x => { x with profile := s.getF (F.CH_PAIRSTAT_PROFILE e.port) }) e.entry := by
  simp [State.rfItemRead, hv, hc, hofs]

end

variable (h : s.lqAt i = some e)
include h

theorem rfTxItemRead_early (ht : s.ns + 164000 < s.lqNs e) : rfTxItemRead i s = s := by
  simp [rfTxItemRead, h, ht]

section
variable (hty : leType e.words = leTypeRF_TX)
include hty

theorem rfTxItemRead_reads (ht : s.lqNs e ≤ s.ns + 164000) (hit : e.item = some it) (hsec : e.securing = false)
    (hdone : e.secured = none) (hdue : e.due = none) : rfTxItemRead i s = s.rfItemRead e it := by
  simp [rfTxItemRead, h, hty, Nat.not_lt.mpr ht, hit, hsec, hdone, hdue]

theorem rfItemDeadline_passed (hit : e.item = none)
    (ht : s.lqNs e < s.ns + s.rampNs (s.getF (F.CH_PAIRSTAT_PROFILE e.port)) + 20000) :
    rfItemDeadline i s = s.txFail e rtMISSED_LAUNCH := by
  simp [rfItemDeadline, h, hty, hit, State.rfTooLate, ht]

end

theorem rfItemDeadline_early (ht : s.ns + s.rampNs (s.getF (F.CH_PAIRSTAT_PROFILE e.port)) + 20000 ≤ s.lqNs e) :
    rfItemDeadline i s = s := by
  simp [rfItemDeadline, h, State.rfTooLate, Nat.not_lt.mpr ht]

theorem rfItemDeadline_with_item (hit : e.item ≠ none) : rfItemDeadline i s = s := by
  simp [rfItemDeadline, h, hit]

theorem dutyCheck_without_item (hit : e.item = none) : dutyCheck i s = s := by
  simp only [dutyCheck, h, hit]

theorem uprampStart_without_item (hit : e.item = none) : uprampStart i s = s := by
  simp only [uprampStart, h, hit]

section
variable {a b : Nat} (hit : e.item = some it) (hspan : s.rfSpan e = some (a, b))
include hit hspan

theorem dutyCheck_early (ht : s.ns + 20000 < a) : dutyCheck i s = s := by
  simp [dutyCheck, h, hit, hspan, ht]

theorem uprampStart_early (ht : s.ns < a) : uprampStart i s = s := by
  simp [uprampStart, h, hit, hspan, ht]

variable (hty : leType e.words = leTypeRF_TX)
include hty

section
variable {z : State} (ht : a ≤ s.ns + 20000) (hc : e.charged = false)
include ht hc

theorem dutyCheck_charges (hz : s.dutyCharge e.port (rfItChan it) (b - a) ((a - 20000) / 1000000000) = (z, true)) :
    dutyCheck i s = z.lqUpdate i fun x => { x with charged := true } := by
  simp [dutyCheck, h, hit, hspan, hty, hc, Nat.not_lt.mpr ht, hz]

theorem dutyCheck_refuses (hz : s.dutyCharge e.port (rfItChan it) (b - a) ((a - 20000) / 1000000000) = (z, false)) :
    dutyCheck i s = z.txFail e rtDUTY_REFUSED := by
  simp [dutyCheck, h, hit, hspan, hty, hc, Nat.not_lt.mpr ht, hz]

end

section
variable (ht : a ≤ s.ns) (hc : e.charged = true) (hdue : e.due = none) (hidle : afind s.chirp.sending e.port = none)
include ht hc hdue hidle

theorem uprampStart_stopped {st : Nat} (hstop : s.rampStop e = some st) : uprampStart i s = s.txFail e st := by
  simp [uprampStart, h, hit, hspan, hty, hc, hdue, Nat.not_lt.mpr ht, hidle, hstop]

/-- Permitted and secured the pair transmits: its own held frames have ended when the ramp leaves (R208, R217). -/
theorem uprampStart_ramps (hstop : s.rampStop e = none) : ∃ y : State, uprampStart i s = y.emitRamp e.port e.profile true a ∧
    afind y.chirp.sending e.port = some {
      entry := { e with outside := true, ramped := true }, start := a, end_ := b, dur := s.rampNs e.profile, ofs := rfItFofsEn it } ∧
    ∀ q ∈ y.chirp.demods, q.lent = none → q.det.port ≠ e.port := by
  have hstart : ¬(leType e.words ≠ leTypeRF_TX ∨ !e.charged ∨ e.due.isSome ∨ s.ns < a) := by
    simp [hty, hc, hdue, Nat.not_lt.mpr ht]
  have hfirst : ¬(afind s.chirp.sending e.port).any (·.entry.entry == e.entry) = true := by simp [hidle]
  simp only [uprampStart, h, hit, hspan, hstop]
  rw [if_neg hstart, if_neg hfirst]
  exact ⟨_, rfl, (congrArg (afind · e.port) (State.sending_endPort _ _ _)).trans (afind_aset_same _ _ _),
    fun q hq hown => State.port_ne_of_mem_endPort hq hown⟩

end

end

/-! ## The launch time (R102, R218) -/

theorem rfTx_not_ready (hr : s.lqReady e = false) : rfTx i s = s := by
  simp [rfTx, h, hr]

section
variable (hty : leType e.words = leTypeRF_TX) (hr : s.lqReady e = true) (hm : s.lqNoMains e = false) (hit : e.item = some it)
include hty hr hm hit

theorem rfTx_sends {r : RfSending} (hs : afind s.chirp.sending e.port = some r) (hentry : r.entry.entry = e.entry)
    (hgen : r.entry.gen = e.gen) :
    rfTx i s = (s.lqRemove i).emitOut (.chirpFrame e.port (s.chirpWave e.port it (s.lqNs e))) := by
  simp [rfTx, h, hty, hr, hm, hit, hs, hentry, hgen]

theorem rfTx_silent (hs : afind s.chirp.sending e.port = none) (hsilent : s.mayTransmit = false) :
    rfTx i s = s.txFail e stMODE_SILENT := by
  simp [rfTx, h, hty, hr, hm, hit, hs, hsilent]

end

end

/-! ## The end of the down-ramp (R208, R213, R218) -/

section
variable {n : RfPort} {r : RfSending} {s : State}

theorem rfTxEnd_idle (h : afind s.chirp.sending n = none) : rfTxEnd n s = s := by
  simp only [rfTxEnd, h]

theorem rfTxEnd_early (h : afind s.chirp.sending n = some r) (ht : s.ns < r.end_) : rfTxEnd n s = s := by
  simp only [rfTxEnd, h]
  exact if_pos (.inl ht)

/-- A host frame sent without a frequency offset: its item is released and OK reported. -/
theorem rfTxEnd_ends {z : State} (h : afind s.chirp.sending n = some r) (ht : r.end_ ≤ s.ns) (hgone : s.lqAt r.entry.entry = none)
    (hofs : r.ofs = false) (hhost : r.entry.inserter = .host)
    (hz : z = ((s.emitRamp n r.entry.profile false (r.end_ - r.dur)).rfStop n r.end_).bump (F.CH_TXCNT_SENT n)) :
    rfTxEnd n s = ((z.qRelease (leQueue r.entry.words)).launchReport r.entry rtOK).twinSettle := by
  subst hz
  simp [rfTxEnd, h, Nat.not_lt.mpr ht, hgone, hofs, State.rfSent, hhost]

end

end Sys2Proof.Machine

namespace Sys2Proof
open Machine

/-- Settles O39: each event's lemma for the entry's item, its time and what the pair sends. -/
theorem chirpTransmission : Obligations.ChirpTransmission := by
  intro i n e it a b st r s z
  refine ⟨fun h hty => ⟨fun ht => next_congr (rfTxItemRead_early h ht), fun ht hit hsec hdone hdue => ?read,
      fun hit => ⟨fun ht => next_congr (rfItemDeadline_passed h hty hit ht), fun ht => next_congr (rfItemDeadline_early h ht),
        next_congr (dutyCheck_without_item h hit), next_congr (uprampStart_without_item h hit)⟩,
      fun hit => next_congr (rfItemDeadline_with_item h hit),
      fun hit hspan => ⟨fun ht => next_congr (dutyCheck_early h hit hspan ht),
        fun ht hc hz => ⟨fun hyes => next_congr (dutyCheck_charges h hit hspan hty ht hc (Prod.ext hz.symm hyes)),
          fun hno => next_congr (dutyCheck_refuses h hit hspan hty ht hc (Prod.ext hz.symm hno))⟩,
        fun ht => next_congr (uprampStart_early h hit hspan ht),
        fun ht hc hdue hidle => ⟨fun hstop => next_congr (uprampStart_stopped h hit hspan hty ht hc hdue hidle hstop),
          fun hstop => ?ramps⟩⟩,
      fun hr => next_congr (rfTx_not_ready h hr),
      fun hr hm hit => ⟨fun hs hentry hgen => next_congr (rfTx_sends h hty hr hm hit hs hentry hgen),
        fun hs hsilent => next_congr (rfTx_silent h hty hr hm hit hs hsilent)⟩⟩,
    fun hs => ⟨fun ht => next_congr (rfTxEnd_early hs ht), fun ht hgone hofs hhost hz =>
      ⟨next_congr (rfTxEnd_ends hs ht hgone hofs hhost hz), ?stopped⟩⟩,
    fun hs => next_congr (rfTxEnd_idle hs)⟩
  case read =>
    have hread := rfTxItemRead_reads h hty ht hit hsec hdone hdue
    exact ⟨fun hv => next_congr (hread.trans (State.rfItemRead_invalid hv)),
      fun hv hc => next_congr (hread.trans (State.rfItemRead_channel_off hv hc)),
      fun hv hc hofs => ⟨_, next_congr (hread.trans (State.rfItemRead_secures hv hc hofs)), rfl⟩⟩
  case ramps =>
    obtain ⟨y, hy, hsends, hpreempted⟩ := uprampStart_ramps h hit hspan hty ht hc hdue hidle hstop
    exact ⟨y, next_congr hy, hsends, hpreempted⟩
  case stopped =>
    rw [hz, State.bump_chirp]
    exact State.rfStop_effect _ n r.end_

end Sys2Proof

/-! The slot schedule (O40): a link that comes into its slot, the start of a slot, scheduled frames, their ACKs, and those owed. -/

namespace Sys2Proof.Machine
open Sys2Proof

/-! ## Slots (R212, R213, R230 to R232, R235) -/

section
variable {l : LinkId} {k : Nat} {s : State}

theorem slotPrepare_without_schedule (h : s.slotAhead = none) : slotPrepare l s = s := by
  simp only [slotPrepare, h]

/-- A transmit link that comes to serve its pair makes no class S write (R212). -/
theorem State.classSWrites_of_transmit (h : s.linkTx l = true) (t : List (Nat × SlotServe)) (v : SlotServe) :
    ({ s with radio := { s.radio with serve := t } } : State).classSWrites l v = { s with radio := { s.radio with serve := t } } := by
  have htx : ({ s with radio := { s.radio with serve := t } } : State).linkTx l = true := h
  simp [State.classSWrites, htx]

section
variable (h : s.slotAhead = some k)
include h

theorem slotPrepare_inactive (ha : s.linkActive l k = false) : slotPrepare l s = s := by
  simp [slotPrepare, h, ha]

variable (ha : s.linkActive l k = true) (ht : s.ns ≤ s.epoch + k * s.slotNs) (hs : afind s.radio.serve (s.linkPair l) = none)
include ha ht hs

/-- A link below it on its pair is active in the slot too (R231). -/
theorem slotPrepare_collides (hlow : ∃ i < l.val, s.linkPair i = s.linkPair l ∧ s.linkActive i k = true) :
    slotPrepare l s = s.bump F.MC_SCHEDSTAT_COLLIDE := by
  obtain ⟨i, hi, hpair, hact⟩ := hlow
  have hany : ((List.range l).any fun i => s.linkPair i == s.linkPair l && s.linkActive i k) = true :=
    List.any_eq_true.mpr ⟨i, List.mem_range.mpr hi, by simp [hpair, hact]⟩
  simp only [slotPrepare, h]
  rw [if_neg (by simp [ha, Nat.not_lt.mpr ht, hs]), if_pos hany]

end

section
variable (halone : ∀ i < l.val, s.linkPair i ≠ s.linkPair l ∨ s.linkActive i k = false)
include halone

theorem State.no_lower_link : ¬((List.range l).any fun i => s.linkPair i == s.linkPair l && s.linkActive i k) = true := by
  intro hany
  obtain ⟨i, hi, hboth⟩ := List.any_eq_true.mp hany
  rcases halone i (List.mem_range.mp hi) with hpair | hact
  · simp [hpair] at hboth
  · simp [hact] at hboth

variable (h : s.slotAhead = some k) (ha : s.linkActive l k = true) (ht : s.ns ≤ s.epoch + k * s.slotNs)
  (hs : afind s.radio.serve (s.linkPair l) = none)
include h ha ht hs

theorem slotPrepare_without_channel (hc : s.linkChan l k = none) : slotPrepare l s = s.bump F.MC_SCHEDSTAT_SKIPPED := by
  simp only [slotPrepare, h, hc]
  rw [if_neg (by simp [ha, Nat.not_lt.mpr ht, hs]), if_neg (State.no_lower_link halone)]

section
variable {c : Nat} {v : SlotServe} (hc : s.linkChan l k = some c) (htx : s.linkTx l = true) (hone : s.linkAny l = false)
  (hv : v = {
    link := l, asn := k, start := s.epoch + k * s.slotNs, chan := c, delta := s.slotDelta (s.linkNeigh l) (s.epoch + k * s.slotNs),
    guard := s.slotGuard (s.linkNeigh l) (s.epoch + k * s.slotNs),
    expect := (s.epoch + k * s.slotNs : Nat) + s.getF F.MC_TIMING_TXOFS * 10000 + s.slotDelta (s.linkNeigh l) (s.epoch + k * s.slotNs),
    classS := false })
include hc htx hone hv

theorem slotPrepare_transmit : slotPrepare l s = if s.linkSkipped l c v then s.bump F.MC_SCHEDSTAT_SKIPPED
    else { s with radio := { s.radio with serve := aset s.radio.serve (s.linkPair l) v } } := by
  subst hv
  simp only [slotPrepare, h, hc, htx, hone]
  rw [if_neg (by simp [ha, Nat.not_lt.mpr ht, hs]), if_neg (State.no_lower_link halone), State.classSWrites_of_transmit htx]
  simp only [Bool.false_eq_true, if_false, Bool.not_true, Bool.false_and]

theorem slotPrepare_skipped (hskip : s.linkSkipped l c v = true) : slotPrepare l s = s.bump F.MC_SCHEDSTAT_SKIPPED :=
  (slotPrepare_transmit halone h ha ht hs hc htx hone hv).trans (if_pos hskip)

theorem slotPrepare_serves (hskip : s.linkSkipped l c v = false) : slotPrepare l s =
    { s with radio := { s.radio with serve := aset s.radio.serve (s.linkPair l) v } } :=
  (slotPrepare_transmit halone h ha ht hs hc htx hone hv).trans (if_neg (by simp [hskip]))

end

end

theorem slotStart_without_schedule (h : s.slotsRun = false) : slotStart s = s :=
  if_pos (by simp [h])

/-- Without a class S write in force the slot's start changes only the schedule's own state (R230, R235). -/
theorem slotStart_runs (h : s.slotsRun = true) (hs : ∀ x ∈ s.radio.serve, x.2.classS = false) : slotStart s = { s with
    radio := { s.radio with
      serve := s.radio.serve.filter (fun x => !decide (x.2.asn < s.asn)), asn := s.asn, oldLinks := [] } } := by
  refine (if_neg (by simp [h])).trans ?_
  refine List.foldlRecOn (motive := fun a : State => a = _) _ _ rfl fun a ha x hx => ?_
  rw [if_neg (by simp [hs x ((List.mem_filter.mp hx).1)])]
  exact ha

end

/-! ## Scheduled frames (R234) -/

section
variable {l : LinkId} {s : State}

theorem schedTx_unserved (h : afind s.radio.serve (s.linkPair l) = none) : schedTx l s = s := by
  simp only [schedTx, h]

section
variable {v : SlotServe} {q : Nat} (h : afind s.radio.serve (s.linkPair l) = some v) (hlink : v.link = l.val) (htx : s.linkTx l = true)
  (hatt : s.radio.attempts = []) (hq : q = s.linkQueue l) (hus : s.qUsable q = true) (hhead : s.qHeadLost q = false)
include h hlink htx hatt hq hus hhead

theorem schedTx_without_item (hf : s.qFront q = none) : schedTx l s = s := by
  subst hq
  simp [schedTx, h, hlink, htx, hatt, hus, hhead, hf]

section
variable {it sent : List Word} (hf : s.qFront q = some it) (hp : s.qPoisoned q (s.qR q) it.length = false)
  (hsent : sent = schedItem it (s.linkSf l) (s.linkCr l) v.chan) (hack : bitAt (rfItPayload sent) 0 3 = false)
include hf hp hsent hack

theorem schedTx_overruns (hend : v.start + s.slotNs ≤
      v.expect.toNat + s.rfAir (s.linkPair l) sent + s.rampNs (s.getF (F.CH_PAIRSTAT_PROFILE (s.linkPair l)))) :
    schedTx l s = (((s.qMark q).qConsume q).qRelease q).notice ncSLOT_OVERRUN (s.linkPair l) [] := by
  subst hq hsent
  simp [schedTx, h, hlink, htx, hatt, hus, hhead, hf, hp, hack, hend]

/-- A frame that ends in its slot is launched as an attempt of the link. -/
theorem schedTx_launches (hend : v.expect.toNat + s.rfAir (s.linkPair l) sent +
      s.rampNs (s.getF (F.CH_PAIRSTAT_PROFILE (s.linkPair l))) < v.start + s.slotNs) {y z : State} (hy : y = (s.qMark q).qConsume q)
    (hz : z = { y with radio := { y.radio with attempts := y.radio.attempts ++ [{ link := l, queue := q, pair := s.linkPair l }] } })
    {x : State × Nat × Nat} (hx : x = z.lqInsert (entryWords leTypeRF_TX 2 (s.linkPair l) v.expect.toNat q) (.sched l))
    (hok : x.2.1 = stOK) :
    schedTx l s = x.1.lqUpdate (x.2.2 % 2048) fun e => { e with item := some sent, readFrom := s.qR q } := by
  have hready : ¬(v.link ≠ l.val ∨ !s.linkTx l ∨ s.radio.attempts.any (fun a => a.link == l.val || a.queue == s.linkQueue l)) := by
    simp [hlink, htx, hatt]
  have hquiet : ¬bitAt (rfItPayload sent) 0 3 = true := by simp [hack]
  subst hq hsent
  simp only [schedTx, h]
  rw [if_neg hready, if_neg (by simp [hhead]), if_pos hus, hf]
  dsimp only
  rw [if_neg (by simp [hp]), if_neg hquiet, if_neg (Nat.not_le.mpr hend)]
  subst hx hz hy
  exact if_pos hok

end

end

end

/-! ## ACKs owed and awaited (R234) -/

section
variable {n : RfPort} {s : State}

theorem schedAckSend_none_owed (h : afind s.radio.acks n = none) : schedAckSend n s = s := by
  simp only [schedAckSend, h]

theorem schedAckSend_owed {q : RfAckDue} {z : State} (h : afind s.radio.acks n = some q)
    (hz : z = { s with radio := { s.radio with acks := adel s.radio.acks n } }) : schedAckSend n s =
      (z.launchItem n q.at_ (.radioAck n) (z.rfAckItem q.chan q.sf q.cr q.dst q.seq 0 false)).1 := by
  simp only [schedAckSend, h, hz]

section
variable {a : RfAttempt} (h : s.radio.attempts = [a])
include h

theorem rfAckExpiry_missed (hp : a.pair = n.val) (hw : a.waiting = true) (ht : a.deadline + 2000 ≤ s.ns) :
    rfAckExpiry n s = s.rfAckMissed a := by
  simp [rfAckExpiry, h, hp, hw, State.expired, ht]

theorem rfAckExpiry_early (ht : s.ns < a.deadline + 2000) : rfAckExpiry n s = s := by
  simp [rfAckExpiry, h, State.expired, Nat.not_le.mpr ht]

end

theorem State.qmem_qRewind (s : State) (q : Nat) : (s.qRewind q).qmem = s.qmem := by
  unfold State.qRewind State.qBack
  dsimp only
  split <;> rfl

variable {a : RfAttempt}

/-- With retries left a missing ACK rewinds the queue and counts a retry (R234). -/
theorem State.rfAckMissed_retries (h : aget 0 s.radio.used a.queue < s.getF F.MC_SCHEDCFG_RETRIES) :
    aget 0 (s.rfAckMissed a).radio.used a.queue = aget 0 s.radio.used a.queue + 1 ∧
    (s.rfAckMissed a).queues = (s.qRewind a.queue).queues ∧ (s.rfAckMissed a).qmem = s.qmem := by
  unfold State.rfAckMissed
  extract_lets used s1
  rw [if_pos (Nat.succ_le_of_lt h)]
  exact ⟨aget_aset_same _ _ _ _, rfl, s.qmem_qRewind a.queue⟩

theorem State.rfAckMissed_gives_up (h : s.getF F.MC_SCHEDCFG_RETRIES ≤ aget 0 s.radio.used a.queue) :
    s.rfAckMissed a = (s.rfRelease a).notice ncRF_NOACK a.pair [] :=
  if_neg (Nat.not_le.mpr (Nat.lt_succ_of_le h))

end

end Sys2Proof.Machine

namespace Sys2Proof
open Machine

/-- Settles O40: each event's lemma for the schedule, the link's slot, or the attempt it concerns. -/
theorem slotsAndScheduledFrames : Obligations.SlotsAndScheduledFrames := by
  intro l n k c v a q it s z
  refine ⟨fun h => next_congr (slotPrepare_without_schedule h), fun h ha => next_congr (slotPrepare_inactive h ha),
    fun h ha ht hs => ⟨fun hlow => next_congr (slotPrepare_collides h ha ht hs hlow), fun halone =>
      ⟨fun hc => next_congr (slotPrepare_without_channel halone h ha ht hs hc), fun hc htx hone hv =>
        ⟨fun hskip => next_congr (slotPrepare_skipped halone h ha ht hs hc htx hone hv hskip),
          fun hskip => next_congr (slotPrepare_serves halone h ha ht hs hc htx hone hv hskip)⟩⟩⟩,
    fun h => next_congr (slotStart_without_schedule h), fun h hs => next_congr (slotStart_runs h hs),
    fun h => next_congr (schedTx_unserved h), fun h hlink htx hatt hus hhead => ?served,
    fun h => next_congr (schedAckSend_none_owed h), fun h hz => next_congr (schedAckSend_owed h hz),
    fun h hp hw => ⟨fun ht => next_congr (rfAckExpiry_missed h hp hw ht), fun ht => next_congr (rfAckExpiry_early h ht)⟩,
    fun h => ⟨_, rfl, State.rfAckMissed_retries h⟩, State.rfAckMissed_gives_up⟩
  case served =>
    refine ⟨fun hf => next_congr (schedTx_without_item h hlink htx hatt rfl hus hhead hf), fun hf hp hack hend => ?_⟩
    subst hend
    exact ⟨fun hlate => next_congr (schedTx_overruns h hlink htx hatt rfl hus hhead hf hp rfl hack hlate),
      fun htime y hy hz x hx hok =>
        next_congr (schedTx_launches h hlink htx hatt rfl hus hhead hf hp rfl hack htime hy hz hx hok)⟩

end Sys2Proof

/-! Radio events that complete (O56): the endpoint and mailbox events, then every radio event with what it does. -/

namespace Sys2Proof.Machine
open Sys2Proof

/-! ## Supervision and provisional entries (R226, R229) -/

section
variable {ep : EndpointId} {t : Nat} {s : State}

theorem State.supervise_expires (hd : s.superDeadline ep = some t) (ht : t + 2000 ≤ s.ns) (hv : s.verifying ep t = false) :
    s.supervise ep = s.epLost ep := by
  simp [State.supervise, hd, State.expired, ht, hv]

theorem provisionalExpiry_frees (hp : afind s.radio.prov ep = some t) (hst : s.epState ep = epPROV)
    (ht : t + 1000000000 * s.getF F.MC_JOINCFG_PROVTTL + 2000 ≤ s.ns) : provisionalExpiry ep s = s.setEp ep epFREE := by
  simp only [provisionalExpiry, hp]
  exact if_pos ⟨hst, decide_eq_true (Nat.mul_comm _ _ ▸ ht)⟩

end

/-! ## Downlink queues, mailboxes and polls (R236 to R238) -/

/-- An item for a sleepy entry whose mailbox has a place goes there, and is read and released (R236). -/
theorem State.dlqItem_to_mailbox {k q e : Nat} {it : List Word} {s y : State} (hsleepy : s.getF (F.EP0_SLEEPY e) = 1)
    (hput : s.mbxPut e it = (y, .ok)) : s.dlqItem k q e it = (y.qConsume q).qRelease q := by
  simp [State.dlqItem, State.flag, hsleepy, hput, State.dlqDone]

section
variable {k : DlqId} {q e : Nat} {it : List Word} {s : State} (hlive : s.struct_.live = true) (hen : s.getF (F.MC_DLQ_EN k) = 1)
  (hq : q = s.getF (F.MC_DLQ_QUEUE k)) (hus : s.qUsable q = true) (hgo : s.radio.dlqStopped = []) (hhead : s.qHeadLost q = false)
include hlive hen hq hus hgo hhead

/-- A right item at the head of a served queue goes to the entry it names (R236). -/
theorem dlqServe_serves (hf : s.qFront q = some it) (hp : s.qPoisoned q (s.qR q) it.length = false) (hv : rfItValid it = true)
    (hlen : 20 ≤ rfItLen it) (hown : s.ownEp (rfRxa (rfItPayload it)) = some e) : dlqServe k s = s.dlqItem k q e it := by
  subst hq
  simp [dlqServe, hlive, State.flag, hen, hus, hgo, hhead, hf, hp, hv, Nat.not_lt.mpr hlen, hown]

end

section
variable {ep : EndpointId} {s : State}

theorem mbxExpired_frees {f : MbxFrame} (h : s.mbxOf ep = [f]) (httl : s.getF (F.MC_PART0_MBXTTL f.part) ≠ 0)
    (ht : s.mbxSecond f + s.getF (F.MC_PART0_MBXTTL f.part) < s.ns / 1000000000) :
    mbxExpired ep s = ((s.mbxFree f).bump F.MC_MBXSTAT_EXPIRED).notice ncMBX_EXPIRED (s.getF (F.EP0_PORT ep)) [] := by
  simp [mbxExpired, h, httl, ht]

theorem State.mbxExhausted_of_empty {e pair : Nat} (h : s.mbxOf e = []) : s.mbxExhausted e pair = s := by
  simp [State.mbxExhausted, h]

/-- With nothing in the mailbox the poll is answered with an ACK (R238). -/
theorem pollResponse_acks {w : PollWindow} {t k : Nat} {y z : State} (h : s.radio.polls = [w]) (hep : w.ep = ep.val)
    (hbox : s.mbxOf ep = []) (hz : z = { s with radio := { s.radio with polls := [] } }) (ht : z.pollTime w = some t)
    (hsent : z.launchItem w.pair t (.radioAck w.pair)
      (z.rfAckItem w.chan w.sf w.cr (z.epAddr ep) (w.ackSeq.getD 0) (z.getF (F.EP10_FOFS ep)) true) = (y, stOK, k)) :
    pollResponse ep s = y := by
  have hfind : s.radio.polls.find? (·.ep == ep.val) = some w := by simp [h, hep]
  have hleft : ({ s with radio := { s.radio with polls := s.radio.polls.erase w } } : State) = z := by simp [hz, h]
  have hempty : z.mbxOf ep = [] := hz ▸ hbox
  simp only [pollResponse, hfind, hleft, State.mbxExhausted_of_empty hempty, ht, hempty, hsent]
  rfl

end

/-! ## The second boundary (R240) -/

/-- With the buckets of sub-band `j` of pair `n` alone, and no charge in the second just ended, those of the hour stay and MC_DCUSED
follows. -/
theorem dcSecond_drops {n j : Nat} (hj : j < 8) {l : List (Nat × Nat)} {s : State} (h : s.radio.duty = [(8 * n + j, l)])
    (hnone : afind l (s.ns / 1000000000 - 1) = none) : dcSecond s =
      State.showUsed { s with radio := { s.radio with
        duty := [(8 * n + j, l.filter fun x => decide (s.ns / 1000000000 < x.1 + 3600))] } } n j := by
  have hnew : afind (l.filter fun x => decide (s.ns / 1000000000 < x.1 + 3600)) (s.ns / 1000000000 - 1) = none := by
    simp only [afind, Option.map_eq_none_iff, List.find?_eq_none] at hnone ⊢
    exact fun x hx => hnone x ((List.mem_filter.mp hx).1)
  have hpair : (8 * n + j) / 8 = n := by omega
  have hband : (8 * n + j) % 8 = j := by omega
  simp [dcSecond, h, hnew, aset, hpair, hband]

end Sys2Proof.Machine

namespace Sys2Proof
open Machine

/-- Settles O56: the event lemmas of reception, transmission, the schedule and the endpoints, one for each event. -/
theorem radioEventsComplete : Obligations.RadioEventsComplete := by
  intro n ch sf bin start ratio v0 v1 t h k a0 b0 c t0 q e q0 values ns power u rx d x i le it r link v ak a ep dk f pw l s y z
  refine ⟨fun hx hs hw h0 => ⟨_, next_congr (chirpDetect_waits hx hs hw h0), rfl⟩, fun hnext hn hc hsf hz hfree ks hunits => ?grant,
    fun hd => ⟨fun hst ht h0 h1 => next_congr ((syncDecided_decides hd hst ht).trans (if_pos (by simp [h0, h1]))),
      fun hst => next_congr (chirpLost_in_preamble hd hst),
      fun hst hlen ht hns hh hi hok =>
        next_congr (firstBlockDecided_right hd hst hlen ht (State.firstBlock_right_header hns hh hi hok)),
      fun hst hlen ht hl hown hcrc => next_congr (chirpFrameDue_right hd hst hlen ht hl hown hcrc)⟩,
    fun hle hty => ⟨fun ht hit hsec hdone hdue hv hc hofs =>
        next_congr ((rfTxItemRead_reads hle hty ht hit hsec hdone hdue).trans (State.rfItemRead_secures hv hc hofs)),
      fun hit ht => next_congr (rfItemDeadline_passed hle hty hit ht),
      fun hit hspan => ⟨fun ht hc hz => next_congr (dutyCheck_charges hle hit hspan hty ht hc hz),
        fun ht hc hdue hidle hstop => ?ramps⟩,
      fun hr hm hit hs hentry hgen => next_congr (rfTx_sends hle hty hr hm hit hs hentry hgen)⟩,
    fun hs ht hgone hofs hhost hz => next_congr (rfTxEnd_ends hs ht hgone hofs hhost hz),
    fun hidle ht => next_congr (chirpSuspendEnd_over hidle ht),
    fun hk ha ht hs halone hc htx hone hv hskip => next_congr (slotPrepare_serves halone hk ha ht hs hc htx hone hv hskip),
    fun hrun hs => next_congr (slotStart_runs hrun hs),
    fun hserve hlink htx hatt hq hus hhead hf hp hack hend hy hz g hg hok =>
      next_congr (schedTx_launches hserve hlink htx hatt hq hus hhead hf hp rfl hack hend hy hz hg hok),
    fun hak hz => next_congr (schedAckSend_owed hak hz), fun ha hp hw ht => next_congr (rfAckExpiry_missed ha hp hw ht),
    fun hd ht hv => next_congr (State.supervise_expires hd ht hv), fun hp hst ht => next_congr (provisionalExpiry_frees hp hst ht),
    fun hlive hen hq hus hgo hhead hf hp hv hlen hown hsleepy hput =>
      next_congr ((dlqServe_serves hlive hen hq hus hgo hhead hf hp hv hlen hown).trans (State.dlqItem_to_mailbox hsleepy hput)),
    fun hbox httl ht => next_congr (mbxExpired_frees hbox httl ht),
    fun hpoll hep hbox hz ht hsent => next_congr (pollResponse_acks hpoll hep hbox hz ht hsent),
    fun hduty hnone => ⟨_, next_congr (dcSecond_drops (n := 3) (j := 2) (by decide) hduty hnone), rfl⟩⟩
  case grant =>
    have hreserve : z.getF F.CH_POOLCFG_RESERVE < z.poolFree := by
      rw [hz] at hfree ⊢
      exact hfree
    have hgrants := State.allocate_grants (x := x) (Nat.zero_lt_of_lt hreserve) hunits (.inr hreserve)
    exact ⟨_, next_congr ((demodGrant_serves hnext hn hc hsf hz).trans hgrants), (z.grantLocal_effect x k).1⟩
  case ramps =>
    obtain ⟨y, hy, hsends, -⟩ := uprampStart_ramps hle hit hspan hty ht hc hdue hidle hstop
    exact ⟨y, next_congr hy, hsends⟩

end Sys2Proof

/-! Frames verified and secured (O24): how the engine's only request ends, what a verification finds and the counter rule. -/

namespace Sys2Proof.Machine
open Sys2Proof

/-! ## The end of the engine's only request (R248, R259, R262, R263) -/

/-- The engine with `q` as its only request. -/
def State.withOnly (s : State) (q : CipherReq) : State := { s with cipher := { s.cipher with reqs := [q] } }

section
variable {e : OpTag} {r : CipherReq} {s x : State}

theorem State.cipherReq_only (hreqs : s.cipher.reqs = [r]) (htag : r.tag = e.val) (hopen : r.ended = none) : s.cipherReq e = some r := by
  simp [State.cipherReq, hreqs, htag, hopen]

/-- With no request before it the one that ends completes at once (R248). -/
theorem State.requestEnded_only (hreqs : s.cipher.reqs = [r]) (htag : r.tag = e.val) (good : Bool) :
    s.requestEnded e good = (s.withOnly { r with ended := some good }).jobEnd { r with ended := some good } good := by
  simp [State.requestEnded, State.completeReady, firstFree, hreqs, htag, State.withOnly]

/-- Its entry and its tag are free when its job takes effect. -/
theorem State.cipherLeave_only (htag : r.tag = e.val) (hheld : s.cipher.held = [])
    (hx : x = ({ s with cipher := { s.cipher with reqs := [] } } : State).giveTag e) (ended : Option Bool) :
    (s.withOnly { r with ended := ended }).cipherLeave r.tag = x := by
  simp [State.withOnly, State.cipherLeave, State.giveTag, hheld, hx, htag]

variable (hreqs : s.cipher.reqs = [r]) (htag : r.tag = e.val) (hopen : r.ended = none)
include hreqs htag hopen

theorem frameVerified_of_relay {o : RelayOut} (hjob : r.job = .relay o) : frameVerified e s = s := by
  simp [frameVerified, State.cipherReq_only hreqs htag hopen, hjob]

variable (hheld : s.cipher.held = []) (hx : x = ({ s with cipher := { s.cipher with reqs := [] } } : State).giveTag e)
include hheld hx

theorem frameVerified_only {f : RxFrame} {ep slot : Nat} (hjob : r.job = .verify f ep slot) :
    frameVerified e s = x.verifyEnd { r with ended := some true } f ep slot true := by
  simp only [frameVerified, State.cipherReq_only hreqs htag hopen, State.requestEnded_only hreqs htag, State.jobEnd, hjob,
    ← State.cipherLeave_only htag hheld hx (some true)]

theorem frameSecured_only {o : RelayOut} (hjob : r.job = .relay o) :
    frameSecured e s = x.relayEnd { r with ended := some true } o true := by
  simp only [frameSecured, State.cipherReq_only hreqs htag hopen, State.requestEnded_only hreqs htag, State.jobEnd, hjob,
    ← State.cipherLeave_only htag hheld hx (some true)]

end

/-- A relayed frame leaves secured under the current key captured for it, with the counter assigned (R245). -/
theorem State.relayEnd_secured {r : CipherReq} {key : List Byte} (hkey : r.cur = some key) (x : State) (o : RelayOut) :
    x.relayEnd r o true = x.relayWrite o (secureBytes key x.ownAddr r.counter (x.getF F.CX_SECCFG_TXLVL)
      (o.header ++ BitVec.ofNat 8 (x.getF F.CX_SECCFG_TXLVL) :: bytesLE 4 r.counter) o.payload) := by
  simp [State.relayEnd, hkey]

/-! ## What a verification finds (R262) -/

section
variable {x : State} {r : CipherReq} {f : RxFrame} {ep slot : Nat} {k : List Byte}

theorem State.verifyEnd_low_level (hlow : levelOk (secLevel f.body f.mac.secAt) (x.getF F.CX_SECCFG_MINLVL) = false) :
    x.verifyEnd r f ep slot true = x.verifyFailed f ep slot := by
  simp [State.verifyEnd, hlow]

variable (hlevel : levelOk (secLevel f.body f.mac.secAt) (x.getF F.CX_SECCFG_MINLVL) = true)
include hlevel

theorem State.verifyEnd_neither (hcur : ∀ k, r.cur = some k → verifyBytes k f.mac.tx f.mac.secAt f.body = none)
    (hprev : ∀ k, r.prev = some k → verifyBytes k f.mac.tx f.mac.secAt f.body = none) :
    x.verifyEnd r f ep slot true = x.verifyFailed f ep slot := by
  have hcur' := Option.bind_eq_none_iff.mpr hcur
  have hprev' := Option.bind_eq_none_iff.mpr hprev
  simp [State.verifyEnd, hlevel, hcur', hprev']

theorem State.verifyEnd_current_only {b : List Byte} (hcur : r.cur = some k) (hprev : r.prev = none)
    (hright : verifyBytes k f.mac.tx f.mac.secAt f.body = some b) :
    x.verifyEnd r f ep slot true = x.frameVerified { f with body := b } ep := by
  simp [State.verifyEnd, hlevel, hcur, hprev, hright]

theorem State.verifyEnd_both {l b d : List Byte} (hcur : r.cur = some k) (hprev : r.prev = some l)
    (hright : verifyBytes k f.mac.tx f.mac.secAt f.body = some b) (hright' : verifyBytes l f.mac.tx f.mac.secAt f.body = some d) :
    x.verifyEnd r f ep slot true = (x.bump F.CX_DUALKEY_COUNT).frameVerified { f with body := b } ep := by
  simp [State.verifyEnd, hlevel, hcur, hprev, hright, hright']

end

/-! ## The counter rule (R228) -/

theorem natLE_lt (l : List Byte) : natLE l < 256 ^ l.length := by
  induction l with
  | nil => decide
  | cons b bs ih =>
    have hb := b.isLt
    rw [natLE, List.length_cons, Nat.pow_succ]
    omega

theorem secCounter_lt (b : List Byte) (at_ : Nat) : secCounter b at_ < 2 ^ 32 :=
  calc secCounter b at_ < 256 ^ ((b.drop (at_ + 1)).take 4).length := natLE_lt _
    _ ≤ 256 ^ 4 := Nat.pow_le_pow_right (by decide) (List.length_take_le ..)

theorem State.ackNone_frame (s : State) (f : RxFrame) : s.ackNone f = { s with plc := (s.ackNone f).plc } := by
  unfold State.ackNone
  dsimp only
  repeat' split
  all_goals rfl

theorem State.ackInTime_frame (s : State) (f : RxFrame) : s.ackInTime f = { s with plc := (s.ackInTime f).plc } := by
  unfold State.ackInTime
  split
  · exact s.ackNone_frame f
  · rfl

@[simp] theorem State.ackInTime_map (s : State) (f : RxFrame) : (s.ackInTime f).map = s.map := by
  rw [State.ackInTime_frame]

@[simp] theorem State.ackInTime_qmem (s : State) (f : RxFrame) : (s.ackInTime f).qmem = s.qmem := by
  rw [State.ackInTime_frame]

theorem State.renewEp_frame (s : State) (e t : Nat) : s.renewEp e t =
    { s with map := (s.renewEp e t).map, radio := { s.radio with lapsed := (s.renewEp e t).radio.lapsed } } := by
  unfold State.renewEp
  rw [State.setLastRx_frame]

@[simp] theorem State.renewEp_plc (s : State) (e t : Nat) : (s.renewEp e t).plc = s.plc := by
  rw [State.renewEp_frame]

theorem State.wordsKept_renewEp (s : State) (e t : Nat) : s.wordsKept (s.renewEp e t) [F.EP8 e, F.EP9 e] :=
  State.wordsKept_setLastRx _ e t

theorem State.sound_renewEp {s : State} (hs : s.sound = true) (e t : Nat) : (s.renewEp e t).sound = true :=
  State.sound_setLastRx hs e t

/-- The state in which the counter of a verified power-line frame is looked at: the acknowledgement given up where it is late, and
LASTRX renewed. -/
def State.heard (s : State) (f : RxFrame) (e : Nat) : State := (s.ackInTime f).renewEp e f.due

theorem State.heard_frame (s : State) (f : RxFrame) (e : Nat) : s.heard f e =
    { s with map := (s.heard f e).map, plc := (s.heard f e).plc, radio := { s.radio with lapsed := (s.heard f e).radio.lapsed } } := by
  unfold State.heard
  rw [State.renewEp_plc]
  have hack := s.ackInTime_frame f
  generalize s.ackInTime f = a at hack ⊢
  obtain ⟨p, rfl⟩ : ∃ p, a = { s with plc := p } := ⟨_, hack⟩
  exact State.renewEp_frame _ e f.due

theorem State.sound_heard {s : State} (hs : s.sound = true) (f : RxFrame) (e : Nat) : (s.heard f e).sound = true :=
  State.sound_renewEp (by rwa [State.sound, State.ackInTime_map, State.ackInTime_qmem]) e f.due

theorem State.getF_heard_evtRx (s : State) (f : RxFrame) (e : Nat) :
    (s.heard f e).getF (F.EP4_EVT_RX e) = s.getF (F.EP4_EVT_RX e) :=
  ((State.wordsKept_renewEp _ e f.due).getF_eq (by simp [F.EP4, F.EP8, F.EP9])).trans (State.getF_of_map_eq (s.ackInTime_map f) _)

/-- The entry's counter taken from a frame, and its twin's copy. -/
def State.takeEvtRx (s : State) (e v : Nat) : State :=
  let s1 := s.setF (F.EP4_EVT_RX e) v
  s1.mirror (.eventCounter (Fin.ofNat 131072 e) (s1.word (F.EP3 e)) (s1.word (F.EP4 e)))

theorem State.takeEvtRx_frame (s : State) (e v : Nat) :
    s.takeEvtRx e v = { s with map := (s.takeEvtRx e v).map, bench := (s.takeEvtRx e v).bench } := by
  unfold State.takeEvtRx
  rw [State.mirror_frame]
  rfl

@[simp] theorem State.takeEvtRx_plc (s : State) (e v : Nat) : (s.takeEvtRx e v).plc = s.plc := by
  rw [State.takeEvtRx_frame]

@[simp] theorem State.takeEvtRx_radio (s : State) (e v : Nat) : (s.takeEvtRx e v).radio = s.radio := by
  rw [State.takeEvtRx_frame]

/-- What a frame with a newer counter has changed before it goes on as accepted. -/
theorem State.takeEvtRx_heard_frame {s y : State} (f : RxFrame) (e v : Nat) (hy : y = (s.heard f e).takeEvtRx e v) : y =
    { s with map := y.map, bench := y.bench, plc := y.plc, radio := { s.radio with lapsed := y.radio.lapsed } } := by
  subst hy
  rw [State.takeEvtRx_plc, State.takeEvtRx_radio]
  have hheard := s.heard_frame f e
  generalize s.heard f e = a at hheard ⊢
  obtain ⟨m, p, l, rfl⟩ : ∃ m p l, a = { s with map := m, plc := p, radio := { s.radio with lapsed := l } } := ⟨_, _, _, hheard⟩
  exact State.takeEvtRx_frame _ e v

theorem State.getF_takeEvtRx {s : State} (hs : s.sound = true) (e : Nat) {v : Nat} (hv : v < 2 ^ 32) :
    (s.takeEvtRx e v).getF (F.EP4_EVT_RX e) = v := by
  refine (State.getF_of_map_eq (State.mirror_map _ _) _).trans ?_
  rw [State.getF_setF_same _ _ _ hs (by simp) (by simp)]
  exact Nat.mod_eq_of_lt hv

section
variable {s : State} {f : RxFrame} {e : Nat} (hsec : f.mac.sec = true) (hmedium : f.medium = 0)
include hsec hmedium

theorem State.frameVerified_newer (h : s.getF (F.EP4_EVT_RX e) < secCounter f.body f.mac.secAt) :
    s.frameVerified f e = ((s.heard f e).takeEvtRx e (secCounter f.body f.mac.secAt)).accepted f e := by
  rw [← s.getF_heard_evtRx f e] at h
  simp only [State.frameVerified, State.radioLearn, hmedium, hsec, if_true, Bool.not_true, Bool.false_eq_true, if_false]
  exact if_pos h

theorem State.frameVerified_replay (h : secCounter f.body f.mac.secAt < s.getF (F.EP4_EVT_RX e)) :
    s.frameVerified f e = ((s.heard f e).bump F.MC_RXSTAT2_REPLAY).ackNone f := by
  rw [← s.getF_heard_evtRx f e] at h
  simp only [State.frameVerified, State.radioLearn, hmedium, hsec, if_true, Bool.not_true, Bool.false_eq_true, if_false]
  exact (if_neg (Nat.lt_asymm h)).trans (if_neg (Nat.ne_of_lt h))

end

end Sys2Proof.Machine

namespace Sys2Proof
open Machine

/-- Settles O24: the end of the engine's only request by its job, what the verification finds, and the counter rule. -/
theorem framesVerifiedAndSecured : Obligations.FramesVerifiedAndSecured := by
  intro e s x r f ep slot o key hreqs hheld htag hopen hx
  have hverified {f ep slot} := frameVerified_only (f := f) (ep := ep) (slot := slot) hreqs htag hopen hheld hx
  exact ⟨fun hjob hlevel => ⟨fun hcur hprev => next_congr ((hverified hjob).trans (State.verifyEnd_neither hlevel hcur hprev)),
      fun k b hcur hprev hright => next_congr ((hverified hjob).trans (State.verifyEnd_current_only hlevel hcur hprev hright)),
      fun k l b d hcur hprev hright hright' =>
        next_congr ((hverified hjob).trans (State.verifyEnd_both hlevel hcur hprev hright hright'))⟩,
    fun hjob hlow => next_congr ((hverified hjob).trans (State.verifyEnd_low_level hlow)),
    fun hjob => ⟨next_congr (frameVerified_of_relay hreqs htag hopen hjob),
      fun hkey => next_congr
        ((frameSecured_only hreqs htag hopen hheld hx hjob).trans (State.relayEnd_secured hkey x o))⟩,
    fun hsec hmedium hsound _ => ⟨fun hnewer => ⟨_, State.frameVerified_newer hsec hmedium hnewer,
        State.getF_takeEvtRx (State.sound_heard hsound f ep) ep (secCounter_lt _ _),
        State.takeEvtRx_heard_frame f ep _ rfl⟩,
      fun hreplay => ⟨_, State.frameVerified_replay hsec hmedium hreplay, x.getF_heard_evtRx f ep, x.heard_frame f ep⟩⟩⟩

end Sys2Proof

/-! Cards and the limits of queues (O57): a card port from its activation to its deactivation, then stale and open limits, items of
hardware producers, the scrubbers and bank copies, an equation for each event that completes. -/

namespace Sys2Proof.Machine
open Sys2Proof

/-! ## A field that reads nonzero, in a word that reads zero where it is not listed -/

/-- A value other than the unlisted one is listed when it is written, so it reads back whether or not the memory is canonical. -/
theorem Memory.read_write_listed {α : Type} [DecidableEq α] {d : Nat → α} {a : Nat} {v : α} (h : v ≠ d a) (l : List (Nat × α)) :
    Memory.read d (Memory.write d l a v) a = v := by
  rw [Memory.write, if_neg h, Memory.read_insert_same]

section
variable {f : Fld} {v : Nat} (hd : defaultWord f.addr = 0) (hle : f.lo ≤ f.hi) (h32 : f.hi < 32) (hv : v % 2 ^ (f.hi + 1 - f.lo) ≠ 0)
include hd hle h32 hv

theorem State.word_setF_listed (s : State) : (s.setF f v).word f.addr = (s.word f.addr).setField f.hi f.lo v := by
  have hne : (s.word f.addr).setField f.hi f.lo v ≠ defaultWord f.addr := by
    intro h
    have hfield := Word.field_setField_same (s.word f.addr) v hle h32
    rw [h, hd] at hfield
    exact hv (by simpa [Word.field] using hfield.symm)
  exact Memory.read_write_listed hne _

theorem State.getF_setF_listed (s : State) : (s.setF f v).getF f = v % 2 ^ (f.hi + 1 - f.lo) := by
  rw [State.getF, State.word_setF_listed hd hle h32 hv, Word.field_setField_same _ _ hle h32]

/-- Another field of the same word keeps its value. -/
theorem State.getF_setF_listed_disjoint (s : State) {g : Fld} (ha : g.addr = f.addr) (hg : g.lo ≤ g.hi)
    (hdis : f.hi < g.lo ∨ g.hi < f.lo) : (s.setF f v).getF g = s.getF g := by
  rw [State.getF, State.getF, ha, State.word_setF_listed hd hle h32 hv, Word.field_setField_disjoint _ _ hle h32 hg hdis]

end

theorem defaultWord_CX_CARDSTAT (k : CardPort) : defaultWord (F.CX_CARDSTAT k) = 0 := by
  revert k
  decide

theorem defaultWord_CX_CARDETU (k : CardPort) : defaultWord (F.CX_CARDETU k) = 0 := by
  revert k
  decide

/-! ## A card port's record -/

@[simp] theorem State.card_setCard_same (s : State) (k : Nat) (c : CardState) : (s.setCard k c).card k = c := aget_aset_same _ _ _ _

@[simp] theorem State.card_setF (s : State) (f : Fld) (v k : Nat) : (s.setF f v).card k = s.card k := rfl

/-! ## Activation and the answer to reset (R266, R267, R270) -/

section
variable {k : CardPort} {s : State}

theorem State.cardReset_effect (s : State) (k : CardPort) (r : CardRun) : (s.cardReset k r).cardState k = cdACTIVATING ∧
    (s.cardReset k r).cardRun k = some r ∧ ((s.cardReset k r).card k).rstHigh = false := by
  refine ⟨State.getF_setF_listed (f := F.CX_CARDSTAT_STATE k) (defaultWord_CX_CARDSTAT k) (by simp) (by simp) (by simp) _, ?_, ?_⟩
  · simp [State.cardRun, State.cardReset, State.setCardState]
  · simp [State.cardReset, State.setCardState]

/-- An exchange on a port that is off begins with a cold activation, once its DMA read has its tag (R270). -/
theorem cardExchange_activates {d : DescRun} {n : Nat} {cmd : List Byte} (hn : n = s.getF (F.CX_CARDCFG_RING k))
    (hd : s.dmaRun n = some d) (hkind : dKind d.desc.words = 2) (hstarted : d.started = false) (hwaiting : d.waiting = false)
    (hrun : s.cardRun k = none) (hoff : s.cardState k = cdOFF) (hdom : s.domOn domCPH = true) (hread : s.canRead (.run n))
    (hen : s.flag (F.CX_CARDCFG_EN k) = true) (hvalid : ccValid cmd = true) : cardExchange k cmd s =
      (s.afterRead.setDmaRun n { d with started := true }).cardReset k
        { ring := n, header := cmd.take 8, apdu := (cmd.drop 8).take (ccLen cmd) } := by
  subst hn
  simp [cardExchange, hd, hkind, hstarted, hwaiting, hrun, hoff, hdom, withRead_canRead hread, hen, hvalid]

/-- The etu of 372 clocks, as its two fields read. -/
theorem State.etu_set (s : State) (k : CardPort) :
    ((s.setF (F.CX_CARDETU_F k) 372).setF (F.CX_CARDETU_D k) 1).getF (F.CX_CARDETU_F k) = 372 ∧
      ((s.setF (F.CX_CARDETU_F k) 372).setF (F.CX_CARDETU_D k) 1).getF (F.CX_CARDETU_D k) = 1 := by
  have hetu := defaultWord_CX_CARDETU k
  refine ⟨?_, State.getF_setF_listed (f := F.CX_CARDETU_D k) hetu (by simp) (by simp) (by simp) _⟩
  rw [State.getF_setF_listed_disjoint (f := F.CX_CARDETU_D k) (g := F.CX_CARDETU_F k) hetu (by simp) (by simp) (by simp) _ rfl
    (by simp) (by simp)]
  exact State.getF_setF_listed (f := F.CX_CARDETU_F k) hetu (by simp) (by simp) (by simp) s

/-- CARD_RST_N goes high 512 clocks after CARD_CLK runs, and the etu is 372 clocks (R266, R267). -/
theorem cardActivate_effect (hact : s.cardState k = cdACTIVATING) (hlow : (s.card k).rstHigh = false)
    (ht : (s.card k).since + (if (s.card k).clkOn then 0 else 200000) + s.cardClocks k 512 ≤ s.ns) :
    ((cardActivate k s).card k).rstHigh = true ∧ (cardActivate k s).getF (F.CX_CARDETU_F k) = 372 ∧
      (cardActivate k s).getF (F.CX_CARDETU_D k) = 1 := by
  have hdue : ¬(s.cardState k ≠ cdACTIVATING ∨ (s.card k).rstHigh = true ∨
      s.ns < (s.card k).since + ((if (s.card k).clkOn then 0 else 200000) + s.cardClocks k 512)) := by
    rw [hact, hlow]
    simp [← Nat.add_assoc, ht]
  unfold cardActivate
  extract_lets c wait s1
  rw [if_neg hdue]
  exact ⟨by simp, State.etu_set _ k⟩

theorem cardAtr_supported {bg t : Nat} {atr pps : List Byte} {a : AtrInfo} {r : CardRun} (hact : s.cardState k = cdACTIVATING)
    (hhigh : (s.card k).rstHigh = true) (hatr : readAtr atr = some a) (hprot : atrProtocol a (s.flag (F.CX_CARDCFG_TPREF k)) = some t)
    (h400 : 400 ≤ bg) (h40000 : bg ≤ 40000) (hsup : a.supported = true) (hcrc : a.crc = false)
    (hrun : (s.atrTake k a t pps).cardRun k = some r) :
    cardAtr k bg atr pps s = ((s.atrTake k a t pps).setCardState k cdREADY).cardStart k r := by
  simp [cardAtr, hact, hhigh, Nat.not_lt.mpr h400, Nat.not_lt.mpr h40000, hatr, hprot, hsup, hcrc, hrun]

theorem atrFail_due (hact : s.cardState k = cdACTIVATING) (hhigh : (s.card k).rstHigh = true)
    (ht : (s.card k).since + s.cardClocks k 40000 ≤ s.ns) : atrFail k s = s.atrFails k := by
  simp [atrFail, hact, hhigh, Nat.not_lt.mpr ht]

end

/-! ## An exchange under T=0 (R268, R269) -/

section
variable {k : CardPort} {s : State} {r : CardRun} (hrun : s.cardRun k = some r) (hex : s.cardState k = cdEXCHANGE)
include hrun

section
include hex

theorem cardCharacter_sw2 {x sw1 : Byte} (hopen : r.complete = false) (ht0 : s.cardT1 k = false) (hstage : r.stage = .sw2 sw1) :
    cardCharacter k x true s =
      (s.setCard k { s.card k with since := s.ns, signalled := none }).t0Status k { r with repeats := 0 } sw1 x := by
  simp [cardCharacter, hrun, hex, hopen, ht0, State.t0Char, hstage]

/-- The first error signal on a character sends it again (R269). -/
theorem cardErrorSignal_repeats {i : Nat} (ht0 : s.cardT1 k = false) (hi : i < (s.card k).lastSent.length)
    (hfirst : (s.card k).signalled = none) : cardErrorSignal k i s =
      ((s.emitOut (.cardSend k (((s.card k).lastSent.drop i).take 1))).bump (F.CX_CARDERR_PARITY k)).setCard k
        { s.card k with since := max (s.card k).since s.ns, signalled := some (i, 1) } := by
  have hrun' : (s.card k).run = some r := hrun
  simp [cardErrorSignal, hrun', hex, ht0, Nat.not_le.mpr hi, hfirst]

theorem cardTimeout_t0 (hopen : r.complete = false) (ht0 : s.cardT1 k = false)
    (ht : (s.card k).since + s.cardClocks k (960 * (s.card k).wi * s.getF (F.CX_CARDETU_F k)) ≤ s.ns) :
    cardTimeout k s = (s.bump (F.CX_CARDERR_TIMEOUT k)).cardFail k r csTIMEOUT := by
  simp [cardTimeout, hrun, hex, hopen, ht0, State.cardWait, Nat.not_lt.mpr ht]

end

/-- A complete response that fits, no key captured and the card left active: the rest of it, then the header (R270). -/
theorem cardExchangeEnd_responds {d : DescRun} {z : State} (hd : s.dmaRun r.ring = some d) (hcomplete : r.complete = true)
    (hkek : ccKek r.header = false) (hdeact : ccDeact r.header = false) (hfits : r.response.length + 8 ≤ dRespLen d.desc.words)
    (hz : z = (s.cardLast k csOK).setCardState k cdREADY) : cardExchangeEnd k s =
      ((z.cardWrite r (r.response.length - 2) r.flushed r.response.length).cardHead k r r.response.length csOK).exchangeEnd
        r.ring stOK (8 + r.response.length) := by
  have hroom : ¬dRespLen d.desc.words < 8 + r.response.length := by omega
  simp [cardExchangeEnd, hrun, hd, hcomplete, State.cardCapture, hkek, hdeact, hroom, hz]

end

theorem cardDeactivated_off {k : CardPort} {s : State} (h : s.cardState k = cdDEACTIVATING) :
    cardDeactivated k s = s.setCardState k cdOFF := if_pos h

/-! ## Limits of a queue, items of hardware producers, scrubbers and bank copies (R276, R278, R286, R287, R290) -/

section
variable {q : QueueId} {s : State}

theorem queueStale_due (h : s.staleDue q = true) : queueStale q s =
    ((s.setQst q { s.qst q with late := none }).setF (F.QM_QSTAT_STALE q) 1).notice ncQUEUE_STALE q
      [(16, q), (32, s.qUnread q), (64, (s.qst q).tr)] := if_pos h

theorem queueOpenExpired_discards {o : OpenItem} (hopen : (s.qst q).open_ = some o) (hhost : o.producer.isHost = true)
    (hlim : s.getF F.QM_OPENLIM_LIMIT ≠ 0) (ht : o.since + s.getF F.QM_OPENLIM_LIMIT * 100000 + 2000 ≤ s.ns) :
    queueOpenExpired q s = (((s.setF (F.QM_QWP_PTR q) o.header).setQst q { s.qst q with
      open_ := none, orphans := (s.qst q).orphans.filter (·.1 != o.producer) ++ [(o.producer, true)] }).qSettle q).notice
        ncQUEUE_OPEN_EXPIRED q [(16, q), (32, o.producer.field), (32, o.written)] := by
  simp [queueOpenExpired, hopen, hlim, hhost, State.expired, ht, State.qExpireOpen, State.qDiscardOpen]

theorem State.qHwItem_fits {prod : Producer} {item : List Word} (hus : s.qUsable q = true)
    (hflush : s.txn.flushes.contains q.val = false) (hopen : (s.qst q).open_ = none) (hroom : item.length ≤ s.qRoom q) :
    s.qHwItem q prod item =
      (((s.qPut q (s.qW q) item).qAdvanceW q item.length none).mirror (.queueWrite q item), true) := by
  have htake : s.qCanTake q item.length = true := by
    simp only [State.qCanTake, hus, hflush, hopen, hroom, Bool.not_false, Option.isNone_none, decide_true, Bool.and_self]
  rw [State.qHwItem, if_pos htake, Fin.ofNat_val_eq_self]

end

section
variable {b : PhysBank} {s : State} {o : Nat}

theorem scrubRead_due (ht : aget 0 s.queues.scrubDue b ≤ s.tick) (ho : o = aget 0 s.queues.scrubAt b) :
    scrubRead b .none s = s.scrubNext b o ∧ scrubRead b .single s = (s.corrected b (s.wordOfBank b o)).scrubNext b o ∧
      scrubRead b .double s = (s.poisoned b o (s.wordOfBank b o)).scrubNext b o := by
  subst ho
  have hdue := Nat.not_lt.mpr ht
  exact ⟨if_neg hdue, if_neg hdue, if_neg hdue⟩

end

theorem bankCopyDone_only {n : Nat} {c : BankCopy} {s : State} (h : s.queues.copies = [c]) (hn : c.isOf n = true)
    (ht : c.started + 65536 ≤ s.tick) :
    bankCopyDone n s = { s with queues := { s.queues with copies := [{ c with ended := true }] } } := by
  simp [bankCopyDone, h, hn, ht]

end Sys2Proof.Machine

namespace Sys2Proof
open Machine

/-- Settles O57: the end of the engine's only request, the card port's events in their order, and one equation for each queue event. -/
theorem cipherCardAndQueueEventsComplete : Obligations.CipherCardAndQueueEventsComplete := by
  intro g r f ep slot o key kb k cmd atr pps bg t i n x sw1 a d cr q bank hw body oi bc s z
  refine ⟨fun hreqs hheld htag hopen hcur hz => ⟨fun hjob hlevel hprev hright =>
        next_congr ((frameVerified_only hreqs htag hopen hheld hz hjob).trans (State.verifyEnd_current_only hlevel hcur hprev hright)),
      fun hjob => next_congr ((frameSecured_only hreqs htag hopen hheld hz hjob).trans (State.relayEnd_secured hcur z o))⟩,
    fun hn hd hkind hstarted hwaiting hrun hoff hdom hread hen hvalid hcr => ?exchange,
    fun hact => ⟨fun hlow ht => ⟨_, rfl, cardActivate_effect hact hlow ht⟩,
      fun hhigh => ⟨?atr, fun ht => next_congr (atrFail_due hact hhigh ht)⟩⟩,
    fun hrun hex hopen ht0 => ⟨fun hstage => next_congr (cardCharacter_sw2 hrun hex hopen ht0 hstage),
      fun hi hfirst => next_congr (cardErrorSignal_repeats hrun hex ht0 hi hfirst),
      fun ht => next_congr (cardTimeout_t0 hrun hex hopen ht0 ht)⟩,
    fun hrun hd hcomplete hkek hdeact hfits hz => next_congr (cardExchangeEnd_responds hrun hd hcomplete hkek hdeact hfits hz),
    fun h => next_congr (cardDeactivated_off h), fun h => ⟨_, next_congr (queueStale_due h), rfl⟩,
    fun hopen hhost hlim ht => next_congr (queueOpenExpired_discards hopen hhost hlim ht),
    fun hus hflush hopen hroom => next_congr (congrArg Prod.fst (State.qHwItem_fits hus hflush hopen hroom)),
    fun ht hn => ?scrub, fun h hn ht => next_congr (bankCopyDone_only h hn ht)⟩
  case exchange =>
    subst hcr
    exact ⟨_, next_congr (cardExchange_activates hn hd hkind hstarted hwaiting hrun hoff hdom hread hen hvalid),
      State.cardReset_effect _ k _⟩
  case atr =>
    intro hatr hprot h400 h40000 hsup hcrc hz hrun
    subst hz
    exact next_congr (cardAtr_supported hact hhigh hatr hprot h400 h40000 hsup hcrc hrun)
  case scrub =>
    obtain ⟨hnone, hsingle, hdouble⟩ := scrubRead_due ht hn
    exact ⟨next_congr hnone, next_congr hsingle, next_congr hdouble⟩

end Sys2Proof

/-! Key loads and cipher requests (O21, O23): what a key load changes of its slot and what it leaves, then the CIPHER command's
refusals and start, and how the engine's only request of a host ends. -/

namespace Sys2Proof.Machine
open Sys2Proof

/-! ## The checks of a key load (R257) -/

section
variable {s : State} {w : List Word} {session : Option Nat}

theorem klForm_false_of_reserved (h : 4 ≤ klOp w ∨ slotOk (klTarget w) = false ∨ (klTarget w < 2 ^ 17 ∧ klSize w = 1)) :
    klForm w = false := by
  rcases h with hop | hslot | ⟨hendpoint, hsize⟩
  · simp [klForm, Nat.not_lt.mpr hop]
  · simp [klForm, hslot]
  · have hslot : isDrawer (klTarget w) = false := decide_eq_false (Nat.not_le.mpr hendpoint)
    simp [klForm, hslot, hsize]

theorem State.checkLoad_of_bad_form (h : klForm w = false) : s.checkLoad w session = (stINVALID_VALUE, []) := by
  simp [State.checkLoad, h]

/-- A ROLL or REPLACE under a drawer that is no KEK of the session. -/
theorem State.checkLoad_without_kek (h : klForm w = true) (hop : klOp w < 2) (hkek : s.drawerUse (klKek w) useKEK session = false) :
    s.checkLoad w session = (stKEY_USE, []) := by
  simp [State.checkLoad, h, Nat.not_le.mpr hop, hkek]

end

section
variable {s : State} {c : Cmd} {w : List Word} {st : Nat} {key : List Byte} (hrun : s.runs c opKEY_LOAD)
include hrun

theorem exec_keyLoad_refused (hcheck : s.checkLoad w (some c.session.val) = (st, key)) (hst : st ≠ stOK) :
    exec (.keyLoad c w) s = .next (s.complete c opKEY_LOAD st) := by
  refine next_congr ((command_runs hrun _).trans ?_)
  simp [State.keyLoad, hcheck, hst]

theorem exec_keyLoad_accepted (hcheck : s.checkLoad w (some c.session.val) = (stOK, key)) {t : State}
    (ht : t = s.loadKey (klTarget w) (klOp w) key) : exec (.keyLoad c w) s =
      .next (t.complete c opKEY_LOAD stOK [BitVec.ofNat 32 (t.getF (slGEN (klTarget w)))]) := by
  subst ht
  refine next_congr ((command_runs hrun _).trans ?_)
  simp [State.keyLoad, hcheck]

end

/-! ## What changes of one slot leave as it was (R254, R259) -/

/-- What may follow a change of slot `n`: its two generations, its status word below AUTHFAIL, and what the requests on it that
start in this tick see. -/
structure State.SlotChange (n : Nat) (s t : State) : Prop where
  sound : t.sound = true
  words : s.wordsKept t [slotWord n]
  authFail : t.getF (slAUTHFAIL n) = s.getF (slAUTHFAIL n)
  keys : ∀ m, m ≠ n → t.keysOf m = s.keysOf m
  frame : t = { s with map := t.map, cipher := { s.cipher with keys := t.cipher.keys, reqs := t.cipher.reqs } }
  reqs : ∀ r ∈ s.cipher.reqs, r.slot ≠ n ∨ r.started ≠ s.ns → r ∈ t.cipher.reqs

section
variable {n : Nat} {s t : State}

theorem State.SlotChange.refl (hs : s.sound = true) : State.SlotChange n s s where
  sound := hs
  words _ _ := rfl
  authFail := rfl
  keys _ _ := rfl
  frame := rfl
  reqs _ hr _ := hr

theorem State.SlotChange.ns (h : State.SlotChange n s t) : t.ns = s.ns := by
  rw [h.frame]; rfl

/-- A field of the slot's status word below AUTHFAIL written. -/
theorem State.SlotChange.setF (h : State.SlotChange n s t) {f : Fld} (v : Nat) (ha : f.addr = slotWord n) (hle : f.lo ≤ f.hi)
    (hlow : f.hi < 16) : State.SlotChange n s (t.setF f v) where
  sound := t.sound_setF f v h.sound
  words := h.words.trans (t.wordsKept_setF v (by simp [ha]))
  authFail := (t.getF_setF_disjoint f _ v h.sound ha.symm hle (by omega) (by simp [slAUTHFAIL]) (.inl hlow)).trans h.authFail
  keys := h.keys
  frame := by rw [h.frame]; rfl
  reqs := h.reqs

theorem State.SlotChange.setRolling (h : State.SlotChange n s t) (v : Nat) : State.SlotChange n s (t.setF (slROLLING n) v) :=
  h.setF v rfl (by simp [slROLLING]) (by simp [slROLLING])

theorem State.SlotChange.bumpGen (h : State.SlotChange n s t) : State.SlotChange n s (t.bumpGen n) :=
  h.setF _ rfl (by simp [slGEN]) (by simp [slGEN])

theorem State.SlotChange.setKeys (h : State.SlotChange n s t) (g : KeyGens) : State.SlotChange n s (t.setKeys n g) := by
  have hkeys : State.SlotChange n s { t with cipher := { t.cipher with keys := aset t.cipher.keys n g } } := {
    sound := h.sound, words := h.words, authFail := h.authFail, reqs := h.reqs
    keys := fun m hm => (aget_aset_other _ _ _ _ _ hm).trans (h.keys m hm)
    frame := by rw [h.frame] }
  exact (hkeys.setF (f := slCUR n) _ rfl (by simp [slCUR]) (by simp [slCUR])).setF (f := slPREV n) _ rfl (by simp [slPREV])
    (by simp [slPREV])

/-- Requests on another slot, or that started in an earlier tick, keep the keys they captured (R259). -/
theorem State.SlotChange.recapture (h : State.SlotChange n s t) : State.SlotChange n s (t.recapture n) where
  sound := h.sound
  words := h.words
  authFail := h.authFail
  keys := h.keys
  frame := by rw [h.frame]; rfl
  reqs r hr hother := List.mem_map.mpr ⟨r, h.reqs r hr hother, if_neg (Classical.not_and_iff_not_or_not.mpr (h.ns ▸ hother))⟩

end

/-! ## What each operation makes of its slot (R255, R256) -/

theorem keyKind_lt_four (k : Option (List Byte)) : keyKind k < 4 := by
  unfold keyKind
  split
  · decide
  · split <;> decide

@[simp] theorem State.recapture_keysOf (s : State) (n m : Nat) : (s.recapture n).keysOf m = s.keysOf m := rfl

@[simp] theorem State.setF_keysOf (s : State) (f : Fld) (v m : Nat) : (s.setF f v).keysOf m = s.keysOf m := rfl

@[simp] theorem State.bumpGen_keysOf (s : State) (n m : Nat) : (s.bumpGen n).keysOf m = s.keysOf m := rfl

@[simp] theorem State.setKeys_keysOf_same (s : State) (n : Nat) (g : KeyGens) : (s.setKeys n g).keysOf n = g :=
  aget_aset_same _ _ _ _

/-- What a slot's status word shows of it, beside AUTHFAIL (R254). -/
structure SlotShown where
  cur : Nat
  prev : Nat
  rolling : Nat
  gen : Nat

def State.slotShown (s : State) (n : Nat) : SlotShown :=
  { cur := s.getF (slCUR n), prev := s.getF (slPREV n), rolling := s.getF (slROLLING n), gen := s.getF (slGEN n) }

@[simp] theorem State.recapture_slotShown (s : State) (n m : Nat) : (s.recapture n).slotShown m = s.slotShown m := rfl

section
variable {n : Nat} {s : State} (hs : s.sound = true)
include hs

/-- Bits [k:l] of a word after bits [i:j] of it are set. -/
theorem State.getF_setF_beside {a i j k l : Nat} (v : Nat) (h : j ≤ i) (h32 : i < 32) (hle : l ≤ k) (hd : i < l ∨ k < j) :
    (s.setF ⟨a, i, j⟩ v).getF ⟨a, k, l⟩ = s.getF ⟨a, k, l⟩ :=
  s.getF_setF_disjoint ⟨a, i, j⟩ ⟨a, k, l⟩ v hs rfl h h32 hle hd

theorem State.slotShown_setCurPrev (v v' : Nat) :
    ((s.setF (slCUR n) v).setF (slPREV n) v').slotShown n = { s.slotShown n with cur := v % 4, prev := v' % 4 } := by
  simp [State.slotShown, slCUR, slPREV, slROLLING, slGEN, State.getF_setF_beside, State.getF_setF_same, State.sound_setF, hs]

theorem State.slotShown_setRolling (v : Nat) :
    (s.setF (slROLLING n) v).slotShown n = { s.slotShown n with rolling := v % 2 } := by
  simp [State.slotShown, slCUR, slPREV, slROLLING, slGEN, State.getF_setF_beside hs, State.getF_setF_same _ _ _ hs]

theorem State.slotShown_bumpGen :
    (s.bumpGen n).slotShown n = { s.slotShown n with gen := ((s.slotShown n).gen + 1) % 256 } := by
  simp [State.bumpGen, State.slotShown, slCUR, slPREV, slROLLING, slGEN, State.getF_setF_beside hs, State.getF_setF_same _ _ _ hs]

theorem State.slotShown_setKeys (g : KeyGens) :
    (s.setKeys n g).slotShown n = { s.slotShown n with cur := keyKind g.cur, prev := keyKind g.prev } := by
  refine (State.slotShown_setCurPrev hs _ _).trans ?_
  rw [Nat.mod_eq_of_lt (keyKind_lt_four g.cur), Nat.mod_eq_of_lt (keyKind_lt_four g.prev)]

end

section
variable {s : State} (hs : s.sound = true) (n : Nat) (key : List Byte)
include hs

theorem State.loadKey_slotChange (op : Nat) : State.SlotChange n s (s.loadKey n op key) := by
  have hrefl := State.SlotChange.refl (n := n) hs
  unfold State.loadKey
  refine State.SlotChange.recapture ?_
  dsimp only
  split
  · exact ((hrefl.setKeys _).setRolling 1).bumpGen
  · exact (hrefl.setKeys _).bumpGen
  · exact (hrefl.setKeys _).setRolling 0
  · split
    · exact hrefl
    · exact ((hrefl.setKeys _).setRolling 0).bumpGen

/-- ROLL: the new key is current, the old current key previous. -/
theorem State.loadKey_roll : (s.loadKey n 0 key).keysOf n = { cur := some key, prev := (s.keysOf n).cur, rolled := s.ns } ∧
    (s.loadKey n 0 key).slotShown n = {
      cur := keyKind (some key), prev := keyKind (s.keysOf n).cur, rolling := 1, gen := (s.getF (slGEN n) + 1) % 256 } := by
  have hkeys := (State.SlotChange.refl (n := n) hs).setKeys { cur := some key, prev := (s.keysOf n).cur, rolled := s.ns }
  simp only [State.loadKey, State.recapture_keysOf, State.bumpGen_keysOf, State.setF_keysOf, State.setKeys_keysOf_same,
    State.recapture_slotShown, State.slotShown_bumpGen (hkeys.setRolling 1).sound, State.slotShown_setRolling hkeys.sound,
    State.slotShown_setKeys hs]
  exact ⟨trivial, rfl⟩

theorem State.loadKey_replace : (s.loadKey n 1 key).keysOf n = { s.keysOf n with cur := some key } ∧
    (s.loadKey n 1 key).slotShown n = { s.slotShown n with
      cur := keyKind (some key), prev := keyKind (s.keysOf n).prev, gen := (s.getF (slGEN n) + 1) % 256 } := by
  have hkeys := (State.SlotChange.refl (n := n) hs).setKeys { s.keysOf n with cur := some key }
  simp only [State.loadKey, State.recapture_keysOf, State.bumpGen_keysOf, State.setKeys_keysOf_same,
    State.recapture_slotShown, State.slotShown_bumpGen hkeys.sound, State.slotShown_setKeys hs]
  exact ⟨trivial, rfl⟩

theorem State.loadKey_endRoll : (s.loadKey n 2 key).keysOf n = { s.keysOf n with prev := none } ∧
    (s.loadKey n 2 key).slotShown n = { s.slotShown n with cur := keyKind (s.keysOf n).cur, prev := 0, rolling := 0 } := by
  have hkeys := (State.SlotChange.refl (n := n) hs).setKeys { s.keysOf n with prev := none }
  simp only [State.loadKey, State.recapture_keysOf, State.setF_keysOf, State.setKeys_keysOf_same,
    State.recapture_slotShown, State.slotShown_setRolling hkeys.sound, State.slotShown_setKeys hs]
  exact ⟨trivial, rfl⟩

/-- CLEAR of a slot that holds a key. -/
theorem State.loadKey_clear (hheld : (s.keysOf n).cur ≠ none ∨ (s.keysOf n).prev ≠ none) :
    (s.loadKey n 3 key).keysOf n = {} ∧
    (s.loadKey n 3 key).slotShown n = { cur := 0, prev := 0, rolling := 0, gen := (s.getF (slGEN n) + 1) % 256 } := by
  have hkeys := (State.SlotChange.refl (n := n) hs).setKeys {}
  have hsome : ¬((s.keysOf n).cur.isNone && (s.keysOf n).prev.isNone) = true := by
    rw [Bool.and_eq_true, Option.isNone_iff_eq_none, Option.isNone_iff_eq_none]
    exact Classical.not_and_iff_not_or_not.mpr hheld
  simp only [State.loadKey, if_neg hsome, State.recapture_keysOf, State.bumpGen_keysOf, State.setF_keysOf,
    State.setKeys_keysOf_same, State.recapture_slotShown, State.slotShown_bumpGen (hkeys.setRolling 0).sound,
    State.slotShown_setRolling hkeys.sound, State.slotShown_setKeys hs]
  exact ⟨trivial, rfl⟩

end

/-- CLEAR of an empty slot changes neither it nor the map. -/
theorem State.loadKey_clear_empty {s : State} {n : Nat} (hcur : (s.keysOf n).cur = none) (hprev : (s.keysOf n).prev = none)
    (key : List Byte) : s.loadKey n 3 key = s.recapture n := by
  simp [State.loadKey, hcur, hprev]

/-! ## The end of a rollover window (R256) -/

section
variable {k : KeySlot} {s : State}

theorem rollWindowExpiry_due (hroll : s.flag (slROLLING k.name) = true) (hwin : s.getF F.CX_ROLLCFG_WINDOW ≠ 0)
    (ht : (s.keysOf k.name).rolled + 60000000000 * s.getF F.CX_ROLLCFG_WINDOW ≤ s.ns) :
    rollWindowExpiry k s = s.loadKey k.name 2 [] :=
  if_pos ⟨hroll, hwin, by rwa [Nat.mul_comm]⟩

theorem rollWindowExpiry_idle (h : s.getF F.CX_ROLLCFG_WINDOW = 0 ∨
    s.ns < (s.keysOf k.name).rolled + 60000000000 * s.getF F.CX_ROLLCFG_WINDOW) : rollWindowExpiry k s = s := by
  refine if_neg ?_
  rintro ⟨-, hwin, ht⟩
  rw [Nat.mul_comm] at ht
  exact h.elim hwin (Nat.not_lt.mpr ht)

end

end Sys2Proof.Machine

namespace Sys2Proof
open Machine

/-- Settles O21: the checks in their order, what a load keeps beside its slot, and what each operation makes of the slot. -/
theorem keyLoadsAndTheRolloverWindow : Obligations.KeyLoadsAndTheRolloverWindow := by
  rintro c w k s n st key g hs rfl rfl hcheck hrun
  refine ⟨fun hst => exec_keyLoad_refused hrun hcheck hst, fun hbad => ?form, fun hform hop hkek => ?kek, ?loaded,
    fun hroll hwin ht => ?expired, fun h => next_congr (rollWindowExpiry_idle h)⟩
  case form =>
    rw [State.checkLoad_of_bad_form (klForm_false_of_reserved hbad)] at hcheck
    exact (congrArg Prod.fst hcheck).symm
  case kek =>
    rw [State.checkLoad_without_kek hform hop hkek] at hcheck
    exact (congrArg Prod.fst hcheck).symm
  case loaded =>
    rintro rfl
    have hkept := State.loadKey_slotChange hs (klTarget w) key (klOp w)
    refine ⟨_, exec_keyLoad_accepted hrun hcheck rfl, hkept.words, hkept.keys, hkept.frame, hkept.reqs, hkept.authFail,
      fun hop => ?roll, fun hop => ?replace, fun hop => ?endRoll,
      fun hop => ⟨fun hheld => ?clear, fun hcur hprev => ?empty⟩⟩ <;> rw [hop]
    case roll =>
      obtain ⟨hkeys, hshown⟩ := State.loadKey_roll hs (klTarget w) key
      exact ⟨hkeys, congrArg SlotShown.rolling hshown, congrArg SlotShown.cur hshown, congrArg SlotShown.prev hshown,
        congrArg SlotShown.gen hshown⟩
    case replace =>
      obtain ⟨hkeys, hshown⟩ := State.loadKey_replace hs (klTarget w) key
      exact ⟨hkeys, congrArg SlotShown.rolling hshown, congrArg SlotShown.cur hshown, congrArg SlotShown.gen hshown⟩
    case endRoll =>
      obtain ⟨hkeys, hshown⟩ := State.loadKey_endRoll hs (klTarget w) key
      exact ⟨hkeys, congrArg SlotShown.rolling hshown, congrArg SlotShown.prev hshown, congrArg SlotShown.gen hshown⟩
    case clear =>
      obtain ⟨hkeys, hshown⟩ := State.loadKey_clear hs (klTarget w) key hheld
      exact ⟨hkeys, congrArg SlotShown.cur hshown, congrArg SlotShown.prev hshown, congrArg SlotShown.rolling hshown,
        congrArg SlotShown.gen hshown⟩
    case empty =>
      rw [State.loadKey_clear_empty hcur hprev]
      exact ⟨rfl, rfl⟩
  case expired =>
    obtain ⟨hkeys, hshown⟩ := State.loadKey_endRoll hs k.name []
    exact ⟨_, next_congr (rollWindowExpiry_due hroll hwin ht), hkeys, congrArg SlotShown.rolling hshown,
      congrArg SlotShown.prev hshown, congrArg SlotShown.gen hshown, (State.loadKey_slotChange hs k.name [] 2).words⟩

end Sys2Proof

namespace Sys2Proof.Machine
open Sys2Proof

/-! ## The CIPHER command (R253, R265) -/

section
variable {s : State} {c : Cmd} {w : List Word}

theorem exec_cipher_runs (hrun : s.runs c opCIPHER) : exec (.cipher c w) s = .next (s.cipherCmd c w) :=
  next_congr (command_runs hrun _)

theorem State.cipherCmd_refused {st : Nat} (h : s.cipherRefused c.session w = some st) (hst : st ≠ stCIPHER_FULL) :
    s.cipherCmd c w = s.complete c opCIPHER st := by
  simp [State.cipherCmd, h, hst]

theorem State.cipherCmd_full (h : s.cipherRefused c.session w = some stCIPHER_FULL) :
    s.cipherCmd c w = (s.bump F.CX_QSTAT_FULL).complete c opCIPHER stCIPHER_FULL := by
  simp [State.cipherCmd, h]

theorem State.cipherCmd_starts (h : s.cipherRefused c.session w = none) :
    s.cipherCmd c w = s.cipherStart (rqSession c.session) clHOST (.host c w) (cqSlot w) 0 := by
  simp [State.cipherCmd, h]

variable {n : Nat}

theorem State.cipherRefused_form (h : cqForm w = false) : s.cipherRefused n w = some stINVALID_VALUE := by
  simp [State.cipherRefused, h]

/-- An endpoint key is for CCM alone. -/
theorem State.cipherRefused_use (h : cqForm w = true) (hslot : isDrawer (cqSlot w) = false) (hop : 3 ≤ cqOp w) :
    s.cipherRefused n w = some stKEY_USE := by
  simp [State.cipherRefused, h, hslot, show ¬cqOp w ≤ 2 by omega]

/-- With a form, a use and a current key that pass, the domain and the room in the engine decide. -/
theorem State.cipherRefused_of_key (h : cqForm w = true) (hslot : isDrawer (cqSlot w) = false) (hop : cqOp w < 3)
    (hkey : (s.keysOf (cqSlot w)).cur ≠ none) (hgen : cqGen w = false) : s.cipherRefused n w =
      if s.domOn domCPH = false then some stDOMAIN_DOWN
      else if 1024 ≤ s.cipher.reqs.length then some stCIPHER_FULL else none := by
  simp [State.cipherRefused, State.cipherFull, h, hslot, Nat.le_of_lt_succ hop, hkey, hgen]

/-- A request that takes tag `g` is the engine's last, with the keys of its slot as they now are (R259). -/
theorem State.cipherStart_takes {t : State} {g : Nat} (htag : s.takeTag tcCIPHER = (t, some g)) (hcipher : t.cipher = s.cipher)
    (hdt : t.dt = s.dt) (rq : Requester) (cls : Nat) (job : CipherJob) (slot counter : Nat) : ∃ q,
      s.cipherStart rq cls job slot counter = { t with cipher := { s.cipher with reqs := s.cipher.reqs ++ [q] } } ∧
      q.tag = g ∧ q.requester = rq ∧ q.cls = cls ∧ q.job = job ∧ q.ended = none ∧ q.cur = (s.keysOf slot).cur ∧
      q.prev = (s.keysOf slot).prev ∧ q.started = s.ns := by
  have hkeys : t.keysOf slot = s.keysOf slot := by rw [State.keysOf, hcipher]; rfl
  have hns : t.ns = s.ns := by rw [State.ns, hdt]; rfl
  simp only [State.cipherStart, htag, hkeys, hns, hcipher]
  exact ⟨_, rfl, rfl, rfl, rfl, rfl, rfl, rfl, rfl, rfl⟩

end

/-! ## The end of a host's request (R250, R265) -/

section
variable {e : OpTag} {r : CipherReq} {s x : State} {c : Cmd} {w : List Word} {key : List Byte} (hreqs : s.cipher.reqs = [r])
  (htag : r.tag = e.val) (hopen : r.ended = none) (hheld : s.cipher.held = [])
  (hx : x = ({ s with cipher := { s.cipher with reqs := [] } } : State).giveTag e) (hjob : r.job = .host c w)
  (hgen : cqGen w = false) (hcur : r.cur = some key) (spare : Nat)
include hreqs htag hopen hheld hx hjob hgen hcur

theorem cipherDone_agreed : cipherDone e true spare s = State.answer (x.cipherRun w key) c opCIPHER := by
  simp [cipherDone, State.cipherReq_only hreqs htag hopen, State.requestEnded_only hreqs htag, State.jobEnd, hjob,
    ← State.cipherLeave_only htag hheld hx (some true), State.hostEnd, hgen, hcur]

/-- Where its blocks differ the result is withheld, the input released and the mismatch charged. -/
theorem cipherDone_differed : cipherDone e false spare s =
    ((x.takeInput (cqIn w)).complete c opCIPHER stCIPHER_FAULT).mismatch r.pair r.cls spare := by
  simp [cipherDone, State.cipherReq_only hreqs htag hopen, State.requestEnded_only hreqs htag, State.jobEnd, hjob,
    ← State.cipherLeave_only htag hheld hx (some false), State.hostEnd, hgen, hcur]

end

/-! ## A host's request on its input item (R265, R277) -/

@[simp] theorem length_bytesLE (n v : Nat) : (bytesLE n v).length = n := by
  induction n generalizing v with
  | zero => rfl
  | succ n ih => rw [bytesLE, List.length_cons, ih]

@[simp] theorem length_bytesOfWords (l : List Word) : (bytesOfWords l).length = 4 * l.length := by
  induction l with
  | nil => rfl
  | cons w l ih =>
    have hcons : bytesOfWords (w :: l) = bytesLE 4 w.toNat ++ bytesOfWords l := rfl
    rw [hcons, List.length_append, ih, length_bytesLE, List.length_cons, Nat.mul_succ, Nat.add_comm]

theorem State.cipherRun_without_item {x : State} {w : List Word} (h : x.qUsable (cqIn w) = false) (key : List Byte) :
    x.cipherRun w key = (x, stITEM_SHORT) := by
  simp [State.cipherRun, h]

section
variable {x : State} {w it : List Word} (husable : x.qUsable (cqIn w) = true) (hhead : x.qHeadLost (cqIn w) = false)
  (hfront : x.qFront (cqIn w) = some it) (hclean : x.qPoisoned (cqIn w) (x.qR (cqIn w)) it.length = false) (key : List Byte)
include husable hhead hfront hclean

theorem State.cipherRun_short (hshort : 4 * (it.length - 1) < cqNeed w) :
    x.cipherRun w key = (x.takeInput (cqIn w), stITEM_SHORT) := by
  simp [State.cipherRun, husable, hhead, hfront, hclean, hshort]

variable (hlong : cqNeed w ≤ 4 * (it.length - 1))
include hlong

/-- A tag that does not verify: the input is released and the failure counted. -/
theorem State.cipherRun_unverified (hresult : cqResult w key (bytesOfWords (it.drop 1)) = none) :
    x.cipherRun w key = ((x.takeInput (cqIn w)).bump F.CX_AUTHFAIL_HOST, stAUTH_FAIL) := by
  rw [List.drop_one] at hresult
  simp [State.cipherRun, husable, hhead, hfront, hclean, Nat.not_lt.mpr hlong, hresult]

/-- The input is released only where the output item was written whole. -/
theorem State.cipherRun_output {o : List Byte} {y : State × Bool} (hresult : cqResult w key (bytesOfWords (it.drop 1)) = some o)
    (hput : x.qHwItem (cqOut w) (.hw 7 0) (itemOf (wordsOfBytes o)) = y) :
    x.cipherRun w key = if y.2 = true then (y.1.takeInput (cqIn w), stOK) else (y.1, stOUT_FULL) := by
  obtain ⟨z, written⟩ := y
  rw [List.drop_one] at hresult
  cases written <;> simp [State.cipherRun, husable, hhead, hfront, hclean, Nat.not_lt.mpr hlong, hresult, hput]

end

end Sys2Proof.Machine

namespace Sys2Proof
open Machine

/-- Settles O23: the refusals in their order and the start, then the end of the engine's only request by its input item. -/
theorem cipherRequests : Obligations.CipherRequests := by
  intro c w s t x g r it key e spare
  refine ⟨fun hrun => ⟨fun hform => ?form, fun hform hslot hop => ?use, fun hform hslot hop hkey hgen => ?keyed⟩,
    fun hreqs hheld htag hopen hjob hgen hcur hx => ?done⟩
  case form =>
    have hrefused := State.cipherRefused_form (s := s) (n := c.session) hform
    exact (exec_cipher_runs hrun).trans (next_congr (State.cipherCmd_refused hrefused (by decide)))
  case use =>
    have hrefused := State.cipherRefused_use (s := s) (n := c.session) hform hslot hop
    exact (exec_cipher_runs hrun).trans (next_congr (State.cipherCmd_refused hrefused (by decide)))
  case keyed =>
    have hrefused := State.cipherRefused_of_key (n := c.session) hform hslot hop hkey hgen
    rw [exec_cipher_runs hrun]
    refine ⟨fun hdown => ?down, fun hon hfull => ?full, fun hon hroom htake hcipher _ hdt => ?starts⟩
    case down =>
      rw [if_pos hdown] at hrefused
      exact next_congr (State.cipherCmd_refused hrefused (by decide))
    case full =>
      rw [if_neg (by simp [hon]), if_pos hfull] at hrefused
      exact next_congr (State.cipherCmd_full hrefused)
    case starts =>
      rw [if_neg (by simp [hon]), if_neg (Nat.not_le.mpr hroom)] at hrefused
      obtain ⟨q, hstart, hq⟩ := State.cipherStart_takes htake hcipher hdt (rqSession c.session) clHOST (.host c w) (cqSlot w) 0
      exact ⟨q, next_congr ((State.cipherCmd_starts hrefused).trans hstart), hq⟩
  case done =>
    have hends {y : State} {st : Nat} (hy : x.cipherRun w key = (y, st)) :
        exec (.cipherDone e true spare) s = .next (y.complete c opCIPHER st) :=
      next_congr ((cipherDone_agreed hreqs htag hopen hheld hx hjob hgen hcur spare).trans (by rw [hy]; rfl))
    refine ⟨fun husable hhead hfront hclean => ⟨fun hshort => ?short,
        fun hlong _ => ⟨fun hresult => ?unverified, fun o hresult => ?output⟩⟩,
      fun husable => hends (State.cipherRun_without_item husable key),
      next_congr (cipherDone_differed hreqs htag hopen hheld hx hjob hgen hcur spare)⟩
    case short => exact hends (State.cipherRun_short husable hhead hfront hclean key hshort)
    case unverified => exact hends (State.cipherRun_unverified husable hhead hfront hclean key hlong hresult)
    case output =>
      have hrun := State.cipherRun_output husable hhead hfront hclean key hlong hresult rfl
      exact ⟨fun hwritten => hends (hrun.trans (if_pos hwritten)),
        fun hlost => hends (hrun.trans (if_neg (ne_true_of_eq_false hlost)))⟩

end Sys2Proof

/-! What every operation of the block keeps (O4, O5): the queue of waiting commands as it was, and both memories in canonical form.
One lemma for each operation, in the order of the model's text; each follows the operations it calls. -/

namespace Sys2Proof.Machine
open Sys2Proof

/-- What a state `s` made from `z` keeps of it: the queue of waiting commands (R300), and the canonical form of both memories
(R275, R394). -/
structure Keeps (z s : State) : Prop where
  pending : s.pending = z.pending
  sound : z.sound = true → s.sound = true

/-- The outcome of a command or event keeps that of `z` where it is a next state. -/
def KeepsOut (z : State) (r : Result) : Prop := ∀ t, r = .next t → Keeps z t

section
variable {z s : State}

theorem Keeps.refl : Keeps s s := ⟨rfl, id⟩

theorem Keeps.next (h : Keeps z s) : KeepsOut z (.next s) := by
  rintro t ⟨⟩
  exact h

theorem KeepsOut.next (h : Keeps z s) : KeepsOut z (.next s) := h.next

/-! ## The shapes an operation is built from -/

theorem Keeps.ite {c : Prop} [Decidable c] {a b : State} (ha : Keeps z a) (hb : Keeps z b) : Keeps z (if c then a else b) := by
  split <;> assumption

theorem KeepsOut.ite {c : Prop} [Decidable c] {a b : Result} (ha : KeepsOut z a) (hb : KeepsOut z b) :
    KeepsOut z (if c then a else b) := by
  split <;> assumption

theorem Keeps.iteFst {α : Type} {c : Prop} [Decidable c] {a b : State × α} (ha : Keeps z a.1) (hb : Keeps z b.1) :
    Keeps z (if c then a else b).1 := by
  split <;> assumption

theorem Keeps.ofFst {α : Type} {p : State × α} {b : α} (h : Keeps z p.1) (e : p = (s, b)) : Keeps z s := by
  rw [e] at h
  exact h

theorem Keeps.foldl {α : Type} {f : State → α → State} {l : List α} (h : Keeps z s) (hf : ∀ t a, Keeps z t → Keeps z (f t a)) :
    Keeps z (l.foldl f s) := by
  induction l generalizing s with
  | nil => exact h
  | cons a l ih => exact ih (hf s a h)

theorem Keeps.foldlFst {α β : Type} {f : State × β → α → State × β} {l : List α} {p : State × β} (h : Keeps z p.1)
    (hf : ∀ t a, Keeps z t.1 → Keeps z (f t a).1) : Keeps z (l.foldl f p).1 := by
  induction l generalizing p with
  | nil => exact h
  | cons a l ih => exact ih (hf p a h)

/-- A state that differs neither in the two memories nor in the queue of waiting commands. -/
theorem Keeps.upd (h : Keeps z s) {tick dt fresh out notices host queues faults service mode domains fuse struct_ tags ref mains launch
    sample plc chirp radio cipher bench txn} : Keeps z { s with
      tick := tick, dt := dt, fresh := fresh, out := out, notices := notices, host := host, queues := queues, faults := faults,
      service := service, mode := mode, domains := domains, fuse := fuse, struct_ := struct_, tags := tags, ref := ref, mains := mains,
      launch := launch, sample := sample, plc := plc, chirp := chirp, radio := radio, cipher := cipher, bench := bench, txn := txn } :=
  ⟨h.pending, h.sound⟩

/-! ### Words, fields, notices and completions (Machine/Ops) -/

theorem Keeps.setWord {a w} (h : Keeps z s) : Keeps z (s.setWord a w) := ⟨h.pending, fun hz => State.sound_setWord _ _ _ (h.sound hz)⟩
theorem Keeps.setF {f v} (h : Keeps z s) : Keeps z (s.setF f v) := h.setWord
theorem Keeps.bump {f n} (h : Keeps z s) : Keeps z (s.bump f n) := h.setF
theorem Keeps.setQword {w v} (h : Keeps z s) : Keeps z (s.setQword w v) := ⟨h.pending, fun hz => State.sound_setQword _ _ _ (h.sound hz)⟩
theorem Keeps.emitOut {o} (h : Keeps z s) : Keeps z (s.emitOut o) := h.upd
theorem Keeps.hand {n} (h : Keeps z s) : Keeps z (s.hand n) := .ite h.upd.bump h.upd
theorem Keeps.mergeSpan {sp n} (h : Keeps z s) : Keeps z (s.mergeSpan sp n) := .ite h.upd.hand h.upd
theorem Keeps.firstOccurrence {n} (h : Keeps z s) : Keeps z (s.firstOccurrence n) := .ite h.hand.upd h.hand.bump

theorem Keeps.place {n} (h : Keeps z s) : Keeps z (s.place n) := by
  unfold State.place
  split
  · exact h.hand
  · split
    · exact h.upd
    · split
      · exact h.mergeSpan
      · exact h.firstOccurrence

theorem Keeps.noticeAt {t code unit payload ext} (h : Keeps z s) : Keeps z (s.noticeAt t code unit payload ext) := h.place
theorem Keeps.notice {code unit payload ext} (h : Keeps z s) : Keeps z (s.notice code unit payload ext) := h.noticeAt
theorem Keeps.complete {c op st res} (h : Keeps z s) : Keeps z (s.complete c op st res) := .ite h.upd (.ite h.upd h.upd)
theorem Keeps.mirror {r} (h : Keeps z s) : Keeps z (s.mirror r) := .ite h.upd h
theorem Keeps.freshWord (h : Keeps z s) : Keeps z (s.freshWord).2 := h.upd

/-! ### Queues (Machine/QueueOps) -/

theorem Keeps.setQst {q x} (h : Keeps z s) : Keeps z (s.setQst q x) := h.upd

theorem Keeps.qPut {q p l} (h : Keeps z s) : Keeps z (s.qPut q p l) := by
  induction l generalizing s p with
  | nil => exact h
  | cons w ws ih => exact ih h.setQword

theorem Keeps.qAdvanceW {q n op} (h : Keeps z s) : Keeps z (s.qAdvanceW q n op) := .ite h.setF.setQst.setQst h.setF.setQst

theorem Keeps.qDrainBehind {q l} (h : Keeps z s) : Keeps z (s.qDrainBehind q l) := by
  induction l generalizing s with
  | nil => exact h.setQst
  | cons it rest ih => exact ih h.setQst.qPut.qAdvanceW.mirror

theorem Keeps.qSettle {q} (h : Keeps z s) : Keeps z (s.qSettle q) := .ite h.qDrainBehind h
theorem Keeps.qDrop {q n prod} (h : Keeps z s) : Keeps z (s.qDrop q n prod) := h.setQst.bump

theorem Keeps.qWriteLive {q prod start ws} (h : Keeps z s) : Keeps z (s.qWriteLive q prod start ws).1 := by
  unfold State.qWriteLive
  refine .iteFst h (.iteFst h ?_)
  dsimp only
  split
  · exact h
  · exact .iteFst h.setF h.qPut.qAdvanceW.mirror.qSettle

theorem Keeps.qProduce {q prod start ws} (h : Keeps z s) : Keeps z (s.qProduce q prod start ws).1 := by
  unfold State.qProduce
  split
  · exact h
  · split
    · exact h
    · split
      · exact .iteFst h.qDrop h.setQst.qWriteLive
      · exact h.qWriteLive

theorem Keeps.qStream {n q prod start ws st moved} (h : Keeps z s) : Keeps z (s.qStream n q prod start ws st moved).1 := by
  induction n generalizing s start ws st moved with
  | zero => exact h
  | succ n ih => exact .iteFst h (.iteFst (ih h.qProduce) (.iteFst (ih h.qProduce) h.qProduce))

theorem Keeps.qOverrun {q prod} (h : Keeps z s) : Keeps z (s.qOverrun q prod) := .ite h.setF.notice h.setF
theorem Keeps.qHwItem {q prod item} (h : Keeps z s) : Keeps z (s.qHwItem q prod item).1 := .iteFst h.qPut.qAdvanceW.mirror h.qOverrun
theorem Keeps.qRead {q r} (h : Keeps z s) : Keeps z (s.qRead q r) := h.setQst.setF.setF

theorem Keeps.qAdvance {q c} (h : Keeps z s) {t : State} (e : s.qAdvance q c = some t) : Keeps z t := by
  unfold State.qAdvance at e
  split at e
  · cases e
  · split at e <;> cases e
    · exact h
    · exact h.qRead

theorem Keeps.qMark {q} (h : Keeps z s) : Keeps z (s.qMark q) := h.setF
theorem Keeps.qBack {q r} (h : Keeps z s) : Keeps z (s.qBack q r) := .ite h.setF.setQst h.setF
theorem Keeps.qRewind {q} (h : Keeps z s) : Keeps z (s.qRewind q) := h.qBack
theorem Keeps.pruneRelayed {q} (h : Keeps z s) : Keeps z (s.pruneRelayed q) := h.upd
theorem Keeps.qRelease {q} (h : Keeps z s) : Keeps z (s.qRelease q) := h.setF.setF.pruneRelayed.mirror

theorem Keeps.qConsume {q} (h : Keeps z s) : Keeps z (s.qConsume q) := by
  unfold State.qConsume
  split
  · exact h.qRead
  · exact h

theorem Keeps.qDiscardOpen {q} (h : Keeps z s) : Keeps z (s.qDiscardOpen q) := by
  unfold State.qDiscardOpen
  dsimp only
  split
  · exact h
  · exact h.setF.setQst

theorem Keeps.qFlush {q} (h : Keeps z s) : Keeps z (s.qFlush q) := h.qDiscardOpen.setF.setF.setF.setF.setQst.pruneRelayed.qSettle
theorem Keeps.qExpireOpen {q} (h : Keeps z s) : Keeps z (s.qExpireOpen q) := h.qDiscardOpen.qSettle

/-! ### Fault records (Machine/FaultOps) -/

theorem Keeps.setLcopy {b c x} (h : Keeps z s) : Keeps z (s.setLcopy b c x) := h.upd
theorem Keeps.lbegin {op} (h : Keeps z s) : Keeps z (s.lbegin op) := h.upd
theorem Keeps.lretry {b data} (h : Keeps z s) : Keeps z (s.lretry b data) := h.upd
theorem Keeps.lupdate {b data} (h : Keeps z s) : Keeps z (s.lupdate b data) := .ite h.lretry h.upd.lbegin
theorem Keeps.ledgerRetries (h : Keeps z s) : Keeps z (s.ledgerRetries) := .foldl h fun _ _ h1 => h1.lupdate
theorem Keeps.recordToLedger {r i} (h : Keeps z s) : Keeps z (s.recordToLedger r i) := h.upd.lupdate
theorem Keeps.recordNotice {r i} (h : Keeps z s) : Keeps z (s.recordNotice r i) := h.notice
theorem Keeps.setRecord {i r} (h : Keeps z s) : Keeps z (s.setRecord i r) := h.upd

theorem Keeps.repeatRecord {i r esc} (h : Keeps z s) : Keeps z (s.repeatRecord i r esc) :=
    .recordNotice (.ite h.setRecord.recordToLedger h.setRecord)

theorem Keeps.newRecord {i replaced code kind unit detail esc} (h : Keeps z s) : Keeps z (s.newRecord i replaced code kind unit detail
    esc) := .recordNotice (.recordToLedger (.ite h.upd.bump h.upd))

theorem Keeps.recordError {code kind unit detail esc} (h : Keeps z s) : Keeps z (s.recordError code kind unit detail esc).1 := by
  unfold State.recordError
  split
  · exact h.repeatRecord
  · split
    · exact h.newRecord
    · exact h

theorem Keeps.closeRecord {i} (h : Keeps z s) : Keeps z (s.closeRecord i) := by
  unfold State.closeRecord
  split
  · exact h
  · exact h.setRecord.recordToLedger.notice

theorem Keeps.escalateRecord {i} (h : Keeps z s) : Keeps z (s.escalateRecord i) := by
  unfold State.escalateRecord
  split
  · exact h
  · exact h.setRecord

theorem Keeps.markRetired {i} (h : Keeps z s) : Keeps z (s.markRetired i) := by
  unfold State.markRetired
  split
  · exact h
  · exact h.setRecord

/-! ### Launch entries and device time (Machine/TimeOps) -/

theorem Keeps.setTracker {p t} (h : Keeps z s) : Keeps z (s.setTracker p t) := h.upd
theorem Keeps.mainsState {p t} (h : Keeps z s) : Keeps z (s.mainsState p t) := .ite h.setTracker h.setTracker.notice
theorem Keeps.lqCountRefusal {st} (h : Keeps z s) : Keeps z (s.lqCountRefusal st) := .ite h.bump (.ite h.bump h)

theorem Keeps.lqPut {e by_} (h : Keeps z s) : Keeps z (s.lqPut e by_).1 := by
  unfold State.lqPut
  split
  · exact h
  · exact h.upd.mirror

theorem Keeps.lqInsert {e by_} (h : Keeps z s) : Keeps z (s.lqInsert e by_).1 := .iteFst h.lqPut h.lqCountRefusal
theorem Keeps.lqRemove {i} (h : Keeps z s) : Keeps z (s.lqRemove i) := h.upd.mirror
theorem Keeps.lqUpdate {i f} (h : Keeps z s) : Keeps z (s.lqUpdate i f) := h.upd
theorem Keeps.launchReport {e st} (h : Keeps z s) : Keeps z (s.launchReport e st) := .ite (.notice (.ite h.bump h)) (.ite h.bump h)
theorem Keeps.launchDone {e st} (h : Keeps z s) : Keeps z (s.launchDone e st) := h.lqRemove.launchReport
theorem Keeps.lqMark (h : Keeps z s) : Keeps z (s.lqMark) := h.upd

theorem Keeps.rfcApplied {w} (h : Keeps z s) : Keeps z (s.rfcApplied w) := by
  unfold State.rfcApplied
  dsimp only
  split
  · exact h.setF
  · exact h.setF
  · exact h.upd
  · exact h.setF
  · exact h.lqUpdate.setF
  · exact h

theorem Keeps.rfcDue (h : Keeps z s) : Keeps z (s.rfcDue) := .foldl h.upd fun _ _ h1 => h1.rfcApplied
theorem Keeps.coreTick (h : Keeps z s) : Keeps z (s.coreTick) := .ite h h.upd

/-! ### Endpoints (Machine/EpOps) -/

theorem Keeps.set64 {lo hi v} (h : Keeps z s) : Keeps z (s.set64 lo hi v) := h.setWord.setWord
theorem Keeps.setEp {e st} (h : Keeps z s) : Keeps z (s.setEp e st) := h.setF.setF.upd
theorem Keeps.setLastRx {e t} (h : Keeps z s) : Keeps z (s.setLastRx e t) := h.set64
theorem Keeps.setLastSync {e t} (h : Keeps z s) : Keeps z (s.setLastSync e t) := h.set64
theorem Keeps.mbxSync {e} (h : Keeps z s) : Keeps z (s.mbxSync e) := h.setF.setF.setF.setF.setF

theorem Keeps.putWords {a l} (h : Keeps z s) : Keeps z (s.putWords a l) := by
  induction l generalizing s a with
  | nil => exact h
  | cons w ws ih => exact ih h.setQword

theorem Keeps.mbxPut {e item} (h : Keeps z s) : Keeps z (s.mbxPut e item).1 := by
  unfold State.mbxPut
  split
  · exact h.bump
  · split
    · exact h.bump
    · split
      · exact h.bump
      · exact h.putWords.setQword.upd.mbxSync

theorem Keeps.mbxFree {f} (h : Keeps z s) : Keeps z (s.mbxFree f) := h.upd.mbxSync

theorem Keeps.mbxDrop {e counted} (h : Keeps z s) : Keeps z (s.mbxDrop e counted) :=
    .foldl h fun _ _ h1 => .ite h1.mbxFree.bump h1.mbxFree

theorem Keeps.epNotice {e} (h : Keeps z s) : Keeps z (s.epNotice e) := h.notice

theorem Keeps.epHostState {e st} (h : Keeps z s) : Keeps z (s.epHostState e st) := by
  unfold State.epHostState
  split
  · exact h.setEp.setLastRx
  · exact h.setEp.mbxDrop
  · exact .ite h.setEp.upd.epNotice h.setEp.upd

theorem Keeps.epLost {e} (h : Keeps z s) : Keeps z (s.epLost e) := h.upd.setEp.mbxDrop.bump.epNotice
theorem Keeps.renewEp {e t} (h : Keeps z s) : Keeps z (s.renewEp e t) := h.upd.setLastRx

theorem Keeps.supervise {e} (h : Keeps z s) : Keeps z (s.supervise e) := by
  unfold State.supervise
  split
  · exact .ite h.epLost h
  · exact h

/-! ### Operation tags (Machine/OpTags) -/

theorem Keeps.takeTag {c} (h : Keeps z s) : Keeps z (s.takeTag c).1 := by
  unfold State.takeTag
  split
  · exact h.upd
  · exact .ite h.bump h

theorem Keeps.giveTag {t} (h : Keeps z s) : Keeps z (s.giveTag t) := h.upd
theorem Keeps.holdRead {k} (h : Keeps z s) : Keeps z (s.holdRead k) := .ite h h.upd.bump

theorem Keeps.readIssue {k} (h : Keeps z s) : Keeps z (s.readIssue k) := by
  unfold State.readIssue
  split
  · exact h
  · split
    · exact h.holdRead
    · split
      · exact h.upd
      · exact h.holdRead

theorem Keeps.grantReads {n} (h : Keeps z s) : Keeps z (State.grantReads n s) := by
  induction n generalizing s with
  | zero => exact h
  | succ n ih =>
    unfold State.grantReads
    split
    · exact h
    · split
      · exact h
      · exact ih h.upd

/-! ### Lanes and front-ends (Machine/SampleOps) -/

theorem Keeps.setStream {p c} (h : Keeps z s) : Keeps z (s.setStream p c) := h.upd
theorem Keeps.noteRun {p} (h : Keeps z s) : Keeps z (s.noteRun p) := .ite h h.setStream
theorem Keeps.markInv {p n t} (h : Keeps z s) : Keeps z (s.markInv p n t) := h.setStream
theorem Keeps.setRxGain {p v t} (h : Keeps z s) : Keeps z (s.setRxGain p v t) := .ite h.setF h.setF.markInv
theorem Keeps.setTxAtt {p v t} (h : Keeps z s) : Keeps z (s.setTxAtt p v t) := .ite h.setF h.setF.emitOut
theorem Keeps.portLaneStart {p} (h : Keeps z s) : Keeps z (s.portLaneStart p) := h.setF.setTxAtt.markInv.setStream.setF.noteRun
theorem Keeps.setRun {l run} (h : Keeps z s) : Keeps z (s.setRun l run) := .ite (.ite h.setF.portLaneStart h.setF.noteRun) h.setF
theorem Keeps.capRealign {p} (h : Keeps z s) : Keeps z (s.capRealign p) := .ite h h.setStream
theorem Keeps.setRfLink {n l} (h : Keeps z s) : Keeps z (s.setRfLink n l) := h.upd
theorem Keeps.rfState {n st remapped} (h : Keeps z s) : Keeps z (s.rfState n st remapped) := h.setF.notice
theorem Keeps.rfMarkInv {n a b} (h : Keeps z s) : Keeps z (s.rfMarkInv n a b) := h.setRfLink
theorem Keeps.rfSettle {n t} (h : Keeps z s) : Keeps z (s.rfSettle n t) := h.rfMarkInv
theorem Keeps.chanSample {n t k gap} (h : Keeps z s) : Keeps z (s.chanSample n t k gap) := h.setRfLink.emitOut
theorem Keeps.chanTo {n c gap} (h : Keeps z s) : Keeps z (s.chanTo n c gap) := .setRfLink (.foldl h fun _ _ h1 => h1.chanSample)
theorem Keeps.chanIdle {n t} (h : Keeps z s) : Keeps z (s.chanIdle n t) := .setRfLink (.foldl h fun _ _ h1 => h1.chanSample)

theorem Keeps.chanGap {n} (h : Keeps z s) : Keeps z (s.chanGap n) := by
  unfold State.chanGap
  dsimp only
  split
  · exact h.chanIdle
  · exact h.chanTo
  · exact h

theorem Keeps.rfFollow {n} (h : Keeps z s) : Keeps z (s.rfFollow n) := .ite h.setRfLink.rfState (.ite h.chanGap.setRfLink.rfState h)
theorem Keeps.sendFrame {n spans} (h : Keeps z s) : Keeps z (s.sendFrame n spans) := h.upd.emitOut

/-! ### Units and their spares (Machine/SpareOps) -/

theorem Keeps.setRole {k u role lg} (h : Keeps z s) : Keeps z (s.setRole k u role lg) := .ite h.setF.setF.setF.setF h.setF.setF
theorem Keeps.endAudit {k u} (h : Keeps z s) : Keeps z (s.endAudit k u) := .ite h.upd h
theorem Keeps.copyLane {u v} (h : Keeps z s) : Keeps z (s.copyLane u v) := .foldl h.setWord fun _ _ h1 => h1.setWord
theorem Keeps.moveLane {u v} (h : Keeps z s) : Keeps z (s.moveLane u v) := .setRun (.ite h.copyLane.setF.setF.setF h.copyLane.setF.setF)

theorem Keeps.substituteLane {u v} (h : Keeps z s) : Keeps z (s.substituteLane u v) :=
    .ite (.foldl h fun _ _ h1 => h1.setRole.setRole.moveLane) h.setRole.setRole.moveLane

theorem Keeps.substitute {k u v} (h : Keeps z s) : Keeps z (s.substitute k u v) :=
    .ite h.endAudit.substituteLane h.endAudit.setRole.setRole

theorem Keeps.retiredNotice {k u v i} (h : Keeps z s) : Keeps z (s.retiredNotice k u v i) := h.notice.markRetired
theorem Keeps.noteRetired {k u} (h : Keeps z s) : Keeps z (s.noteRetired k u) := h.upd

theorem Keeps.retire {k u i} (h : Keeps z s) : Keeps z (s.retire k u i).1 := by
  unfold State.retire
  extract_lets v a s1
  have hs1 : Keeps z s1 := by
    unfold s1
    clear_value v
    split
    · exact h.substitute
    · exact .ite h.endAudit.setRole.noteRun h.endAudit.setRole
  exact hs1.noteRetired.retiredNotice

/-! ### Cipher requests (Machine/CipherOps) -/

theorem Keeps.setKeys {n g} (h : Keeps z s) : Keeps z (s.setKeys n g) := h.upd.setF.setF
theorem Keeps.bumpGen {n} (h : Keeps z s) : Keeps z (s.bumpGen n) := h.setF
theorem Keeps.recapture {n} (h : Keeps z s) : Keeps z (s.recapture n) := h.upd

theorem Keeps.loadKey {n op key} (h : Keeps z s) : Keeps z (s.loadKey n op key) := by
  unfold State.loadKey
  refine .recapture ?_
  dsimp only
  split
  · exact h.setKeys.setF.bumpGen
  · exact h.setKeys.bumpGen
  · exact h.setKeys.setF
  · exact .ite h h.setKeys.setF.bumpGen

theorem Keeps.cipherStart {rq cls job slot counter} (h : Keeps z s) : Keeps z (s.cipherStart rq cls job slot counter) := by
  unfold State.cipherStart
  split
  · rename_i e1
    exact (h.takeTag.ofFst e1)
  · rename_i e2
    exact (h.takeTag.ofFst e2).upd

theorem Keeps.cipherAsk {rq job slot counter} (h : Keeps z s) : Keeps z (s.cipherAsk rq job slot counter) := .ite h.upd.bump h.cipherStart

theorem Keeps.cipherLeave {t} (h : Keeps z s) : Keeps z (s.cipherLeave t) := by
  unfold State.cipherLeave
  dsimp only
  split
  · exact h.upd.giveTag
  · exact .ite h.upd.giveTag h.upd.giveTag.upd.cipherStart

theorem Keeps.restartPair {p q} (h : Keeps z s) : Keeps z (s.restartPair p q) := h.upd

theorem Keeps.retirePipe {u i} (h : Keeps z s) : Keeps z (s.retirePipe u i).1 := by
  unfold State.retirePipe
  dsimp only
  split <;> rename_i e
  · exact (h.retire.ofFst e).restartPair
  · exact .iteFst (h.retire.ofFst e).restartPair (h.retire.ofFst e)

theorem Keeps.takeCounter {k} (h : Keeps z s) : Keeps z (s.takeCounter k).1 := by
  unfold State.takeCounter
  refine .iteFst ?_ ?_ <;> dsimp only
  · exact h.bump.notice
  · split
    · exact h.setF.mirror
    · exact h.setF

/-! ### Bench messages and requests (Machine/BenchOps) -/

theorem Keeps.dropLender {m} (h : Keeps z s) : Keeps z (s.dropLender m) := h.upd.setF.bump

theorem Keeps.refreshPaths (h : Keeps z s) : Keeps z (s.refreshPaths) :=
    .foldl h fun _ _ h1 => .ite h1 (.ite h1.upd.setF.notice.dropLender h1.upd.setF.notice)

theorem Keeps.setLink {m up} (h : Keeps z s) : Keeps z (s.setLink m up) :=
    .ite h (.ite (.ite h.upd.refreshPaths h.upd.upd) h.upd.refreshPaths)

theorem Keeps.ownLink (h : Keeps z s) : Keeps z (s.ownLink) := .ite h h.setLink
theorem Keeps.sendOn {g dst tag retry hops c} (h : Keeps z s) : Keeps z (s.sendOn g dst tag retry hops c) := h.upd.emitOut
theorem Keeps.benchPost {dst c} (h : Keeps z s) : Keeps z (s.benchPost dst c) := .ite h.bump h.sendOn

theorem Keeps.peerPost {dst hops tag c} (h : Keeps z s) : Keeps z (s.peerPost dst hops tag c).1 := by
  unfold State.peerPost
  split
  · exact h.sendOn
  · exact h.bump

theorem Keeps.benchIssue {t dst c p d} (h : Keeps z s) : Keeps z (s.benchIssue t dst c p d) := by
  unfold State.benchIssue
  extract_lets s1
  have hs1 : Keeps z s1 := by
    unfold s1
    split
    · exact h.peerPost
    · exact h.sendOn
  exact hs1.upd

theorem Keeps.benchTake {dst c p d} (h : Keeps z s) : Keeps z (s.benchTake dst c p d) := by
  unfold State.benchTake
  split
  · rename_i e1
    exact (h.takeTag.ofFst e1).benchIssue
  · rename_i e2
    exact (h.takeTag.ofFst e2).upd

theorem Keeps.benchAsk {dst c p} (h : Keeps z s) : Keeps z (s.benchAsk dst c p).1 := .iteFst h (.iteFst h (.iteFst h h.benchTake))

theorem Keeps.peerAsk {a c p} (h : Keeps z s) : Keeps z (s.peerAsk a c p).1 := by
  unfold State.peerAsk
  split
  · exact h
  · split
    · exact h.benchTake
    · exact h.bump

theorem Keeps.benchHeld (h : Keeps z s) : Keeps z (s.benchHeld) := by
  unfold State.benchHeld
  split
  · exact h
  · split
    · rename_i e1
      exact h
    · rename_i e2
      exact (h.takeTag.ofFst e2).upd.benchIssue

theorem Keeps.freeTag {t} (h : Keeps z s) : Keeps z (s.freeTag t) := h.giveTag.grantReads.benchHeld

theorem Keeps.readEnd {k} (h : Keeps z s) : Keeps z (s.readEnd k) := by
  unfold State.readEnd
  dsimp only
  split
  · exact h.upd.freeTag
  · exact h.upd

theorem Keeps.withRead {k} {f : State → State} (h : Keeps z s) (hf : ∀ {t}, Keeps z t → Keeps z (f t)) : Keeps z (s.withRead k f) :=
  .ite (hf h.readIssue.readEnd) h.readIssue

theorem Keeps.benchReply {src tag st words} (h : Keeps z s) : Keeps z (s.benchReply src tag st words) := h.upd.benchPost
theorem Keeps.routeNotice {a metric port} (h : Keeps z s) : Keeps z (s.routeNotice a metric port) := h.upd.notice
theorem Keeps.dropRoute {i} (h : Keeps z s) : Keeps z (s.dropRoute i) := h.upd.setWord.routeNotice
theorem Keeps.peerGone {p} (h : Keeps z s) : Keeps z (s.peerGone p) := .ite h (.foldl h.setF.notice fun _ _ h1 => h1.dropRoute)

theorem Keeps.setGroup {g st cond} (h : Keeps z s) : Keeps z (s.setGroup g st cond) := by
  unfold State.setGroup
  dsimp only
  exact .ite h (.ite (.ite h.upd.setF.notice h.upd.setF.notice.peerGone) (.ite h.upd.setF.notice.ownLink.refreshPaths
      h.upd.setF.notice.refreshPaths))

/-! ### Band channels (Machine/PlcOps) -/

theorem Keeps.setPchan {p b c} (h : Keeps z s) : Keeps z (s.setPchan p b c) := h.upd
theorem Keeps.rxTo {p b st} (h : Keeps z s) : Keeps z (s.rxTo p b st) := h.setPchan.setF
theorem Keeps.setRx {p b st r} (h : Keeps z s) : Keeps z (s.setRx p b st r) := h.setPchan.rxTo
theorem Keeps.preemptRx {p b} (h : Keeps z s) : Keeps z (s.preemptRx p b) := .ite h (.ite h.rxTo (.ite h.setRx.bump h.setRx))

theorem Keeps.preempt {p last} (h : Keeps z s) : Keeps z (s.preempt p last) :=
    .foldl h fun _ _ h1 => .upd (.foldl h1 fun _ _ h2 => h2.preemptRx)

theorem Keeps.rxFollow {p b} (h : Keeps z s) : Keeps z (s.rxFollow p b) := .ite h.rxTo (.ite h.setRx h)
theorem Keeps.rxFollowPort {p} (h : Keeps z s) : Keeps z (s.rxFollowPort p) := .foldl h fun _ _ h1 => h1.rxFollow
theorem Keeps.rxFollowLane {l} (h : Keeps z s) : Keeps z (s.rxFollowLane l) := .ite h.rxFollowPort h
theorem Keeps.noteBlank {p w0 w1} (h : Keeps z s) : Keeps z (s.noteBlank p w0 w1) := h.upd

theorem Keeps.txenHigh {g t} (h : Keeps z s) : Keeps z (s.txenHigh g t) := by
  unfold State.txenHigh
  extract_lets s1
  have hs1 : Keeps z s1 := by
    unfold s1
    split
    · exact .ite h.emitOut h
    · exact h
  exact hs1.upd.emitOut

theorem Keeps.txenDue (h : Keeps z s) : Keeps z (s.txenDue) := .foldl h fun _ _ h1 => h1.upd.emitOut
theorem Keeps.txenOff (h : Keeps z s) : Keeps z (s.txenOff) := .foldl h.upd fun _ _ h1 => h1.emitOut
theorem Keeps.clipTo {x t} (h : Keeps z s) : Keeps z (s.clipTo x t) := h.upd

theorem Keeps.plcStart {p b start kind e psdu mode ft ackReq} (h : Keeps z s) : Keeps z (s.plcStart p b start kind e psdu mode ft ackReq)
    := by
  unfold State.plcStart
  dsimp only
  exact .foldl (.foldl (.txenHigh (.setPchan (.foldl h fun _ _ h149 => h149.clipTo))) fun _ _ h150 => h150.emitOut) fun _ _ h151 =>
      h151.preempt

theorem Keeps.waveEnd {x b last} (h : Keeps z s) : Keeps z (s.waveEnd x b last) :=
    .ite (.emitOut (.foldl h.setPchan fun _ _ h1 => h1.upd)) (.foldl h.setPchan fun _ _ h2 => h2.upd)

theorem Keeps.plcStop {p b last} (h : Keeps z s) : Keeps z (s.plcStop p b last) := by
  unfold State.plcStop
  dsimp only
  exact .ite (.foldl (.setPchan (.foldl h fun _ _ h39 => h39.clipTo)) fun _ _ h40 => h40.waveEnd) (.upd (.foldl (.setPchan (.foldl h fun _
      _ h41 => h41.clipTo)) fun _ _ h42 => h42.waveEnd))

theorem Keeps.beginAttempt {p b k q} (h : Keeps z s) : Keeps z (s.beginAttempt p b k q) := h.qMark.setPchan
theorem Keeps.releaseAttempt {p b q} (h : Keeps z s) : Keeps z (s.releaseAttempt p b q) := h.qRelease.upd.setPchan
theorem Keeps.rewindAttempt {p b q} (h : Keeps z s) : Keeps z (s.rewindAttempt p b q) := h.qRewind.setPchan

theorem Keeps.ackMissed {p b a} (h : Keeps z s) : Keeps z (s.ackMissed p b a) :=
    .ite h.rewindAttempt.bump.upd h.releaseAttempt.bump.notice

theorem Keeps.stopLines (h : Keeps z s) : Keeps z (s.stopLines) := .foldl h fun _ _ h1 => .ite h1.plcStop h1

theorem Keeps.plcDomainLeaves {g} (h : Keeps z s) : Keeps z (s.plcDomainLeaves g) := by
  unfold State.plcDomainLeaves
  refine .foldl h fun _ _ h2 => ?_
  dsimp only
  split
  · exact .ite h2.rxFollow.rewindAttempt h2.rxFollow
  · exact h2.rxFollow

/-! ### Routes and relays (Machine/RouteOps) -/

theorem Keeps.ackVerdict {f busy} (h : Keeps z s) : Keeps z (s.ackVerdict f busy) := by
  unfold State.ackVerdict
  split
  · dsimp only
    split
    · exact .ite h.setPchan h
    · exact h
  · exact h

theorem Keeps.ackNone {f} (h : Keeps z s) : Keeps z (s.ackNone f) := by
  unfold State.ackNone
  split
  · dsimp only
    split
    · exact .ite h.setPchan h
    · exact h
  · exact h

theorem Keeps.ackInTime {f} (h : Keeps z s) : Keeps z (s.ackInTime f) := .ite h.ackNone h
theorem Keeps.noteDup {f} (h : Keeps z s) : Keeps z (s.noteDup f) := h.upd

theorem Keeps.deliver {f q} (h : Keeps z s) : Keeps z (s.deliver f q) := by
  unfold State.deliver
  split
  · rename_i e1
    exact (h.qHwItem.ofFst e1).noteDup.ackVerdict
  · rename_i e2
    exact (h.qHwItem.ofFst e2).ackVerdict

theorem Keeps.routeMiss {f} (h : Keeps z s) : Keeps z (s.routeMiss f) := h.bump.deliver
theorem Keeps.noNextHop {f} (h : Keeps z s) : Keeps z (s.noNextHop f) := h.bump.deliver

theorem Keeps.relayWrite {o bytes} (h : Keeps z s) : Keeps z (s.relayWrite o bytes) := by
  unfold State.relayWrite
  extract_lets item done
  have hdone {a : State} (ha : Keeps z a) : Keeps z (done a) := by
    refine .ackVerdict (.ite (.bump (.upd ?_)) ?_) <;> split
    exacts [ha.bump.noteDup.bump, ha.bump.noteDup, ha.bump.noteDup.bump, ha.bump.noteDup]
  split
  · split <;> rename_i e
    · exact hdone (h.mbxPut.ofFst e)
    · exact (h.mbxPut.ofFst e).ackVerdict
  · split <;> rename_i e
    · exact hdone (h.qHwItem.ofFst e)
    · exact (h.qHwItem.ofFst e).ackVerdict

theorem Keeps.relaySecure {o nh} (h : Keeps z s) : Keeps z (s.relaySecure o nh) := by
  unfold State.relaySecure
  split
  · exact h.noNextHop
  · split
    · exact h.noNextHop
    · split
      · rename_i e1
        exact (h.takeCounter.ofFst e1).noNextHop
      · rename_i e2
        exact (h.takeCounter.ofFst e2).cipherAsk

theorem Keeps.relayPlc {f port band nh0 route} (h : Keeps z s) : Keeps z (s.relayPlc f port band nh0 route) := by
  unfold State.relayPlc
  dsimp only
  split
  · exact h.bump.routeMiss
  · split
    · exact h.routeMiss
    · split
      · exact h.routeMiss
      · split
        · exact h.noNextHop
        · exact .ite h.noNextHop h.relaySecure

theorem Keeps.relayRf {f pair nh0 txq route} (h : Keeps z s) : Keeps z (s.relayRf f pair nh0 txq route) := by
  unfold State.relayRf
  dsimp only
  split
  · exact h.routeMiss
  · split
    · exact h.noNextHop
    · exact .ite h.noNextHop (.ite h.routeMiss (.ite h.relaySecure h.routeMiss))

theorem Keeps.relay {f} (h : Keeps z s) : Keeps z (s.relay f) := by
  unfold State.relay
  split
  · exact h.routeMiss
  · exact h.benchPost.bump.noteDup.ackVerdict
  · exact .ackVerdict (.ite h.peerPost.bump.bump.noteDup h.peerPost)
  · exact h.relayPlc
  · exact h.relayRf

theorem Keeps.routeFrame {f} (h : Keeps z s) : Keeps z (s.routeFrame f) :=
    .ite h.deliver (.ite h.bump.ackVerdict (.ite h.deliver h.relay))

theorem Keeps.classSGain {f e} (h : Keeps z s) : Keeps z (s.classSGain f e) := .ite (.ite h.setF h) h

theorem Keeps.schedTiming {f e v} (h : Keeps z s) : Keeps z (s.schedTiming f e v) := by
  unfold State.schedTiming
  extract_lets _ _ _ _ _ _ _ new s1
  have hs1 : Keeps z s1 := by
    unfold s1
    clear_value new
    split
    · exact h.setF.setF
    · exact h
  exact .ite hs1.setF.setLastSync hs1.setF.setLastSync.setF

theorem Keeps.radioLearn {f e} (h : Keeps z s) : Keeps z (s.radioLearn f e) := by
  unfold State.radioLearn
  split
  · exact h
  · dsimp only
    split
    · exact h.setF.classSGain.schedTiming
    · exact .ite h.setF.classSGain.setF.setF.setF.setF h.setF.classSGain

theorem Keeps.mbxAcked {e ackd} (h : Keeps z s) : Keeps z (s.mbxAcked e ackd) := by
  unfold State.mbxAcked
  split
  · exact h
  · split
    · exact h.mbxFree
    · exact h

theorem Keeps.radioAnswer {f e} (h : Keeps z s) : Keeps z (s.radioAnswer f e) := .ite h (.ite (.ite h.upd h) (.ite h.upd h))

theorem Keeps.accepted {f e} (h : Keeps z s) : Keeps z (s.accepted f e) :=
    .ite h.radioAnswer.mbxAcked.bump.ackVerdict h.radioAnswer.mbxAcked.routeFrame

theorem Keeps.frameVerified {f e} (h : Keeps z s) : Keeps z (s.frameVerified f e) := by
  unfold State.frameVerified
  extract_lets _ s1
  have hs1 : Keeps z s1 := h.ackInTime.renewEp.radioLearn
  exact .ite hs1.accepted (.ite hs1.setF.mirror.accepted (.ite (.ite hs1.bump.ackVerdict hs1.bump.radioAnswer.ackVerdict)
      hs1.bump.ackNone))

theorem Keeps.verifyFailed {f e slot} (h : Keeps z s) : Keeps z (s.verifyFailed f e slot) := h.bump.bump.notice.ackNone.supervise

theorem Keeps.verifyEnd {r f e slot good} (h : Keeps z s) : Keeps z (s.verifyEnd r f e slot good) := by
  unfold State.verifyEnd
  split
  · exact h.ackNone.supervise
  · dsimp only
    split
    · exact h.bump.frameVerified
    · exact h.frameVerified
    · exact h.frameVerified
    · exact h.verifyFailed

theorem Keeps.frameIn {f} (h : Keeps z s) : Keeps z (s.frameIn f) := by
  unfold State.frameIn
  dsimp only
  split
  · exact h.bump.ackNone
  · exact .ite h.bump.ackNone (.ite h.frameVerified (.ite h.bump.ackNone h.cipherAsk))

theorem Keeps.relayEnd {r o good} (h : Keeps z s) : Keeps z (s.relayEnd r o good) := by
  unfold State.relayEnd
  split
  · exact h.noNextHop
  · exact .ite h.noNextHop h.relayWrite

/-! ### RF pairs and demodulators (Machine/ChirpOps) -/

theorem Keeps.showUsed {n k} (h : Keeps z s) : Keeps z (s.showUsed n k) := h.setF

theorem Keeps.dutyCharge {n c dur t} (h : Keeps z s) : Keeps z (s.dutyCharge n c dur t).1 := by
  unfold State.dutyCharge
  split
  · exact .iteFst h.bump h.upd
  · split
    · exact h.bump
    · exact .iteFst h.bump h.upd.showUsed

theorem Keeps.setDemods {l} (h : Keeps z s) : Keeps z (s.setDemods l) := h.upd.setF.setF

theorem Keeps.countEnd {n w} (h : Keeps z s) : Keeps z (s.countEnd n w) := by
  unfold State.countEnd
  split
  · exact h.bump
  · exact h.bump
  · exact h.bump
  · exact h.bump
  · exact h.bump
  · exact h.bump
  · exact h.bump
  · exact h
  · exact h
  · exact h
  · exact h.bump

theorem Keeps.freeDemod {d} (h : Keeps z s) : Keeps z (s.freeDemod d) := h.setDemods

theorem Keeps.endHeld {d w} (h : Keeps z s) : Keeps z (s.endHeld d w) := by
  unfold State.endHeld
  dsimp only
  split
  · exact h.freeDemod
  · split
    · exact h.freeDemod.countEnd.benchPost
    · exact h.freeDemod.countEnd

theorem Keeps.endLent {d w} (h : Keeps z s) : Keeps z (s.endLent d w) := by
  unfold State.endLent
  split
  · exact h.freeDemod.benchPost
  · exact h.endHeld

theorem Keeps.endPort {n w} (h : Keeps z s) : Keeps z (s.endPort n w) := .foldl h fun _ _ h1 => h1.endHeld
theorem Keeps.gapDemods {n} (h : Keeps z s) : Keeps z (s.gapDemods n) := h.endPort
theorem Keeps.streamFrame {d m} (h : Keeps z s) : Keeps z (s.streamFrame d m) := .upd (.ite h (.foldl h fun _ _ h1 => h1.emitOut))

theorem Keeps.streamCells {n} (h : Keeps z s) : Keeps z (s.streamCells n) := by
  unfold State.streamCells
  refine .foldl h fun _ _ h2 => ?_
  split
  · exact .ite h2.streamFrame h2
  · exact h2

theorem Keeps.rfcAsk {w} (h : Keeps z s) : Keeps z (s.rfcAsk w) := h.upd

theorem Keeps.rfSync {n} (h : Keeps z s) : Keeps z (s.rfSync n) :=
    .ite (.setF (.upd (.rfFollow (.ite h.upd.endPort h)))) (.rfFollow (.ite h.upd.endPort h))

theorem Keeps.dropAttempt {l} (h : Keeps z s) : Keeps z (s.dropAttempt l) := h.upd
theorem Keeps.rfRelease {a} (h : Keeps z s) : Keeps z (s.rfRelease a) := h.qRelease.dropAttempt.upd
theorem Keeps.rfRewind {a} (h : Keeps z s) : Keeps z (s.rfRewind a) := h.qRewind.dropAttempt
theorem Keeps.rfAckMissed {a} (h : Keeps z s) : Keeps z (s.rfAckMissed a) := .ite h.rfRewind.upd h.rfRelease.notice

theorem Keeps.rfAckIn {f} (h : Keeps z s) : Keeps z (s.rfAckIn f) := by
  unfold State.rfAckIn
  split
  · exact h.rfRelease
  · exact h

theorem Keeps.joinIn {f} (h : Keeps z s) : Keeps z (s.joinIn f) := by
  unfold State.joinIn
  extract_lets _ s1
  have hs1 : Keeps z s1 := by
    unfold s1
    split
    · exact h.bump.notice
    · exact .notice (.setEp (.setF (.setF (.setF (.setF (.setF (.setF (.setF (.foldl h fun _ _ h1 => h1.setWord)))))))))
  exact hs1.deliver

theorem Keeps.radioIn {f} (h : Keeps z s) : Keeps z (s.radioIn f) := .ite h.bump (.ite h.bump (.ite h.joinIn (.ite h.rfAckIn h.frameIn)))

/-! ### Transactions and their locks (Machine/TxnOps) -/

theorem Keeps.setTxn {t} (h : Keeps z s) : Keeps z (s.setTxn t) := h.upd
theorem Keeps.unreserve {t} (h : Keeps z s) : Keeps z (s.unreserve t) := .foldl h fun _ _ h1 => h1.setQst

theorem Keeps.freeTxn {t} (h : Keeps z s) : Keeps z (s.freeTxn t) := by
  unfold State.freeTxn
  extract_lets s1 _ _
  have hs1 : Keeps z s1 := by
    unfold s1
    split
    · exact .ite h.qRelease h
    · exact h
  split
  · exact .ite hs1.upd.giveTag.upd.qFlush hs1.upd.giveTag
  · exact hs1.upd.giveTag

theorem Keeps.txnDone {t e} (h : Keeps z s) : Keeps z (s.txnDone t e) := h.notice

theorem Keeps.dropCommit {t} (h : Keeps z s) : Keeps z (s.dropCommit t) := by
  unfold State.dropCommit
  split
  · split
    · exact h.lqRemove
    · exact h
  · exact h

theorem Keeps.dropCopies {t} (h : Keeps z s) : Keeps z (s.dropCopies t) := h.upd

theorem Keeps.answerAdd {a st res} (h : Keeps z s) : Keeps z (s.answerAdd a st res) := by
  unfold State.answerAdd
  split
  · exact h.complete
  · exact h.benchReply

theorem Keeps.abortMembers {t} (h : Keeps z s) : Keeps z (s.abortMembers t) := .ite h (.foldl h fun _ _ h1 => .ite h1.benchAsk h1)
theorem Keeps.finishTxn {t e} (h : Keeps z s) : Keeps z (s.finishTxn t e) := h.txnDone.freeTxn

theorem Keeps.partDone {t st} (h : Keeps z s) : Keeps z (s.partDone t st) := by
  unfold State.partDone
  extract_lets s1
  have hs1 : Keeps z s1 := by
    unfold s1
    split
    · exact .ite h.qRelease h
    · exact h
  exact hs1.setTxn

theorem Keeps.benchDone {t} (h : Keeps z s) : Keeps z (s.benchDone t) := .ite h.finishTxn h.bump.finishTxn

theorem Keeps.ownPart {t st} (h : Keeps z s) : Keeps z (s.ownPart t st) := by
  unfold State.ownPart
  dsimp only
  split
  · exact .ite h.partDone.benchDone h.partDone
  · exact h.partDone

theorem Keeps.reportOutcome {c m hh st} (h : Keeps z s) : Keeps z (s.reportOutcome c m hh st) := .ite h.benchAsk h.upd
theorem Keeps.outcomesDue (h : Keeps z s) : Keeps z (s.outcomesDue) := .foldl h.upd fun _ _ h1 => h1.benchAsk

theorem Keeps.abortTxn {t e reported} (h : Keeps z s) : Keeps z (s.abortTxn t e reported) := by
  unfold State.abortTxn
  split
  · exact h
  · split
    · exact h.unreserve.dropCommit.dropCopies.bump.ownPart
    · extract_lets s1 s2 _ _ _ s5
      have hs1 : Keeps z s1 := by
        unfold s1
        split
        · exact h.answerAdd
        · exact h
      have hs2 : Keeps z s2 := by
        unfold s2
        split
        · exact hs1.complete
        · exact hs1
      have hs5 : Keeps z s5 := by
        unfold s5
        split
        · exact .ite (.reportOutcome (.ite hs2.unreserve.dropCommit.dropCopies.abortMembers.bump
              hs2.unreserve.dropCommit.dropCopies.abortMembers.bump.txnDone)) (.ite hs2.unreserve.dropCommit.dropCopies.abortMembers.bump
              hs2.unreserve.dropCommit.dropCopies.abortMembers.bump.txnDone)
        · exact .ite hs2.unreserve.dropCommit.dropCopies.abortMembers.bump hs2.unreserve.dropCommit.dropCopies.abortMembers.bump.txnDone
      exact hs5.freeTxn

theorem Keeps.abortOpenTxns {st} (h : Keeps z s) : Keeps z (s.abortOpenTxns st) := by
  unfold State.abortOpenTxns
  refine .foldl h fun _ _ h2 => ?_
  split
  · exact h2.abortTxn
  · exact h2

theorem Keeps.askFlush {q} (h : Keeps z s) : Keeps z (s.askFlush q).1 := by
  unfold State.askFlush
  split
  · exact h.qFlush
  · exact .iteFst h h.abortTxn.qFlush

theorem Keeps.eccFlush {q} (h : Keeps z s) : Keeps z (s.eccFlush q) := .ite h.askFlush (.ite h h.upd)

theorem Keeps.woundTxn {v by_ bm} (h : Keeps z s) : Keeps z (s.woundTxn v by_ bm) := by
  unfold State.woundTxn
  extract_lets _ _ s2
  have hs2 : Keeps z s2 := by
    unfold s2
    split
    · exact h.bump.notice.answerAdd
    · exact h.bump.notice
  exact .ite hs2.abortMembers.bump.setTxn hs2.abortTxn

theorem Keeps.claimLock {t l} (h : Keeps z s) : Keeps z (s.claimLock t l).1 :=
    .foldl h fun _ _ h1 => .ite (.ite h1.woundTxn (.ite h1 h1.benchAsk)) h1

/-! ### Transmissions (Machine/TxOps) -/

theorem Keeps.mbxEnd {hh free} (h : Keeps z s) : Keeps z (s.mbxEnd hh free) := by
  unfold State.mbxEnd
  split
  · exact h
  · exact .ite h.mbxFree h.upd

theorem Keeps.txOutcome {e st} (h : Keeps z s) : Keeps z (s.txOutcome e st) := by
  unfold State.txOutcome
  split
  · exact .ite h.qRelease h
  · split
    · exact h
    · exact .ite h.releaseAttempt (.ite h.rewindAttempt.setPchan h.rewindAttempt)
  · split
    · exact h
    · exact .ite h.rfRelease h.rfRewind
  · exact h.mbxEnd
  · exact h

theorem Keeps.dropOfs {i} (h : Keeps z s) : Keeps z (s.dropOfs i) := h.upd
theorem Keeps.txFail {e st} (h : Keeps z s) : Keeps z (s.txFail e st) := .txOutcome (.launchDone (.ite h.bump h.dropOfs.bump))

theorem Keeps.secureEntry {i} (h : Keeps z s) : Keeps z (s.secureEntry i) := by
  unfold State.secureEntry
  split
  · exact h
  · split
    · exact h
    · dsimp only
      split
      · exact h.lqUpdate
      · split
        · exact h.txFail
        · split
          · exact h.txFail
          · split
            · exact h.txFail
            · split
              · rename_i e1
                exact (h.takeCounter.ofFst e1).txFail
              · rename_i e2
                exact (h.takeCounter.ofFst e2).lqUpdate.cipherAsk

theorem Keeps.writeBack {e it} (h : Keeps z s) : Keeps z (s.writeBack e it) := by
  unfold State.writeBack
  split
  · split
    · exact h.putWords
    · exact h
  · exact .ite h.qPut h

theorem Keeps.secureEnd {r i gen good} (h : Keeps z s) : Keeps z (s.secureEnd r i gen good) := by
  unfold State.secureEnd
  split
  · exact h
  · split
    · exact h
    · split
      · exact .ite h.txFail h.writeBack.lqUpdate
      · exact h.txFail

theorem Keeps.txTake {e} (h : Keeps z s) : Keeps z (s.txTake e).1 := by
  unfold State.txTake
  dsimp only
  split
  · exact h.eccFlush
  · split
    · exact h
    · exact h.qConsume.lqUpdate

theorem Keeps.emitRamp {n j up t} (h : Keeps z s) : Keeps z (s.emitRamp n j up t) := h.emitOut
theorem Keeps.sendFrames (h : Keeps z s) : Keeps z (s.sendFrames) := .ite (.foldl h fun _ _ h1 => .ite h1.chanGap.sendFrame h1) h
theorem Keeps.rfBusy {n busy susp} (h : Keeps z s) : Keeps z (s.rfBusy n busy susp) := h.setF.setF
theorem Keeps.rfStop {n t} (h : Keeps z s) : Keeps z (s.rfStop n t) := h.upd.rfBusy

theorem Keeps.plcCut {p b st} (h : Keeps z s) : Keeps z (s.plcCut p b st) := by
  unfold State.plcCut
  split
  · exact h
  · dsimp only
    split
    · exact h.plcStop.bump.launchReport
    · split
      · exact h.plcStop.bump.rewindAttempt
      · exact h.plcStop.bump
    · exact h.plcStop.bump

theorem Keeps.rfCut {n st} (h : Keeps z s) : Keeps z (s.rfCut n st) := by
  unfold State.rfCut
  split
  · exact h
  · dsimp only
    split
    · exact .ite h.emitRamp.rfStop.txFail h.emitRamp.rfStop
    · exact h.emitRamp.rfStop.bump.launchReport.txOutcome

theorem Keeps.stopTransmissions (h : Keeps z s) : Keeps z (s.stopTransmissions) :=
    .foldl h.stopLines.txenOff fun _ _ h1 => h1.emitRamp.rfStop

theorem Keeps.endOfTick (h : Keeps z s) : Keeps z (s.endOfTick) := .ite h.stopTransmissions h
theorem Keeps.twinSettle (h : Keeps z s) : Keeps z (s.twinSettle) := .ite h.upd h

theorem Keeps.domainLeavesOn {d} (h : Keeps z s) : Keeps z (s.domainLeavesOn d) :=
    .ite (.ite (.foldl h.plcDomainLeaves fun _ _ h1 => h1.mainsState) h.plcDomainLeaves) (.ite (.foldl h fun _ _ h2 => h2.rfSync) (.ite
    h.upd (.ite (.foldl h fun _ _ h3 => h3.setGroup) h)))

theorem Keeps.domainComesOn {d} (h : Keeps z s) : Keeps z (s.domainComesOn d) :=
    .ite (.foldl h fun _ _ h1 => .rxFollowPort (.ite h1.portLaneStart.setTracker h1)) (.ite (.foldl h fun _ _ h2 => h2.rfSync) (.ite
    (.foldl h fun _ _ h3 => .ite h3.setGroup h3) h))

/-! ### Modes (Machine/ModeOps) -/

theorem Keeps.twinLedger (h : Keeps z s) : Keeps z (s.twinLedger) := h.lupdate.lupdate
theorem Keeps.changeMode {m cause} (h : Keeps z s) : Keeps z (s.changeMode m cause) := .ite h.upd.notice.twinLedger h.upd.notice
theorem Keeps.enterFault {cause} (h : Keeps z s) : Keeps z (s.enterFault cause) := .ite h h.stopTransmissions.changeMode.upd.notice

theorem Keeps.report {code kind unit detail} (h : Keeps z s) : Keeps z (s.report code kind unit detail).1 := by
  unfold State.report
  split <;> rename_i e
  · exact h.recordError.ofFst e
  · exact (h.recordError.ofFst e).recordToLedger.enterFault

theorem Keeps.reportEscalated {code kind unit detail cause} (h : Keeps z s) : Keeps z (s.reportEscalated code kind unit detail cause).1 :=
    by
  unfold State.reportEscalated
  split <;> rename_i e
  · exact (h.recordError.ofFst e).enterFault
  · exact (h.recordError.ofFst e).report

theorem Keeps.setDomain {d st} (h : Keeps z s) : Keeps z (s.setDomain d st) := h.upd.notice
theorem Keeps.drainDomain {d} (h : Keeps z s) : Keeps z (s.drainDomain d) := .ite h.upd.setDomain.domainLeavesOn h
theorem Keeps.powerUp {d} (h : Keeps z s) : Keeps z (s.powerUp d) := .ite h.setDomain h

theorem Keeps.settleDomains (h : Keeps z s) : Keeps z (s.settleDomains) :=
    .foldl h fun _ _ h1 => .ite h1 h1.setDomain.setDomain.domainLeavesOn

theorem Keeps.enterDrain {rst} (h : Keeps z s) : Keeps z (s.enterDrain rst) :=
    .foldl h.changeMode.abortOpenTxns.upd.twinSettle fun _ _ h1 => h1.drainDomain

theorem Keeps.fullReset {cause graceful hostLoad seen} (h : Keeps z s) : Keeps z (s.fullReset cause graceful hostLoad seen) :=
  ⟨h.pending, fun _ => rfl⟩

theorem Keeps.resetBy {p graceful} (h : Keeps z s) : Keeps z (s.resetBy p graceful) := h.fullReset

/-! ### Launched actions (Machine/LaunchOps) -/

theorem Keeps.dropRamp {e} (h : Keeps z s) : Keeps z (s.dropRamp e) := by
  unfold State.dropRamp
  split
  · exact .ite h.emitRamp.rfStop h
  · exact h

theorem Keeps.endEntry {e st} (h : Keeps z s) : Keeps z (s.endEntry e st) := by
  unfold State.endEntry
  split
  · exact h.txFail
  · exact h.dropRamp.txFail
  · split
    · exact h.abortTxn
    · exact h.launchDone
  · exact h.launchDone

theorem Keeps.endEntries {l st} (h : Keeps z s) : Keeps z (s.endEntries l st) := by
  unfold State.endEntries
  refine .foldl h fun _ _ h2 => ?_
  split
  · exact .ite h2.endEntry h2
  · exact h2

theorem Keeps.runAction {i type} {f : LqEntry → State} (h : Keeps z s) (hf : ∀ {e}, Keeps z (f e)) : Keeps z (s.runAction i type f) := by
  unfold State.runAction
  split
  · exact h
  · split
    · exact h
    · split
      · exact h.endEntry
      · exact hf

/-! ### References (Machine/RefOps) -/

theorem Keeps.refNotice (h : Keeps z s) : Keeps z (s.refNotice) := h.notice
theorem Keeps.setFreq {v} (h : Keeps z s) : Keeps z (s.setFreq v) := h.upd
theorem Keeps.setRefState {st} (h : Keeps z s) : Keeps z (s.setRefState st) := .refNotice (.upd (.ite h.setFreq h))
theorem Keeps.shiftStamps {d} (h : Keeps z s) : Keeps z (s.shiftStamps d) := h.upd
theorem Keeps.stepTo {t} (h : Keeps z s) : Keeps z (s.stepTo t) := h.endEntries.shiftStamps.upd.notice
theorem Keeps.stepSet (h : Keeps z s) : Keeps z (s.stepSet).1 := .iteFst h.stepTo.upd h
theorem Keeps.stepAccept (h : Keeps z s) : Keeps z (s.stepAccept) := .ite h.upd h
theorem Keeps.slewOut {err} (h : Keeps z s) : Keeps z (s.slewOut err) := h.upd
theorem Keeps.discipline (h : Keeps z s) : Keeps z (s.discipline) := h.freshWord.setFreq
theorem Keeps.refGood {err} (h : Keeps z s) : Keeps z (s.refGood err) := h.upd
theorem Keeps.countGood {ok need} (h : Keeps z s) : Keeps z (s.countGood ok need) := .ite h.upd.setRefState h.upd

theorem Keeps.refFirst {err stamp} (h : Keeps z s) : Keeps z (s.refFirst err stamp) :=
    .upd (.setRefState (.ite h.refGood.stepTo h.refGood.slewOut))

theorem Keeps.refRejected {err} (h : Keeps z s) : Keeps z (s.refRejected err) :=
    .ite h.upd (.notice (.upd (.ite h.upd.setRefState h.upd)))

theorem Keeps.refBegin {err stamp} (h : Keeps z s) : Keeps z (s.refBegin err stamp) := .ite h.refRejected h.refFirst
theorem Keeps.secondPulse {t stamp} (h : Keeps z s) : Keeps z (s.secondPulse t stamp) := h.setFreq.upd

theorem Keeps.refAccepted {err stamp} (h : Keeps z s) : Keeps z (s.refAccepted err stamp) := by
  unfold State.refAccepted
  dsimp only
  split
  · split
    · exact h.refGood.upd.secondPulse
    · exact .ite h.refGood.upd.countGood h.refGood.upd.countGood.slewOut
  · exact h.refGood.upd.discipline
  · exact h.refGood.upd.countGood.slewOut
  · exact h.refGood.upd

theorem Keeps.checkLabel {sec expected} (h : Keeps z s) : Keeps z (s.checkLabel sec expected) :=
    .ite h (.ite h.upd (.ite h.upd.notice h.upd))

theorem Keeps.refPhase {stamp label} (h : Keeps z s) : Keeps z (s.refPhase stamp label) := .ite h.refRejected h.refAccepted

theorem Keeps.refStep {err stamp} (h : Keeps z s) : Keeps z (s.refStep err stamp) := by
  unfold State.refStep
  extract_lets s0
  have hs0 : Keeps z s0 := by
    unfold s0
    split
    · exact h.secondPulse
    · exact h
  exact hs0.refGood.stepTo.upd

theorem Keeps.refPulse {stamp label} (h : Keeps z s) : Keeps z (s.refPulse stamp label) := by
  unfold State.refPulse
  split
  · exact .ite h h.refPhase
  · exact .ite h.refBegin (.ite h.refStep h.checkLabel.refPhase)

theorem Keeps.relabel {stamp sec} (h : Keeps z s) : Keeps z (s.relabel stamp sec) := by
  unfold State.relabel
  dsimp only
  exact .ite h.refBegin (.ite h.refStep (.ite h.checkLabel (.ite h.refRejected (.ite h.upd h.upd.countGood.slewOut))))

theorem Keeps.ppsTakes {i err} (h : Keeps z s) : Keeps z (s.ppsTakes i err) := h.refGood.upd.setRefState.slewOut
theorem Keeps.refOther {stamp} (h : Keeps z s) : Keeps z (s.refOther stamp) := .ite h.upd.ppsTakes h.upd
theorem Keeps.beginAcquire (h : Keeps z s) : Keeps z (s.beginAcquire) := h.upd.upd
theorem Keeps.refAmended {old} (h : Keeps z s) : Keeps z (s.refAmended old) := .refNotice (.ite h.upd h.upd.upd)

/-! ### Device time (Machine/Time) -/

theorem Keeps.ppsEdge {i rising} (h : Keeps z s) : Keeps z (ppsEdge i rising s) := .ite h (.ite h.upd.refPulse h.upd.refOther)
theorem Keeps.execPpsEdge {i rising} (h : Keeps z s) : KeepsOut z (execPpsEdge i rising s) := .next h.ppsEdge

theorem Keeps.todSentence {i ch} (h : Keeps z s) : Keeps z (todSentence i ch s) := by
  unfold Machine.todSentence
  split
  · exact h
  · split
    · exact h
    · dsimp only
      split
      · exact h.upd
      · split
        · exact h
        · exact .ite h h.relabel

theorem Keeps.execTodSentence {i ch} (h : Keeps z s) : KeepsOut z (execTodSentence i ch s) := .next h.todSentence
theorem Keeps.refLoss (h : Keeps z s) : Keeps z (refLoss s) := .ite h (.ite h.setRefState (.ite h.setRefState h))
theorem Keeps.execRefLoss (h : Keeps z s) : KeepsOut z (execRefLoss s) := .next h.refLoss
theorem Keeps.holdoverExpired (h : Keeps z s) : Keeps z (holdoverExpired s) := .ite h.upd.notice h
theorem Keeps.execHoldoverExpired (h : Keeps z s) : KeepsOut z (execHoldoverExpired s) := .next h.holdoverExpired

theorem Keeps.pps0Return (h : Keeps z s) : Keeps z (pps0Return s) := by
  unfold Machine.pps0Return
  split
  · exact .ite h.upd.refNotice h
  · exact h

theorem Keeps.execPps0Return (h : Keeps z s) : KeepsOut z (execPps0Return s) := .next h.pps0Return
theorem Keeps.peerTime {g c} (h : Keeps z s) : Keeps z (peerTime g c s) := .ite h h.setF

theorem Keeps.memberTime {g c} (h : Keeps z s) : Keeps z (memberTime g c s) := by
  unfold Machine.memberTime
  split
  · exact h
  · dsimp only
    split
    · exact h.upd.setF.refFirst
    · split
      · exact h.upd.setF.refStep
      · split
        · exact .countGood (.discipline (.ite h.upd.setF.refGood.slewOut.refNotice h.upd.setF.refGood))
        · exact .discipline (.ite h.upd.setF.refGood.slewOut.refNotice h.upd.setF.refGood)
        · exact .slewOut (.countGood (.ite h.upd.setF.refGood.slewOut.refNotice h.upd.setF.refGood))

theorem Keeps.timeCell {g c} (h : Keeps z s) : Keeps z (timeCell g c s) := .ite h.peerTime h.memberTime
theorem Keeps.execTimeCell {g c} (h : Keeps z s) : KeepsOut z (execTimeCell g c s) := .next h.timeCell
theorem Keeps.eventCapture {pin rising} (h : Keeps z s) : Keeps z (eventCapture pin rising s) := .ite h.notice h
theorem Keeps.execEventCapture {pin rising} (h : Keeps z s) : KeepsOut z (execEventCapture pin rising s) := .next h.eventCapture

/-! ### Lane groups (Machine/Bench) -/

theorem Keeps.laneState {g l v} (h : Keeps z s) : Keeps z (s.laneState g l v) := .ite h h.setF
theorem Keeps.takeMap {g map} (h : Keeps z s) : Keeps z (s.takeMap g map) := .ite h (.foldl h.upd fun _ _ h1 => .ite h1 h1.setLink)
theorem Keeps.takeRdi {g rdi} (h : Keeps z s) : Keeps z (s.takeRdi g rdi) := .ite h (.ite h.setF.ownLink h.setF)

theorem Keeps.groupLocked {g b} (h : Keeps z s) : Keeps z (s.groupLocked g b) :=
    .ite (.foldl h fun _ _ h1 => h1.laneState) (.setF (.foldl h fun _ _ h2 => h2.laneState))

theorem Keeps.groupMismatch {g b} (h : Keeps z s) : Keeps z (s.groupMismatch g b) := .ite h.setGroup h.setF.notice.setGroup

theorem Keeps.groupUpEvent {g b} (h : Keeps z s) : Keeps z (groupUpEvent g b s) :=
    .ite h (.ite h.groupLocked.groupMismatch (.ite (.setGroup (.ite h.groupLocked.setF h.groupLocked)) (.ite (.setGroup (.ite
    h.groupLocked.setF h.groupLocked)) (.takeMap (.takeRdi (.setGroup (.ite h.groupLocked.setF h.groupLocked)))))))

theorem Keeps.execGroupUp {g neighbour} (h : Keeps z s) : KeepsOut z (execGroupUp g neighbour s) := .next h.groupUpEvent

theorem Keeps.groupDown {g lane why lost} (h : Keeps z s) : Keeps z (groupDown g lane why lost s) :=
    .ite h.laneState (.setGroup (.ite h.laneState.bump h.laneState))

theorem Keeps.execGroupDown {g lane why lost} (h : Keeps z s) : KeepsOut z (execGroupDown g lane why lost s) := .next h.groupDown
theorem Keeps.erroredFrame {g lane} (h : Keeps z s) : Keeps z (s.erroredFrame g lane) := .ite h.upd h.upd.bump

theorem Keeps.rdiRx {g lane rdi linkmap errored bad} (h : Keeps z s) : Keeps z (rdiRx g lane rdi linkmap errored bad s) :=
    .ite h (.ite (.takeMap (.takeRdi (.ite (.bump (.ite h.erroredFrame h)) (.ite h.erroredFrame h)))) (.ite (.bump (.ite h.erroredFrame
    h)) (.ite h.erroredFrame h)))

theorem Keeps.execRdiRx {g lane rdi linkmap errored badCells} (h : Keeps z s) : KeepsOut z (execRdiRx g lane rdi linkmap errored badCells
    s) := .next h.rdiRx

theorem Keeps.wtrExpiry {m} (h : Keeps z s) : Keeps z (wtrExpiry m s) := by
  unfold Machine.wtrExpiry
  split
  · exact h
  · exact .ite h.upd.refreshPaths h

theorem Keeps.execWtrExpiry {link} (h : Keeps z s) : KeepsOut z (execWtrExpiry link s) := .next h.wtrExpiry

theorem Keeps.sendOverhead {mfi} (h : Keeps z s) : Keeps z (s.sendOverhead mfi) :=
    .foldl h fun _ _ h1 => .foldl h1 fun _ _ h2 => h2.emitOut

theorem Keeps.fixedCells {mfi} (h : Keeps z s) : Keeps z (s.fixedCells mfi) :=
    .ite (.foldl h fun _ _ h1 => h1.emitOut) (.ite (.foldl h fun _ _ h2 => h2.upd.emitOut) h)

theorem Keeps.multiframe {mfi} (h : Keeps z s) : Keeps z (multiframe mfi s) := h.sendOverhead.fixedCells
theorem Keeps.execMultiframe {mfi} (h : Keeps z s) : KeepsOut z (execMultiframe mfi s) := .next h.multiframe

theorem Keeps.echoCell {g c} (h : Keeps z s) : Keeps z (echoCell g c s) := by
  unfold Machine.echoCell
  split
  · exact h
  · split
    · exact .ite h.emitOut h
    · exact .ite h (.ite h.upd.setF h.upd)

theorem Keeps.execEchoCell {g cell} (h : Keeps z s) : KeepsOut z (execEchoCell g cell s) := .next h.echoCell

theorem Keeps.perfCount {g es ses uas unavail} (h : Keeps z s) : Keeps z (s.perfCount g es ses uas unavail) :=
    .ite h h.bump.bump.bump.setF

theorem Keeps.perfSecond {g} (h : Keeps z s) : Keeps z (perfSecond g s) := .ite h (.ite h.upd.perfCount h.upd.perfCount.notice)
theorem Keeps.execPerfSecond {g} (h : Keeps z s) : KeepsOut z (execPerfSecond g s) := .next h.perfSecond

/-! ### Commands (Machine/CmdOps) -/

theorem Keeps.command {c op f} (h : Keeps z s) (hf : Keeps z f) : Keeps z (s.command c op f) := by
  unfold State.command
  split
  · exact h
  · split
    · exact h.complete
    · exact hf

theorem Keeps.requestInDrain {c op a n} (h : Keeps z s) : Keeps z (s.requestInDrain c op a n) := .ite h.upd h

theorem Keeps.writeCommand {c op a n f} (h : Keeps z s) (hf : Keeps z f) : Keeps z (s.writeCommand c op a n f) :=
    .ite (h.requestInDrain.command hf) (h.command hf)

theorem Keeps.answer {x : State × Nat} {c op} (h : Keeps z x.1) : Keeps z (State.answer x c op) := h.complete
theorem Keeps.modeRefused (h : Keeps z s) : Keeps z (s.modeRefused).1 := h.upd
theorem Keeps.enterRun {cause} (h : Keeps z s) : Keeps z (s.enterRun cause) := h.changeMode.upd
theorem Keeps.enterShadow {cause} (h : Keeps z s) : Keeps z (s.enterShadow cause) := h.changeMode.upd.twinSettle
theorem Keeps.reqRun (h : Keeps z s) : Keeps z (s.reqRun).1 := .iteFst h.changeMode.beginAcquire (.iteFst h.enterRun h.modeRefused)
theorem Keeps.reqQuiet (h : Keeps z s) : Keeps z (s.reqQuiet).1 := .iteFst h.changeMode.upd.twinSettle h.modeRefused
theorem Keeps.reqShadow (h : Keeps z s) : Keeps z (s.reqShadow).1 := .iteFst h.enterShadow h.modeRefused

theorem Keeps.reqDrain (h : Keeps z s) : Keeps z s.reqDrain.1 := by
  unfold State.reqDrain
  split
  · dsimp only
    exact h.enterDrain
  · exact h.modeRefused

theorem Keeps.reqFaultAck (h : Keeps z s) : Keeps z (s.reqFaultAck).1 := .iteFst h.upd h.modeRefused

theorem Keeps.modeRequest {req} (h : Keeps z s) : Keeps z (s.modeRequest req).1 := by
  unfold State.modeRequest
  split
  · exact h.reqRun
  · exact h.reqQuiet
  · exact h.reqShadow
  · exact h.reqDrain
  · exact h.reqFaultAck
  · exact h.modeRefused

/-! ### DMA reads and notices of the host link (Machine/HostOps) -/

theorem Keeps.sessionError {r count} (h : Keeps z s) : Keeps z (s.sessionError r count) := h.bump.setF.setF.notice
theorem Keeps.setDmaRing {r x} (h : Keeps z s) : Keeps z (s.setDmaRing r x) := h.upd

theorem Keeps.ringOff {r} (h : Keeps z s) : Keeps z (s.ringOff r) := by
  unfold State.ringOff
  dsimp only
  split
  · exact h.setF.setDmaRing.readEnd
  · exact h.setF

theorem Keeps.ringStop {r count} (h : Keeps z s) : Keeps z (s.ringStop r count) := h.ringOff.sessionError
theorem Keeps.signal {v} (h : Keeps z s) : Keeps z (s.signal v) := .ite (.ite h h.upd) h.emitOut
theorem Keeps.sendPending (h : Keeps z s) : Keeps z (s.sendPending) := .foldl h fun _ _ h1 => .ite h1 h1.upd.emitOut
theorem Keeps.setMsix {i v} (h : Keeps z s) : Keeps z (s.setMsix i v) := h.upd.sendPending
theorem Keeps.firstNotice (h : Keeps z s) : Keeps z (s.firstNotice) := .ite h.upd.notice h

theorem Keeps.ringEn {r on_} (h : Keeps z s) : Keeps z (s.ringEn r on_).1 := by
  unfold State.ringEn
  split
  · exact h
  · split
    · exact h.ringOff
    · split
      · exact h
      · dsimp only
        split
        · exact h.setWord.setF.firstNotice
        · exact h.setWord.setF

theorem Keeps.doorbell {r count} (h : Keeps z s) : Keeps z (s.doorbell r count).1 := .iteFst h.sessionError h.setF
theorem Keeps.writeWb {r} (h : Keeps z s) : Keeps z (s.writeWb r).1 := .iteFst h.emitOut h

/-! ### The service ledger and tag (Machine/Service) -/

theorem Keeps.lget {b} (h : Keeps z s) : Keeps z (s.lget b).1 := by
  unfold State.lget
  dsimp only
  split
  · exact .ite h h.bump
  · exact .ite (.ite h h.bump) (.report (.ite h h.bump))

theorem Keeps.readFor {c b} (h : Keeps z s) : Keeps z (s.readFor c b) := by
  unfold State.readFor
  split
  · rename_i e1
    exact (h.lget.ofFst e1).complete
  · rename_i e2
    exact (h.lget.ofFst e2).complete

theorem Keeps.lwait {c b w} (h : Keeps z s) : Keeps z (s.lwait c b w) := h.upd
theorem Keeps.ledgerRead {c b} (h : Keeps z s) : Keeps z (s.ledgerRead c b) := .ite h.complete (.ite h.lwait h.readFor)
theorem Keeps.execLedgerRead {c b} (h : Keeps z s) : KeepsOut z (execLedgerRead c b s) := .next (h.command h.ledgerRead)

theorem Keeps.ledgerWrite {c b d} (h : Keeps z s) : Keeps z (s.ledgerWrite c b d) :=
    .ite h.complete (.ite h.complete (.ite h.lwait h.lbegin))

theorem Keeps.execLedgerWrite {c b data} (h : Keeps z s) : KeepsOut z (execLedgerWrite c b data s) := .next (h.command h.ledgerWrite)

theorem Keeps.lserve {b l} (h : Keeps z s) : Keeps z (s.lserve b l) := by
  induction l generalizing s with
  | nil => exact h
  | cons w rest ih =>
    unfold State.lserve
    split
    · exact ih h
    · dsimp only
      split
      · exact h.upd.lbegin
      · exact ih h.upd.readFor

theorem Keeps.lrelease {b} (h : Keeps z s) : Keeps z (s.lrelease b) := .ite h h.upd.lserve
theorem Keeps.noticeOn {code unit payload} (h : Keeps z s) : Keeps z (s.noticeOn code unit payload) := .ite h h.notice
theorem Keeps.fieldOut {b} (h : Keeps z s) : Keeps z (s.fieldOut b) := h.emitOut
theorem Keeps.fieldErr {e} (h : Keeps z s) : Keeps z (s.fieldErr e) := h.fieldOut
theorem Keeps.lend {op} (h : Keeps z s) : Keeps z (s.lend op) := h.upd.lrelease

theorem Keeps.programmed {op} (h : Keeps z s) : Keeps z (s.programmed op) := by
  unfold State.programmed
  extract_lets _ _ s2
  have hs2 : Keeps z s2 := by
    unfold s2
    split
    · exact h.setLcopy.complete
    · exact h.setLcopy
  exact .lend (.ite hs2.fieldOut.noticeOn hs2)

theorem Keeps.programFailed {op} (h : Keeps z s) : Keeps z (s.programFailed op) := by
  unfold State.programFailed
  extract_lets _ s2 s3
  have hs2 : Keeps z s2 := .noticeOn (.ite h.bump h.bump.report)
  have hs3 : Keeps z s3 := by
    unfold s3
    split
    · exact hs2.complete
    · exact hs2
  exact .lend (.ite hs3.fieldErr hs3)

theorem Keeps.ledgerProgrammed {b ok} (h : Keeps z s) : Keeps z (ledgerProgrammed b ok s) := by
  unfold Machine.ledgerProgrammed
  split
  · exact h
  · exact .ite h.programmed (.ite h.setLcopy.upd h.setLcopy.programFailed)

theorem Keeps.execLedgerProgrammed {b ok} (h : Keeps z s) : KeepsOut z (execLedgerProgrammed b ok s) := .next h.ledgerProgrammed

theorem Keeps.ledgerClaimTimeout {b} (h : Keeps z s) : Keeps z (ledgerClaimTimeout b s) := by
  unfold Machine.ledgerClaimTimeout
  split
  · exact h
  · exact .ite h h.upd.bump.complete

theorem Keeps.execLedgerClaimTimeout {b} (h : Keeps z s) : KeepsOut z (execLedgerClaimTimeout b s) := .next h.ledgerClaimTimeout
theorem Keeps.lifeCounterUpdate (h : Keeps z s) : Keeps z (lifeCounterUpdate s) := .ite h (.foldl h.upd fun _ _ h1 => h1.lupdate)
theorem Keeps.execLifeCounterUpdate (h : Keeps z s) : KeepsOut z (execLifeCounterUpdate s) := .next h.lifeCounterUpdate
theorem Keeps.fieldGone (h : Keeps z s) : Keeps z (s.fieldGone) := .foldl h.upd fun _ _ h1 => h1.setLcopy.lend
theorem Keeps.fieldState {present} (h : Keeps z s) : Keeps z (fieldState present s) := .noticeOn (.ite h.setF h.setF.fieldGone)
theorem Keeps.execFieldState {present} (h : Keeps z s) : KeepsOut z (execFieldState present s) := .next h.fieldState
theorem Keeps.fieldCmd {f g} (h : Keeps z s) (hg : Keeps z g) : Keeps z (s.fieldCmd f g) := .ite hg h
theorem Keeps.countLocked {l} (h : Keeps z s) : Keeps z (s.countLocked l) := .ite h.bump h

theorem Keeps.yieldClaim {b} (h : Keeps z s) : Keeps z (s.yieldClaim b) := by
  unfold State.yieldClaim
  split
  · exact h
  · dsimp only
    split
    · exact h.upd.lwait
    · exact h.upd.lretry

theorem Keeps.readBlocks {opt l acc} (h : Keeps z s) : Keeps z (s.readBlocks opt l acc) := by
  induction l generalizing s acc with
  | nil => exact h.fieldOut
  | cons b rest ih =>
    unfold State.readBlocks
    split <;> rename_i e
    · exact ih (h.lget.ofFst e)
    · exact (h.lget.ofFst e).fieldErr

theorem Keeps.fieldRead {f b n limit} (h : Keeps z s) : Keeps z (s.fieldRead f b n limit) := by
  unfold State.fieldRead
  dsimp only
  split
  · exact h.fieldErr
  · split
    · exact .fieldErr (.ite h.countLocked h)
    · exact h.readBlocks

theorem Keeps.fieldWrite {f b d limit} (h : Keeps z s) : Keeps z (s.fieldWrite f b d limit) := by
  unfold State.fieldWrite
  split
  · exact h.fieldErr
  · split
    · exact h.fieldErr
    · split
      · exact .fieldErr (.ite h.countLocked h)
      · exact .ite h.yieldClaim.lbegin h.fieldErr

theorem Keeps.execInventory {f} (h : Keeps z s) : KeepsOut z (execInventory f s) := .next (.ite h.fieldOut h)
theorem Keeps.execStayQuiet {f} (h : Keeps z s) : KeepsOut z (execStayQuiet f s) := .next (.ite h.upd h)
theorem Keeps.execReadSingleBlock {f b} (h : Keeps z s) : KeepsOut z (execReadSingleBlock f b s) := .next (h.fieldCmd h.fieldRead)
theorem Keeps.execWriteSingleBlock {f b d} (h : Keeps z s) : KeepsOut z (execWriteSingleBlock f b d s) := .next (h.fieldCmd h.fieldWrite)

theorem Keeps.execReadMultipleBlocks {f b n} (h : Keeps z s) : KeepsOut z (execReadMultipleBlocks f b n s) :=
    .next (h.fieldCmd h.fieldRead)

theorem Keeps.execSelect {f} (h : Keeps z s) : KeepsOut z (execSelect f s) := .next (.ite h (.ite h.upd.fieldOut (.ite h.upd h)))
theorem Keeps.execResetToReady {f} (h : Keeps z s) : KeepsOut z (execResetToReady f s) := .next (h.fieldCmd h.upd.fieldOut)
theorem Keeps.execGetSystemInformation {f} (h : Keeps z s) : KeepsOut z (execGetSystemInformation f s) := .next (h.fieldCmd h.fieldOut)

theorem Keeps.execExtendedReadSingleBlock {f b} (h : Keeps z s) : KeepsOut z (execExtendedReadSingleBlock f b s) :=
    .next (h.fieldCmd h.fieldRead)

theorem Keeps.execExtendedWriteSingleBlock {f b d} (h : Keeps z s) : KeepsOut z (execExtendedWriteSingleBlock f b d s) :=
    .next (h.fieldCmd h.fieldWrite)

theorem Keeps.execExtendedReadMultipleBlocks {f b n} (h : Keeps z s) : KeepsOut z (execExtendedReadMultipleBlocks f b n s) :=
    .next (h.fieldCmd h.fieldRead)

theorem Keeps.execExtendedGetSystemInformation {f} (h : Keeps z s) : KeepsOut z (execExtendedGetSystemInformation f s) :=
    .next (h.fieldCmd h.fieldOut)

theorem Keeps.execUnsupportedFieldCommand {f _code} (h : Keeps z s) : KeepsOut z (execUnsupportedFieldCommand f _code s) :=
    .next (h.fieldCmd h.fieldErr)

/-! ### DMA descriptors (Machine/Dma) -/

theorem Keeps.writeDesc {r d moved st} (h : Keeps z s) : Keeps z (s.writeDesc r d moved st) :=
    .ite h.ringStop (.ite h.emitOut.emitOut.setF.bump.signal h.emitOut.emitOut.setF.bump)

theorem Keeps.dmaNext {r} (h : Keeps z s) : Keeps z (s.dmaNext r) := by
  unfold State.dmaNext
  dsimp only
  split
  · split
    · exact h
    · split
      · exact h.setDmaRing.writeDesc
      · exact .ite h.setDmaRing.readIssue h.setDmaRing
  · exact h

theorem Keeps.dmaAdvance {r} (h : Keeps z s) : Keeps z (s.dmaAdvance r) := .foldl h fun _ _ h1 => h1.dmaNext

theorem Keeps.dmaFinish {r st moved} (h : Keeps z s) : Keeps z (s.dmaFinish r st moved) := by
  unfold State.dmaFinish
  dsimp only
  split
  · exact h
  · exact h.setDmaRing.readEnd.writeDesc.dmaAdvance

theorem Keeps.setDmaRun {r d} (h : Keeps z s) : Keeps z (s.setDmaRun r d) := h.setDmaRing

theorem Keeps.descriptorFetch {r ans} (h : Keeps z s) : Keeps z (descriptorFetch r ans s) := by
  unfold Machine.descriptorFetch
  refine .ite h (.withRead h fun h1 => .ite h1.ringStop ?_)
  split
  · exact h1.ringStop
  · exact h1.setDmaRing.dmaAdvance

theorem Keeps.execDescriptorFetch {r ans} (h : Keeps z s) : KeepsOut z (execDescriptorFetch r ans s) := .next h.descriptorFetch

theorem Keeps.dmaRemote {r d ws} (h : Keeps z s) : Keeps z (s.dmaRemote r d ws) := by
  unfold State.dmaRemote
  dsimp only
  exact .ite h.dmaFinish (.ite h.dmaFinish (.ite h.dmaFinish (.foldl h.setDmaRun fun _ _ h3 => h3.benchAsk)))

theorem Keeps.dmaAck {r st} (h : Keeps z s) : Keeps z (s.dmaAck r st) := by
  unfold State.dmaAck
  split
  · exact h
  · exact .ite h.dmaFinish h.setDmaRun

theorem Keeps.dmaToQueue {r ans} (h : Keeps z s) : Keeps z (dmaToQueue r ans s) := by
  unfold Machine.dmaToQueue
  split
  · exact h
  · dsimp only
    split
    · exact h
    · split
      · exact h.readEnd.dmaFinish
      · exact .ite h.readEnd.dmaRemote h.readEnd.qStream.dmaFinish

theorem Keeps.execDmaToQueue {r ans} (h : Keeps z s) : KeepsOut z (execDmaToQueue r ans s) := .next h.dmaToQueue

theorem Keeps.dmaFromQueue {r} (h : Keeps z s) : Keeps z (dmaFromQueue r s) := by
  unfold Machine.dmaFromQueue
  split
  · exact h
  · dsimp only
    split
    · exact h
    · split
      · exact h.eccFlush.dmaFinish
      · split
        · exact h
        · exact .ite h.dmaFinish h.qMark.qConsume.emitOut.setDmaRun.readIssue

theorem Keeps.execDmaFromQueue {r} (h : Keeps z s) : KeepsOut z (execDmaFromQueue r s) := .next h.dmaFromQueue

theorem Keeps.dmaWriteResponse {r} (h : Keeps z s) : Keeps z (dmaWriteResponse r s) := by
  unfold Machine.dmaWriteResponse
  split
  · exact h
  · exact .ite h (.dmaFinish (.ite h.readEnd.qRelease h.readEnd))

theorem Keeps.execDmaWriteResponse {r} (h : Keeps z s) : KeepsOut z (execDmaWriteResponse r s) := .next h.dmaWriteResponse

theorem Keeps.dmaTimeout {r} (h : Keeps z s) : Keeps z (dmaTimeout r s) := by
  unfold Machine.dmaTimeout
  split
  · exact h
  · exact .ite h (.dmaFinish (.ite h.readEnd.qRewind h.readEnd))

theorem Keeps.execDmaTimeout {r} (h : Keeps z s) : KeepsOut z (execDmaTimeout r s) := .next h.dmaTimeout

theorem Keeps.exchangeEnd {r st moved} (h : Keeps z s) : Keeps z (s.exchangeEnd r st moved) := by
  unfold State.exchangeEnd
  split
  · exact h
  · exact .ite h.dmaFinish h.setDmaRun.readIssue

theorem Keeps.dumpBlock {b} (h : Keeps z s) : Keeps z (s.dumpBlock b).1 := by
  unfold State.dumpBlock
  split
  · exact h
  · split <;> rename_i e <;> exact h.lget.ofFst e

theorem Keeps.dumpFrom {r addr d b n} (h : Keeps z s) : Keeps z (s.dumpFrom r addr d b n) := by
  induction n generalizing s d b with
  | zero => exact h.exchangeEnd
  | succ n ih =>
    unfold State.dumpFrom
    split
    · split
      · exact h.setDmaRun
      · exact .ite h.exchangeEnd h.setDmaRun
    · split <;> rename_i e
      · exact (h.dumpBlock.ofFst e).exchangeEnd
      · exact ih (h.dumpBlock.ofFst e).emitOut.setDmaRun

theorem Keeps.ledgerDump {cmd} (h : Keeps z s) : Keeps z (ledgerDump cmd s) := by
  unfold Machine.ledgerDump
  dsimp only
  split
  · exact h
  · exact .ite h (.ite h.dumpFrom (h.withRead (fun h1 => .ite h1.dmaFinish (.ite h1.dmaFinish h1.dumpFrom))))

theorem Keeps.execLedgerDump {cmd} (h : Keeps z s) : KeepsOut z (execLedgerDump cmd s) := .next h.ledgerDump

/-! ### Register writes (Machine/RegWrite) -/

theorem Keeps.fuseCtl {v} (h : Keeps z s) : Keeps z (s.fuseCtl v) := .ite h.upd (.ite (.ite h.upd h.upd) h.upd)

theorem Keeps.qctlOps {q v} (h : Keeps z s) : Keeps z (s.qctlOps q v).1 := by
  unfold State.qctlOps
  extract_lets s1 s2 s3
  have hs1 : Keeps z s1 := .ite h.qRelease h
  have hs2 : Keeps z s2 := .ite hs1.qMark hs1
  have hs3 : Keeps z s3 := .ite hs2.qRewind hs2
  exact .ite (.setF (.setF (.iteFst hs3.askFlush hs3))) (.iteFst hs3.askFlush hs3)

theorem Keeps.qctl {q v} (h : Keeps z s) : Keeps z (s.qctl q v).1 := by
  unfold State.qctl
  refine .iteFst h (.iteFst ?_ h.qctlOps)
  split
  · exact h
  · rename_i e
    exact (h.qAdvance e).qctlOps

theorem Keeps.setCapture {p v} (h : Keeps z s) : Keeps z (s.setCapture p v) :=
    .ite h.setF.setF.setStream (.ite h.setF.setF h.setF.setF.setStream)

theorem Keeps.setEp0 {e v} (h : Keeps z s) : Keeps z (s.setEp0 e v) := h.setWord
theorem Keeps.abortClear (h : Keeps z s) : Keeps z (s.abortClear) := h.upd
theorem Keeps.stepCtl {v} (h : Keeps z s) : Keeps z (s.stepCtl v).1 := .ite (.stepAccept (.iteFst h.stepSet h)) (.iteFst h.stepSet h)

theorem Keeps.writeReg {hh a v} (h : Keeps z s) : Keeps z (s.writeReg hh a v).1 := by
  unfold State.writeReg
  dsimp only
  split
  · exact .ite h.upd h
  · exact h.modeRequest
  · exact .ite h.upd h
  · exact h.abortClear
  · exact h.upd
  · exact h.fuseCtl
  · exact h.stepCtl
  · exact h.setRxGain.setTxAtt
  · exact h.setCapture
  · exact h.setRun.rxFollowLane
  · exact h.setWord.noteBlank
  · exact h.upd
  · exact .ite h.setF h
  · exact h.setWord.setQst
  · exact h.qctl
  · exact h.setF.setF.ringEn
  · exact h.setF.ringEn
  · exact h.setF.setF.ringEn
  · exact h.setQword
  · exact h.epHostState.setEp0
  · exact h.setWord

theorem Keeps.reportST {who a v} (h : Keeps z s) : Keeps z (s.reportST who a v) := h.bump.notice

theorem Keeps.writeWord {who a v} (h : Keeps z s) : Keeps z (s.writeWord who a v).1 := by
  unfold State.writeWord
  split
  · exact h
  · exact .ite h.writeReg.reportST h.writeReg

theorem Keeps.writeWords {who a l} (h : Keeps z s) : Keeps z (s.writeWords who a l).1 := by
  induction l generalizing s a with
  | nil => exact h
  | cons w ws ih => exact ih h.writeWord

theorem Keeps.cmdWrite {n a ws} (h : Keeps z s) : Keeps z (s.cmdWrite n a ws).1 := by
  unfold State.cmdWrite
  split
  · exact h
  · exact h.writeWords

theorem Keeps.writeCmd {c a v} (h : Keeps z s) : Keeps z (s.writeCmd c a v) := h.writeCommand h.cmdWrite.answer

theorem Keeps.bar0Write {off v} (h : Keeps z s) : Keeps z (s.bar0Write off v) := by
  unfold State.bar0Write
  split
  · exact h
  · split
    · split
      · exact h
      · exact h.writeWord
    · exact .ite h.setMsix h

theorem Keeps.srcWrite {src a v} (h : Keeps z s) : Keeps z (s.srcWrite src a v) := by
  unfold State.srcWrite
  split
  · exact .ite h.writeCmd (h.command h.complete)
  · exact h.bar0Write

theorem Keeps.execRegisterWrite {src a v} (h : Keeps z s) : KeepsOut z (execRegisterWrite src a v s) := .next h.srcWrite
theorem Keeps.execCounterClear {c a v} (h : Keeps z s) : KeepsOut z (execCounterClear c a v s) := .next h.srcWrite
theorem Keeps.execW1cClear {src a mask racing} (h : Keeps z s) : KeepsOut z (execW1cClear src a mask racing s) := .next h.srcWrite
theorem Keeps.execOptagHwClear {c} (h : Keeps z s) : KeepsOut z (execOptagHwClear c s) := .next h.writeCmd
theorem Keeps.execPoolHwClear {c} (h : Keeps z s) : KeepsOut z (execPoolHwClear c s) := .next h.writeCmd
theorem Keeps.execAbortinfoClear {c v} (h : Keeps z s) : KeepsOut z (execAbortinfoClear c v s) := .next h.writeCmd
theorem Keeps.execStepSet {c} (h : Keeps z s) : KeepsOut z (execStepSet c s) := .next h.writeCmd
theorem Keeps.execStepAccept {c} (h : Keeps z s) : KeepsOut z (execStepAccept c s) := .next h.writeCmd
theorem Keeps.execFuseArm {c} (h : Keeps z s) : KeepsOut z (execFuseArm c s) := .next h.writeCmd
theorem Keeps.execFuseBlow {c} (h : Keeps z s) : KeepsOut z (execFuseBlow c s) := .next h.writeCmd
theorem Keeps.execFuseProgramDone (h : Keeps z s) : KeepsOut z (execFuseProgramDone s) := .next (.ite h.upd h)
theorem Keeps.execQctlAdvance {c q count} (h : Keeps z s) : KeepsOut z (execQctlAdvance c q count s) := .next h.writeCmd
theorem Keeps.execQctlRelease {c q} (h : Keeps z s) : KeepsOut z (execQctlRelease c q s) := .next h.writeCmd
theorem Keeps.execQctlMark {c q} (h : Keeps z s) : KeepsOut z (execQctlMark c q s) := .next h.writeCmd
theorem Keeps.execQctlRewind {c q} (h : Keeps z s) : KeepsOut z (execQctlRewind c q s) := .next h.writeCmd
theorem Keeps.execQctlFlush {c q} (h : Keeps z s) : KeepsOut z (execQctlFlush c q s) := .next h.writeCmd
theorem Keeps.execQctlClrcnt {c q} (h : Keeps z s) : KeepsOut z (execQctlClrcnt c q s) := .next h.writeCmd
theorem Keeps.execQcfgStaleWrite {c q v} (h : Keeps z s) : KeepsOut z (execQcfgStaleWrite c q v s) := .next h.writeCmd
theorem Keeps.execLaneRun {c l run} (h : Keeps z s) : KeepsOut z (execLaneRun c l run s) := .next h.writeCmd
theorem Keeps.execLpgainWrite {c p v} (h : Keeps z s) : KeepsOut z (execLpgainWrite c p v s) := .next h.writeCmd

theorem Keeps.ringEnable {src r v} (h : Keeps z s) : Keeps z (ringEnable src r v s) := by
  unfold Machine.ringEnable
  split
  · exact h.srcWrite
  · split
    · exact .ite h.bar0Write h
    · exact h.bar0Write
    · exact h

theorem Keeps.execRingEnable {src r v} (h : Keeps z s) : KeepsOut z (execRingEnable src r v s) := .next h.ringEnable
theorem Keeps.execEpStateActive {c e v} (h : Keeps z s) : KeepsOut z (execEpStateActive c e v s) := .next h.writeCmd
theorem Keeps.execEpStateFree {c e v} (h : Keeps z s) : KeepsOut z (execEpStateFree c e v s) := .next h.writeCmd
theorem Keeps.execHlCdb {n count} (h : Keeps z s) : KeepsOut z (execHlCdb n count s) := .next h.doorbell
theorem Keeps.execHlNdb {count} (h : Keeps z s) : KeepsOut z (execHlNdb count s) := .next h.doorbell

theorem Keeps.hlDdb {r count} (h : Keeps z s) : Keeps z (hlDdb r count s) := by
  unfold Machine.hlDdb
  split
  · rename_i e1
    exact (h.doorbell.ofFst e1).setDmaRing
  · rename_i e2
    exact (h.doorbell.ofFst e2)

theorem Keeps.execHlDdb {r count} (h : Keeps z s) : KeepsOut z (execHlDdb r count s) := .next h.hlDdb
theorem Keeps.setShadows {a l} (h : Keeps z s) : Keeps z (s.setShadows a l) := h.upd
theorem Keeps.readOut {l} (h : Keeps z s) : Keeps z (s.readOut l) := h.upd
theorem Keeps.latch {a req ws} (h : Keeps z s) : Keeps z (s.latch a req ws) := .ite h.setShadows (.ite h.setShadows.bump h.setShadows)
theorem Keeps.nowLoRead {req a wide} (h : Keeps z s) : Keeps z (nowLoRead req a wide s) := .ite h.readOut h.latch.readOut
theorem Keeps.execNowLoRead {req a wide} (h : Keeps z s) : KeepsOut z (execNowLoRead req a wide s) := .next h.nowLoRead

theorem Keeps.rsShadowRead {req a} (h : Keeps z s) : Keeps z (rsShadowRead req a s) := by
  unfold Machine.rsShadowRead
  split
  · exact h.readOut
  · split
    · exact h.readOut
    · exact h.setShadows.readOut

theorem Keeps.execRsShadowRead {req a} (h : Keeps z s) : KeepsOut z (execRsShadowRead req a s) := .next h.rsShadowRead

/-! ### Commands of a host (Machine/HostCmd) -/

theorem Keeps.execNop {c payload} (h : Keeps z s) : KeepsOut z (execNop c payload s) := .next (h.command h.complete)
theorem Keeps.readCmd {c a n} (h : Keeps z s) : Keeps z (s.readCmd c a n) := .ite h.complete (.ite h.complete h.complete)
theorem Keeps.execRead {c a n} (h : Keeps z s) : KeepsOut z (execRead c a n s) := .next (h.command h.readCmd)
theorem Keeps.writeStatus {n a ws} (h : Keeps z s) : Keeps z (s.writeStatus n a ws).1 := .iteFst h (.iteFst h h.cmdWrite)
theorem Keeps.execWrite {c a ws} (h : Keeps z s) : KeepsOut z (execWrite c a ws s) := .next (h.writeCommand h.writeStatus.answer)

theorem Keeps.readBlock {c a host len} (h : Keeps z s) : Keeps z (s.readBlock c a host len) := by
  unfold State.readBlock
  split
  · exact h.complete
  · exact h.withRead (fun h1 => h1.emitOut.complete)

theorem Keeps.execReadBlock {c a host len} (h : Keeps z s) : KeepsOut z (execReadBlock c a host len s) := .next (h.command h.readBlock)

theorem Keeps.writeGroups {k n a ws st moved} (h : Keeps z s) : Keeps z (State.writeGroups k s n a ws st moved).1 := by
  induction k generalizing s a ws st moved with
  | zero => exact h
  | succ k ih =>
    unfold State.writeGroups
    refine .iteFst h ?_
    dsimp only
    split
    · exact h
    · exact ih h.writeWords

theorem Keeps.writeBlock {c a host len ans} (h : Keeps z s) : Keeps z (s.writeBlock c a host len ans) := by
  unfold State.writeBlock
  split
  · exact h.complete
  · refine .withRead h (fun h2 => ?_)
    split
    · exact h2.complete
    · exact h2.writeGroups.complete

theorem Keeps.execWriteBlock {c a host len ans} (h : Keeps z s) : KeepsOut z (execWriteBlock c a host len ans s) :=
    .next (h.writeCommand h.writeBlock)

theorem Keeps.enqueueStatus {n a start ws} (h : Keeps z s) : Keeps z (s.enqueueStatus n a start ws).1 := by
  unfold State.enqueueStatus
  split
  · exact h
  · exact .iteFst h h.qProduce

theorem Keeps.execEnqueue {c a start ws} (h : Keeps z s) : KeepsOut z (execEnqueue c a start ws s) :=
    .next (h.command h.enqueueStatus.answer)

/-! ### Events of the receive bench (Machine/Sample) -/

theorem Keeps.rfChanges {n c flags chg} (h : Keeps z s) : Keeps z (s.rfChanges n c flags chg) := by
  unfold State.rfChanges
  extract_lets _ _ s1
  have hs1 : Keeps z s1 := .ite h.rfSettle h
  exact .setRfLink (.ite hs1.rfMarkInv (.ite hs1 hs1.rfSettle))

theorem Keeps.rfLast {n c} (h : Keeps z s) : Keeps z (s.rfLast n c) := h.setRfLink.setF.setF
theorem Keeps.rfClip {n c flags} (h : Keeps z s) : Keeps z (s.rfClip n c flags) := .ite h.setRfLink h
theorem Keeps.rfFrame {n c flags chg} (h : Keeps z s) : Keeps z (s.rfFrame n c flags chg) := h.rfLast.rfChanges.rfClip.chanTo.streamCells
theorem Keeps.rfMap {n c} (h : Keeps z s) : Keeps z (s.rfMap n c) := h.upd.setRfLink
theorem Keeps.rfCandidate {n ch} (h : Keeps z s) : Keeps z (s.rfCandidate n ch) := h.setRfLink

theorem Keeps.rfAlign {n x ch} (h : Keeps z s) : Keeps z (s.rfAlign n x ch) :=
    h.rfMap.chanIdle.setRfLink.rfSettle.rfChanges.rfFrame.rfState

theorem Keeps.rfRealign {n x ch} (h : Keeps z s) : Keeps z (s.rfRealign n x ch) := by
  unfold State.rfRealign
  dsimp only
  exact .notice (.bump (.rfState (.rfFrame (.rfFrame (.rfSettle (.ite (.chanTo (.ite h.setRfLink h.rfMap)) h.chanTo.setRfLink))))))

theorem Keeps.rfAligned {n ch} (h : Keeps z s) : Keeps z (s.rfAligned n ch) := .ite h (.rfFrame (.ite h.chanTo.gapDemods h))

theorem Keeps.rfGood {n ch} (h : Keeps z s) : Keeps z (s.rfGood n ch) := by
  unfold State.rfGood
  dsimp only
  split
  · split
    · exact h.rfAlign
    · exact h.rfCandidate
  · exact h.rfAligned
  · split
    · exact h.bump
    · split
      · exact h.rfRealign
      · exact h.rfCandidate
  · exact h

theorem Keeps.rfRxFrame {n ch} (h : Keeps z s) : Keeps z (rfRxFrame n ch s) :=
    .ite h (.ite h.chanGap.rfGood (.ite h.chanGap.setRfLink.bump h.chanGap.setRfLink))

theorem Keeps.execRfRxFrame {n ch} (h : Keeps z s) : KeepsOut z (execRfRxFrame n ch s) := .next h.rfRxFrame

theorem Keeps.rfFrameMissing {n} (h : Keeps z s) : Keeps z (rfFrameMissing n s) := by
  unfold Machine.rfFrameMissing
  dsimp only
  split
  · exact h
  · exact .ite h.setRfLink.rfState.gapDemods.chanGap h

theorem Keeps.execRfFrameMissing {n} (h : Keeps z s) : KeepsOut z (execRfFrameMissing n s) := .next h.rfFrameMissing

theorem Keeps.rfcLaunched {k e resp} (h : Keeps z s) : Keeps z (s.rfcLaunched k e resp) := by
  unfold State.rfcLaunched
  dsimp only
  split
  · exact .ite h.launchDone.bump h.launchDone.bump
  · split
    · exact h.launchDone
    · split
      · exact .lqUpdate (.ite h.emitOut.bump h.emitOut)
      · exact .bump (.launchDone (.ite h.emitOut.bump h.emitOut))
      · exact .ite (.lqUpdate (.ite h.emitOut.bump h.emitOut)) (.bump (.launchDone (.ite h.emitOut.bump h.emitOut)))

theorem Keeps.rfcFault {w} (h : Keeps z s) : Keeps z (s.rfcFault w) := by
  unfold State.rfcFault
  split
  · exact h.txFail
  · exact h

theorem Keeps.rfcAccepted {w} (h : Keeps z s) : Keeps z (s.rfcAccepted w) := .ite h.lqUpdate.rfcApplied h.lqUpdate.upd

theorem Keeps.rfcOther {k w resp} (h : Keeps z s) : Keeps z (s.rfcOther k w resp) := by
  unfold State.rfcOther
  dsimp only
  split
  · exact h.upd
  · split
    · exact .ite h.upd.emitOut.upd h.upd.emitOut.rfcAccepted
    · exact h.upd.emitOut.bump.rfcFault
    · exact .ite h.upd.emitOut.bump.rfcFault h.upd.emitOut.upd.bump.lqUpdate

theorem Keeps.rfcTransaction {k resp} (h : Keeps z s) : Keeps z (rfcTransaction k resp s) := by
  unfold Machine.rfcTransaction
  split
  · exact h.rfcLaunched
  · split
    · exact h.rfcOther
    · exact h

theorem Keeps.execRfcTransaction {k resp} (h : Keeps z s) : KeepsOut z (execRfcTransaction k resp s) := .next h.rfcTransaction
theorem Keeps.laneParityError {lane word} (h : Keeps z s) : Keeps z (laneParityError lane word s) := h.setRun.setF.report
theorem Keeps.execLaneParityError {lane word} (h : Keeps z s) : KeepsOut z (execLaneParityError lane word s) := .next h.laneParityError

theorem Keeps.captureItem {p levels} (h : Keeps z s) : Keeps z (captureItem p levels s) := by
  unfold Machine.captureItem
  dsimp only
  split
  · exact h
  · split
    · split
      · rename_i e1
        exact (h.setStream.bump.bump.qHwItem.ofFst e1)
      · rename_i e2
        exact (h.setStream.bump.bump.qHwItem.ofFst e2).bump
    · exact h

theorem Keeps.execCaptureItem {p levels} (h : Keeps z s) : KeepsOut z (execCaptureItem p levels s) := .next h.captureItem

/-! ### The launch queue (Machine/Launch) -/

theorem Keeps.hostInsert {e} (h : Keeps z s) : Keeps z (s.hostInsert e).1 := .iteFst h.lqInsert h
theorem Keeps.copyInsert {e} (h : Keeps z s) : Keeps z (s.copyInsert e).1 := .iteFst h.lqPut h.lqCountRefusal
theorem Keeps.withdrawCopies {l} (h : Keeps z s) : Keeps z (s.withdrawCopies l) := .foldl h fun _ _ h1 => h1.benchAsk

theorem Keeps.launchSettle {l} (h : Keeps z s) : Keeps z (s.launchSettle l) := by
  unfold State.launchSettle
  split
  · exact h.upd
  · split
    · exact h.withdrawCopies.complete
    · exact .ite h.copyInsert.upd.complete h.copyInsert.withdrawCopies.complete

theorem Keeps.launchAnswer {c m st hh} (h : Keeps z s) : Keeps z (s.launchAnswer c m st hh) := by
  unfold State.launchAnswer
  split
  · exact h
  · exact h.upd.launchSettle

theorem Keeps.launchBench {c e} (h : Keeps z s) : Keeps z (s.launchBench c e) :=
  .ite h.lqCountRefusal.complete (.launchSettle (.foldlFst h fun _ _ h1 => .iteFst h1.benchAsk h1.benchAsk))

theorem Keeps.launchCmd {c w} (h : Keeps z s) : Keeps z (s.launchCmd c w) := .ite h.launchBench h.hostInsert.complete
theorem Keeps.execLaunch {c entry} (h : Keeps z s) : KeepsOut z (execLaunch c entry s) := .next (h.command h.launchCmd)
theorem Keeps.unread {e} (h : Keeps z s) : Keeps z (s.unread e) := .ite h.qBack h
theorem Keeps.cancelEntry {e} (h : Keeps z s) : Keeps z (s.cancelEntry e) := .ite h.unread.dropRamp.dropOfs.launchDone h.endEntry

theorem Keeps.cancelHandle {hh words} (h : Keeps z s) : Keeps z (s.cancelHandle hh words).1 := by
  unfold State.cancelHandle
  dsimp only
  split
  · exact .iteFst h (.iteFst h h.cancelEntry)
  · split
    · exact .iteFst h h
    · exact h

theorem Keeps.cancelAnswer {c st} (h : Keeps z s) : Keeps z (s.cancelAnswer c st) := by
  unfold State.cancelAnswer
  split
  · exact h
  · exact .ite h.upd.complete h.upd

theorem Keeps.carryCancel {c hh st} (h : Keeps z s) : Keeps z (s.carryCancel c hh st) := by
  unfold State.carryCancel
  extract_lets x
  have hx : Keeps z x.1 := .foldlFst h fun _ _ h1 => .iteFst h1.benchAsk h1.benchAsk
  exact .ite hx.complete hx.upd

theorem Keeps.launchCancelCmd {c w hh} (h : Keeps z s) : Keeps z (s.launchCancelCmd c w hh) := by
  unfold State.launchCancelCmd
  dsimp only
  split
  · exact h.cancelHandle.carryCancel
  · exact h.cancelHandle.complete

theorem Keeps.execLaunchCancel {c entry handle} (h : Keeps z s) : KeepsOut z (execLaunchCancel c entry handle s) :=
    .next (h.command h.launchCancelCmd)

theorem Keeps.launchStage {i} (h : Keeps z s) : Keeps z (launchStage i s) := by
  unfold Machine.launchStage
  split
  · exact h
  · split
    · exact .ite h.lqUpdate h
    · exact h

theorem Keeps.execLaunchStage {e} (h : Keeps z s) : KeepsOut z (execLaunchStage e s) := .next h.launchStage
theorem Keeps.plcBand {e} (h : Keeps z s) : Keeps z (s.plcBand e) := .ite h.launchDone h.setF.rxFollowPort.launchDone
theorem Keeps.execPlcBand {e} (h : Keeps z s) : KeepsOut z (execPlcBand e s) := .next (h.runAction h.plcBand)

theorem Keeps.linkAction {e} (h : Keeps z s) : Keeps z (s.linkAction e) :=
    .ite h.rfcApplied.launchDone (.ite h.launchDone.bump h.launchDone.bump)

theorem Keeps.execRfTune {e} (h : Keeps z s) : KeepsOut z (execRfTune e s) := .next (h.runAction h.linkAction)
theorem Keeps.gain {e} (h : Keeps z s) : Keeps z (s.gain e) := .ite h.linkAction (.ite h.setTxAtt.launchDone h.setRxGain.launchDone)
theorem Keeps.execGain {e} (h : Keeps z s) : KeepsOut z (execGain e s) := .next (h.runAction h.gain)
theorem Keeps.execRfProfile {e} (h : Keeps z s) : KeepsOut z (execRfProfile e s) := .next (h.runAction h.linkAction)
theorem Keeps.eventEdge {e} (h : Keeps z s) : Keeps z (s.eventEdge e) := .ite h.launchDone h.upd.emitOut.launchDone
theorem Keeps.execEventEdge {e} (h : Keeps z s) : KeepsOut z (execEventEdge e s) := .next (h.runAction h.eventEdge)
theorem Keeps.marker {e} (h : Keeps z s) : Keeps z (s.marker e) := .launchDone (.ite h.setStream h.setRfLink)
theorem Keeps.execMarker {e} (h : Keeps z s) : KeepsOut z (execMarker e s) := .next (h.runAction h.marker)

/-! ### Structures (Machine/StructOps) -/

theorem Keeps.imageWrite {a v} (h : Keeps z s) : Keeps z (s.imageWrite a v) := by
  unfold State.imageWrite
  split
  · exact h.setWord
  · exact h

theorem Keeps.imageWrites {l} (h : Keeps z s) : Keeps z (s.imageWrites l) := .foldl h fun _ _ h1 => h1.imageWrite
theorem Keeps.factoryStructure (h : Keeps z s) : Keeps z (s.factoryStructure) := .foldl h fun _ _ h1 => h1.imageWrite

/-! ### Loads (Machine/LoadOps) -/

theorem Keeps.writeSummary (h : Keeps z s) : Keeps z (s.writeSummary) := h.lupdate.lupdate
theorem Keeps.writeExtra {x} (h : Keeps z s) : Keeps z (s.writeExtra x) := h.lupdate.lupdate
theorem Keeps.showPipes (h : Keeps z s) : Keeps z (s.showPipes) := .foldl h fun _ _ h1 => h1.setF.setF
theorem Keeps.runLanes (h : Keeps z s) : Keeps z (s.runLanes) := .foldl h fun _ _ h1 => .ite h1.setF h1

/-- The structure that goes live finds queue memory clear (R47). -/
theorem Keeps.emptyQueues {x} (h : Keeps z s) : Keeps z { s with qmem := [], queues := {}, struct_ := x } := by
  refine ⟨h.pending, fun hz => ?_⟩
  have hs := h.sound hz
  simp only [State.sound, Bool.and_eq_true] at hs ⊢
  exact ⟨hs.1, rfl⟩

theorem Keeps.goLive {key step} (h : Keeps z s) : Keeps z (s.goLive key step) :=
  .foldl (.foldl h.emptyQueues.showPipes.runLanes fun _ _ h1 => h1.capRealign) fun _ _ h1 => h1.domainComesOn

theorem Keeps.loadOver (h : Keeps z s) : Keeps z (s.loadOver) := h.upd

theorem Keeps.loadFail {cause type} (h : Keeps z s) : Keeps z (s.loadFail cause type) := by
  unfold State.loadFail
  dsimp only
  exact h.loadOver.factoryStructure.goLive.setWord.setF.setF.setF.setF.setWord.setWord.writeSummary.writeExtra.notice.changeMode.upd

theorem Keeps.built {im} (h : Keeps z s) : Keeps z (s.built im) := h.factoryStructure.imageWrites

theorem Keeps.loadImage {im} (h : Keeps z s) : Keeps z (s.loadImage im) := by
  unfold State.loadImage
  extract_lets s1 s2 s3
  have h2 : Keeps z s2 := h.loadOver.built.goLive.setWord.setF.setF
  have h3 : Keeps z s3 := h2.setF.setWord.setWord
  exact h3.writeSummary.writeExtra.changeMode

theorem Keeps.checkLoaded {b avail} (h : Keeps z s) : Keeps z (s.checkLoaded b avail) := by
  unfold State.checkLoaded
  split
  · exact h.loadFail
  · split
    · exact h.loadFail
    · exact h.loadImage

/-! ### Power-line reception (Machine/PlcRx) -/

theorem Keeps.plcDetect {p b metric end_} (h : Keeps z s) : Keeps z (plcDetect p b metric end_ s) := .ite h.setRx.bump h
theorem Keeps.execPlcDetect {p w} (h : Keeps z s) : KeepsOut z (execPlcDetect p w s) := .next h.plcDetect

theorem Keeps.plcSyncm {p b deep start} (h : Keeps z s) : Keeps z (plcSyncm p b deep start s) := by
  unfold Machine.plcSyncm
  dsimp only
  split
  · exact .ite h.setRx h
  · exact h

theorem Keeps.execPlcSyncm {p b deep start} (h : Keeps z s) : KeepsOut z (execPlcSyncm p b deep start s) := .next h.plcSyncm

theorem Keeps.plcSyncTimeout {p b} (h : Keeps z s) : Keeps z (plcSyncTimeout p b s) := by
  unfold Machine.plcSyncTimeout
  dsimp only
  split
  · exact .ite h.setRx.bump h
  · exact h

theorem Keeps.execPlcSyncTimeout {p b} (h : Keeps z s) : KeepsOut z (execPlcSyncTimeout p b s) := .next h.plcSyncTimeout

theorem Keeps.plcHeaderDecided {p b header} (h : Keeps z s) : Keeps z (plcHeaderDecided p b header s) := by
  unfold Machine.plcHeaderDecided
  dsimp only
  split
  · split
    · exact h
    · split
      · exact h.setRx
      · exact h.setRx.bump
  · exact h

theorem Keeps.execPlcHeaderDecided {p b header} (h : Keeps z s) : KeepsOut z (execPlcHeaderDecided p b header s) :=
    .next h.plcHeaderDecided

theorem Keeps.plcAckIn {p b psdu} (h : Keeps z s) : Keeps z (s.plcAckIn p b psdu) := by
  unfold State.plcAckIn
  dsimp only
  split
  · exact h
  · exact .ite h.ackMissed h.releaseAttempt

theorem Keeps.plcOweAck {p b psdu ft mode frameEnd} (h : Keeps z s) : Keeps z (s.plcOweAck p b psdu ft mode frameEnd) := .ite h.setPchan h

theorem Keeps.plcDecoded {hh b r rx psdu} (h : Keeps z s) : Keeps z (s.plcDecoded hh b r rx psdu) := by
  unfold State.plcDecoded
  dsimp only
  split
  · exact h.plcAckIn
  · exact h
  · exact .ite h.bump (.ite h.plcOweAck.bump h.plcOweAck.frameIn)

theorem Keeps.plcFrameDue {p b rx} (h : Keeps z s) : Keeps z (plcFrameDue p b rx s) := by
  unfold Machine.plcFrameDue
  dsimp only
  split
  · exact h
  · split
    · exact h
    · split
      · exact h.setRx.bump.bump.bump
      · exact .ite h h.setRx.bump.bump.setF.setF.bump.plcDecoded

theorem Keeps.execPlcFrameDue {p b rx} (h : Keeps z s) : KeepsOut z (execPlcFrameDue p b rx s) := .next h.plcFrameDue
theorem Keeps.plcSuspendEnd {p} (h : Keeps z s) : Keeps z (plcSuspendEnd p s) := .ite h (.foldl h fun _ _ h1 => .ite h1.rxTo h1)
theorem Keeps.execPlcSuspendEnd {p} (h : Keeps z s) : KeepsOut z (execPlcSuspendEnd p s) := .next h.plcSuspendEnd

/-! ### Chirp frames (Machine/Chirp) -/

theorem Keeps.chirpDetect {n ch sf bin start ratio power} (h : Keeps z s) : Keeps z (chirpDetect n ch sf bin start ratio power s) :=
    .ite h (.ite h.bump.bump h.bump.upd)

theorem Keeps.execChirpDetect {n ch sf bin start m} (h : Keeps z s) : KeepsOut z (execChirpDetect n ch sf bin start m s) :=
    .next h.chirpDetect

theorem Keeps.grantLocal {d u} (h : Keeps z s) : Keeps z (s.grantLocal d u) := .ite h.setDemods h.setDemods.bump
theorem Keeps.grantCredit {d m} (h : Keeps z s) : Keeps z (s.grantCredit d m) := h.upd.setF.setDemods.benchPost.streamCells

theorem Keeps.allocate {d} (h : Keeps z s) : Keeps z (s.allocate d) := by
  unfold State.allocate
  dsimp only
  split
  · exact .ite h.bump h.grantLocal
  · split
    · split
      · exact h.grantCredit
      · exact h.bump
    · exact h.bump

theorem Keeps.demodGrant {n ch sf} (h : Keeps z s) : Keeps z (demodGrant n ch sf s) := by
  unfold Machine.demodGrant
  split
  · exact h
  · exact .ite h.upd.allocate h

theorem Keeps.execDemodGrant {n ch sf} (h : Keeps z s) : KeepsOut z (execDemodGrant n ch sf s) := .next h.demodGrant
theorem Keeps.poolHwClear (h : Keeps z s) : Keeps z (poolHwClear s) := h.setF
theorem Keeps.changeDemod {d x} (h : Keeps z s) : Keeps z (s.changeDemod d x) := h.setDemods

theorem Keeps.syncDecided {u v0 v1 delim syncT} (h : Keeps z s) : Keeps z (syncDecided u v0 v1 delim syncT s) := by
  unfold Machine.syncDecided
  split
  · exact h
  · exact .ite h (.ite h.changeDemod h.endLent)

theorem Keeps.execSyncDecided {d v0 v1 delim syncT} (h : Keeps z s) : KeepsOut z (execSyncDecided d v0 v1 delim syncT s) :=
    .next h.syncDecided

theorem Keeps.firstBlockDecided {u values} (h : Keeps z s) : Keeps z (firstBlockDecided u values s) := by
  unfold Machine.firstBlockDecided
  split
  · exact h
  · split
    · exact h
    · split
      · exact h.changeDemod
      · exact h.endLent

theorem Keeps.execFirstBlockDecided {d values} (h : Keeps z s) : KeepsOut z (execFirstBlockDecided d values s) :=
    .next h.firstBlockDecided

theorem Keeps.chirpLost {u why} (h : Keeps z s) : Keeps z (chirpLost u why s) := by
  unfold Machine.chirpLost
  split
  · exact h
  · exact .ite h.endLent h
  · exact .ite h.endLent h

theorem Keeps.execChirpLost {d why} (h : Keeps z s) : KeepsOut z (execChirpLost d why s) := .next h.chirpLost

theorem Keeps.chirpFrameDue {u rx} (h : Keeps z s) : Keeps z (chirpFrameDue u rx s) := by
  unfold Machine.chirpFrameDue
  split
  · exact h
  · dsimp only
    split
    · exact h
    · split
      · exact h.endLent
      · split
        · exact h.freeDemod.bump.benchPost
        · exact h.freeDemod.bump.radioIn

theorem Keeps.execChirpFrameDue {d rx} (h : Keeps z s) : KeepsOut z (execChirpFrameDue d rx s) := .next h.chirpFrameDue

theorem Keeps.rfItemRead {e it} (h : Keeps z s) : Keeps z (s.rfItemRead e it) :=
    .ite h.txFail (.ite h.txFail (.secureEntry (.ite h.lqUpdate.rfcAsk h.lqUpdate)))

theorem Keeps.rfTxItemRead {i} (h : Keeps z s) : Keeps z (rfTxItemRead i s) := by
  unfold Machine.rfTxItemRead
  split
  · exact h
  · split
    · exact h
    · split
      · exact h.rfItemRead
      · split
        · exact h.txFail
        · split
          · rename_i e1
            split
            · split
              · exact .ite (h.txTake.ofFst e1).txFail (h.txTake.ofFst e1).rfItemRead
              · exact h
            · exact h

theorem Keeps.execRfTxItemRead {e} (h : Keeps z s) : KeepsOut z (execRfTxItemRead e s) := .next h.rfTxItemRead

theorem Keeps.rfItemDeadline {i} (h : Keeps z s) : Keeps z (rfItemDeadline i s) := by
  unfold Machine.rfItemDeadline
  split
  · exact h
  · exact .ite h.txFail h

theorem Keeps.execRfItemDeadline {e} (h : Keeps z s) : KeepsOut z (execRfItemDeadline e s) := .next h.rfItemDeadline

theorem Keeps.dutyCheck {i} (h : Keeps z s) : Keeps z (dutyCheck i s) := by
  unfold Machine.dutyCheck
  split
  · exact h
  · split
    · split
      · exact h
      · split
        · rename_i e1
          exact (h.dutyCharge.ofFst e1).lqUpdate
        · rename_i e2
          exact (h.dutyCharge.ofFst e2).txFail
    · exact h

theorem Keeps.execDutyCheck {e} (h : Keeps z s) : KeepsOut z (execDutyCheck e s) := .next h.dutyCheck

theorem Keeps.uprampStart {i} (h : Keeps z s) : Keeps z (uprampStart i s) := by
  unfold Machine.uprampStart
  split
  · exact h
  · split
    · dsimp only
      split
      · exact h
      · split
        · exact h
        · split
          · exact h.txFail
          · exact h.upd.lqUpdate.rfBusy.endPort.emitRamp
    · exact h

theorem Keeps.execUprampStart {e} (h : Keeps z s) : KeepsOut z (execUprampStart e s) := .next h.uprampStart

theorem Keeps.rfTx {i} (h : Keeps z s) : Keeps z (rfTx i s) := by
  unfold Machine.rfTx
  split
  · exact h
  · dsimp only
    split
    · exact h
    · split
      · exact h.txFail
      · split
        · exact .ite h.lqRemove.emitOut h.txFail
        · exact .ite h.lqRemove.emitOut.endOfTick h.txFail
        · exact h.txFail

theorem Keeps.execRfTx {e} (h : Keeps z s) : KeepsOut z (execRfTx e s) := .next h.rfTx

theorem Keeps.rfSent {n r} (h : Keeps z s) : Keeps z (s.rfSent n r) := by
  unfold State.rfSent
  dsimp only
  split
  · exact h.qRelease
  · split
    · exact h
    · exact .ite h.upd h.rfRelease
  · split
    · exact h
    · exact .ite h.upd h.mbxFree
  · exact h

theorem Keeps.rfTxEnd {n} (h : Keeps z s) : Keeps z (rfTxEnd n s) := by
  unfold Machine.rfTxEnd
  split
  · exact h
  · exact .ite h (.twinSettle (.launchReport (.rfSent (.ite h.emitRamp.rfStop.bump.rfcAsk h.emitRamp.rfStop.bump))))

theorem Keeps.execRfTxEnd {n} (h : Keeps z s) : KeepsOut z (execRfTxEnd n s) := .next h.rfTxEnd
theorem Keeps.chirpSuspendEnd {n} (h : Keeps z s) : Keeps z (chirpSuspendEnd n s) := .ite h.setF h
theorem Keeps.execChirpSuspendEnd {n} (h : Keeps z s) : KeepsOut z (execChirpSuspendEnd n s) := .next h.chirpSuspendEnd

/-! ### The radio MAC (Machine/RadioMac) -/

theorem Keeps.execSupervisionExpiry {ep} (h : Keeps z s) : KeepsOut z (execSupervisionExpiry ep s) := .next h.supervise

theorem Keeps.provisionalExpiry {ep} (h : Keeps z s) : Keeps z (provisionalExpiry ep s) := by
  unfold Machine.provisionalExpiry
  split
  · exact .ite h.setEp h
  · exact h

theorem Keeps.execProvisionalExpiry {ep} (h : Keeps z s) : KeepsOut z (execProvisionalExpiry ep s) := .next h.provisionalExpiry
theorem Keeps.classSWrites {l v} (h : Keeps z s) : Keeps z (s.classSWrites l v) := .ite h h.rfcAsk.rfcAsk

theorem Keeps.slotPrepare {l} (h : Keeps z s) : Keeps z (slotPrepare l s) := by
  unfold Machine.slotPrepare
  split
  · exact h
  · dsimp only
    split
    · exact h
    · split
      · exact h.bump
      · split
        · exact h.bump
        · exact .ite h.bump h.upd.classSWrites

theorem Keeps.execSlotPrepare {link} (h : Keeps z s) : KeepsOut z (execSlotPrepare link s) := .next h.slotPrepare
theorem Keeps.slotStart (h : Keeps z s) : Keeps z (slotStart s) := .ite h (.foldl h.upd fun _ _ h1 => .ite h1.rfcAsk h1)
theorem Keeps.execSlotStart (h : Keeps z s) : KeepsOut z (execSlotStart s) := .next h.slotStart

theorem Keeps.schedTx {l} (h : Keeps z s) : Keeps z (schedTx l s) := by
  unfold Machine.schedTx
  dsimp only
  split
  · exact h
  · split
    · exact h
    · split
      · exact h.bump.eccFlush
      · split
        · exact h
        · exact .ite h.bump.qMark.qConsume.qRelease (.ite h.qMark.qConsume.qRelease.notice (.ite h.qMark.qConsume.upd.lqInsert.lqUpdate
              h.qMark.qConsume.upd.lqInsert.rfRewind))

theorem Keeps.execSchedTx {link} (h : Keeps z s) : KeepsOut z (execSchedTx link s) := .next h.schedTx
theorem Keeps.launchItem {n t by_ it} (h : Keeps z s) : Keeps z (s.launchItem n t by_ it).1 := .ite h.lqInsert.lqUpdate h.lqInsert

theorem Keeps.schedAckSend {n} (h : Keeps z s) : Keeps z (schedAckSend n s) := by
  unfold Machine.schedAckSend
  split
  · exact h
  · exact h.upd.launchItem

theorem Keeps.execSchedAckSend {n} (h : Keeps z s) : KeepsOut z (execSchedAckSend n s) := .next h.schedAckSend

theorem Keeps.rfAckExpiry {n} (h : Keeps z s) : Keeps z (rfAckExpiry n s) := by
  unfold Machine.rfAckExpiry
  split
  · exact h.rfAckMissed
  · exact h

theorem Keeps.execRfAckExpiry {n} (h : Keeps z s) : KeepsOut z (execRfAckExpiry n s) := .next h.rfAckExpiry
theorem Keeps.dlqDone {q} (h : Keeps z s) : Keeps z (s.dlqDone q) := h.qConsume.qRelease

theorem Keeps.dlqItem {k q e it} (h : Keeps z s) : Keeps z (s.dlqItem k q e it) := by
  unfold State.dlqItem
  split
  · split
    · rename_i e1
      exact (h.mbxPut.ofFst e1).dlqDone
    · rename_i e2
      exact (h.mbxPut.ofFst e2).upd
    · rename_i e3
      exact (h.mbxPut.ofFst e3).upd
  · dsimp only
    split
    · rename_i e4
      exact (h.qHwItem.ofFst e4).dlqDone
    · rename_i e5
      exact (h.qHwItem.ofFst e5)

theorem Keeps.dlqServe {k} (h : Keeps z s) : Keeps z (dlqServe k s) := by
  unfold Machine.dlqServe
  dsimp only
  split
  · exact h
  · split
    · exact h.eccFlush
    · split
      · exact h
      · split
        · exact h.dlqDone
        · split
          · exact h.bump.dlqDone
          · split
            · exact h.bump.dlqDone
            · exact h.dlqItem

theorem Keeps.execDlqServe {k} (h : Keeps z s) : KeepsOut z (execDlqServe k s) := .next h.dlqServe

theorem Keeps.mbxExpired {ep} (h : Keeps z s) : Keeps z (mbxExpired ep s) := by
  unfold Machine.mbxExpired
  split
  · exact h.mbxFree.bump.notice
  · exact h

theorem Keeps.execMbxExpired {ep} (h : Keeps z s) : KeepsOut z (execMbxExpired ep s) := .next h.mbxExpired

theorem Keeps.mbxExhausted {ep pair} (h : Keeps z s) : Keeps z (s.mbxExhausted ep pair) :=
    .foldl h fun _ _ h1 => .ite h1.mbxFree.notice h1

theorem Keeps.pollResponse {ep} (h : Keeps z s) : Keeps z (pollResponse ep s) := by
  unfold Machine.pollResponse
  split
  · exact h
  · dsimp only
    split
    · exact h.upd.mbxExhausted.bump
    · split
      · exact .ite h.upd.mbxExhausted.launchItem.bump h.upd.mbxExhausted.launchItem.upd
      · exact .ite h.upd.mbxExhausted.launchItem h.upd.mbxExhausted.launchItem.bump

theorem Keeps.execPollResponse {ep} (h : Keeps z s) : KeepsOut z (execPollResponse ep s) := .next h.pollResponse

theorem Keeps.dcSecond (h : Keeps z s) : Keeps z (dcSecond s) := by
  unfold Machine.dcSecond
  dsimp only
  refine .foldl h fun _ _ h3 => ?_
  split
  · exact h3.upd.showUsed.mirror
  · exact h3.upd.showUsed

theorem Keeps.execDcSecond (h : Keeps z s) : KeepsOut z (execDcSecond s) := .next h.dcSecond

/-! ### Route commands (Machine/Routes) -/

theorem Keeps.putRoute {i ws} (h : Keeps z s) : Keeps z (s.putRoute i ws) := h.setWord.setWord.setWord

theorem Keeps.routeInsert {ws} (h : Keeps z s) : Keeps z (s.routeInsert ws).1 := by
  unfold State.routeInsert
  split
  · exact h
  · split
    · exact h
    · split
      · exact h
      · exact h.putRoute

theorem Keeps.execRouteInsert {c ws} (h : Keeps z s) : KeepsOut z (execRouteInsert c ws s) := .next (h.command h.routeInsert.complete)
theorem Keeps.routeRemove {i} (h : Keeps z s) : Keeps z (s.routeRemove i).1 := .iteFst h (.iteFst h h.setF)
theorem Keeps.execRouteRemove {c i} (h : Keeps z s) : KeepsOut z (execRouteRemove c i s) := .next (h.command h.routeRemove.answer)

/-! ### Amendments (Machine/AmendOps) -/

theorem Keeps.amendRefused (h : Keeps z s) : Keeps z (s.amendRefused) := h.bump
theorem Keeps.startCopies {slot w} (h : Keeps z s) : Keeps z (s.startCopies slot w) := h.upd
theorem Keeps.cutRx {p b} (h : Keeps z s) : Keeps z (s.cutRx p b) := .ite (.ite h h.setF) (.ite h.setRx.bump h)
theorem Keeps.restartModem {p} (h : Keeps z s) : Keeps z (s.restartModem p) := .rxFollowPort (.foldl h fun _ _ h1 => h1.cutRx)

theorem Keeps.restartLanes {p} (h : Keeps z s) : Keeps z (s.restartLanes p) :=
    .ite (.portLaneStart (.foldl h fun _ _ h1 => .ite h1.setF h1)) h

theorem Keeps.amendLines {old named changed} (h : Keeps z s) : Keeps z (s.amendLines old named changed) := by
  unfold State.amendLines
  dsimp only
  exact .foldl (.foldl (.foldl (.foldl h fun _ _ h115 => h115.noteBlank) fun _ _ h116 => h116.restartLanes.rxFollowPort) fun _ _ h117 =>
      h117.capRealign.restartModem) fun _ _ h118 => .ite h118 h118.mainsState

theorem Keeps.cutHeld {old n} (h : Keeps z s) : Keeps z (s.cutHeld old n) := .foldl h.upd fun _ _ h1 => h1.endHeld.bump
theorem Keeps.restartPlan {old n} (h : Keeps z s) : Keeps z (s.restartPlan old n) := h.cutHeld.rfSettle

theorem Keeps.amendRadio {old changed} (h : Keeps z s) : Keeps z (s.amendRadio old changed) := by
  unfold State.amendRadio
  dsimp only
  exact .ite (.foldl (.foldl (.foldl (.foldl h fun _ _ h291 => h291.restartPlan) fun _ _ h292 => h292.rfSync) fun _ _ h293 => h293.rfcAsk)
      fun _ _ h294 => .foldl h294 fun _ _ h295 => h295.rfcAsk) (.foldl (.foldl (.foldl h fun _ _ h296 => h296.restartPlan) fun _ _ h297 =>
      h297.rfSync) fun _ _ h298 => h298.rfcAsk)

theorem Keeps.amendAccess {old changed} (h : Keeps z s) : Keeps z (s.amendAccess old changed) := h.upd
theorem Keeps.ackLost {a} (h : Keeps z s) : Keeps z (s.ackLost a) := h.rfRelease.notice

theorem Keeps.amendSlots {old changed} (h : Keeps z s) : Keeps z (s.amendSlots old changed) :=
    .ite (.foldl h.upd fun _ _ h1 => h1.ackLost) (.ite h.upd h)

theorem Keeps.placeQueue {q} (h : Keeps z s) : Keeps z (s.placeQueue q) := h.setF.setF.setF.setF.setWord.setQst
theorem Keeps.amendQueues {changed} (h : Keeps z s) : Keeps z (s.amendQueues changed) := .foldl h fun _ _ h1 => h1.placeQueue

theorem Keeps.moveUnit {old k lg u v} (h : Keeps z s) : Keeps z (s.moveUnit old k lg u v) := by
  unfold State.moveUnit
  dsimp only
  exact .ite h.endAudit.moveLane.rxFollowLane (.ite h.endAudit.restartModem (.ite h.endAudit.cutHeld h.endAudit))

theorem Keeps.retireNamed {old k} (h : Keeps z s) : Keeps z (s.retireNamed old k) := by
  unfold State.retireNamed
  refine .foldl h fun _ _ h2 => ?_
  dsimp only
  split
  · exact h2.noteRetired.markRetired
  · exact h2.noteRetired

theorem Keeps.amendSpares {old slot changed} (h : Keeps z s) : Keeps z (s.amendSpares old slot changed) := by
  unfold State.amendSpares
  split
  · extract_lets s1
    have hs1 : Keeps z s1 := by
      unfold s1
      refine .foldl h fun _ _ h9 => ?_
      split
      · exact h9
      · refine .foldl h9 fun _ _ h12 => ?_
        split
        · exact .ite h12 h12.moveUnit
        · exact h12
    exact .upd (.foldl hs1.showPipes fun _ _ h13 => h13.retireNamed)
  · exact h

theorem Keeps.amendDomains {old} (h : Keeps z s) : Keeps z (s.amendDomains old) :=
    .ite h (.foldl h fun _ _ h1 => .ite h1 (.ite h1.powerUp h1.drainDomain))

theorem Keeps.amendGroups {changed} (h : Keeps z s) : Keeps z (s.amendGroups changed) :=
    .ite (.refreshPaths (.foldl h fun _ _ h1 => .ite h1.setGroup (.ite h1.setGroup h1))) h

theorem Keeps.amendEffects {old slot w} (h : Keeps z s) : Keeps z (s.amendEffects old slot w) := by
  unfold State.amendEffects
  extract_lets _ _ _ _ _ s3
  have hs3 : Keeps z s3 := h.amendSpares.amendLines.amendRadio.amendAccess.amendSlots.amendQueues.amendDomains.amendGroups
  exact .ite hs3.refAmended hs3

theorem Keeps.applyFragment {slot im} (h : Keeps z s) : Keeps z (s.applyFragment slot im) :=
    h.imageWrites.amendEffects.setWord.bump.writeSummary

theorem Keeps.applySched {w} (h : Keeps z s) : Keeps z (s.applySched w) := h.imageWrites.amendEffects

/-! ### Commits (Machine/CommitOps) -/

theorem Keeps.countAmend {r st} (h : Keeps z s) : Keeps z (s.countAmend r st) := .ite h.amendRefused h

theorem Keeps.takeStaged {t a} (h : Keeps z s) : Keeps z (s.takeStaged t a) := by
  unfold State.takeStaged
  split
  · exact .ite h h.qConsume
  · exact h

theorem Keeps.addAction {t a} (h : Keeps z s) : Keeps z (s.addAction t a) := .setTxn (.ite h.takeStaged.startCopies h.takeStaged)

theorem Keeps.claimAction {t a who} (h : Keeps z s) : Keeps z (s.claimAction t a who) := by
  unfold State.claimAction
  dsimp only
  split
  · exact h.addAction.answerAdd
  · split
    · rename_i e1
      exact (h.claimLock.ofFst e1).addAction.answerAdd
    · rename_i e2
      exact (h.claimLock.ofFst e2).setTxn

theorem Keeps.reserveFor {t} (h : Keeps z s) {x : State × Txn} (e : s.reserveFor t = some x) : Keeps z x.1 := by
  simp only [State.reserveFor] at e
  split at e <;> cases e
  exact .setTxn (.foldl h fun _ _ h1 => h1.setQst)

theorem Keeps.commitEnqueue {q item} (h : Keeps z s) : Keeps z (s.commitEnqueue q item) := h.setQst.qSettle

theorem Keeps.applyAction {t a} (h : Keeps z s) : Keeps z (s.applyAction t a) := by
  unfold State.applyAction
  dsimp only
  split
  · exact h.writeWords
  · exact h.writeWords
  · exact h.commitEnqueue
  · exact h.qctlOps
  · exact h.loadKey
  · exact h.applySched
  · exact h.applySched
  · exact h.applyFragment
  · exact h

theorem Keeps.applyAll {t} (h : Keeps z s) : Keeps z (s.applyAll t) := .bump (.upd (.foldl h.upd fun _ _ h1 => h1.applyAction))

theorem Keeps.abortCommit {t f reported} (h : Keeps z s) : Keeps z (s.abortCommit t f reported) :=
    .abortTxn (.foldl h fun _ _ h1 => h1.amendRefused)

/-! ### Transaction commands and events (Machine/Txn) -/

theorem Keeps.ageTick (h : Keeps z s) : Keeps z (s.ageTick) := .ite h.coreTick h

theorem Keeps.takeSlot (h : Keeps z s) {x : State × Nat × Nat × Nat} (e : s.takeSlot = some x) : Keeps z x.1 := by
  unfold State.takeSlot at e
  split at e
  · cases e
  · split at e <;> rename_i e1 <;> cases e
    exact (h.takeTag.ofFst e1).upd

theorem Keeps.openSlot {t} (h : Keeps z s) : Keeps z (s.openSlot t) := h.upd

theorem Keeps.txnOpen {c w} (h : Keeps z s) : Keeps z (s.txnOpen c w) := by
  unfold State.txnOpen
  dsimp only
  split
  · exact h.complete
  · split
    · exact h.complete
    · split
      · exact h.bump.complete
      · rename_i e1
        exact (h.ageTick.takeSlot e1).openSlot.upd.complete

theorem Keeps.execTxnOpen {c w} (h : Keeps z s) : KeepsOut z (execTxnOpen c w s) := .next (h.command h.txnOpen)

theorem Keeps.poisonedStage {t} (h : Keeps z s) {x : State} (e : s.poisonedStage t = some x) : Keeps z x := by
  obtain ⟨q, -, e⟩ := Option.bind_eq_some_iff.mp e
  split at e
  · cases e
  · split at e
    · cases e
      exact h.eccFlush
    · split at e
      · split at e <;> cases e
        exact h.qConsume.qRelease
      · cases e

theorem Keeps.sendAction {t a who} (h : Keeps z s) : Keeps z (s.sendAction t a who) := .ite h.benchAsk.setTxn h.benchAsk.answerAdd

theorem Keeps.addLocal {t a staged c} (h : Keeps z s) : Keeps z (s.addLocal t a staged c) :=
    .ite (.ite h.complete h.sendAction) (.ite h.claimAction h.countAmend.complete)

theorem Keeps.txnAdd {c w} (h : Keeps z s) : Keeps z (s.txnAdd c w) := by
  unfold State.txnAdd
  dsimp only
  split
  · exact h.complete
  · refine .ite h.complete (.ite h.complete (.ite h.complete ?_))
    split
    · rename_i e
      split at e
      · exact (h.poisonedStage e).complete
      · cases e
    · exact h.addLocal

theorem Keeps.execTxnAdd {c w} (h : Keeps z s) : KeepsOut z (execTxnAdd c w s) := .next (h.command h.txnAdd)

theorem Keeps.commitNow {t c} (h : Keeps z s) : Keeps z (s.commitNow t c) := by
  unfold State.commitNow
  dsimp only
  split
  · exact h.abortCommit.complete
  · exact h.applyAll.freeTxn.complete

theorem Keeps.commitLocalAt {t c time} (h : Keeps z s) : Keeps z (s.commitLocalAt t c time) :=
    .ite h.lqInsert.setTxn.complete h.lqInsert.unreserve.setTxn.complete

theorem Keeps.preparePart {t time} (h : Keeps z s) : Keeps z (s.preparePart t time).1 := by
  unfold State.preparePart
  split
  · exact h
  · exact .iteFst h.lqInsert.setTxn h.lqInsert

theorem Keeps.decideTxn {t} (h : Keeps z s) : Keeps z (s.decideTxn t) := .ite (.foldl h.setTxn fun _ _ h1 => h1.benchAsk) h.setTxn

theorem Keeps.commitBench {t c time} (h : Keeps z s) : Keeps z (s.commitBench t c time) := by
  unfold State.commitBench
  split
  · exact h.unreserve.setTxn.complete
  · extract_lets t1 s1 s2
    have h1 : Keeps z s1 := .foldl h.setTxn fun _ _ h1 => h1.benchAsk
    have h2 : Keeps z (s2.preparePart t1 time).1 := h1.complete.preparePart
    split <;> rename_i e
    · split
      · exact (h2.ofFst e).decideTxn
      · exact h2.ofFst e
    · exact (h2.ofFst e).abortTxn

theorem Keeps.doCommit {t c w} (h : Keeps z s) : Keeps z (s.doCommit t c w) := by
  unfold State.doCommit
  dsimp only
  split
  · exact h.complete
  · split
    · exact h.complete
    · split
      · exact h.complete
      · rename_i e1
        exact .ite (h.reserveFor e1).commitBench (.ite (h.reserveFor e1).commitLocalAt (h.reserveFor e1).commitNow)

theorem Keeps.txnCommit {c w} (h : Keeps z s) : Keeps z (s.txnCommit c w) := by
  unfold State.txnCommit
  split
  · exact h.complete
  · exact .ite h.complete (.ite h.doCommit (.ite h.setTxn h.complete))

theorem Keeps.execTxnCommit {c w} (h : Keeps z s) : KeepsOut z (execTxnCommit c w s) := .next (h.command h.txnCommit)

theorem Keeps.txnAbort {c w} (h : Keeps z s) : Keeps z (s.txnAbort c w) := by
  unfold State.txnAbort
  dsimp only
  split
  · exact h.complete
  · exact .ite h.complete (.ite h.complete h.abortTxn.complete)

theorem Keeps.execTxnAbort {c w} (h : Keeps z s) : KeepsOut z (execTxnAbort c w s) := .next (h.command h.txnAbort)

theorem Keeps.txnStatus {c w} (h : Keeps z s) : Keeps z (s.txnStatus c w) := by
  unfold State.txnStatus
  split <;> exact h.complete

theorem Keeps.execTxnStatus {c w} (h : Keeps z s) : KeepsOut z (execTxnStatus c w s) := .next (h.command h.txnStatus)

theorem Keeps.reclaimed {t} (h : Keeps z s) : Keeps z (s.reclaimed t) := by
  unfold State.reclaimed
  dsimp only
  split
  · exact h.setTxn.doCommit
  · exact h.setTxn

theorem Keeps.reclaim {n slot} (h : Keeps z s) : Keeps z (State.reclaim n s slot) := by
  induction n generalizing s with
  | zero => exact h
  | succ n ih =>
    unfold State.reclaim
    split
    · exact h
    · dsimp only
      split
      · exact h.reclaimed
      · split
        · exact .ite h (.ite h.benchAsk h.benchAsk.abortTxn)
        · split
          · exact ih h.setTxn
          · split <;> rename_i e
            · exact ih (h.claimLock.ofFst e).setTxn
            · exact h.claimLock.ofFst e

theorem Keeps.lockGrant {i action} (h : Keeps z s) : Keeps z (lockGrant i action s) := by
  unfold Machine.lockGrant
  split
  · exact h
  · split
    · split
      · exact .ite h h.addAction.answerAdd
      · exact h
    · exact .ite h.reclaim h
    · exact h

theorem Keeps.execLockGrant {t action} (h : Keeps z s) : KeepsOut z (execLockGrant t action s) := .next h.lockGrant

theorem Keeps.lockTimeout {i action} (h : Keeps z s) : Keeps z (lockTimeout i action s) := by
  unfold Machine.lockTimeout
  split
  · exact h
  · dsimp only
    split
    · exact h
    · split
      · exact h.setTxn.answerAdd
      · exact h.abortTxn
      · exact h

theorem Keeps.execLockTimeout {t action} (h : Keeps z s) : KeepsOut z (execLockTimeout t action s) := .next h.lockTimeout
theorem Keeps.reportPart {t m hh st} (h : Keeps z s) : Keeps z (s.reportPart t m hh st) := h.benchAsk.freeTxn

theorem Keeps.commitTick {e t} (h : Keeps z s) : Keeps z (s.commitTick e t) := by
  unfold State.commitTick
  dsimp only
  split
  · exact .abortTxn (.ite h.lqRemove.upd h.lqRemove)
  · split
    · exact .abortTxn (.ite h.lqRemove.upd h.lqRemove)
    · split
      · exact .abortCommit (.ite h.lqRemove.upd h.lqRemove)
      · exact .reportPart (.applyAll (.ite h.lqRemove.upd h.lqRemove))
  · split
    · split
      · exact .abortCommit (.ite h.lqRemove.upd h.lqRemove)
      · exact .finishTxn (.applyAll (.ite h.lqRemove.upd h.lqRemove))
    · split
      · exact .abortTxn (.ite h.lqRemove.upd h.lqRemove)
      · split
        · exact .abortCommit (.ite h.lqRemove.upd h.lqRemove)
        · exact .ownPart (.applyAll (.ite h.lqRemove.upd h.lqRemove))

theorem Keeps.execCommit {e} (h : Keeps z s) : KeepsOut z (execCommit e s) := by
  refine .next (.runAction h ?_)
  intro x
  split
  · exact h.commitTick
  · exact h.lqRemove

/-! ### Bench-wide transactions (Machine/TxnBench) -/

theorem Keeps.masterAsks {m tag} (h : Keeps z s) {x : State} (e : s.masterAsks m tag = some x) : Keeps z x := by
  unfold State.masterAsks at e
  split at e
  · cases e
    exact h
  · obtain ⟨d, -, rfl⟩ := Option.map_eq_some_iff.mp e
    exact h.benchPost

theorem Keeps.memberAsks {m tag} (h : Keeps z s) {x : State} (e : s.memberAsks m tag = some x) : Keeps z x := by
  unfold State.memberAsks at e
  split at e
  · cases e
    exact h
  · obtain ⟨d, -, rfl⟩ := Option.map_eq_some_iff.mp e
    exact h.benchPost

theorem Keeps.newPart {m hh members age} (h : Keeps z s) {x : State × Txn} (e : s.newPart m hh members age = some x) : Keeps z x.1 := by
  obtain ⟨y, ey, rfl⟩ := Option.map_eq_some_iff.mp e
  exact (h.takeSlot ey).openSlot

theorem Keeps.stageItem {slot item} (h : Keeps z s) : Keeps z (s.stageItem slot item) := .ite h h.qHwItem.qRead

theorem Keeps.partAction {s1 t b from_ tag} (h : Keeps z s) (hs1 : Keeps z s1) : Keeps z (s.partAction s1 t b from_ tag) := by
  unfold State.partAction
  dsimp only
  exact .ite h.countAmend.benchReply (.ite h.countAmend.benchReply (.ite h.countAmend.benchReply (.ite h.countAmend.benchReply
      hs1.stageItem.claimAction)))

theorem Keeps.benchAction {from_ tag b} (h : Keeps z s) : Keeps z (benchAction from_ tag b s) := by
  unfold Machine.benchAction
  split
  · rename_i e1
    exact (h.masterAsks e1)
  · split
    · exact h
    · split
      · exact h.partAction h
      · split
        · rename_i e2
          exact h.partAction (h.newPart e2)
        · exact h.bump.benchReply

theorem Keeps.execBenchAction {from_ tag action} (h : Keeps z s) : KeepsOut z (execBenchAction from_ tag action s) := .next h.benchAction

theorem Keeps.woundRequest {from_ tag i wounder} (h : Keeps z s) : Keeps z (woundRequest from_ tag i wounder s) := by
  unfold Machine.woundRequest
  split
  · rename_i e1
    exact (h.memberAsks e1)
  · split
    · exact .ite h.woundTxn.benchReply h.benchReply
    · exact h.benchReply

theorem Keeps.execWoundRequest {from_ tag t wounder} (h : Keeps z s) : KeepsOut z (execWoundRequest from_ tag t wounder s) :=
    .next h.woundRequest

theorem Keeps.sendVote {hh f} (h : Keeps z s) : Keeps z (s.sendVote hh f) := by
  unfold State.sendVote
  split <;> exact h.benchAsk

theorem Keeps.prepareVote {t hh time} (h : Keeps z s) : Keeps z (s.prepareVote t hh time) := by
  unfold State.prepareVote
  split
  · exact h.sendVote
  · rename_i e1
    exact (h.reserveFor e1).preparePart.sendVote

theorem Keeps.prepare {from_ tag hh time} (h : Keeps z s) : Keeps z (prepare from_ tag hh time s) := by
  unfold Machine.prepare
  split
  · rename_i e1
    exact (h.masterAsks e1)
  · split
    · exact .ite h.benchReply.prepareVote h.benchReply
    · split
      · rename_i e2
        exact (h.newPart e2).benchReply.prepareVote
      · exact h.bump.benchReply.sendVote

theorem Keeps.execPrepare {from_ tag handle commit} (h : Keeps z s) : KeepsOut z (execPrepare from_ tag handle commit s) :=
    .next h.prepare

theorem Keeps.countVote {from_ hh yes index} (h : Keeps z s) : Keeps z (s.countVote from_ hh yes index) := by
  unfold State.countVote
  split
  · exact h
  · exact .ite h (.ite h.abortTxn (.ite h h.decideTxn))

theorem Keeps.vote {from_ tag hh yes index} (h : Keeps z s) : Keeps z (vote from_ tag hh yes index s) := by
  unfold Machine.vote
  split
  · rename_i e1
    exact (h.memberAsks e1)
  · exact h.benchReply.countVote

theorem Keeps.execVote {from_ tag handle yes _status index} (h : Keeps z s) : KeepsOut z (execVote from_ tag handle yes _status index s)
    := .next h.vote

theorem Keeps.voteExpiry {i} (h : Keeps z s) : Keeps z (voteExpiry i s) := by
  unfold Machine.voteExpiry
  split
  · exact h
  · exact .ite h.abortTxn h

theorem Keeps.execVoteDeadline {t} (h : Keeps z s) : KeepsOut z (execVoteDeadline t s) := .next h.voteExpiry

theorem Keeps.decision {from_ tag hh commit} (h : Keeps z s) : Keeps z (decision from_ tag hh commit s) := by
  unfold Machine.decision
  split
  · rename_i e1
    exact (h.masterAsks e1)
  · split
    · exact h.benchReply
    · exact .ite (.ite h.benchReply h.benchReply.setTxn) h.benchReply.abortTxn

theorem Keeps.execDecision {from_ tag handle commit} (h : Keeps z s) : KeepsOut z (execDecision from_ tag handle commit s) :=
    .next h.decision

theorem Keeps.decisionDeadline {i} (h : Keeps z s) : Keeps z (decisionDeadline i s) := by
  unfold Machine.decisionDeadline
  split
  · exact h
  · exact .ite h.abortTxn h

theorem Keeps.execDecisionDeadline {t} (h : Keeps z s) : KeepsOut z (execDecisionDeadline t s) := .next h.decisionDeadline

theorem Keeps.countReport {from_ hh st} (h : Keeps z s) : Keeps z (s.countReport from_ hh st) := by
  unfold State.countReport
  split
  · exact h
  · exact .ite h (.ite h.benchDone h.setTxn)

theorem Keeps.outcomeReport {from_ tag hh st} (h : Keeps z s) : Keeps z (outcomeReport from_ tag hh st s) := by
  unfold Machine.outcomeReport
  split
  · rename_i e1
    exact (h.memberAsks e1)
  · exact h.benchReply.countReport

theorem Keeps.execOutcomeReport {from_ tag handle status} (h : Keeps z s) : KeepsOut z (execOutcomeReport from_ tag handle status s) :=
    .next h.outcomeReport

theorem Keeps.outcomeTimeout {i} (h : Keeps z s) : Keeps z (outcomeTimeout i s) := by
  unfold Machine.outcomeTimeout
  split
  · exact h
  · exact .ite h.benchDone h

theorem Keeps.execOutcomeTimeout {t} (h : Keeps z s) : KeepsOut z (execOutcomeTimeout t s) := .next h.outcomeTimeout

theorem Keeps.actionAcked {slot index st} (h : Keeps z s) : Keeps z (s.actionAcked slot index st) := by
  unfold State.actionAcked
  split
  · exact h
  · split
    · exact .ite h (.ite h.addAction.answerAdd h.setTxn.answerAdd)
    · exact .ite h (.ite h.setTxn.reclaim h.abortTxn)
    · exact h

/-! ### Bench commands (Machine/BenchCmd) -/

theorem Keeps.masterCmd {c op f} (h : Keeps z s) (hf : Keeps z f) : Keeps z (s.masterCmd c op f) := h.command (.ite hf h.complete)
theorem Keeps.askOrEnd {x : State × Nat} {c op} (h : Keeps z x.1) : Keeps z (State.askOrEnd x c op) := .ite h h.complete
theorem Keeps.resetWait {c n st} (h : Keeps z s) : Keeps z (s.resetWait c n st) := .ite h.complete h.upd

theorem Keeps.memberReset {c mask} (h : Keeps z s) : Keeps z (s.memberReset c mask) :=
  .ite h.complete (.resetWait (.foldlFst h fun _ _ h1 => .iteFst h1.benchAsk h1.benchAsk))

theorem Keeps.execMemberReset {c payload} (h : Keeps z s) : KeepsOut z (execMemberReset c payload s) := .next (h.masterCmd h.memberReset)
theorem Keeps.remoteRead {c a p} (h : Keeps z s) : Keeps z (s.remoteRead c a p) := .ite h.complete h.benchAsk.askOrEnd

theorem Keeps.execRemoteRead {c addr payload} (h : Keeps z s) : KeepsOut z (execRemoteRead c addr payload s) :=
    .next (h.masterCmd h.remoteRead)

theorem Keeps.remoteWrite {c a p} (h : Keeps z s) : Keeps z (s.remoteWrite c a p) := .ite h.complete h.benchAsk.askOrEnd

theorem Keeps.execRemoteWrite {c addr payload} (h : Keeps z s) : KeepsOut z (execRemoteWrite c addr payload s) :=
    .next (h.masterCmd h.remoteWrite)

theorem Keeps.handOver {c p} (h : Keeps z s) : Keeps z (s.handOver c p) := h.peerAsk.askOrEnd
theorem Keeps.execHandover {c payload} (h : Keeps z s) : KeepsOut z (execHandover c payload s) := .next (h.masterCmd h.handOver)

theorem Keeps.resetAnswer {c st} (h : Keeps z s) : Keeps z (s.resetAnswer c st) := by
  unfold State.resetAnswer
  split
  · exact h
  · exact h.upd.resetWait

theorem Keeps.requestEnd {r st words} (h : Keeps z s) : Keeps z (s.requestEnd r st words) := by
  unfold State.requestEnd
  split
  · exact h.launchAnswer
  · exact h.cancelAnswer
  · exact h
  · exact h.complete
  · exact h.complete
  · exact h.resetAnswer
  · exact h.complete
  · exact h.actionAcked
  · exact h
  · exact h
  · exact h
  · exact h.dmaAck

theorem Keeps.closeRequest {r st words} (h : Keeps z s) : Keeps z (s.closeRequest r st words) := h.upd.freeTag.requestEnd

theorem Keeps.benchAck {tag st words} (h : Keeps z s) : Keeps z (benchAck tag st words s) := by
  unfold Machine.benchAck
  split
  · exact h
  · exact .ite h h.closeRequest

theorem Keeps.execBenchAck {_g tag status words} (h : Keeps z s) : KeepsOut z (execBenchAck _g tag status words s) := .next h.benchAck
theorem Keeps.retryRequest {r} (h : Keeps z s) : Keeps z (s.retryRequest r) := h.bump.sendOn.upd

theorem Keeps.benchTimeout {tag} (h : Keeps z s) : Keeps z (benchTimeout tag s) := by
  unfold Machine.benchTimeout
  split
  · exact h
  · exact .ite h (.ite h.retryRequest h.closeRequest)

theorem Keeps.execBenchTimeout {tag} (h : Keeps z s) : KeepsOut z (execBenchTimeout tag s) := .next h.benchTimeout

/-! ### Lent demodulators (Machine/Lease) -/

theorem Keeps.leaseCredit {k} (h : Keeps z s) : Keeps z (leaseCredit k s) := .ite h h.upd.benchPost
theorem Keeps.execLeaseCredit {k} (h : Keeps z s) : KeepsOut z (execLeaseCredit k s) := .next h.leaseCredit
theorem Keeps.creditIn {m} (h : Keeps z s) : Keeps z (s.creditIn m) := h.bump

theorem Keeps.leaseStart {m stream port chan sf bw step gain time} (h : Keeps z s) : Keeps z (leaseStart m stream port chan sf bw step
    gain time s) := by
  unfold Machine.leaseStart
  dsimp only
  split
  · exact h
  · split
    · exact h.upd.benchPost
    · exact h.upd.setDemods

theorem Keeps.execLeaseStart {from_ stream port chan sf bw step gain time} (h : Keeps z s) : KeepsOut z (execLeaseStart from_ stream port
    chan sf bw step gain time s) := .next h.leaseStart

theorem Keeps.sampleCell {m stream first xs} (h : Keeps z s) : Keeps z (sampleCell m stream first xs s) := by
  unfold Machine.sampleCell
  split
  · exact h
  · exact .ite h.endLent h.changeDemod

theorem Keeps.execSampleCell {from_ stream first samples} (h : Keeps z s) : KeepsOut z (execSampleCell from_ stream first samples s) :=
    .next h.sampleCell

theorem Keeps.leaseEnd {m stream} (h : Keeps z s) : Keeps z (leaseEnd m stream s) := by
  unfold Machine.leaseEnd
  split
  · exact h
  · exact h.freeDemod

theorem Keeps.execLeaseEnd {from_ stream _status} (h : Keeps z s) : KeepsOut z (execLeaseEnd from_ stream _status s) := .next h.leaseEnd

theorem Keeps.leaseIdleFree {m stream} (h : Keeps z s) : Keeps z (leaseIdleFree m stream s) := by
  unfold Machine.leaseIdleFree
  split
  · exact h
  · split
    · exact h
    · exact .ite h.freeDemod h

theorem Keeps.execLeaseIdleFree {from_ stream} (h : Keeps z s) : KeepsOut z (execLeaseIdleFree from_ stream s) := .next h.leaseIdleFree

theorem Keeps.borrowFailed {m stream status} (h : Keeps z s) : Keeps z (s.borrowFailed m stream status) := by
  unfold State.borrowFailed
  split
  · exact h
  · exact h.freeDemod.countEnd

theorem Keeps.borrowDone {m stream f} (h : Keeps z s) : Keeps z (s.borrowDone m stream f) := by
  unfold State.borrowDone
  split
  · exact h
  · exact h.freeDemod.bump.radioIn

/-! ### Mode events (Machine/Modes) -/

theorem Keeps.reqRunCmd {c lineLow} (h : Keeps z s)  : Keeps z (Machine.reqRun c lineLow s) := h.writeCommand h.upd.reqRun.answer
theorem Keeps.execReqRun {c lineLow} (h : Keeps z s) : KeepsOut z (execReqRun c lineLow s) := .next h.reqRunCmd
theorem Keeps.execReqQuiet {c} (h : Keeps z s) : KeepsOut z (execReqQuiet c s) := .next (h.writeCommand h.reqQuiet.answer)
theorem Keeps.execReqShadow {c} (h : Keeps z s) : KeepsOut z (execReqShadow c s) := .next (h.writeCommand h.reqShadow.answer)
theorem Keeps.execReqDrain {c} (h : Keeps z s) : KeepsOut z (execReqDrain c s) := .next (h.writeCommand h.reqDrain.answer)
theorem Keeps.execFaultAck {c} (h : Keeps z s) : KeepsOut z (execFaultAck c s) := .next (h.writeCommand h.reqFaultAck.answer)
theorem Keeps.suppliesUp (h : Keeps z s) : Keeps z (suppliesUp s) := .ite h.upd h
theorem Keeps.execSuppliesUp (h : Keeps z s) : KeepsOut z (execSuppliesUp s) := .next h.suppliesUp
theorem Keeps.supplyLoss (h : Keeps z s) : Keeps z (supplyLoss s) := .ite h h.fullReset.upd
theorem Keeps.execSupplyLoss (h : Keeps z s) : KeepsOut z (execSupplyLoss s) := .next h.supplyLoss
theorem Keeps.coldToLoad {bootSrc benchMasterN} (h : Keeps z s) : Keeps z (coldToLoad bootSrc benchMasterN s) := .ite h h.setF.upd

theorem Keeps.execColdToLoad {bootSrc benchMasterN} (h : Keeps z s) : KeepsOut z (execColdToLoad bootSrc benchMasterN s) :=
    .next h.coldToLoad

theorem Keeps.recordTests {l} (h : Keeps z s) : Keeps z (s.recordTests l).1 := by
  induction l generalizing s with
  | nil => exact h
  | cons u l ih => exact ih h.freshWord.report

theorem Keeps.replaceFailed {u i} (h : Keeps z s) : Keeps z (s.replaceFailed u i).1 := .iteFst h.escalateRecord h.retire

theorem Keeps.selfTest {failed} (h : Keeps z s) : Keeps z (s.selfTest failed).1 :=
  .foldlFst (.foldl h.recordTests fun _ _ h1 => h1.retire) fun _ _ h1 => h1.replaceFailed

theorem Keeps.leaveStandby (h : Keeps z s) : Keeps z (s.leaveStandby) := .ite h h.changeMode.beginAcquire

theorem Keeps.selfTestDone {failed} (h : Keeps z s) : Keeps z (selfTestDone failed s) := by
  unfold Machine.selfTestDone
  split
  · exact h
  · split
    · rename_i e1
      exact (h.selfTest.ofFst e1).enterFault
    · rename_i e2
      exact (h.selfTest.ofFst e2).changeMode.settleDomains.leaveStandby

theorem Keeps.execSelfTestDone {failed} (h : Keeps z s) : KeepsOut z (execSelfTestDone failed s) := .next h.selfTestDone

theorem Keeps.defaultedTestDone {failed} (h : Keeps z s) : Keeps z (defaultedTestDone failed s) := by
  unfold Machine.defaultedTestDone
  split
  · exact h
  · split
    · rename_i e1
      exact (h.selfTest.ofFst e1).enterFault
    · rename_i e2
      exact (h.selfTest.ofFst e2).upd.settleDomains.beginAcquire

theorem Keeps.execDefaultedTestDone {failed} (h : Keeps z s) : KeepsOut z (execDefaultedTestDone failed s) := .next h.defaultedTestDone
theorem Keeps.defTxStart (h : Keeps z s) : Keeps z (defTxStart s) := .ite h.upd h
theorem Keeps.execDefTxStart (h : Keeps z s) : KeepsOut z (execDefTxStart s) := .next h.defTxStart
theorem Keeps.acquireComplete (h : Keeps z s) : Keeps z (acquireComplete s) := .ite h (.ite h.enterShadow (.ite h.changeMode h.enterRun))
theorem Keeps.execAcquireComplete (h : Keeps z s) : KeepsOut z (execAcquireComplete s) := .next h.acquireComplete
theorem Keeps.takeover (h : Keeps z s) : Keeps z (s.takeover) := h.upd.changeMode.notice.upd
theorem Keeps.twinTakeover (h : Keeps z s) : Keeps z (twinTakeover s) := .ite h (.ite h.upd h.takeover)
theorem Keeps.execTwinTakeover (h : Keeps z s) : KeepsOut z (execTwinTakeover s) := .next h.twinTakeover

theorem Keeps.twinRecheck {low} (h : Keeps z s) : Keeps z (twinRecheck low s) := by
  unfold Machine.twinRecheck
  split
  · exact .ite h (.ite h.upd h.takeover)
  · exact h

theorem Keeps.execTwinRecheck {low} (h : Keeps z s) : KeepsOut z (execTwinRecheck low s) := .next h.twinRecheck
theorem Keeps.twinLinkLost (h : Keeps z s) : Keeps z (twinLinkLost s) := .ite h.upd.notice h
theorem Keeps.execTwinLinkLost (h : Keeps z s) : KeepsOut z (execTwinLinkLost s) := .next h.twinLinkLost
theorem Keeps.liveEntry {x} (h : Keeps z s) : Keeps z (s.liveEntry x) := .ite h (.ite h.upd.endEntry h.upd)

theorem Keeps.takeoverDue (h : Keeps z s) : Keeps z (s.takeoverDue) := by
  unfold State.takeoverDue
  split
  · exact h
  · exact .ite h (.ite (.foldl h.upd fun _ _ h1 => h1.liveEntry) h.upd)

theorem Keeps.tickOver (h : Keeps z s) : Keeps z (s.tickOver) := by
  unfold State.tickOver
  split
  · exact h
  · split
    · exact h.coreTick.resetBy
    · exact h.coreTick.takeoverDue.rfcDue.lqMark.txenDue.sendFrames.outcomesDue.ledgerRetries

theorem Keeps.resetPin {o} (h : Keeps z s) : Keeps z (resetPin o s) := .ite h h.fullReset
theorem Keeps.execResetPin {o} (h : Keeps z s) : KeepsOut z (execResetPin o s) := .next h.resetPin

theorem Keeps.watchdogReset {o} (h : Keeps z s) : Keeps z (watchdogReset o s) := by
  unfold Machine.watchdogReset
  split
  · exact .ite h.fullReset h
  · exact h

theorem Keeps.execWatchdogReset {o} (h : Keeps z s) : KeepsOut z (execWatchdogReset o s) := .next h.watchdogReset

theorem Keeps.askReset {p graceful} (h : Keeps z s) : Keeps z (s.askReset p graceful) :=
    .ite h.resetBy (.ite h.resetBy (.ite (.ite h.resetBy h.upd) (.ite h.enterDrain h)))

theorem Keeps.execFullReset {c} (h : Keeps z s) : KeepsOut z (execFullReset c s) := .next (h.command h.askReset)

theorem Keeps.resetDirective {graceful hostLoad from_ tag} (h : Keeps z s) : Keeps z (resetDirective graceful hostLoad from_ tag s) := by
  unfold Machine.resetDirective
  split
  · exact h
  · split
    · exact h.benchPost
    · exact h.benchReply.askReset

theorem Keeps.execResetDirective {graceful hostLoad from_ tag} (h : Keeps z s) : KeepsOut z (execResetDirective graceful hostLoad from_
    tag s) := .next h.resetDirective

/-! ### Peers (Machine/Peer) -/

theorem Keeps.helloSend {g} (h : Keeps z s) : Keeps z (helloSend g s) := .ite h.emitOut h
theorem Keeps.execHelloSend {g} (h : Keeps z s) : KeepsOut z (execHelloSend g s) := .next h.helloSend
theorem Keeps.neighbourUp {g a} (h : Keeps z s) : Keeps z (s.neighbourUp g a) := .ite h.setF.upd h.setF.upd.peerGone.setF.setF.notice
theorem Keeps.helloCell {g c} (h : Keeps z s) : Keeps z (helloCell g c s) := .ite h (.ite h.setF.peerGone h.neighbourUp)
theorem Keeps.execHelloCell {g cell} (h : Keeps z s) : KeepsOut z (execHelloCell g cell s) := .next h.helloCell
theorem Keeps.peerDown {g} (h : Keeps z s) : Keeps z (peerDown g s) := .ite h.peerGone h
theorem Keeps.execPeerDown {g} (h : Keeps z s) : KeepsOut z (execPeerDown g s) := .next h.peerDown
theorem Keeps.routeAdvertise {g} (h : Keeps z s) : Keeps z (routeAdvertise g s) := .ite h.upd.sendOn h
theorem Keeps.execRouteAdvertise {g} (h : Keeps z s) : KeepsOut z (execRouteAdvertise g s) := .next h.routeAdvertise
theorem Keeps.putPeerRoute {i a metric p} (h : Keeps z s) : Keeps z (s.putPeerRoute i a metric p) := .ite h.upd h.upd.setWord.routeNotice

theorem Keeps.learnRoute {p e} (h : Keeps z s) : Keeps z (s.learnRoute p e) := by
  unfold State.learnRoute
  dsimp only
  split
  · exact h
  · split
    · exact .ite (.ite h.dropRoute h.putPeerRoute) (.ite h.putPeerRoute h)
    · split
      · exact h
      · split
        · exact h.putPeerRoute
        · exact h.bump

theorem Keeps.routeMessage {g l} (h : Keeps z s) : Keeps z (routeMessage g l s) := .ite (.foldl h fun _ _ h1 => h1.learnRoute) h
theorem Keeps.execRouteMessage {g entries} (h : Keeps z s) : KeepsOut z (execRouteMessage g entries s) := .next h.routeMessage
theorem Keeps.routeExpiry {i} (h : Keeps z s) : Keeps z (routeExpiry i s) := .ite h.dropRoute h
theorem Keeps.execRouteExpiry {a} (h : Keeps z s) : KeepsOut z (execRouteExpiry a s) := .next h.routeExpiry

theorem Keeps.handoverIn {tag src entry ws} (h : Keeps z s) : Keeps z (handoverIn tag src entry ws s) := by
  unfold Machine.handoverIn
  dsimp only
  split
  · rename_i e1
    exact (h.qHwItem.ofFst e1).notice.peerPost
  · rename_i e2
    exact (h.qHwItem.ofFst e2).peerPost

theorem Keeps.execHandoverIn {tag src entry words} (h : Keeps z s) : KeepsOut z (execHandoverIn tag src entry words s) :=
    .next h.handoverIn

/-! ### Twins (Machine/Twin) -/

theorem Keeps.twinSend {g} (h : Keeps z s) : Keeps z (twinSend g s) := .ite h.upd.sendOn h
theorem Keeps.execTwinSend {group} (h : Keeps z s) : KeepsOut z (execTwinSend group s) := .next h.twinSend
theorem Keeps.twinWrite {q ws} (h : Keeps z s) : Keeps z (s.twinWrite q ws) := .ite h.qPut.qAdvanceW h
theorem Keeps.twinRelease {q n} (h : Keeps z s) : Keeps z (s.twinRelease q n) := .ite h.qRead.setF.setF h

theorem Keeps.twinRecord {r} (h : Keeps z s) : Keeps z (s.twinRecord r) := by
  unfold State.twinRecord
  split
  · exact h.twinWrite
  · exact h.twinRelease
  · exact h.upd
  · exact h.upd
  · exact h.setF
  · exact h.setWord.setWord
  · exact h.upd.showUsed

theorem Keeps.twinConflict {other} (h : Keeps z s) : Keeps z (s.twinConflict other) :=
    .ite h.upd.notice.twinLedger.enterShadow h.upd.notice.twinLedger

theorem Keeps.twinMessage {g l} (h : Keeps z s) : Keeps z (twinMessage g l s) :=
    .ite h (.ite h.twinConflict (.ite (.foldl h.upd fun _ _ h1 => h1.twinRecord) h.upd))

theorem Keeps.execTwinMessage {group records} (h : Keeps z s) : KeepsOut z (execTwinMessage group records s) := .next h.twinMessage

/-! ### What a bench message does (Machine/BenchMsg) -/

theorem Keeps.msgError {g f} (h : Keeps z s) : Keeps z (s.msgError g f) := .ite h.bump h

theorem Keeps.once {m tag} {f : State → State × Nat × List Word} (h : Keeps z s) (hf : ∀ {t}, Keeps z t → Keeps z (f t).1) :
    Keeps z (s.once m tag f) := by
  unfold State.once
  split
  · exact h.benchPost
  · exact (hf h).benchReply

theorem Keeps.mapFor {a n} (h : Keeps z s) : Keeps z (s.mapFor a n).1 := .iteFst h (.iteFst h h)
theorem Keeps.writeFor {a ws} (h : Keeps z s) : Keeps z (s.writeFor a ws).1 := h.writeStatus
theorem Keeps.launchFor {e} (h : Keeps z s) : Keeps z (s.launchFor e).1 := h.copyInsert
theorem Keeps.cancelFor {hh} (h : Keeps z s) : Keeps z (s.cancelFor hh).1 := h.cancelHandle
theorem Keeps.enqueueFor {from_ ring q start ws} (h : Keeps z s) : Keeps z (s.enqueueFor from_ ring q start ws).1 := h.qStream

theorem Keeps.fromMaster {m} {f : State → State × Nat × List Word} (h : Keeps z s) (hf : ∀ {t}, Keeps z t → Keeps z (f t).1) :
    Keeps z (s.fromMaster m f) := .ite (h.once hf) h

theorem Keeps.peerForward {dst m} (h : Keeps z s) : Keeps z (s.peerForward dst m) := .ite h h.peerPost

theorem Keeps.peerTo {dst m} {f : State → State} (h : Keeps z s) (hf : ∀ {t}, Keeps z t → Keeps z (f t)) : Keeps z (s.peerTo dst m f) :=
  .ite (hf h) h.peerForward

theorem Keeps.leaseIn {m l} (h : Keeps z s) : Keeps z (s.leaseIn m l) := by
  unfold State.leaseIn
  split
  · exact h.creditIn
  · exact h.leaseStart
  · exact h.leaseEnd
  · exact h.borrowFailed

theorem Keeps.frameFrom {m f} (h : Keeps z s) : Keeps z (s.frameFrom m f) := by
  unfold State.frameFrom
  split
  · exact h.borrowDone
  · exact h.routeFrame

theorem Keeps.benchAct {g m} (h : Keeps z s) : Keeps z (s.benchAct g m) := by
  unfold State.benchAct
  split
  · exact h.benchAck
  · exact h.fromMaster .launchFor
  · exact h.fromMaster .cancelFor
  · exact h.fromMaster .mapFor
  · exact h.fromMaster .writeFor
  · exact h.resetDirective
  · exact h.benchAction
  · exact h.prepare
  · exact h.vote
  · exact h.decision
  · exact h.outcomeReport
  · exact h.woundRequest
  · exact h.frameFrom
  · exact h.once .enqueueFor
  · exact h.twinMessage
  · exact h.leaseIn
  · exact h.routeMessage
  · exact h.peerTo .routeFrame
  · exact h.peerTo .handoverIn
  · exact h.peerTo .benchAck

theorem Keeps.forward {m} (h : Keeps z s) : Keeps z (s.forward m) := .ite h.bump h.emitOut

theorem Keeps.receive {g m} (h : Keeps z s) : Keeps z (s.receive g m) :=
    .ite h.msgError (.ite h.msgError (.benchAct (.upd (.ite h.bump h))))

theorem Keeps.benchMessage {g m} (h : Keeps z s) : Keeps z (benchMessage g m s) :=
    .ite h (.ite (.ite h.receive h) (.ite h.forward h.receive))

theorem Keeps.execBenchMessage {g msg} (h : Keeps z s) : KeepsOut z (execBenchMessage g msg s) := .next h.benchMessage

/-! ### Card ports (Machine/CardOps) -/

theorem Keeps.setCard {k c} (h : Keeps z s) : Keeps z (s.setCard k c) := h.upd
theorem Keeps.setCardState {k v} (h : Keeps z s) : Keeps z (s.setCardState k v) := h.setF
theorem Keeps.setCardRun {k r} (h : Keeps z s) : Keeps z (s.setCardRun k r) := h.setCard
theorem Keeps.cardSend {k b} (h : Keeps z s) : Keeps z (s.cardSend k b) := h.emitOut.setCard
theorem Keeps.cardLine {k line v} (h : Keeps z s) : Keeps z (s.cardLine k line v) := h.emitOut
theorem Keeps.cardOff {k} (h : Keeps z s) : Keeps z (s.cardOff k) := h.cardLine.cardLine.cardLine.cardLine.setCard.setCardState

/-! ### Card events (Machine/Cards) -/

theorem Keeps.cardWrite {r n from_ upto} (h : Keeps z s) : Keeps z (s.cardWrite r n from_ upto) := by
  unfold State.cardWrite
  split
  · exact h
  · exact .ite h h.emitOut

theorem Keeps.cardFlush {k r} (h : Keeps z s) : Keeps z (s.cardFlush k r) := h.cardWrite.setCardRun

theorem Keeps.cardHead {k r len st} (h : Keeps z s) : Keeps z (s.cardHead k r len st) := by
  unfold State.cardHead
  split
  · exact h
  · exact h.emitOut

theorem Keeps.cardLast {k st} (h : Keeps z s) : Keeps z (s.cardLast k st) := h.setCard.setF

theorem Keeps.cardError {k r st} (h : Keeps z s) : Keeps z (s.cardError k r st) :=
    .ite h.cardLast.exchangeEnd h.cardLast.cardHead.exchangeEnd

theorem Keeps.cardFail {k r st} (h : Keeps z s) : Keeps z (s.cardFail k r st) := h.cardError.cardOff
theorem Keeps.cardDown {k r} (h : Keeps z s) : Keeps z (s.cardDown k r) := h.setCard.exchangeEnd.cardOff
theorem Keeps.t0Send {k r t} (h : Keeps z s) : Keeps z (s.t0Send k r t) := .ite h.cardDown h.setCardRun.cardSend
theorem Keeps.t1Send {k r} (h : Keeps z s) : Keeps z (s.t1Send k r) := .ite h.cardDown h.setCardRun.cardSend

theorem Keeps.cardStart {k r} (h : Keeps z s) : Keeps z (s.cardStart k r) := by
  unfold State.cardStart
  dsimp only
  split
  · exact .ite h.setCardState.t1Send h.setCardState.setCardRun.cardSend
  · split
    · exact h.setCardState.cardError.setCardState
    · split
      · exact h.setCardState
      · exact h.setCardState.t0Send

theorem Keeps.cardReset {k r} (h : Keeps z s) : Keeps z (s.cardReset k r) := .setCardState (.setCard (.ite h.cardLine h.cardLine))

theorem Keeps.cardExchange {k cmd} (h : Keeps z s) : Keeps z (cardExchange k cmd s) := by
  unfold Machine.cardExchange
  dsimp only
  split
  · exact h
  · exact .ite h (.ite h.dmaFinish (h.withRead (fun h1 => .ite h1.setDmaRun.cardError (.ite h1.setDmaRun.cardError (.ite
        h1.setDmaRun.cardReset h1.setDmaRun.cardStart)))))

theorem Keeps.execCardExchange {k cmd} (h : Keeps z s) : KeepsOut z (execCardExchange k cmd s) := .next h.cardExchange

theorem Keeps.cardActivate {k} (h : Keeps z s) : Keeps z (cardActivate k s) :=
    .ite h (.setF (.setF (.setCard (.cardLine (.ite h h.cardLine.cardLine)))))

theorem Keeps.execCardActivate {k} (h : Keeps z s) : KeepsOut z (execCardActivate k s) := .next h.cardActivate

theorem Keeps.atrFails {k} (h : Keeps z s) : Keeps z (s.atrFails k) := by
  unfold State.atrFails
  split
  · exact h.cardFail
  · exact h.cardLast.cardOff

theorem Keeps.atrTake {k a t pps} (h : Keeps z s) : Keeps z (s.atrTake k a t pps) := by
  unfold State.atrTake
  dsimp only
  split
  · split
    · exact h.setCard.setF.setF.setF.setF
    · exact h.setCard.setF.setF
  · split
    · exact h.setCard.setF.setF
    · split
      · split
        · exact h.setCard.setF.setF.cardSend.setF.setF
        · exact h.setCard.setF.setF.cardSend
      · exact h.setCard.setF.setF.cardSend

theorem Keeps.cardAtr {k begin_ atr pps} (h : Keeps z s) : Keeps z (cardAtr k begin_ atr pps s) := by
  unfold Machine.cardAtr
  dsimp only
  split
  · exact h
  · split
    · exact h.atrFails
    · split
      · exact h.atrFails
      · split
        · exact h.atrFails
        · split
          · exact h.atrFails
          · split
            · exact h.atrTake.setCardState
            · exact h.atrTake.setCardState.cardStart

theorem Keeps.execCardAtr {k begin_ atr pps} (h : Keeps z s) : KeepsOut z (execCardAtr k begin_ atr pps s) := .next h.cardAtr
theorem Keeps.atrFail {k} (h : Keeps z s) : Keeps z (atrFail k s) := .ite h h.atrFails
theorem Keeps.execAtrFail {k} (h : Keeps z s) : KeepsOut z (execAtrFail k s) := .next h.atrFail

theorem Keeps.t0Status {k r sw1 sw2} (h : Keeps z s) : Keeps z (s.t0Status k r sw1 sw2) := by
  unfold State.t0Status
  dsimp only
  split
  · exact .ite h.t0Send h.setCardRun
  · exact .ite h.t0Send (.ite h.t0Send (.ite h.t0Send h.setCardRun))

theorem Keeps.t0Data {k r n} (h : Keeps z s) : Keeps z (s.t0Data k r n) := .ite h.setCardRun h.setCardRun.cardSend

theorem Keeps.t0Char {k r x} (h : Keeps z s) : Keeps z (s.t0Char k r x) := by
  unfold State.t0Char
  dsimp only
  split
  · exact h.setCard.t0Status
  · exact h.setCard.cardFlush
  · exact .ite h.setCard.setCardRun (.ite h.setCard.setCardRun (.ite (.ite h.setCard.t0Data (.ite h.setCard.setCardRun
        h.setCard.setCardRun)) (.ite (.ite h.setCard.t0Data (.ite h.setCard.setCardRun h.setCard.setCardRun)) h.setCard.setCardRun)))

theorem Keeps.t1Fail {k r st e} (h : Keeps z s) : Keeps z (s.t1Fail k r st e) := .ite h.cardFail h.setCardRun.cardSend
theorem Keeps.t1Answer {k r pcb inf} (h : Keeps z s) : Keeps z (s.t1Answer k r pcb inf) := h.setCardRun.cardSend

theorem Keeps.t1Info {k r more inf} (h : Keeps z s) : Keeps z (s.t1Info k r more inf) := by
  unfold State.t1Info
  extract_lets _ _ _ s1
  have hs1 : Keeps z s1 := h.setCard.cardFlush
  split
  · exact hs1
  · split
    · exact hs1
    · exact .ite hs1.cardDown hs1.cardSend

theorem Keeps.t1Block {k r0 b} (h : Keeps z s) : Keeps z (s.t1Block k r0 b) := by
  unfold State.t1Block
  dsimp only
  exact .ite (.ite h.t1Fail h.t1Info) (.ite (.ite h.t1Answer (.ite h.t1Answer (.ite h.t1Send (.ite h.t1Fail h.setCard.t1Send)))) (.ite
      h.setCard.t1Send (.ite h.setCard.t1Answer (.ite h.setCard.t1Answer h.t1Fail))))

theorem Keeps.t1Char {k r x ok} (h : Keeps z s) : Keeps z (s.t1Char k r x ok) :=
    .ite h.setCard.setCardRun (.ite h.setCard.bump.t1Fail h.setCard.t1Block)

theorem Keeps.cardCharacter {k x parityOk} (h : Keeps z s) : Keeps z (cardCharacter k x parityOk s) := by
  unfold Machine.cardCharacter
  split
  · exact h
  · exact .ite h (.ite h.t1Char (.ite h.t0Char (.ite h.cardFail h.setCard.setCardRun.bump)))

theorem Keeps.execCardCharacter {k x parityOk} (h : Keeps z s) : KeepsOut z (execCardCharacter k x parityOk s) := .next h.cardCharacter

theorem Keeps.cardErrorSignal {k i} (h : Keeps z s) : Keeps z (cardErrorSignal k i s) := by
  unfold Machine.cardErrorSignal
  dsimp only
  split
  · exact h
  · exact .ite h (.ite h.cardFail h.emitOut.bump.setCard)

theorem Keeps.execCardErrorSignal {k i} (h : Keeps z s) : KeepsOut z (execCardErrorSignal k i s) := .next h.cardErrorSignal

theorem Keeps.cardTimeout {k} (h : Keeps z s) : Keeps z (cardTimeout k s) := by
  unfold Machine.cardTimeout
  split
  · exact h
  · exact .ite h (.ite h.bump.t1Fail h.bump.cardFail)

theorem Keeps.execCardTimeout {k} (h : Keeps z s) : KeepsOut z (execCardTimeout k s) := .next h.cardTimeout

theorem Keeps.cardExchangeEnd {k} (h : Keeps z s) : Keeps z (cardExchangeEnd k s) := by
  unfold Machine.cardExchangeEnd
  split
  · exact h
  · split
    · exact h
    · split
      · exact h
      · extract_lets _ s1
        have hs1 : Keeps z s1 := by
          unfold s1
          split
          · exact h.loadKey
          · exact h
        exact .ite (.exchangeEnd (.ite hs1.cardLast.cardOff hs1.cardLast.setCardState)) (.exchangeEnd (.cardHead (.cardWrite (.ite
            hs1.cardLast.cardOff hs1.cardLast.setCardState))))

theorem Keeps.execCardExchangeEnd {k} (h : Keeps z s) : KeepsOut z (execCardExchangeEnd k s) := .next h.cardExchangeEnd
theorem Keeps.cardDeactivated {k} (h : Keeps z s) : Keeps z (cardDeactivated k s) := .ite h.setCardState h
theorem Keeps.execCardDeactivated {k} (h : Keeps z s) : KeepsOut z (execCardDeactivated k s) := .next h.cardDeactivated

/-! ### Cipher events (Machine/Cipher) -/

theorem Keeps.cipherCmd {c w} (h : Keeps z s) : Keeps z (s.cipherCmd c w) := by
  unfold State.cipherCmd
  split
  · exact .complete (.ite h.bump h)
  · exact h.cipherStart

theorem Keeps.execCipher {c w} (h : Keeps z s) : KeepsOut z (execCipher c w s) := .next (h.command h.cipherCmd)
theorem Keeps.takeInput {q} (h : Keeps z s) : Keeps z (s.takeInput q) := h.qConsume.qRelease

theorem Keeps.cipherRun {w key} (h : Keeps z s) : Keeps z (s.cipherRun w key).1 := by
  unfold State.cipherRun
  dsimp only
  split
  · exact h.eccFlush
  · split
    · exact h
    · refine .iteFst h.takeInput (.iteFst h.takeInput ?_)
      split
      · exact h.takeInput.bump
      · split <;> rename_i e
        · exact (h.qHwItem.ofFst e).takeInput
        · exact h.qHwItem.ofFst e

theorem Keeps.hostEnd {r c w good} (h : Keeps z s) : Keeps z (s.hostEnd r c w good) := by
  unfold State.hostEnd
  split
  · exact h.complete
  · exact .ite h.takeInput.complete h.cipherRun.answer

theorem Keeps.jobEnd {r good} (h : Keeps z s) : Keeps z (s.jobEnd r good) := by
  unfold State.jobEnd
  dsimp only
  split
  · exact h.cipherLeave.verifyEnd
  · exact h.cipherLeave.secureEnd
  · exact h.cipherLeave.relayEnd
  · exact h.cipherLeave.hostEnd

theorem Keeps.completeReady {n} (h : Keeps z s) : Keeps z (s.completeReady n) := by
  induction n generalizing s with
  | zero => exact h
  | succ n ih =>
    unfold State.completeReady
    split
    · exact h
    · exact ih h.jobEnd

theorem Keeps.requestEnded {t good} (h : Keeps z s) : Keeps z (s.requestEnded t good) := h.upd.completeReady

theorem Keeps.chargePipe {u i} (h : Keeps z s) : Keeps z (s.chargePipe u i) :=
    .ite h.upd (.ite h.upd.retirePipe.escalateRecord.enterFault h.upd.retirePipe)

theorem Keeps.mismatch {p cls spare} (h : Keeps z s) : Keeps z (s.mismatch p cls spare) := by
  unfold State.mismatch
  extract_lets _ _ s2
  have hs2 : Keeps z s2 := by
    unfold s2
    split
    · exact h.bump.endAudit
    · exact h.bump
  exact .foldl hs2.report fun _ _ h2 => h2.chargePipe

theorem Keeps.cipherDone {t agree spare} (h : Keeps z s) : Keeps z (cipherDone t agree spare s) := by
  unfold Machine.cipherDone
  split
  · exact h
  · exact .ite h.requestEnded h.requestEnded.mismatch

theorem Keeps.execCipherDone {t agree spare} (h : Keeps z s) : KeepsOut z (execCipherDone t agree spare s) := .next h.cipherDone

theorem Keeps.frameVerifiedEvent {t} (h : Keeps z s) : Keeps z (Machine.frameVerified t s) := by
  unfold Machine.frameVerified
  split
  · split
    · exact h.requestEnded
    · exact h
  · exact h

theorem Keeps.execFrameVerified {t} (h : Keeps z s) : KeepsOut z (execFrameVerified t s) := .next h.frameVerifiedEvent

theorem Keeps.frameSecured {t} (h : Keeps z s) : Keeps z (frameSecured t s) := by
  unfold Machine.frameSecured
  split
  · split
    · exact h.requestEnded
    · exact h.requestEnded
    · exact h
  · exact h

theorem Keeps.execFrameSecured {t} (h : Keeps z s) : KeepsOut z (execFrameSecured t s) := .next h.frameSecured

/-! ### Power domains (Machine/Domains) -/

theorem Keeps.drainEnd (h : Keeps z s) : Keeps z (s.drainEnd) := by
  unfold State.drainEnd
  split
  · split
    · exact h.resetBy
    · exact h.upd
  · exact h

theorem Keeps.abortNotice {d tags untagged} (h : Keeps z s) : Keeps z (s.abortNotice d tags untagged) := h.upd.notice
theorem Keeps.abortLines {d} (h : Keeps z s) : Keeps z (s.abortLines d).1 := .foldlFst h fun _ _ h1 => .iteFst h1.plcCut h1

theorem Keeps.abortRamps {d} (h : Keeps z s) : Keeps z (s.abortRamps d).1 := by
  refine .foldlFst h fun _ _ h1 => ?_
  dsimp only
  split
  · exact h1
  · exact h1.upd.rfCut

theorem Keeps.abortWrites {d} (h : Keeps z s) : Keeps z (s.abortWrites d).1 := .foldl h.upd fun _ _ h1 => h1.launchDone
theorem Keeps.abortHeld (h : Keeps z s) : Keeps z (s.abortHeld).1 := .foldl h fun _ _ h1 => h1.endLent

theorem Keeps.abortJob {j} (h : Keeps z s) : Keeps z (s.abortJob j) := by
  unfold State.abortJob
  split
  · exact h.ackNone.supervise
  · split
    · exact .ite h.txFail h
    · exact h
  · exact h.noNextHop
  · exact h.complete

theorem Keeps.abortCipher (h : Keeps z s) : Keeps z s.abortCipher.1 := by
  unfold State.abortCipher
  extract_lets held c s1 s2 s3 x
  have h1 : Keeps z s1 := h.upd
  have h2 : Keeps z s2 := .foldl h1 fun _ _ h1 => h1.cipherLeave.abortJob
  have h3 : Keeps z s3 := .foldl h2 fun _ _ h1 => h1.abortJob
  have hx : Keeps z x.1 := by
    refine .foldlFst h3 fun _ _ h1 => ?_
    dsimp only
    split
    · exact h1
    · exact h1.setCard.exchangeEnd.cardOff
  dsimp only
  exact hx

theorem Keeps.endHeldReqs {st} (h : Keeps z s) : Keeps z (s.endHeldReqs st) := .foldl h.upd fun _ _ h1 => h1.requestEnd
theorem Keeps.abortBench (h : Keeps z s) : Keeps z (s.abortBench).1 := .foldl h.endHeldReqs fun _ _ h1 => h1.closeRequest

theorem Keeps.abortDomain {d} (h : Keeps z s) : Keeps z (s.abortDomain d).1 := by
  unfold State.abortDomain
  split
  · dsimp only
    exact h.abortLines
  · split
    · dsimp only
      exact h.abortRamps.abortWrites
    · split
      · dsimp only
        exact h.abortHeld
      · split
        · exact h.abortCipher
        · exact .iteFst h.abortBench h

theorem Keeps.abortRead {k} (h : Keeps z s) : Keeps z (s.abortRead k) := by
  unfold State.abortRead
  dsimp only
  split
  · split
    · exact .dmaFinish (.ite h.readEnd.qRewind h.readEnd)
    · exact h.readEnd
  · split
    · exact h.readEnd.complete.upd
    · exact h.readEnd
  · exact h.readEnd

theorem Keeps.abortCore (h : Keeps z s) : Keeps z (s.abortCore).1 := .foldl h.upd fun _ _ h1 => h1.abortRead

theorem Keeps.clampDomain {d} (h : Keeps z s) : Keeps z (s.clampDomain d) :=
    .ite (.foldl h.setDomain.upd fun _ _ h1 => .ite h1 h1.cardOff) (.ite h.setDomain.upd.endHeldReqs h.setDomain.upd)

theorem Keeps.domainDrained {d} (h : Keeps z s) : Keeps z (domainDrained d s) := .ite h.drainEnd (.ite h.clampDomain.twinSettle h)
theorem Keeps.execDomainDrained {d} (h : Keeps z s) : KeepsOut z (execDomainDrained d s) := .next h.domainDrained

theorem Keeps.domainLimit {d} (h : Keeps z s) : Keeps z (s.domainLimit d) :=
    .twinSettle (.ite h.abortDomain.abortNotice h.abortDomain.abortNotice.clampDomain)

theorem Keeps.drainLimitExpiry {d} (h : Keeps z s) : Keeps z (drainLimitExpiry d s) := by
  unfold Machine.drainLimitExpiry
  split
  · split
    · exact .ite h.abortCore.abortNotice.drainEnd h
    · exact h
  · exact .ite h.domainLimit h

theorem Keeps.execDrainLimitExpiry {d} (h : Keeps z s) : KeepsOut z (execDrainLimitExpiry d s) := .next h.drainLimitExpiry

theorem Keeps.domainOff {d} (h : Keeps z s) : Keeps z (domainOff d s) :=
    .ite (.ite h.setDomain.domainLeavesOn.drainEnd (.ite h.setDomain.domainLeavesOn.powerUp h.setDomain.domainLeavesOn)) h

theorem Keeps.execDomainOff {d} (h : Keeps z s) : KeepsOut z (execDomainOff d s) := .next h.domainOff

theorem Keeps.domainOn {d} (h : Keeps z s) : Keeps z (domainOn d s) :=
    .ite (.ite h.setDomain.domainComesOn.drainDomain h.setDomain.domainComesOn) h

theorem Keeps.execDomainOn {d} (h : Keeps z s) : KeepsOut z (execDomainOn d s) := .next h.domainOn

/-! ### Faults, spares and audits (Machine/Faults) -/

theorem Keeps.faultDetect {code u detail} (h : Keeps z s) : Keeps z (faultDetect code u detail s) :=
    .ite h (.ite h.reportEscalated h.report)

theorem Keeps.execFaultDetect {code u detail} (h : Keeps z s) : KeepsOut z (execFaultDetect code u detail s) := .next h.faultDetect

theorem Keeps.faultAutoclose {i} (h : Keeps z s) : Keeps z (faultAutoclose i s) := by
  unfold Machine.faultAutoclose
  split
  · exact h
  · exact .ite h.closeRecord h

theorem Keeps.execFaultAutoclose {i} (h : Keeps z s) : KeepsOut z (execFaultAutoclose i s) := .next h.faultAutoclose

theorem Keeps.closeFaults {v} (h : Keeps z s) : Keeps z (s.closeFaults v).1 :=
    .iteFst (.foldl h fun _ _ h1 => h1.closeRecord) (.iteFst h (.iteFst h.closeRecord h))

theorem Keeps.execFaultClose {c v} (h : Keeps z s) : KeepsOut z (execFaultClose c v s) := .next (h.command h.closeFaults.complete)

theorem Keeps.wedgeLimit {k u} (h : Keeps z s) : Keeps z (s.wedgeLimit k u).2 := by
  unfold State.wedgeLimit
  split
  · exact h
  · exact h
  · exact h.freshWord
  · split <;> exact h
  · exact h
  · exact h
  · exact h
  · exact h

theorem Keeps.wedgeEffect {k u} (h : Keeps z s) : Keeps z (s.wedgeEffect k u) :=
    .ite (.foldl h.rxFollowPort fun _ _ h1 => h1.plcCut) (.ite h.noteRun (.ite (.foldl h fun _ _ h2 => h2.endLent) h))

theorem Keeps.wedgedNotice {k u i action} (h : Keeps z s) : Keeps z (s.wedgedNotice k u i action) := h.notice

theorem Keeps.wedgePipe {u} (h : Keeps z s) : Keeps z (s.wedgePipe u) :=
    .ite h.report.retirePipe.wedgedNotice.escalateRecord.enterFault h.report.retirePipe.wedgedNotice

theorem Keeps.wedgeUnit {w} (h : Keeps z s) : Keeps z (s.wedgeUnit w) :=
    .ite (.enterFault (.wedgedNotice (.wedgeEffect (.iteFst h.wedgeLimit.upd.recordError h.wedgeLimit.upd.recordError.report))))
    (.wedgedNotice (.wedgeEffect (.iteFst h.wedgeLimit.upd.recordError h.wedgeLimit.upd.recordError.report)))

theorem Keeps.unitWedged {w} (h : Keeps z s) : Keeps z (unitWedged w s) := .ite h (.ite h.wedgePipe h.wedgeUnit)
theorem Keeps.execUnitWedged {w} (h : Keeps z s) : KeepsOut z (execUnitWedged w s) := .next h.unitWedged
theorem Keeps.takeUp {k u lg} (h : Keeps z s) : Keeps z (s.takeUp k u lg) := .ite h.rxFollowPort (.ite h.rxFollowLane h)
theorem Keeps.autospareSubst {w} (h : Keeps z s) : Keeps z (autospareSubst w s) := .ite h h.retire.takeUp
theorem Keeps.execAutospareSubst {w} (h : Keeps z s) : KeepsOut z (execAutospareSubst w s) := .next h.autospareSubst
theorem Keeps.setAudit {k a} (h : Keeps z s) : Keeps z (s.setAudit k a) := h.upd
theorem Keeps.endPass {k a} (h : Keeps z s) : Keeps z (s.endPass k a) := .ite h.bump h

theorem Keeps.startStep {k} (h : Keeps z s) : Keeps z (s.startStep k) := by
  unfold State.startStep
  dsimp only
  split <;> exact h.setAudit

theorem Keeps.auditStep {k} (h : Keeps z s) : Keeps z (auditStep k s) := .ite h (.ite h.setAudit (.ite h h.endPass.startStep))
theorem Keeps.execAuditStep {k} (h : Keeps z s) : KeepsOut z (execAuditStep k s) := .next h.auditStep
theorem Keeps.auditNotice {k u v v' verdict} (h : Keeps z s) : Keeps z (s.auditNotice k u v v' verdict) := h.notice
theorem Keeps.endStep {k} (h : Keeps z s) : Keeps z (s.endStep k) := h.setAudit

theorem Keeps.retireFor {k u v i} (h : Keeps z s) : Keeps z (s.retireFor k u v i) :=
    .ite h.substitute.restartPair.noteRetired.retiredNotice h.substitute.noteRetired.retiredNotice.takeUp

theorem Keeps.judgeSpare {k u v v'} (h : Keeps z s) : Keeps z (s.judgeSpare k u v v') := h.report.endStep.auditNotice.retire

theorem Keeps.judgeLive {k u v v'} (h : Keeps z s) : Keeps z (s.judgeLive k u v v') :=
    .ite h.report.endStep.auditNotice.retireFor h.report.endStep.auditNotice

theorem Keeps.judgeNone {k u v} (h : Keeps z s) : Keeps z (s.judgeNone k u v) := h.report.report.endStep.auditNotice

theorem Keeps.auditMismatch {k agrees} (h : Keeps z s) : Keeps z (auditMismatch k agrees s) := by
  unfold Machine.auditMismatch
  dsimp only
  split
  · exact h
  · split
    · split
      · exact h
      · split
        · exact h.bump.setAudit
        · exact h.bump.judgeNone
    · exact .ite (.ite h h.judgeSpare) h.bump.judgeLive

theorem Keeps.execAuditMismatch {k agrees} (h : Keeps z s) : KeepsOut z (execAuditMismatch k agrees s) := .next h.auditMismatch

/-! ### The host link (Machine/HostLink) -/

theorem Keeps.takeCommand {n ws} (h : Keeps z s) : Keeps z (s.takeCommand n ws) := .ite h.upd.complete (.ite h.upd.complete h.upd)

theorem Keeps.commandFetch {n ans} (h : Keeps z s) : Keeps z (commandFetch n ans s) := by
  unfold Machine.commandFetch
  dsimp only
  split
  · exact h
  · split
    · exact h.ringStop
    · split
      · exact h.ringStop
      · split
        · rename_i e1
          exact (h.setF.takeCommand.writeWb.ofFst e1)
        · rename_i e2
          exact (h.setF.takeCommand.writeWb.ofFst e2).ringStop

theorem Keeps.execCommandFetch {n ans} (h : Keeps z s) : KeepsOut z (execCommandFetch n ans s) := .next h.commandFetch
theorem Keeps.spendToken {n} (h : Keeps z s) : Keeps z (s.spendToken n) := .ite h h.upd
theorem Keeps.countDelayed (h : Keeps z s) : Keeps z (s.countDelayed) := .upd (.foldl h fun _ _ h1 => h1.bump)
theorem Keeps.noteSignal (h : Keeps z s) : Keeps z (s.noteSignal) := .ite h.upd.signal h.upd
theorem Keeps.noticeWindow {count} (h : Keeps z s) : Keeps z (s.noticeWindow count) := h.setF.ringStop.signal

theorem Keeps.putNotice {n} (h : Keeps z s) : Keeps z (s.putNotice n).1 := by
  unfold State.putNotice
  dsimp only
  split
  · exact h.noticeWindow
  · split <;> rename_i e
    · exact (h.emitOut.setF.writeWb.ofFst e).noteSignal
    · exact (h.emitOut.setF.writeWb.ofFst e).noticeWindow

theorem Keeps.freeSlot {n} (h : Keeps z s) : Keeps z (s.freeSlot n) := .ite h h.upd

theorem Keeps.noticeWrite (h : Keeps z s) : Keeps z (noticeWrite s) := by
  unfold Machine.noticeWrite
  dsimp only
  split
  · exact h.countDelayed
  · split
    · split
      · rename_i e5
        exact (h.countDelayed.putNotice.ofFst e5).upd
      · rename_i e6
        exact (h.countDelayed.putNotice.ofFst e6)
    · split
      · exact h.countDelayed
      · split
        · rename_i e7
          exact (h.countDelayed.putNotice.ofFst e7).upd.spendToken.freeSlot
        · rename_i e8
          exact (h.countDelayed.putNotice.ofFst e8)

theorem Keeps.execNoticeWrite (h : Keeps z s) : KeepsOut z (execNoticeWrite s) := .next h.noticeWrite
theorem Keeps.irqTimer (h : Keeps z s) : Keeps z (irqTimer s) := .ite h.upd.signal h
theorem Keeps.execIrqTimer (h : Keeps z s) : KeepsOut z (execIrqTimer s) := .next h.irqTimer
theorem Keeps.tokenRefill (h : Keeps z s) : Keeps z (tokenRefill s) := h.upd
theorem Keeps.execTokenRefill (h : Keeps z s) : KeepsOut z (execTokenRefill s) := .next h.tokenRefill

theorem Keeps.spanExpiry {i} (h : Keeps z s) : Keeps z (spanExpiry i s) := by
  unfold Machine.spanExpiry
  split
  · exact h
  · split
    · dsimp only
      split
      · exact h.upd.hand
      · exact h.upd
    · exact h

theorem Keeps.execSpanExpiry {i} (h : Keeps z s) : KeepsOut z (execSpanExpiry i s) := .next h.spanExpiry

theorem Keeps.dropRun {r} (h : Keeps z s) : Keeps z (s.dropRun r) := by
  unfold State.dropRun
  dsimp only
  split
  · exact h.setDmaRing
  · exact .bump (.setDmaRing (.ite h.readEnd.qRewind h.readEnd))

theorem Keeps.hostLinkLoss (h : Keeps z s) : Keeps z (hostLinkLoss s) :=
    .ite h (.upd (.foldl (.foldl (.foldl h.setF.setF.bump.setF fun _ _ h1 => h1.setF) fun _ _ h2 => h2.dropRun.setF) fun _ _ h3 =>
    h3.readEnd))

theorem Keeps.execHostLinkLoss (h : Keeps z s) : KeepsOut z (execHostLinkLoss s) := .next h.hostLinkLoss
theorem Keeps.hostLinkState {speed width} (h : Keeps z s) : Keeps z (hostLinkState speed width s) := .ite h h.setF.setF.setF.upd.notice
theorem Keeps.execHostLinkState {speed width} (h : Keeps z s) : KeepsOut z (execHostLinkState speed width s) := .next h.hostLinkState
theorem Keeps.busMasterEnable (h : Keeps z s) : Keeps z (busMasterEnable s) := .ite h.setF.sendPending h
theorem Keeps.execBusMasterEnable (h : Keeps z s) : KeepsOut z (execBusMasterEnable s) := .next h.busMasterEnable

/-! ### Keys (Machine/Keys) -/

theorem Keeps.keyLoad {c w} (h : Keeps z s) : Keeps z (s.keyLoad c w) := .ite h.complete h.loadKey.complete
theorem Keeps.execKeyLoad {c w} (h : Keeps z s) : KeepsOut z (execKeyLoad c w s) := .next (h.command h.keyLoad)
theorem Keeps.rollWindowExpiry {k} (h : Keeps z s) : Keeps z (rollWindowExpiry k s) := .ite h.loadKey h
theorem Keeps.execRollWindowExpiry {k} (h : Keeps z s) : KeepsOut z (execRollWindowExpiry k s) := .next h.rollWindowExpiry

/-! ### The loader (Machine/Load) -/

theorem Keeps.attemptFailed {c st} (h : Keeps z s) : Keeps z (s.attemptFailed c st) :=
    .ite h.readEnd.complete.loadOver.upd h.readEnd.complete.loadOver.upd.loadFail

theorem Keeps.offerImage {c host len} (h : Keeps z s) : Keeps z (s.offerImage c host len) :=
    .ite h.complete (.ite h.attemptFailed h.upd.readIssue)

theorem Keeps.execLoadImage {c host len} (h : Keeps z s) : KeepsOut z (execLoadImage c host len s) := .next (h.command h.offerImage)

theorem Keeps.readAwaited (h : Keeps z s) : Keeps z (s.readAwaited) := by
  unfold State.readAwaited
  split
  · exact h.readEnd.complete.loadOver
  · exact h

theorem Keeps.imageReadDone {image} (h : Keeps z s) : Keeps z (imageReadDone image s) := by
  unfold Machine.imageReadDone
  split
  · exact h.readAwaited
  · split
    · exact .ite h h.readEnd.complete.checkLoaded
    · exact h
    · exact h.checkLoaded

theorem Keeps.execImageReadDone {image} (h : Keeps z s) : KeepsOut z (execImageReadDone image s) := .next h.imageReadDone

theorem Keeps.loadAttemptFailed {why} (h : Keeps z s) : Keeps z (loadAttemptFailed why s) := by
  unfold Machine.loadAttemptFailed
  split
  · split
    · exact h.attemptFailed
    · exact h.attemptFailed
    · exact .ite h h.attemptFailed
  · exact h

theorem Keeps.execLoadAttemptFailed {why} (h : Keeps z s) : KeepsOut z (execLoadAttemptFailed why s) := .next h.loadAttemptFailed
theorem Keeps.loadTimeout (h : Keeps z s) : Keeps z (loadTimeout s) := .ite h.loadFail h
theorem Keeps.execLoadTimeout (h : Keeps z s) : KeepsOut z (execLoadTimeout s) := .next h.loadTimeout
theorem Keeps.noImage (h : Keeps z s) : Keeps z (noImage s) := .ite h.loadFail h
theorem Keeps.execNoImage (h : Keeps z s) : KeepsOut z (execNoImage s) := .next h.noImage

/-! ### Mains trackers (Machine/Mains) -/

theorem Keeps.anglesLost {p} (h : Keeps z s) : Keeps z (s.anglesLost p) := h.endEntries
theorem Keeps.unlock {p} (h : Keeps z s) : Keeps z (s.unlock p) := h.mainsState.anglesLost

theorem Keeps.lateCrossing {p t f x} (h : Keeps z s) : Keeps z (s.lateCrossing p t f x) := by
  unfold State.lateCrossing
  split
  · dsimp only
    split
    · split
      · exact .ite h.unlock h.mainsState
      · exact h.mainsState
    · exact .ite (.ite h.mainsState h.setTracker) h

theorem Keeps.mainsCrossing {p back} (h : Keeps z s) : Keeps z (mainsCrossing p back s) := by
  unfold Machine.mainsCrossing
  split
  · exact h
  · dsimp only
    split
    · exact .ite h.lateCrossing.setTracker h.lateCrossing
    · exact h.mainsState

theorem Keeps.execMainsCrossing {p back} (h : Keeps z s) : KeepsOut z (execMainsCrossing p back s) := .next h.mainsCrossing

theorem Keeps.mainsCrossingMissed {p} (h : Keeps z s) : Keeps z (mainsCrossingMissed p s) := by
  unfold Machine.mainsCrossingMissed
  dsimp only
  split
  · exact h
  · exact .ite h (.ite h.mainsState h.setTracker)

theorem Keeps.execMainsCrossingMissed {p} (h : Keeps z s) : KeepsOut z (execMainsCrossingMissed p s) := .next h.mainsCrossingMissed

theorem Keeps.coastExpiry {p} (h : Keeps z s) : Keeps z (coastExpiry p s) := by
  unfold Machine.coastExpiry
  dsimp only
  split
  · exact h
  · exact .ite h.unlock h

theorem Keeps.execCoastExpiry {p} (h : Keeps z s) : KeepsOut z (execCoastExpiry p s) := .next h.coastExpiry

theorem Keeps.lockingTimeout {p} (h : Keeps z s) : Keeps z (lockingTimeout p s) := by
  unfold Machine.lockingTimeout
  dsimp only
  split
  · exact .ite h.unlock h
  · exact h

theorem Keeps.execLockingTimeout {p} (h : Keeps z s) : KeepsOut z (execLockingTimeout p s) := .next h.lockingTimeout

/-! ### Power-line transmission and access (Machine/PlcTx) -/

theorem Keeps.plcRead {e} (h : Keeps z s) : Keeps z (s.plcRead e) := by
  unfold State.plcRead
  split
  · rename_i e1
    split
    · exact h
    · split
      · exact h
      · exact .ite (h.txTake.ofFst e1).txFail (.ite (h.txTake.ofFst e1).secureEntry (h.txTake.ofFst e1))

theorem Keeps.plcItemRead {i} (h : Keeps z s) : Keeps z (plcItemRead i s) := by
  unfold Machine.plcItemRead
  split
  · exact h
  · exact .ite h h.plcRead

theorem Keeps.execPlcItemRead {e} (h : Keeps z s) : KeepsOut z (execPlcItemRead e s) := .next h.plcItemRead

theorem Keeps.plcLaunch {e it psdu} (h : Keeps z s) : Keeps z (s.plcLaunch e it psdu) := by
  unfold State.plcLaunch
  extract_lets _ _ s1
  have hs1 : Keeps z s1 := h.lqRemove.plcStart
  split
  · split
    · exact hs1.setPchan.bump
    · exact hs1
  · exact hs1

theorem Keeps.plcFrame {i} (h : Keeps z s) : Keeps z (plcFrame i s) := by
  unfold Machine.plcFrame
  split
  · exact h
  · split
    · exact h
    · dsimp only
      split
      · exact .ite h.plcRead h
      · split
        · exact .txFail (.ite h.plcRead h)
        · split
          · exact .endOfTick (.plcLaunch (.ite h.plcRead h))
          · exact .txFail (.ite h.plcRead h)

theorem Keeps.execPlcFrame {e} (h : Keeps z s) : KeepsOut z (execPlcFrame e s) := .next h.plcFrame
theorem Keeps.sentReserve {p b t} (h : Keeps z s) : Keeps z (s.sentReserve p b t) := .ite h.setPchan h

theorem Keeps.attemptSent {hh p b t} (h : Keeps z s) : Keeps z (s.attemptSent hh p b t) := by
  unfold State.attemptSent
  split
  · exact h
  · exact .ite h.setPchan.sentReserve h.releaseAttempt

theorem Keeps.plcTxDone {p b} (h : Keeps z s) : Keeps z (plcTxDone p b s) := by
  unfold Machine.plcTxDone
  split
  · exact h
  · split
    · exact h
    · dsimp only
      split
      · exact h.plcStop.bump.twinSettle.sentReserve.qRelease.launchReport
      · exact h.plcStop.bump.twinSettle.sentReserve.attemptSent
      · exact h.plcStop.bump.twinSettle.sentReserve

theorem Keeps.execPlcTxDone {p b} (h : Keeps z s) : KeepsOut z (execPlcTxDone p b s) := .next h.plcTxDone
theorem Keeps.unblock {p b} (h : Keeps z s) : Keeps z (s.unblock p b) := .ite h.setPchan h

theorem Keeps.startAttempt {p b k q t} (h : Keeps z s) : Keeps z (s.startAttempt p b k q t) := by
  unfold State.startAttempt
  dsimp only
  split
  · exact h.beginAttempt.lqInsert.rewindAttempt
  · split
    · exact h.beginAttempt.lqInsert.plcRead
    · exact h.beginAttempt.lqInsert

theorem Keeps.contentionDecision {p b round draw spectra} (h : Keeps z s) : Keeps z (contentionDecision p b round draw spectra s) := by
  unfold Machine.contentionDecision
  dsimp only
  split
  · exact h.unblock
  · split
    · exact .ite h.unblock (.ite h.unblock.bump h.unblock.startAttempt)
    · exact h.unblock

theorem Keeps.execContentionDecision {p b d} (h : Keeps z s) : KeepsOut z (execContentionDecision p b d s) := .next h.contentionDecision

theorem Keeps.plcAckSend {p b} (h : Keeps z s) : Keeps z (plcAckSend p b s) := by
  unfold Machine.plcAckSend
  dsimp only
  split
  · exact h
  · exact .ite h (.ite h.setPchan (.ite h.setPchan.bump (.ite h.setPchan.plcStart.bump h.setPchan.plcStart.bump)))

theorem Keeps.execPlcAckSend {p b} (h : Keeps z s) : KeepsOut z (execPlcAckSend p b s) := .next h.plcAckSend
theorem Keeps.execPlcAckRx {p b psdu} (h : Keeps z s) : KeepsOut z (execPlcAckRx p b psdu s) := .next h.plcAckIn

theorem Keeps.plcAckExpiry {p b} (h : Keeps z s) : Keeps z (plcAckExpiry p b s) := by
  unfold Machine.plcAckExpiry
  split
  · exact .ite h.ackMissed h
  · exact h

theorem Keeps.execPlcAckExpiry {p b} (h : Keeps z s) : KeepsOut z (execPlcAckExpiry p b s) := .next h.plcAckExpiry

theorem Keeps.bandcAccess {p draw spectra} (h : Keeps z s) : Keeps z (bandcAccess p draw spectra s) := by
  unfold Machine.bandcAccess
  dsimp only
  split
  · exact h.unblock
  · exact .ite h.unblock (.ite h.unblock.bump (.ite h.unblock h.unblock.startAttempt))

theorem Keeps.execBandcAccess {p d} (h : Keeps z s) : KeepsOut z (execBandcAccess p d s) := .next h.bandcAccess
theorem Keeps.fallback {p} (h : Keeps z s) : Keeps z (s.fallback p) := h.setF.notice
theorem Keeps.silentSuper {p b t} (h : Keeps z s) : Keeps z (s.silentSuper p b t) := h.setPchan.bump

theorem Keeps.beaconLaunch {p b} (h : Keeps z s) : Keeps z (beaconLaunch p b s) := by
  unfold Machine.beaconLaunch
  dsimp only
  split
  · exact h
  · split
    · exact h.bump.fallback
    · exact .ite h (.ite h.upd.silentSuper h.upd.plcStart.setF.setPchan.mirror)

theorem Keeps.execBeaconLaunch {p b} (h : Keeps z s) : KeepsOut z (execBeaconLaunch p b s) := .next h.beaconLaunch

theorem Keeps.grantLaunch {p b} (h : Keeps z s) : Keeps z (grantLaunch p b s) := by
  unfold Machine.grantLaunch
  dsimp only
  split
  · exact .ite h.unblock (.ite h.unblock.startAttempt h.unblock.bump)
  · exact h.unblock

theorem Keeps.execGrantLaunch {p b} (h : Keeps z s) : KeepsOut z (execGrantLaunch p b s) := .next h.grantLaunch

theorem Keeps.accessTakes {p} (h : Keeps z s) : Keeps z (s.accessTakes p) := by
  unfold State.accessTakes
  split
  · exact h
  · exact .foldl h.upd fun _ _ h1 => h1.setPchan

theorem Keeps.fallbackEnds {p} (h : Keeps z s) : Keeps z (s.fallbackEnds p) := .ite (.foldl h.setF fun _ _ h1 => h1.setPchan) h

theorem Keeps.mainsCycleBoundary {p} (h : Keeps z s) : Keeps z (mainsCycleBoundary p s) :=
    .ite h h.setTracker.accessTakes.fallbackEnds.upd

theorem Keeps.execMainsCycleBoundary {p} (h : Keeps z s) : KeepsOut z (execMainsCycleBoundary p s) := .next h.mainsCycleBoundary

/-! ### Queue events (Machine/Queues) -/

theorem Keeps.queueStale {q} (h : Keeps z s) : Keeps z (queueStale q s) := .ite h.setQst.setF.notice h
theorem Keeps.execQueueStale {q} (h : Keeps z s) : KeepsOut z (execQueueStale q s) := .next h.queueStale

theorem Keeps.queueOpenExpired {q} (h : Keeps z s) : Keeps z (queueOpenExpired q s) := by
  unfold Machine.queueOpenExpired
  split
  · exact h
  · exact .ite h.qExpireOpen.notice h

theorem Keeps.execQueueOpenExpired {q} (h : Keeps z s) : KeepsOut z (execQueueOpenExpired q s) := .next h.queueOpenExpired
theorem Keeps.execHwItemWrite {q u body} (h : Keeps z s) : KeepsOut z (execHwItemWrite q u body s) := .next h.qHwItem

theorem Keeps.corrected {b w} (h : Keeps z s) : Keeps z (s.corrected b w) := by
  unfold State.corrected
  dsimp only
  split
  · exact h.bump.bump
  · exact h.bump

theorem Keeps.poisoned {b o w} (h : Keeps z s) : Keeps z (s.poisoned b o w) := by
  refine .ite h (.notice (.report ?_))
  split
  · exact .setF (.bump (.upd (.ite h.freshWord h)))
  · exact .bump (.upd (.ite h.freshWord h))

theorem Keeps.scrubNext {b o} (h : Keeps z s) : Keeps z (s.scrubNext b o) := .ite h.upd.bump h.upd

theorem Keeps.scrubRead {b u} (h : Keeps z s) : Keeps z (scrubRead b u s) := by
  unfold Machine.scrubRead
  split
  · exact h
  · extract_lets _ _ s1
    have hs1 : Keeps z s1 := by
      unfold s1
      split
      · exact h
      · exact h.corrected
      · exact h.poisoned
    exact hs1.scrubNext

theorem Keeps.execScrubRead {b u} (h : Keeps z s) : KeepsOut z (execScrubRead b u s) := .next h.scrubRead
theorem Keeps.bankCopyDone {n} (h : Keeps z s) : Keeps z (bankCopyDone n s) := h.upd
theorem Keeps.execBankCopyDone {n} (h : Keeps z s) : KeepsOut z (execBankCopyDone n s) := .next h.bankCopyDone

/-- Every command and event keeps what a state keeps. -/
theorem Keeps.exec (h : Keeps z s) : ∀ i : Instr, KeepsOut z (Machine.exec i s)
  | .nop .. => h.execNop
  | .read .. => h.execRead
  | .write .. => h.execWrite
  | .readBlock .. => h.execReadBlock
  | .writeBlock .. => h.execWriteBlock
  | .enqueue .. => h.execEnqueue
  | .launch .. => h.execLaunch
  | .launchCancel .. => h.execLaunchCancel
  | .routeInsert .. => h.execRouteInsert
  | .routeRemove .. => h.execRouteRemove
  | .keyLoad .. => h.execKeyLoad
  | .cipher .. => h.execCipher
  | .loadImage .. => h.execLoadImage
  | .fullReset .. => h.execFullReset
  | .txnOpen .. => h.execTxnOpen
  | .txnAdd .. => h.execTxnAdd
  | .txnCommit .. => h.execTxnCommit
  | .txnAbort .. => h.execTxnAbort
  | .txnStatus .. => h.execTxnStatus
  | .memberReset .. => h.execMemberReset
  | .remoteRead .. => h.execRemoteRead
  | .remoteWrite .. => h.execRemoteWrite
  | .handover .. => h.execHandover
  | .ledgerRead .. => h.execLedgerRead
  | .ledgerWrite .. => h.execLedgerWrite
  | .faultClose .. => h.execFaultClose
  | .reqRun .. => h.execReqRun
  | .reqQuiet .. => h.execReqQuiet
  | .reqShadow .. => h.execReqShadow
  | .reqDrain .. => h.execReqDrain
  | .faultAck .. => h.execFaultAck
  | .optagHwClear .. => h.execOptagHwClear
  | .poolHwClear .. => h.execPoolHwClear
  | .abortinfoClear .. => h.execAbortinfoClear
  | .counterClear .. => h.execCounterClear
  | .w1cClear .. => h.execW1cClear
  | .registerWrite .. => h.execRegisterWrite
  | .fuseArm .. => h.execFuseArm
  | .fuseBlow .. => h.execFuseBlow
  | .fuseProgramDone => h.execFuseProgramDone
  | .stepSet .. => h.execStepSet
  | .stepAccept .. => h.execStepAccept
  | .qctlAdvance .. => h.execQctlAdvance
  | .qctlRelease .. => h.execQctlRelease
  | .qctlMark .. => h.execQctlMark
  | .qctlRewind .. => h.execQctlRewind
  | .qctlFlush .. => h.execQctlFlush
  | .qctlClrcnt .. => h.execQctlClrcnt
  | .qcfgStaleWrite .. => h.execQcfgStaleWrite
  | .laneRun .. => h.execLaneRun
  | .lpgainWrite .. => h.execLpgainWrite
  | .ringEnable .. => h.execRingEnable
  | .epStateActive .. => h.execEpStateActive
  | .epStateFree .. => h.execEpStateFree
  | .nowLoRead .. => h.execNowLoRead
  | .rsShadowRead .. => h.execRsShadowRead
  | .hlCdb .. => h.execHlCdb
  | .hlNdb .. => h.execHlNdb
  | .hlDdb .. => h.execHlDdb
  | .suppliesUp => h.execSuppliesUp
  | .supplyLoss => h.execSupplyLoss
  | .resetPin .. => h.execResetPin
  | .coldToLoad .. => h.execColdToLoad
  | .imageReadDone .. => h.execImageReadDone
  | .loadAttemptFailed .. => h.execLoadAttemptFailed
  | .loadTimeout => h.execLoadTimeout
  | .selfTestDone .. => h.execSelfTestDone
  | .defaultedTestDone .. => h.execDefaultedTestDone
  | .defTxStart => h.execDefTxStart
  | .acquireComplete => h.execAcquireComplete
  | .twinTakeover => h.execTwinTakeover
  | .twinRecheck .. => h.execTwinRecheck
  | .twinLinkLost => h.execTwinLinkLost
  | .twinSend .. => h.execTwinSend
  | .twinMessage .. => h.execTwinMessage
  | .domainDrained .. => h.execDomainDrained
  | .drainLimitExpiry .. => h.execDrainLimitExpiry
  | .domainOff .. => h.execDomainOff
  | .domainOn .. => h.execDomainOn
  | .unitWedged .. => h.execUnitWedged
  | .autospareSubst .. => h.execAutospareSubst
  | .watchdogReset .. => h.execWatchdogReset
  | .resetDirective .. => h.execResetDirective
  | .ppsEdge .. => h.execPpsEdge
  | .todSentence .. => h.execTodSentence
  | .timeCell .. => h.execTimeCell
  | .refLoss => h.execRefLoss
  | .holdoverExpired => h.execHoldoverExpired
  | .pps0Return => h.execPps0Return
  | .mainsCrossing .. => h.execMainsCrossing
  | .mainsCrossingMissed .. => h.execMainsCrossingMissed
  | .coastExpiry .. => h.execCoastExpiry
  | .lockingTimeout .. => h.execLockingTimeout
  | .mainsCycleBoundary .. => h.execMainsCycleBoundary
  | .launchStage .. => h.execLaunchStage
  | .commit .. => h.execCommit
  | .plcBand .. => h.execPlcBand
  | .rfTune .. => h.execRfTune
  | .gain .. => h.execGain
  | .rfProfile .. => h.execRfProfile
  | .plcFrame .. => h.execPlcFrame
  | .rfTx .. => h.execRfTx
  | .eventEdge .. => h.execEventEdge
  | .marker .. => h.execMarker
  | .eventCapture .. => h.execEventCapture
  | .rfRxFrame .. => h.execRfRxFrame
  | .rfFrameMissing .. => h.execRfFrameMissing
  | .rfcTransaction .. => h.execRfcTransaction
  | .laneParityError .. => h.execLaneParityError
  | .captureItem .. => h.execCaptureItem
  | .plcDetect .. => h.execPlcDetect
  | .plcSyncm .. => h.execPlcSyncm
  | .plcSyncTimeout .. => h.execPlcSyncTimeout
  | .plcHeaderDecided .. => h.execPlcHeaderDecided
  | .plcFrameDue .. => h.execPlcFrameDue
  | .plcSuspendEnd .. => h.execPlcSuspendEnd
  | .plcItemRead .. => h.execPlcItemRead
  | .plcTxDone .. => h.execPlcTxDone
  | .contentionDecision .. => h.execContentionDecision
  | .plcAckSend .. => h.execPlcAckSend
  | .plcAckRx .. => h.execPlcAckRx
  | .plcAckExpiry .. => h.execPlcAckExpiry
  | .bandcAccess .. => h.execBandcAccess
  | .beaconLaunch .. => h.execBeaconLaunch
  | .grantLaunch .. => h.execGrantLaunch
  | .chirpDetect .. => h.execChirpDetect
  | .demodGrant .. => h.execDemodGrant
  | .syncDecided .. => h.execSyncDecided
  | .firstBlockDecided .. => h.execFirstBlockDecided
  | .chirpLost .. => h.execChirpLost
  | .chirpFrameDue .. => h.execChirpFrameDue
  | .rfTxItemRead .. => h.execRfTxItemRead
  | .rfItemDeadline .. => h.execRfItemDeadline
  | .dutyCheck .. => h.execDutyCheck
  | .uprampStart .. => h.execUprampStart
  | .rfTxEnd .. => h.execRfTxEnd
  | .chirpSuspendEnd .. => h.execChirpSuspendEnd
  | .frameVerified .. => h.execFrameVerified
  | .frameSecured .. => h.execFrameSecured
  | .supervisionExpiry .. => h.execSupervisionExpiry
  | .provisionalExpiry .. => h.execProvisionalExpiry
  | .slotPrepare .. => h.execSlotPrepare
  | .slotStart => h.execSlotStart
  | .schedTx .. => h.execSchedTx
  | .schedAckSend .. => h.execSchedAckSend
  | .rfAckExpiry .. => h.execRfAckExpiry
  | .dlqServe .. => h.execDlqServe
  | .mbxExpired .. => h.execMbxExpired
  | .pollResponse .. => h.execPollResponse
  | .dcSecond => h.execDcSecond
  | .cipherDone .. => h.execCipherDone
  | .rollWindowExpiry .. => h.execRollWindowExpiry
  | .cardExchange .. => h.execCardExchange
  | .cardActivate .. => h.execCardActivate
  | .cardAtr .. => h.execCardAtr
  | .cardCharacter .. => h.execCardCharacter
  | .cardTimeout .. => h.execCardTimeout
  | .cardExchangeEnd .. => h.execCardExchangeEnd
  | .cardDeactivated .. => h.execCardDeactivated
  | .queueStale .. => h.execQueueStale
  | .queueOpenExpired .. => h.execQueueOpenExpired
  | .hwItemWrite .. => h.execHwItemWrite
  | .scrubRead .. => h.execScrubRead
  | .bankCopyDone .. => h.execBankCopyDone
  | .hostLinkLoss => h.execHostLinkLoss
  | .hostLinkState .. => h.execHostLinkState
  | .commandFetch .. => h.execCommandFetch
  | .noticeWrite => h.execNoticeWrite
  | .irqTimer => h.execIrqTimer
  | .tokenRefill => h.execTokenRefill
  | .spanExpiry .. => h.execSpanExpiry
  | .descriptorFetch .. => h.execDescriptorFetch
  | .dmaToQueue .. => h.execDmaToQueue
  | .dmaFromQueue .. => h.execDmaFromQueue
  | .dmaWriteResponse .. => h.execDmaWriteResponse
  | .dmaTimeout .. => h.execDmaTimeout
  | .lockGrant .. => h.execLockGrant
  | .lockTimeout .. => h.execLockTimeout
  | .woundRequest .. => h.execWoundRequest
  | .benchAction .. => h.execBenchAction
  | .prepare .. => h.execPrepare
  | .vote _ _ _ _ status _ => h.execVote (_status := status)
  | .voteDeadline .. => h.execVoteDeadline
  | .decision .. => h.execDecision
  | .decisionDeadline .. => h.execDecisionDeadline
  | .outcomeReport .. => h.execOutcomeReport
  | .outcomeTimeout .. => h.execOutcomeTimeout
  | .groupUp .. => h.execGroupUp
  | .groupDown .. => h.execGroupDown
  | .benchMessage .. => h.execBenchMessage
  | .benchAck g _ _ _ => h.execBenchAck (_g := g)
  | .benchTimeout .. => h.execBenchTimeout
  | .echoCell .. => h.execEchoCell
  | .wtrExpiry .. => h.execWtrExpiry
  | .perfSecond .. => h.execPerfSecond
  | .leaseCredit .. => h.execLeaseCredit
  | .leaseStart .. => h.execLeaseStart
  | .sampleCell .. => h.execSampleCell
  | .leaseEnd _ _ status => h.execLeaseEnd (_status := status)
  | .leaseIdleFree .. => h.execLeaseIdleFree
  | .helloSend .. => h.execHelloSend
  | .helloCell .. => h.execHelloCell
  | .peerDown .. => h.execPeerDown
  | .routeAdvertise .. => h.execRouteAdvertise
  | .routeMessage .. => h.execRouteMessage
  | .routeExpiry .. => h.execRouteExpiry
  | .handoverIn .. => h.execHandoverIn
  | .faultDetect .. => h.execFaultDetect
  | .faultAutoclose .. => h.execFaultAutoclose
  | .auditStep .. => h.execAuditStep
  | .auditMismatch .. => h.execAuditMismatch
  | .lifeCounterUpdate => h.execLifeCounterUpdate
  | .ledgerProgrammed .. => h.execLedgerProgrammed
  | .ledgerClaimTimeout .. => h.execLedgerClaimTimeout
  | .ledgerDump .. => h.execLedgerDump
  | .fieldState .. => h.execFieldState
  | .inventory .. => h.execInventory
  | .stayQuiet .. => h.execStayQuiet
  | .readSingleBlock .. => h.execReadSingleBlock
  | .writeSingleBlock .. => h.execWriteSingleBlock
  | .readMultipleBlocks .. => h.execReadMultipleBlocks
  | .select .. => h.execSelect
  | .resetToReady .. => h.execResetToReady
  | .getSystemInformation .. => h.execGetSystemInformation
  | .extendedReadSingleBlock .. => h.execExtendedReadSingleBlock
  | .extendedWriteSingleBlock .. => h.execExtendedWriteSingleBlock
  | .extendedReadMultipleBlocks .. => h.execExtendedReadMultipleBlocks
  | .extendedGetSystemInformation .. => h.execExtendedGetSystemInformation
  | .unsupportedFieldCommand _ code => h.execUnsupportedFieldCommand (_code := code)
  | .noImage => h.execNoImage
  | .busMasterEnable => h.execBusMasterEnable
  | .atrFail .. => h.execAtrFail
  | .cardErrorSignal .. => h.execCardErrorSignal
  | .multiframe .. => h.execMultiframe
  | .rdiRx .. => h.execRdiRx

/-- One step keeps both memories in canonical form: a command at the front of the queue, or the core tick of an empty queue. -/
theorem step_sound (hs : s.sound = true) {t : State} (e : step s = .next t) : t.sound = true := by
  unfold step at e
  split at e
  · rename_i c rest _
    exact (Keeps.refl.exec c t e).sound (s := t) hs
  · cases e
    exact (Keeps.refl (s := s)).tickOver.sound hs

end
end Sys2Proof.Machine

namespace Sys2Proof
open Machine

/-- Settles O5: no operation a command or event is made of writes the queue. -/
theorem execLeavesTheQueue : Obligations.ExecLeavesTheQueue :=
  fun i _ t e => (Keeps.refl.exec i t e).pending

/-- Settles O4: each write of the two memories keeps their form, and every other operation leaves them. -/
theorem stepKeepsMemoriesCanonical : Obligations.StepKeepsMemoriesCanonical :=
  fun _ _ hs e => step_sound hs e

/-- Settles O1: the front command is the one `step` takes. -/
theorem stepRunsFrontCommand : Obligations.StepRunsFrontCommand :=
  fun _ _ _ => rfl

end Sys2Proof

/-! The commands NOP and READ (O8): what a completion writes in each state of the link, then the two commands. -/

namespace Sys2Proof.Machine
open Sys2Proof

/-! ## A completion (R296, R303, R307) -/

section
variable {s : State} {c : Cmd} {op st : Nat} {res : List Word}

/-- While the link is down the completion is discarded and counted (R296). -/
theorem State.complete_linkDown (h : s.linkUp = false) : s.complete c op st res = { s with host := { s.host with
    taken := s.host.taken.eraseP (·.isOf c op), discardedSince := s.host.discardedSince + 1 } } := by
  simp [State.complete, h]

theorem State.complete_quiet (h : s.linkUp = true) (hq : c.quiet = true) : s.complete c op stOK res =
    { s with host := { s.host with taken := s.host.taken.eraseP (·.isOf c op) } } := by
  simp [State.complete, h, hq]

/-- The notice buffer takes a completion whatever it holds (R21, R307). -/
theorem NoticeState.hand_completionNotice (q : NoticeState) (t m : Nat) :
    q.hand (completionNotice t m c op st res) = { q with buffer := q.buffer ++ [completionNotice t m c op st res] } := by
  simp [NoticeState.hand, Notice.buffered, completionNotice]

theorem State.complete_written (h : s.linkUp = true) (hq : c.quiet = false) : s.complete c op st res = { s with
    host := { s.host with taken := changeFirst (·.isOf c op) (fun t => { t with done := true }) s.host.taken }
    notices := { s.notices with buffer := s.notices.buffer ++ [completionNotice s.ns s.memberNo c op st res] } } := by
  simp [State.complete, h, hq, NoticeState.hand_completionNotice]

/-- Of the host link a completion writes the command slots and the count of completions discarded. -/
theorem State.complete_host : (s.complete c op st res).host = { s.host with
    taken := (s.complete c op st res).host.taken, discardedSince := (s.complete c op st res).host.discardedSince } := by
  unfold State.complete
  split
  · rfl
  · split <;> rfl

end

/-! ## READ (R306) -/

/-- READ ends in a completion, whatever it finds. -/
theorem readCmd_completes (s : State) (c : Cmd) (a n : Nat) : ∃ st res, s.readCmd c a n = s.complete c opREAD st res := by
  unfold State.readCmd
  split
  · exact ⟨_, _, rfl⟩
  · split <;> exact ⟨_, _, rfl⟩

theorem exec_read_runs {s : State} {c : Cmd} (h : s.runs c opREAD) (a n : Nat) : exec (.read c a n) s = .next (s.readCmd c a n) :=
  next_congr (command_runs h _)

theorem exec_nop_runs {s : State} {c : Cmd} (h : s.runs c opNOP) (payload : List Word) :
    exec (.nop c payload) s = .next (s.complete c opNOP stOK (payload.take 10)) :=
  next_congr (command_runs h _)

end Sys2Proof.Machine

namespace Sys2Proof
open Machine

/-- Settles O8: each command that runs ends in one completion, and a completion is written, discarded or left out by the link and QUIET. -/
theorem nopAndReadComplete : Obligations.NopAndReadComplete := by
  refine ⟨fun c payload s hrun => ?nop, fun c a n s hrun => ?read⟩
  case nop =>
    rw [exec_nop_runs hrun]
    refine ⟨fun hd => next_congr (State.complete_linkDown hd), fun hu hq => next_congr (State.complete_quiet hu hq), fun hu hq => ?_⟩
    refine ⟨_, next_congr (State.complete_written hu hq), rfl, rfl, rfl, rfl, rfl, ?_⟩
    simp [completionNotice, opNOP, stOK]
  case read =>
    rw [exec_read_runs hrun]
    refine ⟨fun hn => next_congr (if_pos hn), fun h1 h8 hm => ?_, fun h1 h8 hm => ?_, ?_⟩
    · have hn : ¬(n = 0 ∨ 8 < n) := by omega
      simp [State.readCmd, hn, hm]
    · have hn : ¬(n = 0 ∨ 8 < n) := by omega
      simp [State.readCmd, hn, hm, State.readWords]
    · obtain ⟨st, res, h⟩ := readCmd_completes s c a n
      rw [h]
      exact ⟨_, rfl, State.complete_frame .., State.complete_host⟩

end Sys2Proof

/-! DMA descriptors (O19): what leaves a ring's own record alone, when a ring starts nothing more, then the fetch, the two queue kinds,
their ends and the write-back. -/

namespace Sys2Proof.Machine
open Sys2Proof

/-! ## The ring's record under what a descriptor does (R22, R299, R301) -/

section
variable {s : State}

theorem State.sendOn_host {g dst tag hops : Nat} {retry : Bool} {c : BenchContent} :
    (s.sendOn g dst tag retry hops c).host = s.host := rfl

theorem State.peerPost_host {dst hops tag : Nat} {c : BenchContent} : (s.peerPost dst hops tag c).1.host = s.host := by
  unfold State.peerPost
  split
  · rfl
  · exact State.bump_host ..

theorem State.benchIssue_host {t dst d : Nat} {c : BenchContent} {p : BenchPurpose} : (s.benchIssue t dst c p d).host = s.host := by
  unfold State.benchIssue
  dsimp only
  split
  · exact State.peerPost_host
  · rfl

theorem State.takeTag_host {k : Nat} : (s.takeTag k).1.host = s.host := by
  unfold State.takeTag
  split
  · rfl
  · dsimp only
    split
    · exact State.bump_host ..
    · rfl

/-- A bench request that takes a freed tag changes nothing of the host link. -/
theorem State.benchHeld_host : s.benchHeld.host = s.host := by
  unfold State.benchHeld
  split
  · rfl
  · split <;> rename_i e
    · rfl
    · rw [State.benchIssue_host]
      have h := s.takeTag_host (k := tcBENCH)
      rw [e] at h
      exact h

theorem State.grantReads_rings {n : Nat} : (State.grantReads n s).host.rings = s.host.rings := by
  induction n generalizing s with
  | zero => rfl
  | succ n ih =>
    unfold State.grantReads
    split
    · rfl
    · split
      · rfl
      · exact ih

@[simp] theorem State.readEnd_rings {k : DmaRead} : (s.readEnd k).host.rings = s.host.rings := by
  unfold State.readEnd
  dsimp only
  split
  · rw [State.freeTag, State.benchHeld_host, State.grantReads_rings]
    rfl
  · rfl

/-- A read that is neither open nor held has nothing to give back. -/
theorem State.readEnd_idle {k : DmaRead} (htag : s.readTag k = none) (hheld : k ∉ s.host.heldDma) : s.readEnd k = s := by
  have hfind : s.host.reads.find? (·.1 == k) = none := by simpa [State.readTag] using htag
  have hreads : s.host.reads.filter (·.1 != k) = s.host.reads := by
    simpa [List.filter_eq_self, List.find?_eq_none] using hfind
  have hdma : s.host.heldDma.filter (· != k) = s.host.heldDma := by
    rw [List.filter_eq_self]
    intro a ha
    simpa using fun e : a = k => hheld (e ▸ ha)
  simp [State.readEnd, htag, hreads, hdma]

@[simp] theorem State.sessionError_host {r : RingRef} {n : Nat} : (s.sessionError r n).host = s.host := by
  rw [State.sessionError, State.notice_host, State.setF_host, State.setF_host, State.bump_host]

theorem State.signal_rings {v : Nat} : (s.signal v).host.rings = s.host.rings := by
  unfold State.signal
  split
  · split <;> rfl
  · rfl

@[simp] theorem State.dmaRing_setDmaRing {r : Nat} {x : RingState} : (s.setDmaRing r x).dmaRing r = x := by
  simp [State.dmaRing, State.setDmaRing]

theorem State.dmaRing_of_rings {t : State} {r : Nat} (h : t.host.rings = s.host.rings) : t.dmaRing r = s.dmaRing r := by
  rw [State.dmaRing, State.dmaRing, h]

theorem State.holdRead_rings {k : DmaRead} : (s.holdRead k).host.rings = s.host.rings := by
  by_cases h : s.host.heldDma.contains k = true
  · rw [State.holdRead, if_pos h]
  · rw [State.holdRead, if_neg h, State.bump_host]

theorem State.readIssue_rings {k : DmaRead} : (s.readIssue k).host.rings = s.host.rings := by
  unfold State.readIssue
  split
  · rfl
  · split
    · exact State.holdRead_rings
    · split
      · rfl
      · exact State.holdRead_rings

end

/-! ## When a ring starts nothing more (R315, R72) -/

section
variable {s : State} {r : Nat}

theorem State.dmaNext_run (h : (s.dmaRing r).run.isSome = true) : s.dmaNext r = s := by
  obtain ⟨d, hd⟩ := Option.isSome_iff_exists.mp h
  simp [State.dmaNext, hd]

theorem State.dmaNext_empty (h : (s.dmaRing r).fetched = []) : s.dmaNext r = s := by
  simp [State.dmaNext, h]

theorem State.dmaNext_drain (h : s.mode.mode = .DRAIN) : s.dmaNext r = s := by
  unfold State.dmaNext
  dsimp only
  split
  · exact if_pos (Or.inl h)
  · rfl

theorem foldl_dmaNext_fixed {l : List Nat} (h : s.dmaNext r = s) : l.foldl (fun a _ => a.dmaNext r) s = s := by
  induction l with
  | nil => rfl
  | cons a l ih => rw [List.foldl_cons, h, ih]

theorem State.dmaAdvance_fixed (h : s.dmaNext r = s) : s.dmaAdvance r = s := foldl_dmaNext_fixed h

/-- A ring whose next descriptor starts nothing further advances by that descriptor. -/
theorem State.dmaAdvance_once (h : (s.dmaNext r).dmaNext r = s.dmaNext r) : s.dmaAdvance r = s.dmaNext r := by
  have h9 : List.range 9 = 0 :: (List.range 9).tail := rfl
  rw [State.dmaAdvance, h9, List.foldl_cons, foldl_dmaNext_fixed h]

/-- A write-back starts nothing on a ring with nothing fetched ahead. -/
theorem State.writeDesc_fetched {d : List Word} {moved st : Nat} (h : (s.dmaRing r).fetched = []) (hr : r < 256) :
    ((s.writeDesc r d moved st).dmaRing r).fetched = [] := by
  have hval : (Fin.ofNat 256 r).val = r := Nat.mod_eq_of_lt hr
  unfold State.writeDesc
  dsimp only
  split
  · have hstop : ∀ n, (s.ringStop (dmaRef r) n).dmaRing r = { s.dmaRing r with fetched := [], stopped := false } := by
      intro n
      rw [State.ringStop, State.dmaRing, State.sessionError_host, dmaRef, State.ringOff, State.readEnd_rings, hval]
      exact State.dmaRing_setDmaRing
    rw [hstop]
  · split
    · rw [State.dmaRing_of_rings State.signal_rings]
      exact h
    · exact h

end

theorem aset_aset {α : Type} (l : List (Nat × α)) (i : Nat) (v w : α) : aset (aset l i v) i w = aset l i w := by
  induction l with
  | nil => simp [aset]
  | cons p t ih =>
    obtain ⟨k, u⟩ := p
    simp only [aset]
    split
    · simp [aset]
    · split
      · simp [aset]
      · rename_i hne hlt
        simp [aset, hne, hlt, ih]

@[simp] theorem State.setDmaRing_setDmaRing (s : State) (r : Nat) (x y : RingState) :
    (s.setDmaRing r x).setDmaRing r y = s.setDmaRing r y := by
  simp [State.setDmaRing, aset_aset]

section
variable {s u : State} {r : Nat} {x : Desc}

/-- The one descriptor fetched ahead starts (R315, R316). -/
theorem State.dmaAdvance_starts (hu : u = s.setDmaRing r { fetched := [x] }) (hmode : s.mode.mode ≠ .DRAIN)
    (hlink : s.linkUp = true) (hok : s.descRefused r x.words = none) :
    u.dmaAdvance r = if dKind x.words = 0 then (s.setDmaRing r { run := some { desc := x } }).readIssue (.run r)
      else s.setDmaRing r { run := some { desc := x } } := by
  have hl : u.linkUp = true := by rw [hu]; exact hlink
  have hm : u.mode.mode ≠ .DRAIN := by rw [hu]; exact hmode
  have ho : u.descRefused r x.words = none := by rw [hu]; exact hok
  have hring : u.dmaRing r = { fetched := [x] } := by rw [hu, State.dmaRing_setDmaRing]
  have hnext : u.dmaNext r = if dKind x.words = 0 then (s.setDmaRing r { run := some { desc := x } }).readIssue (.run r)
      else s.setDmaRing r { run := some { desc := x } } := by
    simp [State.dmaNext, hring, hl, hm, ho]
    simp [hu]
  refine (State.dmaAdvance_once ?_).trans hnext
  rw [hnext]
  apply State.dmaNext_run
  split
  · rw [State.dmaRing_of_rings State.readIssue_rings, State.dmaRing_setDmaRing]
    rfl
  · rw [State.dmaRing_setDmaRing]
    rfl

/-- The one descriptor fetched ahead is refused: written back with no byte moved (R315). -/
theorem State.dmaAdvance_refuses {st : Nat} (hu : u = s.setDmaRing r { fetched := [x] }) (hr : r < 256) (hmode : s.mode.mode ≠ .DRAIN)
    (hlink : s.linkUp = true) (hno : s.descRefused r x.words = some st) :
    u.dmaAdvance r = (s.setDmaRing r {}).writeDesc r x.words 0 st := by
  have hl : u.linkUp = true := by rw [hu]; exact hlink
  have hm : u.mode.mode ≠ .DRAIN := by rw [hu]; exact hmode
  have ho : u.descRefused r x.words = some st := by rw [hu]; exact hno
  have hring : u.dmaRing r = { fetched := [x] } := by rw [hu, State.dmaRing_setDmaRing]
  have hnext : u.dmaNext r = (s.setDmaRing r {}).writeDesc r x.words 0 st := by
    simp [State.dmaNext, hring, hl, hm, ho]
    simp [hu]
  refine (State.dmaAdvance_once ?_).trans hnext
  rw [hnext]
  exact State.dmaNext_empty (State.writeDesc_fetched (by simp) hr)

end

/-! ## The fetch (R315, R318, R320) -/

section
variable {r : RingId} {s : State} {n : Nat} (hlink : s.linkUp = true) (hbme : s.getF F.HL_LINKSTAT_BME = 1)
  (hon : s.ringOn (.dma r) = true) (hring : s.dmaRing r = {}) (hn : n = s.getF (F.HL_DRING3_CONS r))
  (havail : (s.getF (F.HL_DRING3_PROD r) + 131072 - n) % 65536 = 1) (hread : s.canRead (.fetch r))
include hlink hbme hon hring hn havail hread

/-- A fetch whose entry lies outside every window, or whose read fails, stops the ring (R318, R320). -/
theorem descriptorFetch_stops {ans : HostAnswer} (h : s.hostOk (s.ringAddr (.dma r) n) 32 false = false ∨ ans = .failed) :
    descriptorFetch r ans s = (s.afterRead.ringOff (.dma r)).sessionError (.dma r) n := by
  have hflag : s.flag F.HL_LINKSTAT_BME = true := by simp [State.flag, hbme]
  have hdev : s.getF (RingRef.dma r).dev = n := hn.symm
  have hhost : s.getF (RingRef.dma r).host = s.getF (F.HL_DRING3_PROD r) := rfl
  have hok : s.afterRead.hostOk (s.afterRead.ringAddr (.dma r) n) 32 false = s.hostOk (s.ringAddr (.dma r) n) 32 false := by
    rw [afterRead_frame]; rfl
  rw [descriptorFetch]
  simp only [hring, hdev, hhost, Option.isSome_none, List.length_nil, Nat.add_zero, Bool.false_eq_true, if_false, hlink, hflag, hon,
    havail, withRead_canRead hread, hok]
  rcases h with h | h <;> simp [h, State.ringStop]

/-- The one entry read: OWN decides whether the ring stops there or holds its descriptor ahead (R315). -/
theorem descriptorFetch_entry {b : List Byte} {d : List Word} (hd : d = (List.range 8).map (wordAt (wordsOfBytes b)))
    (hb : b.length = 32) (hok : s.hostOk (s.ringAddr (.dma r) n) 32 false = true) :
    descriptorFetch r (.data b) s = (s.afterRead.setDmaRing r (if dOwn d then { fetched := [{ index := n % 65536, words := d }] }
      else { stopped := true })).dmaAdvance r := by
  have hflag : s.flag F.HL_LINKSTAT_BME = true := by simp [State.flag, hbme]
  have hdev : s.getF (RingRef.dma r).dev = n := hn.symm
  have hhost : s.getF (RingRef.dma r).host = s.getF (F.HL_DRING3_PROD r) := rfl
  have hok' : s.afterRead.hostOk (s.afterRead.ringAddr (.dma r) n) 32 false = true := by
    rw [afterRead_frame]; exact hok
  have hlen : ceilDiv (wordsOfBytes b).length 8 = 1 := by simp [length_wordsOfBytes, hb, ceilDiv]
  rw [descriptorFetch]
  simp only [hring, hdev, hhost, Option.isSome_none, List.length_nil, Nat.add_zero, Bool.false_eq_true, if_false, hlink, hflag, hon,
    havail, withRead_canRead hread, hok', hlen]
  simp [hok', takeDescs, ← hd]
  cases dOwn d <;> simp

end

/-! ## The descriptor in progress (R316, R317, R320) -/

/-- The descriptor in progress, the link up and the device a bus master. -/
theorem State.dmaRun_up {s : State} {r : Nat} (hlink : s.linkUp = true) (hbme : s.getF F.HL_LINKSTAT_BME = 1) :
    s.dmaRun r = (s.dmaRing r).run := by
  simp [State.dmaRun, hlink, State.flag, hbme]

/-- Up to 128 words are one producer write, and its status decides whether they count as written (R285, R316). -/
theorem State.qStream_one {s : State} {q : Nat} {prod : Producer} {start : Bool} {ws : List Word} (h1 : 1 ≤ ws.length)
    (h128 : ws.length ≤ 128) : ∃ x, x = s.qProduce q prod start ws ∧
      State.qStream (ws.length / 128 + 1) s q prod start ws stOK 0 = (x.1, x.2, if x.2 = stOK then ws.length else 0) := by
  have hemp : ws.isEmpty = false := by
    rw [List.isEmpty_eq_false_iff, ← List.length_pos_iff]
    exact h1
  have hstop (k : Nat) (t : State) (st moved : Nat) :
      State.qStream k t q prod false [] st moved = (t, st, moved) := by
    cases k <;> simp [State.qStream]
  refine ⟨_, rfl, ?_⟩
  rcases hx : s.qProduce q prod start ws with ⟨t, e⟩
  by_cases hok : e = stOK <;> by_cases hmid : e = stFLUSHED_MID_ITEM <;>
    simp [State.qStream, hemp, List.take_of_length_le h128, List.drop_eq_nil_of_le h128, hx, hstop, hok, hmid]

section
variable {r : RingId} {s : State} {d : DescRun} {g : Nat} (hrun : (s.dmaRing r).run = some d)
include hrun

theorem dmaWriteResponse_idle (htag : s.readTag (.run r) = none) : dmaWriteResponse r s = s := by
  simp [dmaWriteResponse, hrun, htag]

theorem dmaTimeout_idle (htag : s.readTag (.run r) = none) : dmaTimeout r s = s := by
  simp [dmaTimeout, hrun, htag]

/-- The write response of a FROM_QUEUE item (R317). -/
theorem dmaWriteResponse_fromQueue (hkind : dKind d.desc.words = 1) (hw : d.waiting = true) (htag : s.readTag (.run r) = some g) :
    dmaWriteResponse r s = ((s.readEnd (.run r)).qRelease (dQueue d.desc.words)).dmaFinish r d.status d.moved := by
  simp [dmaWriteResponse, hrun, htag, hkind, hw]

theorem dmaTimeout_fromQueue (hkind : dKind d.desc.words = 1) (hw : d.waiting = true) (htag : s.readTag (.run r) = some g) :
    dmaTimeout r s = ((s.readEnd (.run r)).qRewind (dQueue d.desc.words)).dmaFinish r stDMA_ERROR 0 := by
  simp [dmaTimeout, hrun, htag, hkind, hw]

theorem dmaTimeout_other (hkind : dKind d.desc.words ≠ 1) (htag : s.readTag (.run r) = some g) :
    dmaTimeout r s = (s.readEnd (.run r)).dmaFinish r stDMA_ERROR 0 := by
  simp [dmaTimeout, hrun, htag, hkind]

variable (hlink : s.linkUp = true) (hbme : s.getF F.HL_LINKSTAT_BME = 1)
include hlink hbme

section
variable (hkind : dKind d.desc.words = 0) (hw : d.waiting = false) (htag : s.readTag (.run r) = some g)
include hkind hw htag

theorem dmaToQueue_failed : dmaToQueue r .failed s = (s.readEnd (.run r)).dmaFinish r stDMA_ERROR 0 := by
  simp [dmaToQueue, State.dmaRun_up hlink hbme, hrun, hkind, hw, htag]

theorem dmaToQueue_data {b : List Byte} (hlocal : dRemote d.desc.words = false) (hmod : dLen d.desc.words % 4 = 0)
    (h4 : 4 ≤ dLen d.desc.words) (h512 : dLen d.desc.words ≤ 512) (hb : b.length = dLen d.desc.words) : ∃ x,
    x = (s.readEnd (.run r)).qProduce (dQueue d.desc.words) (.ring r) (dStart d.desc.words) (wordsOfBytes b) ∧
    dmaToQueue r (.data b) s = x.1.dmaFinish r x.2 (if x.2 = stOK then dLen d.desc.words else 0) := by
  have hlen : (wordsOfBytes b).length = dLen d.desc.words / 4 := by rw [length_wordsOfBytes, hb, ceilDiv]; omega
  obtain ⟨x, hx, hstream⟩ := (s.readEnd (.run r)).qStream_one (q := dQueue d.desc.words) (prod := .ring r)
    (start := dStart d.desc.words) (ws := wordsOfBytes b) (by omega) (by omega)
  refine ⟨x, hx, ?_⟩
  simp only [dmaToQueue, State.dmaRun_up hlink hbme, hrun, hkind, hw, htag, hlocal, ← hlen, map_wordAt_range, hstream]
  rw [apply_ite (4 * ·), hlen]
  simp [Nat.mul_div_cancel' (Nat.dvd_of_mod_eq_zero hmod)]

end

section
variable {n : Nat} (hkind : dKind d.desc.words = 1) (hw : d.waiting = false) (hus : s.qUsable (dQueue d.desc.words) = true)
  (hhead : s.qHeadLost (dQueue d.desc.words) = false)
include hkind hw hus hhead

theorem dmaFromQueue_waits (hitem : s.qItemAt (dQueue d.desc.words) (s.qR (dQueue d.desc.words)) = none) : dmaFromQueue r s = s := by
  simp [dmaFromQueue, State.dmaRun_up hlink hbme, hrun, hkind, hw, hus, hhead, hitem]

variable (hitem : s.qItemAt (dQueue d.desc.words) (s.qR (dQueue d.desc.words)) = some n)
include hitem

/-- A longer item is left unread (R316). -/
theorem dmaFromQueue_short (hlen : dLen d.desc.words < 4 * n) : dmaFromQueue r s = s.dmaFinish r stBUFFER_SHORT 0 := by
  simp [dmaFromQueue, State.dmaRun_up hlink hbme, hrun, hkind, hw, hus, hhead, hitem, hlen]

/-- The item is marked and read into host memory, and the zero-length read is issued (R316, R317). -/
theorem dmaFromQueue_moves (hlen : 4 * n ≤ dLen d.desc.words) : dmaFromQueue r s =
    (((((s.qMark (dQueue d.desc.words)).qConsume (dQueue d.desc.words)).emitOut (.hostWrite (dAddr d.desc.words) (bytesOfWords
      (s.qHostWords (dQueue d.desc.words) (s.qR (dQueue d.desc.words)) n)))).setDmaRun r { d with
        moved := 4 * n, status := if s.qPoisoned (dQueue d.desc.words) (s.qR (dQueue d.desc.words)) n then stQUEUE_ECC else stOK,
        waiting := true }).readIssue (.run r)) := by
  simp [dmaFromQueue, State.dmaRun_up hlink hbme, hrun, hkind, hw, hus, hhead, hitem, Nat.not_lt.mpr hlen]

end

end

/-! ## The write-back (R315, R318) -/

/-- The descriptor in progress completes on a ring with nothing fetched ahead and no read of its own. -/
theorem State.dmaFinish_only {s y : State} {r : RingId} {d : DescRun} (st moved : Nat) (hring : s.dmaRing r = { run := some d })
    (hy : y = s.setDmaRing r {}) (htag : s.readTag (.run r) = none) (hheld : .run r ∉ s.host.heldDma) :
    s.dmaFinish r st moved = y.writeDesc r d.desc.words moved st := by
  have hend : y.readEnd (.run r) = y := State.readEnd_idle (by rw [hy]; exact htag) (by rw [hy]; exact hheld)
  have hset : s.setDmaRing r { s.dmaRing r with run := none } = y := by rw [hring, hy]
  have hnone : (y.dmaRing r).fetched = [] := by rw [hy, State.dmaRing_setDmaRing]
  rw [State.dmaFinish]
  simp only [hring] at hset ⊢
  rw [hset, hend, State.dmaAdvance_fixed (State.dmaNext_empty (State.writeDesc_fetched hnone r.isLt))]

section
variable {y : State} {r : RingId} {d : List Word} {st moved : Nat}

/-- Words 4 and 5, then word 0 with OWN clear, and the consumer count and the ring's counter follow (R315, R321). -/
theorem State.writeDesc_window {a : Nat} {z : State} (ha : a = y.ringAddr (.dma r) (y.getF (F.HL_DRING3_CONS r)))
    (hok : y.hostOk a 32 true = true) (hz : z = (State.setF { y with out := y.out ++
      [.hostWrite (a + 16) (bytesLE 4 moved ++ bytesLE 4 st), .hostWrite a (bytesLE 4 ((wordAt d 0).setField 31 31 0).toNat)] }
      (F.HL_DRING3_CONS r) (y.getF (F.HL_DRING3_CONS r) + 1)).bump (if st = stOK then F.HL_DRING4_DONE r else F.HL_DRING4_ERRORS r)) :
    y.writeDesc r d moved st = if dInt d then z.signal (z.getF (F.HL_DRING2_VECTOR r)) else z := by
  have hdev : y.getF (RingRef.dma r).dev = y.getF (F.HL_DRING3_CONS r) := rfl
  rw [State.writeDesc, dmaRef, Fin.ofNat_val_eq_self]
  simp only [hdev, ← ha, hok, Bool.not_true, Bool.false_eq_true, if_false, State.emitOut, List.append_assoc, List.singleton_append]
  rw [hz]
  rfl

/-- A ring entry outside every window stops the ring (R318). -/
theorem State.writeDesc_noWindow
    (h : y.hostOk (y.ringAddr (.dma r) (y.getF (F.HL_DRING3_CONS r))) 32 true = false) :
    y.writeDesc r d moved st = (y.ringOff (.dma r)).sessionError (.dma r) (y.getF (F.HL_DRING3_CONS r)) := by
  have hdev : y.getF (RingRef.dma r).dev = y.getF (F.HL_DRING3_CONS r) := rfl
  rw [State.writeDesc, dmaRef, Fin.ofNat_val_eq_self]
  simp only [hdev, h, Bool.not_false, if_true]
  rfl

end

end Sys2Proof.Machine

namespace Sys2Proof
open Machine

/-- Settles O19: the fetch by what its one entry is, the descriptor in progress by its kind and answer, and the write-back. -/
theorem dmaDescriptorsFromFetchToWriteBack : Obligations.DmaDescriptorsFromFetchToWriteBack := by
  refine ⟨fun r b s u n d hn hd hb hlink hbme hon hring havail hread hu => ⟨fun hok => ?entry, fun hno => ?window⟩,
    fun r b s u g n d hrun hu hlink hbme => ⟨fun hkind hw hlocal htag => ⟨?failed, fun hmod h4 h512 hb => ?data⟩, ?fromQueue,
      fun hkind hw htag => ?response, fun hkind htag => ?timeout, fun htag => ?idle⟩,
    fun r s y z d st moved a hring hy htag hheld ha => ⟨fun hok hz => ?back, fun hno => ?stop⟩⟩
  case window =>
    subst hu
    exact next_congr (descriptorFetch_stops hlink hbme hon hring hn havail hread (.inl hno))
  case entry =>
    have hent := descriptorFetch_entry hlink hbme hon hring hn havail hread hd hb hok
    have hstops := descriptorFetch_stops hlink hbme hon hring hn havail hread (ans := .failed) (.inr rfl)
    have hup : u.linkUp = true := by rw [hu, afterRead_frame]; exact hlink
    have hmode : u.mode = s.mode := by rw [hu, afterRead_frame]
    have hchk : u.descRefused r d = s.descRefused r d := by rw [hu, afterRead_frame]; rfl
    rw [← hu] at hent hstops
    clear hu
    refine ⟨fun hown hrm hnone => ⟨_, rfl, fun hk => ?_, fun hk => ?_⟩, fun st hown hrm href => ?_, fun hown hrm => ?_, fun hown => ?_,
      next_congr hstops⟩
    · rw [if_pos hown, State.dmaAdvance_starts rfl (x := ⟨n % 65536, d⟩) (by rwa [hmode]) hup (by rwa [hchk])] at hent
      exact next_congr (hent.trans (if_neg hk))
    · rw [if_pos hown, State.dmaAdvance_starts rfl (x := ⟨n % 65536, d⟩) (by rwa [hmode]) hup (by rwa [hchk])] at hent
      exact next_congr (hent.trans (if_pos hk))
    · rw [if_pos hown, State.dmaAdvance_refuses (x := ⟨n % 65536, d⟩) (st := st) rfl r.isLt (by rwa [hmode]) hup (by rwa [hchk])] at hent
      exact next_congr hent
    · rw [if_pos hown, State.dmaAdvance_fixed (State.dmaNext_drain (by simp [hmode, hrm]))] at hent
      exact next_congr hent
    · rw [hown, State.dmaAdvance_fixed (State.dmaNext_empty (by simp))] at hent
      exact next_congr hent
  case failed =>
    subst hu
    exact next_congr (dmaToQueue_failed hrun hlink hbme hkind hw htag)
  case data =>
    subst hu
    obtain ⟨x, hx, h⟩ := dmaToQueue_data hrun hlink hbme hkind hw htag hlocal hmod h4 h512 hb
    exact ⟨x, hx, next_congr h⟩
  case fromQueue =>
    intro hkind hw hus hhead
    exact ⟨fun hnone => next_congr (dmaFromQueue_waits hrun hlink hbme hkind hw hus hhead hnone), fun hsome =>
      ⟨fun hshort => next_congr (dmaFromQueue_short hrun hlink hbme hkind hw hus hhead hsome hshort), fun hfit =>
        ⟨_, _, rfl, next_congr (dmaFromQueue_moves hrun hlink hbme hkind hw hus hhead hsome hfit),
          fun hp => if_neg (by rw [hp]; exact Bool.false_ne_true)⟩⟩⟩
  case response =>
    subst hu
    exact ⟨next_congr (dmaWriteResponse_fromQueue hrun hkind hw htag), next_congr (dmaTimeout_fromQueue hrun hkind hw htag)⟩
  case timeout =>
    subst hu
    exact next_congr (dmaTimeout_other hrun hkind htag)
  case idle => exact ⟨next_congr (dmaWriteResponse_idle hrun htag), next_congr (dmaTimeout_idle hrun htag)⟩
  case back =>
    rw [State.dmaFinish_only st moved hring hy htag hheld]
    have hwrite := State.writeDesc_window (d := d.desc.words) ha hok hz
    exact ⟨fun hint => by rw [hwrite, hint, if_neg Bool.false_ne_true], fun hint => by rw [hwrite, if_pos hint]⟩
  case stop =>
    rw [State.dmaFinish_only st moved hring hy htag hheld]
    exact State.writeDesc_noWindow (ha ▸ hno)

end Sys2Proof

/-! Queue limits, hardware items, scrub reads and bank copies, and the service tag's commands (O43): what each event does in each of its
branches, then the tag's answers from the error that stops an access to a block. -/

namespace Sys2Proof.Machine
open Sys2Proof

/-! ## Limits of a queue and items of hardware producers (R286, R287, R290) -/

section
variable {q : QueueId} {s : State}

theorem queueStale_notDue (h : s.staleDue q = false) : queueStale q s = s := if_neg (by simp [h])

/-- STALE is set once: a queue that shows it has no deadline due. -/
theorem staleDue_shown (h : s.flag (F.QM_QSTAT_STALE q) = true) : s.staleDue q = false := by
  simp [State.staleDue, h]

/-- Without a deadline that a read has passed, the current one is due 2 µs after it or after the write of STALE. -/
theorem staleDue_current (hl : s.struct_.live = true) (hst : s.flag (F.QM_QSTAT_STALE q) = false) (hlate : (s.qst q).late = none) :
    s.staleDue q = (decide (s.getF (F.QM_QCFG_STALE q) ≠ 0) && s.qHasItem q && decide (max (max (s.qst q).tr (s.qst q).tn +
      10000 * s.getF (F.QM_QCFG_STALE q)) (s.qst q).staleSet + 2000 ≤ s.ns)) := by
  by_cases hD : s.getF (F.QM_QCFG_STALE q) ≠ 0 ∧ s.qHasItem q = true
  · have hat : s.qStaleAt q = _ := if_pos hD
    simp [State.staleDue, hl, hst, hlate, hat, hD, State.expired]
  · have hat : s.qStaleAt q = none := if_neg hD
    have hno : (decide (s.getF (F.QM_QCFG_STALE q) ≠ 0) && s.qHasItem q) = false := by
      simpa only [Bool.eq_false_iff, ne_eq, Bool.and_eq_true, decide_eq_true_eq] using hD
    rw [hno]
    simp only [State.staleDue, hlate, hat, Bool.and_false, Bool.false_and]

theorem queueOpenExpired_nothingOpen (h : (s.qst q).open_ = none) : queueOpenExpired q s = s := by
  simp only [queueOpenExpired, h]

/-- A hardware item, no limit, or an item not yet that old: it stays open. -/
theorem queueOpenExpired_left {o : OpenItem} (hopen : (s.qst q).open_ = some o) (h : o.producer.isHost = false ∨
    s.getF F.QM_OPENLIM_LIMIT = 0 ∨ s.ns < o.since + s.getF F.QM_OPENLIM_LIMIT * 100000 + 2000) : queueOpenExpired q s = s := by
  simp only [queueOpenExpired, hopen]
  refine if_neg fun ⟨hlim, hhost, hexp⟩ => ?_
  have ht : o.since + s.getF F.QM_OPENLIM_LIMIT * 100000 + 2000 ≤ s.ns := by simpa [State.expired] using hexp
  rcases h with h | h | h
  · simp [h] at hhost
  · exact hlim h
  · omega

/-- A queue that is not usable, has an item open or lacks room takes no hardware item. -/
theorem qHwItem_overruns {prod : Producer} {item : List Word} (h : s.qUsable q = false ∨ (s.qst q).open_.isSome = true ∨
    s.qRoom q < item.length) : s.qHwItem q prod item = (s.qOverrun q prod, false) := by
  refine if_neg ?_
  rw [State.qCanTake]
  rcases h with h | h | h
  · simp [h]
  · simp [Option.isNone_eq_false_iff.mpr h]
  · simp [Nat.not_le.mpr h]

end

/-! ## Scrub reads and bank copies (R276, R277, R278) -/

section
variable {b : PhysBank} {s : State} {n o : Nat}

theorem scrubRead_early (u : Upset) (h : s.tick < aget 0 s.queues.scrubDue b) : scrubRead b u s = s := if_pos h

/-- A word already poisoned is not counted or reported again (R277). -/
theorem poisoned_known {w : Option Nat} (h : s.queues.poison.contains (poisonKey b o w) = true) : s.poisoned b o w = s := if_pos h

/-- The end of a pass changes the scrubber's list of banks and the count of passes alone. -/
theorem scrubNext_due : aget 0 (s.scrubNext b o).queues.scrubDue b = s.tick + 256 ∧
    aget 0 (s.scrubNext b o).queues.scrubAt b = (o + 1) % 65536 := by
  unfold State.scrubNext
  dsimp only
  generalize decide (_ = 68) = whole
  cases whole
  · exact ⟨aget_aset_same .., aget_aset_same ..⟩
  · rw [if_pos rfl, State.bump_queues]
    exact ⟨aget_aset_same .., aget_aset_same ..⟩

theorem bankCopyDone_running {c : BankCopy} (h : s.queues.copies = [c]) (ht : s.tick < c.started + 65536) : bankCopyDone n s = s := by
  have hl : (s.queues.copies.map fun c => if c.isOf n && decide (c.started + 65536 ≤ s.tick) then { c with ended := true } else c) =
      s.queues.copies := by
    simp [h, Nat.not_le.mpr ht]
  rw [bankCopyDone, hl]

theorem bankCopyDone_none (h : s.queues.copies = []) : bankCopyDone n s = s := by
  rw [bankCopyDone, h, List.map_nil, ← h]

end

/-! ## The service tag: who hears a request (R385) -/

section
variable {f : FieldCmd} {s : State} {g : State}

theorem fieldCmd_heard (h : s.hears f = true) : s.fieldCmd f g = g := if_pos h

theorem fieldCmd_unheard (h : s.hears f = false) : s.fieldCmd f g = s := if_neg (by simp [h])

/-- Two subcarriers, another state than the selected one, another address, or quiet: the tag does not act. -/
theorem hears_false (h : f.twoSubcarriers = true ∨ (f.selectFlag = true ∧ s.service.tag ≠ .selected) ∨
    (f.selectFlag = false ∧ f.addressed = true ∧ f.uid ≠ tagUid) ∨
    (f.selectFlag = false ∧ f.addressed = false ∧ s.service.tag = .quiet)) : s.hears f = false := by
  rw [State.hears]
  rcases h with h | ⟨hsel, ht⟩ | ⟨hsel, ha, hu⟩ | ⟨hsel, ha, ht⟩
  · simp only [h, Bool.not_true, Bool.false_and]
  · simp only [hsel, if_pos, beq_eq_false_iff_ne.mpr ht, Bool.and_false]
  · simp only [hsel, ha, Bool.false_eq_true, if_false, if_pos, beq_eq_false_iff_ne.mpr hu, Bool.and_false]
  · simp only [hsel, ha, Bool.false_eq_true, if_false, ht, bne_self_eq_false, Bool.and_false]

theorem exec_inventory_answers (h2 : f.twoSubcarriers = false) (hq : s.service.tag ≠ .quiet) (ha : f.afi = none ∨ f.afi = some 0)
    (hm : tagUid % 2 ^ f.maskLen = f.mask % 2 ^ f.maskLen) : exec (.inventory f) s = .next (s.emitOut (.field ([0, 0] ++ bytesLE 8 tagUid))) := by
  refine next_congr (if_pos ?_)
  rcases ha with ha | ha <;> simp only [ha, h2, hm, bne_iff_ne.mpr hq, beq_self_eq_true, Bool.not_false, Bool.and_self]

theorem exec_inventory_silent (h : f.twoSubcarriers = true ∨ s.service.tag = .quiet ∨
    tagUid % 2 ^ f.maskLen ≠ f.mask % 2 ^ f.maskLen) : exec (.inventory f) s = .next s := by
  refine next_congr (if_neg ?_)
  rcases h with h | h | h
  · simp only [h, Bool.not_true, Bool.false_and, Bool.false_eq_true, not_false_iff]
  · simp only [h, bne_self_eq_false, Bool.and_false, Bool.false_and, Bool.false_eq_true, not_false_iff]
  · simp only [beq_eq_false_iff_ne.mpr h, Bool.and_false, Bool.false_eq_true, not_false_iff]

theorem exec_select_own (h2 : f.twoSubcarriers = false) (ha : f.addressed = true) (hu : f.uid = tagUid) : exec (.select f) s =
    .next (({ s with service := { s.service with tag := .selected } } : State).emitOut (.field [0])) := by
  refine next_congr ?_
  simp only [h2, ha, hu, Bool.not_true, Bool.or_self, Bool.false_eq_true, if_false, if_true]
  rfl

theorem exec_select_other (h2 : f.twoSubcarriers = false) (ha : f.addressed = true) (hu : f.uid ≠ tagUid)
    (ht : s.service.tag = .selected) : exec (.select f) s = .next { s with service := { s.service with tag := .ready } } := by
  refine next_congr ?_
  simp only [h2, ha, hu, ht, Bool.not_true, Bool.or_self, Bool.false_eq_true, if_false, if_true]

theorem exec_select_unaddressed (ha : f.addressed = false) : exec (.select f) s = .next s :=
  next_congr (if_pos (by simp [ha]))

theorem exec_stayQuiet_unaddressed (ha : f.addressed = false) : exec (.stayQuiet f) s = .next s :=
  next_congr (if_neg (by simp [ha]))

theorem exec_stayQuiet_unheard (h : s.hears f = false) : exec (.stayQuiet f) s = .next s :=
  next_congr (if_neg (by simp [h]))

theorem exec_stayQuiet_heard (h : s.hears f = true) (ha : f.addressed = true) :
    exec (.stayQuiet f) s = .next { s with service := { s.service with tag := .quiet } } :=
  next_congr (if_pos (by simp [h, ha]))

theorem exec_resetToReady_heard (h : s.hears f = true) : exec (.resetToReady f) s =
    .next (({ s with service := { s.service with tag := .ready } } : State).emitOut (.field [0])) :=
  next_congr (fieldCmd_heard h)

theorem exec_unsupportedFieldCommand_heard (h : s.hears f = true) (code : Nat) :
    exec (.unsupportedFieldCommand f code) s = .next (s.emitOut (.field [1, 0x01])) :=
  next_congr (fieldCmd_heard h)

theorem exec_getSystemInformation_heard (h : s.hears f = true) : exec (.getSystemInformation f) s =
    .next (s.emitOut (.field ([0, 0x0F] ++ bytesLE 8 tagUid ++ [0, 0, 0xFF, 31, BitVec.ofNat 8 (s.getF F.MD_ID_STEPPING)]))) :=
  next_congr (fieldCmd_heard h)

/-- All four fields asked for. -/
theorem exec_extendedGetSystemInformation_heard (h : s.hears f = true) (hf : f.fields = 15) : exec (.extendedGetSystemInformation f) s =
    .next (s.emitOut (.field ([0, 0x0F] ++ bytesLE 8 tagUid ++ [0, 0] ++ bytesLE 2 511 ++
      [31, BitVec.ofNat 8 (s.getF F.MD_ID_STEPPING)]))) := by
  refine next_congr ((fieldCmd_heard h).trans ?_)
  rw [State.fieldOut, hf]
  simp only [Nat.reducePow, Nat.reduceDiv, Nat.reduceMod, beq_self_eq_true, if_true, State.icRef, List.append_assoc, List.cons_append,
    List.nil_append]
  rfl

end

/-! ## The service tag: blocks (R385 to R388, R421) -/

section
variable {f : FieldCmd} {s : State} {b n limit seq : Nat} {d data : List Byte}

theorem blockErr_unnamed (h : limit ≤ b ∨ (80 ≤ b ∧ b < 384)) : s.blockErr b limit = some 0x10 := if_pos h

theorem blockErr_held (h : b < limit) (hb : b < 80 ∨ 384 ≤ b) (hh : s.hostHolds b = true) : s.blockErr b limit = some 0x12 :=
  (if_neg (by omega)).trans (if_pos hh)

theorem blockErr_free (h : b < limit) (hb : b < 80 ∨ 384 ≤ b) (hh : s.hostHolds b = false) : s.blockErr b limit = none :=
  (if_neg (by omega)).trans (if_neg (by simp [hh]))

theorem countLocked_one (hh : s.hostHolds b = true) : s.countLocked [b] = s.bump F.SV_CNT_LOCKED := if_pos (by simp [hh])

theorem fieldRead_badCount (h : n = 0 ∨ 8 < n) : s.fieldRead f b n limit = s.fieldErr 0x10 := if_pos h

theorem fieldRead_one_unnamed (h : limit ≤ b ∨ (80 ≤ b ∧ b < 384)) : s.fieldRead f b 1 limit = s.fieldErr 0x10 := by
  simp [State.fieldRead, List.range_succ, blockErr_unnamed h]

theorem fieldRead_one_held (h : b < limit) (hb : b < 80 ∨ 384 ≤ b) (hh : s.hostHolds b = true) :
    s.fieldRead f b 1 limit = (s.bump F.SV_CNT_LOCKED).fieldErr 0x12 := by
  simp [State.fieldRead, List.range_succ, blockErr_held h hb hh, countLocked_one hh]

/-- A read of one free block with both copies valid answers its bytes, after its security status where asked. -/
theorem fieldRead_one_free (h : b < limit) (hb : b < 80 ∨ 384 ≤ b) (hh : s.hostHolds b = false) (h0 : (s.lcopy b 0).valid = true)
    (h1 : (s.lcopy b 1).valid = true) (hl : s.lread b = some (data, seq)) :
    s.fieldRead f b 1 limit = s.emitOut (.field (0 :: ((if f.option then [0] else []) ++ data))) := by
  have hget : s.lget b = (s, some (data, seq)) := by simp [State.lget, h0, h1, boolNat, hl]
  simp [State.fieldRead, List.range_succ, blockErr_free h hb hh, State.readBlocks, hget, State.fieldOut]

theorem fieldWrite_unpowered (hm : s.mode.mode = .OFF) (hw : f.weak = true) : s.fieldWrite f b d limit = s.fieldErr 0x0F :=
  if_pos ⟨hm, hw⟩

/-- With the device powered, or the field strong enough, a write goes on to the block's own checks. -/
theorem fieldWrite_powered (hp : s.mode.mode ≠ .OFF ∨ f.weak = false) : ¬(s.mode.mode = .OFF ∧ f.weak = true) := by
  rintro ⟨hm, hw⟩
  rcases hp with hp | hp
  · exact hp hm
  · simp [hp] at hw

theorem fieldWrite_readOnly (hp : s.mode.mode ≠ .OFF ∨ f.weak = false) (hb : b < 80) :
    s.fieldWrite f b d limit = s.fieldErr 0x12 := by
  rw [State.fieldWrite, if_neg (fieldWrite_powered hp), if_pos hb]

theorem fieldWrite_unnamed (hp : s.mode.mode ≠ .OFF ∨ f.weak = false) (hb : 80 ≤ b) (h : limit ≤ b) :
    s.fieldWrite f b d limit = s.fieldErr 0x10 := by
  rw [State.fieldWrite, if_neg (fieldWrite_powered hp), if_neg (Nat.not_lt.mpr hb), blockErr_unnamed (Or.inl h)]
  exact congrArg (State.fieldErr · 0x10) (if_neg (by omega))

theorem fieldWrite_held (hp : s.mode.mode ≠ .OFF ∨ f.weak = false) (hb : 384 ≤ b) (h : b < limit) (hh : s.hostHolds b = true) :
    s.fieldWrite f b d limit = (s.bump F.SV_CNT_LOCKED).fieldErr 0x12 := by
  rw [State.fieldWrite, if_neg (fieldWrite_powered hp), if_neg (by omega), blockErr_held h (Or.inr hb) hh]
  exact congrArg (State.fieldErr · 0x12) ((if_pos rfl).trans (countLocked_one hh))

theorem fieldWrite_free (hp : s.mode.mode ≠ .OFF ∨ f.weak = false) (hb : 384 ≤ b) (h : b < limit) (hh : s.hostHolds b = false) :
    s.fieldWrite f b d limit =
      if s.flag F.SV_CFG_FIELD_WR then (s.yieldClaim b).lbegin { block := b, data := d, field := true } else s.fieldErr 0x12 := by
  rw [State.fieldWrite, if_neg (fieldWrite_powered hp), if_neg (by omega), blockErr_free h (Or.inr hb) hh]

theorem yieldClaim_none (h : s.claimNow b = none) : s.yieldClaim b = s := by simp only [State.yieldClaim, h]

theorem hostHolds_earlier (h : s.claimNow b = none) : s.hostHolds b = (s.lclaim b == some .host) := by
  rw [State.hostHolds, h, Option.isNone_none, Bool.and_true]

/-- A claim the host has made in this tick does not stop the field (R29). -/
theorem hostHolds_sameTick (h : s.claimNow b ≠ none) : s.hostHolds b = false := by
  rw [State.hostHolds, Option.isNone_eq_false_iff.mpr (Option.isSome_iff_ne_none.mpr h), Bool.and_false]

end

section
variable {f : FieldCmd} {s : State} {b n seq : Nat} {d data : List Byte}

/-- The four reads of one block, each within its numbers, answer alike. -/
theorem exec_fieldReads_free (hh : s.hears f = true) (hb : b < 80 ∨ (384 ≤ b ∧ b < 512)) (hfree : s.hostHolds b = false)
    (h0 : (s.lcopy b 0).valid = true) (h1 : (s.lcopy b 1).valid = true) (hl : s.lread b = some (data, seq)) :
    exec (.extendedReadSingleBlock f b) s = .next (s.emitOut (.field (0 :: ((if f.option then [0] else []) ++ data)))) ∧
    exec (.extendedReadMultipleBlocks f b 1) s = .next (s.emitOut (.field (0 :: ((if f.option then [0] else []) ++ data)))) ∧
    (b < 256 → exec (.readSingleBlock f b) s = .next (s.emitOut (.field (0 :: ((if f.option then [0] else []) ++ data)))) ∧
      exec (.readMultipleBlocks f b 1) s = .next (s.emitOut (.field (0 :: ((if f.option then [0] else []) ++ data))))) := by
  have hb' : b < 80 ∨ 384 ≤ b := by omega
  have hext := (fieldCmd_heard hh).trans (fieldRead_one_free (f := f) (limit := 512) (by omega) hb' hfree h0 h1 hl)
  refine ⟨next_congr hext, next_congr hext, fun h256 => ?_⟩
  have hstd := (fieldCmd_heard hh).trans (fieldRead_one_free (f := f) (limit := 256) h256 hb' hfree h0 h1 hl)
  exact ⟨next_congr hstd, next_congr hstd⟩

/-- A request the tag does not hear changes nothing. -/
theorem exec_unheard (h : s.hears f = false) (code : Nat) :
    exec (.stayQuiet f) s = .next s ∧ exec (.resetToReady f) s = .next s ∧ exec (.getSystemInformation f) s = .next s ∧
      exec (.readSingleBlock f b) s = .next s ∧ exec (.writeSingleBlock f b d) s = .next s ∧ exec (.readMultipleBlocks f b code) s = .next s ∧
      exec (.extendedReadSingleBlock f b) s = .next s ∧ exec (.extendedWriteSingleBlock f b d) s = .next s ∧
      exec (.extendedReadMultipleBlocks f b code) s = .next s ∧ exec (.extendedGetSystemInformation f) s = .next s ∧
      exec (.unsupportedFieldCommand f code) s = .next s := by
  have hun : ∀ g, s.fieldCmd f g = s := fun g => fieldCmd_unheard h
  exact ⟨exec_stayQuiet_unheard h, next_congr (hun _), next_congr (hun _), next_congr (hun _), next_congr (hun _), next_congr (hun _),
    next_congr (hun _), next_congr (hun _), next_congr (hun _), next_congr (hun _), next_congr (hun _)⟩

end

end Sys2Proof.Machine

namespace Sys2Proof
open Machine

/-- Settles O43: an equation for each branch of the queue events, and for each of the tag's commands what it hears and what stops it. -/
theorem queueLimitsScrubbersAndFieldTag : Obligations.QueueLimitsScrubbersAndFieldTag := by
  refine ⟨fun q b u hw body n o x c s => ⟨fun h => ⟨_, next_congr (queueStale_due h), rfl⟩, fun h => next_congr (queueStale_notDue h),
      staleDue_shown, staleDue_current, fun hopen => ⟨fun hh hl ht => next_congr (queueOpenExpired_discards hopen hh hl ht),
      fun h => next_congr (queueOpenExpired_left hopen h)⟩, fun h => next_congr (queueOpenExpired_nothingOpen h),
      fun hu hf ho hr => next_congr (congrArg Prod.fst (State.qHwItem_fits hu hf ho hr)),
      fun h => next_congr (congrArg Prod.fst (qHwItem_overruns h)), fun h => next_congr (scrubRead_early u h), ?scrub,
      scrubNext_due.1, scrubNext_due.2, fun hc hn => ⟨fun ht => next_congr (bankCopyDone_only hc hn ht),
      fun ht => next_congr (bankCopyDone_running hc ht)⟩, fun h => next_congr (bankCopyDone_none h)⟩,
    fun f b code d data seq s => ⟨exec_inventory_answers, exec_inventory_silent, fun h => ⟨hears_false h, exec_unheard (hears_false h) code⟩,
      fun h2 ha => ⟨exec_select_own h2 ha, exec_select_other h2 ha⟩,
      fun ha => ⟨exec_select_unaddressed ha, exec_stayQuiet_unaddressed ha⟩, ?heard⟩⟩
  case scrub =>
    intro ht ho
    obtain ⟨hnone, hsingle, hdouble⟩ := scrubRead_due ht ho
    refine ⟨next_congr hnone, next_congr hsingle, next_congr hdouble, fun hp => next_congr (hdouble.trans ?_)⟩
    rw [poisoned_known hp]
  case heard =>
    intro hh
    have hrun : ∀ {g z : State}, g = z → (Host.Outcome.next (s.fieldCmd f g) : Result) = .next z :=
      fun h => next_congr ((fieldCmd_heard hh).trans h)
    refine ⟨exec_stayQuiet_heard hh, exec_resetToReady_heard hh, exec_unsupportedFieldCommand_heard hh code,
      exec_getSystemInformation_heard hh, exec_extendedGetSystemInformation_heard hh, fun hb => ⟨?_, fun h80 hm => ?_⟩,
      fun hn => ⟨?_, ?_⟩, fun hlo hb => ?_, fun hb => ⟨fun hheld => ?_, exec_fieldReads_free hh hb⟩, ?write,
      fun h => ⟨yieldClaim_none h, hostHolds_earlier h⟩, hostHolds_sameTick, fun hm hw => ⟨?_, ?_⟩⟩
    · exact hrun (fieldRead_one_unnamed (Or.inl hb))
    · exact hrun (fieldWrite_unnamed (Or.inl hm) h80 hb)
    · exact hrun (fieldRead_badCount hn)
    · exact hrun (fieldRead_badCount hn)
    · exact hrun (fieldRead_one_unnamed (by omega))
    · exact hrun (fieldRead_one_held (by omega) (by omega) hheld)
    case write =>
      refine fun hp => ⟨fun hb => ⟨hrun (fieldWrite_readOnly hp hb), hrun (fieldWrite_readOnly hp hb)⟩,
        fun hlo hhi hheld => hrun (fieldWrite_held hp hlo hhi hheld), fun hlo hhi hfree => ⟨fun hwr => ?_, fun hwr => ?_⟩⟩
      · exact hrun ((fieldWrite_free hp hlo hhi hfree).trans (if_neg (by simp [hwr])))
      · exact hrun ((fieldWrite_free hp hlo hhi hfree).trans (if_pos hwr))
    · exact hrun (fieldWrite_unpowered hm hw)
    · exact hrun (fieldWrite_unpowered hm hw)

end Sys2Proof

/-! The service ledger (O20): reads and writes of a block, programming, claims, the life counters and the field, then the dump. -/

namespace Sys2Proof.Machine
open Sys2Proof

theorem afind_aset_other {α : Type} (l : List (Nat × α)) (i j : Nat) (v : α) (h : j ≠ i) : afind (aset l i v) j = afind l j := by
  induction l with
  | nil => simp [aset, afind, Ne.symm h]
  | cons c t ih =>
    obtain ⟨k, w⟩ := c
    unfold aset
    split
    · rename_i e
      simp [afind, e, Ne.symm h]
    · split
      · simp [afind, Ne.symm h]
      · by_cases hk : k = j
        · simp [afind, hk]
        · simpa [afind, hk] using ih

/-! ## Reading a block (R387, R390) -/

section
variable {s : State} {c : Cmd} {b : Nat}

theorem State.lcopy_of_service {t : State} (h : t.service = s.service) (b c : Nat) : t.lcopy b c = s.lcopy b c := by
  rw [State.lcopy, State.lcopy, h]

theorem State.lcopy_bump {f : Fld} {n c : Nat} : (s.bump f n).lcopy b c = s.lcopy b c := State.lcopy_of_service (State.bump_service ..) b c

/-- With both copies valid, copy 0 is taken where copy 1 is 128 to 255 ahead (R387). -/
theorem lnewer_copy0 (h0 : (s.lcopy b 0).valid = true) (h1 : (s.lcopy b 1).valid = true)
    (h : 127 < ((s.lcopy b 1).seq + 256 - (s.lcopy b 0).seq) % 256) : s.lnewer b = some 0 := by
  simp [State.lnewer, h0, h1, Nat.not_le.mpr h]

theorem readFor_both_valid {k : Nat} (h0 : (s.lcopy b 0).valid = true) (h1 : (s.lcopy b 1).valid = true) (hn : s.lnewer b = some k) :
    s.readFor c b = s.complete c opLEDGER_READ stOK (wordsOfBytes (s.lcopy b k).data ++ [BitVec.ofNat 32 (s.lcopy b k).seq]) := by
  rw [State.readFor, lget_both_valid h0 h1 hn]

/-- The one valid copy is taken, and the other counted. -/
theorem readFor_copy1_only (h0 : (s.lcopy b 0).valid = false) (h1 : (s.lcopy b 1).valid = true) :
    s.readFor c b = (s.bump F.SV_LDGSTAT_BADCOPY 1).complete c opLEDGER_READ stOK
      (wordsOfBytes (s.lcopy b 1).data ++ [BitVec.ofNat 32 (s.lcopy b 1).seq]) := by
  have hget : s.lget b = (s.bump F.SV_LDGSTAT_BADCOPY 1, some ((s.lcopy b 1).data, (s.lcopy b 1).seq)) := by
    simp [State.lget, h0, h1, boolNat, State.lcopy_bump, State.lread, State.lnewer]
  rw [State.readFor, hget]

theorem readFor_none_valid (h0 : (s.lcopy b 0).valid = false) (h1 : (s.lcopy b 1).valid = false) (hm : s.mode.mode ≠ .OFF) :
    s.readFor c b = ((s.bump F.SV_LDGSTAT_BADCOPY 2).report 9 0xA b b).1.complete c opLEDGER_READ stLEDGER_FAIL := by
  have hget : s.lget b = (((s.bump F.SV_LDGSTAT_BADCOPY 2).report 9 0xA b b).1, none) := by
    simp [State.lget, h0, h1, boolNat, State.lcopy_bump, State.lread, State.lnewer, hm]
  rw [State.readFor, hget]

theorem ledgerRead_range (h : 512 ≤ b ∨ (80 ≤ b ∧ b < 384)) : s.ledgerRead c b = s.complete c opLEDGER_READ stLEDGER_RANGE := by
  have hblock : hostBlock b = false := by
    rw [hostBlock, Bool.or_eq_false_iff, Bool.and_eq_false_iff]
    simp only [decide_eq_false_iff_not]
    omega
  simp [State.ledgerRead, hblock]

theorem ledgerRead_waits (hb : b < 80 ∨ (384 ≤ b ∧ b < 512)) (hc : s.lclaim b ≠ none) : s.ledgerRead c b = s.lwait c b none := by
  have hblock : hostBlock b = true := by simpa [hostBlock] using hb
  simp [State.ledgerRead, hblock, Option.isSome_iff_ne_none.mpr hc]

theorem exec_ledgerRead_runs (h : s.runs c opLEDGER_READ) : exec (.ledgerRead c b) s = .next (s.ledgerRead c b) :=
  next_congr (command_runs h _)

/-! ## Writing a block (R386, R388, R390) -/

variable {d : List Byte}

theorem exec_ledgerWrite_runs (h : s.runs c opLEDGER_WRITE) (ws : List Word) : exec (.ledgerWrite c b ws) s =
    .next (s.ledgerWrite c b (bytesOfWords ((List.range 8).map (wordAt ws)))) :=
  next_congr (command_runs h _)

theorem ledgerWrite_range (h : 512 ≤ b) : s.ledgerWrite c b d = s.complete c opLEDGER_WRITE stLEDGER_RANGE := if_pos h

theorem ledgerWrite_access (h : b < 384) : s.ledgerWrite c b d = s.complete c opLEDGER_WRITE stLEDGER_ACCESS :=
  (if_neg (by omega)).trans (if_pos h)

theorem ledgerWrite_waits (hlo : 384 ≤ b) (hhi : b < 512) (hc : s.lclaim b ≠ none) : s.ledgerWrite c b d = s.lwait c b (some d) := by
  simp [State.ledgerWrite, Nat.not_le.mpr hhi, Nat.not_lt.mpr hlo, Option.isSome_iff_ne_none.mpr hc]

end

/-! ## Programming (R387) -/

section
variable {s : State} {k : LedgerBlock} {op : LedgerWriteOp}

theorem State.lcopy_setLcopy {b c : Nat} {x : LedgerCopy} : (s.setLcopy b c x).lcopy b c = x := aget_aset_same ..

theorem State.noticeOn_service {code unit : Nat} {p : List (Nat × Nat)} : (s.noticeOn code unit p).service = s.service := by
  unfold State.noticeOn
  split
  · rfl
  · exact State.notice_service ..

/-- A copy that verifies: the block has its new content when the claim ends. -/
theorem programmed_content : ∃ y : State, s.programmed op = y.lend op ∧
    y.lcopy op.block (s.ltarget op.block).1 = { data := op.data, seq := (s.ltarget op.block).2, valid := true } ∧
    (∀ c, op.cmd = some c → op.field = false → y = ((s.setLcopy op.block (s.ltarget op.block).1 {
      data := op.data, seq := (s.ltarget op.block).2, valid := true }).complete c opLEDGER_WRITE stOK
        [BitVec.ofNat 32 (s.ltarget op.block).2])) := by
  refine ⟨_, rfl, (State.lcopy_of_service ?_ _ _).trans (State.lcopy_setLcopy (s := s)), fun c hc hf => ?_⟩
  · cases op.field <;> cases op.cmd
    · rfl
    · exact State.complete_service ..
    · exact State.noticeOn_service
    · exact State.noticeOn_service.trans (State.complete_service ..)
  · simp only [hc, hf, Bool.false_eq_true, if_false]

theorem ledgerProgrammed_verified (h : s.service.writes.find? (·.block == k.val) = some op) :
    ledgerProgrammed k true s = s.programmed op := by
  simp only [ledgerProgrammed, h, if_true]

/-- A first failure leaves the copy invalid, and its operation is programmed once more. -/
theorem ledgerProgrammed_again {y : State} (h : s.service.writes.find? (·.block == k.val) = some op)
    (hy : y = s.setLcopy k (s.ltarget k).1 { s.lcopy k (s.ltarget k).1 with valid := false }) (ht : op.tries = 0) :
    ledgerProgrammed k false s = { y with service := { y.service with
      writes := y.service.writes.map fun o => if o = op then { o with tries := 1 } else o } } := by
  simp only [ledgerProgrammed, h, Bool.false_eq_true, if_false, ht, if_true, hy]

theorem ledgerProgrammed_failed {y : State} (h : s.service.writes.find? (·.block == k.val) = some op)
    (hy : y = s.setLcopy k (s.ltarget k).1 { s.lcopy k (s.ltarget k).1 with valid := false }) (ht : op.tries ≠ 0) :
    ledgerProgrammed k false s = y.programFailed op := by
  simp only [ledgerProgrammed, h, Bool.false_eq_true, if_false, ht, hy]

theorem ledgerProgrammed_none (h : s.service.writes.find? (·.block == k.val) = none) (ok : Bool) : ledgerProgrammed k ok s = s := by
  simp only [ledgerProgrammed, h]

/-! ## The claim's time limit (R388) -/

theorem ledgerClaimTimeout_ends {w : LedgerWait}
    (h : s.service.waits.find? (fun x => x.block == k.val && decide (x.since + 10000000 ≤ s.ns)) = some w)
    (hc : s.lclaim k = some .field) : ledgerClaimTimeout k s =
      (({ s with service := { s.service with waits := s.service.waits.erase w } } : State).bump F.SV_CNT_BUSY).complete w.cmd
        (if w.write.isSome then opLEDGER_WRITE else opLEDGER_READ) stSV_BUSY := by
  simp only [ledgerClaimTimeout, h, hc, ne_eq, not_true_eq_false, if_false]

theorem ledgerClaimTimeout_waits (h : (∀ x ∈ s.service.waits, x.block = k.val → s.ns < x.since + 10000000) ∨ s.lclaim k ≠ some .field) :
    ledgerClaimTimeout k s = s := by
  unfold ledgerClaimTimeout
  split
  · rfl
  · rename_i w hw
    refine if_pos (h.resolve_left fun hearly => ?_)
    have hmem := hearly w (List.mem_of_find?_eq_some hw)
    have hdue := List.find?_some hw
    simp only [Bool.and_eq_true, beq_iff_eq, decide_eq_true_eq] at hdue
    have := hmem hdue.1
    omega

end

/-! ## The life counters and the field (R386, R388) -/

section
variable {s : State} {b : Nat} {d : List Byte}

/-- One of the device's own updates: what was being written still is, and no claim passes to the field. -/
theorem lupdate_keeps : (s.lupdate b d).service.lifeHour = s.service.lifeHour ∧
    (s.lupdate b d).service.faultEntries = s.service.faultEntries ∧ (∀ o ∈ s.service.writes, o ∈ (s.lupdate b d).service.writes) ∧
    (∀ j, s.lclaim j ≠ some .field → (s.lupdate b d).lclaim j ≠ some .field) := by
  unfold State.lupdate
  split
  · exact ⟨rfl, rfl, fun _ h => h, fun _ h => h⟩
  · refine ⟨rfl, rfl, fun _ h => List.mem_append_left _ h, fun j h => ?_⟩
    by_cases hj : j = b
    · rw [hj]
      exact ne_of_eq_of_ne (afind_aset_same ..) (by simp)
    · exact ne_of_eq_of_ne (afind_aset_other _ _ _ _ hj) h

theorem lupdate_begins (h : s.lclaim b ≠ some .field) : ∃ o ∈ (s.lupdate b d).service.writes, o.block = b := by
  rw [State.lupdate, if_neg h]
  exact ⟨_, List.mem_append_right _ (List.mem_singleton_self _), rfl⟩

/-- The updates of a list of life-counter blocks: each block the field does not hold is being written at their end. -/
theorem lupdates_begin {l : List Nat} {g : Nat → List Byte} {y : State} (hy : y = l.foldl (fun a i => a.lupdate (10 + i) (g i)) s) :
    y.service.lifeHour = s.service.lifeHour ∧ y.service.faultEntries = s.service.faultEntries ∧
    (∀ o ∈ s.service.writes, o ∈ y.service.writes) ∧
    (∀ n ∈ l, s.lclaim (10 + n) ≠ some .field → ∃ o ∈ y.service.writes, o.block = 10 + n) := by
  induction l generalizing s with
  | nil =>
    subst hy
    exact ⟨rfl, rfl, fun _ h => h, fun n hn => absurd hn List.not_mem_nil⟩
  | cons i l ih =>
    obtain ⟨hhour, hent, hkeep, hrest⟩ := ih hy
    obtain ⟨hhour1, hent1, hkeep1, hclaim1⟩ := lupdate_keeps (s := s) (b := 10 + i) (d := g i)
    refine ⟨hhour.trans hhour1, hent.trans hent1, fun o ho => hkeep o (hkeep1 o ho), fun n hn hc => ?_⟩
    rcases List.mem_cons.mp hn with hn | hn
    · subst hn
      obtain ⟨o, ho, hob⟩ := lupdate_begins (d := g n) hc
      exact ⟨o, hkeep o ho, hob⟩
    · exact hrest n hn (hclaim1 _ hc)

/-- The bytes of life-counter block `10 + i` after an update (R386). -/
def lifeBlock (s : State) (i : Nat) : List Byte :=
  let d := ((s.lifeCounts.map (bytesLE 4)).flatten.drop (32 * i)).take 32
  d ++ List.replicate (32 - d.length) 0

/-- The state whose life counters are written: the hour counted, the counts since the last update taken. -/
def countedHour (s : State) : State :=
  { s with service := { s.service with lifeHour := s.service.lifeHour + 1, resets := [], faultEntries := 0, retirements := [] } }

theorem lifeCounterUpdate_hour (hm : s.mode.mode ≠ .OFF)
    (ht : aonCount s.service.powered + (s.service.lifeHour + 1) * hourCycles ≤ aonCount s.tick) :
    lifeCounterUpdate s = (List.range 6).foldl (fun a i => a.lupdate (10 + i) (lifeBlock s i)) (countedHour s) := by
  have hno : ¬(s.mode.mode = .OFF ∨ aonCount s.tick < aonCount s.service.powered + (s.service.lifeHour + 1) * hourCycles) := by
    rw [not_or]
    exact ⟨hm, Nat.not_lt.mpr ht⟩
  rw [lifeCounterUpdate, if_neg hno]
  rfl

/-- At a whole hour of powered time the hour is counted, and each block the field does not hold is being written. -/
theorem lifeCounterUpdate_due (hm : s.mode.mode ≠ .OFF)
    (ht : aonCount s.service.powered + (s.service.lifeHour + 1) * hourCycles ≤ aonCount s.tick) : ∃ y : State,
    exec .lifeCounterUpdate s = .next y ∧ y.service.lifeHour = s.service.lifeHour + 1 ∧ y.service.faultEntries = 0 ∧
    (∀ n, n < 6 → s.lclaim (10 + n) ≠ some .field → ∃ o ∈ y.service.writes, o.block = 10 + n) := by
  obtain ⟨hhour, hent, -, hwrites⟩ := lupdates_begin (s := countedHour s) (lifeCounterUpdate_hour hm ht)
  exact ⟨lifeCounterUpdate s, rfl, hhour, hent, fun n hn => hwrites n (List.mem_range.mpr hn)⟩

theorem lifeCounterUpdate_early (h : s.mode.mode = .OFF ∨
    aonCount s.tick < aonCount s.service.powered + (s.service.lifeHour + 1) * hourCycles) : exec .lifeCounterUpdate s = .next s :=
  next_congr (if_pos h)

theorem State.noticeOn_powered {code unit : Nat} {p : List (Nat × Nat)} (hm : s.mode.mode ≠ .OFF) :
    s.noticeOn code unit p = s.notice code unit p := if_neg hm

end

/-! ## The device stays powered while claims end (R66, R375, R388) -/

section
variable {s : State}

theorem State.repeatRecord_mode {i : Nat} {r : FaultRec} {esc : Bool} : (s.repeatRecord i r esc).mode = s.mode := by
  unfold State.repeatRecord
  dsimp only
  rw [State.recordNotice, State.notice_mode]
  split
  · rw [State.recordToLedger, State.lupdate_frame]
    rfl
  · rfl

theorem State.newRecord_mode {i code kind unit detail : Nat} {replaced esc : Bool} :
    (s.newRecord i replaced code kind unit detail esc).mode = s.mode := by
  unfold State.newRecord
  dsimp only
  rw [State.recordNotice, State.notice_mode, State.recordToLedger, State.lupdate_frame]
  dsimp only
  split
  · exact State.bump_mode ..
  · rfl

theorem State.recordError_mode {code kind unit detail : Nat} {esc : Bool} :
    (s.recordError code kind unit detail esc).1.mode = s.mode := by
  unfold State.recordError
  split
  · exact State.repeatRecord_mode
  · split
    · exact State.newRecord_mode
    · rfl

theorem State.enterFault_powered {cause : Nat} (h : s.mode.mode ≠ .OFF) : (s.enterFault cause).mode.mode ≠ .OFF := by
  unfold State.enterFault
  split
  · exact h
  · dsimp only
    rw [State.notice_mode]
    dsimp only
    rw [State.changeMode_mode]
    exact Mode.noConfusion

theorem State.report_powered {code kind unit detail : Nat} (h : s.mode.mode ≠ .OFF) :
    (s.report code kind unit detail).1.mode.mode ≠ .OFF := by
  have hrec := s.recordError_mode (code := code) (kind := kind) (unit := unit) (detail := detail) (esc := false)
  unfold State.report
  split <;> rename_i s1 _ e <;> rw [e] at hrec
  · rwa [hrec]
  · refine State.enterFault_powered ?_
    rw [State.recordToLedger, State.lupdate_frame]
    exact ne_of_eq_of_ne (congrArg ModeState.mode hrec) h

theorem State.lget_powered {b : Nat} (h : s.mode.mode ≠ .OFF) : (s.lget b).1.mode.mode ≠ .OFF := by
  have hb : ∀ n, (if n = 0 then s else s.bump F.SV_LDGSTAT_BADCOPY n).mode.mode ≠ .OFF := by
    intro n
    split
    · exact h
    · rwa [State.bump_mode]
  unfold State.lget
  dsimp only
  split
  · exact hb _
  · rw [if_neg h]
    exact State.report_powered (hb _)

theorem State.readFor_powered {c : Cmd} {b : Nat} (h : s.mode.mode ≠ .OFF) : (s.readFor c b).mode.mode ≠ .OFF := by
  have hget := State.lget_powered (b := b) h
  unfold State.readFor
  split <;> rename_i e <;> rw [e] at hget <;> rwa [State.complete_mode]

theorem State.lserve_powered {b : Nat} {l : List LedgerWait} (h : s.mode.mode ≠ .OFF) : (s.lserve b l).mode.mode ≠ .OFF := by
  induction l generalizing s with
  | nil => exact h
  | cons w rest ih =>
    unfold State.lserve
    split
    · exact ih h
    · dsimp only
      split
      · exact h
      · exact ih (State.readFor_powered h)

theorem State.lend_powered {op : LedgerWriteOp} (h : s.mode.mode ≠ .OFF) : (s.lend op).mode.mode ≠ .OFF := by
  unfold State.lend State.lrelease
  split
  · exact h
  · exact State.lserve_powered h

theorem State.fieldGone_powered (h : s.mode.mode ≠ .OFF) : s.fieldGone.mode.mode ≠ .OFF := by
  unfold State.fieldGone
  refine List.foldlRecOn _ _ (motive := fun z : State => z.mode.mode ≠ .OFF) h fun z hz op _ => ?_
  exact State.lend_powered hz

theorem exec_fieldState_appears (h : s.mode.mode ≠ .OFF) :
    exec (.fieldState true) s = .next ((s.setF F.SV_STAT_FIELD 1).notice ncFIELD_STATE 0 [(8, 1)]) :=
  next_congr (State.noticeOn_powered (by rwa [if_pos rfl, State.setF_mode]))

theorem exec_fieldState_goes (h : s.mode.mode ≠ .OFF) :
    exec (.fieldState false) s = .next (((s.setF F.SV_STAT_FIELD 0).fieldGone).notice ncFIELD_STATE 0 [(8, 0)]) :=
  next_congr (State.noticeOn_powered (State.fieldGone_powered (by rwa [State.setF_mode])))

theorem exec_fieldState_unpowered (h : s.mode.mode = .OFF) : exec (.fieldState true) s = .next (s.setF F.SV_STAT_FIELD 1) :=
  next_congr (if_pos (by rwa [if_pos rfl, State.setF_mode]))

end

/-! ## The dump (R316, R317, R389) -/

section
variable {s u : State} {r b : Nat} {d : DescRun} {cmd : List Byte}

theorem State.setDmaRun_setDmaRun (s : State) (r : Nat) (d e : DescRun) : (s.setDmaRun r d).setDmaRun r e = s.setDmaRun r e := by
  rw [State.setDmaRun, State.setDmaRun, State.setDmaRun, State.setDmaRing_setDmaRing, State.dmaRing_setDmaRing]

theorem State.setDmaRun_run : ((s.setDmaRun r d).dmaRing r).run = some d := by
  rw [State.setDmaRun, State.dmaRing_setDmaRing]

/-- An EXCHANGE without a byte written ends at once; else it waits for the write response. -/
theorem exchangeEnd_nothing {st : Nat} (h : (s.dmaRing r).run = some d) : s.exchangeEnd r st 0 = s.dmaFinish r st 0 := by
  simp only [State.exchangeEnd, h, if_true]

theorem exchangeEnd_written {st moved : Nat} (h : (s.dmaRing r).run = some d) (hm : moved ≠ 0) : s.exchangeEnd r st moved =
    (s.setDmaRun r { d with moved := moved, status := st, waiting := true }).readIssue (.run r) := by
  simp only [State.exchangeEnd, h, hm, if_false]

theorem dumpFrom_held {addr n : Nat} (hc : s.lclaim b = some .field) (hh : d.held = none) :
    s.dumpFrom r addr d b (n + 1) = s.setDmaRun r { d with started := true, held := some s.ns } := by
  rw [State.dumpFrom, if_pos hc, hh]

theorem dumpFrom_withdrawn {addr n since : Nat} (hrun : (s.dmaRing r).run = some d) (hm : d.moved = 0) (hc : s.lclaim b = some .field)
    (hh : d.held = some since) (ht : since + 10000000 ≤ s.ns) :
    s.dumpFrom r addr d b (n + 1) = s.dmaFinish r stREQUEST_WITHDRAWN 0 := by
  rw [State.dumpFrom, if_pos hc, hh]
  dsimp only
  rw [if_pos ht, hm, exchangeEnd_nothing hrun]

/-- The dump of one reserved block: zeros, and the wait for the write response with 32 bytes moved. -/
theorem dumpFrom_reserved {addr : Nat} {x : List Byte} (hm : d.moved = 0) (hc : s.lclaim b ≠ some .field) (hb : hostBlock b = false)
    (hx : x = List.replicate 32 0) : s.dumpFrom r addr d b 1 =
      ((State.setDmaRun { s with out := s.out ++ [.hostWrite addr x] } r
        { d with moved := 32, started := true, held := none, status := stOK, waiting := true }).readIssue (.run r)) := by
  have hblock : s.dumpBlock b = (s, some x) := by rw [State.dumpBlock, hb, hx]; rfl
  rw [State.dumpFrom, if_neg hc, hblock]
  dsimp only
  rw [State.dumpFrom, hm, Nat.zero_add, Nat.add_zero, exchangeEnd_written State.setDmaRun_run (Nat.succ_ne_zero 31), State.setDmaRun_setDmaRun]
  rfl

variable (hlink : s.linkUp = true) (hbme : s.getF F.HL_LINKSTAT_BME = 1) (hrun : (s.dmaRing (s.getF F.SV_CFG_RING)).run = some d)
  (hkind : dKind d.desc.words = 2) (hw : d.waiting = false) (hr : r = s.getF F.SV_CFG_RING)
include hlink hbme hrun hkind hw hr

/-- The event of a dump that has begun goes on from the bytes moved. -/
theorem ledgerDump_continues (hs : d.started = true) : ledgerDump cmd s = s.dumpFrom r (dRespAddr d.desc.words) d
    (natLE (cmd.take 2) + d.moved / 32) (natLE ((cmd.drop 2).take 2) - d.moved / 32) := by
  simp [ledgerDump, State.dmaRun_up hlink hbme, hrun, hkind, hw, hs, hr]

/-- The first event reads the command buffer and checks its block numbers and the response buffer (R316, R319). -/
theorem ledgerDump_begins (hs : d.started = false) (hread : s.canRead (.run r)) (hu : u = s.afterRead) : ledgerDump cmd s =
    if natLE ((cmd.drop 2).take 2) = 0 ∨ 512 < natLE (cmd.take 2) + natLE ((cmd.drop 2).take 2) then u.dmaFinish r stLEDGER_RANGE 0
    else if dRespLen d.desc.words < 32 * natLE ((cmd.drop 2).take 2) then u.dmaFinish r stBUFFER_SHORT 0
    else u.dumpFrom r (dRespAddr d.desc.words) d (natLE (cmd.take 2)) (natLE ((cmd.drop 2).take 2)) := by
  subst hr
  simp [ledgerDump, State.dmaRun_up hlink hbme, hrun, hkind, hw, hs, withRead_canRead hread, ← hu]

end

end Sys2Proof.Machine

namespace Sys2Proof
open Machine

/-- Settles O20: the dump's two events, then each ledger command, programming, claim, life counter and field event in its branches. -/
theorem serviceLedger : Obligations.ServiceLedger := by
  refine ⟨fun cmd s u d b x hu hlink hbme hrun hkind hw hm hb => ?dump, fun c b n k d op w s => ?blocks⟩
  case dump =>
    have hbegin := fun hs hread => ledgerDump_begins (cmd := cmd) hlink hbme hrun hkind hw rfl hs hread hu
    have hservice : u.service = s.service := by rw [hu, afterRead_frame]
    have hclaim : u.lclaim b = s.lclaim b := by rw [State.lclaim, State.lclaim, hservice]
    have hout : u.out = s.out := by rw [hu, afterRead_frame]
    have hns : u.ns = s.ns := by rw [hu, afterRead_frame]; rfl
    rw [← hb] at hbegin
    clear hu
    refine ⟨fun hs hread h => next_congr ((hbegin hs hread).trans (if_pos h)), fun h1 h512 hs hc since hh ht => ?_,
      fun h1 h512 hs hread => ?_⟩
    · refine next_congr ((ledgerDump_continues hlink hbme hrun hkind hw rfl hs).trans ?_)
      rw [h1, hm, ← hb]
      exact dumpFrom_withdrawn hrun hm hc hh ht
    · have hok : ¬(natLE ((cmd.drop 2).take 2) = 0 ∨ 512 < b + natLE ((cmd.drop 2).take 2)) := by omega
      have hone := (hbegin hs hread).trans (if_neg hok)
      rw [h1] at hone
      refine ⟨fun hshort => next_congr (hone.trans (if_pos hshort)), fun hlen hc hh => ?_, fun hlen hc hblock hx => ?_⟩
      · refine next_congr ((hone.trans (if_neg (Nat.not_lt.mpr hlen))).trans ?_)
        rw [dumpFrom_held (hclaim.trans hc) hh, hns]
      · refine next_congr ((hone.trans (if_neg (Nat.not_lt.mpr hlen))).trans ?_)
        rw [dumpFrom_reserved hm (by rwa [hclaim]) hblock hx, hout]
  case blocks =>
    refine ⟨fun hrun => ⟨fun h => ?_, fun hb => ⟨fun hc => ?_, fun hc h0 h1 => ⟨fun hlo hhi => ?_, fun hgt => ?_⟩, fun hc h0 h1 => ?_,
        fun hc h0 h1 hm => ?_⟩⟩,
      fun hrun => ⟨fun h => ?_, fun h => ?_, fun hlo hhi hop => ⟨fun hc => ?_, fun hc => ?_⟩⟩, fun hop => ⟨?verified, ?failed⟩,
      fun h => ⟨next_congr (ledgerProgrammed_none h true), next_congr (ledgerProgrammed_none h false)⟩,
      fun hwait hc => next_congr (ledgerClaimTimeout_ends hwait hc), fun h => next_congr (ledgerClaimTimeout_waits h),
      fun hm ht hn hc => ?hour, lifeCounterUpdate_early, fun hm => ⟨exec_fieldState_appears hm, exec_fieldState_goes hm⟩,
      exec_fieldState_unpowered⟩
    · exact (exec_ledgerRead_runs hrun).trans (next_congr (ledgerRead_range h))
    · exact (exec_ledgerRead_runs hrun).trans (next_congr (ledgerRead_waits hb hc))
    · exact (exec_ledgerRead_unclaimed hrun hb hc).trans (next_congr (readFor_both_valid h0 h1 (lnewer_copy1 h0 h1 hlo hhi)))
    · exact (exec_ledgerRead_unclaimed hrun hb hc).trans (next_congr (readFor_both_valid h0 h1 (lnewer_copy0 h0 h1 hgt)))
    · exact (exec_ledgerRead_unclaimed hrun hb hc).trans (next_congr (readFor_copy1_only h0 h1))
    · exact (exec_ledgerRead_unclaimed hrun hb hc).trans (next_congr (readFor_none_valid h0 h1 hm))
    · exact (exec_ledgerWrite_runs hrun d).trans (next_congr (ledgerWrite_range h))
    · exact (exec_ledgerWrite_runs hrun d).trans (next_congr (ledgerWrite_access h))
    · subst hop
      exact (exec_ledgerWrite_runs hrun d).trans (next_congr (ledgerWrite_waits hlo hhi hc))
    · subst hop
      exact exec_ledgerWrite_unclaimed hrun hlo hhi hc d
    case verified =>
      obtain ⟨y, hy, hcopy, hcmd⟩ := programmed_content (s := s) (op := op)
      exact ⟨y, next_congr ((ledgerProgrammed_verified hop).trans hy), hcopy, hcmd c⟩
    case failed =>
      exact ⟨_, rfl, fun ht => ⟨_, next_congr (ledgerProgrammed_again hop rfl ht), rfl, rfl⟩,
        fun ht => next_congr (ledgerProgrammed_failed hop rfl ht)⟩
    case hour =>
      obtain ⟨y, hy, hhour, hent, hwrites⟩ := lifeCounterUpdate_due hm ht
      exact ⟨y, hy, hhour, hent, hwrites n hn hc⟩

end Sys2Proof

/-! Fault records, audits, the ledger and the field's events (O58): the fault events' own equations; the ledger's and the tag's are those
of O20 and O43. -/

namespace Sys2Proof.Machine
open Sys2Proof

/-! ## Fault records and audit steps (R375, R376, R381, R382) -/

section
variable {s : State}

theorem faultDetect_recorded {code : Nat} {u : UnitRef} {dt : Word} (hm : s.mode.mode ≠ .OFF) (h0 : code ≠ 0) (h9 : code ≤ 9)
    (he : escalating code u = false) : faultDetect code u dt s = (s.report code u.kind u.unit dt.toNat).1 := by
  simp [faultDetect, hm, h0, Nat.not_lt.mpr h9, he]

theorem faultAutoclose_due {ix : LogIndex} {r : FaultRec} (hr : afind s.faults.log ix = some r) (ho : r.isOpen = true)
    (hcfg : s.getF F.FT_CFG_AUTOCLOSE ≠ 0) (ht : s.closeDue r + 2000 ≤ s.ns) : faultAutoclose ix s = s.closeRecord ix := by
  simp [faultAutoclose, hr, ho, hcfg, State.expired, ht]

variable {k : SparedKind}

theorem auditStep_begins (hl : s.struct_.live = true) (hm : s.mode.mode ≠ .FAULT) (he : s.flag (F.FT_AUDCFG_EN k) = true)
    (ha : (s.audit k).active = false) : auditStep k s = (s.endPass k (s.audit k)).startStep k := by
  simp [auditStep, hl, hm, he, ha]

/-- A first mismatch with no other free spare to restart the step with is unresolved. -/
theorem auditMismatch_unresolved (ha : (s.audit k).active = true) (hs : (s.audit k).suspect = none)
    (hf : s.freeSpares k = [(s.audit k).spare]) : auditMismatch k false s =
      (s.bump (F.FT_AUDSTAT_MISMATCH k)).judgeNone k (s.audit k).live (s.audit k).spare := by
  simp [auditMismatch, ha, hs, hf]

end

end Sys2Proof.Machine

namespace Sys2Proof
open Machine

/-- Settles O58: the fault events by the equations above, the ledger's and the tag's by those of O20 and O43. -/
theorem serviceFaultAndFieldEventsComplete : Obligations.ServiceFaultAndFieldEventsComplete := by
  refine fun code b n seq u dt ix r k lb op lw cmd data wr d f s v =>
    ⟨fun hm h0 h9 he => next_congr (faultDetect_recorded hm h0 h9 he), fun hr ho hcfg ht => next_congr (faultAutoclose_due hr ho hcfg ht),
      fun hl hm he ha => next_congr (auditStep_begins hl hm he ha), fun ha hs hf => next_congr (auditMismatch_unresolved ha hs hf), ?hour,
      ?verified, fun hwait hc => next_congr (ledgerClaimTimeout_ends hwait hc), ?dump,
      fun hm => ⟨exec_fieldState_appears hm, exec_fieldState_goes hm⟩, exec_inventory_answers, exec_select_own,
      fun hh => ⟨exec_stayQuiet_heard hh, exec_resetToReady_heard hh, exec_unsupportedFieldCommand_heard hh code,
        exec_getSystemInformation_heard hh, exec_extendedGetSystemInformation_heard hh, exec_fieldReads_free hh, ?write⟩⟩
  case hour =>
    intro hm ht
    obtain ⟨y, hy, hhour, -⟩ := lifeCounterUpdate_due hm ht
    exact ⟨y, hy, hhour⟩
  case verified =>
    intro hop
    obtain ⟨y, hy, hcopy, -⟩ := programmed_content (s := s) (op := op)
    exact ⟨y, next_congr ((ledgerProgrammed_verified hop).trans hy), hcopy⟩
  case dump =>
    intro hv hlink hbme hrun hkind hw hm hs hread hn h1 h512 hlen hc hblock
    have hbegin := ledgerDump_begins (cmd := cmd) hlink hbme hrun hkind hw rfl hs hread hv
    have hclaim : v.lclaim n = s.lclaim n := by rw [hv, afterRead_frame]; rfl
    have hout : v.out = s.out := by rw [hv, afterRead_frame]
    clear hv
    rw [← hn, h1, if_neg (by omega), if_neg (Nat.not_lt.mpr hlen)] at hbegin
    refine next_congr (hbegin.trans ?_)
    rw [dumpFrom_reserved hm (by rwa [hclaim]) hblock rfl, hout]
  case write =>
    intro hp
    refine ⟨fun hb => next_congr ((fieldCmd_heard hh).trans (fieldWrite_readOnly hp hb)), fun hlo hhi hfree hwr => ?_⟩
    exact next_congr ((fieldCmd_heard hh).trans ((fieldWrite_free hp hlo hhi hfree).trans (if_pos hwr)))

end Sys2Proof

/-! The transaction commands (O45): for each command what its handle and the transaction's phase let it do, then TXN_COMMIT's ways to
end. -/

namespace Sys2Proof.Machine
open Sys2Proof

section
variable {c : Cmd} {w : List Word} {t : Txn} {s : State}

/-! ## A command that runs is its own rules (R300, R302) -/

theorem exec_txnOpen_runs (h : s.runs c opTXN_OPEN) : exec (.txnOpen c w) s = .next (s.txnOpen c w) := next_congr (command_runs h _)

theorem exec_txnAdd_runs (h : s.runs c opTXN_ADD) : exec (.txnAdd c w) s = .next (s.txnAdd c w) := next_congr (command_runs h _)

theorem exec_txnCommit_runs (h : s.runs c opTXN_COMMIT) : exec (.txnCommit c w) s = .next (s.txnCommit c w) :=
  next_congr (command_runs h _)

theorem exec_txnAbort_runs (h : s.runs c opTXN_ABORT) : exec (.txnAbort c w) s = .next (s.txnAbort c w) := next_congr (command_runs h _)

theorem exec_txnStatus_runs (h : s.runs c opTXN_STATUS) : exec (.txnStatus c w) s = .next (s.txnStatus c w) :=
  next_congr (command_runs h _)

/-! ## TXN_OPEN (R322, R323, R341) -/

/-- MEMBERS is zero, or the device is the bench master: the members pass. -/
theorem txnOpen_members_pass (h : (wordAt w 1).toNat = 0 ∨ s.benchRole = roleMASTER) :
    ¬((wordAt w 1).toNat ≠ 0 ∧ s.benchRole ≠ roleMASTER) := by
  rintro ⟨h0, hr⟩
  exact h.elim h0 hr

theorem txnOpen_notMaster (h0 : (wordAt w 1).toNat ≠ 0) (hr : s.benchRole ≠ roleMASTER) :
    s.txnOpen c w = s.complete c opTXN_OPEN stINVALID_VALUE := if_pos ⟨h0, hr⟩

theorem txnOpen_stageHeld (hm : (wordAt w 1).toNat = 0 ∨ s.benchRole = roleMASTER) (hb : (wordAt w 0).bit 14 = true)
    (hq : s.stageHolder ((wordAt w 0).field 13 0) ≠ none) : s.txnOpen c w = s.complete c opTXN_OPEN stQUEUE_BUSY :=
  (if_neg (txnOpen_members_pass hm)).trans (if_pos (by simp [hb, Option.isSome_iff_ne_none, hq]))

/-- No staging queue is named, or the one named has no holder: the staging passes. -/
theorem txnOpen_stage_passes (h : (wordAt w 0).bit 14 = false ∨ s.stageHolder ((wordAt w 0).field 13 0) = none) :
    ¬((wordAt w 0).bit 14 && (s.stageHolder ((wordAt w 0).field 13 0)).isSome) = true := by
  rcases h with h | h <;> simp [h]

theorem txnOpen_noSlot (hm : (wordAt w 1).toNat = 0 ∨ s.benchRole = roleMASTER)
    (hq : (wordAt w 0).bit 14 = false ∨ s.stageHolder ((wordAt w 0).field 13 0) = none) (h : s.ageTick.takeSlot = none) :
    s.txnOpen c w = (s.bump F.TN_STAT_REFUSED).complete c opTXN_OPEN stTXN_LIMIT := by
  rw [State.txnOpen, if_neg (txnOpen_members_pass hm), if_neg (txnOpen_stage_passes hq), h]

/-- A slot and a tag taken: the transaction is OPEN, and the command answers its handle and age. -/
theorem txnOpen_opens {s1 s2 : State} {i g tag : Nat} (hm : (wordAt w 1).toNat = 0 ∨ s.benchRole = roleMASTER)
    (hq : (wordAt w 0).bit 14 = false ∨ s.stageHolder ((wordAt w 0).field 13 0) = none)
    (h : s.ageTick.takeSlot = some (s1, i, g, tag))
    (ht : t = {
      slot := i, gen := g, tag := tag, age := { time := s1.ns, frac := s1.frac, member := s1.memberNo },
      session := c.session, members := (wordAt w 1).toNat,
      stageQ := if (wordAt w 0).bit 14 then some ((wordAt w 0).field 13 0) else none })
    (hs2 : s2 = { s1.openSlot t with txn := { (s1.openSlot t).txn with lastOpen := some (s1.ns, s1.frac) } }) :
    s.txnOpen c w = s2.complete c opTXN_OPEN stOK
      [BitVec.ofNat 32 (i + g * 512), lo32 s1.ns, hi32 s1.ns, BitVec.ofNat 32 (s1.frac + s1.memberNo * 2 ^ 16)] := by
  rw [State.txnOpen, if_neg (txnOpen_members_pass hm), if_neg (txnOpen_stage_passes hq), h, hs2, ht]
  rfl

theorem takeSlot_full (h : s.txn.pool.take 512 128 = none) : s.takeSlot = none := by rw [State.takeSlot, h]

/-! ## A handle that names none, or a part (R341) -/

/-- The handle names no transaction of this device's own. -/
def foreignHandle (s : State) (w : List Word) (t : Txn) : Prop :=
  s.txnOf (wordAt w 0).toNat = none ∨ (s.txnOf (wordAt w 0).toNat = some t ∧ t.master ≠ none)

theorem txnAdd_foreign (h : foreignHandle s w t) : s.txnAdd c w = s.complete c opTXN_ADD stNOT_OPEN := by
  rcases h with h | ⟨h, hm⟩
  · simp only [State.txnAdd, h]
  · simp only [State.txnAdd, h]
    exact if_pos (Or.inr (Option.isSome_iff_ne_none.mpr hm))

theorem txnCommit_foreign (h : foreignHandle s w t) : s.txnCommit c w = s.complete c opTXN_COMMIT stNOT_OPEN := by
  rcases h with h | ⟨h, hm⟩
  · simp only [State.txnCommit, h]
  · simp only [State.txnCommit, h]
    exact if_pos (Option.isSome_iff_ne_none.mpr hm)

theorem txnAbort_unknown (h : s.txnOf (wordAt w 0).toNat = none) : s.txnAbort c w =
    s.complete c opTXN_ABORT (if s.txn.late.contains ((wordAt w 0).toNat % 65536) then stTOO_LATE else stNOT_OPEN) := by
  simp only [State.txnAbort, h]

theorem txnAbort_part (h : s.txnOf (wordAt w 0).toNat = some t) (hm : t.master ≠ none) :
    s.txnAbort c w = s.complete c opTXN_ABORT stNOT_OPEN := by
  simp only [State.txnAbort, h]
  exact if_pos (Option.isSome_iff_ne_none.mpr hm)

theorem txnStatus_unknown (h : s.txnOf (wordAt w 0).toNat = none) : s.txnStatus c w = s.complete c opTXN_STATUS stNOT_OPEN := by
  simp only [State.txnStatus, h]

/-! ## A handle of this device's own transaction -/

variable (h : s.txnOf (wordAt w 0).toNat = some t)
include h

theorem txnStatus_words : s.txnStatus c w =
    s.complete c opTXN_STATUS stOK [t.slotWord 0, t.slotWord 1, t.slotWord 2, t.slotWord 3] := by
  simp only [State.txnStatus, h]
  rfl

theorem txnAdd_notOpen (hp : t.phase ≠ .opened) : s.txnAdd c w = s.complete c opTXN_ADD stNOT_OPEN := by
  simp only [State.txnAdd, h]
  exact if_pos (Or.inl hp)

variable (hm : t.master = none)
include hm

theorem txnAbort_tooLate (hp : (t.phase = .scheduled ∧ t.commitAt ≤ s.ns) ∨ (t.phase = .sealed ∧ t.decided ≠ none)) :
    s.txnAbort c w = s.complete c opTXN_ABORT stTOO_LATE := by
  simp only [State.txnAbort, h, hm, Option.isSome_none, Bool.false_eq_true, if_false, Option.isSome_iff_ne_none]
  exact if_pos hp

/-- A transaction that is neither in nor past its commit tick nor decided is aborted, its slot free. -/
theorem txnAbort_frees (hp : t.phase = .opened ∨ t.phase = .waiting ∨ t.phase = .reclaim ∨ (t.phase = .scheduled ∧ s.ns < t.commitAt) ∨
    (t.phase = .sealed ∧ t.decided = none)) :
    s.txnAbort c w = (s.abortTxn t { status := stTXN_ABORTED } (!t.launched)).complete c opTXN_ABORT stOK := by
  simp only [State.txnAbort, h, hm, Option.isSome_none, Bool.false_eq_true, if_false, Option.isSome_iff_ne_none]
  refine if_neg ?_
  rcases hp with hp | hp | hp | ⟨hp, ht⟩ | ⟨hp, hd⟩
  · simp [hp]
  · simp [hp]
  · simp [hp]
  · simpa [hp] using ht
  · simp [hp, hd]

theorem txnCommit_notOpen (hp : t.phase ≠ .opened) (hr : t.phase ≠ .reclaim) :
    s.txnCommit c w = s.complete c opTXN_COMMIT stNOT_OPEN := by
  simp [State.txnCommit, h, hm, hp, hr]

/-- A commit asked for while the locks are claimed again is held until they are (R331). -/
theorem txnCommit_held (hp : t.phase = .reclaim) (hw : t.wasScheduled = false) (hc : t.heldCommit = none) :
    s.txnCommit c w = s.setTxn { t with heldCommit := some (c, w) } := by
  simp [State.txnCommit, h, hm, hp, hw, hc]

variable (hp : t.phase = .opened)
include hp

theorem txnCommit_open : s.txnCommit c w = s.doCommit t c w := by
  simp only [State.txnCommit, h, hm, hp, Option.isSome_none, Bool.false_eq_true, if_false, if_true]

/-! ## TXN_ADD of an OPEN transaction (R327) -/

section
variable {a : TxnAction} (ha : a = { record := (List.range 8).map fun j => wordAt w (j + 1), item := [], index := t.actions.length })
include ha

theorem txnAdd_badForm (hf : acForm a.record = false ∨ t.memberOk (acMember a.record) = false) :
    s.txnAdd c w = s.complete c opTXN_ADD stINVALID_VALUE := by
  subst ha
  simp only [State.txnAdd, h, hm, hp, Option.isSome_none, Bool.false_eq_true, ne_eq, not_true_eq_false, or_self, if_false]
  refine if_pos ?_
  rcases hf with hf | hf <;> simp [hf]

variable (hf : acForm a.record = true) (hok : t.memberOk (acMember a.record) = true)
include hf hok

theorem txnAdd_full (h64 : 64 ≤ t.actions.length) : s.txnAdd c w = s.complete c opTXN_ADD stACTIONS_FULL := by
  subst ha
  simp only [State.txnAdd, h, hm, hp, hf, hok, Option.isSome_none, Bool.false_eq_true, ne_eq, not_true_eq_false, Bool.not_true, Bool.or_self,
    or_self, if_false]
  exact if_pos h64

/-- An action of this device without a staged item goes to its checks. -/
theorem txnAdd_checks (h64 : t.actions.length < 64) (hst : acStaged a.record = false) :
    s.txnAdd c w = s.addLocal t a false c := by
  subst ha
  simp only [State.txnAdd, h, hm, hp, hf, hok, hst, Option.isSome_none, Bool.false_eq_true, ne_eq, not_true_eq_false, Bool.not_true,
    Bool.or_self, or_self, if_false, Nat.not_le.mpr h64, Option.getD_none]

end

end

section
variable {c : Cmd} {t : Txn} {s : State} {a : TxnAction}

theorem addLocal_claims (hr : t.remote a = false) (hok : s.checkAction a false (some c.session.val) = (stOK, a)) :
    s.addLocal t a false c = s.claimAction t a (.host c) := by
  simp only [State.addLocal, hr, hok, Bool.false_eq_true, if_false, if_true]

theorem addLocal_refused (hr : t.remote a = false) (hno : (s.checkAction a false (some c.session.val)).1 ≠ stOK)
    (ht : acType a.record ≠ acAMEND) :
    s.addLocal t a false c = s.complete c opTXN_ADD (s.checkAction a false (some c.session.val)).1 := by
  simp only [State.addLocal, hr, hno, Bool.false_eq_true, if_false, State.countAmend, ht, false_and]

/-! ## TXN_COMMIT of an OPEN transaction (R328, R333, R338) -/

variable {w : List Word} {t1 : Txn} {s1 : State}

theorem doCommit_noTime (hm : t.members ≠ 0) (hb : (wordAt w 1).bit 0 = false) :
    s.doCommit t c w = s.complete c opTXN_COMMIT stINVALID_VALUE := if_pos ⟨hm, by simp [hb]⟩

theorem doCommit_tooSoon (hm : t.members ≠ 0) (hb : (wordAt w 1).bit 0 = true)
    (ht : (wordAt w 2).toNat + (wordAt w 3).toNat * 2 ^ 32 < s.ns + 200000) :
    s.doCommit t c w = s.complete c opTXN_COMMIT stCOMMIT_TOO_SOON :=
  (if_neg (by simp [hb])).trans (if_pos ⟨hm, ht⟩)

theorem doCommit_noRoom (hm : t.members = 0) (hres : s.reserveFor t = none) :
    s.doCommit t c w = s.complete c opTXN_COMMIT stQUEUE_FULL := by
  rw [State.doCommit, if_neg fun x => x.1 hm, if_neg fun x => x.1 hm, hres]

/-- A local commit with its room reserved is made now or put into the launch queue. -/
theorem doCommit_local (hm : t.members = 0) (hres : s.reserveFor t = some (s1, t1)) : s.doCommit t c w =
    if (wordAt w 1).bit 0 then s1.commitLocalAt t1 c ((wordAt w 2).toNat + (wordAt w 3).toNat * 2 ^ 32) else s1.commitNow t1 c := by
  rw [State.doCommit, if_neg fun x => x.1 hm, if_neg fun x => x.1 hm, hres]
  exact if_neg fun x => x hm

theorem doCommit_bench (hm : t.members ≠ 0) (hb : (wordAt w 1).bit 0 = true)
    (ht : s.ns + 200000 ≤ (wordAt w 2).toNat + (wordAt w 3).toNat * 2 ^ 32) (hres : s.reserveFor t = some (s1, t1)) :
    s.doCommit t c w = s1.commitBench t1 c ((wordAt w 2).toNat + (wordAt w 3).toNat * 2 ^ 32) := by
  rw [State.doCommit, if_neg (by simp [hb]), if_neg fun x => Nat.not_lt.mpr ht x.2, hres]
  exact if_pos hm

theorem commitNow_applies (h : s.commitChecks { t with commitAt := s.ns } s t.here = none) : s.commitNow t c =
    ((s.applyAll { t with commitAt := s.ns }).freeTxn { t with commitAt := s.ns }).complete c opTXN_COMMIT stOK := by
  rw [State.commitNow, show ({ t with commitAt := s.ns } : Txn).here = t.here from rfl, h]

theorem commitNow_aborts {f : CommitFail} (h : s.commitChecks { t with commitAt := s.ns } s t.here = some f) : s.commitNow t c =
    (s.abortCommit { t with commitAt := s.ns } f true).complete c opTXN_COMMIT f.status := by
  rw [State.commitNow, show ({ t with commitAt := s.ns } : Txn).here = t.here from rfl, h]

variable {s2 : State} {st h time : Nat}

theorem commitLocalAt_scheduled (hi : s.lqInsert (t.commitEntry time) (.txn t.slot) = (s2, st, h)) (hst : st = stOK) :
    s.commitLocalAt t c time = (s2.setTxn { t with phase := .scheduled, entry := some h, commitAt := time }).complete c opTXN_COMMIT stOK
      [BitVec.ofNat 32 h] := by
  rw [State.commitLocalAt, hi]
  exact if_pos hst

theorem commitLocalAt_refused (hi : s.lqInsert (t.commitEntry time) (.txn t.slot) = (s2, st, h)) (hst : st ≠ stOK) :
    s.commitLocalAt t c time = ((s2.unreserve t).setTxn { t with phase := .opened, reserved := [] }).complete c opTXN_COMMIT st := by
  rw [State.commitLocalAt, hi]
  exact if_neg hst

end

end Sys2Proof.Machine

namespace Sys2Proof
open Machine

/-- Settles O45: TXN_OPEN, then each command by what its handle names and by the transaction's phase. -/
theorem transactionCommands : Obligations.TransactionCommands := by
  refine fun c w t t1 i g tag st h p a f s s1 s2 => ⟨fun hrun => ⟨?notMaster, ?opening⟩, fun hf => ⟨?addForeign, ?commitForeign⟩,
    fun hn hrun => ⟨?abortLate, ?abortNone⟩, fun ht hm hrun => (exec_txnAbort_runs hrun).trans (next_congr (txnAbort_part ht hm)),
    fun ht hm => ⟨?status, ?abort, ?notOpen, ?held, ?add, ?commit⟩,
    fun hn hrun => (exec_txnStatus_runs hrun).trans (next_congr (txnStatus_unknown hn)),
    fun hp hpool => takeSlot_full (hpool ▸ hp)⟩
  case notMaster => exact fun h0 hr => (exec_txnOpen_runs hrun).trans (next_congr (txnOpen_notMaster h0 hr))
  case opening =>
    rw [exec_txnOpen_runs hrun]
    exact fun hm => ⟨fun hb hq => next_congr (txnOpen_stageHeld hm hb hq),
      fun hq => ⟨fun hno => next_congr (txnOpen_noSlot hm hq hno),
        fun htake ht hs2 => next_congr (txnOpen_opens hm hq htake ht hs2)⟩⟩
  case addForeign => exact fun hrun => (exec_txnAdd_runs hrun).trans (next_congr (txnAdd_foreign hf))
  case commitForeign => exact fun hrun => (exec_txnCommit_runs hrun).trans (next_congr (txnCommit_foreign hf))
  case abortLate =>
    intro hl
    rw [exec_txnAbort_runs hrun, txnAbort_unknown hn, if_pos hl]
  case abortNone =>
    intro hl
    rw [exec_txnAbort_runs hrun, txnAbort_unknown hn, hl, if_neg Bool.false_ne_true]
  case status => exact fun hrun => (exec_txnStatus_runs hrun).trans (next_congr (txnStatus_words ht))
  case abort =>
    exact fun hrun => ⟨fun hp => (exec_txnAbort_runs hrun).trans (next_congr (txnAbort_tooLate ht hm hp)),
      fun hp => (exec_txnAbort_runs hrun).trans (next_congr (txnAbort_frees ht hm hp))⟩
  case notOpen =>
    intro hp
    have hopen : t.phase ≠ .opened := by rcases hp with hp | hp | hp <;> simp [hp]
    have hreclaim : t.phase ≠ .reclaim := by rcases hp with hp | hp | hp <;> simp [hp]
    exact ⟨fun hrun => (exec_txnAdd_runs hrun).trans (next_congr (txnAdd_notOpen ht hopen)),
      fun hrun => (exec_txnCommit_runs hrun).trans (next_congr (txnCommit_notOpen ht hm hopen hreclaim))⟩
  case held =>
    exact fun hp hw hc hrun => (exec_txnCommit_runs hrun).trans (next_congr (txnCommit_held ht hm hp hw hc))
  case add =>
    intro hp hrun ha
    rw [exec_txnAdd_runs hrun]
    refine ⟨fun hbad => next_congr (txnAdd_badForm ht hm hp ha hbad), fun hf hok => ⟨fun h64 => next_congr (txnAdd_full ht hm hp ha hf hok h64),
      fun h64 hst hr => ?_⟩⟩
    rw [txnAdd_checks ht hm hp ha hf hok h64 hst]
    exact ⟨fun hc => next_congr (addLocal_claims hr hc), fun hno hty => next_congr (addLocal_refused hr hno hty)⟩
  case commit =>
    intro hp hrun
    rw [exec_txnCommit_runs hrun, txnCommit_open ht hm hp]
    refine ⟨fun h0 hb => next_congr (doCommit_noTime h0 hb), fun h0 hb hsoon => next_congr (doCommit_tooSoon h0 hb hsoon),
      fun h0 hres => next_congr (doCommit_noRoom h0 hres), fun h0 hb hres => ?now, fun h0 hb hat hres => next_congr (doCommit_bench h0 hb hat hres),
      fun h0 hb hres hi => ?scheduled⟩
    case now =>
      rw [doCommit_local h0 hres, hb, if_neg Bool.false_ne_true]
      exact ⟨fun hok => next_congr (commitNow_applies hok), fun hno => next_congr (commitNow_aborts hno)⟩
    case scheduled =>
      rw [doCommit_local h0 hres, if_pos hb]
      exact ⟨fun hst => next_congr (commitLocalAt_scheduled hi hst), fun hst => next_congr (commitLocalAt_refused hi hst)⟩

end Sys2Proof

/-! The events of transactions (O59): locks granted and timed out, the messages a member and a master act on, and the deadlines. -/

namespace Sys2Proof.Machine
open Sys2Proof

/-! ## What an ACK leaves as it was (R357) -/

section
variable {s : State} {src tag st : Nat} {words : List Word}

theorem State.benchPost_getF {dst : Nat} {c : BenchContent} {f : Fld} (h : f.addr ≠ F.BN_REQSTAT_UNROUTABLE.addr) :
    (s.benchPost dst c).getF f = s.getF f := by
  unfold State.benchPost
  dsimp only
  split
  · exact State.getF_setF_other _ _ _ _ h
  · rfl

theorem State.benchPost_ns {dst : Nat} {c : BenchContent} : (s.benchPost dst c).ns = s.ns := by
  unfold State.benchPost
  dsimp only
  split
  · rw [State.ns, State.ns, State.bump_dt]
  · rfl

theorem State.benchReply_ns : (s.benchReply src tag st words).ns = s.ns := State.benchPost_ns

theorem State.benchReply_guard : (s.benchReply src tag st words).getF F.TN_BCFG_GUARD = s.getF F.TN_BCFG_GUARD :=
  State.benchPost_getF (by decide)

end

/-! ## Locks (R329, R331) -/

section
variable {i : TxnSlot} {t : Txn} {s : State} {a : TxnAction} {c : Cmd} {k : Nat} {l : Lock} (h : s.txnAt i = some t)
include h

section
variable (hp : t.phase = .waiting) (ha : t.adding = some (a, .host c)) (hw : t.wants = some (k, l))
include hp ha hw

theorem lockGrant_adds (hfree : s.holders t l = []) (hold : s.olderWaits t l = false) :
    lockGrant i k s = (s.addAction t a).complete c opTXN_ADD stOK [BitVec.ofNat 32 a.index] := by
  simp only [lockGrant, h, hp, ha, hw, hfree, hold, ne_eq, not_true_eq_false, List.isEmpty_nil, Bool.not_true, Bool.false_eq_true, or_self,
    if_false]
  rfl

theorem lockTimeout_ends (hlim : s.getF F.TN_CTL_WAIT_LIMIT ≠ 0) (ht : t.since + s.getF F.TN_CTL_WAIT_LIMIT * 1000000 < s.ns) :
    lockTimeout i k s = (s.setTxn { t with phase := .opened, adding := none }).complete c opTXN_ADD stLOCK_TIMEOUT := by
  have hno : ¬(s.getF F.TN_CTL_WAIT_LIMIT * 1000000 = 0 ∨ s.ns ≤ t.since + s.getF F.TN_CTL_WAIT_LIMIT * 1000000 ∨
      (t.wants.map (·.1)) ≠ some k) := by
    simp only [hw, Option.map_some, ne_eq, not_true_eq_false, or_false]
    omega
  simp only [lockTimeout, h, if_neg hno, hp, ha]
  rfl

end

/-! ## Deadlines (R339, R340) -/

theorem voteExpiry_missing (hp : t.phase = .sealed) (hm : t.master = none) (hd : t.decided = none)
    (hv : s.expired (s.voteDeadline t) = true) : ∃ n : Nat,
    voteExpiry i s = s.abortTxn t { status := stVOTE_MISSING, member := n } false := by
  simp only [voteExpiry, h]
  exact ⟨_, if_pos ⟨hp, hm, hd, hv⟩⟩

theorem decisionDeadline_missing {x : Nat × Nat} (hm : t.master = some x) (hp : t.prepared = true) (hd : t.decided = none)
    (ht : t.commitAt - s.getF F.TN_BCFG_GUARD * 1000 + 2000 ≤ s.ns) :
    decisionDeadline i s = s.abortTxn t { status := stDECISION_MISSING } false := by
  simp only [decisionDeadline, h]
  exact if_pos ⟨by rw [hm]; rfl, hp, hd, by simpa [State.expired] using ht⟩

theorem outcomeTimeout_ends (hw : s.awaiting t = true) (hown : t.reports.any (·.1 == s.memberNo) = true)
    (ht : t.commitAt + 1002000 ≤ s.ns) : outcomeTimeout i s = s.benchDone t := by
  simp only [outcomeTimeout, h]
  exact if_pos ⟨hw, by simpa [State.expired, Nat.add_assoc] using ht, hown⟩

end

/-! ## What a member does for its master (R337 to R339) -/

section
variable {s s1 : State} {j : Member} {tag : OpTag} {t : Txn} {h time : Nat} (hrole : s.benchRole = roleMEMBER) (hj : j.val = 0)
  (hnew : s.benchSeen j tag = none)
include hrole hj hnew

theorem masterAsks_new : s.masterAsks j tag = none := by
  have hno : ¬(s.benchRole ≠ roleMEMBER ∨ j.val ≠ 0) := by simp [hrole, hj]
  rw [State.masterAsks, if_neg hno, hnew, Option.map_none]

/-- An action without a staged item that passes its checks claims its lock. -/
theorem benchAction_claims {b : BenchAction} {a : TxnAction}
    (hfresh : ∀ x ∈ s.txn.slots, (x.adding.map (·.2)) ≠ some (.bench j tag)) (hpart : s.partWith j b.handle = some t)
    (hp : t.phase = .opened) (hf : acForm b.record = true) (h64 : t.actions.length < 64) (hst : acStaged b.record = false)
    (hok : s.checkAction { record := b.record, item := [], index := b.index } false none = (stOK, a)) :
    benchAction j tag b s = s.claimAction t a (.bench j tag) := by
  have hany : (s.txn.slots.any fun t => (t.adding.map (·.2)) == some (.bench j tag)) = false := by
    rw [List.any_eq_false]
    exact fun x hx => by simpa only [beq_iff_eq] using hfresh x hx
  have hstage : s.canStage [] = false := by simp [State.canStage]
  simp only [benchAction, masterAsks_new hrole hj hnew, hany, hpart, Bool.false_eq_true, if_false]
  simp only [State.partAction, hp, hf, hst, hstage, hok, Nat.not_le.mpr h64, ne_eq, not_true_eq_false, Bool.not_true, Bool.false_eq_true,
    if_false]
  rfl

variable (hpart : s.partWith j h = some t) (hs1 : s1 = s.benchReply j tag stOK [])
include hpart hs1

theorem prepare_votes (hp : t.phase = .opened) : prepare j tag h time s = s1.prepareVote t h time := by
  simp only [prepare, masterAsks_new hrole hj hnew, hpart, hp, if_true, hs1]

theorem decision_commits (ht : s1.ns + s1.getF F.TN_BCFG_GUARD * 1000 ≤ t.commitAt) :
    decision j tag h true s = s1.setTxn { t with decided := some true } := by
  rw [hs1, State.benchReply_ns, State.benchReply_guard] at ht
  simp only [decision, masterAsks_new hrole hj hnew, hpart, if_true, ← hs1]
  exact if_neg (Nat.not_lt.mpr ht)

theorem decision_aborts : decision j tag h false s = s1.abortTxn t { status := stTXN_ABORTED } false := by
  simp only [decision, masterAsks_new hrole hj hnew, hpart, Bool.false_eq_true, if_false, ← hs1]

end

/-! ## What the master does for a member (R332, R339, R340) -/

section
variable {s s1 : State} {j : Member} {tag : OpTag} {t t1 : Txn} {h st ix : Nat}

section
variable (hrole : s.benchRole = roleMASTER) (hnew : s.benchSeen j tag = none)
include hrole hnew

theorem memberAsks_new : s.memberAsks j tag = none := by
  simp [State.memberAsks, hrole, hnew]

theorem woundRequest_wounds {i : TxnSlot} {wn : Nat} (ht : s.txnAt i = some t) (hm : t.master = none) (hw : t.woundable = true) :
    woundRequest j tag i wn s = (s.woundTxn t wn s.memberNo).benchReply j tag stOK [] := by
  simp only [woundRequest, memberAsks_new hrole hnew, ht, hm, hw, Option.isNone_none, Bool.and_self, if_true]

theorem vote_counted (hs1 : s1 = s.benchReply j tag stOK []) (yes : Bool) : vote j tag h yes ix s = s1.countVote j h yes ix := by
  simp only [vote, memberAsks_new hrole hnew, hs1]

theorem outcomeReport_counted (hs1 : s1 = s.benchReply j tag stOK []) : outcomeReport j tag h st s = s1.countReport j h st := by
  simp only [outcomeReport, memberAsks_new hrole hnew, hs1]

end

theorem countVote_yes (ht : s.undecided h = some t) (hj : (s.otherMembers t).contains j.val = true) (hv : s.ns ≤ s.voteDeadline t) :
    s.countVote j h true ix = s.decideTxn { t with votes := t.votes ++ [j.val] } := by
  simp only [State.countVote, ht, hj, Nat.not_lt.mpr hv, Bool.not_true, Bool.false_eq_true, if_false]

theorem countVote_no (ht : s.undecided h = some t) (hj : (s.otherMembers t).contains j.val = true) :
    s.countVote j h false ix = s.abortTxn t { status := stVOTE_NO, index := ix, member := j } false := by
  simp only [State.countVote, ht, hj, Bool.not_true, Bool.not_false, Bool.false_eq_true, if_false, if_true]

theorem countReport_noted (ht : s.txnOf h = some t) (hw : s.awaiting t = true) (hj : (s.otherMembers t).contains j.val = true)
    (hnot : t.reports.any (·.1 == j.val) = false) (ht1 : t1 = { t with reports := t.reports ++ [(j.val, st)] }) :
    s.countReport j h st = if s.allReported t1 then s.benchDone t1 else s.setTxn t1 := by
  simp only [State.countReport, ht, hw, hj, hnot, ht1, Bool.not_true, Bool.false_eq_true, or_self, if_false]

end

end Sys2Proof.Machine

namespace Sys2Proof
open Machine

/-- Settles O59: each event by its own equation, a request's first by who asks and that it is new. -/
theorem transactionEventsComplete : Obligations.TransactionEventsComplete := by
  refine fun i k h m hh time st ix wn c j tag b l a t t1 s s1 => ⟨fun ht hp ha hw => ⟨?granted, ?timedOut⟩,
    fun hrole hj hnew => ⟨?action, fun hpart hs1 => ⟨?prepares, ?commits, ?aborts⟩⟩,
    fun hrole hnew => ⟨?wounds, fun hs1 => ⟨fun ht hj => ⟨?yes, ?no⟩, fun ht hw hj hnot ht1 => ⟨?last, ?another⟩⟩⟩,
    fun ht => ⟨?votes, ?missing, ?outcome⟩⟩
  case granted => exact fun hfree hold => next_congr (lockGrant_adds ht hp ha hw hfree hold)
  case timedOut => exact fun hlim hs => next_congr (lockTimeout_ends ht hp ha hw hlim hs)
  case action =>
    exact fun hfresh hpart hp hf h64 hst hok => next_congr (benchAction_claims hrole hj hnew hfresh hpart hp hf h64 hst hok)
  case prepares => exact fun hp => next_congr (prepare_votes hrole hj hnew hpart hs1 hp)
  case commits => exact fun hby => next_congr (decision_commits hrole hj hnew hpart hs1 hby)
  case aborts => exact next_congr (decision_aborts hrole hj hnew hpart hs1)
  case wounds => exact fun ht hm hw => next_congr (woundRequest_wounds hrole hnew ht hm hw)
  case yes => exact fun hv => next_congr ((vote_counted hrole hnew hs1 true).trans (countVote_yes ht hj hv))
  case no => exact next_congr ((vote_counted hrole hnew hs1 false).trans (countVote_no ht hj))
  case last =>
    exact fun hall => next_congr ((outcomeReport_counted hrole hnew hs1).trans ((countReport_noted ht hw hj hnot ht1).trans (if_pos hall)))
  case another =>
    exact fun hall => next_congr ((outcomeReport_counted hrole hnew hs1).trans
      ((countReport_noted ht hw hj hnot ht1).trans (if_neg (by simp [hall]))))
  case votes =>
    intro hp hm hd hv
    obtain ⟨n, hn⟩ := voteExpiry_missing ht hp hm hd hv
    exact ⟨n, next_congr hn⟩
  case missing => exact fun hm hp hd hby => next_congr (decisionDeadline_missing ht hm hp hd hby)
  case outcome => exact fun hw hown hby => next_congr (outcomeTimeout_ends ht hw hown hby)

end Sys2Proof

/-! Lane groups, frames, cells and performance; bench messages and lent demodulators (O47): an equation for each branch of each event. -/

namespace Sys2Proof.Machine
open Sys2Proof

/-! ## A group comes up and goes down (R346, R351, R360) -/

section
variable {g : Group} {b : Neighbour} {s x y : State}

theorem groupUpEvent_disabled (h : s.groupEnabled g = false) : groupUpEvent g b s = s := if_pos (by simp [h])

theorem groupMismatch_shown (h : s.flag (F.BN_GRPSTAT_MISMATCH g) = true) : s.groupMismatch g b = s.setGroup g 1 5 := if_pos h

theorem groupMismatch_first (h : s.flag (F.BN_GRPSTAT_MISMATCH g) = false) : s.groupMismatch g b =
    ((s.setF (F.BN_GRPSTAT_MISMATCH g) 1).notice ncBENCH_MISMATCH g [(8, g), (8, b.member), (16, b.prefix_), (8, b.nmemb)]).setGroup g 1 5 :=
  if_neg (by simp [h])

/-- The neighbour of a peer port is not one a chain expects. -/
theorem matches_peer (hg : 2 ≤ g.val) : s.matches g b = true := by simp [State.matches, hg]

section
variable (he : s.groupEnabled g = true) (hx : x = s.groupLocked g b)
include he hx

theorem groupUpEvent_mismatch (hm : x.matches g b = false) : groupUpEvent g b s = x.groupMismatch g b := by
  simp [groupUpEvent, he, ← hx, hm]

/-- The neighbour is the one expected: skew, then lane count, decide. -/
theorem groupUpEvent_matching (hm : x.matches g b = true) (hy : y = if g.val < 2 then x.setF (F.BN_GRPSTAT_MISMATCH g) 0 else x) :
    groupUpEvent g b s = if 50 < b.skew then y.setGroup g 1 2 else if b.lanes ≠ y.groupLanes g then y.setGroup g 1 4
      else ((y.setGroup g 2 0).takeRdi g b.rdi).takeMap g b.linkmap.toNat := by
  simp only [groupUpEvent, he, ← hx, hm, ← hy, Bool.not_true, Bool.false_eq_true, if_false]

theorem groupUpEvent_peer_up (hg : 2 ≤ g.val) (hs : b.skew ≤ 50) (hl : b.lanes = x.groupLanes g) :
    groupUpEvent g b s = ((x.setGroup g 2 0).takeRdi g b.rdi).takeMap g b.linkmap.toNat := by
  rw [groupUpEvent_matching he hx (matches_peer hg) (if_neg (Nat.not_lt.mpr hg)).symm, if_neg (Nat.not_lt.mpr hs), if_neg (not_not.mpr hl)]

end

variable {lane lost : Nat} {why : LaneFail} (hx : x = s.laneState g lane why.left)
include hx

theorem groupDown_notUp (hu : x.groupUp g = false) : groupDown g lane why lost s = x := by
  simp [groupDown, ← hx, hu]

theorem groupDown_bench (hu : x.groupUp g = true) (hg : g.val < 2) :
    groupDown g lane why lost s = (x.bump (F.BN_GRPERR_MSGLOST g) lost).setGroup g 1 why.cond := by
  simp only [groupDown, ← hx, hu, hg, Bool.not_true, Bool.false_eq_true, if_false, if_true]

theorem groupDown_peer (hu : x.groupUp g = true) (hg : 2 ≤ g.val) : groupDown g lane why lost s = x.setGroup g 1 why.cond := by
  simp only [groupDown, ← hx, hu, Nat.not_lt.mpr hg, Bool.not_true, Bool.false_eq_true, if_false]

end

/-! ## Frames received and sent (R349, R350, R355, R358) -/

section
variable {g : Group} {lane k mfi : Nat} {rdi err : Bool} {map : Word} {s x y : State}

theorem rdiRx_down (h : s.getF (grpState g) = 0) : rdiRx g lane rdi map err k s = s := if_pos h

/-- A good frame of a group that is UP: its RDI and LINKMAP are taken. -/
theorem rdiRx_up (h : s.getF (grpState g) = 2) (hy : y = if g.val < 2 then s.bump (F.BN_GRPERR_CELLERR g) k else s)
    (hu : y.groupUp g = true) : rdiRx g lane rdi map false k s = (y.takeRdi g rdi).takeMap g map.toNat := by
  have h0 : ¬s.getF (grpState g) = 0 := by simp [h]
  simp only [rdiRx, h0, Bool.false_eq_true, if_false, ← hy, hu, if_true]

theorem rdiRx_peer_up (h : s.getF (grpState g) = 2) (hg : 2 ≤ g.val) :
    rdiRx g lane rdi map false k s = (s.takeRdi g rdi).takeMap g map.toNat :=
  rdiRx_up h (if_neg (Nat.not_lt.mpr hg)).symm (by simp [State.groupUp, h])

/-- An errored frame of a peer port is in the group's own record alone. -/
theorem erroredFrame_peer_map (hg : 2 ≤ g.val) : (s.erroredFrame g lane).map = s.map := by
  rw [State.erroredFrame, if_pos (Or.inl hg)]

theorem rdiRx_peer_aligning (h : s.getF (grpState g) = 1) (hg : 2 ≤ g.val) :
    rdiRx g lane rdi map err k s = if err then s.erroredFrame g lane else s := by
  have h0 : ¬s.getF (grpState g) = 0 := by simp [h]
  have hup : (if err then s.erroredFrame g lane else s).groupUp g = false := by
    have hf : (if err then s.erroredFrame g lane else s).getF (grpState g) = 1 := by
      split
      · rw [State.getF_of_map_eq (erroredFrame_peer_map hg), h]
      · exact h
    simp [State.groupUp, hf]
  simp only [rdiRx, h0, if_false, Nat.not_lt.mpr hg, hup, Bool.false_eq_true]

/-- A frame's overhead is output alone. -/
theorem sendOverhead_frame : ∃ out, s.sendOverhead mfi = { s with out := out } := by
  unfold State.sendOverhead
  refine List.foldlRecOn _ _ (motive := fun z : State => ∃ out, z = { s with out := out }) ⟨_, rfl⟩ fun z hz j _ => ?_
  refine List.foldlRecOn _ _ (motive := fun z : State => ∃ out, z = { s with out := out }) hz fun z hz l _ => ?_
  obtain ⟨out, hz⟩ := hz
  subst hz
  exact ⟨_, rfl⟩

theorem sendOverhead_none (h : ∀ j < 6, s.groupEnabled j = false) : s.sendOverhead mfi = s := by
  have hl : ((List.range 6).filter fun g => s.groupEnabled g) = [] :=
    List.filter_eq_nil_iff.mpr fun j hj => by simp [h j (List.mem_range.mp hj)]
  rw [State.sendOverhead, hl, List.foldl_nil]

theorem length_overheadBytes : (s.overheadBytes g mfi lane).length = 11 := by
  simp [State.overheadBytes]

theorem multiframe_plain (h0 : mfi ≠ 0) (h50 : mfi ≠ 50) : multiframe mfi s = s.sendOverhead mfi :=
  (if_neg h0).trans (if_neg h50)

theorem multiframe_time (h0 : mfi = 0) (hx : x = s.sendOverhead mfi) :
    multiframe mfi s = ((((List.range 6).filter fun j => x.groupUp j).filter fun j => x.sendsTime j).foldl
      (fun a j => a.emitOut (.cell j 1 [a.ns, a.frac, (x.hopsFrom x.memberNo).getD 0, a.ref.state])) x) := by
  rw [multiframe, ← hx]
  exact if_pos h0

theorem multiframe_no_echo (h50 : mfi = 50) (hx : x = s.sendOverhead mfi) (hu : ∀ j < 6, x.groupUp j = false) : multiframe mfi s = x := by
  have hl : ((List.range 6).filter fun g => x.groupUp g) = [] :=
    List.filter_eq_nil_iff.mpr fun j hj => by simp [hu j (List.mem_range.mp hj)]
  subst h50
  rw [multiframe, ← hx, State.fixedCells, hl]
  rfl

end

/-! ## Echo cells, WTR and the performance of a second (R355, R358, R361) -/

section
variable {g : Group} {n t2 t3 t4 t0 : Nat} {s : State}

theorem echoCell_notUp (hu : s.groupUp g = false) (c : EchoCell) : echoCell g c s = s := if_pos (by simp [hu])

theorem echoCell_answered (hu : s.groupUp g = true) (ht : t2 + 2000 ≤ t3) :
    echoCell g (.request n t2 t3) s = s.emitOut (.cell g 2 [1, n, t2, t3]) := by
  simp only [echoCell, hu, ht, Bool.not_true, Bool.false_eq_true, if_false, if_true]

theorem echoCell_early (hu : s.groupUp g = true) (ht : t3 < t2 + 2000) : echoCell g (.request n t2 t3) s = s := by
  simp only [echoCell, hu, Nat.not_le.mpr ht, Bool.not_true, Bool.false_eq_true, if_false]

theorem echoCell_otherRequest (hu : s.groupUp g = true) (hn : (aget (65536, 0) s.bench.echo g).1 ≠ n) :
    echoCell g (.response n t2 t3 t4) s = s := by
  simp only [echoCell, hu, hn, Bool.not_true, Bool.false_eq_true, if_false, ne_eq, not_false_iff, if_true]

/-- A response to the last request: half of round trip less turnaround is the group's delay. -/
theorem echoCell_measured (hu : s.groupUp g = true) (hn : aget (65536, 0) s.bench.echo g = (n, t0)) : ∃ y : State,
    echoCell g (.response n t2 t3 t4) s = y ∧ aget 0 y.bench.delays g = min (2 ^ 24 - 1) (((t4 - t0) - (t3 - t2)) * 8) ∧
    (s.timeGroup ≠ some g.val → y = { s with bench := { s.bench with delays := y.bench.delays } }) := by
  simp only [echoCell, hu, hn, Bool.not_true, Bool.false_eq_true, if_false, ne_eq, not_true_eq_false]
  by_cases ht : s.timeGroup = some g.val
  · refine ⟨_, if_pos ht, ?_, fun h => absurd ht h⟩
    rw [State.setF_bench]
    exact aget_aset_same ..
  · exact ⟨_, if_neg ht, aget_aset_same .., fun _ => rfl⟩

theorem wtrExpiry_due (h : afind s.bench.wtr n = some t0) (ht : t0 + s.getF F.BN_CFG_WTR * 1000000000 ≤ s.ns) :
    wtrExpiry n s = ({ s with bench := { s.bench with wtr := s.bench.wtr.filter (·.1 != n) } } : State).refreshPaths := by
  simp only [wtrExpiry, h, ht, if_true]

theorem wtrExpiry_early (h : afind s.bench.wtr n = some t0) (ht : s.ns < t0 + s.getF F.BN_CFG_WTR * 1000000000) : wtrExpiry n s = s := by
  simp only [wtrExpiry, h, Nat.not_le.mpr ht, if_false]

theorem wtrExpiry_none (h : afind s.bench.wtr n = none) : wtrExpiry n s = s := by
  simp only [wtrExpiry, h]

theorem perfSecond_notDue (h : s.struct_.live = false ∨ s.groupLanes g = 0 ∨ s.ns / 1000000000 < 11 ∨
    (aget {} s.bench.perf g).last = some (s.ns / 1000000000 - 11)) : perfSecond g s = s := by
  refine if_pos ?_
  rcases h with h | h | h | h <;> simp [h]

theorem State.perfCount_bench {i : Nat} {es ses uas un : Bool} : (s.perfCount i es ses uas un).bench = s.bench := by
  unfold State.perfCount
  split
  · rfl
  · rw [State.setF_bench, State.bump_bench, State.bump_bench, State.bump_bench]

/-- Ten severely errored seconds from the one classified: unavailable time begins with it. -/
theorem perfSecond_unavailable (hl : s.struct_.live = true) (hlanes : s.groupLanes g ≠ 0) (hn : n = s.ns / 1000000000 - 11)
    (hnow : 11 ≤ s.ns / 1000000000) (hlast : (aget {} s.bench.perf g).last ≠ some n) (hun : (aget {} s.bench.perf g).unavail = false)
    (hses : ∀ i < 10, s.isSes g (n + i) = true) : ∃ y : State,
    perfSecond g s = y.notice ncPERF_UAS g [(8, g), (8, 1), (64, n * 1000000000)] ∧ (aget {} y.bench.perf g).unavail = true := by
  have hdue : ¬(s.ns / 1000000000 < 11 ∨ (aget {} s.bench.perf g).last = some n ∨ (!s.struct_.live) = true ∨ s.groupLanes g = 0) := by
    simp [hl, hlanes, hlast, Nat.not_lt.mpr hnow]
  have hrun : ((List.range 10).map fun i => s.isSes g (n + i)).all id = true := by
    rw [List.all_map, List.all_eq_true]
    exact fun i hi => hses i (List.mem_range.mp hi)
  simp only [perfSecond, ← hn, if_neg hdue, hun, hrun, Bool.false_eq_true, if_false, Bool.true_eq_false]
  refine ⟨_, rfl, ?_⟩
  rw [State.perfCount_bench]
  exact congrArg PerfState.unavail (aget_aset_same ..)

end

/-! ## Messages (R353, R354, R357) -/

section
variable {g : Group} {m : BenchMsg} {s : State}

theorem benchMessage_notUp (h : s.groupUp g = false) : benchMessage g m s = s := if_pos (by simp [h])

theorem benchMessage_peer (hg : 2 ≤ g.val) (h : s.groupUp g = true) :
    benchMessage g m s = if s.peerUp (g - 2) then s.receive g m else s := by
  simp only [benchMessage, h, hg, Bool.not_true, Bool.false_eq_true, if_false, if_true]

theorem benchMessage_forward (hg : g.val < 2) (h : s.groupUp g = true) (hd : m.dst.val ≠ s.memberNo) :
    benchMessage g m s = s.forward m := by
  simp only [benchMessage, h, Nat.not_le.mpr hg, hd, Bool.not_true, Bool.false_eq_true, if_false, ne_eq, not_false_iff, if_true]

theorem benchMessage_own (hg : g.val < 2) (h : s.groupUp g = true) (hd : m.dst.val = s.memberNo) :
    benchMessage g m s = s.receive g m := by
  simp only [benchMessage, h, Nat.not_le.mpr hg, hd, Bool.not_true, Bool.false_eq_true, if_false, ne_eq, not_true_eq_false]

theorem forward_unroutable (h : s.pathTo m.dst = 2) : s.forward m = s.bump F.BN_REQSTAT_UNROUTABLE m.cells := if_pos h

theorem forward_routed (h : s.pathTo m.dst ≠ 2) : s.forward m = s.emitOut (.forward (s.pathTo m.dst) m) := if_neg h

theorem receive_reserved (hg : g.val < 2) (hk : m.kind = 0 ∨ 7 < m.kind) : s.receive g m = s.bump (F.BN_GRPERR_CELLERR g) :=
  (if_pos hk).trans (if_pos hg)

section
variable (h1 : 1 ≤ m.kind) (h7 : m.kind ≤ 7)
include h1 h7

theorem receive_refused (hg : g.val < 2) (hr : s.tagChecks g m = 0 ∨ s.replayed g m = true) :
    s.receive g m = s.bump (F.BN_GRPERR_AUTHFAIL g) := by
  have hk : ¬(m.kind = 0 ∨ 7 < m.kind) := by omega
  refine (if_neg hk).trans ((if_pos ?_).trans (if_pos hg))
  simpa using hr

theorem receive_accepted (ht : s.tagChecks g m = 1) (hr : s.replayed g m = false) : s.receive g m =
    State.benchAct { s with bench := { s.bench with accepted := aset s.bench.accepted (64 * g + m.src) m.counter } } g m := by
  have hk : ¬(m.kind = 0 ∨ 7 < m.kind) := by omega
  simp only [State.receive, hk, ht, hr, if_false, Nat.one_ne_zero, decide_false, Bool.or_self, Bool.false_eq_true, Nat.reduceEqDiff]

end

theorem benchAct_ack {n st : Nat} {ws : List Word} (hc : m.content = .ack n st ws) : s.benchAct g m = benchAck n st ws s := by
  rw [State.benchAct, hc]

theorem benchAct_credit (hc : m.content = .lease .credit) : s.benchAct g m = s.bump (F.BN_CREDIT_CREDITS m.src) := by
  rw [State.benchAct, hc]
  rfl

/-- A read by the master of words of this member's map is answered once with what they hold (R369). -/
theorem benchAct_read {k n : Nat} (hc : m.content = .read k n) (hrole : s.benchRole = roleMEMBER) (hsrc : m.src.val = 0)
    (hnew : s.benchSeen m.src m.tag = none) (h1 : 1 ≤ n) (h8 : n ≤ 8) (hin : inMap k n = true) (hp : s.readPoisoned k n = false) :
    s.benchAct g m = s.benchReply m.src m.tag stOK (s.readWords k n) := by
  have hn : ¬(n = 0 ∨ 8 < n) := by omega
  have hmap : s.mapFor k n = (s, stOK, s.readWords k n) := by simp [State.mapFor, hn, hin, hp]
  rw [State.benchAct, hc]
  dsimp only
  rw [State.fromMaster, if_pos ⟨hrole, hsrc⟩, State.once, hnew, hmap]

theorem tagChecks_unprotected (h : s.groupGcm g = false) : s.tagChecks g m = 1 := if_pos (by simp [h])

theorem tagChecks_noUse (h : s.groupGcm g = true) (hu : s.drawerUse (s.groupDrawer g) useLINK none = false) : s.tagChecks g m = 0 :=
  (if_neg (by simp [h])).trans (if_pos (by simp [hu]))

end

/-! ## Lent demodulators (R362, R364, R365) -/

section
variable {s y : State} {k n u m stream port chan sf bw step gain time : Nat}

theorem leaseCredit_withheld (hn : n = s.getF (F.BN_LEASE_BORROWER k)) (h : 8 ≤ k ∨ s.getF (F.BN_LEASE_COUNT k) = 0 ∨ s.pathTo n = 2 ∨
    s.domOn domCHC = false ∨ s.setAside n ≤ aget 0 s.bench.granted n + s.serving n) : leaseCredit k s = s := by
  subst hn
  refine if_pos ?_
  rcases h with h | h | h | h | h
  · exact Or.inl h
  · exact Or.inr (Or.inl h)
  · exact Or.inr (Or.inr (Or.inl h))
  · exact Or.inr (Or.inr (Or.inr (Or.inr (Or.inl (by simp [h])))))
  · exact Or.inr (Or.inr (Or.inr (Or.inr (Or.inr h))))

theorem leaseCredit_granted (hn : n = s.getF (F.BN_LEASE_BORROWER k)) (hk : k < 8) (hc : s.getF (F.BN_LEASE_COUNT k) ≠ 0)
    (hp : s.pathTo n ≠ 2) (hm : n ≠ s.memberNo) (hon : s.domOn domCHC = true)
    (hfree : aget 0 s.bench.granted n + s.serving n < s.setAside n) : leaseCredit k s =
      State.benchPost { s with bench := { s.bench with granted := aset s.bench.granted n (aget 0 s.bench.granted n + 1) } } n
        (.lease .credit) := by
  subst hn
  exact if_neg (by simp [hc, hp, hm, hon, hfree, hk])

theorem leaseStart_noCredit (h : aget 0 s.bench.granted m = 0) : leaseStart m stream port chan sf bw step gain time s = s := if_pos h

section
variable (h : aget 0 s.bench.granted m = n + 1) (hy : y = { s with bench := { s.bench with granted := aset s.bench.granted m n } })
include h hy

/-- A unit taken for the stream is one more held frame, and the credit is used. -/
theorem leaseStart_takes (hon : s.domOn domCHC = true) (hu : y.freeUnits.head? = some u) : ∃ z : State,
    leaseStart m stream port chan sf bw step gain time s = z ∧
    (∃ q ∈ z.chirp.demods, q.slot = u ∧ q.lent = some (m, stream, s.ns) ∧ q.step = step ∧ q.bw = bw ∧ q.det.start = time) ∧
    z.chirp.demods.length = s.chirp.demods.length + 1 := by
  have hon' : y.domOn domCHC = true := by rw [hy]; exact hon
  have hns : y.ns = s.ns := by rw [hy]; rfl
  simp only [leaseStart, h, Nat.add_one_ne_zero, if_false, Nat.add_sub_cancel, ← hy, hon', if_true, hu]
  refine ⟨_, rfl, ⟨_, List.mem_append_right _ (List.mem_singleton_self _), rfl, ?_, rfl, rfl, rfl⟩, ?_⟩
  · rw [hns]
  · rw [State.setDemods_frame, List.length_append]
    rfl

theorem leaseStart_noUnit (hu : y.freeUnits = []) : leaseStart m stream port chan sf bw step gain time s =
    y.benchPost m (.lease (.failed stream (HeldEnd.num .domainDown))) := by
  simp only [leaseStart, h, Nat.add_one_ne_zero, if_false, Nat.add_sub_cancel, ← hy, hu, List.head?_nil, ite_self]

end

variable {first : Nat} {xs : List (BitVec 56)} {d : Demod}

theorem sampleCell_unknown (h : s.lentFor m stream = none) : sampleCell m stream first xs s = s := by
  simp only [sampleCell, h]

theorem leaseEnd_unknown (h : s.lentFor m stream = none) : leaseEnd m stream s = s := by
  simp only [leaseEnd, h]

theorem leaseIdleFree_unknown (h : s.lentFor m stream = none) : leaseIdleFree m stream s = s := by
  simp only [leaseIdleFree, h]

variable (h : s.lentFor m stream = some d)
include h

theorem sampleCell_heard (hx : ∀ x ∈ xs, x.getLsbD 42 = false) :
    sampleCell m stream first xs s = s.changeDemod d { d.samples first xs with lent := some (m, stream, s.ns) } := by
  have hany : xs.any (·.getLsbD 42) = false := by
    rw [List.any_eq_false]
    exact fun x hm => ne_true_of_eq_false (hx x hm)
  simp only [sampleCell, h, hany, Bool.false_eq_true, if_false]

theorem sampleCell_gap (hx : ∃ x ∈ xs, x.getLsbD 42 = true) : sampleCell m stream first xs s = s.endLent d .gap := by
  simp only [sampleCell, h, List.any_eq_true.mpr hx, if_true]

theorem leaseEnd_frees : leaseEnd m stream s = s.freeDemod d := by
  simp only [leaseEnd, h]

theorem leaseIdleFree_frees (hl : d.lent = some (m, stream, time)) (ht : time + 1000000 ≤ s.ns) :
    leaseIdleFree m stream s = s.freeDemod d := by
  simp only [leaseIdleFree, h, hl, ht, if_true]

theorem leaseIdleFree_early (hl : d.lent = some (m, stream, time)) (ht : s.ns < time + 1000000) : leaseIdleFree m stream s = s := by
  simp only [leaseIdleFree, h, hl, Nat.not_le.mpr ht, if_false]

end

end Sys2Proof.Machine

namespace Sys2Proof
open Machine

/-- Settles O47: the groups' events, then the messages and the lent demodulators, each clause by its own equation. -/
theorem benchGroupsMessagesAndLeases : Obligations.BenchGroupsMessagesAndLeases := by
  refine ⟨fun g b lane lost mfi n t2 t3 t4 t0 k why rdi err map s x => ⟨fun he => next_congr (groupUpEvent_disabled he), ?up, ?down,
      fun h => next_congr (rdiRx_down h), fun h hg => next_congr (rdiRx_peer_up h hg),
      fun h hg => ⟨next_congr ((rdiRx_peer_aligning h hg).trans (if_pos rfl)),
        next_congr ((rdiRx_peer_aligning h hg).trans (if_neg Bool.false_ne_true))⟩,
      fun h hg => ⟨_, rfl, fun hu => next_congr (rdiRx_up h (if_pos hg).symm hu)⟩, ?frame, sendOverhead_none, length_overheadBytes,
      fun hu => ⟨next_congr (echoCell_notUp hu _), next_congr (echoCell_notUp hu _)⟩, ?echo,
      fun h => ⟨fun ht => ⟨_, next_congr (wtrExpiry_due h ht), rfl⟩, fun ht => next_congr (wtrExpiry_early h ht)⟩,
      fun h => next_congr (wtrExpiry_none h), fun h => next_congr (perfSecond_notDue h), ?second⟩,
    fun g m j k n u stream first gain step time st port chan sf bw ws xs d s => ⟨fun h => next_congr (benchMessage_notUp h),
      fun hg h => ⟨?peerDown, ?peerUp⟩, fun hg h => ⟨fun hd => ?other, fun hd => ?own⟩, benchAct_ack, benchAct_credit, benchAct_read,
      tagChecks_unprotected, tagChecks_noUse, fun hn h => next_congr (leaseCredit_withheld hn h),
      fun hn hk hc hp hm hon hfree => ⟨_, next_congr (leaseCredit_granted hn hk hc hp hm hon hfree), rfl⟩,
      fun h => next_congr (leaseStart_noCredit h), fun h => ⟨_, rfl, ?takes, fun hu => next_congr (leaseStart_noUnit h rfl hu)⟩,
      fun h => ⟨next_congr (sampleCell_unknown h), next_congr (leaseEnd_unknown h), next_congr (leaseIdleFree_unknown h)⟩,
      fun h => ⟨fun hx => next_congr (sampleCell_heard h hx), fun hx => next_congr (sampleCell_gap h hx), next_congr (leaseEnd_frees h),
        fun hl => ⟨fun ht => next_congr (leaseIdleFree_frees h hl ht), fun ht => next_congr (leaseIdleFree_early h hl ht)⟩⟩⟩⟩
  case up =>
    intro he hx
    refine ⟨fun hm => ?_, fun hm hg => ⟨_, rfl, fun hs => ?_, fun hs hl => ?_, fun hs hl => ?_⟩,
      fun hg hs hl => next_congr (groupUpEvent_peer_up he hx hg hs hl)⟩
    · exact ⟨fun hshown => next_congr ((groupUpEvent_mismatch he hx hm).trans (groupMismatch_shown hshown)),
        fun hfirst => next_congr ((groupUpEvent_mismatch he hx hm).trans (groupMismatch_first hfirst))⟩
    all_goals refine next_congr ((groupUpEvent_matching he hx hm (if_pos hg).symm).trans ?_)
    · exact if_pos hs
    · exact (if_neg (Nat.not_lt.mpr hs)).trans (if_pos hl)
    · exact (if_neg (Nat.not_lt.mpr hs)).trans (if_neg (not_not.mpr hl))
  case down =>
    exact fun hx => ⟨fun hu => next_congr (groupDown_notUp hx hu), fun hu => ⟨fun hg => next_congr (groupDown_bench hx hu hg),
      fun hg => next_congr (groupDown_peer hx hu hg)⟩⟩
  case frame =>
    intro hx
    refine ⟨?_, fun h0 h50 => next_congr ((multiframe_plain h0 h50).trans hx.symm), fun h0 => next_congr (multiframe_time h0 hx),
      fun h50 hu => next_congr (multiframe_no_echo h50 hx hu)⟩
    obtain ⟨out, hout⟩ := sendOverhead_frame (s := s) (mfi := mfi)
    rw [hx, hout]
  case echo =>
    refine fun hu => ⟨fun ht => next_congr (echoCell_answered hu ht), fun ht => next_congr (echoCell_early hu ht),
      fun hn => next_congr (echoCell_otherRequest hu hn), fun hn => ?_⟩
    obtain ⟨y, hy, hdelay, hrest⟩ := echoCell_measured (t2 := t2) (t3 := t3) (t4 := t4) hu hn
    exact ⟨y, next_congr hy, hdelay, hrest⟩
  case second =>
    intro hl hlanes hn hnow hlast hun hses
    obtain ⟨y, hy, hbegun⟩ := perfSecond_unavailable hl hlanes hn hnow hlast hun hses
    exact ⟨y, next_congr hy, hbegun⟩
  case peerDown => exact fun hp => next_congr ((benchMessage_peer hg h).trans (if_neg (by simp [hp])))
  case peerUp => exact fun hp => next_congr ((benchMessage_peer hg h).trans (if_pos hp))
  case other =>
    exact ⟨fun hp => next_congr ((benchMessage_forward hg h hd).trans (forward_unroutable hp)),
      fun hp => next_congr ((benchMessage_forward hg h hd).trans (forward_routed hp))⟩
  case own =>
    exact ⟨fun hk => next_congr ((benchMessage_own hg h hd).trans (receive_reserved hg hk)),
      fun h1 h7 => ⟨fun hr => next_congr ((benchMessage_own hg h hd).trans (receive_refused h1 h7 hg hr)),
        fun ht hr => ⟨_, next_congr ((benchMessage_own hg h hd).trans (receive_accepted h1 h7 ht hr)), rfl⟩⟩⟩
  case takes =>
    intro hon hu
    obtain ⟨z, hz, hq, hlen⟩ := leaseStart_takes (stream := stream) (port := port) (chan := chan) (sf := sf) (bw := bw) (step := step)
      (gain := gain) (time := time) h rfl hon hu
    exact ⟨z, next_congr hz, hq, hlen⟩

end Sys2Proof

/-! The bench's and the fabric's events (O60): discovery, routes and hand-over here; the groups, messages and leases are those of O47. -/

namespace Sys2Proof.Machine
open Sys2Proof

section
variable {g : Group} {s y : State} {a i k : Nat} {h : HelloCell}

/-! ## Discovery (R367) -/

theorem helloSend_master (hon : s.peerOn g = true) (hr : s.benchRole = roleMASTER) :
    helloSend g s = s.emitOut (.cell g 5 [s.getF F.PF_CFG_ADDR, s.ownPrefix, g - 2, s.nmemb + 1]) := by
  have hne : s.benchRole ≠ roleNONE := by simp [hr]
  rw [helloSend, if_pos hon, if_neg hne]

theorem helloCell_other (hon : s.peerOn g = true) (ha : h.addr ≠ s.getF F.PF_CFG_ADDR) :
    helloCell g h s = s.neighbourUp g h.addr :=
  (if_neg (by simp [hon])).trans (if_neg ha)

theorem peerDown_silent (hg : 2 ≤ g.val) (ht : aget 0 s.bench.hello g + 350000000 ≤ s.ns) : peerDown g s = s.peerGone (g - 2) :=
  if_pos ⟨hg, ht⟩

/-! ## Routes (R368) -/

/-- A change since the last vector sends the next at once. -/
theorem routeAdvertise_changed (hon : s.peerOn g = true) (hup : s.peerUp (g - 2) = true)
    (hc : s.bench.routeChanged.contains g.val = true) : ∃ z : State,
    routeAdvertise g s = z.sendOn g 0 0 false 16 (.route (s.vector (g - 2))) ∧ z.bench.routeSent = aset s.bench.routeSent g s.ns := by
  refine ⟨_, if_pos ?_, rfl⟩
  simp only [hon, hup, hc, Bool.true_or, Bool.and_self]

theorem routeMessage_one (hon : s.peerOn g = true) (hup : s.peerUp (g - 2) = true) :
    routeMessage g [(a, k)] s = s.learnRoute (g - 2) (a, k) := if_pos (by simp only [hon, hup, Bool.and_self])

theorem routeExpiry_unrefreshed (hi : i < 256) (hv : s.flag (F.PF_RT_VALID i) = true)
    (ht : aget 0 s.bench.refresh i + 3000000000 ≤ s.ns) : routeExpiry i s = s.dropRoute i := if_pos ⟨hi, hv, ht⟩

/-! ## Hand-over (R369) -/

theorem handoverIn_taken {tag src entry : Nat} {ws : List Word}
    (hq : s.qHwItem (s.getF F.PF_CFG_HANDQ) (.hw 12 0) (handItem src ws) = (y, true)) : handoverIn tag src entry ws s =
      ((y.notice ncHANDOVER_IN 0 [(16, src), (32, entry)]).peerPost src 16 tag (.peerAck src (s.getF F.PF_CFG_ADDR) tag stOK)).1 := by
  rw [handoverIn, hq]

end

end Sys2Proof.Machine

namespace Sys2Proof
open Machine

/-- Settles O60: the groups, messages and leases by the equations of O47, the fabric's events by those above. -/
theorem benchAndPeerEventsComplete : Obligations.BenchAndPeerEventsComplete := by
  refine fun g b lane lost mfi n t2 t3 t0 k u stream first gain step time st a src i why rdi map m j port chan sf bw xs d h tag e ws s x y =>
    ⟨fun he hg hx hs hl => next_congr (groupUpEvent_peer_up he hx hg hs hl), fun hx hu hg => next_congr (groupDown_bench hx hu hg),
      fun hu hg => next_congr (rdiRx_peer_up hu hg), fun h0 h50 => next_congr (multiframe_plain h0 h50),
      fun hu ht => next_congr (echoCell_answered hu ht), ?wtr, ?second,
      fun hg hu hd h1 h7 ht hr => next_congr ((benchMessage_own hg hu hd).trans (receive_accepted h1 h7 ht hr)),
      fun hn hk hc hp hm hon hfree => next_congr (leaseCredit_granted hn hk hc hp hm hon hfree), ?takes,
      fun hd => ⟨fun hx => next_congr (sampleCell_heard hd hx), next_congr (leaseEnd_frees hd),
        fun hl ht => next_congr (leaseIdleFree_frees hd hl ht)⟩,
      fun hon => ⟨fun hr => next_congr (helloSend_master hon hr), fun ha => next_congr (helloCell_other hon ha),
        fun hup => ⟨?advertised, next_congr (routeMessage_one hon hup)⟩⟩,
      fun hg _ ht => next_congr (peerDown_silent hg ht), fun hi hv ht => next_congr (routeExpiry_unrefreshed hi hv ht),
      fun hq => next_congr (handoverIn_taken hq)⟩
  case wtr =>
    intro hw ht hy
    rw [hy]
    exact next_congr (wtrExpiry_due hw ht)
  case second =>
    intro hl hlanes hn hnow hlast hun hses
    obtain ⟨z, hz, hbegun⟩ := perfSecond_unavailable hl hlanes hn hnow hlast hun hses
    exact ⟨z, next_congr hz, hbegun⟩
  case takes =>
    intro hg hy hon hu
    obtain ⟨z, hz, hq, -⟩ := leaseStart_takes (stream := stream) (port := port) (chan := chan) (sf := sf) (bw := bw) (step := step)
      (gain := gain) (time := time) hg hy hon hu
    exact ⟨z, next_congr hz, hq⟩
  case advertised =>
    intro hc
    obtain ⟨z, hz, hsent⟩ := routeAdvertise_changed hon hup hc
    exact ⟨z, next_congr hz, hsent⟩

end Sys2Proof

/-! What every operation of the block leaves of a blown fuse (O6): it stays blown. The operations that write the fuse are a write of its
registers, the end of a programming and a full reset; one lemma for each operation follows those it calls, in the order of the model's
text, as in the proof of O4 and O5. -/

namespace Sys2Proof.Machine
open Sys2Proof

/-- Where the fuse of `z` is blown that of `s`, made from `z`, is blown too (R53). -/
structure Fused (z s : State) : Prop where
  blown : z.fuse.blown = true → s.fuse.blown = true

/-- The outcome of a command or event leaves the fuse of `z` blown where it is a next state. -/
def FusedOut (z : State) (r : Result) : Prop := ∀ t, r = .next t → Fused z t

section
variable {z s : State}

theorem Fused.refl : Fused s s := ⟨id⟩

theorem Fused.next (h : Fused z s) : FusedOut z (.next s) := by
  rintro t ⟨⟩
  exact h

theorem FusedOut.next (h : Fused z s) : FusedOut z (.next s) := h.next

/-! ## The shapes an operation is built from -/

theorem Fused.ite {c : Prop} [Decidable c] {a b : State} (ha : Fused z a) (hb : Fused z b) : Fused z (if c then a else b) := by
  split <;> assumption

theorem FusedOut.ite {c : Prop} [Decidable c] {a b : Result} (ha : FusedOut z a) (hb : FusedOut z b) :
    FusedOut z (if c then a else b) := by
  split <;> assumption

theorem Fused.iteFst {α : Type} {c : Prop} [Decidable c] {a b : State × α} (ha : Fused z a.1) (hb : Fused z b.1) :
    Fused z (if c then a else b).1 := by
  split <;> assumption

theorem Fused.ofFst {α : Type} {p : State × α} {b : α} (h : Fused z p.1) (e : p = (s, b)) : Fused z s := by
  rw [e] at h
  exact h

theorem Fused.foldl {α : Type} {f : State → α → State} {l : List α} (h : Fused z s) (hf : ∀ t a, Fused z t → Fused z (f t a)) :
    Fused z (l.foldl f s) := by
  induction l generalizing s with
  | nil => exact h
  | cons a l ih => exact ih (hf s a h)

theorem Fused.foldlFst {α β : Type} {f : State × β → α → State × β} {l : List α} {p : State × β} (h : Fused z p.1)
    (hf : ∀ t a, Fused z t.1 → Fused z (f t a).1) : Fused z (l.foldl f p).1 := by
  induction l generalizing p with
  | nil => exact h
  | cons a l ih => exact ih (hf p a h)

/-- A state that differs only elsewhere than in the fuse. -/
theorem Fused.upd (h : Fused z s) {map qmem tick dt fresh out pending notices host queues faults service mode domains struct_ tags ref
    mains launch sample plc chirp radio cipher bench txn} : Fused z { s with
      map := map, qmem := qmem, tick := tick, dt := dt, fresh := fresh, out := out, pending := pending, notices := notices, host := host,
      queues := queues, faults := faults, service := service, mode := mode, domains := domains, struct_ := struct_, tags := tags,
      ref := ref, mains := mains, launch := launch, sample := sample, plc := plc, chirp := chirp, radio := radio, cipher := cipher,
      bench := bench, txn := txn } :=
  ⟨h.blown⟩

/-- A write of the fuse's other fields, and one that blows it. -/
theorem Fused.updFuse (h : Fused z s) {x : FuseState} (hx : s.fuse.blown = true → x.blown = true) : Fused z { s with fuse := x } :=
  ⟨fun hz => hx (h.blown hz)⟩

/-! ### Words, fields, notices and completions (Machine/Ops) -/

theorem Fused.setWord {a w} (h : Fused z s) : Fused z (s.setWord a w) := h.upd
theorem Fused.setF {f v} (h : Fused z s) : Fused z (s.setF f v) := h.setWord
theorem Fused.bump {f n} (h : Fused z s) : Fused z (s.bump f n) := h.setF
theorem Fused.setQword {w v} (h : Fused z s) : Fused z (s.setQword w v) := h.upd
theorem Fused.emitOut {o} (h : Fused z s) : Fused z (s.emitOut o) := h.upd
theorem Fused.hand {n} (h : Fused z s) : Fused z (s.hand n) := .ite h.upd.bump h.upd
theorem Fused.mergeSpan {sp n} (h : Fused z s) : Fused z (s.mergeSpan sp n) := .ite h.upd.hand h.upd
theorem Fused.firstOccurrence {n} (h : Fused z s) : Fused z (s.firstOccurrence n) := .ite h.hand.upd h.hand.bump

theorem Fused.place {n} (h : Fused z s) : Fused z (s.place n) := by
  unfold State.place
  split
  · exact h.hand
  · split
    · exact h.upd
    · split
      · exact h.mergeSpan
      · exact h.firstOccurrence

theorem Fused.noticeAt {t code unit payload ext} (h : Fused z s) : Fused z (s.noticeAt t code unit payload ext) := h.place
theorem Fused.notice {code unit payload ext} (h : Fused z s) : Fused z (s.notice code unit payload ext) := h.noticeAt
theorem Fused.complete {c op st res} (h : Fused z s) : Fused z (s.complete c op st res) := .ite h.upd (.ite h.upd h.upd)
theorem Fused.mirror {r} (h : Fused z s) : Fused z (s.mirror r) := .ite h.upd h
theorem Fused.freshWord (h : Fused z s) : Fused z (s.freshWord).2 := h.upd

/-! ### Queues (Machine/QueueOps) -/

theorem Fused.setQst {q x} (h : Fused z s) : Fused z (s.setQst q x) := h.upd

theorem Fused.qPut {q p l} (h : Fused z s) : Fused z (s.qPut q p l) := by
  induction l generalizing s p with
  | nil => exact h
  | cons w ws ih => exact ih h.setQword

theorem Fused.qAdvanceW {q n op} (h : Fused z s) : Fused z (s.qAdvanceW q n op) := .ite h.setF.setQst.setQst h.setF.setQst

theorem Fused.qDrainBehind {q l} (h : Fused z s) : Fused z (s.qDrainBehind q l) := by
  induction l generalizing s with
  | nil => exact h.setQst
  | cons it rest ih => exact ih h.setQst.qPut.qAdvanceW.mirror

theorem Fused.qSettle {q} (h : Fused z s) : Fused z (s.qSettle q) := .ite h.qDrainBehind h
theorem Fused.qDrop {q n prod} (h : Fused z s) : Fused z (s.qDrop q n prod) := h.setQst.bump

theorem Fused.qWriteLive {q prod start ws} (h : Fused z s) : Fused z (s.qWriteLive q prod start ws).1 := by
  unfold State.qWriteLive
  refine .iteFst h (.iteFst h ?_)
  dsimp only
  split
  · exact h
  · exact .iteFst h.setF h.qPut.qAdvanceW.mirror.qSettle

theorem Fused.qProduce {q prod start ws} (h : Fused z s) : Fused z (s.qProduce q prod start ws).1 := by
  unfold State.qProduce
  split
  · exact h
  · split
    · exact h
    · split
      · exact .iteFst h.qDrop h.setQst.qWriteLive
      · exact h.qWriteLive

theorem Fused.qStream {n q prod start ws st moved} (h : Fused z s) : Fused z (s.qStream n q prod start ws st moved).1 := by
  induction n generalizing s start ws st moved with
  | zero => exact h
  | succ n ih => exact .iteFst h (.iteFst (ih h.qProduce) (.iteFst (ih h.qProduce) h.qProduce))

theorem Fused.qOverrun {q prod} (h : Fused z s) : Fused z (s.qOverrun q prod) := .ite h.setF.notice h.setF
theorem Fused.qHwItem {q prod item} (h : Fused z s) : Fused z (s.qHwItem q prod item).1 := .iteFst h.qPut.qAdvanceW.mirror h.qOverrun
theorem Fused.qRead {q r} (h : Fused z s) : Fused z (s.qRead q r) := h.setQst.setF.setF

theorem Fused.qAdvance {q c} (h : Fused z s) {t : State} (e : s.qAdvance q c = some t) : Fused z t := by
  unfold State.qAdvance at e
  split at e
  · cases e
  · split at e <;> cases e
    · exact h
    · exact h.qRead

theorem Fused.qMark {q} (h : Fused z s) : Fused z (s.qMark q) := h.setF
theorem Fused.qBack {q r} (h : Fused z s) : Fused z (s.qBack q r) := .ite h.setF.setQst h.setF
theorem Fused.qRewind {q} (h : Fused z s) : Fused z (s.qRewind q) := h.qBack
theorem Fused.pruneRelayed {q} (h : Fused z s) : Fused z (s.pruneRelayed q) := h.upd
theorem Fused.qRelease {q} (h : Fused z s) : Fused z (s.qRelease q) := h.setF.setF.pruneRelayed.mirror

theorem Fused.qConsume {q} (h : Fused z s) : Fused z (s.qConsume q) := by
  unfold State.qConsume
  split
  · exact h.qRead
  · exact h

theorem Fused.qDiscardOpen {q} (h : Fused z s) : Fused z (s.qDiscardOpen q) := by
  unfold State.qDiscardOpen
  dsimp only
  split
  · exact h
  · exact h.setF.setQst

theorem Fused.qFlush {q} (h : Fused z s) : Fused z (s.qFlush q) := h.qDiscardOpen.setF.setF.setF.setF.setQst.pruneRelayed.qSettle
theorem Fused.qExpireOpen {q} (h : Fused z s) : Fused z (s.qExpireOpen q) := h.qDiscardOpen.qSettle

/-! ### Fault records (Machine/FaultOps) -/

theorem Fused.setLcopy {b c x} (h : Fused z s) : Fused z (s.setLcopy b c x) := h.upd
theorem Fused.lbegin {op} (h : Fused z s) : Fused z (s.lbegin op) := h.upd
theorem Fused.lretry {b data} (h : Fused z s) : Fused z (s.lretry b data) := h.upd
theorem Fused.lupdate {b data} (h : Fused z s) : Fused z (s.lupdate b data) := .ite h.lretry h.upd.lbegin
theorem Fused.ledgerRetries (h : Fused z s) : Fused z (s.ledgerRetries) := .foldl h fun _ _ h1 => h1.lupdate
theorem Fused.recordToLedger {r i} (h : Fused z s) : Fused z (s.recordToLedger r i) := h.upd.lupdate
theorem Fused.recordNotice {r i} (h : Fused z s) : Fused z (s.recordNotice r i) := h.notice
theorem Fused.setRecord {i r} (h : Fused z s) : Fused z (s.setRecord i r) := h.upd

theorem Fused.repeatRecord {i r esc} (h : Fused z s) : Fused z (s.repeatRecord i r esc) :=
    .recordNotice (.ite h.setRecord.recordToLedger h.setRecord)

theorem Fused.newRecord {i replaced code kind unit detail esc} (h : Fused z s) : Fused z (s.newRecord i replaced code kind unit detail
    esc) := .recordNotice (.recordToLedger (.ite h.upd.bump h.upd))

theorem Fused.recordError {code kind unit detail esc} (h : Fused z s) : Fused z (s.recordError code kind unit detail esc).1 := by
  unfold State.recordError
  split
  · exact h.repeatRecord
  · split
    · exact h.newRecord
    · exact h

theorem Fused.closeRecord {i} (h : Fused z s) : Fused z (s.closeRecord i) := by
  unfold State.closeRecord
  split
  · exact h
  · exact h.setRecord.recordToLedger.notice

theorem Fused.escalateRecord {i} (h : Fused z s) : Fused z (s.escalateRecord i) := by
  unfold State.escalateRecord
  split
  · exact h
  · exact h.setRecord

theorem Fused.markRetired {i} (h : Fused z s) : Fused z (s.markRetired i) := by
  unfold State.markRetired
  split
  · exact h
  · exact h.setRecord

/-! ### Launch entries and device time (Machine/TimeOps) -/

theorem Fused.setTracker {p t} (h : Fused z s) : Fused z (s.setTracker p t) := h.upd
theorem Fused.mainsState {p t} (h : Fused z s) : Fused z (s.mainsState p t) := .ite h.setTracker h.setTracker.notice
theorem Fused.lqCountRefusal {st} (h : Fused z s) : Fused z (s.lqCountRefusal st) := .ite h.bump (.ite h.bump h)

theorem Fused.lqPut {e by_} (h : Fused z s) : Fused z (s.lqPut e by_).1 := by
  unfold State.lqPut
  split
  · exact h
  · exact h.upd.mirror

theorem Fused.lqInsert {e by_} (h : Fused z s) : Fused z (s.lqInsert e by_).1 := .iteFst h.lqPut h.lqCountRefusal
theorem Fused.lqRemove {i} (h : Fused z s) : Fused z (s.lqRemove i) := h.upd.mirror
theorem Fused.lqUpdate {i f} (h : Fused z s) : Fused z (s.lqUpdate i f) := h.upd
theorem Fused.launchReport {e st} (h : Fused z s) : Fused z (s.launchReport e st) := .ite (.notice (.ite h.bump h)) (.ite h.bump h)
theorem Fused.launchDone {e st} (h : Fused z s) : Fused z (s.launchDone e st) := h.lqRemove.launchReport
theorem Fused.lqMark (h : Fused z s) : Fused z (s.lqMark) := h.upd

theorem Fused.rfcApplied {w} (h : Fused z s) : Fused z (s.rfcApplied w) := by
  unfold State.rfcApplied
  dsimp only
  split
  · exact h.setF
  · exact h.setF
  · exact h.upd
  · exact h.setF
  · exact h.lqUpdate.setF
  · exact h

theorem Fused.rfcDue (h : Fused z s) : Fused z (s.rfcDue) := .foldl h.upd fun _ _ h1 => h1.rfcApplied
theorem Fused.coreTick (h : Fused z s) : Fused z (s.coreTick) := .ite h h.upd

/-! ### Endpoints (Machine/EpOps) -/

theorem Fused.set64 {lo hi v} (h : Fused z s) : Fused z (s.set64 lo hi v) := h.setWord.setWord
theorem Fused.setEp {e st} (h : Fused z s) : Fused z (s.setEp e st) := h.setF.setF.upd
theorem Fused.setLastRx {e t} (h : Fused z s) : Fused z (s.setLastRx e t) := h.set64
theorem Fused.setLastSync {e t} (h : Fused z s) : Fused z (s.setLastSync e t) := h.set64
theorem Fused.mbxSync {e} (h : Fused z s) : Fused z (s.mbxSync e) := h.setF.setF.setF.setF.setF

theorem Fused.putWords {a l} (h : Fused z s) : Fused z (s.putWords a l) := by
  induction l generalizing s a with
  | nil => exact h
  | cons w ws ih => exact ih h.setQword

theorem Fused.mbxPut {e item} (h : Fused z s) : Fused z (s.mbxPut e item).1 := by
  unfold State.mbxPut
  split
  · exact h.bump
  · split
    · exact h.bump
    · split
      · exact h.bump
      · exact h.putWords.setQword.upd.mbxSync

theorem Fused.mbxFree {f} (h : Fused z s) : Fused z (s.mbxFree f) := h.upd.mbxSync

theorem Fused.mbxDrop {e counted} (h : Fused z s) : Fused z (s.mbxDrop e counted) :=
    .foldl h fun _ _ h1 => .ite h1.mbxFree.bump h1.mbxFree

theorem Fused.epNotice {e} (h : Fused z s) : Fused z (s.epNotice e) := h.notice

theorem Fused.epHostState {e st} (h : Fused z s) : Fused z (s.epHostState e st) := by
  unfold State.epHostState
  split
  · exact h.setEp.setLastRx
  · exact h.setEp.mbxDrop
  · exact .ite h.setEp.upd.epNotice h.setEp.upd

theorem Fused.epLost {e} (h : Fused z s) : Fused z (s.epLost e) := h.upd.setEp.mbxDrop.bump.epNotice
theorem Fused.renewEp {e t} (h : Fused z s) : Fused z (s.renewEp e t) := h.upd.setLastRx

theorem Fused.supervise {e} (h : Fused z s) : Fused z (s.supervise e) := by
  unfold State.supervise
  split
  · exact .ite h.epLost h
  · exact h

/-! ### Operation tags (Machine/OpTags) -/

theorem Fused.takeTag {c} (h : Fused z s) : Fused z (s.takeTag c).1 := by
  unfold State.takeTag
  split
  · exact h.upd
  · exact .ite h.bump h

theorem Fused.giveTag {t} (h : Fused z s) : Fused z (s.giveTag t) := h.upd
theorem Fused.holdRead {k} (h : Fused z s) : Fused z (s.holdRead k) := .ite h h.upd.bump

theorem Fused.readIssue {k} (h : Fused z s) : Fused z (s.readIssue k) := by
  unfold State.readIssue
  split
  · exact h
  · split
    · exact h.holdRead
    · split
      · exact h.upd
      · exact h.holdRead

theorem Fused.grantReads {n} (h : Fused z s) : Fused z (State.grantReads n s) := by
  induction n generalizing s with
  | zero => exact h
  | succ n ih =>
    unfold State.grantReads
    split
    · exact h
    · split
      · exact h
      · exact ih h.upd

/-! ### Lanes and front-ends (Machine/SampleOps) -/

theorem Fused.setStream {p c} (h : Fused z s) : Fused z (s.setStream p c) := h.upd
theorem Fused.noteRun {p} (h : Fused z s) : Fused z (s.noteRun p) := .ite h h.setStream
theorem Fused.markInv {p n t} (h : Fused z s) : Fused z (s.markInv p n t) := h.setStream
theorem Fused.setRxGain {p v t} (h : Fused z s) : Fused z (s.setRxGain p v t) := .ite h.setF h.setF.markInv
theorem Fused.setTxAtt {p v t} (h : Fused z s) : Fused z (s.setTxAtt p v t) := .ite h.setF h.setF.emitOut
theorem Fused.portLaneStart {p} (h : Fused z s) : Fused z (s.portLaneStart p) := h.setF.setTxAtt.markInv.setStream.setF.noteRun
theorem Fused.setRun {l run} (h : Fused z s) : Fused z (s.setRun l run) := .ite (.ite h.setF.portLaneStart h.setF.noteRun) h.setF
theorem Fused.capRealign {p} (h : Fused z s) : Fused z (s.capRealign p) := .ite h h.setStream
theorem Fused.setRfLink {n l} (h : Fused z s) : Fused z (s.setRfLink n l) := h.upd
theorem Fused.rfState {n st remapped} (h : Fused z s) : Fused z (s.rfState n st remapped) := h.setF.notice
theorem Fused.rfMarkInv {n a b} (h : Fused z s) : Fused z (s.rfMarkInv n a b) := h.setRfLink
theorem Fused.rfSettle {n t} (h : Fused z s) : Fused z (s.rfSettle n t) := h.rfMarkInv
theorem Fused.chanSample {n t k gap} (h : Fused z s) : Fused z (s.chanSample n t k gap) := h.setRfLink.emitOut
theorem Fused.chanTo {n c gap} (h : Fused z s) : Fused z (s.chanTo n c gap) := .setRfLink (.foldl h fun _ _ h1 => h1.chanSample)
theorem Fused.chanIdle {n t} (h : Fused z s) : Fused z (s.chanIdle n t) := .setRfLink (.foldl h fun _ _ h1 => h1.chanSample)

theorem Fused.chanGap {n} (h : Fused z s) : Fused z (s.chanGap n) := by
  unfold State.chanGap
  dsimp only
  split
  · exact h.chanIdle
  · exact h.chanTo
  · exact h

theorem Fused.rfFollow {n} (h : Fused z s) : Fused z (s.rfFollow n) := .ite h.setRfLink.rfState (.ite h.chanGap.setRfLink.rfState h)
theorem Fused.sendFrame {n spans} (h : Fused z s) : Fused z (s.sendFrame n spans) := h.upd.emitOut

/-! ### Units and their spares (Machine/SpareOps) -/

theorem Fused.setRole {k u role lg} (h : Fused z s) : Fused z (s.setRole k u role lg) := .ite h.setF.setF.setF.setF h.setF.setF
theorem Fused.endAudit {k u} (h : Fused z s) : Fused z (s.endAudit k u) := .ite h.upd h
theorem Fused.copyLane {u v} (h : Fused z s) : Fused z (s.copyLane u v) := .foldl h.setWord fun _ _ h1 => h1.setWord
theorem Fused.moveLane {u v} (h : Fused z s) : Fused z (s.moveLane u v) := .setRun (.ite h.copyLane.setF.setF.setF h.copyLane.setF.setF)

theorem Fused.substituteLane {u v} (h : Fused z s) : Fused z (s.substituteLane u v) :=
    .ite (.foldl h fun _ _ h1 => h1.setRole.setRole.moveLane) h.setRole.setRole.moveLane

theorem Fused.substitute {k u v} (h : Fused z s) : Fused z (s.substitute k u v) :=
    .ite h.endAudit.substituteLane h.endAudit.setRole.setRole

theorem Fused.retiredNotice {k u v i} (h : Fused z s) : Fused z (s.retiredNotice k u v i) := h.notice.markRetired
theorem Fused.noteRetired {k u} (h : Fused z s) : Fused z (s.noteRetired k u) := h.upd

theorem Fused.retire {k u i} (h : Fused z s) : Fused z (s.retire k u i).1 := by
  unfold State.retire
  extract_lets v a s1
  have hs1 : Fused z s1 := by
    unfold s1
    clear_value v
    split
    · exact h.substitute
    · exact .ite h.endAudit.setRole.noteRun h.endAudit.setRole
  exact hs1.noteRetired.retiredNotice

/-! ### Cipher requests (Machine/CipherOps) -/

theorem Fused.setKeys {n g} (h : Fused z s) : Fused z (s.setKeys n g) := h.upd.setF.setF
theorem Fused.bumpGen {n} (h : Fused z s) : Fused z (s.bumpGen n) := h.setF
theorem Fused.recapture {n} (h : Fused z s) : Fused z (s.recapture n) := h.upd

theorem Fused.loadKey {n op key} (h : Fused z s) : Fused z (s.loadKey n op key) := by
  unfold State.loadKey
  refine .recapture ?_
  dsimp only
  split
  · exact h.setKeys.setF.bumpGen
  · exact h.setKeys.bumpGen
  · exact h.setKeys.setF
  · exact .ite h h.setKeys.setF.bumpGen

theorem Fused.cipherStart {rq cls job slot counter} (h : Fused z s) : Fused z (s.cipherStart rq cls job slot counter) := by
  unfold State.cipherStart
  split
  · rename_i e1
    exact (h.takeTag.ofFst e1)
  · rename_i e2
    exact (h.takeTag.ofFst e2).upd

theorem Fused.cipherAsk {rq job slot counter} (h : Fused z s) : Fused z (s.cipherAsk rq job slot counter) := .ite h.upd.bump h.cipherStart

theorem Fused.cipherLeave {t} (h : Fused z s) : Fused z (s.cipherLeave t) := by
  unfold State.cipherLeave
  dsimp only
  split
  · exact h.upd.giveTag
  · exact .ite h.upd.giveTag h.upd.giveTag.upd.cipherStart

theorem Fused.restartPair {p q} (h : Fused z s) : Fused z (s.restartPair p q) := h.upd

theorem Fused.retirePipe {u i} (h : Fused z s) : Fused z (s.retirePipe u i).1 := by
  unfold State.retirePipe
  dsimp only
  split <;> rename_i e
  · exact (h.retire.ofFst e).restartPair
  · exact .iteFst (h.retire.ofFst e).restartPair (h.retire.ofFst e)

theorem Fused.takeCounter {k} (h : Fused z s) : Fused z (s.takeCounter k).1 := by
  unfold State.takeCounter
  refine .iteFst ?_ ?_ <;> dsimp only
  · exact h.bump.notice
  · split
    · exact h.setF.mirror
    · exact h.setF

/-! ### Bench messages and requests (Machine/BenchOps) -/

theorem Fused.dropLender {m} (h : Fused z s) : Fused z (s.dropLender m) := h.upd.setF.bump

theorem Fused.refreshPaths (h : Fused z s) : Fused z (s.refreshPaths) :=
    .foldl h fun _ _ h1 => .ite h1 (.ite h1.upd.setF.notice.dropLender h1.upd.setF.notice)

theorem Fused.setLink {m up} (h : Fused z s) : Fused z (s.setLink m up) :=
    .ite h (.ite (.ite h.upd.refreshPaths h.upd.upd) h.upd.refreshPaths)

theorem Fused.ownLink (h : Fused z s) : Fused z (s.ownLink) := .ite h h.setLink
theorem Fused.sendOn {g dst tag retry hops c} (h : Fused z s) : Fused z (s.sendOn g dst tag retry hops c) := h.upd.emitOut
theorem Fused.benchPost {dst c} (h : Fused z s) : Fused z (s.benchPost dst c) := .ite h.bump h.sendOn

theorem Fused.peerPost {dst hops tag c} (h : Fused z s) : Fused z (s.peerPost dst hops tag c).1 := by
  unfold State.peerPost
  split
  · exact h.sendOn
  · exact h.bump

theorem Fused.benchIssue {t dst c p d} (h : Fused z s) : Fused z (s.benchIssue t dst c p d) := by
  unfold State.benchIssue
  extract_lets s1
  have hs1 : Fused z s1 := by
    unfold s1
    split
    · exact h.peerPost
    · exact h.sendOn
  exact hs1.upd

theorem Fused.benchTake {dst c p d} (h : Fused z s) : Fused z (s.benchTake dst c p d) := by
  unfold State.benchTake
  split
  · rename_i e1
    exact (h.takeTag.ofFst e1).benchIssue
  · rename_i e2
    exact (h.takeTag.ofFst e2).upd

theorem Fused.benchAsk {dst c p} (h : Fused z s) : Fused z (s.benchAsk dst c p).1 := .iteFst h (.iteFst h (.iteFst h h.benchTake))

theorem Fused.peerAsk {a c p} (h : Fused z s) : Fused z (s.peerAsk a c p).1 := by
  unfold State.peerAsk
  split
  · exact h
  · split
    · exact h.benchTake
    · exact h.bump

theorem Fused.benchHeld (h : Fused z s) : Fused z (s.benchHeld) := by
  unfold State.benchHeld
  split
  · exact h
  · split
    · rename_i e1
      exact h
    · rename_i e2
      exact (h.takeTag.ofFst e2).upd.benchIssue

theorem Fused.freeTag {t} (h : Fused z s) : Fused z (s.freeTag t) := h.giveTag.grantReads.benchHeld

theorem Fused.readEnd {k} (h : Fused z s) : Fused z (s.readEnd k) := by
  unfold State.readEnd
  dsimp only
  split
  · exact h.upd.freeTag
  · exact h.upd

theorem Fused.withRead {k} {f : State → State} (h : Fused z s) (hf : ∀ {t}, Fused z t → Fused z (f t)) : Fused z (s.withRead k f) :=
  .ite (hf h.readIssue.readEnd) h.readIssue

theorem Fused.benchReply {src tag st words} (h : Fused z s) : Fused z (s.benchReply src tag st words) := h.upd.benchPost
theorem Fused.routeNotice {a metric port} (h : Fused z s) : Fused z (s.routeNotice a metric port) := h.upd.notice
theorem Fused.dropRoute {i} (h : Fused z s) : Fused z (s.dropRoute i) := h.upd.setWord.routeNotice
theorem Fused.peerGone {p} (h : Fused z s) : Fused z (s.peerGone p) := .ite h (.foldl h.setF.notice fun _ _ h1 => h1.dropRoute)

theorem Fused.setGroup {g st cond} (h : Fused z s) : Fused z (s.setGroup g st cond) := by
  unfold State.setGroup
  dsimp only
  exact .ite h (.ite (.ite h.upd.setF.notice h.upd.setF.notice.peerGone) (.ite h.upd.setF.notice.ownLink.refreshPaths
      h.upd.setF.notice.refreshPaths))

/-! ### Band channels (Machine/PlcOps) -/

theorem Fused.setPchan {p b c} (h : Fused z s) : Fused z (s.setPchan p b c) := h.upd
theorem Fused.rxTo {p b st} (h : Fused z s) : Fused z (s.rxTo p b st) := h.setPchan.setF
theorem Fused.setRx {p b st r} (h : Fused z s) : Fused z (s.setRx p b st r) := h.setPchan.rxTo
theorem Fused.preemptRx {p b} (h : Fused z s) : Fused z (s.preemptRx p b) := .ite h (.ite h.rxTo (.ite h.setRx.bump h.setRx))

theorem Fused.preempt {p last} (h : Fused z s) : Fused z (s.preempt p last) :=
    .foldl h fun _ _ h1 => .upd (.foldl h1 fun _ _ h2 => h2.preemptRx)

theorem Fused.rxFollow {p b} (h : Fused z s) : Fused z (s.rxFollow p b) := .ite h.rxTo (.ite h.setRx h)
theorem Fused.rxFollowPort {p} (h : Fused z s) : Fused z (s.rxFollowPort p) := .foldl h fun _ _ h1 => h1.rxFollow
theorem Fused.rxFollowLane {l} (h : Fused z s) : Fused z (s.rxFollowLane l) := .ite h.rxFollowPort h
theorem Fused.noteBlank {p w0 w1} (h : Fused z s) : Fused z (s.noteBlank p w0 w1) := h.upd

theorem Fused.txenHigh {g t} (h : Fused z s) : Fused z (s.txenHigh g t) := by
  unfold State.txenHigh
  extract_lets s1
  have hs1 : Fused z s1 := by
    unfold s1
    split
    · exact .ite h.emitOut h
    · exact h
  exact hs1.upd.emitOut

theorem Fused.txenDue (h : Fused z s) : Fused z (s.txenDue) := .foldl h fun _ _ h1 => h1.upd.emitOut
theorem Fused.txenOff (h : Fused z s) : Fused z (s.txenOff) := .foldl h.upd fun _ _ h1 => h1.emitOut
theorem Fused.clipTo {x t} (h : Fused z s) : Fused z (s.clipTo x t) := h.upd

theorem Fused.plcStart {p b start kind e psdu mode ft ackReq} (h : Fused z s) : Fused z (s.plcStart p b start kind e psdu mode ft ackReq)
    := by
  unfold State.plcStart
  dsimp only
  exact .foldl (.foldl (.txenHigh (.setPchan (.foldl h fun _ _ h149 => h149.clipTo))) fun _ _ h150 => h150.emitOut) fun _ _ h151 =>
      h151.preempt

theorem Fused.waveEnd {x b last} (h : Fused z s) : Fused z (s.waveEnd x b last) :=
    .ite (.emitOut (.foldl h.setPchan fun _ _ h1 => h1.upd)) (.foldl h.setPchan fun _ _ h2 => h2.upd)

theorem Fused.plcStop {p b last} (h : Fused z s) : Fused z (s.plcStop p b last) := by
  unfold State.plcStop
  dsimp only
  exact .ite (.foldl (.setPchan (.foldl h fun _ _ h39 => h39.clipTo)) fun _ _ h40 => h40.waveEnd) (.upd (.foldl (.setPchan (.foldl h fun _
      _ h41 => h41.clipTo)) fun _ _ h42 => h42.waveEnd))

theorem Fused.beginAttempt {p b k q} (h : Fused z s) : Fused z (s.beginAttempt p b k q) := h.qMark.setPchan
theorem Fused.releaseAttempt {p b q} (h : Fused z s) : Fused z (s.releaseAttempt p b q) := h.qRelease.upd.setPchan
theorem Fused.rewindAttempt {p b q} (h : Fused z s) : Fused z (s.rewindAttempt p b q) := h.qRewind.setPchan

theorem Fused.ackMissed {p b a} (h : Fused z s) : Fused z (s.ackMissed p b a) :=
    .ite h.rewindAttempt.bump.upd h.releaseAttempt.bump.notice

theorem Fused.stopLines (h : Fused z s) : Fused z (s.stopLines) := .foldl h fun _ _ h1 => .ite h1.plcStop h1

theorem Fused.plcDomainLeaves {g} (h : Fused z s) : Fused z (s.plcDomainLeaves g) := by
  unfold State.plcDomainLeaves
  refine .foldl h fun _ _ h2 => ?_
  dsimp only
  split
  · exact .ite h2.rxFollow.rewindAttempt h2.rxFollow
  · exact h2.rxFollow

/-! ### Routes and relays (Machine/RouteOps) -/

theorem Fused.ackVerdict {f busy} (h : Fused z s) : Fused z (s.ackVerdict f busy) := by
  unfold State.ackVerdict
  split
  · dsimp only
    split
    · exact .ite h.setPchan h
    · exact h
  · exact h

theorem Fused.ackNone {f} (h : Fused z s) : Fused z (s.ackNone f) := by
  unfold State.ackNone
  split
  · dsimp only
    split
    · exact .ite h.setPchan h
    · exact h
  · exact h

theorem Fused.ackInTime {f} (h : Fused z s) : Fused z (s.ackInTime f) := .ite h.ackNone h
theorem Fused.noteDup {f} (h : Fused z s) : Fused z (s.noteDup f) := h.upd

theorem Fused.deliver {f q} (h : Fused z s) : Fused z (s.deliver f q) := by
  unfold State.deliver
  split
  · rename_i e1
    exact (h.qHwItem.ofFst e1).noteDup.ackVerdict
  · rename_i e2
    exact (h.qHwItem.ofFst e2).ackVerdict

theorem Fused.routeMiss {f} (h : Fused z s) : Fused z (s.routeMiss f) := h.bump.deliver
theorem Fused.noNextHop {f} (h : Fused z s) : Fused z (s.noNextHop f) := h.bump.deliver

theorem Fused.relayWrite {o bytes} (h : Fused z s) : Fused z (s.relayWrite o bytes) := by
  unfold State.relayWrite
  extract_lets item done
  have hdone {a : State} (ha : Fused z a) : Fused z (done a) := by
    refine .ackVerdict (.ite (.bump (.upd ?_)) ?_) <;> split
    exacts [ha.bump.noteDup.bump, ha.bump.noteDup, ha.bump.noteDup.bump, ha.bump.noteDup]
  split
  · split <;> rename_i e
    · exact hdone (h.mbxPut.ofFst e)
    · exact (h.mbxPut.ofFst e).ackVerdict
  · split <;> rename_i e
    · exact hdone (h.qHwItem.ofFst e)
    · exact (h.qHwItem.ofFst e).ackVerdict

theorem Fused.relaySecure {o nh} (h : Fused z s) : Fused z (s.relaySecure o nh) := by
  unfold State.relaySecure
  split
  · exact h.noNextHop
  · split
    · exact h.noNextHop
    · split
      · rename_i e1
        exact (h.takeCounter.ofFst e1).noNextHop
      · rename_i e2
        exact (h.takeCounter.ofFst e2).cipherAsk

theorem Fused.relayPlc {f port band nh0 route} (h : Fused z s) : Fused z (s.relayPlc f port band nh0 route) := by
  unfold State.relayPlc
  dsimp only
  split
  · exact h.bump.routeMiss
  · split
    · exact h.routeMiss
    · split
      · exact h.routeMiss
      · split
        · exact h.noNextHop
        · exact .ite h.noNextHop h.relaySecure

theorem Fused.relayRf {f pair nh0 txq route} (h : Fused z s) : Fused z (s.relayRf f pair nh0 txq route) := by
  unfold State.relayRf
  dsimp only
  split
  · exact h.routeMiss
  · split
    · exact h.noNextHop
    · exact .ite h.noNextHop (.ite h.routeMiss (.ite h.relaySecure h.routeMiss))

theorem Fused.relay {f} (h : Fused z s) : Fused z (s.relay f) := by
  unfold State.relay
  split
  · exact h.routeMiss
  · exact h.benchPost.bump.noteDup.ackVerdict
  · exact .ackVerdict (.ite h.peerPost.bump.bump.noteDup h.peerPost)
  · exact h.relayPlc
  · exact h.relayRf

theorem Fused.routeFrame {f} (h : Fused z s) : Fused z (s.routeFrame f) :=
    .ite h.deliver (.ite h.bump.ackVerdict (.ite h.deliver h.relay))

theorem Fused.classSGain {f e} (h : Fused z s) : Fused z (s.classSGain f e) := .ite (.ite h.setF h) h

theorem Fused.schedTiming {f e v} (h : Fused z s) : Fused z (s.schedTiming f e v) := by
  unfold State.schedTiming
  extract_lets _ _ _ _ _ _ _ new s1
  have hs1 : Fused z s1 := by
    unfold s1
    clear_value new
    split
    · exact h.setF.setF
    · exact h
  exact .ite hs1.setF.setLastSync hs1.setF.setLastSync.setF

theorem Fused.radioLearn {f e} (h : Fused z s) : Fused z (s.radioLearn f e) := by
  unfold State.radioLearn
  split
  · exact h
  · dsimp only
    split
    · exact h.setF.classSGain.schedTiming
    · exact .ite h.setF.classSGain.setF.setF.setF.setF h.setF.classSGain

theorem Fused.mbxAcked {e ackd} (h : Fused z s) : Fused z (s.mbxAcked e ackd) := by
  unfold State.mbxAcked
  split
  · exact h
  · split
    · exact h.mbxFree
    · exact h

theorem Fused.radioAnswer {f e} (h : Fused z s) : Fused z (s.radioAnswer f e) := .ite h (.ite (.ite h.upd h) (.ite h.upd h))

theorem Fused.accepted {f e} (h : Fused z s) : Fused z (s.accepted f e) :=
    .ite h.radioAnswer.mbxAcked.bump.ackVerdict h.radioAnswer.mbxAcked.routeFrame

theorem Fused.frameVerified {f e} (h : Fused z s) : Fused z (s.frameVerified f e) := by
  unfold State.frameVerified
  extract_lets _ s1
  have hs1 : Fused z s1 := h.ackInTime.renewEp.radioLearn
  exact .ite hs1.accepted (.ite hs1.setF.mirror.accepted (.ite (.ite hs1.bump.ackVerdict hs1.bump.radioAnswer.ackVerdict)
      hs1.bump.ackNone))

theorem Fused.verifyFailed {f e slot} (h : Fused z s) : Fused z (s.verifyFailed f e slot) := h.bump.bump.notice.ackNone.supervise

theorem Fused.verifyEnd {r f e slot good} (h : Fused z s) : Fused z (s.verifyEnd r f e slot good) := by
  unfold State.verifyEnd
  split
  · exact h.ackNone.supervise
  · dsimp only
    split
    · exact h.bump.frameVerified
    · exact h.frameVerified
    · exact h.frameVerified
    · exact h.verifyFailed

theorem Fused.frameIn {f} (h : Fused z s) : Fused z (s.frameIn f) := by
  unfold State.frameIn
  dsimp only
  split
  · exact h.bump.ackNone
  · exact .ite h.bump.ackNone (.ite h.frameVerified (.ite h.bump.ackNone h.cipherAsk))

theorem Fused.relayEnd {r o good} (h : Fused z s) : Fused z (s.relayEnd r o good) := by
  unfold State.relayEnd
  split
  · exact h.noNextHop
  · exact .ite h.noNextHop h.relayWrite

/-! ### RF pairs and demodulators (Machine/ChirpOps) -/

theorem Fused.showUsed {n k} (h : Fused z s) : Fused z (s.showUsed n k) := h.setF

theorem Fused.dutyCharge {n c dur t} (h : Fused z s) : Fused z (s.dutyCharge n c dur t).1 := by
  unfold State.dutyCharge
  split
  · exact .iteFst h.bump h.upd
  · split
    · exact h.bump
    · exact .iteFst h.bump h.upd.showUsed

theorem Fused.setDemods {l} (h : Fused z s) : Fused z (s.setDemods l) := h.upd.setF.setF

theorem Fused.countEnd {n w} (h : Fused z s) : Fused z (s.countEnd n w) := by
  unfold State.countEnd
  split
  · exact h.bump
  · exact h.bump
  · exact h.bump
  · exact h.bump
  · exact h.bump
  · exact h.bump
  · exact h.bump
  · exact h
  · exact h
  · exact h
  · exact h.bump

theorem Fused.freeDemod {d} (h : Fused z s) : Fused z (s.freeDemod d) := h.setDemods

theorem Fused.endHeld {d w} (h : Fused z s) : Fused z (s.endHeld d w) := by
  unfold State.endHeld
  dsimp only
  split
  · exact h.freeDemod
  · split
    · exact h.freeDemod.countEnd.benchPost
    · exact h.freeDemod.countEnd

theorem Fused.endLent {d w} (h : Fused z s) : Fused z (s.endLent d w) := by
  unfold State.endLent
  split
  · exact h.freeDemod.benchPost
  · exact h.endHeld

theorem Fused.endPort {n w} (h : Fused z s) : Fused z (s.endPort n w) := .foldl h fun _ _ h1 => h1.endHeld
theorem Fused.gapDemods {n} (h : Fused z s) : Fused z (s.gapDemods n) := h.endPort
theorem Fused.streamFrame {d m} (h : Fused z s) : Fused z (s.streamFrame d m) := .upd (.ite h (.foldl h fun _ _ h1 => h1.emitOut))

theorem Fused.streamCells {n} (h : Fused z s) : Fused z (s.streamCells n) := by
  unfold State.streamCells
  refine .foldl h fun _ _ h2 => ?_
  split
  · exact .ite h2.streamFrame h2
  · exact h2

theorem Fused.rfcAsk {w} (h : Fused z s) : Fused z (s.rfcAsk w) := h.upd

theorem Fused.rfSync {n} (h : Fused z s) : Fused z (s.rfSync n) :=
    .ite (.setF (.upd (.rfFollow (.ite h.upd.endPort h)))) (.rfFollow (.ite h.upd.endPort h))

theorem Fused.dropAttempt {l} (h : Fused z s) : Fused z (s.dropAttempt l) := h.upd
theorem Fused.rfRelease {a} (h : Fused z s) : Fused z (s.rfRelease a) := h.qRelease.dropAttempt.upd
theorem Fused.rfRewind {a} (h : Fused z s) : Fused z (s.rfRewind a) := h.qRewind.dropAttempt
theorem Fused.rfAckMissed {a} (h : Fused z s) : Fused z (s.rfAckMissed a) := .ite h.rfRewind.upd h.rfRelease.notice

theorem Fused.rfAckIn {f} (h : Fused z s) : Fused z (s.rfAckIn f) := by
  unfold State.rfAckIn
  split
  · exact h.rfRelease
  · exact h

theorem Fused.joinIn {f} (h : Fused z s) : Fused z (s.joinIn f) := by
  unfold State.joinIn
  extract_lets _ s1
  have hs1 : Fused z s1 := by
    unfold s1
    split
    · exact h.bump.notice
    · exact .notice (.setEp (.setF (.setF (.setF (.setF (.setF (.setF (.setF (.foldl h fun _ _ h1 => h1.setWord)))))))))
  exact hs1.deliver

theorem Fused.radioIn {f} (h : Fused z s) : Fused z (s.radioIn f) := .ite h.bump (.ite h.bump (.ite h.joinIn (.ite h.rfAckIn h.frameIn)))

/-! ### Transactions and their locks (Machine/TxnOps) -/

theorem Fused.setTxn {t} (h : Fused z s) : Fused z (s.setTxn t) := h.upd
theorem Fused.unreserve {t} (h : Fused z s) : Fused z (s.unreserve t) := .foldl h fun _ _ h1 => h1.setQst

theorem Fused.freeTxn {t} (h : Fused z s) : Fused z (s.freeTxn t) := by
  unfold State.freeTxn
  extract_lets s1 _ _
  have hs1 : Fused z s1 := by
    unfold s1
    split
    · exact .ite h.qRelease h
    · exact h
  split
  · exact .ite hs1.upd.giveTag.upd.qFlush hs1.upd.giveTag
  · exact hs1.upd.giveTag

theorem Fused.txnDone {t e} (h : Fused z s) : Fused z (s.txnDone t e) := h.notice

theorem Fused.dropCommit {t} (h : Fused z s) : Fused z (s.dropCommit t) := by
  unfold State.dropCommit
  split
  · split
    · exact h.lqRemove
    · exact h
  · exact h

theorem Fused.dropCopies {t} (h : Fused z s) : Fused z (s.dropCopies t) := h.upd

theorem Fused.answerAdd {a st res} (h : Fused z s) : Fused z (s.answerAdd a st res) := by
  unfold State.answerAdd
  split
  · exact h.complete
  · exact h.benchReply

theorem Fused.abortMembers {t} (h : Fused z s) : Fused z (s.abortMembers t) := .ite h (.foldl h fun _ _ h1 => .ite h1.benchAsk h1)
theorem Fused.finishTxn {t e} (h : Fused z s) : Fused z (s.finishTxn t e) := h.txnDone.freeTxn

theorem Fused.partDone {t st} (h : Fused z s) : Fused z (s.partDone t st) := by
  unfold State.partDone
  extract_lets s1
  have hs1 : Fused z s1 := by
    unfold s1
    split
    · exact .ite h.qRelease h
    · exact h
  exact hs1.setTxn

theorem Fused.benchDone {t} (h : Fused z s) : Fused z (s.benchDone t) := .ite h.finishTxn h.bump.finishTxn

theorem Fused.ownPart {t st} (h : Fused z s) : Fused z (s.ownPart t st) := by
  unfold State.ownPart
  dsimp only
  split
  · exact .ite h.partDone.benchDone h.partDone
  · exact h.partDone

theorem Fused.reportOutcome {c m hh st} (h : Fused z s) : Fused z (s.reportOutcome c m hh st) := .ite h.benchAsk h.upd
theorem Fused.outcomesDue (h : Fused z s) : Fused z (s.outcomesDue) := .foldl h.upd fun _ _ h1 => h1.benchAsk

theorem Fused.abortTxn {t e reported} (h : Fused z s) : Fused z (s.abortTxn t e reported) := by
  unfold State.abortTxn
  split
  · exact h
  · split
    · exact h.unreserve.dropCommit.dropCopies.bump.ownPart
    · extract_lets s1 s2 _ _ _ s5
      have hs1 : Fused z s1 := by
        unfold s1
        split
        · exact h.answerAdd
        · exact h
      have hs2 : Fused z s2 := by
        unfold s2
        split
        · exact hs1.complete
        · exact hs1
      have hs5 : Fused z s5 := by
        unfold s5
        split
        · exact .ite (.reportOutcome (.ite hs2.unreserve.dropCommit.dropCopies.abortMembers.bump
              hs2.unreserve.dropCommit.dropCopies.abortMembers.bump.txnDone)) (.ite hs2.unreserve.dropCommit.dropCopies.abortMembers.bump
              hs2.unreserve.dropCommit.dropCopies.abortMembers.bump.txnDone)
        · exact .ite hs2.unreserve.dropCommit.dropCopies.abortMembers.bump hs2.unreserve.dropCommit.dropCopies.abortMembers.bump.txnDone
      exact hs5.freeTxn

theorem Fused.abortOpenTxns {st} (h : Fused z s) : Fused z (s.abortOpenTxns st) := by
  unfold State.abortOpenTxns
  refine .foldl h fun _ _ h2 => ?_
  split
  · exact h2.abortTxn
  · exact h2

theorem Fused.askFlush {q} (h : Fused z s) : Fused z (s.askFlush q).1 := by
  unfold State.askFlush
  split
  · exact h.qFlush
  · exact .iteFst h h.abortTxn.qFlush

theorem Fused.eccFlush {q} (h : Fused z s) : Fused z (s.eccFlush q) := .ite h.askFlush (.ite h h.upd)

theorem Fused.woundTxn {v by_ bm} (h : Fused z s) : Fused z (s.woundTxn v by_ bm) := by
  unfold State.woundTxn
  extract_lets _ _ s2
  have hs2 : Fused z s2 := by
    unfold s2
    split
    · exact h.bump.notice.answerAdd
    · exact h.bump.notice
  exact .ite hs2.abortMembers.bump.setTxn hs2.abortTxn

theorem Fused.claimLock {t l} (h : Fused z s) : Fused z (s.claimLock t l).1 :=
    .foldl h fun _ _ h1 => .ite (.ite h1.woundTxn (.ite h1 h1.benchAsk)) h1

/-! ### Transmissions (Machine/TxOps) -/

theorem Fused.mbxEnd {hh free} (h : Fused z s) : Fused z (s.mbxEnd hh free) := by
  unfold State.mbxEnd
  split
  · exact h
  · exact .ite h.mbxFree h.upd

theorem Fused.txOutcome {e st} (h : Fused z s) : Fused z (s.txOutcome e st) := by
  unfold State.txOutcome
  split
  · exact .ite h.qRelease h
  · split
    · exact h
    · exact .ite h.releaseAttempt (.ite h.rewindAttempt.setPchan h.rewindAttempt)
  · split
    · exact h
    · exact .ite h.rfRelease h.rfRewind
  · exact h.mbxEnd
  · exact h

theorem Fused.dropOfs {i} (h : Fused z s) : Fused z (s.dropOfs i) := h.upd
theorem Fused.txFail {e st} (h : Fused z s) : Fused z (s.txFail e st) := .txOutcome (.launchDone (.ite h.bump h.dropOfs.bump))

theorem Fused.secureEntry {i} (h : Fused z s) : Fused z (s.secureEntry i) := by
  unfold State.secureEntry
  split
  · exact h
  · split
    · exact h
    · dsimp only
      split
      · exact h.lqUpdate
      · split
        · exact h.txFail
        · split
          · exact h.txFail
          · split
            · exact h.txFail
            · split
              · rename_i e1
                exact (h.takeCounter.ofFst e1).txFail
              · rename_i e2
                exact (h.takeCounter.ofFst e2).lqUpdate.cipherAsk

theorem Fused.writeBack {e it} (h : Fused z s) : Fused z (s.writeBack e it) := by
  unfold State.writeBack
  split
  · split
    · exact h.putWords
    · exact h
  · exact .ite h.qPut h

theorem Fused.secureEnd {r i gen good} (h : Fused z s) : Fused z (s.secureEnd r i gen good) := by
  unfold State.secureEnd
  split
  · exact h
  · split
    · exact h
    · split
      · exact .ite h.txFail h.writeBack.lqUpdate
      · exact h.txFail

theorem Fused.txTake {e} (h : Fused z s) : Fused z (s.txTake e).1 := by
  unfold State.txTake
  dsimp only
  split
  · exact h.eccFlush
  · split
    · exact h
    · exact h.qConsume.lqUpdate

theorem Fused.emitRamp {n j up t} (h : Fused z s) : Fused z (s.emitRamp n j up t) := h.emitOut
theorem Fused.sendFrames (h : Fused z s) : Fused z (s.sendFrames) := .ite (.foldl h fun _ _ h1 => .ite h1.chanGap.sendFrame h1) h
theorem Fused.rfBusy {n busy susp} (h : Fused z s) : Fused z (s.rfBusy n busy susp) := h.setF.setF
theorem Fused.rfStop {n t} (h : Fused z s) : Fused z (s.rfStop n t) := h.upd.rfBusy

theorem Fused.plcCut {p b st} (h : Fused z s) : Fused z (s.plcCut p b st) := by
  unfold State.plcCut
  split
  · exact h
  · dsimp only
    split
    · exact h.plcStop.bump.launchReport
    · split
      · exact h.plcStop.bump.rewindAttempt
      · exact h.plcStop.bump
    · exact h.plcStop.bump

theorem Fused.rfCut {n st} (h : Fused z s) : Fused z (s.rfCut n st) := by
  unfold State.rfCut
  split
  · exact h
  · dsimp only
    split
    · exact .ite h.emitRamp.rfStop.txFail h.emitRamp.rfStop
    · exact h.emitRamp.rfStop.bump.launchReport.txOutcome

theorem Fused.stopTransmissions (h : Fused z s) : Fused z (s.stopTransmissions) :=
    .foldl h.stopLines.txenOff fun _ _ h1 => h1.emitRamp.rfStop

theorem Fused.endOfTick (h : Fused z s) : Fused z (s.endOfTick) := .ite h.stopTransmissions h
theorem Fused.twinSettle (h : Fused z s) : Fused z (s.twinSettle) := .ite h.upd h

theorem Fused.domainLeavesOn {d} (h : Fused z s) : Fused z (s.domainLeavesOn d) :=
    .ite (.ite (.foldl h.plcDomainLeaves fun _ _ h1 => h1.mainsState) h.plcDomainLeaves) (.ite (.foldl h fun _ _ h2 => h2.rfSync) (.ite
    h.upd (.ite (.foldl h fun _ _ h3 => h3.setGroup) h)))

theorem Fused.domainComesOn {d} (h : Fused z s) : Fused z (s.domainComesOn d) :=
    .ite (.foldl h fun _ _ h1 => .rxFollowPort (.ite h1.portLaneStart.setTracker h1)) (.ite (.foldl h fun _ _ h2 => h2.rfSync) (.ite
    (.foldl h fun _ _ h3 => .ite h3.setGroup h3) h))

/-! ### Modes (Machine/ModeOps) -/

theorem Fused.twinLedger (h : Fused z s) : Fused z (s.twinLedger) := h.lupdate.lupdate
theorem Fused.changeMode {m cause} (h : Fused z s) : Fused z (s.changeMode m cause) := .ite h.upd.notice.twinLedger h.upd.notice
theorem Fused.enterFault {cause} (h : Fused z s) : Fused z (s.enterFault cause) := .ite h h.stopTransmissions.changeMode.upd.notice

theorem Fused.report {code kind unit detail} (h : Fused z s) : Fused z (s.report code kind unit detail).1 := by
  unfold State.report
  split <;> rename_i e
  · exact h.recordError.ofFst e
  · exact (h.recordError.ofFst e).recordToLedger.enterFault

theorem Fused.reportEscalated {code kind unit detail cause} (h : Fused z s) : Fused z (s.reportEscalated code kind unit detail cause).1 :=
    by
  unfold State.reportEscalated
  split <;> rename_i e
  · exact (h.recordError.ofFst e).enterFault
  · exact (h.recordError.ofFst e).report

theorem Fused.setDomain {d st} (h : Fused z s) : Fused z (s.setDomain d st) := h.upd.notice
theorem Fused.drainDomain {d} (h : Fused z s) : Fused z (s.drainDomain d) := .ite h.upd.setDomain.domainLeavesOn h
theorem Fused.powerUp {d} (h : Fused z s) : Fused z (s.powerUp d) := .ite h.setDomain h

theorem Fused.settleDomains (h : Fused z s) : Fused z (s.settleDomains) :=
    .foldl h fun _ _ h1 => .ite h1 h1.setDomain.setDomain.domainLeavesOn

theorem Fused.enterDrain {rst} (h : Fused z s) : Fused z (s.enterDrain rst) :=
    .foldl h.changeMode.abortOpenTxns.upd.twinSettle fun _ _ h1 => h1.drainDomain

theorem Fused.fullReset {cause graceful hostLoad seen} (h : Fused z s) : Fused z (s.fullReset cause graceful hostLoad seen) :=
  ⟨fun hz => by simp [State.fullReset, h.blown hz]⟩

theorem Fused.resetBy {p graceful} (h : Fused z s) : Fused z (s.resetBy p graceful) := h.fullReset

/-! ### Launched actions (Machine/LaunchOps) -/

theorem Fused.dropRamp {e} (h : Fused z s) : Fused z (s.dropRamp e) := by
  unfold State.dropRamp
  split
  · exact .ite h.emitRamp.rfStop h
  · exact h

theorem Fused.endEntry {e st} (h : Fused z s) : Fused z (s.endEntry e st) := by
  unfold State.endEntry
  split
  · exact h.txFail
  · exact h.dropRamp.txFail
  · split
    · exact h.abortTxn
    · exact h.launchDone
  · exact h.launchDone

theorem Fused.endEntries {l st} (h : Fused z s) : Fused z (s.endEntries l st) := by
  unfold State.endEntries
  refine .foldl h fun _ _ h2 => ?_
  split
  · exact .ite h2.endEntry h2
  · exact h2

theorem Fused.runAction {i type} {f : LqEntry → State} (h : Fused z s) (hf : ∀ {e}, Fused z (f e)) : Fused z (s.runAction i type f) := by
  unfold State.runAction
  split
  · exact h
  · split
    · exact h
    · split
      · exact h.endEntry
      · exact hf

/-! ### References (Machine/RefOps) -/

theorem Fused.refNotice (h : Fused z s) : Fused z (s.refNotice) := h.notice
theorem Fused.setFreq {v} (h : Fused z s) : Fused z (s.setFreq v) := h.upd
theorem Fused.setRefState {st} (h : Fused z s) : Fused z (s.setRefState st) := .refNotice (.upd (.ite h.setFreq h))
theorem Fused.shiftStamps {d} (h : Fused z s) : Fused z (s.shiftStamps d) := h.upd
theorem Fused.stepTo {t} (h : Fused z s) : Fused z (s.stepTo t) := h.endEntries.shiftStamps.upd.notice
theorem Fused.stepSet (h : Fused z s) : Fused z (s.stepSet).1 := .iteFst h.stepTo.upd h
theorem Fused.stepAccept (h : Fused z s) : Fused z (s.stepAccept) := .ite h.upd h
theorem Fused.slewOut {err} (h : Fused z s) : Fused z (s.slewOut err) := h.upd
theorem Fused.discipline (h : Fused z s) : Fused z (s.discipline) := h.freshWord.setFreq
theorem Fused.refGood {err} (h : Fused z s) : Fused z (s.refGood err) := h.upd
theorem Fused.countGood {ok need} (h : Fused z s) : Fused z (s.countGood ok need) := .ite h.upd.setRefState h.upd

theorem Fused.refFirst {err stamp} (h : Fused z s) : Fused z (s.refFirst err stamp) :=
    .upd (.setRefState (.ite h.refGood.stepTo h.refGood.slewOut))

theorem Fused.refRejected {err} (h : Fused z s) : Fused z (s.refRejected err) :=
    .ite h.upd (.notice (.upd (.ite h.upd.setRefState h.upd)))

theorem Fused.refBegin {err stamp} (h : Fused z s) : Fused z (s.refBegin err stamp) := .ite h.refRejected h.refFirst
theorem Fused.secondPulse {t stamp} (h : Fused z s) : Fused z (s.secondPulse t stamp) := h.setFreq.upd

theorem Fused.refAccepted {err stamp} (h : Fused z s) : Fused z (s.refAccepted err stamp) := by
  unfold State.refAccepted
  dsimp only
  split
  · split
    · exact h.refGood.upd.secondPulse
    · exact .ite h.refGood.upd.countGood h.refGood.upd.countGood.slewOut
  · exact h.refGood.upd.discipline
  · exact h.refGood.upd.countGood.slewOut
  · exact h.refGood.upd

theorem Fused.checkLabel {sec expected} (h : Fused z s) : Fused z (s.checkLabel sec expected) :=
    .ite h (.ite h.upd (.ite h.upd.notice h.upd))

theorem Fused.refPhase {stamp label} (h : Fused z s) : Fused z (s.refPhase stamp label) := .ite h.refRejected h.refAccepted

theorem Fused.refStep {err stamp} (h : Fused z s) : Fused z (s.refStep err stamp) := by
  unfold State.refStep
  extract_lets s0
  have hs0 : Fused z s0 := by
    unfold s0
    split
    · exact h.secondPulse
    · exact h
  exact hs0.refGood.stepTo.upd

theorem Fused.refPulse {stamp label} (h : Fused z s) : Fused z (s.refPulse stamp label) := by
  unfold State.refPulse
  split
  · exact .ite h h.refPhase
  · exact .ite h.refBegin (.ite h.refStep h.checkLabel.refPhase)

theorem Fused.relabel {stamp sec} (h : Fused z s) : Fused z (s.relabel stamp sec) := by
  unfold State.relabel
  dsimp only
  exact .ite h.refBegin (.ite h.refStep (.ite h.checkLabel (.ite h.refRejected (.ite h.upd h.upd.countGood.slewOut))))

theorem Fused.ppsTakes {i err} (h : Fused z s) : Fused z (s.ppsTakes i err) := h.refGood.upd.setRefState.slewOut
theorem Fused.refOther {stamp} (h : Fused z s) : Fused z (s.refOther stamp) := .ite h.upd.ppsTakes h.upd
theorem Fused.beginAcquire (h : Fused z s) : Fused z (s.beginAcquire) := h.upd.upd
theorem Fused.refAmended {old} (h : Fused z s) : Fused z (s.refAmended old) := .refNotice (.ite h.upd h.upd.upd)

/-! ### Device time (Machine/Time) -/

theorem Fused.ppsEdge {i rising} (h : Fused z s) : Fused z (ppsEdge i rising s) := .ite h (.ite h.upd.refPulse h.upd.refOther)
theorem Fused.execPpsEdge {i rising} (h : Fused z s) : FusedOut z (execPpsEdge i rising s) := .next h.ppsEdge

theorem Fused.todSentence {i ch} (h : Fused z s) : Fused z (todSentence i ch s) := by
  unfold Machine.todSentence
  split
  · exact h
  · split
    · exact h
    · dsimp only
      split
      · exact h.upd
      · split
        · exact h
        · exact .ite h h.relabel

theorem Fused.execTodSentence {i ch} (h : Fused z s) : FusedOut z (execTodSentence i ch s) := .next h.todSentence
theorem Fused.refLoss (h : Fused z s) : Fused z (refLoss s) := .ite h (.ite h.setRefState (.ite h.setRefState h))
theorem Fused.execRefLoss (h : Fused z s) : FusedOut z (execRefLoss s) := .next h.refLoss
theorem Fused.holdoverExpired (h : Fused z s) : Fused z (holdoverExpired s) := .ite h.upd.notice h
theorem Fused.execHoldoverExpired (h : Fused z s) : FusedOut z (execHoldoverExpired s) := .next h.holdoverExpired

theorem Fused.pps0Return (h : Fused z s) : Fused z (pps0Return s) := by
  unfold Machine.pps0Return
  split
  · exact .ite h.upd.refNotice h
  · exact h

theorem Fused.execPps0Return (h : Fused z s) : FusedOut z (execPps0Return s) := .next h.pps0Return
theorem Fused.peerTime {g c} (h : Fused z s) : Fused z (peerTime g c s) := .ite h h.setF

theorem Fused.memberTime {g c} (h : Fused z s) : Fused z (memberTime g c s) := by
  unfold Machine.memberTime
  split
  · exact h
  · dsimp only
    split
    · exact h.upd.setF.refFirst
    · split
      · exact h.upd.setF.refStep
      · split
        · exact .countGood (.discipline (.ite h.upd.setF.refGood.slewOut.refNotice h.upd.setF.refGood))
        · exact .discipline (.ite h.upd.setF.refGood.slewOut.refNotice h.upd.setF.refGood)
        · exact .slewOut (.countGood (.ite h.upd.setF.refGood.slewOut.refNotice h.upd.setF.refGood))

theorem Fused.timeCell {g c} (h : Fused z s) : Fused z (timeCell g c s) := .ite h.peerTime h.memberTime
theorem Fused.execTimeCell {g c} (h : Fused z s) : FusedOut z (execTimeCell g c s) := .next h.timeCell
theorem Fused.eventCapture {pin rising} (h : Fused z s) : Fused z (eventCapture pin rising s) := .ite h.notice h
theorem Fused.execEventCapture {pin rising} (h : Fused z s) : FusedOut z (execEventCapture pin rising s) := .next h.eventCapture

/-! ### Lane groups (Machine/Bench) -/

theorem Fused.laneState {g l v} (h : Fused z s) : Fused z (s.laneState g l v) := .ite h h.setF
theorem Fused.takeMap {g map} (h : Fused z s) : Fused z (s.takeMap g map) := .ite h (.foldl h.upd fun _ _ h1 => .ite h1 h1.setLink)
theorem Fused.takeRdi {g rdi} (h : Fused z s) : Fused z (s.takeRdi g rdi) := .ite h (.ite h.setF.ownLink h.setF)

theorem Fused.groupLocked {g b} (h : Fused z s) : Fused z (s.groupLocked g b) :=
    .ite (.foldl h fun _ _ h1 => h1.laneState) (.setF (.foldl h fun _ _ h2 => h2.laneState))

theorem Fused.groupMismatch {g b} (h : Fused z s) : Fused z (s.groupMismatch g b) := .ite h.setGroup h.setF.notice.setGroup

theorem Fused.groupUpEvent {g b} (h : Fused z s) : Fused z (groupUpEvent g b s) :=
    .ite h (.ite h.groupLocked.groupMismatch (.ite (.setGroup (.ite h.groupLocked.setF h.groupLocked)) (.ite (.setGroup (.ite
    h.groupLocked.setF h.groupLocked)) (.takeMap (.takeRdi (.setGroup (.ite h.groupLocked.setF h.groupLocked)))))))

theorem Fused.execGroupUp {g neighbour} (h : Fused z s) : FusedOut z (execGroupUp g neighbour s) := .next h.groupUpEvent

theorem Fused.groupDown {g lane why lost} (h : Fused z s) : Fused z (groupDown g lane why lost s) :=
    .ite h.laneState (.setGroup (.ite h.laneState.bump h.laneState))

theorem Fused.execGroupDown {g lane why lost} (h : Fused z s) : FusedOut z (execGroupDown g lane why lost s) := .next h.groupDown
theorem Fused.erroredFrame {g lane} (h : Fused z s) : Fused z (s.erroredFrame g lane) := .ite h.upd h.upd.bump

theorem Fused.rdiRx {g lane rdi linkmap errored bad} (h : Fused z s) : Fused z (rdiRx g lane rdi linkmap errored bad s) :=
    .ite h (.ite (.takeMap (.takeRdi (.ite (.bump (.ite h.erroredFrame h)) (.ite h.erroredFrame h)))) (.ite (.bump (.ite h.erroredFrame
    h)) (.ite h.erroredFrame h)))

theorem Fused.execRdiRx {g lane rdi linkmap errored badCells} (h : Fused z s) : FusedOut z (execRdiRx g lane rdi linkmap errored badCells
    s) := .next h.rdiRx

theorem Fused.wtrExpiry {m} (h : Fused z s) : Fused z (wtrExpiry m s) := by
  unfold Machine.wtrExpiry
  split
  · exact h
  · exact .ite h.upd.refreshPaths h

theorem Fused.execWtrExpiry {link} (h : Fused z s) : FusedOut z (execWtrExpiry link s) := .next h.wtrExpiry

theorem Fused.sendOverhead {mfi} (h : Fused z s) : Fused z (s.sendOverhead mfi) :=
    .foldl h fun _ _ h1 => .foldl h1 fun _ _ h2 => h2.emitOut

theorem Fused.fixedCells {mfi} (h : Fused z s) : Fused z (s.fixedCells mfi) :=
    .ite (.foldl h fun _ _ h1 => h1.emitOut) (.ite (.foldl h fun _ _ h2 => h2.upd.emitOut) h)

theorem Fused.multiframe {mfi} (h : Fused z s) : Fused z (multiframe mfi s) := h.sendOverhead.fixedCells
theorem Fused.execMultiframe {mfi} (h : Fused z s) : FusedOut z (execMultiframe mfi s) := .next h.multiframe

theorem Fused.echoCell {g c} (h : Fused z s) : Fused z (echoCell g c s) := by
  unfold Machine.echoCell
  split
  · exact h
  · split
    · exact .ite h.emitOut h
    · exact .ite h (.ite h.upd.setF h.upd)

theorem Fused.execEchoCell {g cell} (h : Fused z s) : FusedOut z (execEchoCell g cell s) := .next h.echoCell

theorem Fused.perfCount {g es ses uas unavail} (h : Fused z s) : Fused z (s.perfCount g es ses uas unavail) :=
    .ite h h.bump.bump.bump.setF

theorem Fused.perfSecond {g} (h : Fused z s) : Fused z (perfSecond g s) := .ite h (.ite h.upd.perfCount h.upd.perfCount.notice)
theorem Fused.execPerfSecond {g} (h : Fused z s) : FusedOut z (execPerfSecond g s) := .next h.perfSecond

/-! ### Commands (Machine/CmdOps) -/

theorem Fused.command {c op f} (h : Fused z s) (hf : Fused z f) : Fused z (s.command c op f) := by
  unfold State.command
  split
  · exact h
  · split
    · exact h.complete
    · exact hf

theorem Fused.requestInDrain {c op a n} (h : Fused z s) : Fused z (s.requestInDrain c op a n) := .ite h.upd h

theorem Fused.writeCommand {c op a n f} (h : Fused z s) (hf : Fused z f) : Fused z (s.writeCommand c op a n f) :=
    .ite (h.requestInDrain.command hf) (h.command hf)

theorem Fused.answer {x : State × Nat} {c op} (h : Fused z x.1) : Fused z (State.answer x c op) := h.complete
theorem Fused.modeRefused (h : Fused z s) : Fused z (s.modeRefused).1 := h.upd
theorem Fused.enterRun {cause} (h : Fused z s) : Fused z (s.enterRun cause) := h.changeMode.upd
theorem Fused.enterShadow {cause} (h : Fused z s) : Fused z (s.enterShadow cause) := h.changeMode.upd.twinSettle
theorem Fused.reqRun (h : Fused z s) : Fused z (s.reqRun).1 := .iteFst h.changeMode.beginAcquire (.iteFst h.enterRun h.modeRefused)
theorem Fused.reqQuiet (h : Fused z s) : Fused z (s.reqQuiet).1 := .iteFst h.changeMode.upd.twinSettle h.modeRefused
theorem Fused.reqShadow (h : Fused z s) : Fused z (s.reqShadow).1 := .iteFst h.enterShadow h.modeRefused

theorem Fused.reqDrain (h : Fused z s) : Fused z s.reqDrain.1 := by
  unfold State.reqDrain
  split
  · dsimp only
    exact h.enterDrain
  · exact h.modeRefused

theorem Fused.reqFaultAck (h : Fused z s) : Fused z (s.reqFaultAck).1 := .iteFst h.upd h.modeRefused

theorem Fused.modeRequest {req} (h : Fused z s) : Fused z (s.modeRequest req).1 := by
  unfold State.modeRequest
  split
  · exact h.reqRun
  · exact h.reqQuiet
  · exact h.reqShadow
  · exact h.reqDrain
  · exact h.reqFaultAck
  · exact h.modeRefused

/-! ### DMA reads and notices of the host link (Machine/HostOps) -/

theorem Fused.sessionError {r count} (h : Fused z s) : Fused z (s.sessionError r count) := h.bump.setF.setF.notice
theorem Fused.setDmaRing {r x} (h : Fused z s) : Fused z (s.setDmaRing r x) := h.upd

theorem Fused.ringOff {r} (h : Fused z s) : Fused z (s.ringOff r) := by
  unfold State.ringOff
  dsimp only
  split
  · exact h.setF.setDmaRing.readEnd
  · exact h.setF

theorem Fused.ringStop {r count} (h : Fused z s) : Fused z (s.ringStop r count) := h.ringOff.sessionError
theorem Fused.signal {v} (h : Fused z s) : Fused z (s.signal v) := .ite (.ite h h.upd) h.emitOut
theorem Fused.sendPending (h : Fused z s) : Fused z (s.sendPending) := .foldl h fun _ _ h1 => .ite h1 h1.upd.emitOut
theorem Fused.setMsix {i v} (h : Fused z s) : Fused z (s.setMsix i v) := h.upd.sendPending
theorem Fused.firstNotice (h : Fused z s) : Fused z (s.firstNotice) := .ite h.upd.notice h

theorem Fused.ringEn {r on_} (h : Fused z s) : Fused z (s.ringEn r on_).1 := by
  unfold State.ringEn
  split
  · exact h
  · split
    · exact h.ringOff
    · split
      · exact h
      · dsimp only
        split
        · exact h.setWord.setF.firstNotice
        · exact h.setWord.setF

theorem Fused.doorbell {r count} (h : Fused z s) : Fused z (s.doorbell r count).1 := .iteFst h.sessionError h.setF
theorem Fused.writeWb {r} (h : Fused z s) : Fused z (s.writeWb r).1 := .iteFst h.emitOut h

/-! ### The service ledger and tag (Machine/Service) -/

theorem Fused.lget {b} (h : Fused z s) : Fused z (s.lget b).1 := by
  unfold State.lget
  dsimp only
  split
  · exact .ite h h.bump
  · exact .ite (.ite h h.bump) (.report (.ite h h.bump))

theorem Fused.readFor {c b} (h : Fused z s) : Fused z (s.readFor c b) := by
  unfold State.readFor
  split
  · rename_i e1
    exact (h.lget.ofFst e1).complete
  · rename_i e2
    exact (h.lget.ofFst e2).complete

theorem Fused.lwait {c b w} (h : Fused z s) : Fused z (s.lwait c b w) := h.upd
theorem Fused.ledgerRead {c b} (h : Fused z s) : Fused z (s.ledgerRead c b) := .ite h.complete (.ite h.lwait h.readFor)
theorem Fused.execLedgerRead {c b} (h : Fused z s) : FusedOut z (execLedgerRead c b s) := .next (h.command h.ledgerRead)

theorem Fused.ledgerWrite {c b d} (h : Fused z s) : Fused z (s.ledgerWrite c b d) :=
    .ite h.complete (.ite h.complete (.ite h.lwait h.lbegin))

theorem Fused.execLedgerWrite {c b data} (h : Fused z s) : FusedOut z (execLedgerWrite c b data s) := .next (h.command h.ledgerWrite)

theorem Fused.lserve {b l} (h : Fused z s) : Fused z (s.lserve b l) := by
  induction l generalizing s with
  | nil => exact h
  | cons w rest ih =>
    unfold State.lserve
    split
    · exact ih h
    · dsimp only
      split
      · exact h.upd.lbegin
      · exact ih h.upd.readFor

theorem Fused.lrelease {b} (h : Fused z s) : Fused z (s.lrelease b) := .ite h h.upd.lserve
theorem Fused.noticeOn {code unit payload} (h : Fused z s) : Fused z (s.noticeOn code unit payload) := .ite h h.notice
theorem Fused.fieldOut {b} (h : Fused z s) : Fused z (s.fieldOut b) := h.emitOut
theorem Fused.fieldErr {e} (h : Fused z s) : Fused z (s.fieldErr e) := h.fieldOut
theorem Fused.lend {op} (h : Fused z s) : Fused z (s.lend op) := h.upd.lrelease

theorem Fused.programmed {op} (h : Fused z s) : Fused z (s.programmed op) := by
  unfold State.programmed
  extract_lets _ _ s2
  have hs2 : Fused z s2 := by
    unfold s2
    split
    · exact h.setLcopy.complete
    · exact h.setLcopy
  exact .lend (.ite hs2.fieldOut.noticeOn hs2)

theorem Fused.programFailed {op} (h : Fused z s) : Fused z (s.programFailed op) := by
  unfold State.programFailed
  extract_lets _ s2 s3
  have hs2 : Fused z s2 := .noticeOn (.ite h.bump h.bump.report)
  have hs3 : Fused z s3 := by
    unfold s3
    split
    · exact hs2.complete
    · exact hs2
  exact .lend (.ite hs3.fieldErr hs3)

theorem Fused.ledgerProgrammed {b ok} (h : Fused z s) : Fused z (ledgerProgrammed b ok s) := by
  unfold Machine.ledgerProgrammed
  split
  · exact h
  · exact .ite h.programmed (.ite h.setLcopy.upd h.setLcopy.programFailed)

theorem Fused.execLedgerProgrammed {b ok} (h : Fused z s) : FusedOut z (execLedgerProgrammed b ok s) := .next h.ledgerProgrammed

theorem Fused.ledgerClaimTimeout {b} (h : Fused z s) : Fused z (ledgerClaimTimeout b s) := by
  unfold Machine.ledgerClaimTimeout
  split
  · exact h
  · exact .ite h h.upd.bump.complete

theorem Fused.execLedgerClaimTimeout {b} (h : Fused z s) : FusedOut z (execLedgerClaimTimeout b s) := .next h.ledgerClaimTimeout
theorem Fused.lifeCounterUpdate (h : Fused z s) : Fused z (lifeCounterUpdate s) := .ite h (.foldl h.upd fun _ _ h1 => h1.lupdate)
theorem Fused.execLifeCounterUpdate (h : Fused z s) : FusedOut z (execLifeCounterUpdate s) := .next h.lifeCounterUpdate
theorem Fused.fieldGone (h : Fused z s) : Fused z (s.fieldGone) := .foldl h.upd fun _ _ h1 => h1.setLcopy.lend
theorem Fused.fieldState {present} (h : Fused z s) : Fused z (fieldState present s) := .noticeOn (.ite h.setF h.setF.fieldGone)
theorem Fused.execFieldState {present} (h : Fused z s) : FusedOut z (execFieldState present s) := .next h.fieldState
theorem Fused.fieldCmd {f g} (h : Fused z s) (hg : Fused z g) : Fused z (s.fieldCmd f g) := .ite hg h
theorem Fused.countLocked {l} (h : Fused z s) : Fused z (s.countLocked l) := .ite h.bump h

theorem Fused.yieldClaim {b} (h : Fused z s) : Fused z (s.yieldClaim b) := by
  unfold State.yieldClaim
  split
  · exact h
  · dsimp only
    split
    · exact h.upd.lwait
    · exact h.upd.lretry

theorem Fused.readBlocks {opt l acc} (h : Fused z s) : Fused z (s.readBlocks opt l acc) := by
  induction l generalizing s acc with
  | nil => exact h.fieldOut
  | cons b rest ih =>
    unfold State.readBlocks
    split <;> rename_i e
    · exact ih (h.lget.ofFst e)
    · exact (h.lget.ofFst e).fieldErr

theorem Fused.fieldRead {f b n limit} (h : Fused z s) : Fused z (s.fieldRead f b n limit) := by
  unfold State.fieldRead
  dsimp only
  split
  · exact h.fieldErr
  · split
    · exact .fieldErr (.ite h.countLocked h)
    · exact h.readBlocks

theorem Fused.fieldWrite {f b d limit} (h : Fused z s) : Fused z (s.fieldWrite f b d limit) := by
  unfold State.fieldWrite
  split
  · exact h.fieldErr
  · split
    · exact h.fieldErr
    · split
      · exact .fieldErr (.ite h.countLocked h)
      · exact .ite h.yieldClaim.lbegin h.fieldErr

theorem Fused.execInventory {f} (h : Fused z s) : FusedOut z (execInventory f s) := .next (.ite h.fieldOut h)
theorem Fused.execStayQuiet {f} (h : Fused z s) : FusedOut z (execStayQuiet f s) := .next (.ite h.upd h)
theorem Fused.execReadSingleBlock {f b} (h : Fused z s) : FusedOut z (execReadSingleBlock f b s) := .next (h.fieldCmd h.fieldRead)
theorem Fused.execWriteSingleBlock {f b d} (h : Fused z s) : FusedOut z (execWriteSingleBlock f b d s) := .next (h.fieldCmd h.fieldWrite)

theorem Fused.execReadMultipleBlocks {f b n} (h : Fused z s) : FusedOut z (execReadMultipleBlocks f b n s) :=
    .next (h.fieldCmd h.fieldRead)

theorem Fused.execSelect {f} (h : Fused z s) : FusedOut z (execSelect f s) := .next (.ite h (.ite h.upd.fieldOut (.ite h.upd h)))
theorem Fused.execResetToReady {f} (h : Fused z s) : FusedOut z (execResetToReady f s) := .next (h.fieldCmd h.upd.fieldOut)
theorem Fused.execGetSystemInformation {f} (h : Fused z s) : FusedOut z (execGetSystemInformation f s) := .next (h.fieldCmd h.fieldOut)

theorem Fused.execExtendedReadSingleBlock {f b} (h : Fused z s) : FusedOut z (execExtendedReadSingleBlock f b s) :=
    .next (h.fieldCmd h.fieldRead)

theorem Fused.execExtendedWriteSingleBlock {f b d} (h : Fused z s) : FusedOut z (execExtendedWriteSingleBlock f b d s) :=
    .next (h.fieldCmd h.fieldWrite)

theorem Fused.execExtendedReadMultipleBlocks {f b n} (h : Fused z s) : FusedOut z (execExtendedReadMultipleBlocks f b n s) :=
    .next (h.fieldCmd h.fieldRead)

theorem Fused.execExtendedGetSystemInformation {f} (h : Fused z s) : FusedOut z (execExtendedGetSystemInformation f s) :=
    .next (h.fieldCmd h.fieldOut)

theorem Fused.execUnsupportedFieldCommand {f _code} (h : Fused z s) : FusedOut z (execUnsupportedFieldCommand f _code s) :=
    .next (h.fieldCmd h.fieldErr)

/-! ### DMA descriptors (Machine/Dma) -/

theorem Fused.writeDesc {r d moved st} (h : Fused z s) : Fused z (s.writeDesc r d moved st) :=
    .ite h.ringStop (.ite h.emitOut.emitOut.setF.bump.signal h.emitOut.emitOut.setF.bump)

theorem Fused.dmaNext {r} (h : Fused z s) : Fused z (s.dmaNext r) := by
  unfold State.dmaNext
  dsimp only
  split
  · split
    · exact h
    · split
      · exact h.setDmaRing.writeDesc
      · exact .ite h.setDmaRing.readIssue h.setDmaRing
  · exact h

theorem Fused.dmaAdvance {r} (h : Fused z s) : Fused z (s.dmaAdvance r) := .foldl h fun _ _ h1 => h1.dmaNext

theorem Fused.dmaFinish {r st moved} (h : Fused z s) : Fused z (s.dmaFinish r st moved) := by
  unfold State.dmaFinish
  dsimp only
  split
  · exact h
  · exact h.setDmaRing.readEnd.writeDesc.dmaAdvance

theorem Fused.setDmaRun {r d} (h : Fused z s) : Fused z (s.setDmaRun r d) := h.setDmaRing

theorem Fused.descriptorFetch {r ans} (h : Fused z s) : Fused z (descriptorFetch r ans s) := by
  unfold Machine.descriptorFetch
  refine .ite h (.withRead h fun h1 => .ite h1.ringStop ?_)
  split
  · exact h1.ringStop
  · exact h1.setDmaRing.dmaAdvance

theorem Fused.execDescriptorFetch {r ans} (h : Fused z s) : FusedOut z (execDescriptorFetch r ans s) := .next h.descriptorFetch

theorem Fused.dmaRemote {r d ws} (h : Fused z s) : Fused z (s.dmaRemote r d ws) := by
  unfold State.dmaRemote
  dsimp only
  exact .ite h.dmaFinish (.ite h.dmaFinish (.ite h.dmaFinish (.foldl h.setDmaRun fun _ _ h3 => h3.benchAsk)))

theorem Fused.dmaAck {r st} (h : Fused z s) : Fused z (s.dmaAck r st) := by
  unfold State.dmaAck
  split
  · exact h
  · exact .ite h.dmaFinish h.setDmaRun

theorem Fused.dmaToQueue {r ans} (h : Fused z s) : Fused z (dmaToQueue r ans s) := by
  unfold Machine.dmaToQueue
  split
  · exact h
  · dsimp only
    split
    · exact h
    · split
      · exact h.readEnd.dmaFinish
      · exact .ite h.readEnd.dmaRemote h.readEnd.qStream.dmaFinish

theorem Fused.execDmaToQueue {r ans} (h : Fused z s) : FusedOut z (execDmaToQueue r ans s) := .next h.dmaToQueue

theorem Fused.dmaFromQueue {r} (h : Fused z s) : Fused z (dmaFromQueue r s) := by
  unfold Machine.dmaFromQueue
  split
  · exact h
  · dsimp only
    split
    · exact h
    · split
      · exact h.eccFlush.dmaFinish
      · split
        · exact h
        · exact .ite h.dmaFinish h.qMark.qConsume.emitOut.setDmaRun.readIssue

theorem Fused.execDmaFromQueue {r} (h : Fused z s) : FusedOut z (execDmaFromQueue r s) := .next h.dmaFromQueue

theorem Fused.dmaWriteResponse {r} (h : Fused z s) : Fused z (dmaWriteResponse r s) := by
  unfold Machine.dmaWriteResponse
  split
  · exact h
  · exact .ite h (.dmaFinish (.ite h.readEnd.qRelease h.readEnd))

theorem Fused.execDmaWriteResponse {r} (h : Fused z s) : FusedOut z (execDmaWriteResponse r s) := .next h.dmaWriteResponse

theorem Fused.dmaTimeout {r} (h : Fused z s) : Fused z (dmaTimeout r s) := by
  unfold Machine.dmaTimeout
  split
  · exact h
  · exact .ite h (.dmaFinish (.ite h.readEnd.qRewind h.readEnd))

theorem Fused.execDmaTimeout {r} (h : Fused z s) : FusedOut z (execDmaTimeout r s) := .next h.dmaTimeout

theorem Fused.exchangeEnd {r st moved} (h : Fused z s) : Fused z (s.exchangeEnd r st moved) := by
  unfold State.exchangeEnd
  split
  · exact h
  · exact .ite h.dmaFinish h.setDmaRun.readIssue

theorem Fused.dumpBlock {b} (h : Fused z s) : Fused z (s.dumpBlock b).1 := by
  unfold State.dumpBlock
  split
  · exact h
  · split <;> rename_i e <;> exact h.lget.ofFst e

theorem Fused.dumpFrom {r addr d b n} (h : Fused z s) : Fused z (s.dumpFrom r addr d b n) := by
  induction n generalizing s d b with
  | zero => exact h.exchangeEnd
  | succ n ih =>
    unfold State.dumpFrom
    split
    · split
      · exact h.setDmaRun
      · exact .ite h.exchangeEnd h.setDmaRun
    · split <;> rename_i e
      · exact (h.dumpBlock.ofFst e).exchangeEnd
      · exact ih (h.dumpBlock.ofFst e).emitOut.setDmaRun

theorem Fused.ledgerDump {cmd} (h : Fused z s) : Fused z (ledgerDump cmd s) := by
  unfold Machine.ledgerDump
  dsimp only
  split
  · exact h
  · exact .ite h (.ite h.dumpFrom (h.withRead (fun h1 => .ite h1.dmaFinish (.ite h1.dmaFinish h1.dumpFrom))))

theorem Fused.execLedgerDump {cmd} (h : Fused z s) : FusedOut z (execLedgerDump cmd s) := .next h.ledgerDump

/-! ### Register writes (Machine/RegWrite) -/

theorem Fused.fuseCtl {v} (h : Fused z s) : Fused z (s.fuseCtl v) :=
  .ite (h.updFuse id) (.ite (.ite (h.updFuse id) (h.updFuse id)) (h.updFuse id))

theorem Fused.qctlOps {q v} (h : Fused z s) : Fused z (s.qctlOps q v).1 := by
  unfold State.qctlOps
  extract_lets s1 s2 s3
  have hs1 : Fused z s1 := .ite h.qRelease h
  have hs2 : Fused z s2 := .ite hs1.qMark hs1
  have hs3 : Fused z s3 := .ite hs2.qRewind hs2
  exact .ite (.setF (.setF (.iteFst hs3.askFlush hs3))) (.iteFst hs3.askFlush hs3)

theorem Fused.qctl {q v} (h : Fused z s) : Fused z (s.qctl q v).1 := by
  unfold State.qctl
  refine .iteFst h (.iteFst ?_ h.qctlOps)
  split
  · exact h
  · rename_i e
    exact (h.qAdvance e).qctlOps

theorem Fused.setCapture {p v} (h : Fused z s) : Fused z (s.setCapture p v) :=
    .ite h.setF.setF.setStream (.ite h.setF.setF h.setF.setF.setStream)

theorem Fused.setEp0 {e v} (h : Fused z s) : Fused z (s.setEp0 e v) := h.setWord
theorem Fused.abortClear (h : Fused z s) : Fused z (s.abortClear) := h.upd
theorem Fused.stepCtl {v} (h : Fused z s) : Fused z (s.stepCtl v).1 := .ite (.stepAccept (.iteFst h.stepSet h)) (.iteFst h.stepSet h)

theorem Fused.writeReg {hh a v} (h : Fused z s) : Fused z (s.writeReg hh a v).1 := by
  unfold State.writeReg
  dsimp only
  split
  · exact .ite h.upd h
  · exact h.modeRequest
  · exact .ite h.upd h
  · exact h.abortClear
  · exact h.updFuse id
  · exact h.fuseCtl
  · exact h.stepCtl
  · exact h.setRxGain.setTxAtt
  · exact h.setCapture
  · exact h.setRun.rxFollowLane
  · exact h.setWord.noteBlank
  · exact h.upd
  · exact .ite h.setF h
  · exact h.setWord.setQst
  · exact h.qctl
  · exact h.setF.setF.ringEn
  · exact h.setF.ringEn
  · exact h.setF.setF.ringEn
  · exact h.setQword
  · exact h.epHostState.setEp0
  · exact h.setWord

theorem Fused.reportST {who a v} (h : Fused z s) : Fused z (s.reportST who a v) := h.bump.notice

theorem Fused.writeWord {who a v} (h : Fused z s) : Fused z (s.writeWord who a v).1 := by
  unfold State.writeWord
  split
  · exact h
  · exact .ite h.writeReg.reportST h.writeReg

theorem Fused.writeWords {who a l} (h : Fused z s) : Fused z (s.writeWords who a l).1 := by
  induction l generalizing s a with
  | nil => exact h
  | cons w ws ih => exact ih h.writeWord

theorem Fused.cmdWrite {n a ws} (h : Fused z s) : Fused z (s.cmdWrite n a ws).1 := by
  unfold State.cmdWrite
  split
  · exact h
  · exact h.writeWords

theorem Fused.writeCmd {c a v} (h : Fused z s) : Fused z (s.writeCmd c a v) := h.writeCommand h.cmdWrite.answer

theorem Fused.bar0Write {off v} (h : Fused z s) : Fused z (s.bar0Write off v) := by
  unfold State.bar0Write
  split
  · exact h
  · split
    · split
      · exact h
      · exact h.writeWord
    · exact .ite h.setMsix h

theorem Fused.srcWrite {src a v} (h : Fused z s) : Fused z (s.srcWrite src a v) := by
  unfold State.srcWrite
  split
  · exact .ite h.writeCmd (h.command h.complete)
  · exact h.bar0Write

theorem Fused.execRegisterWrite {src a v} (h : Fused z s) : FusedOut z (execRegisterWrite src a v s) := .next h.srcWrite
theorem Fused.execCounterClear {c a v} (h : Fused z s) : FusedOut z (execCounterClear c a v s) := .next h.srcWrite
theorem Fused.execW1cClear {src a mask racing} (h : Fused z s) : FusedOut z (execW1cClear src a mask racing s) := .next h.srcWrite
theorem Fused.execOptagHwClear {c} (h : Fused z s) : FusedOut z (execOptagHwClear c s) := .next h.writeCmd
theorem Fused.execPoolHwClear {c} (h : Fused z s) : FusedOut z (execPoolHwClear c s) := .next h.writeCmd
theorem Fused.execAbortinfoClear {c v} (h : Fused z s) : FusedOut z (execAbortinfoClear c v s) := .next h.writeCmd
theorem Fused.execStepSet {c} (h : Fused z s) : FusedOut z (execStepSet c s) := .next h.writeCmd
theorem Fused.execStepAccept {c} (h : Fused z s) : FusedOut z (execStepAccept c s) := .next h.writeCmd
theorem Fused.execFuseArm {c} (h : Fused z s) : FusedOut z (execFuseArm c s) := .next h.writeCmd
theorem Fused.execFuseBlow {c} (h : Fused z s) : FusedOut z (execFuseBlow c s) := .next h.writeCmd
theorem Fused.execFuseProgramDone (h : Fused z s) : FusedOut z (execFuseProgramDone s) := .next (.ite (h.updFuse fun _ => rfl) h)
theorem Fused.execQctlAdvance {c q count} (h : Fused z s) : FusedOut z (execQctlAdvance c q count s) := .next h.writeCmd
theorem Fused.execQctlRelease {c q} (h : Fused z s) : FusedOut z (execQctlRelease c q s) := .next h.writeCmd
theorem Fused.execQctlMark {c q} (h : Fused z s) : FusedOut z (execQctlMark c q s) := .next h.writeCmd
theorem Fused.execQctlRewind {c q} (h : Fused z s) : FusedOut z (execQctlRewind c q s) := .next h.writeCmd
theorem Fused.execQctlFlush {c q} (h : Fused z s) : FusedOut z (execQctlFlush c q s) := .next h.writeCmd
theorem Fused.execQctlClrcnt {c q} (h : Fused z s) : FusedOut z (execQctlClrcnt c q s) := .next h.writeCmd
theorem Fused.execQcfgStaleWrite {c q v} (h : Fused z s) : FusedOut z (execQcfgStaleWrite c q v s) := .next h.writeCmd
theorem Fused.execLaneRun {c l run} (h : Fused z s) : FusedOut z (execLaneRun c l run s) := .next h.writeCmd
theorem Fused.execLpgainWrite {c p v} (h : Fused z s) : FusedOut z (execLpgainWrite c p v s) := .next h.writeCmd

theorem Fused.ringEnable {src r v} (h : Fused z s) : Fused z (ringEnable src r v s) := by
  unfold Machine.ringEnable
  split
  · exact h.srcWrite
  · split
    · exact .ite h.bar0Write h
    · exact h.bar0Write
    · exact h

theorem Fused.execRingEnable {src r v} (h : Fused z s) : FusedOut z (execRingEnable src r v s) := .next h.ringEnable
theorem Fused.execEpStateActive {c e v} (h : Fused z s) : FusedOut z (execEpStateActive c e v s) := .next h.writeCmd
theorem Fused.execEpStateFree {c e v} (h : Fused z s) : FusedOut z (execEpStateFree c e v s) := .next h.writeCmd
theorem Fused.execHlCdb {n count} (h : Fused z s) : FusedOut z (execHlCdb n count s) := .next h.doorbell
theorem Fused.execHlNdb {count} (h : Fused z s) : FusedOut z (execHlNdb count s) := .next h.doorbell

theorem Fused.hlDdb {r count} (h : Fused z s) : Fused z (hlDdb r count s) := by
  unfold Machine.hlDdb
  split
  · rename_i e1
    exact (h.doorbell.ofFst e1).setDmaRing
  · rename_i e2
    exact (h.doorbell.ofFst e2)

theorem Fused.execHlDdb {r count} (h : Fused z s) : FusedOut z (execHlDdb r count s) := .next h.hlDdb
theorem Fused.setShadows {a l} (h : Fused z s) : Fused z (s.setShadows a l) := h.upd
theorem Fused.readOut {l} (h : Fused z s) : Fused z (s.readOut l) := h.upd
theorem Fused.latch {a req ws} (h : Fused z s) : Fused z (s.latch a req ws) := .ite h.setShadows (.ite h.setShadows.bump h.setShadows)
theorem Fused.nowLoRead {req a wide} (h : Fused z s) : Fused z (nowLoRead req a wide s) := .ite h.readOut h.latch.readOut
theorem Fused.execNowLoRead {req a wide} (h : Fused z s) : FusedOut z (execNowLoRead req a wide s) := .next h.nowLoRead

theorem Fused.rsShadowRead {req a} (h : Fused z s) : Fused z (rsShadowRead req a s) := by
  unfold Machine.rsShadowRead
  split
  · exact h.readOut
  · split
    · exact h.readOut
    · exact h.setShadows.readOut

theorem Fused.execRsShadowRead {req a} (h : Fused z s) : FusedOut z (execRsShadowRead req a s) := .next h.rsShadowRead

/-! ### Commands of a host (Machine/HostCmd) -/

theorem Fused.execNop {c payload} (h : Fused z s) : FusedOut z (execNop c payload s) := .next (h.command h.complete)
theorem Fused.readCmd {c a n} (h : Fused z s) : Fused z (s.readCmd c a n) := .ite h.complete (.ite h.complete h.complete)
theorem Fused.execRead {c a n} (h : Fused z s) : FusedOut z (execRead c a n s) := .next (h.command h.readCmd)
theorem Fused.writeStatus {n a ws} (h : Fused z s) : Fused z (s.writeStatus n a ws).1 := .iteFst h (.iteFst h h.cmdWrite)
theorem Fused.execWrite {c a ws} (h : Fused z s) : FusedOut z (execWrite c a ws s) := .next (h.writeCommand h.writeStatus.answer)

theorem Fused.readBlock {c a host len} (h : Fused z s) : Fused z (s.readBlock c a host len) := by
  unfold State.readBlock
  split
  · exact h.complete
  · exact h.withRead (fun h1 => h1.emitOut.complete)

theorem Fused.execReadBlock {c a host len} (h : Fused z s) : FusedOut z (execReadBlock c a host len s) := .next (h.command h.readBlock)

theorem Fused.writeGroups {k n a ws st moved} (h : Fused z s) : Fused z (State.writeGroups k s n a ws st moved).1 := by
  induction k generalizing s a ws st moved with
  | zero => exact h
  | succ k ih =>
    unfold State.writeGroups
    refine .iteFst h ?_
    dsimp only
    split
    · exact h
    · exact ih h.writeWords

theorem Fused.writeBlock {c a host len ans} (h : Fused z s) : Fused z (s.writeBlock c a host len ans) := by
  unfold State.writeBlock
  split
  · exact h.complete
  · refine .withRead h (fun h2 => ?_)
    split
    · exact h2.complete
    · exact h2.writeGroups.complete

theorem Fused.execWriteBlock {c a host len ans} (h : Fused z s) : FusedOut z (execWriteBlock c a host len ans s) :=
    .next (h.writeCommand h.writeBlock)

theorem Fused.enqueueStatus {n a start ws} (h : Fused z s) : Fused z (s.enqueueStatus n a start ws).1 := by
  unfold State.enqueueStatus
  split
  · exact h
  · exact .iteFst h h.qProduce

theorem Fused.execEnqueue {c a start ws} (h : Fused z s) : FusedOut z (execEnqueue c a start ws s) :=
    .next (h.command h.enqueueStatus.answer)

/-! ### Events of the receive bench (Machine/Sample) -/

theorem Fused.rfChanges {n c flags chg} (h : Fused z s) : Fused z (s.rfChanges n c flags chg) := by
  unfold State.rfChanges
  extract_lets _ _ s1
  have hs1 : Fused z s1 := .ite h.rfSettle h
  exact .setRfLink (.ite hs1.rfMarkInv (.ite hs1 hs1.rfSettle))

theorem Fused.rfLast {n c} (h : Fused z s) : Fused z (s.rfLast n c) := h.setRfLink.setF.setF
theorem Fused.rfClip {n c flags} (h : Fused z s) : Fused z (s.rfClip n c flags) := .ite h.setRfLink h
theorem Fused.rfFrame {n c flags chg} (h : Fused z s) : Fused z (s.rfFrame n c flags chg) := h.rfLast.rfChanges.rfClip.chanTo.streamCells
theorem Fused.rfMap {n c} (h : Fused z s) : Fused z (s.rfMap n c) := h.upd.setRfLink
theorem Fused.rfCandidate {n ch} (h : Fused z s) : Fused z (s.rfCandidate n ch) := h.setRfLink

theorem Fused.rfAlign {n x ch} (h : Fused z s) : Fused z (s.rfAlign n x ch) :=
    h.rfMap.chanIdle.setRfLink.rfSettle.rfChanges.rfFrame.rfState

theorem Fused.rfRealign {n x ch} (h : Fused z s) : Fused z (s.rfRealign n x ch) := by
  unfold State.rfRealign
  dsimp only
  exact .notice (.bump (.rfState (.rfFrame (.rfFrame (.rfSettle (.ite (.chanTo (.ite h.setRfLink h.rfMap)) h.chanTo.setRfLink))))))

theorem Fused.rfAligned {n ch} (h : Fused z s) : Fused z (s.rfAligned n ch) := .ite h (.rfFrame (.ite h.chanTo.gapDemods h))

theorem Fused.rfGood {n ch} (h : Fused z s) : Fused z (s.rfGood n ch) := by
  unfold State.rfGood
  dsimp only
  split
  · split
    · exact h.rfAlign
    · exact h.rfCandidate
  · exact h.rfAligned
  · split
    · exact h.bump
    · split
      · exact h.rfRealign
      · exact h.rfCandidate
  · exact h

theorem Fused.rfRxFrame {n ch} (h : Fused z s) : Fused z (rfRxFrame n ch s) :=
    .ite h (.ite h.chanGap.rfGood (.ite h.chanGap.setRfLink.bump h.chanGap.setRfLink))

theorem Fused.execRfRxFrame {n ch} (h : Fused z s) : FusedOut z (execRfRxFrame n ch s) := .next h.rfRxFrame

theorem Fused.rfFrameMissing {n} (h : Fused z s) : Fused z (rfFrameMissing n s) := by
  unfold Machine.rfFrameMissing
  dsimp only
  split
  · exact h
  · exact .ite h.setRfLink.rfState.gapDemods.chanGap h

theorem Fused.execRfFrameMissing {n} (h : Fused z s) : FusedOut z (execRfFrameMissing n s) := .next h.rfFrameMissing

theorem Fused.rfcLaunched {k e resp} (h : Fused z s) : Fused z (s.rfcLaunched k e resp) := by
  unfold State.rfcLaunched
  dsimp only
  split
  · exact .ite h.launchDone.bump h.launchDone.bump
  · split
    · exact h.launchDone
    · split
      · exact .lqUpdate (.ite h.emitOut.bump h.emitOut)
      · exact .bump (.launchDone (.ite h.emitOut.bump h.emitOut))
      · exact .ite (.lqUpdate (.ite h.emitOut.bump h.emitOut)) (.bump (.launchDone (.ite h.emitOut.bump h.emitOut)))

theorem Fused.rfcFault {w} (h : Fused z s) : Fused z (s.rfcFault w) := by
  unfold State.rfcFault
  split
  · exact h.txFail
  · exact h

theorem Fused.rfcAccepted {w} (h : Fused z s) : Fused z (s.rfcAccepted w) := .ite h.lqUpdate.rfcApplied h.lqUpdate.upd

theorem Fused.rfcOther {k w resp} (h : Fused z s) : Fused z (s.rfcOther k w resp) := by
  unfold State.rfcOther
  dsimp only
  split
  · exact h.upd
  · split
    · exact .ite h.upd.emitOut.upd h.upd.emitOut.rfcAccepted
    · exact h.upd.emitOut.bump.rfcFault
    · exact .ite h.upd.emitOut.bump.rfcFault h.upd.emitOut.upd.bump.lqUpdate

theorem Fused.rfcTransaction {k resp} (h : Fused z s) : Fused z (rfcTransaction k resp s) := by
  unfold Machine.rfcTransaction
  split
  · exact h.rfcLaunched
  · split
    · exact h.rfcOther
    · exact h

theorem Fused.execRfcTransaction {k resp} (h : Fused z s) : FusedOut z (execRfcTransaction k resp s) := .next h.rfcTransaction
theorem Fused.laneParityError {lane word} (h : Fused z s) : Fused z (laneParityError lane word s) := h.setRun.setF.report
theorem Fused.execLaneParityError {lane word} (h : Fused z s) : FusedOut z (execLaneParityError lane word s) := .next h.laneParityError

theorem Fused.captureItem {p levels} (h : Fused z s) : Fused z (captureItem p levels s) := by
  unfold Machine.captureItem
  dsimp only
  split
  · exact h
  · split
    · split
      · rename_i e1
        exact (h.setStream.bump.bump.qHwItem.ofFst e1)
      · rename_i e2
        exact (h.setStream.bump.bump.qHwItem.ofFst e2).bump
    · exact h

theorem Fused.execCaptureItem {p levels} (h : Fused z s) : FusedOut z (execCaptureItem p levels s) := .next h.captureItem

/-! ### The launch queue (Machine/Launch) -/

theorem Fused.hostInsert {e} (h : Fused z s) : Fused z (s.hostInsert e).1 := .iteFst h.lqInsert h
theorem Fused.copyInsert {e} (h : Fused z s) : Fused z (s.copyInsert e).1 := .iteFst h.lqPut h.lqCountRefusal
theorem Fused.withdrawCopies {l} (h : Fused z s) : Fused z (s.withdrawCopies l) := .foldl h fun _ _ h1 => h1.benchAsk

theorem Fused.launchSettle {l} (h : Fused z s) : Fused z (s.launchSettle l) := by
  unfold State.launchSettle
  split
  · exact h.upd
  · split
    · exact h.withdrawCopies.complete
    · exact .ite h.copyInsert.upd.complete h.copyInsert.withdrawCopies.complete

theorem Fused.launchAnswer {c m st hh} (h : Fused z s) : Fused z (s.launchAnswer c m st hh) := by
  unfold State.launchAnswer
  split
  · exact h
  · exact h.upd.launchSettle

theorem Fused.launchBench {c e} (h : Fused z s) : Fused z (s.launchBench c e) :=
  .ite h.lqCountRefusal.complete (.launchSettle (.foldlFst h fun _ _ h1 => .iteFst h1.benchAsk h1.benchAsk))

theorem Fused.launchCmd {c w} (h : Fused z s) : Fused z (s.launchCmd c w) := .ite h.launchBench h.hostInsert.complete
theorem Fused.execLaunch {c entry} (h : Fused z s) : FusedOut z (execLaunch c entry s) := .next (h.command h.launchCmd)
theorem Fused.unread {e} (h : Fused z s) : Fused z (s.unread e) := .ite h.qBack h
theorem Fused.cancelEntry {e} (h : Fused z s) : Fused z (s.cancelEntry e) := .ite h.unread.dropRamp.dropOfs.launchDone h.endEntry

theorem Fused.cancelHandle {hh words} (h : Fused z s) : Fused z (s.cancelHandle hh words).1 := by
  unfold State.cancelHandle
  dsimp only
  split
  · exact .iteFst h (.iteFst h h.cancelEntry)
  · split
    · exact .iteFst h h
    · exact h

theorem Fused.cancelAnswer {c st} (h : Fused z s) : Fused z (s.cancelAnswer c st) := by
  unfold State.cancelAnswer
  split
  · exact h
  · exact .ite h.upd.complete h.upd

theorem Fused.carryCancel {c hh st} (h : Fused z s) : Fused z (s.carryCancel c hh st) := by
  unfold State.carryCancel
  extract_lets x
  have hx : Fused z x.1 := .foldlFst h fun _ _ h1 => .iteFst h1.benchAsk h1.benchAsk
  exact .ite hx.complete hx.upd

theorem Fused.launchCancelCmd {c w hh} (h : Fused z s) : Fused z (s.launchCancelCmd c w hh) := by
  unfold State.launchCancelCmd
  dsimp only
  split
  · exact h.cancelHandle.carryCancel
  · exact h.cancelHandle.complete

theorem Fused.execLaunchCancel {c entry handle} (h : Fused z s) : FusedOut z (execLaunchCancel c entry handle s) :=
    .next (h.command h.launchCancelCmd)

theorem Fused.launchStage {i} (h : Fused z s) : Fused z (launchStage i s) := by
  unfold Machine.launchStage
  split
  · exact h
  · split
    · exact .ite h.lqUpdate h
    · exact h

theorem Fused.execLaunchStage {e} (h : Fused z s) : FusedOut z (execLaunchStage e s) := .next h.launchStage
theorem Fused.plcBand {e} (h : Fused z s) : Fused z (s.plcBand e) := .ite h.launchDone h.setF.rxFollowPort.launchDone
theorem Fused.execPlcBand {e} (h : Fused z s) : FusedOut z (execPlcBand e s) := .next (h.runAction h.plcBand)

theorem Fused.linkAction {e} (h : Fused z s) : Fused z (s.linkAction e) :=
    .ite h.rfcApplied.launchDone (.ite h.launchDone.bump h.launchDone.bump)

theorem Fused.execRfTune {e} (h : Fused z s) : FusedOut z (execRfTune e s) := .next (h.runAction h.linkAction)
theorem Fused.gain {e} (h : Fused z s) : Fused z (s.gain e) := .ite h.linkAction (.ite h.setTxAtt.launchDone h.setRxGain.launchDone)
theorem Fused.execGain {e} (h : Fused z s) : FusedOut z (execGain e s) := .next (h.runAction h.gain)
theorem Fused.execRfProfile {e} (h : Fused z s) : FusedOut z (execRfProfile e s) := .next (h.runAction h.linkAction)
theorem Fused.eventEdge {e} (h : Fused z s) : Fused z (s.eventEdge e) := .ite h.launchDone h.upd.emitOut.launchDone
theorem Fused.execEventEdge {e} (h : Fused z s) : FusedOut z (execEventEdge e s) := .next (h.runAction h.eventEdge)
theorem Fused.marker {e} (h : Fused z s) : Fused z (s.marker e) := .launchDone (.ite h.setStream h.setRfLink)
theorem Fused.execMarker {e} (h : Fused z s) : FusedOut z (execMarker e s) := .next (h.runAction h.marker)

/-! ### Structures (Machine/StructOps) -/

theorem Fused.imageWrite {a v} (h : Fused z s) : Fused z (s.imageWrite a v) := by
  unfold State.imageWrite
  split
  · exact h.setWord
  · exact h

theorem Fused.imageWrites {l} (h : Fused z s) : Fused z (s.imageWrites l) := .foldl h fun _ _ h1 => h1.imageWrite
theorem Fused.factoryStructure (h : Fused z s) : Fused z (s.factoryStructure) := .foldl h fun _ _ h1 => h1.imageWrite

/-! ### Loads (Machine/LoadOps) -/

theorem Fused.writeSummary (h : Fused z s) : Fused z (s.writeSummary) := h.lupdate.lupdate
theorem Fused.writeExtra {x} (h : Fused z s) : Fused z (s.writeExtra x) := h.lupdate.lupdate
theorem Fused.showPipes (h : Fused z s) : Fused z (s.showPipes) := .foldl h fun _ _ h1 => h1.setF.setF
theorem Fused.runLanes (h : Fused z s) : Fused z (s.runLanes) := .foldl h fun _ _ h1 => .ite h1.setF h1

/-- The structure that goes live finds queue memory clear (R47). -/
theorem Fused.emptyQueues {x} (h : Fused z s) : Fused z { s with qmem := [], queues := {}, struct_ := x } := h.upd

theorem Fused.goLive {key step} (h : Fused z s) : Fused z (s.goLive key step) :=
  .foldl (.foldl h.emptyQueues.showPipes.runLanes fun _ _ h1 => h1.capRealign) fun _ _ h1 => h1.domainComesOn

theorem Fused.loadOver (h : Fused z s) : Fused z (s.loadOver) := h.upd

theorem Fused.loadFail {cause type} (h : Fused z s) : Fused z (s.loadFail cause type) := by
  unfold State.loadFail
  dsimp only
  exact h.loadOver.factoryStructure.goLive.setWord.setF.setF.setF.setF.setWord.setWord.writeSummary.writeExtra.notice.changeMode.upd

theorem Fused.built {im} (h : Fused z s) : Fused z (s.built im) := h.factoryStructure.imageWrites

theorem Fused.loadImage {im} (h : Fused z s) : Fused z (s.loadImage im) := by
  unfold State.loadImage
  extract_lets s1 s2 s3
  have h2 : Fused z s2 := h.loadOver.built.goLive.setWord.setF.setF
  have h3 : Fused z s3 := h2.setF.setWord.setWord
  exact h3.writeSummary.writeExtra.changeMode

theorem Fused.checkLoaded {b avail} (h : Fused z s) : Fused z (s.checkLoaded b avail) := by
  unfold State.checkLoaded
  split
  · exact h.loadFail
  · split
    · exact h.loadFail
    · exact h.loadImage

/-! ### Power-line reception (Machine/PlcRx) -/

theorem Fused.plcDetect {p b metric end_} (h : Fused z s) : Fused z (plcDetect p b metric end_ s) := .ite h.setRx.bump h
theorem Fused.execPlcDetect {p w} (h : Fused z s) : FusedOut z (execPlcDetect p w s) := .next h.plcDetect

theorem Fused.plcSyncm {p b deep start} (h : Fused z s) : Fused z (plcSyncm p b deep start s) := by
  unfold Machine.plcSyncm
  dsimp only
  split
  · exact .ite h.setRx h
  · exact h

theorem Fused.execPlcSyncm {p b deep start} (h : Fused z s) : FusedOut z (execPlcSyncm p b deep start s) := .next h.plcSyncm

theorem Fused.plcSyncTimeout {p b} (h : Fused z s) : Fused z (plcSyncTimeout p b s) := by
  unfold Machine.plcSyncTimeout
  dsimp only
  split
  · exact .ite h.setRx.bump h
  · exact h

theorem Fused.execPlcSyncTimeout {p b} (h : Fused z s) : FusedOut z (execPlcSyncTimeout p b s) := .next h.plcSyncTimeout

theorem Fused.plcHeaderDecided {p b header} (h : Fused z s) : Fused z (plcHeaderDecided p b header s) := by
  unfold Machine.plcHeaderDecided
  dsimp only
  split
  · split
    · exact h
    · split
      · exact h.setRx
      · exact h.setRx.bump
  · exact h

theorem Fused.execPlcHeaderDecided {p b header} (h : Fused z s) : FusedOut z (execPlcHeaderDecided p b header s) :=
    .next h.plcHeaderDecided

theorem Fused.plcAckIn {p b psdu} (h : Fused z s) : Fused z (s.plcAckIn p b psdu) := by
  unfold State.plcAckIn
  dsimp only
  split
  · exact h
  · exact .ite h.ackMissed h.releaseAttempt

theorem Fused.plcOweAck {p b psdu ft mode frameEnd} (h : Fused z s) : Fused z (s.plcOweAck p b psdu ft mode frameEnd) := .ite h.setPchan h

theorem Fused.plcDecoded {hh b r rx psdu} (h : Fused z s) : Fused z (s.plcDecoded hh b r rx psdu) := by
  unfold State.plcDecoded
  dsimp only
  split
  · exact h.plcAckIn
  · exact h
  · exact .ite h.bump (.ite h.plcOweAck.bump h.plcOweAck.frameIn)

theorem Fused.plcFrameDue {p b rx} (h : Fused z s) : Fused z (plcFrameDue p b rx s) := by
  unfold Machine.plcFrameDue
  dsimp only
  split
  · exact h
  · split
    · exact h
    · split
      · exact h.setRx.bump.bump.bump
      · exact .ite h h.setRx.bump.bump.setF.setF.bump.plcDecoded

theorem Fused.execPlcFrameDue {p b rx} (h : Fused z s) : FusedOut z (execPlcFrameDue p b rx s) := .next h.plcFrameDue
theorem Fused.plcSuspendEnd {p} (h : Fused z s) : Fused z (plcSuspendEnd p s) := .ite h (.foldl h fun _ _ h1 => .ite h1.rxTo h1)
theorem Fused.execPlcSuspendEnd {p} (h : Fused z s) : FusedOut z (execPlcSuspendEnd p s) := .next h.plcSuspendEnd

/-! ### Chirp frames (Machine/Chirp) -/

theorem Fused.chirpDetect {n ch sf bin start ratio power} (h : Fused z s) : Fused z (chirpDetect n ch sf bin start ratio power s) :=
    .ite h (.ite h.bump.bump h.bump.upd)

theorem Fused.execChirpDetect {n ch sf bin start m} (h : Fused z s) : FusedOut z (execChirpDetect n ch sf bin start m s) :=
    .next h.chirpDetect

theorem Fused.grantLocal {d u} (h : Fused z s) : Fused z (s.grantLocal d u) := .ite h.setDemods h.setDemods.bump
theorem Fused.grantCredit {d m} (h : Fused z s) : Fused z (s.grantCredit d m) := h.upd.setF.setDemods.benchPost.streamCells

theorem Fused.allocate {d} (h : Fused z s) : Fused z (s.allocate d) := by
  unfold State.allocate
  dsimp only
  split
  · exact .ite h.bump h.grantLocal
  · split
    · split
      · exact h.grantCredit
      · exact h.bump
    · exact h.bump

theorem Fused.demodGrant {n ch sf} (h : Fused z s) : Fused z (demodGrant n ch sf s) := by
  unfold Machine.demodGrant
  split
  · exact h
  · exact .ite h.upd.allocate h

theorem Fused.execDemodGrant {n ch sf} (h : Fused z s) : FusedOut z (execDemodGrant n ch sf s) := .next h.demodGrant
theorem Fused.poolHwClear (h : Fused z s) : Fused z (poolHwClear s) := h.setF
theorem Fused.changeDemod {d x} (h : Fused z s) : Fused z (s.changeDemod d x) := h.setDemods

theorem Fused.syncDecided {u v0 v1 delim syncT} (h : Fused z s) : Fused z (syncDecided u v0 v1 delim syncT s) := by
  unfold Machine.syncDecided
  split
  · exact h
  · exact .ite h (.ite h.changeDemod h.endLent)

theorem Fused.execSyncDecided {d v0 v1 delim syncT} (h : Fused z s) : FusedOut z (execSyncDecided d v0 v1 delim syncT s) :=
    .next h.syncDecided

theorem Fused.firstBlockDecided {u values} (h : Fused z s) : Fused z (firstBlockDecided u values s) := by
  unfold Machine.firstBlockDecided
  split
  · exact h
  · split
    · exact h
    · split
      · exact h.changeDemod
      · exact h.endLent

theorem Fused.execFirstBlockDecided {d values} (h : Fused z s) : FusedOut z (execFirstBlockDecided d values s) :=
    .next h.firstBlockDecided

theorem Fused.chirpLost {u why} (h : Fused z s) : Fused z (chirpLost u why s) := by
  unfold Machine.chirpLost
  split
  · exact h
  · exact .ite h.endLent h
  · exact .ite h.endLent h

theorem Fused.execChirpLost {d why} (h : Fused z s) : FusedOut z (execChirpLost d why s) := .next h.chirpLost

theorem Fused.chirpFrameDue {u rx} (h : Fused z s) : Fused z (chirpFrameDue u rx s) := by
  unfold Machine.chirpFrameDue
  split
  · exact h
  · dsimp only
    split
    · exact h
    · split
      · exact h.endLent
      · split
        · exact h.freeDemod.bump.benchPost
        · exact h.freeDemod.bump.radioIn

theorem Fused.execChirpFrameDue {d rx} (h : Fused z s) : FusedOut z (execChirpFrameDue d rx s) := .next h.chirpFrameDue

theorem Fused.rfItemRead {e it} (h : Fused z s) : Fused z (s.rfItemRead e it) :=
    .ite h.txFail (.ite h.txFail (.secureEntry (.ite h.lqUpdate.rfcAsk h.lqUpdate)))

theorem Fused.rfTxItemRead {i} (h : Fused z s) : Fused z (rfTxItemRead i s) := by
  unfold Machine.rfTxItemRead
  split
  · exact h
  · split
    · exact h
    · split
      · exact h.rfItemRead
      · split
        · exact h.txFail
        · split
          · rename_i e1
            split
            · split
              · exact .ite (h.txTake.ofFst e1).txFail (h.txTake.ofFst e1).rfItemRead
              · exact h
            · exact h

theorem Fused.execRfTxItemRead {e} (h : Fused z s) : FusedOut z (execRfTxItemRead e s) := .next h.rfTxItemRead

theorem Fused.rfItemDeadline {i} (h : Fused z s) : Fused z (rfItemDeadline i s) := by
  unfold Machine.rfItemDeadline
  split
  · exact h
  · exact .ite h.txFail h

theorem Fused.execRfItemDeadline {e} (h : Fused z s) : FusedOut z (execRfItemDeadline e s) := .next h.rfItemDeadline

theorem Fused.dutyCheck {i} (h : Fused z s) : Fused z (dutyCheck i s) := by
  unfold Machine.dutyCheck
  split
  · exact h
  · split
    · split
      · exact h
      · split
        · rename_i e1
          exact (h.dutyCharge.ofFst e1).lqUpdate
        · rename_i e2
          exact (h.dutyCharge.ofFst e2).txFail
    · exact h

theorem Fused.execDutyCheck {e} (h : Fused z s) : FusedOut z (execDutyCheck e s) := .next h.dutyCheck

theorem Fused.uprampStart {i} (h : Fused z s) : Fused z (uprampStart i s) := by
  unfold Machine.uprampStart
  split
  · exact h
  · split
    · dsimp only
      split
      · exact h
      · split
        · exact h
        · split
          · exact h.txFail
          · exact h.upd.lqUpdate.rfBusy.endPort.emitRamp
    · exact h

theorem Fused.execUprampStart {e} (h : Fused z s) : FusedOut z (execUprampStart e s) := .next h.uprampStart

theorem Fused.rfTx {i} (h : Fused z s) : Fused z (rfTx i s) := by
  unfold Machine.rfTx
  split
  · exact h
  · dsimp only
    split
    · exact h
    · split
      · exact h.txFail
      · split
        · exact .ite h.lqRemove.emitOut h.txFail
        · exact .ite h.lqRemove.emitOut.endOfTick h.txFail
        · exact h.txFail

theorem Fused.execRfTx {e} (h : Fused z s) : FusedOut z (execRfTx e s) := .next h.rfTx

theorem Fused.rfSent {n r} (h : Fused z s) : Fused z (s.rfSent n r) := by
  unfold State.rfSent
  dsimp only
  split
  · exact h.qRelease
  · split
    · exact h
    · exact .ite h.upd h.rfRelease
  · split
    · exact h
    · exact .ite h.upd h.mbxFree
  · exact h

theorem Fused.rfTxEnd {n} (h : Fused z s) : Fused z (rfTxEnd n s) := by
  unfold Machine.rfTxEnd
  split
  · exact h
  · exact .ite h (.twinSettle (.launchReport (.rfSent (.ite h.emitRamp.rfStop.bump.rfcAsk h.emitRamp.rfStop.bump))))

theorem Fused.execRfTxEnd {n} (h : Fused z s) : FusedOut z (execRfTxEnd n s) := .next h.rfTxEnd
theorem Fused.chirpSuspendEnd {n} (h : Fused z s) : Fused z (chirpSuspendEnd n s) := .ite h.setF h
theorem Fused.execChirpSuspendEnd {n} (h : Fused z s) : FusedOut z (execChirpSuspendEnd n s) := .next h.chirpSuspendEnd

/-! ### The radio MAC (Machine/RadioMac) -/

theorem Fused.execSupervisionExpiry {ep} (h : Fused z s) : FusedOut z (execSupervisionExpiry ep s) := .next h.supervise

theorem Fused.provisionalExpiry {ep} (h : Fused z s) : Fused z (provisionalExpiry ep s) := by
  unfold Machine.provisionalExpiry
  split
  · exact .ite h.setEp h
  · exact h

theorem Fused.execProvisionalExpiry {ep} (h : Fused z s) : FusedOut z (execProvisionalExpiry ep s) := .next h.provisionalExpiry
theorem Fused.classSWrites {l v} (h : Fused z s) : Fused z (s.classSWrites l v) := .ite h h.rfcAsk.rfcAsk

theorem Fused.slotPrepare {l} (h : Fused z s) : Fused z (slotPrepare l s) := by
  unfold Machine.slotPrepare
  split
  · exact h
  · dsimp only
    split
    · exact h
    · split
      · exact h.bump
      · split
        · exact h.bump
        · exact .ite h.bump h.upd.classSWrites

theorem Fused.execSlotPrepare {link} (h : Fused z s) : FusedOut z (execSlotPrepare link s) := .next h.slotPrepare
theorem Fused.slotStart (h : Fused z s) : Fused z (slotStart s) := .ite h (.foldl h.upd fun _ _ h1 => .ite h1.rfcAsk h1)
theorem Fused.execSlotStart (h : Fused z s) : FusedOut z (execSlotStart s) := .next h.slotStart

theorem Fused.schedTx {l} (h : Fused z s) : Fused z (schedTx l s) := by
  unfold Machine.schedTx
  dsimp only
  split
  · exact h
  · split
    · exact h
    · split
      · exact h.bump.eccFlush
      · split
        · exact h
        · exact .ite h.bump.qMark.qConsume.qRelease (.ite h.qMark.qConsume.qRelease.notice (.ite h.qMark.qConsume.upd.lqInsert.lqUpdate
              h.qMark.qConsume.upd.lqInsert.rfRewind))

theorem Fused.execSchedTx {link} (h : Fused z s) : FusedOut z (execSchedTx link s) := .next h.schedTx
theorem Fused.launchItem {n t by_ it} (h : Fused z s) : Fused z (s.launchItem n t by_ it).1 := .ite h.lqInsert.lqUpdate h.lqInsert

theorem Fused.schedAckSend {n} (h : Fused z s) : Fused z (schedAckSend n s) := by
  unfold Machine.schedAckSend
  split
  · exact h
  · exact h.upd.launchItem

theorem Fused.execSchedAckSend {n} (h : Fused z s) : FusedOut z (execSchedAckSend n s) := .next h.schedAckSend

theorem Fused.rfAckExpiry {n} (h : Fused z s) : Fused z (rfAckExpiry n s) := by
  unfold Machine.rfAckExpiry
  split
  · exact h.rfAckMissed
  · exact h

theorem Fused.execRfAckExpiry {n} (h : Fused z s) : FusedOut z (execRfAckExpiry n s) := .next h.rfAckExpiry
theorem Fused.dlqDone {q} (h : Fused z s) : Fused z (s.dlqDone q) := h.qConsume.qRelease

theorem Fused.dlqItem {k q e it} (h : Fused z s) : Fused z (s.dlqItem k q e it) := by
  unfold State.dlqItem
  split
  · split
    · rename_i e1
      exact (h.mbxPut.ofFst e1).dlqDone
    · rename_i e2
      exact (h.mbxPut.ofFst e2).upd
    · rename_i e3
      exact (h.mbxPut.ofFst e3).upd
  · dsimp only
    split
    · rename_i e4
      exact (h.qHwItem.ofFst e4).dlqDone
    · rename_i e5
      exact (h.qHwItem.ofFst e5)

theorem Fused.dlqServe {k} (h : Fused z s) : Fused z (dlqServe k s) := by
  unfold Machine.dlqServe
  dsimp only
  split
  · exact h
  · split
    · exact h.eccFlush
    · split
      · exact h
      · split
        · exact h.dlqDone
        · split
          · exact h.bump.dlqDone
          · split
            · exact h.bump.dlqDone
            · exact h.dlqItem

theorem Fused.execDlqServe {k} (h : Fused z s) : FusedOut z (execDlqServe k s) := .next h.dlqServe

theorem Fused.mbxExpired {ep} (h : Fused z s) : Fused z (mbxExpired ep s) := by
  unfold Machine.mbxExpired
  split
  · exact h.mbxFree.bump.notice
  · exact h

theorem Fused.execMbxExpired {ep} (h : Fused z s) : FusedOut z (execMbxExpired ep s) := .next h.mbxExpired

theorem Fused.mbxExhausted {ep pair} (h : Fused z s) : Fused z (s.mbxExhausted ep pair) :=
    .foldl h fun _ _ h1 => .ite h1.mbxFree.notice h1

theorem Fused.pollResponse {ep} (h : Fused z s) : Fused z (pollResponse ep s) := by
  unfold Machine.pollResponse
  split
  · exact h
  · dsimp only
    split
    · exact h.upd.mbxExhausted.bump
    · split
      · exact .ite h.upd.mbxExhausted.launchItem.bump h.upd.mbxExhausted.launchItem.upd
      · exact .ite h.upd.mbxExhausted.launchItem h.upd.mbxExhausted.launchItem.bump

theorem Fused.execPollResponse {ep} (h : Fused z s) : FusedOut z (execPollResponse ep s) := .next h.pollResponse

theorem Fused.dcSecond (h : Fused z s) : Fused z (dcSecond s) := by
  unfold Machine.dcSecond
  dsimp only
  refine .foldl h fun _ _ h3 => ?_
  split
  · exact h3.upd.showUsed.mirror
  · exact h3.upd.showUsed

theorem Fused.execDcSecond (h : Fused z s) : FusedOut z (execDcSecond s) := .next h.dcSecond

/-! ### Route commands (Machine/Routes) -/

theorem Fused.putRoute {i ws} (h : Fused z s) : Fused z (s.putRoute i ws) := h.setWord.setWord.setWord

theorem Fused.routeInsert {ws} (h : Fused z s) : Fused z (s.routeInsert ws).1 := by
  unfold State.routeInsert
  split
  · exact h
  · split
    · exact h
    · split
      · exact h
      · exact h.putRoute

theorem Fused.execRouteInsert {c ws} (h : Fused z s) : FusedOut z (execRouteInsert c ws s) := .next (h.command h.routeInsert.complete)
theorem Fused.routeRemove {i} (h : Fused z s) : Fused z (s.routeRemove i).1 := .iteFst h (.iteFst h h.setF)
theorem Fused.execRouteRemove {c i} (h : Fused z s) : FusedOut z (execRouteRemove c i s) := .next (h.command h.routeRemove.answer)

/-! ### Amendments (Machine/AmendOps) -/

theorem Fused.amendRefused (h : Fused z s) : Fused z (s.amendRefused) := h.bump
theorem Fused.startCopies {slot w} (h : Fused z s) : Fused z (s.startCopies slot w) := h.upd
theorem Fused.cutRx {p b} (h : Fused z s) : Fused z (s.cutRx p b) := .ite (.ite h h.setF) (.ite h.setRx.bump h)
theorem Fused.restartModem {p} (h : Fused z s) : Fused z (s.restartModem p) := .rxFollowPort (.foldl h fun _ _ h1 => h1.cutRx)

theorem Fused.restartLanes {p} (h : Fused z s) : Fused z (s.restartLanes p) :=
    .ite (.portLaneStart (.foldl h fun _ _ h1 => .ite h1.setF h1)) h

theorem Fused.amendLines {old named changed} (h : Fused z s) : Fused z (s.amendLines old named changed) := by
  unfold State.amendLines
  dsimp only
  exact .foldl (.foldl (.foldl (.foldl h fun _ _ h115 => h115.noteBlank) fun _ _ h116 => h116.restartLanes.rxFollowPort) fun _ _ h117 =>
      h117.capRealign.restartModem) fun _ _ h118 => .ite h118 h118.mainsState

theorem Fused.cutHeld {old n} (h : Fused z s) : Fused z (s.cutHeld old n) := .foldl h.upd fun _ _ h1 => h1.endHeld.bump
theorem Fused.restartPlan {old n} (h : Fused z s) : Fused z (s.restartPlan old n) := h.cutHeld.rfSettle

theorem Fused.amendRadio {old changed} (h : Fused z s) : Fused z (s.amendRadio old changed) := by
  unfold State.amendRadio
  dsimp only
  exact .ite (.foldl (.foldl (.foldl (.foldl h fun _ _ h291 => h291.restartPlan) fun _ _ h292 => h292.rfSync) fun _ _ h293 => h293.rfcAsk)
      fun _ _ h294 => .foldl h294 fun _ _ h295 => h295.rfcAsk) (.foldl (.foldl (.foldl h fun _ _ h296 => h296.restartPlan) fun _ _ h297 =>
      h297.rfSync) fun _ _ h298 => h298.rfcAsk)

theorem Fused.amendAccess {old changed} (h : Fused z s) : Fused z (s.amendAccess old changed) := h.upd
theorem Fused.ackLost {a} (h : Fused z s) : Fused z (s.ackLost a) := h.rfRelease.notice

theorem Fused.amendSlots {old changed} (h : Fused z s) : Fused z (s.amendSlots old changed) :=
    .ite (.foldl h.upd fun _ _ h1 => h1.ackLost) (.ite h.upd h)

theorem Fused.placeQueue {q} (h : Fused z s) : Fused z (s.placeQueue q) := h.setF.setF.setF.setF.setWord.setQst
theorem Fused.amendQueues {changed} (h : Fused z s) : Fused z (s.amendQueues changed) := .foldl h fun _ _ h1 => h1.placeQueue

theorem Fused.moveUnit {old k lg u v} (h : Fused z s) : Fused z (s.moveUnit old k lg u v) := by
  unfold State.moveUnit
  dsimp only
  exact .ite h.endAudit.moveLane.rxFollowLane (.ite h.endAudit.restartModem (.ite h.endAudit.cutHeld h.endAudit))

theorem Fused.retireNamed {old k} (h : Fused z s) : Fused z (s.retireNamed old k) := by
  unfold State.retireNamed
  refine .foldl h fun _ _ h2 => ?_
  dsimp only
  split
  · exact h2.noteRetired.markRetired
  · exact h2.noteRetired

theorem Fused.amendSpares {old slot changed} (h : Fused z s) : Fused z (s.amendSpares old slot changed) := by
  unfold State.amendSpares
  split
  · extract_lets s1
    have hs1 : Fused z s1 := by
      unfold s1
      refine .foldl h fun _ _ h9 => ?_
      split
      · exact h9
      · refine .foldl h9 fun _ _ h12 => ?_
        split
        · exact .ite h12 h12.moveUnit
        · exact h12
    exact .upd (.foldl hs1.showPipes fun _ _ h13 => h13.retireNamed)
  · exact h

theorem Fused.amendDomains {old} (h : Fused z s) : Fused z (s.amendDomains old) :=
    .ite h (.foldl h fun _ _ h1 => .ite h1 (.ite h1.powerUp h1.drainDomain))

theorem Fused.amendGroups {changed} (h : Fused z s) : Fused z (s.amendGroups changed) :=
    .ite (.refreshPaths (.foldl h fun _ _ h1 => .ite h1.setGroup (.ite h1.setGroup h1))) h

theorem Fused.amendEffects {old slot w} (h : Fused z s) : Fused z (s.amendEffects old slot w) := by
  unfold State.amendEffects
  extract_lets _ _ _ _ _ s3
  have hs3 : Fused z s3 := h.amendSpares.amendLines.amendRadio.amendAccess.amendSlots.amendQueues.amendDomains.amendGroups
  exact .ite hs3.refAmended hs3

theorem Fused.applyFragment {slot im} (h : Fused z s) : Fused z (s.applyFragment slot im) :=
    h.imageWrites.amendEffects.setWord.bump.writeSummary

theorem Fused.applySched {w} (h : Fused z s) : Fused z (s.applySched w) := h.imageWrites.amendEffects

/-! ### Commits (Machine/CommitOps) -/

theorem Fused.countAmend {r st} (h : Fused z s) : Fused z (s.countAmend r st) := .ite h.amendRefused h

theorem Fused.takeStaged {t a} (h : Fused z s) : Fused z (s.takeStaged t a) := by
  unfold State.takeStaged
  split
  · exact .ite h h.qConsume
  · exact h

theorem Fused.addAction {t a} (h : Fused z s) : Fused z (s.addAction t a) := .setTxn (.ite h.takeStaged.startCopies h.takeStaged)

theorem Fused.claimAction {t a who} (h : Fused z s) : Fused z (s.claimAction t a who) := by
  unfold State.claimAction
  dsimp only
  split
  · exact h.addAction.answerAdd
  · split
    · rename_i e1
      exact (h.claimLock.ofFst e1).addAction.answerAdd
    · rename_i e2
      exact (h.claimLock.ofFst e2).setTxn

theorem Fused.reserveFor {t} (h : Fused z s) {x : State × Txn} (e : s.reserveFor t = some x) : Fused z x.1 := by
  simp only [State.reserveFor] at e
  split at e <;> cases e
  exact .setTxn (.foldl h fun _ _ h1 => h1.setQst)

theorem Fused.commitEnqueue {q item} (h : Fused z s) : Fused z (s.commitEnqueue q item) := h.setQst.qSettle

theorem Fused.applyAction {t a} (h : Fused z s) : Fused z (s.applyAction t a) := by
  unfold State.applyAction
  dsimp only
  split
  · exact h.writeWords
  · exact h.writeWords
  · exact h.commitEnqueue
  · exact h.qctlOps
  · exact h.loadKey
  · exact h.applySched
  · exact h.applySched
  · exact h.applyFragment
  · exact h

theorem Fused.applyAll {t} (h : Fused z s) : Fused z (s.applyAll t) := .bump (.upd (.foldl h.upd fun _ _ h1 => h1.applyAction))

theorem Fused.abortCommit {t f reported} (h : Fused z s) : Fused z (s.abortCommit t f reported) :=
    .abortTxn (.foldl h fun _ _ h1 => h1.amendRefused)

/-! ### Transaction commands and events (Machine/Txn) -/

theorem Fused.ageTick (h : Fused z s) : Fused z (s.ageTick) := .ite h.coreTick h

theorem Fused.takeSlot (h : Fused z s) {x : State × Nat × Nat × Nat} (e : s.takeSlot = some x) : Fused z x.1 := by
  unfold State.takeSlot at e
  split at e
  · cases e
  · split at e <;> rename_i e1 <;> cases e
    exact (h.takeTag.ofFst e1).upd

theorem Fused.openSlot {t} (h : Fused z s) : Fused z (s.openSlot t) := h.upd

theorem Fused.txnOpen {c w} (h : Fused z s) : Fused z (s.txnOpen c w) := by
  unfold State.txnOpen
  dsimp only
  split
  · exact h.complete
  · split
    · exact h.complete
    · split
      · exact h.bump.complete
      · rename_i e1
        exact (h.ageTick.takeSlot e1).openSlot.upd.complete

theorem Fused.execTxnOpen {c w} (h : Fused z s) : FusedOut z (execTxnOpen c w s) := .next (h.command h.txnOpen)

theorem Fused.poisonedStage {t} (h : Fused z s) {x : State} (e : s.poisonedStage t = some x) : Fused z x := by
  obtain ⟨q, -, e⟩ := Option.bind_eq_some_iff.mp e
  split at e
  · cases e
  · split at e
    · cases e
      exact h.eccFlush
    · split at e
      · split at e <;> cases e
        exact h.qConsume.qRelease
      · cases e

theorem Fused.sendAction {t a who} (h : Fused z s) : Fused z (s.sendAction t a who) := .ite h.benchAsk.setTxn h.benchAsk.answerAdd

theorem Fused.addLocal {t a staged c} (h : Fused z s) : Fused z (s.addLocal t a staged c) :=
    .ite (.ite h.complete h.sendAction) (.ite h.claimAction h.countAmend.complete)

theorem Fused.txnAdd {c w} (h : Fused z s) : Fused z (s.txnAdd c w) := by
  unfold State.txnAdd
  dsimp only
  split
  · exact h.complete
  · refine .ite h.complete (.ite h.complete (.ite h.complete ?_))
    split
    · rename_i e
      split at e
      · exact (h.poisonedStage e).complete
      · cases e
    · exact h.addLocal

theorem Fused.execTxnAdd {c w} (h : Fused z s) : FusedOut z (execTxnAdd c w s) := .next (h.command h.txnAdd)

theorem Fused.commitNow {t c} (h : Fused z s) : Fused z (s.commitNow t c) := by
  unfold State.commitNow
  dsimp only
  split
  · exact h.abortCommit.complete
  · exact h.applyAll.freeTxn.complete

theorem Fused.commitLocalAt {t c time} (h : Fused z s) : Fused z (s.commitLocalAt t c time) :=
    .ite h.lqInsert.setTxn.complete h.lqInsert.unreserve.setTxn.complete

theorem Fused.preparePart {t time} (h : Fused z s) : Fused z (s.preparePart t time).1 := by
  unfold State.preparePart
  split
  · exact h
  · exact .iteFst h.lqInsert.setTxn h.lqInsert

theorem Fused.decideTxn {t} (h : Fused z s) : Fused z (s.decideTxn t) := .ite (.foldl h.setTxn fun _ _ h1 => h1.benchAsk) h.setTxn

theorem Fused.commitBench {t c time} (h : Fused z s) : Fused z (s.commitBench t c time) := by
  unfold State.commitBench
  split
  · exact h.unreserve.setTxn.complete
  · extract_lets t1 s1 s2
    have h1 : Fused z s1 := .foldl h.setTxn fun _ _ h1 => h1.benchAsk
    have h2 : Fused z (s2.preparePart t1 time).1 := h1.complete.preparePart
    split <;> rename_i e
    · split
      · exact (h2.ofFst e).decideTxn
      · exact h2.ofFst e
    · exact (h2.ofFst e).abortTxn

theorem Fused.doCommit {t c w} (h : Fused z s) : Fused z (s.doCommit t c w) := by
  unfold State.doCommit
  dsimp only
  split
  · exact h.complete
  · split
    · exact h.complete
    · split
      · exact h.complete
      · rename_i e1
        exact .ite (h.reserveFor e1).commitBench (.ite (h.reserveFor e1).commitLocalAt (h.reserveFor e1).commitNow)

theorem Fused.txnCommit {c w} (h : Fused z s) : Fused z (s.txnCommit c w) := by
  unfold State.txnCommit
  split
  · exact h.complete
  · exact .ite h.complete (.ite h.doCommit (.ite h.setTxn h.complete))

theorem Fused.execTxnCommit {c w} (h : Fused z s) : FusedOut z (execTxnCommit c w s) := .next (h.command h.txnCommit)

theorem Fused.txnAbort {c w} (h : Fused z s) : Fused z (s.txnAbort c w) := by
  unfold State.txnAbort
  dsimp only
  split
  · exact h.complete
  · exact .ite h.complete (.ite h.complete h.abortTxn.complete)

theorem Fused.execTxnAbort {c w} (h : Fused z s) : FusedOut z (execTxnAbort c w s) := .next (h.command h.txnAbort)

theorem Fused.txnStatus {c w} (h : Fused z s) : Fused z (s.txnStatus c w) := by
  unfold State.txnStatus
  split <;> exact h.complete

theorem Fused.execTxnStatus {c w} (h : Fused z s) : FusedOut z (execTxnStatus c w s) := .next (h.command h.txnStatus)

theorem Fused.reclaimed {t} (h : Fused z s) : Fused z (s.reclaimed t) := by
  unfold State.reclaimed
  dsimp only
  split
  · exact h.setTxn.doCommit
  · exact h.setTxn

theorem Fused.reclaim {n slot} (h : Fused z s) : Fused z (State.reclaim n s slot) := by
  induction n generalizing s with
  | zero => exact h
  | succ n ih =>
    unfold State.reclaim
    split
    · exact h
    · dsimp only
      split
      · exact h.reclaimed
      · split
        · exact .ite h (.ite h.benchAsk h.benchAsk.abortTxn)
        · split
          · exact ih h.setTxn
          · split <;> rename_i e
            · exact ih (h.claimLock.ofFst e).setTxn
            · exact h.claimLock.ofFst e

theorem Fused.lockGrant {i action} (h : Fused z s) : Fused z (lockGrant i action s) := by
  unfold Machine.lockGrant
  split
  · exact h
  · split
    · split
      · exact .ite h h.addAction.answerAdd
      · exact h
    · exact .ite h.reclaim h
    · exact h

theorem Fused.execLockGrant {t action} (h : Fused z s) : FusedOut z (execLockGrant t action s) := .next h.lockGrant

theorem Fused.lockTimeout {i action} (h : Fused z s) : Fused z (lockTimeout i action s) := by
  unfold Machine.lockTimeout
  split
  · exact h
  · dsimp only
    split
    · exact h
    · split
      · exact h.setTxn.answerAdd
      · exact h.abortTxn
      · exact h

theorem Fused.execLockTimeout {t action} (h : Fused z s) : FusedOut z (execLockTimeout t action s) := .next h.lockTimeout
theorem Fused.reportPart {t m hh st} (h : Fused z s) : Fused z (s.reportPart t m hh st) := h.benchAsk.freeTxn

theorem Fused.commitTick {e t} (h : Fused z s) : Fused z (s.commitTick e t) := by
  unfold State.commitTick
  dsimp only
  split
  · exact .abortTxn (.ite h.lqRemove.upd h.lqRemove)
  · split
    · exact .abortTxn (.ite h.lqRemove.upd h.lqRemove)
    · split
      · exact .abortCommit (.ite h.lqRemove.upd h.lqRemove)
      · exact .reportPart (.applyAll (.ite h.lqRemove.upd h.lqRemove))
  · split
    · split
      · exact .abortCommit (.ite h.lqRemove.upd h.lqRemove)
      · exact .finishTxn (.applyAll (.ite h.lqRemove.upd h.lqRemove))
    · split
      · exact .abortTxn (.ite h.lqRemove.upd h.lqRemove)
      · split
        · exact .abortCommit (.ite h.lqRemove.upd h.lqRemove)
        · exact .ownPart (.applyAll (.ite h.lqRemove.upd h.lqRemove))

theorem Fused.execCommit {e} (h : Fused z s) : FusedOut z (execCommit e s) := by
  refine .next (.runAction h ?_)
  intro x
  split
  · exact h.commitTick
  · exact h.lqRemove

/-! ### Bench-wide transactions (Machine/TxnBench) -/

theorem Fused.masterAsks {m tag} (h : Fused z s) {x : State} (e : s.masterAsks m tag = some x) : Fused z x := by
  unfold State.masterAsks at e
  split at e
  · cases e
    exact h
  · obtain ⟨d, -, rfl⟩ := Option.map_eq_some_iff.mp e
    exact h.benchPost

theorem Fused.memberAsks {m tag} (h : Fused z s) {x : State} (e : s.memberAsks m tag = some x) : Fused z x := by
  unfold State.memberAsks at e
  split at e
  · cases e
    exact h
  · obtain ⟨d, -, rfl⟩ := Option.map_eq_some_iff.mp e
    exact h.benchPost

theorem Fused.newPart {m hh members age} (h : Fused z s) {x : State × Txn} (e : s.newPart m hh members age = some x) : Fused z x.1 := by
  obtain ⟨y, ey, rfl⟩ := Option.map_eq_some_iff.mp e
  exact (h.takeSlot ey).openSlot

theorem Fused.stageItem {slot item} (h : Fused z s) : Fused z (s.stageItem slot item) := .ite h h.qHwItem.qRead

theorem Fused.partAction {s1 t b from_ tag} (h : Fused z s) (hs1 : Fused z s1) : Fused z (s.partAction s1 t b from_ tag) := by
  unfold State.partAction
  dsimp only
  exact .ite h.countAmend.benchReply (.ite h.countAmend.benchReply (.ite h.countAmend.benchReply (.ite h.countAmend.benchReply
      hs1.stageItem.claimAction)))

theorem Fused.benchAction {from_ tag b} (h : Fused z s) : Fused z (benchAction from_ tag b s) := by
  unfold Machine.benchAction
  split
  · rename_i e1
    exact (h.masterAsks e1)
  · split
    · exact h
    · split
      · exact h.partAction h
      · split
        · rename_i e2
          exact h.partAction (h.newPart e2)
        · exact h.bump.benchReply

theorem Fused.execBenchAction {from_ tag action} (h : Fused z s) : FusedOut z (execBenchAction from_ tag action s) := .next h.benchAction

theorem Fused.woundRequest {from_ tag i wounder} (h : Fused z s) : Fused z (woundRequest from_ tag i wounder s) := by
  unfold Machine.woundRequest
  split
  · rename_i e1
    exact (h.memberAsks e1)
  · split
    · exact .ite h.woundTxn.benchReply h.benchReply
    · exact h.benchReply

theorem Fused.execWoundRequest {from_ tag t wounder} (h : Fused z s) : FusedOut z (execWoundRequest from_ tag t wounder s) :=
    .next h.woundRequest

theorem Fused.sendVote {hh f} (h : Fused z s) : Fused z (s.sendVote hh f) := by
  unfold State.sendVote
  split <;> exact h.benchAsk

theorem Fused.prepareVote {t hh time} (h : Fused z s) : Fused z (s.prepareVote t hh time) := by
  unfold State.prepareVote
  split
  · exact h.sendVote
  · rename_i e1
    exact (h.reserveFor e1).preparePart.sendVote

theorem Fused.prepare {from_ tag hh time} (h : Fused z s) : Fused z (prepare from_ tag hh time s) := by
  unfold Machine.prepare
  split
  · rename_i e1
    exact (h.masterAsks e1)
  · split
    · exact .ite h.benchReply.prepareVote h.benchReply
    · split
      · rename_i e2
        exact (h.newPart e2).benchReply.prepareVote
      · exact h.bump.benchReply.sendVote

theorem Fused.execPrepare {from_ tag handle commit} (h : Fused z s) : FusedOut z (execPrepare from_ tag handle commit s) :=
    .next h.prepare

theorem Fused.countVote {from_ hh yes index} (h : Fused z s) : Fused z (s.countVote from_ hh yes index) := by
  unfold State.countVote
  split
  · exact h
  · exact .ite h (.ite h.abortTxn (.ite h h.decideTxn))

theorem Fused.vote {from_ tag hh yes index} (h : Fused z s) : Fused z (vote from_ tag hh yes index s) := by
  unfold Machine.vote
  split
  · rename_i e1
    exact (h.memberAsks e1)
  · exact h.benchReply.countVote

theorem Fused.execVote {from_ tag handle yes _status index} (h : Fused z s) : FusedOut z (execVote from_ tag handle yes _status index s)
    := .next h.vote

theorem Fused.voteExpiry {i} (h : Fused z s) : Fused z (voteExpiry i s) := by
  unfold Machine.voteExpiry
  split
  · exact h
  · exact .ite h.abortTxn h

theorem Fused.execVoteDeadline {t} (h : Fused z s) : FusedOut z (execVoteDeadline t s) := .next h.voteExpiry

theorem Fused.decision {from_ tag hh commit} (h : Fused z s) : Fused z (decision from_ tag hh commit s) := by
  unfold Machine.decision
  split
  · rename_i e1
    exact (h.masterAsks e1)
  · split
    · exact h.benchReply
    · exact .ite (.ite h.benchReply h.benchReply.setTxn) h.benchReply.abortTxn

theorem Fused.execDecision {from_ tag handle commit} (h : Fused z s) : FusedOut z (execDecision from_ tag handle commit s) :=
    .next h.decision

theorem Fused.decisionDeadline {i} (h : Fused z s) : Fused z (decisionDeadline i s) := by
  unfold Machine.decisionDeadline
  split
  · exact h
  · exact .ite h.abortTxn h

theorem Fused.execDecisionDeadline {t} (h : Fused z s) : FusedOut z (execDecisionDeadline t s) := .next h.decisionDeadline

theorem Fused.countReport {from_ hh st} (h : Fused z s) : Fused z (s.countReport from_ hh st) := by
  unfold State.countReport
  split
  · exact h
  · exact .ite h (.ite h.benchDone h.setTxn)

theorem Fused.outcomeReport {from_ tag hh st} (h : Fused z s) : Fused z (outcomeReport from_ tag hh st s) := by
  unfold Machine.outcomeReport
  split
  · rename_i e1
    exact (h.memberAsks e1)
  · exact h.benchReply.countReport

theorem Fused.execOutcomeReport {from_ tag handle status} (h : Fused z s) : FusedOut z (execOutcomeReport from_ tag handle status s) :=
    .next h.outcomeReport

theorem Fused.outcomeTimeout {i} (h : Fused z s) : Fused z (outcomeTimeout i s) := by
  unfold Machine.outcomeTimeout
  split
  · exact h
  · exact .ite h.benchDone h

theorem Fused.execOutcomeTimeout {t} (h : Fused z s) : FusedOut z (execOutcomeTimeout t s) := .next h.outcomeTimeout

theorem Fused.actionAcked {slot index st} (h : Fused z s) : Fused z (s.actionAcked slot index st) := by
  unfold State.actionAcked
  split
  · exact h
  · split
    · exact .ite h (.ite h.addAction.answerAdd h.setTxn.answerAdd)
    · exact .ite h (.ite h.setTxn.reclaim h.abortTxn)
    · exact h

/-! ### Bench commands (Machine/BenchCmd) -/

theorem Fused.masterCmd {c op f} (h : Fused z s) (hf : Fused z f) : Fused z (s.masterCmd c op f) := h.command (.ite hf h.complete)
theorem Fused.askOrEnd {x : State × Nat} {c op} (h : Fused z x.1) : Fused z (State.askOrEnd x c op) := .ite h h.complete
theorem Fused.resetWait {c n st} (h : Fused z s) : Fused z (s.resetWait c n st) := .ite h.complete h.upd

theorem Fused.memberReset {c mask} (h : Fused z s) : Fused z (s.memberReset c mask) :=
  .ite h.complete (.resetWait (.foldlFst h fun _ _ h1 => .iteFst h1.benchAsk h1.benchAsk))

theorem Fused.execMemberReset {c payload} (h : Fused z s) : FusedOut z (execMemberReset c payload s) := .next (h.masterCmd h.memberReset)
theorem Fused.remoteRead {c a p} (h : Fused z s) : Fused z (s.remoteRead c a p) := .ite h.complete h.benchAsk.askOrEnd

theorem Fused.execRemoteRead {c addr payload} (h : Fused z s) : FusedOut z (execRemoteRead c addr payload s) :=
    .next (h.masterCmd h.remoteRead)

theorem Fused.remoteWrite {c a p} (h : Fused z s) : Fused z (s.remoteWrite c a p) := .ite h.complete h.benchAsk.askOrEnd

theorem Fused.execRemoteWrite {c addr payload} (h : Fused z s) : FusedOut z (execRemoteWrite c addr payload s) :=
    .next (h.masterCmd h.remoteWrite)

theorem Fused.handOver {c p} (h : Fused z s) : Fused z (s.handOver c p) := h.peerAsk.askOrEnd
theorem Fused.execHandover {c payload} (h : Fused z s) : FusedOut z (execHandover c payload s) := .next (h.masterCmd h.handOver)

theorem Fused.resetAnswer {c st} (h : Fused z s) : Fused z (s.resetAnswer c st) := by
  unfold State.resetAnswer
  split
  · exact h
  · exact h.upd.resetWait

theorem Fused.requestEnd {r st words} (h : Fused z s) : Fused z (s.requestEnd r st words) := by
  unfold State.requestEnd
  split
  · exact h.launchAnswer
  · exact h.cancelAnswer
  · exact h
  · exact h.complete
  · exact h.complete
  · exact h.resetAnswer
  · exact h.complete
  · exact h.actionAcked
  · exact h
  · exact h
  · exact h
  · exact h.dmaAck

theorem Fused.closeRequest {r st words} (h : Fused z s) : Fused z (s.closeRequest r st words) := h.upd.freeTag.requestEnd

theorem Fused.benchAck {tag st words} (h : Fused z s) : Fused z (benchAck tag st words s) := by
  unfold Machine.benchAck
  split
  · exact h
  · exact .ite h h.closeRequest

theorem Fused.execBenchAck {_g tag status words} (h : Fused z s) : FusedOut z (execBenchAck _g tag status words s) := .next h.benchAck
theorem Fused.retryRequest {r} (h : Fused z s) : Fused z (s.retryRequest r) := h.bump.sendOn.upd

theorem Fused.benchTimeout {tag} (h : Fused z s) : Fused z (benchTimeout tag s) := by
  unfold Machine.benchTimeout
  split
  · exact h
  · exact .ite h (.ite h.retryRequest h.closeRequest)

theorem Fused.execBenchTimeout {tag} (h : Fused z s) : FusedOut z (execBenchTimeout tag s) := .next h.benchTimeout

/-! ### Lent demodulators (Machine/Lease) -/

theorem Fused.leaseCredit {k} (h : Fused z s) : Fused z (leaseCredit k s) := .ite h h.upd.benchPost
theorem Fused.execLeaseCredit {k} (h : Fused z s) : FusedOut z (execLeaseCredit k s) := .next h.leaseCredit
theorem Fused.creditIn {m} (h : Fused z s) : Fused z (s.creditIn m) := h.bump

theorem Fused.leaseStart {m stream port chan sf bw step gain time} (h : Fused z s) : Fused z (leaseStart m stream port chan sf bw step
    gain time s) := by
  unfold Machine.leaseStart
  dsimp only
  split
  · exact h
  · split
    · exact h.upd.benchPost
    · exact h.upd.setDemods

theorem Fused.execLeaseStart {from_ stream port chan sf bw step gain time} (h : Fused z s) : FusedOut z (execLeaseStart from_ stream port
    chan sf bw step gain time s) := .next h.leaseStart

theorem Fused.sampleCell {m stream first xs} (h : Fused z s) : Fused z (sampleCell m stream first xs s) := by
  unfold Machine.sampleCell
  split
  · exact h
  · exact .ite h.endLent h.changeDemod

theorem Fused.execSampleCell {from_ stream first samples} (h : Fused z s) : FusedOut z (execSampleCell from_ stream first samples s) :=
    .next h.sampleCell

theorem Fused.leaseEnd {m stream} (h : Fused z s) : Fused z (leaseEnd m stream s) := by
  unfold Machine.leaseEnd
  split
  · exact h
  · exact h.freeDemod

theorem Fused.execLeaseEnd {from_ stream _status} (h : Fused z s) : FusedOut z (execLeaseEnd from_ stream _status s) := .next h.leaseEnd

theorem Fused.leaseIdleFree {m stream} (h : Fused z s) : Fused z (leaseIdleFree m stream s) := by
  unfold Machine.leaseIdleFree
  split
  · exact h
  · split
    · exact h
    · exact .ite h.freeDemod h

theorem Fused.execLeaseIdleFree {from_ stream} (h : Fused z s) : FusedOut z (execLeaseIdleFree from_ stream s) := .next h.leaseIdleFree

theorem Fused.borrowFailed {m stream status} (h : Fused z s) : Fused z (s.borrowFailed m stream status) := by
  unfold State.borrowFailed
  split
  · exact h
  · exact h.freeDemod.countEnd

theorem Fused.borrowDone {m stream f} (h : Fused z s) : Fused z (s.borrowDone m stream f) := by
  unfold State.borrowDone
  split
  · exact h
  · exact h.freeDemod.bump.radioIn

/-! ### Mode events (Machine/Modes) -/

theorem Fused.reqRunCmd {c lineLow} (h : Fused z s)  : Fused z (Machine.reqRun c lineLow s) := h.writeCommand h.upd.reqRun.answer
theorem Fused.execReqRun {c lineLow} (h : Fused z s) : FusedOut z (execReqRun c lineLow s) := .next h.reqRunCmd
theorem Fused.execReqQuiet {c} (h : Fused z s) : FusedOut z (execReqQuiet c s) := .next (h.writeCommand h.reqQuiet.answer)
theorem Fused.execReqShadow {c} (h : Fused z s) : FusedOut z (execReqShadow c s) := .next (h.writeCommand h.reqShadow.answer)
theorem Fused.execReqDrain {c} (h : Fused z s) : FusedOut z (execReqDrain c s) := .next (h.writeCommand h.reqDrain.answer)
theorem Fused.execFaultAck {c} (h : Fused z s) : FusedOut z (execFaultAck c s) := .next (h.writeCommand h.reqFaultAck.answer)
theorem Fused.suppliesUp (h : Fused z s) : Fused z (suppliesUp s) := .ite h.upd h
theorem Fused.execSuppliesUp (h : Fused z s) : FusedOut z (execSuppliesUp s) := .next h.suppliesUp
theorem Fused.supplyLoss (h : Fused z s) : Fused z (supplyLoss s) := .ite h h.fullReset.upd
theorem Fused.execSupplyLoss (h : Fused z s) : FusedOut z (execSupplyLoss s) := .next h.supplyLoss
theorem Fused.coldToLoad {bootSrc benchMasterN} (h : Fused z s) : Fused z (coldToLoad bootSrc benchMasterN s) := .ite h h.setF.upd

theorem Fused.execColdToLoad {bootSrc benchMasterN} (h : Fused z s) : FusedOut z (execColdToLoad bootSrc benchMasterN s) :=
    .next h.coldToLoad

theorem Fused.recordTests {l} (h : Fused z s) : Fused z (s.recordTests l).1 := by
  induction l generalizing s with
  | nil => exact h
  | cons u l ih => exact ih h.freshWord.report

theorem Fused.replaceFailed {u i} (h : Fused z s) : Fused z (s.replaceFailed u i).1 := .iteFst h.escalateRecord h.retire

theorem Fused.selfTest {failed} (h : Fused z s) : Fused z (s.selfTest failed).1 :=
  .foldlFst (.foldl h.recordTests fun _ _ h1 => h1.retire) fun _ _ h1 => h1.replaceFailed

theorem Fused.leaveStandby (h : Fused z s) : Fused z (s.leaveStandby) := .ite h h.changeMode.beginAcquire

theorem Fused.selfTestDone {failed} (h : Fused z s) : Fused z (selfTestDone failed s) := by
  unfold Machine.selfTestDone
  split
  · exact h
  · split
    · rename_i e1
      exact (h.selfTest.ofFst e1).enterFault
    · rename_i e2
      exact (h.selfTest.ofFst e2).changeMode.settleDomains.leaveStandby

theorem Fused.execSelfTestDone {failed} (h : Fused z s) : FusedOut z (execSelfTestDone failed s) := .next h.selfTestDone

theorem Fused.defaultedTestDone {failed} (h : Fused z s) : Fused z (defaultedTestDone failed s) := by
  unfold Machine.defaultedTestDone
  split
  · exact h
  · split
    · rename_i e1
      exact (h.selfTest.ofFst e1).enterFault
    · rename_i e2
      exact (h.selfTest.ofFst e2).upd.settleDomains.beginAcquire

theorem Fused.execDefaultedTestDone {failed} (h : Fused z s) : FusedOut z (execDefaultedTestDone failed s) := .next h.defaultedTestDone
theorem Fused.defTxStart (h : Fused z s) : Fused z (defTxStart s) := .ite h.upd h
theorem Fused.execDefTxStart (h : Fused z s) : FusedOut z (execDefTxStart s) := .next h.defTxStart
theorem Fused.acquireComplete (h : Fused z s) : Fused z (acquireComplete s) := .ite h (.ite h.enterShadow (.ite h.changeMode h.enterRun))
theorem Fused.execAcquireComplete (h : Fused z s) : FusedOut z (execAcquireComplete s) := .next h.acquireComplete
theorem Fused.takeover (h : Fused z s) : Fused z (s.takeover) := h.upd.changeMode.notice.upd
theorem Fused.twinTakeover (h : Fused z s) : Fused z (twinTakeover s) := .ite h (.ite h.upd h.takeover)
theorem Fused.execTwinTakeover (h : Fused z s) : FusedOut z (execTwinTakeover s) := .next h.twinTakeover

theorem Fused.twinRecheck {low} (h : Fused z s) : Fused z (twinRecheck low s) := by
  unfold Machine.twinRecheck
  split
  · exact .ite h (.ite h.upd h.takeover)
  · exact h

theorem Fused.execTwinRecheck {low} (h : Fused z s) : FusedOut z (execTwinRecheck low s) := .next h.twinRecheck
theorem Fused.twinLinkLost (h : Fused z s) : Fused z (twinLinkLost s) := .ite h.upd.notice h
theorem Fused.execTwinLinkLost (h : Fused z s) : FusedOut z (execTwinLinkLost s) := .next h.twinLinkLost
theorem Fused.liveEntry {x} (h : Fused z s) : Fused z (s.liveEntry x) := .ite h (.ite h.upd.endEntry h.upd)

theorem Fused.takeoverDue (h : Fused z s) : Fused z (s.takeoverDue) := by
  unfold State.takeoverDue
  split
  · exact h
  · exact .ite h (.ite (.foldl h.upd fun _ _ h1 => h1.liveEntry) h.upd)

theorem Fused.tickOver (h : Fused z s) : Fused z (s.tickOver) := by
  unfold State.tickOver
  split
  · exact h
  · split
    · exact h.coreTick.resetBy
    · exact h.coreTick.takeoverDue.rfcDue.lqMark.txenDue.sendFrames.outcomesDue.ledgerRetries

theorem Fused.resetPin {o} (h : Fused z s) : Fused z (resetPin o s) := .ite h h.fullReset
theorem Fused.execResetPin {o} (h : Fused z s) : FusedOut z (execResetPin o s) := .next h.resetPin

theorem Fused.watchdogReset {o} (h : Fused z s) : Fused z (watchdogReset o s) := by
  unfold Machine.watchdogReset
  split
  · exact .ite h.fullReset h
  · exact h

theorem Fused.execWatchdogReset {o} (h : Fused z s) : FusedOut z (execWatchdogReset o s) := .next h.watchdogReset

theorem Fused.askReset {p graceful} (h : Fused z s) : Fused z (s.askReset p graceful) :=
    .ite h.resetBy (.ite h.resetBy (.ite (.ite h.resetBy h.upd) (.ite h.enterDrain h)))

theorem Fused.execFullReset {c} (h : Fused z s) : FusedOut z (execFullReset c s) := .next (h.command h.askReset)

theorem Fused.resetDirective {graceful hostLoad from_ tag} (h : Fused z s) : Fused z (resetDirective graceful hostLoad from_ tag s) := by
  unfold Machine.resetDirective
  split
  · exact h
  · split
    · exact h.benchPost
    · exact h.benchReply.askReset

theorem Fused.execResetDirective {graceful hostLoad from_ tag} (h : Fused z s) : FusedOut z (execResetDirective graceful hostLoad from_
    tag s) := .next h.resetDirective

/-! ### Peers (Machine/Peer) -/

theorem Fused.helloSend {g} (h : Fused z s) : Fused z (helloSend g s) := .ite h.emitOut h
theorem Fused.execHelloSend {g} (h : Fused z s) : FusedOut z (execHelloSend g s) := .next h.helloSend
theorem Fused.neighbourUp {g a} (h : Fused z s) : Fused z (s.neighbourUp g a) := .ite h.setF.upd h.setF.upd.peerGone.setF.setF.notice
theorem Fused.helloCell {g c} (h : Fused z s) : Fused z (helloCell g c s) := .ite h (.ite h.setF.peerGone h.neighbourUp)
theorem Fused.execHelloCell {g cell} (h : Fused z s) : FusedOut z (execHelloCell g cell s) := .next h.helloCell
theorem Fused.peerDown {g} (h : Fused z s) : Fused z (peerDown g s) := .ite h.peerGone h
theorem Fused.execPeerDown {g} (h : Fused z s) : FusedOut z (execPeerDown g s) := .next h.peerDown
theorem Fused.routeAdvertise {g} (h : Fused z s) : Fused z (routeAdvertise g s) := .ite h.upd.sendOn h
theorem Fused.execRouteAdvertise {g} (h : Fused z s) : FusedOut z (execRouteAdvertise g s) := .next h.routeAdvertise
theorem Fused.putPeerRoute {i a metric p} (h : Fused z s) : Fused z (s.putPeerRoute i a metric p) := .ite h.upd h.upd.setWord.routeNotice

theorem Fused.learnRoute {p e} (h : Fused z s) : Fused z (s.learnRoute p e) := by
  unfold State.learnRoute
  dsimp only
  split
  · exact h
  · split
    · exact .ite (.ite h.dropRoute h.putPeerRoute) (.ite h.putPeerRoute h)
    · split
      · exact h
      · split
        · exact h.putPeerRoute
        · exact h.bump

theorem Fused.routeMessage {g l} (h : Fused z s) : Fused z (routeMessage g l s) := .ite (.foldl h fun _ _ h1 => h1.learnRoute) h
theorem Fused.execRouteMessage {g entries} (h : Fused z s) : FusedOut z (execRouteMessage g entries s) := .next h.routeMessage
theorem Fused.routeExpiry {i} (h : Fused z s) : Fused z (routeExpiry i s) := .ite h.dropRoute h
theorem Fused.execRouteExpiry {a} (h : Fused z s) : FusedOut z (execRouteExpiry a s) := .next h.routeExpiry

theorem Fused.handoverIn {tag src entry ws} (h : Fused z s) : Fused z (handoverIn tag src entry ws s) := by
  unfold Machine.handoverIn
  dsimp only
  split
  · rename_i e1
    exact (h.qHwItem.ofFst e1).notice.peerPost
  · rename_i e2
    exact (h.qHwItem.ofFst e2).peerPost

theorem Fused.execHandoverIn {tag src entry words} (h : Fused z s) : FusedOut z (execHandoverIn tag src entry words s) :=
    .next h.handoverIn

/-! ### Twins (Machine/Twin) -/

theorem Fused.twinSend {g} (h : Fused z s) : Fused z (twinSend g s) := .ite h.upd.sendOn h
theorem Fused.execTwinSend {group} (h : Fused z s) : FusedOut z (execTwinSend group s) := .next h.twinSend
theorem Fused.twinWrite {q ws} (h : Fused z s) : Fused z (s.twinWrite q ws) := .ite h.qPut.qAdvanceW h
theorem Fused.twinRelease {q n} (h : Fused z s) : Fused z (s.twinRelease q n) := .ite h.qRead.setF.setF h

theorem Fused.twinRecord {r} (h : Fused z s) : Fused z (s.twinRecord r) := by
  unfold State.twinRecord
  split
  · exact h.twinWrite
  · exact h.twinRelease
  · exact h.upd
  · exact h.upd
  · exact h.setF
  · exact h.setWord.setWord
  · exact h.upd.showUsed

theorem Fused.twinConflict {other} (h : Fused z s) : Fused z (s.twinConflict other) :=
    .ite h.upd.notice.twinLedger.enterShadow h.upd.notice.twinLedger

theorem Fused.twinMessage {g l} (h : Fused z s) : Fused z (twinMessage g l s) :=
    .ite h (.ite h.twinConflict (.ite (.foldl h.upd fun _ _ h1 => h1.twinRecord) h.upd))

theorem Fused.execTwinMessage {group records} (h : Fused z s) : FusedOut z (execTwinMessage group records s) := .next h.twinMessage

/-! ### What a bench message does (Machine/BenchMsg) -/

theorem Fused.msgError {g f} (h : Fused z s) : Fused z (s.msgError g f) := .ite h.bump h

theorem Fused.once {m tag} {f : State → State × Nat × List Word} (h : Fused z s) (hf : ∀ {t}, Fused z t → Fused z (f t).1) :
    Fused z (s.once m tag f) := by
  unfold State.once
  split
  · exact h.benchPost
  · exact (hf h).benchReply

theorem Fused.mapFor {a n} (h : Fused z s) : Fused z (s.mapFor a n).1 := .iteFst h (.iteFst h h)
theorem Fused.writeFor {a ws} (h : Fused z s) : Fused z (s.writeFor a ws).1 := h.writeStatus
theorem Fused.launchFor {e} (h : Fused z s) : Fused z (s.launchFor e).1 := h.copyInsert
theorem Fused.cancelFor {hh} (h : Fused z s) : Fused z (s.cancelFor hh).1 := h.cancelHandle
theorem Fused.enqueueFor {from_ ring q start ws} (h : Fused z s) : Fused z (s.enqueueFor from_ ring q start ws).1 := h.qStream

theorem Fused.fromMaster {m} {f : State → State × Nat × List Word} (h : Fused z s) (hf : ∀ {t}, Fused z t → Fused z (f t).1) :
    Fused z (s.fromMaster m f) := .ite (h.once hf) h

theorem Fused.peerForward {dst m} (h : Fused z s) : Fused z (s.peerForward dst m) := .ite h h.peerPost

theorem Fused.peerTo {dst m} {f : State → State} (h : Fused z s) (hf : ∀ {t}, Fused z t → Fused z (f t)) : Fused z (s.peerTo dst m f) :=
  .ite (hf h) h.peerForward

theorem Fused.leaseIn {m l} (h : Fused z s) : Fused z (s.leaseIn m l) := by
  unfold State.leaseIn
  split
  · exact h.creditIn
  · exact h.leaseStart
  · exact h.leaseEnd
  · exact h.borrowFailed

theorem Fused.frameFrom {m f} (h : Fused z s) : Fused z (s.frameFrom m f) := by
  unfold State.frameFrom
  split
  · exact h.borrowDone
  · exact h.routeFrame

theorem Fused.benchAct {g m} (h : Fused z s) : Fused z (s.benchAct g m) := by
  unfold State.benchAct
  split
  · exact h.benchAck
  · exact h.fromMaster .launchFor
  · exact h.fromMaster .cancelFor
  · exact h.fromMaster .mapFor
  · exact h.fromMaster .writeFor
  · exact h.resetDirective
  · exact h.benchAction
  · exact h.prepare
  · exact h.vote
  · exact h.decision
  · exact h.outcomeReport
  · exact h.woundRequest
  · exact h.frameFrom
  · exact h.once .enqueueFor
  · exact h.twinMessage
  · exact h.leaseIn
  · exact h.routeMessage
  · exact h.peerTo .routeFrame
  · exact h.peerTo .handoverIn
  · exact h.peerTo .benchAck

theorem Fused.forward {m} (h : Fused z s) : Fused z (s.forward m) := .ite h.bump h.emitOut

theorem Fused.receive {g m} (h : Fused z s) : Fused z (s.receive g m) :=
    .ite h.msgError (.ite h.msgError (.benchAct (.upd (.ite h.bump h))))

theorem Fused.benchMessage {g m} (h : Fused z s) : Fused z (benchMessage g m s) :=
    .ite h (.ite (.ite h.receive h) (.ite h.forward h.receive))

theorem Fused.execBenchMessage {g msg} (h : Fused z s) : FusedOut z (execBenchMessage g msg s) := .next h.benchMessage

/-! ### Card ports (Machine/CardOps) -/

theorem Fused.setCard {k c} (h : Fused z s) : Fused z (s.setCard k c) := h.upd
theorem Fused.setCardState {k v} (h : Fused z s) : Fused z (s.setCardState k v) := h.setF
theorem Fused.setCardRun {k r} (h : Fused z s) : Fused z (s.setCardRun k r) := h.setCard
theorem Fused.cardSend {k b} (h : Fused z s) : Fused z (s.cardSend k b) := h.emitOut.setCard
theorem Fused.cardLine {k line v} (h : Fused z s) : Fused z (s.cardLine k line v) := h.emitOut
theorem Fused.cardOff {k} (h : Fused z s) : Fused z (s.cardOff k) := h.cardLine.cardLine.cardLine.cardLine.setCard.setCardState

/-! ### Card events (Machine/Cards) -/

theorem Fused.cardWrite {r n from_ upto} (h : Fused z s) : Fused z (s.cardWrite r n from_ upto) := by
  unfold State.cardWrite
  split
  · exact h
  · exact .ite h h.emitOut

theorem Fused.cardFlush {k r} (h : Fused z s) : Fused z (s.cardFlush k r) := h.cardWrite.setCardRun

theorem Fused.cardHead {k r len st} (h : Fused z s) : Fused z (s.cardHead k r len st) := by
  unfold State.cardHead
  split
  · exact h
  · exact h.emitOut

theorem Fused.cardLast {k st} (h : Fused z s) : Fused z (s.cardLast k st) := h.setCard.setF

theorem Fused.cardError {k r st} (h : Fused z s) : Fused z (s.cardError k r st) :=
    .ite h.cardLast.exchangeEnd h.cardLast.cardHead.exchangeEnd

theorem Fused.cardFail {k r st} (h : Fused z s) : Fused z (s.cardFail k r st) := h.cardError.cardOff
theorem Fused.cardDown {k r} (h : Fused z s) : Fused z (s.cardDown k r) := h.setCard.exchangeEnd.cardOff
theorem Fused.t0Send {k r t} (h : Fused z s) : Fused z (s.t0Send k r t) := .ite h.cardDown h.setCardRun.cardSend
theorem Fused.t1Send {k r} (h : Fused z s) : Fused z (s.t1Send k r) := .ite h.cardDown h.setCardRun.cardSend

theorem Fused.cardStart {k r} (h : Fused z s) : Fused z (s.cardStart k r) := by
  unfold State.cardStart
  dsimp only
  split
  · exact .ite h.setCardState.t1Send h.setCardState.setCardRun.cardSend
  · split
    · exact h.setCardState.cardError.setCardState
    · split
      · exact h.setCardState
      · exact h.setCardState.t0Send

theorem Fused.cardReset {k r} (h : Fused z s) : Fused z (s.cardReset k r) := .setCardState (.setCard (.ite h.cardLine h.cardLine))

theorem Fused.cardExchange {k cmd} (h : Fused z s) : Fused z (cardExchange k cmd s) := by
  unfold Machine.cardExchange
  dsimp only
  split
  · exact h
  · exact .ite h (.ite h.dmaFinish (h.withRead (fun h1 => .ite h1.setDmaRun.cardError (.ite h1.setDmaRun.cardError (.ite
        h1.setDmaRun.cardReset h1.setDmaRun.cardStart)))))

theorem Fused.execCardExchange {k cmd} (h : Fused z s) : FusedOut z (execCardExchange k cmd s) := .next h.cardExchange

theorem Fused.cardActivate {k} (h : Fused z s) : Fused z (cardActivate k s) :=
    .ite h (.setF (.setF (.setCard (.cardLine (.ite h h.cardLine.cardLine)))))

theorem Fused.execCardActivate {k} (h : Fused z s) : FusedOut z (execCardActivate k s) := .next h.cardActivate

theorem Fused.atrFails {k} (h : Fused z s) : Fused z (s.atrFails k) := by
  unfold State.atrFails
  split
  · exact h.cardFail
  · exact h.cardLast.cardOff

theorem Fused.atrTake {k a t pps} (h : Fused z s) : Fused z (s.atrTake k a t pps) := by
  unfold State.atrTake
  dsimp only
  split
  · split
    · exact h.setCard.setF.setF.setF.setF
    · exact h.setCard.setF.setF
  · split
    · exact h.setCard.setF.setF
    · split
      · split
        · exact h.setCard.setF.setF.cardSend.setF.setF
        · exact h.setCard.setF.setF.cardSend
      · exact h.setCard.setF.setF.cardSend

theorem Fused.cardAtr {k begin_ atr pps} (h : Fused z s) : Fused z (cardAtr k begin_ atr pps s) := by
  unfold Machine.cardAtr
  dsimp only
  split
  · exact h
  · split
    · exact h.atrFails
    · split
      · exact h.atrFails
      · split
        · exact h.atrFails
        · split
          · exact h.atrFails
          · split
            · exact h.atrTake.setCardState
            · exact h.atrTake.setCardState.cardStart

theorem Fused.execCardAtr {k begin_ atr pps} (h : Fused z s) : FusedOut z (execCardAtr k begin_ atr pps s) := .next h.cardAtr
theorem Fused.atrFail {k} (h : Fused z s) : Fused z (atrFail k s) := .ite h h.atrFails
theorem Fused.execAtrFail {k} (h : Fused z s) : FusedOut z (execAtrFail k s) := .next h.atrFail

theorem Fused.t0Status {k r sw1 sw2} (h : Fused z s) : Fused z (s.t0Status k r sw1 sw2) := by
  unfold State.t0Status
  dsimp only
  split
  · exact .ite h.t0Send h.setCardRun
  · exact .ite h.t0Send (.ite h.t0Send (.ite h.t0Send h.setCardRun))

theorem Fused.t0Data {k r n} (h : Fused z s) : Fused z (s.t0Data k r n) := .ite h.setCardRun h.setCardRun.cardSend

theorem Fused.t0Char {k r x} (h : Fused z s) : Fused z (s.t0Char k r x) := by
  unfold State.t0Char
  dsimp only
  split
  · exact h.setCard.t0Status
  · exact h.setCard.cardFlush
  · exact .ite h.setCard.setCardRun (.ite h.setCard.setCardRun (.ite (.ite h.setCard.t0Data (.ite h.setCard.setCardRun
        h.setCard.setCardRun)) (.ite (.ite h.setCard.t0Data (.ite h.setCard.setCardRun h.setCard.setCardRun)) h.setCard.setCardRun)))

theorem Fused.t1Fail {k r st e} (h : Fused z s) : Fused z (s.t1Fail k r st e) := .ite h.cardFail h.setCardRun.cardSend
theorem Fused.t1Answer {k r pcb inf} (h : Fused z s) : Fused z (s.t1Answer k r pcb inf) := h.setCardRun.cardSend

theorem Fused.t1Info {k r more inf} (h : Fused z s) : Fused z (s.t1Info k r more inf) := by
  unfold State.t1Info
  extract_lets _ _ _ s1
  have hs1 : Fused z s1 := h.setCard.cardFlush
  split
  · exact hs1
  · split
    · exact hs1
    · exact .ite hs1.cardDown hs1.cardSend

theorem Fused.t1Block {k r0 b} (h : Fused z s) : Fused z (s.t1Block k r0 b) := by
  unfold State.t1Block
  dsimp only
  exact .ite (.ite h.t1Fail h.t1Info) (.ite (.ite h.t1Answer (.ite h.t1Answer (.ite h.t1Send (.ite h.t1Fail h.setCard.t1Send)))) (.ite
      h.setCard.t1Send (.ite h.setCard.t1Answer (.ite h.setCard.t1Answer h.t1Fail))))

theorem Fused.t1Char {k r x ok} (h : Fused z s) : Fused z (s.t1Char k r x ok) :=
    .ite h.setCard.setCardRun (.ite h.setCard.bump.t1Fail h.setCard.t1Block)

theorem Fused.cardCharacter {k x parityOk} (h : Fused z s) : Fused z (cardCharacter k x parityOk s) := by
  unfold Machine.cardCharacter
  split
  · exact h
  · exact .ite h (.ite h.t1Char (.ite h.t0Char (.ite h.cardFail h.setCard.setCardRun.bump)))

theorem Fused.execCardCharacter {k x parityOk} (h : Fused z s) : FusedOut z (execCardCharacter k x parityOk s) := .next h.cardCharacter

theorem Fused.cardErrorSignal {k i} (h : Fused z s) : Fused z (cardErrorSignal k i s) := by
  unfold Machine.cardErrorSignal
  dsimp only
  split
  · exact h
  · exact .ite h (.ite h.cardFail h.emitOut.bump.setCard)

theorem Fused.execCardErrorSignal {k i} (h : Fused z s) : FusedOut z (execCardErrorSignal k i s) := .next h.cardErrorSignal

theorem Fused.cardTimeout {k} (h : Fused z s) : Fused z (cardTimeout k s) := by
  unfold Machine.cardTimeout
  split
  · exact h
  · exact .ite h (.ite h.bump.t1Fail h.bump.cardFail)

theorem Fused.execCardTimeout {k} (h : Fused z s) : FusedOut z (execCardTimeout k s) := .next h.cardTimeout

theorem Fused.cardExchangeEnd {k} (h : Fused z s) : Fused z (cardExchangeEnd k s) := by
  unfold Machine.cardExchangeEnd
  split
  · exact h
  · split
    · exact h
    · split
      · exact h
      · extract_lets _ s1
        have hs1 : Fused z s1 := by
          unfold s1
          split
          · exact h.loadKey
          · exact h
        exact .ite (.exchangeEnd (.ite hs1.cardLast.cardOff hs1.cardLast.setCardState)) (.exchangeEnd (.cardHead (.cardWrite (.ite
            hs1.cardLast.cardOff hs1.cardLast.setCardState))))

theorem Fused.execCardExchangeEnd {k} (h : Fused z s) : FusedOut z (execCardExchangeEnd k s) := .next h.cardExchangeEnd
theorem Fused.cardDeactivated {k} (h : Fused z s) : Fused z (cardDeactivated k s) := .ite h.setCardState h
theorem Fused.execCardDeactivated {k} (h : Fused z s) : FusedOut z (execCardDeactivated k s) := .next h.cardDeactivated

/-! ### Cipher events (Machine/Cipher) -/

theorem Fused.cipherCmd {c w} (h : Fused z s) : Fused z (s.cipherCmd c w) := by
  unfold State.cipherCmd
  split
  · exact .complete (.ite h.bump h)
  · exact h.cipherStart

theorem Fused.execCipher {c w} (h : Fused z s) : FusedOut z (execCipher c w s) := .next (h.command h.cipherCmd)
theorem Fused.takeInput {q} (h : Fused z s) : Fused z (s.takeInput q) := h.qConsume.qRelease

theorem Fused.cipherRun {w key} (h : Fused z s) : Fused z (s.cipherRun w key).1 := by
  unfold State.cipherRun
  dsimp only
  split
  · exact h.eccFlush
  · split
    · exact h
    · refine .iteFst h.takeInput (.iteFst h.takeInput ?_)
      split
      · exact h.takeInput.bump
      · split <;> rename_i e
        · exact (h.qHwItem.ofFst e).takeInput
        · exact h.qHwItem.ofFst e

theorem Fused.hostEnd {r c w good} (h : Fused z s) : Fused z (s.hostEnd r c w good) := by
  unfold State.hostEnd
  split
  · exact h.complete
  · exact .ite h.takeInput.complete h.cipherRun.answer

theorem Fused.jobEnd {r good} (h : Fused z s) : Fused z (s.jobEnd r good) := by
  unfold State.jobEnd
  dsimp only
  split
  · exact h.cipherLeave.verifyEnd
  · exact h.cipherLeave.secureEnd
  · exact h.cipherLeave.relayEnd
  · exact h.cipherLeave.hostEnd

theorem Fused.completeReady {n} (h : Fused z s) : Fused z (s.completeReady n) := by
  induction n generalizing s with
  | zero => exact h
  | succ n ih =>
    unfold State.completeReady
    split
    · exact h
    · exact ih h.jobEnd

theorem Fused.requestEnded {t good} (h : Fused z s) : Fused z (s.requestEnded t good) := h.upd.completeReady

theorem Fused.chargePipe {u i} (h : Fused z s) : Fused z (s.chargePipe u i) :=
    .ite h.upd (.ite h.upd.retirePipe.escalateRecord.enterFault h.upd.retirePipe)

theorem Fused.mismatch {p cls spare} (h : Fused z s) : Fused z (s.mismatch p cls spare) := by
  unfold State.mismatch
  extract_lets _ _ s2
  have hs2 : Fused z s2 := by
    unfold s2
    split
    · exact h.bump.endAudit
    · exact h.bump
  exact .foldl hs2.report fun _ _ h2 => h2.chargePipe

theorem Fused.cipherDone {t agree spare} (h : Fused z s) : Fused z (cipherDone t agree spare s) := by
  unfold Machine.cipherDone
  split
  · exact h
  · exact .ite h.requestEnded h.requestEnded.mismatch

theorem Fused.execCipherDone {t agree spare} (h : Fused z s) : FusedOut z (execCipherDone t agree spare s) := .next h.cipherDone

theorem Fused.frameVerifiedEvent {t} (h : Fused z s) : Fused z (Machine.frameVerified t s) := by
  unfold Machine.frameVerified
  split
  · split
    · exact h.requestEnded
    · exact h
  · exact h

theorem Fused.execFrameVerified {t} (h : Fused z s) : FusedOut z (execFrameVerified t s) := .next h.frameVerifiedEvent

theorem Fused.frameSecured {t} (h : Fused z s) : Fused z (frameSecured t s) := by
  unfold Machine.frameSecured
  split
  · split
    · exact h.requestEnded
    · exact h.requestEnded
    · exact h
  · exact h

theorem Fused.execFrameSecured {t} (h : Fused z s) : FusedOut z (execFrameSecured t s) := .next h.frameSecured

/-! ### Power domains (Machine/Domains) -/

theorem Fused.drainEnd (h : Fused z s) : Fused z (s.drainEnd) := by
  unfold State.drainEnd
  split
  · split
    · exact h.resetBy
    · exact h.upd
  · exact h

theorem Fused.abortNotice {d tags untagged} (h : Fused z s) : Fused z (s.abortNotice d tags untagged) := h.upd.notice
theorem Fused.abortLines {d} (h : Fused z s) : Fused z (s.abortLines d).1 := .foldlFst h fun _ _ h1 => .iteFst h1.plcCut h1

theorem Fused.abortRamps {d} (h : Fused z s) : Fused z (s.abortRamps d).1 := by
  refine .foldlFst h fun _ _ h1 => ?_
  dsimp only
  split
  · exact h1
  · exact h1.upd.rfCut

theorem Fused.abortWrites {d} (h : Fused z s) : Fused z (s.abortWrites d).1 := .foldl h.upd fun _ _ h1 => h1.launchDone
theorem Fused.abortHeld (h : Fused z s) : Fused z (s.abortHeld).1 := .foldl h fun _ _ h1 => h1.endLent

theorem Fused.abortJob {j} (h : Fused z s) : Fused z (s.abortJob j) := by
  unfold State.abortJob
  split
  · exact h.ackNone.supervise
  · split
    · exact .ite h.txFail h
    · exact h
  · exact h.noNextHop
  · exact h.complete

theorem Fused.abortCipher (h : Fused z s) : Fused z s.abortCipher.1 := by
  unfold State.abortCipher
  extract_lets held c s1 s2 s3 x
  have h1 : Fused z s1 := h.upd
  have h2 : Fused z s2 := .foldl h1 fun _ _ h1 => h1.cipherLeave.abortJob
  have h3 : Fused z s3 := .foldl h2 fun _ _ h1 => h1.abortJob
  have hx : Fused z x.1 := by
    refine .foldlFst h3 fun _ _ h1 => ?_
    dsimp only
    split
    · exact h1
    · exact h1.setCard.exchangeEnd.cardOff
  dsimp only
  exact hx

theorem Fused.endHeldReqs {st} (h : Fused z s) : Fused z (s.endHeldReqs st) := .foldl h.upd fun _ _ h1 => h1.requestEnd
theorem Fused.abortBench (h : Fused z s) : Fused z (s.abortBench).1 := .foldl h.endHeldReqs fun _ _ h1 => h1.closeRequest

theorem Fused.abortDomain {d} (h : Fused z s) : Fused z (s.abortDomain d).1 := by
  unfold State.abortDomain
  split
  · dsimp only
    exact h.abortLines
  · split
    · dsimp only
      exact h.abortRamps.abortWrites
    · split
      · dsimp only
        exact h.abortHeld
      · split
        · exact h.abortCipher
        · exact .iteFst h.abortBench h

theorem Fused.abortRead {k} (h : Fused z s) : Fused z (s.abortRead k) := by
  unfold State.abortRead
  dsimp only
  split
  · split
    · exact .dmaFinish (.ite h.readEnd.qRewind h.readEnd)
    · exact h.readEnd
  · split
    · exact h.readEnd.complete.upd
    · exact h.readEnd
  · exact h.readEnd

theorem Fused.abortCore (h : Fused z s) : Fused z (s.abortCore).1 := .foldl h.upd fun _ _ h1 => h1.abortRead

theorem Fused.clampDomain {d} (h : Fused z s) : Fused z (s.clampDomain d) :=
    .ite (.foldl h.setDomain.upd fun _ _ h1 => .ite h1 h1.cardOff) (.ite h.setDomain.upd.endHeldReqs h.setDomain.upd)

theorem Fused.domainDrained {d} (h : Fused z s) : Fused z (domainDrained d s) := .ite h.drainEnd (.ite h.clampDomain.twinSettle h)
theorem Fused.execDomainDrained {d} (h : Fused z s) : FusedOut z (execDomainDrained d s) := .next h.domainDrained

theorem Fused.domainLimit {d} (h : Fused z s) : Fused z (s.domainLimit d) :=
    .twinSettle (.ite h.abortDomain.abortNotice h.abortDomain.abortNotice.clampDomain)

theorem Fused.drainLimitExpiry {d} (h : Fused z s) : Fused z (drainLimitExpiry d s) := by
  unfold Machine.drainLimitExpiry
  split
  · split
    · exact .ite h.abortCore.abortNotice.drainEnd h
    · exact h
  · exact .ite h.domainLimit h

theorem Fused.execDrainLimitExpiry {d} (h : Fused z s) : FusedOut z (execDrainLimitExpiry d s) := .next h.drainLimitExpiry

theorem Fused.domainOff {d} (h : Fused z s) : Fused z (domainOff d s) :=
    .ite (.ite h.setDomain.domainLeavesOn.drainEnd (.ite h.setDomain.domainLeavesOn.powerUp h.setDomain.domainLeavesOn)) h

theorem Fused.execDomainOff {d} (h : Fused z s) : FusedOut z (execDomainOff d s) := .next h.domainOff

theorem Fused.domainOn {d} (h : Fused z s) : Fused z (domainOn d s) :=
    .ite (.ite h.setDomain.domainComesOn.drainDomain h.setDomain.domainComesOn) h

theorem Fused.execDomainOn {d} (h : Fused z s) : FusedOut z (execDomainOn d s) := .next h.domainOn

/-! ### Faults, spares and audits (Machine/Faults) -/

theorem Fused.faultDetect {code u detail} (h : Fused z s) : Fused z (faultDetect code u detail s) :=
    .ite h (.ite h.reportEscalated h.report)

theorem Fused.execFaultDetect {code u detail} (h : Fused z s) : FusedOut z (execFaultDetect code u detail s) := .next h.faultDetect

theorem Fused.faultAutoclose {i} (h : Fused z s) : Fused z (faultAutoclose i s) := by
  unfold Machine.faultAutoclose
  split
  · exact h
  · exact .ite h.closeRecord h

theorem Fused.execFaultAutoclose {i} (h : Fused z s) : FusedOut z (execFaultAutoclose i s) := .next h.faultAutoclose

theorem Fused.closeFaults {v} (h : Fused z s) : Fused z (s.closeFaults v).1 :=
    .iteFst (.foldl h fun _ _ h1 => h1.closeRecord) (.iteFst h (.iteFst h.closeRecord h))

theorem Fused.execFaultClose {c v} (h : Fused z s) : FusedOut z (execFaultClose c v s) := .next (h.command h.closeFaults.complete)

theorem Fused.wedgeLimit {k u} (h : Fused z s) : Fused z (s.wedgeLimit k u).2 := by
  unfold State.wedgeLimit
  split
  · exact h
  · exact h
  · exact h.freshWord
  · split <;> exact h
  · exact h
  · exact h
  · exact h
  · exact h

theorem Fused.wedgeEffect {k u} (h : Fused z s) : Fused z (s.wedgeEffect k u) :=
    .ite (.foldl h.rxFollowPort fun _ _ h1 => h1.plcCut) (.ite h.noteRun (.ite (.foldl h fun _ _ h2 => h2.endLent) h))

theorem Fused.wedgedNotice {k u i action} (h : Fused z s) : Fused z (s.wedgedNotice k u i action) := h.notice

theorem Fused.wedgePipe {u} (h : Fused z s) : Fused z (s.wedgePipe u) :=
    .ite h.report.retirePipe.wedgedNotice.escalateRecord.enterFault h.report.retirePipe.wedgedNotice

theorem Fused.wedgeUnit {w} (h : Fused z s) : Fused z (s.wedgeUnit w) :=
    .ite (.enterFault (.wedgedNotice (.wedgeEffect (.iteFst h.wedgeLimit.upd.recordError h.wedgeLimit.upd.recordError.report))))
    (.wedgedNotice (.wedgeEffect (.iteFst h.wedgeLimit.upd.recordError h.wedgeLimit.upd.recordError.report)))

theorem Fused.unitWedged {w} (h : Fused z s) : Fused z (unitWedged w s) := .ite h (.ite h.wedgePipe h.wedgeUnit)
theorem Fused.execUnitWedged {w} (h : Fused z s) : FusedOut z (execUnitWedged w s) := .next h.unitWedged
theorem Fused.takeUp {k u lg} (h : Fused z s) : Fused z (s.takeUp k u lg) := .ite h.rxFollowPort (.ite h.rxFollowLane h)
theorem Fused.autospareSubst {w} (h : Fused z s) : Fused z (autospareSubst w s) := .ite h h.retire.takeUp
theorem Fused.execAutospareSubst {w} (h : Fused z s) : FusedOut z (execAutospareSubst w s) := .next h.autospareSubst
theorem Fused.setAudit {k a} (h : Fused z s) : Fused z (s.setAudit k a) := h.upd
theorem Fused.endPass {k a} (h : Fused z s) : Fused z (s.endPass k a) := .ite h.bump h

theorem Fused.startStep {k} (h : Fused z s) : Fused z (s.startStep k) := by
  unfold State.startStep
  dsimp only
  split <;> exact h.setAudit

theorem Fused.auditStep {k} (h : Fused z s) : Fused z (auditStep k s) := .ite h (.ite h.setAudit (.ite h h.endPass.startStep))
theorem Fused.execAuditStep {k} (h : Fused z s) : FusedOut z (execAuditStep k s) := .next h.auditStep
theorem Fused.auditNotice {k u v v' verdict} (h : Fused z s) : Fused z (s.auditNotice k u v v' verdict) := h.notice
theorem Fused.endStep {k} (h : Fused z s) : Fused z (s.endStep k) := h.setAudit

theorem Fused.retireFor {k u v i} (h : Fused z s) : Fused z (s.retireFor k u v i) :=
    .ite h.substitute.restartPair.noteRetired.retiredNotice h.substitute.noteRetired.retiredNotice.takeUp

theorem Fused.judgeSpare {k u v v'} (h : Fused z s) : Fused z (s.judgeSpare k u v v') := h.report.endStep.auditNotice.retire

theorem Fused.judgeLive {k u v v'} (h : Fused z s) : Fused z (s.judgeLive k u v v') :=
    .ite h.report.endStep.auditNotice.retireFor h.report.endStep.auditNotice

theorem Fused.judgeNone {k u v} (h : Fused z s) : Fused z (s.judgeNone k u v) := h.report.report.endStep.auditNotice

theorem Fused.auditMismatch {k agrees} (h : Fused z s) : Fused z (auditMismatch k agrees s) := by
  unfold Machine.auditMismatch
  dsimp only
  split
  · exact h
  · split
    · split
      · exact h
      · split
        · exact h.bump.setAudit
        · exact h.bump.judgeNone
    · exact .ite (.ite h h.judgeSpare) h.bump.judgeLive

theorem Fused.execAuditMismatch {k agrees} (h : Fused z s) : FusedOut z (execAuditMismatch k agrees s) := .next h.auditMismatch

/-! ### The host link (Machine/HostLink) -/

theorem Fused.takeCommand {n ws} (h : Fused z s) : Fused z (s.takeCommand n ws) := .ite h.upd.complete (.ite h.upd.complete h.upd)

theorem Fused.commandFetch {n ans} (h : Fused z s) : Fused z (commandFetch n ans s) := by
  unfold Machine.commandFetch
  dsimp only
  split
  · exact h
  · split
    · exact h.ringStop
    · split
      · exact h.ringStop
      · split
        · rename_i e1
          exact (h.setF.takeCommand.writeWb.ofFst e1)
        · rename_i e2
          exact (h.setF.takeCommand.writeWb.ofFst e2).ringStop

theorem Fused.execCommandFetch {n ans} (h : Fused z s) : FusedOut z (execCommandFetch n ans s) := .next h.commandFetch
theorem Fused.spendToken {n} (h : Fused z s) : Fused z (s.spendToken n) := .ite h h.upd
theorem Fused.countDelayed (h : Fused z s) : Fused z (s.countDelayed) := .upd (.foldl h fun _ _ h1 => h1.bump)
theorem Fused.noteSignal (h : Fused z s) : Fused z (s.noteSignal) := .ite h.upd.signal h.upd
theorem Fused.noticeWindow {count} (h : Fused z s) : Fused z (s.noticeWindow count) := h.setF.ringStop.signal

theorem Fused.putNotice {n} (h : Fused z s) : Fused z (s.putNotice n).1 := by
  unfold State.putNotice
  dsimp only
  split
  · exact h.noticeWindow
  · split <;> rename_i e
    · exact (h.emitOut.setF.writeWb.ofFst e).noteSignal
    · exact (h.emitOut.setF.writeWb.ofFst e).noticeWindow

theorem Fused.freeSlot {n} (h : Fused z s) : Fused z (s.freeSlot n) := .ite h h.upd

theorem Fused.noticeWrite (h : Fused z s) : Fused z (noticeWrite s) := by
  unfold Machine.noticeWrite
  dsimp only
  split
  · exact h.countDelayed
  · split
    · split
      · rename_i e5
        exact (h.countDelayed.putNotice.ofFst e5).upd
      · rename_i e6
        exact (h.countDelayed.putNotice.ofFst e6)
    · split
      · exact h.countDelayed
      · split
        · rename_i e7
          exact (h.countDelayed.putNotice.ofFst e7).upd.spendToken.freeSlot
        · rename_i e8
          exact (h.countDelayed.putNotice.ofFst e8)

theorem Fused.execNoticeWrite (h : Fused z s) : FusedOut z (execNoticeWrite s) := .next h.noticeWrite
theorem Fused.irqTimer (h : Fused z s) : Fused z (irqTimer s) := .ite h.upd.signal h
theorem Fused.execIrqTimer (h : Fused z s) : FusedOut z (execIrqTimer s) := .next h.irqTimer
theorem Fused.tokenRefill (h : Fused z s) : Fused z (tokenRefill s) := h.upd
theorem Fused.execTokenRefill (h : Fused z s) : FusedOut z (execTokenRefill s) := .next h.tokenRefill

theorem Fused.spanExpiry {i} (h : Fused z s) : Fused z (spanExpiry i s) := by
  unfold Machine.spanExpiry
  split
  · exact h
  · split
    · dsimp only
      split
      · exact h.upd.hand
      · exact h.upd
    · exact h

theorem Fused.execSpanExpiry {i} (h : Fused z s) : FusedOut z (execSpanExpiry i s) := .next h.spanExpiry

theorem Fused.dropRun {r} (h : Fused z s) : Fused z (s.dropRun r) := by
  unfold State.dropRun
  dsimp only
  split
  · exact h.setDmaRing
  · exact .bump (.setDmaRing (.ite h.readEnd.qRewind h.readEnd))

theorem Fused.hostLinkLoss (h : Fused z s) : Fused z (hostLinkLoss s) :=
    .ite h (.upd (.foldl (.foldl (.foldl h.setF.setF.bump.setF fun _ _ h1 => h1.setF) fun _ _ h2 => h2.dropRun.setF) fun _ _ h3 =>
    h3.readEnd))

theorem Fused.execHostLinkLoss (h : Fused z s) : FusedOut z (execHostLinkLoss s) := .next h.hostLinkLoss
theorem Fused.hostLinkState {speed width} (h : Fused z s) : Fused z (hostLinkState speed width s) := .ite h h.setF.setF.setF.upd.notice
theorem Fused.execHostLinkState {speed width} (h : Fused z s) : FusedOut z (execHostLinkState speed width s) := .next h.hostLinkState
theorem Fused.busMasterEnable (h : Fused z s) : Fused z (busMasterEnable s) := .ite h.setF.sendPending h
theorem Fused.execBusMasterEnable (h : Fused z s) : FusedOut z (execBusMasterEnable s) := .next h.busMasterEnable

/-! ### Keys (Machine/Keys) -/

theorem Fused.keyLoad {c w} (h : Fused z s) : Fused z (s.keyLoad c w) := .ite h.complete h.loadKey.complete
theorem Fused.execKeyLoad {c w} (h : Fused z s) : FusedOut z (execKeyLoad c w s) := .next (h.command h.keyLoad)
theorem Fused.rollWindowExpiry {k} (h : Fused z s) : Fused z (rollWindowExpiry k s) := .ite h.loadKey h
theorem Fused.execRollWindowExpiry {k} (h : Fused z s) : FusedOut z (execRollWindowExpiry k s) := .next h.rollWindowExpiry

/-! ### The loader (Machine/Load) -/

theorem Fused.attemptFailed {c st} (h : Fused z s) : Fused z (s.attemptFailed c st) :=
    .ite h.readEnd.complete.loadOver.upd h.readEnd.complete.loadOver.upd.loadFail

theorem Fused.offerImage {c host len} (h : Fused z s) : Fused z (s.offerImage c host len) :=
    .ite h.complete (.ite h.attemptFailed h.upd.readIssue)

theorem Fused.execLoadImage {c host len} (h : Fused z s) : FusedOut z (execLoadImage c host len s) := .next (h.command h.offerImage)

theorem Fused.readAwaited (h : Fused z s) : Fused z (s.readAwaited) := by
  unfold State.readAwaited
  split
  · exact h.readEnd.complete.loadOver
  · exact h

theorem Fused.imageReadDone {image} (h : Fused z s) : Fused z (imageReadDone image s) := by
  unfold Machine.imageReadDone
  split
  · exact h.readAwaited
  · split
    · exact .ite h h.readEnd.complete.checkLoaded
    · exact h
    · exact h.checkLoaded

theorem Fused.execImageReadDone {image} (h : Fused z s) : FusedOut z (execImageReadDone image s) := .next h.imageReadDone

theorem Fused.loadAttemptFailed {why} (h : Fused z s) : Fused z (loadAttemptFailed why s) := by
  unfold Machine.loadAttemptFailed
  split
  · split
    · exact h.attemptFailed
    · exact h.attemptFailed
    · exact .ite h h.attemptFailed
  · exact h

theorem Fused.execLoadAttemptFailed {why} (h : Fused z s) : FusedOut z (execLoadAttemptFailed why s) := .next h.loadAttemptFailed
theorem Fused.loadTimeout (h : Fused z s) : Fused z (loadTimeout s) := .ite h.loadFail h
theorem Fused.execLoadTimeout (h : Fused z s) : FusedOut z (execLoadTimeout s) := .next h.loadTimeout
theorem Fused.noImage (h : Fused z s) : Fused z (noImage s) := .ite h.loadFail h
theorem Fused.execNoImage (h : Fused z s) : FusedOut z (execNoImage s) := .next h.noImage

/-! ### Mains trackers (Machine/Mains) -/

theorem Fused.anglesLost {p} (h : Fused z s) : Fused z (s.anglesLost p) := h.endEntries
theorem Fused.unlock {p} (h : Fused z s) : Fused z (s.unlock p) := h.mainsState.anglesLost

theorem Fused.lateCrossing {p t f x} (h : Fused z s) : Fused z (s.lateCrossing p t f x) := by
  unfold State.lateCrossing
  split
  · dsimp only
    split
    · split
      · exact .ite h.unlock h.mainsState
      · exact h.mainsState
    · exact .ite (.ite h.mainsState h.setTracker) h

theorem Fused.mainsCrossing {p back} (h : Fused z s) : Fused z (mainsCrossing p back s) := by
  unfold Machine.mainsCrossing
  split
  · exact h
  · dsimp only
    split
    · exact .ite h.lateCrossing.setTracker h.lateCrossing
    · exact h.mainsState

theorem Fused.execMainsCrossing {p back} (h : Fused z s) : FusedOut z (execMainsCrossing p back s) := .next h.mainsCrossing

theorem Fused.mainsCrossingMissed {p} (h : Fused z s) : Fused z (mainsCrossingMissed p s) := by
  unfold Machine.mainsCrossingMissed
  dsimp only
  split
  · exact h
  · exact .ite h (.ite h.mainsState h.setTracker)

theorem Fused.execMainsCrossingMissed {p} (h : Fused z s) : FusedOut z (execMainsCrossingMissed p s) := .next h.mainsCrossingMissed

theorem Fused.coastExpiry {p} (h : Fused z s) : Fused z (coastExpiry p s) := by
  unfold Machine.coastExpiry
  dsimp only
  split
  · exact h
  · exact .ite h.unlock h

theorem Fused.execCoastExpiry {p} (h : Fused z s) : FusedOut z (execCoastExpiry p s) := .next h.coastExpiry

theorem Fused.lockingTimeout {p} (h : Fused z s) : Fused z (lockingTimeout p s) := by
  unfold Machine.lockingTimeout
  dsimp only
  split
  · exact .ite h.unlock h
  · exact h

theorem Fused.execLockingTimeout {p} (h : Fused z s) : FusedOut z (execLockingTimeout p s) := .next h.lockingTimeout

/-! ### Power-line transmission and access (Machine/PlcTx) -/

theorem Fused.plcRead {e} (h : Fused z s) : Fused z (s.plcRead e) := by
  unfold State.plcRead
  split
  · rename_i e1
    split
    · exact h
    · split
      · exact h
      · exact .ite (h.txTake.ofFst e1).txFail (.ite (h.txTake.ofFst e1).secureEntry (h.txTake.ofFst e1))

theorem Fused.plcItemRead {i} (h : Fused z s) : Fused z (plcItemRead i s) := by
  unfold Machine.plcItemRead
  split
  · exact h
  · exact .ite h h.plcRead

theorem Fused.execPlcItemRead {e} (h : Fused z s) : FusedOut z (execPlcItemRead e s) := .next h.plcItemRead

theorem Fused.plcLaunch {e it psdu} (h : Fused z s) : Fused z (s.plcLaunch e it psdu) := by
  unfold State.plcLaunch
  extract_lets _ _ s1
  have hs1 : Fused z s1 := h.lqRemove.plcStart
  split
  · split
    · exact hs1.setPchan.bump
    · exact hs1
  · exact hs1

theorem Fused.plcFrame {i} (h : Fused z s) : Fused z (plcFrame i s) := by
  unfold Machine.plcFrame
  split
  · exact h
  · split
    · exact h
    · dsimp only
      split
      · exact .ite h.plcRead h
      · split
        · exact .txFail (.ite h.plcRead h)
        · split
          · exact .endOfTick (.plcLaunch (.ite h.plcRead h))
          · exact .txFail (.ite h.plcRead h)

theorem Fused.execPlcFrame {e} (h : Fused z s) : FusedOut z (execPlcFrame e s) := .next h.plcFrame
theorem Fused.sentReserve {p b t} (h : Fused z s) : Fused z (s.sentReserve p b t) := .ite h.setPchan h

theorem Fused.attemptSent {hh p b t} (h : Fused z s) : Fused z (s.attemptSent hh p b t) := by
  unfold State.attemptSent
  split
  · exact h
  · exact .ite h.setPchan.sentReserve h.releaseAttempt

theorem Fused.plcTxDone {p b} (h : Fused z s) : Fused z (plcTxDone p b s) := by
  unfold Machine.plcTxDone
  split
  · exact h
  · split
    · exact h
    · dsimp only
      split
      · exact h.plcStop.bump.twinSettle.sentReserve.qRelease.launchReport
      · exact h.plcStop.bump.twinSettle.sentReserve.attemptSent
      · exact h.plcStop.bump.twinSettle.sentReserve

theorem Fused.execPlcTxDone {p b} (h : Fused z s) : FusedOut z (execPlcTxDone p b s) := .next h.plcTxDone
theorem Fused.unblock {p b} (h : Fused z s) : Fused z (s.unblock p b) := .ite h.setPchan h

theorem Fused.startAttempt {p b k q t} (h : Fused z s) : Fused z (s.startAttempt p b k q t) := by
  unfold State.startAttempt
  dsimp only
  split
  · exact h.beginAttempt.lqInsert.rewindAttempt
  · split
    · exact h.beginAttempt.lqInsert.plcRead
    · exact h.beginAttempt.lqInsert

theorem Fused.contentionDecision {p b round draw spectra} (h : Fused z s) : Fused z (contentionDecision p b round draw spectra s) := by
  unfold Machine.contentionDecision
  dsimp only
  split
  · exact h.unblock
  · split
    · exact .ite h.unblock (.ite h.unblock.bump h.unblock.startAttempt)
    · exact h.unblock

theorem Fused.execContentionDecision {p b d} (h : Fused z s) : FusedOut z (execContentionDecision p b d s) := .next h.contentionDecision

theorem Fused.plcAckSend {p b} (h : Fused z s) : Fused z (plcAckSend p b s) := by
  unfold Machine.plcAckSend
  dsimp only
  split
  · exact h
  · exact .ite h (.ite h.setPchan (.ite h.setPchan.bump (.ite h.setPchan.plcStart.bump h.setPchan.plcStart.bump)))

theorem Fused.execPlcAckSend {p b} (h : Fused z s) : FusedOut z (execPlcAckSend p b s) := .next h.plcAckSend
theorem Fused.execPlcAckRx {p b psdu} (h : Fused z s) : FusedOut z (execPlcAckRx p b psdu s) := .next h.plcAckIn

theorem Fused.plcAckExpiry {p b} (h : Fused z s) : Fused z (plcAckExpiry p b s) := by
  unfold Machine.plcAckExpiry
  split
  · exact .ite h.ackMissed h
  · exact h

theorem Fused.execPlcAckExpiry {p b} (h : Fused z s) : FusedOut z (execPlcAckExpiry p b s) := .next h.plcAckExpiry

theorem Fused.bandcAccess {p draw spectra} (h : Fused z s) : Fused z (bandcAccess p draw spectra s) := by
  unfold Machine.bandcAccess
  dsimp only
  split
  · exact h.unblock
  · exact .ite h.unblock (.ite h.unblock.bump (.ite h.unblock h.unblock.startAttempt))

theorem Fused.execBandcAccess {p d} (h : Fused z s) : FusedOut z (execBandcAccess p d s) := .next h.bandcAccess
theorem Fused.fallback {p} (h : Fused z s) : Fused z (s.fallback p) := h.setF.notice
theorem Fused.silentSuper {p b t} (h : Fused z s) : Fused z (s.silentSuper p b t) := h.setPchan.bump

theorem Fused.beaconLaunch {p b} (h : Fused z s) : Fused z (beaconLaunch p b s) := by
  unfold Machine.beaconLaunch
  dsimp only
  split
  · exact h
  · split
    · exact h.bump.fallback
    · exact .ite h (.ite h.upd.silentSuper h.upd.plcStart.setF.setPchan.mirror)

theorem Fused.execBeaconLaunch {p b} (h : Fused z s) : FusedOut z (execBeaconLaunch p b s) := .next h.beaconLaunch

theorem Fused.grantLaunch {p b} (h : Fused z s) : Fused z (grantLaunch p b s) := by
  unfold Machine.grantLaunch
  dsimp only
  split
  · exact .ite h.unblock (.ite h.unblock.startAttempt h.unblock.bump)
  · exact h.unblock

theorem Fused.execGrantLaunch {p b} (h : Fused z s) : FusedOut z (execGrantLaunch p b s) := .next h.grantLaunch

theorem Fused.accessTakes {p} (h : Fused z s) : Fused z (s.accessTakes p) := by
  unfold State.accessTakes
  split
  · exact h
  · exact .foldl h.upd fun _ _ h1 => h1.setPchan

theorem Fused.fallbackEnds {p} (h : Fused z s) : Fused z (s.fallbackEnds p) := .ite (.foldl h.setF fun _ _ h1 => h1.setPchan) h

theorem Fused.mainsCycleBoundary {p} (h : Fused z s) : Fused z (mainsCycleBoundary p s) :=
    .ite h h.setTracker.accessTakes.fallbackEnds.upd

theorem Fused.execMainsCycleBoundary {p} (h : Fused z s) : FusedOut z (execMainsCycleBoundary p s) := .next h.mainsCycleBoundary

/-! ### Queue events (Machine/Queues) -/

theorem Fused.queueStale {q} (h : Fused z s) : Fused z (queueStale q s) := .ite h.setQst.setF.notice h
theorem Fused.execQueueStale {q} (h : Fused z s) : FusedOut z (execQueueStale q s) := .next h.queueStale

theorem Fused.queueOpenExpired {q} (h : Fused z s) : Fused z (queueOpenExpired q s) := by
  unfold Machine.queueOpenExpired
  split
  · exact h
  · exact .ite h.qExpireOpen.notice h

theorem Fused.execQueueOpenExpired {q} (h : Fused z s) : FusedOut z (execQueueOpenExpired q s) := .next h.queueOpenExpired
theorem Fused.execHwItemWrite {q u body} (h : Fused z s) : FusedOut z (execHwItemWrite q u body s) := .next h.qHwItem

theorem Fused.corrected {b w} (h : Fused z s) : Fused z (s.corrected b w) := by
  unfold State.corrected
  dsimp only
  split
  · exact h.bump.bump
  · exact h.bump

theorem Fused.poisoned {b o w} (h : Fused z s) : Fused z (s.poisoned b o w) := by
  refine .ite h (.notice (.report ?_))
  split
  · exact .setF (.bump (.upd (.ite h.freshWord h)))
  · exact .bump (.upd (.ite h.freshWord h))

theorem Fused.scrubNext {b o} (h : Fused z s) : Fused z (s.scrubNext b o) := .ite h.upd.bump h.upd

theorem Fused.scrubRead {b u} (h : Fused z s) : Fused z (scrubRead b u s) := by
  unfold Machine.scrubRead
  split
  · exact h
  · extract_lets _ _ s1
    have hs1 : Fused z s1 := by
      unfold s1
      split
      · exact h
      · exact h.corrected
      · exact h.poisoned
    exact hs1.scrubNext

theorem Fused.execScrubRead {b u} (h : Fused z s) : FusedOut z (execScrubRead b u s) := .next h.scrubRead
theorem Fused.bankCopyDone {n} (h : Fused z s) : Fused z (bankCopyDone n s) := h.upd
theorem Fused.execBankCopyDone {n} (h : Fused z s) : FusedOut z (execBankCopyDone n s) := .next h.bankCopyDone

/-- Every command and event keeps what a state keeps. -/
theorem Fused.exec (h : Fused z s) : ∀ i : Instr, FusedOut z (Machine.exec i s)
  | .nop .. => h.execNop
  | .read .. => h.execRead
  | .write .. => h.execWrite
  | .readBlock .. => h.execReadBlock
  | .writeBlock .. => h.execWriteBlock
  | .enqueue .. => h.execEnqueue
  | .launch .. => h.execLaunch
  | .launchCancel .. => h.execLaunchCancel
  | .routeInsert .. => h.execRouteInsert
  | .routeRemove .. => h.execRouteRemove
  | .keyLoad .. => h.execKeyLoad
  | .cipher .. => h.execCipher
  | .loadImage .. => h.execLoadImage
  | .fullReset .. => h.execFullReset
  | .txnOpen .. => h.execTxnOpen
  | .txnAdd .. => h.execTxnAdd
  | .txnCommit .. => h.execTxnCommit
  | .txnAbort .. => h.execTxnAbort
  | .txnStatus .. => h.execTxnStatus
  | .memberReset .. => h.execMemberReset
  | .remoteRead .. => h.execRemoteRead
  | .remoteWrite .. => h.execRemoteWrite
  | .handover .. => h.execHandover
  | .ledgerRead .. => h.execLedgerRead
  | .ledgerWrite .. => h.execLedgerWrite
  | .faultClose .. => h.execFaultClose
  | .reqRun .. => h.execReqRun
  | .reqQuiet .. => h.execReqQuiet
  | .reqShadow .. => h.execReqShadow
  | .reqDrain .. => h.execReqDrain
  | .faultAck .. => h.execFaultAck
  | .optagHwClear .. => h.execOptagHwClear
  | .poolHwClear .. => h.execPoolHwClear
  | .abortinfoClear .. => h.execAbortinfoClear
  | .counterClear .. => h.execCounterClear
  | .w1cClear .. => h.execW1cClear
  | .registerWrite .. => h.execRegisterWrite
  | .fuseArm .. => h.execFuseArm
  | .fuseBlow .. => h.execFuseBlow
  | .fuseProgramDone => h.execFuseProgramDone
  | .stepSet .. => h.execStepSet
  | .stepAccept .. => h.execStepAccept
  | .qctlAdvance .. => h.execQctlAdvance
  | .qctlRelease .. => h.execQctlRelease
  | .qctlMark .. => h.execQctlMark
  | .qctlRewind .. => h.execQctlRewind
  | .qctlFlush .. => h.execQctlFlush
  | .qctlClrcnt .. => h.execQctlClrcnt
  | .qcfgStaleWrite .. => h.execQcfgStaleWrite
  | .laneRun .. => h.execLaneRun
  | .lpgainWrite .. => h.execLpgainWrite
  | .ringEnable .. => h.execRingEnable
  | .epStateActive .. => h.execEpStateActive
  | .epStateFree .. => h.execEpStateFree
  | .nowLoRead .. => h.execNowLoRead
  | .rsShadowRead .. => h.execRsShadowRead
  | .hlCdb .. => h.execHlCdb
  | .hlNdb .. => h.execHlNdb
  | .hlDdb .. => h.execHlDdb
  | .suppliesUp => h.execSuppliesUp
  | .supplyLoss => h.execSupplyLoss
  | .resetPin .. => h.execResetPin
  | .coldToLoad .. => h.execColdToLoad
  | .imageReadDone .. => h.execImageReadDone
  | .loadAttemptFailed .. => h.execLoadAttemptFailed
  | .loadTimeout => h.execLoadTimeout
  | .selfTestDone .. => h.execSelfTestDone
  | .defaultedTestDone .. => h.execDefaultedTestDone
  | .defTxStart => h.execDefTxStart
  | .acquireComplete => h.execAcquireComplete
  | .twinTakeover => h.execTwinTakeover
  | .twinRecheck .. => h.execTwinRecheck
  | .twinLinkLost => h.execTwinLinkLost
  | .twinSend .. => h.execTwinSend
  | .twinMessage .. => h.execTwinMessage
  | .domainDrained .. => h.execDomainDrained
  | .drainLimitExpiry .. => h.execDrainLimitExpiry
  | .domainOff .. => h.execDomainOff
  | .domainOn .. => h.execDomainOn
  | .unitWedged .. => h.execUnitWedged
  | .autospareSubst .. => h.execAutospareSubst
  | .watchdogReset .. => h.execWatchdogReset
  | .resetDirective .. => h.execResetDirective
  | .ppsEdge .. => h.execPpsEdge
  | .todSentence .. => h.execTodSentence
  | .timeCell .. => h.execTimeCell
  | .refLoss => h.execRefLoss
  | .holdoverExpired => h.execHoldoverExpired
  | .pps0Return => h.execPps0Return
  | .mainsCrossing .. => h.execMainsCrossing
  | .mainsCrossingMissed .. => h.execMainsCrossingMissed
  | .coastExpiry .. => h.execCoastExpiry
  | .lockingTimeout .. => h.execLockingTimeout
  | .mainsCycleBoundary .. => h.execMainsCycleBoundary
  | .launchStage .. => h.execLaunchStage
  | .commit .. => h.execCommit
  | .plcBand .. => h.execPlcBand
  | .rfTune .. => h.execRfTune
  | .gain .. => h.execGain
  | .rfProfile .. => h.execRfProfile
  | .plcFrame .. => h.execPlcFrame
  | .rfTx .. => h.execRfTx
  | .eventEdge .. => h.execEventEdge
  | .marker .. => h.execMarker
  | .eventCapture .. => h.execEventCapture
  | .rfRxFrame .. => h.execRfRxFrame
  | .rfFrameMissing .. => h.execRfFrameMissing
  | .rfcTransaction .. => h.execRfcTransaction
  | .laneParityError .. => h.execLaneParityError
  | .captureItem .. => h.execCaptureItem
  | .plcDetect .. => h.execPlcDetect
  | .plcSyncm .. => h.execPlcSyncm
  | .plcSyncTimeout .. => h.execPlcSyncTimeout
  | .plcHeaderDecided .. => h.execPlcHeaderDecided
  | .plcFrameDue .. => h.execPlcFrameDue
  | .plcSuspendEnd .. => h.execPlcSuspendEnd
  | .plcItemRead .. => h.execPlcItemRead
  | .plcTxDone .. => h.execPlcTxDone
  | .contentionDecision .. => h.execContentionDecision
  | .plcAckSend .. => h.execPlcAckSend
  | .plcAckRx .. => h.execPlcAckRx
  | .plcAckExpiry .. => h.execPlcAckExpiry
  | .bandcAccess .. => h.execBandcAccess
  | .beaconLaunch .. => h.execBeaconLaunch
  | .grantLaunch .. => h.execGrantLaunch
  | .chirpDetect .. => h.execChirpDetect
  | .demodGrant .. => h.execDemodGrant
  | .syncDecided .. => h.execSyncDecided
  | .firstBlockDecided .. => h.execFirstBlockDecided
  | .chirpLost .. => h.execChirpLost
  | .chirpFrameDue .. => h.execChirpFrameDue
  | .rfTxItemRead .. => h.execRfTxItemRead
  | .rfItemDeadline .. => h.execRfItemDeadline
  | .dutyCheck .. => h.execDutyCheck
  | .uprampStart .. => h.execUprampStart
  | .rfTxEnd .. => h.execRfTxEnd
  | .chirpSuspendEnd .. => h.execChirpSuspendEnd
  | .frameVerified .. => h.execFrameVerified
  | .frameSecured .. => h.execFrameSecured
  | .supervisionExpiry .. => h.execSupervisionExpiry
  | .provisionalExpiry .. => h.execProvisionalExpiry
  | .slotPrepare .. => h.execSlotPrepare
  | .slotStart => h.execSlotStart
  | .schedTx .. => h.execSchedTx
  | .schedAckSend .. => h.execSchedAckSend
  | .rfAckExpiry .. => h.execRfAckExpiry
  | .dlqServe .. => h.execDlqServe
  | .mbxExpired .. => h.execMbxExpired
  | .pollResponse .. => h.execPollResponse
  | .dcSecond => h.execDcSecond
  | .cipherDone .. => h.execCipherDone
  | .rollWindowExpiry .. => h.execRollWindowExpiry
  | .cardExchange .. => h.execCardExchange
  | .cardActivate .. => h.execCardActivate
  | .cardAtr .. => h.execCardAtr
  | .cardCharacter .. => h.execCardCharacter
  | .cardTimeout .. => h.execCardTimeout
  | .cardExchangeEnd .. => h.execCardExchangeEnd
  | .cardDeactivated .. => h.execCardDeactivated
  | .queueStale .. => h.execQueueStale
  | .queueOpenExpired .. => h.execQueueOpenExpired
  | .hwItemWrite .. => h.execHwItemWrite
  | .scrubRead .. => h.execScrubRead
  | .bankCopyDone .. => h.execBankCopyDone
  | .hostLinkLoss => h.execHostLinkLoss
  | .hostLinkState .. => h.execHostLinkState
  | .commandFetch .. => h.execCommandFetch
  | .noticeWrite => h.execNoticeWrite
  | .irqTimer => h.execIrqTimer
  | .tokenRefill => h.execTokenRefill
  | .spanExpiry .. => h.execSpanExpiry
  | .descriptorFetch .. => h.execDescriptorFetch
  | .dmaToQueue .. => h.execDmaToQueue
  | .dmaFromQueue .. => h.execDmaFromQueue
  | .dmaWriteResponse .. => h.execDmaWriteResponse
  | .dmaTimeout .. => h.execDmaTimeout
  | .lockGrant .. => h.execLockGrant
  | .lockTimeout .. => h.execLockTimeout
  | .woundRequest .. => h.execWoundRequest
  | .benchAction .. => h.execBenchAction
  | .prepare .. => h.execPrepare
  | .vote _ _ _ _ status _ => h.execVote (_status := status)
  | .voteDeadline .. => h.execVoteDeadline
  | .decision .. => h.execDecision
  | .decisionDeadline .. => h.execDecisionDeadline
  | .outcomeReport .. => h.execOutcomeReport
  | .outcomeTimeout .. => h.execOutcomeTimeout
  | .groupUp .. => h.execGroupUp
  | .groupDown .. => h.execGroupDown
  | .benchMessage .. => h.execBenchMessage
  | .benchAck g _ _ _ => h.execBenchAck (_g := g)
  | .benchTimeout .. => h.execBenchTimeout
  | .echoCell .. => h.execEchoCell
  | .wtrExpiry .. => h.execWtrExpiry
  | .perfSecond .. => h.execPerfSecond
  | .leaseCredit .. => h.execLeaseCredit
  | .leaseStart .. => h.execLeaseStart
  | .sampleCell .. => h.execSampleCell
  | .leaseEnd _ _ status => h.execLeaseEnd (_status := status)
  | .leaseIdleFree .. => h.execLeaseIdleFree
  | .helloSend .. => h.execHelloSend
  | .helloCell .. => h.execHelloCell
  | .peerDown .. => h.execPeerDown
  | .routeAdvertise .. => h.execRouteAdvertise
  | .routeMessage .. => h.execRouteMessage
  | .routeExpiry .. => h.execRouteExpiry
  | .handoverIn .. => h.execHandoverIn
  | .faultDetect .. => h.execFaultDetect
  | .faultAutoclose .. => h.execFaultAutoclose
  | .auditStep .. => h.execAuditStep
  | .auditMismatch .. => h.execAuditMismatch
  | .lifeCounterUpdate => h.execLifeCounterUpdate
  | .ledgerProgrammed .. => h.execLedgerProgrammed
  | .ledgerClaimTimeout .. => h.execLedgerClaimTimeout
  | .ledgerDump .. => h.execLedgerDump
  | .fieldState .. => h.execFieldState
  | .inventory .. => h.execInventory
  | .stayQuiet .. => h.execStayQuiet
  | .readSingleBlock .. => h.execReadSingleBlock
  | .writeSingleBlock .. => h.execWriteSingleBlock
  | .readMultipleBlocks .. => h.execReadMultipleBlocks
  | .select .. => h.execSelect
  | .resetToReady .. => h.execResetToReady
  | .getSystemInformation .. => h.execGetSystemInformation
  | .extendedReadSingleBlock .. => h.execExtendedReadSingleBlock
  | .extendedWriteSingleBlock .. => h.execExtendedWriteSingleBlock
  | .extendedReadMultipleBlocks .. => h.execExtendedReadMultipleBlocks
  | .extendedGetSystemInformation .. => h.execExtendedGetSystemInformation
  | .unsupportedFieldCommand _ code => h.execUnsupportedFieldCommand (_code := code)
  | .noImage => h.execNoImage
  | .busMasterEnable => h.execBusMasterEnable
  | .atrFail .. => h.execAtrFail
  | .cardErrorSignal .. => h.execCardErrorSignal
  | .multiframe .. => h.execMultiframe
  | .rdiRx .. => h.execRdiRx

/-- One step keeps a blown fuse blown: a command at the front of the queue, or the core tick of an empty queue. -/
theorem step_blown (hs : s.fuse.blown = true) {t : State} (e : step s = .next t) : t.fuse.blown = true := by
  unfold step at e
  split at e
  · rename_i c rest _
    exact (Fused.refl.exec c t e).blown (z := { s with pending := rest }) hs
  · cases e
    exact (Fused.refl (s := s)).tickOver.blown hs

end
end Sys2Proof.Machine

namespace Sys2Proof
open Machine

/-- Settles O6: no operation a command or event is made of clears the fuse, and a full reset keeps it. -/
theorem blownFuseStaysBlown : Obligations.BlownFuseStaysBlown :=
  fun _ _ hs e => step_blown hs e

end Sys2Proof

/-! The core tick of an empty queue (O2): what the tick does to device time, then the work of a tick that has nothing else waiting. -/

namespace Sys2Proof.Machine
open Sys2Proof

section
variable {s : State}

/-- The correction register holds a correction of 32 bits as it is. -/
theorem State.freqOfs_of_range (hlo : -(2 : Int) ^ 31 ≤ s.ref.freqOfs) (hhi : s.ref.freqOfs < 2 ^ 31) : s.freqOfs = s.ref.freqOfs := by
  unfold State.freqOfs signed unsignedOf
  have hpos : 0 ≤ s.ref.freqOfs % (2 ^ 32 : Int) := Int.emod_nonneg _ (by decide)
  split <;> omega

/-- The slew of a tick is all that is left, or as much as MAXRATE lets one tick take in its direction (R88). -/
theorem State.slewPart_cases : s.slewPart = s.ref.slew ∨
    (s.slewPart = 625000000 * s.getF F.TB_SLEWCFG_MAXRATE ∧ s.slewPart < s.ref.slew) ∨
    (s.slewPart = -625000000 * s.getF F.TB_SLEWCFG_MAXRATE ∧ s.ref.slew < s.slewPart) := by
  unfold State.slewPart
  dsimp only
  omega

/-- MAXRATE is at most 255 ppm. -/
theorem State.neg_le_slewPart : -159375000000 ≤ s.slewPart := by
  have hmax : s.getF F.TB_SLEWCFG_MAXRATE < 2 ^ 8 := s.getF_lt _
  unfold State.slewPart
  dsimp only
  omega

/-- Device time never runs back: the tick at the correction in force outweighs the slew (R82, R88). -/
theorem State.coreTick_dt (hoff : s.mode.mode ≠ .OFF) (hlo : -(2 : Int) ^ 31 ≤ s.ref.freqOfs) (hhi : s.ref.freqOfs < 2 ^ 31) :
    (s.coreTick.dt : Int) = s.dt + 625 * (10 ^ 12 + s.ref.freqOfs) + s.slewPart := by
  have hslew := s.neg_le_slewPart
  rw [State.coreTick, if_neg hoff, State.freqOfs_of_range hlo hhi]
  dsimp only
  omega

theorem State.coreTick_eq (hoff : s.mode.mode ≠ .OFF) : s.coreTick =
    { s with tick := s.tick + 1, dt := s.coreTick.dt, ref := { s.ref with slew := s.ref.slew - s.slewPart } } := by
  simp only [State.coreTick, if_neg hoff]

theorem State.takeoverDue_of_none (h : s.mode.takeoverAt = none) : s.takeoverDue = s := by
  simp only [State.takeoverDue, h]

theorem State.rfcDue_of_nil (h : s.sample.accepted = []) : s.rfcDue = s := by
  have hsample : { s.sample with accepted := [] } = s.sample := by rw [← h]
  simp [State.rfcDue, h, hsample]

theorem State.txenDue_of_nil (h : s.plc.txenLow = []) : s.txenDue = s := by
  simp [State.txenDue, h]

theorem State.sendFrames_between (h : s.tick % 1920 ≠ 0) : s.sendFrames = s := if_neg h

theorem State.outcomesDue_of_nil (h : s.txn.outcomes = []) : s.outcomesDue = s := by
  have htxn : { s.txn with outcomes := [] } = s.txn := by rw [← h]
  simp [State.outcomesDue, h, htxn]

theorem State.ledgerRetries_of_nil (h : s.service.retries = []) : s.ledgerRetries = s := by
  simp [State.ledgerRetries, h]

/-- A tick in which no takeover, front-end write, pin, outcome or ledger update waits and no transmit frame is due marks launch entries
and no more (R82, R99). -/
theorem State.tickOver_quiet (hoff : s.mode.mode ≠ .OFF) (hreset : s.mode.resetNext = none) (htake : s.mode.takeoverAt = none)
    (hacc : s.sample.accepted = []) (hpin : s.plc.txenLow = []) (hout : s.txn.outcomes = []) (hret : s.service.retries = [])
    (hframe : (s.tick + 1) % 1920 ≠ 0) : s.tickOver = s.coreTick.lqMark := by
  have heq := State.coreTick_eq hoff
  have htick : s.coreTick.lqMark.sendFrames = s.coreTick.lqMark := State.sendFrames_between (by rw [heq]; exact hframe)
  simp only [State.tickOver, if_neg hoff, hreset]
  rw [State.takeoverDue_of_none (by rw [heq]; exact htake), State.rfcDue_of_nil (by rw [heq]; exact hacc),
    State.txenDue_of_nil (by rw [heq]; exact hpin), htick, State.outcomesDue_of_nil (by rw [heq]; exact hout),
    State.ledgerRetries_of_nil (by rw [heq]; exact hret)]

theorem State.lqMark_eq : s.lqMark = { s with launch := { s.launch with entries := s.launch.entries.map s.markEntry } } := rfl

theorem State.markEntry_early {e : LqEntry} (h : s.now16 < leTime16 e.words) : s.markEntry e = e := by
  simp [State.markEntry, h]

/-- An entry without ANGLE falls due at its launch time (R99). -/
theorem State.markEntry_due {e : LqEntry} (hdue : e.due = none) (ht : leTime16 e.words ≤ s.now16) (ha : leHasAngle e.words = false) :
    s.markEntry e = { e with due := some s.tick, dueAt := some (leTime16 e.words), ready := s.lqFrameReady e } := by
  simp [State.markEntry, hdue, Nat.not_lt.mpr ht, ha]

end
end Sys2Proof.Machine

namespace Sys2Proof
open Machine

/-- Settles O2: in OFF nothing moves; else the tick of device time, and each launch entry by its launch time. -/
theorem emptyQueueStepIsOneCoreTick : Obligations.EmptyQueueStepIsOneCoreTick := by
  intro s hq hreset
  have hstep : step s = .next s.tickOver := by simp only [step, hq]
  refine ⟨fun hoff => ?off, fun hoff hlo hhi htake hacc hpin hout hret hframe => ?on⟩
  case off => rw [hstep, State.tickOver, if_pos hoff]
  case on =>
    have hquiet := State.tickOver_quiet hoff hreset htake hacc hpin hout hret hframe
    have heq := State.coreTick_eq hoff
    refine ⟨s.tickOver, s.slewPart, s.launch.entries.map s.coreTick.markEntry, hstep, ?_, ?_, fun hnil => by rw [hnil]; rfl,
      fun e he hdue => ⟨fun hearly => ?_, fun hcome ha => ?_⟩, ?_, State.slewPart_cases⟩
    · rw [hquiet, State.lqMark_eq, heq]
    · rw [hquiet, State.lqMark_eq, heq]
    · rw [hquiet] at hearly
      exact List.mem_map.mpr ⟨e, he, State.markEntry_early hearly⟩
    · rw [hquiet] at hcome ⊢
      exact ⟨_, List.mem_map_of_mem he, by rw [State.markEntry_due (s := s.coreTick) hdue hcome ha]; exact ⟨rfl, rfl, rfl, rfl⟩⟩
    · rw [hquiet]
      exact State.coreTick_dt hoff hlo hhi

end Sys2Proof

/-! The key fuse (O13): the two codes of CF_FUSECTL, and the end of a programming. -/

namespace Sys2Proof.Machine
open Sys2Proof

/-- The definition of CF_FUSECTL. -/
abbrev defCF_FUSECTL : RegDef :=
  ⟨.CF_FUSECTL, 0x10c0, [], [⟨15, 0, .WO, 0, false, false, []⟩, ⟨16, 16, .RO, 0, false, false, []⟩, ⟨17, 17, .RO, 0, false, false, []⟩,
    ⟨18, 18, .RO, 0, false, false, []⟩, ⟨19, 19, .W1C, 0, false, false, []⟩]⟩

theorem regAt_CF_FUSECTL : regAt F.CF_FUSECTL = some ⟨defCF_FUSECTL, []⟩ := by decide

section
variable {s : State} {c : Cmd}

/-- A write of CF_FUSECTL takes every value: none of its fields is RW. -/
theorem writeCmd_CF_FUSECTL (h : s.runs c opWRITE) (v : Word) :
    s.writeCmd c F.CF_FUSECTL v = (s.fuseCtl v).complete c opWRITE stOK := by
  have hw := writeCmd_runs (v := v) h regAt_CF_FUSECTL (by decide) (by simp [FieldDef.accepts]) (by decide) rfl (by decide)
  refine hw.trans ?_
  simp only [State.writeReg]

/-- The conditions of a blow, one by one (R53). -/
theorem State.mayBlow_iff : s.mayBlow = true ↔ (s.mode.mode = .RUN ∨ s.mode.mode = .STANDBY) ∧ s.getF F.CF_STATUS_SIGNED ≠ 0 ∧
    s.fuse.armed = true ∧ s.fuse.busy = false ∧ s.stagedDigest = s.struct_.keyDigest := by
  simp [State.mayBlow, State.flag, and_assoc]

theorem State.fuseCtl_arm : s.fuseCtl 0xA5E1 = { s with fuse := { s.fuse with armed := true } } := by
  have hcode : Word.field 0xA5E1 15 0 = 0xA5E1 := by decide
  have hclear : Word.bit 0xA5E1 19 = false := by decide
  simp only [State.fuseCtl, hcode, hclear, if_true, Bool.not_false, Bool.and_true]

theorem State.fuseCtl_blow : s.fuseCtl 0xB10C = if s.mayBlow
    then { s with fuse := { s.fuse with armed := false, busy := true, burning := s.stagedDigest } }
    else { s with fuse := { s.fuse with armed := false, refused := true } } := by
  have hcode : Word.field 0xB10C 15 0 = 0xB10C := by decide
  have hclear : Word.bit 0xB10C 19 = false := by decide
  have hne : ¬(0xB10C : Nat) = 0xA5E1 := by decide
  simp only [State.fuseCtl, hcode, hclear, hne, if_true, if_false, Bool.not_false, Bool.and_true]

theorem exec_fuseArm_runs (h : s.runs c opWRITE) : exec (.fuseArm c) s =
    .next (({ s with fuse := { s.fuse with armed := true } } : State).complete c opWRITE stOK) :=
  next_congr ((writeCmd_CF_FUSECTL h _).trans (by rw [State.fuseCtl_arm]))

/-- A blow under its conditions starts programming the digest of the live structure's key. -/
theorem exec_fuseBlow_starts (h : s.runs c opWRITE) (hmode : s.mode.mode = .RUN ∨ s.mode.mode = .STANDBY)
    (hsigned : s.getF F.CF_STATUS_SIGNED = 1) (harmed : s.fuse.armed = true) (hbusy : s.fuse.busy = false)
    (hkey : s.stagedDigest = s.struct_.keyDigest) : exec (.fuseBlow c) s = .next (({ s with fuse := { s.fuse with
      armed := false, busy := true, burning := s.struct_.keyDigest } } : State).complete c opWRITE stOK) := by
  have hmay : s.mayBlow = true := State.mayBlow_iff.mpr ⟨hmode, by omega, harmed, hbusy, hkey⟩
  exact next_congr ((writeCmd_CF_FUSECTL h _).trans (by rw [State.fuseCtl_blow, if_pos hmay, hkey]))

theorem exec_fuseBlow_refused (h : s.runs c opWRITE) (hno : s.mayBlow = false) : exec (.fuseBlow c) s =
    .next (({ s with fuse := { s.fuse with armed := false, refused := true } } : State).complete c opWRITE stOK) :=
  next_congr ((writeCmd_CF_FUSECTL h _).trans (by rw [State.fuseCtl_blow, if_neg (by simp [hno])]))

theorem exec_fuseProgramDone_busy (h : s.fuse.busy = true) : exec .fuseProgramDone s = .next { s with fuse := { s.fuse with
    busy := false, blown := true, digest := s.fuse.burning, burning := [] } } :=
  next_congr (if_pos h)

end
end Sys2Proof.Machine

namespace Sys2Proof
open Machine

/-- Settles O13: the two codes by the conditions of a blow, each refuted by one that fails. -/
theorem fuseArmBlowAndProgram : Obligations.FuseArmBlowAndProgram := by
  refine fun c s => ⟨fun h => ⟨exec_fuseArm_runs h, fun ⟨hmode, hsigned, harmed, hbusy, hkey⟩ =>
    exec_fuseBlow_starts h hmode hsigned harmed hbusy hkey, fun hfails => exec_fuseBlow_refused h ?_⟩, exec_fuseProgramDone_busy⟩
  rw [← Bool.not_eq_true, State.mayBlow_iff]
  rintro ⟨hmode, hsigned, harmed, hbusy, hkey⟩
  rcases hfails with ⟨hrun, hstandby⟩ | h | h | h | h
  · exact hmode.elim hrun hstandby
  · exact hsigned h
  · simp [h] at harmed
  · simp [h] at hbusy
  · exact h hkey

end Sys2Proof

/-! The control writes of a session (O51): the operations of QM_QCTL and the enable of a session's ring; the mode requests, the fuse, device
time, lanes, gains and endpoint entries have their equations above (O11, O13, O29). -/

namespace Sys2Proof.Machine
open Sys2Proof

/-! ## Queue operations (R283, R288, R293) -/

section
variable {s : State} {c : Cmd} {q : QueueId}

/-- A write of QM_QCTL takes every value: none of its fields is RW. -/
theorem writeCmd_QM_QCTL (h : s.runs c opWRITE) (q : QueueId) (v : Word) :
    s.writeCmd c (F.QM_QCTL q) v = (s.qctl q v).1.complete c opWRITE (s.qctl q v).2 := by
  have hw := writeCmd_runs (v := v) h (regAt_QM_QCTL q q.isLt) (isHL_of_lt (by unfold F.QM_QCTL; omega))
    (by simp [FieldDef.accepts]) (by simp) rfl rfl
  refine hw.trans ?_
  simp only [State.writeReg, nthD, List.getD_cons_zero]

/-- The word of an ADVANCE of `n`: its own bit and COUNT, none of the other operations. -/
theorem advance_word {n : Nat} (hn : n < 2 ^ 19) : let v : Word := BitVec.ofNat 32 (1 + n % 2 ^ 19 * 2 ^ 12)
    v.field 30 12 = n ∧ v.bit 0 = true ∧ v.bit 1 = false ∧ v.bit 2 = false ∧ v.bit 3 = false ∧ v.bit 4 = false ∧ v.bit 5 = false := by
  have hv : (BitVec.ofNat 32 (1 + n % 2 ^ 19 * 2 ^ 12)).toNat = 1 + n * 4096 := by
    rw [BitVec.toNat_ofNat, Nat.mod_eq_of_lt hn]; omega
  simp only [Word.bit, Word.field, hv, beq_iff_eq, beq_eq_false_iff_ne]
  omega

/-- An ADVANCE within the words ahead reads them (R283). -/
theorem exec_qctlAdvance_runs (h : s.runs c opWRITE) {n : Nat} (hn : n < 2 ^ 19) (hpos : 0 < n) (hahead : n ≤ s.qAhead q) :
    exec (.qctlAdvance c q n) s = .next ((s.qRead q ((s.qR q + n) % s.qMod q)).complete c opWRITE stOK) := by
  obtain ⟨hcount, h0, h1, h2, h3, h4, h5⟩ := advance_word hn
  have hadv : s.qAdvance q n = some (s.qRead q ((s.qR q + n) % s.qMod q)) := by
    rw [State.qAdvance, if_neg (by omega), if_neg (by omega)]
  refine next_congr ((writeCmd_QM_QCTL h q _).trans ?_)
  simp only [State.qctl, State.qctlOps, hcount, hadv, h0, h1, h2, h3, h4, h5, Bool.false_and, if_true, Bool.false_eq_true, if_false]

theorem exec_qctlRelease_runs (h : s.runs c opWRITE) : exec (.qctlRelease c q) s = .next ((s.qRelease q).complete c opWRITE stOK) := by
  have hbits : Word.bit 2 0 = false ∧ Word.bit 2 1 = true ∧ Word.bit 2 2 = false ∧ Word.bit 2 3 = false ∧ Word.bit 2 4 = false ∧
      Word.bit 2 5 = false := by decide
  refine next_congr ((writeCmd_QM_QCTL h q _).trans ?_)
  simp only [State.qctl, State.qctlOps, hbits, Bool.false_and, if_true, Bool.false_eq_true, if_false]

theorem exec_qctlMark_runs (h : s.runs c opWRITE) : exec (.qctlMark c q) s = .next ((s.qMark q).complete c opWRITE stOK) := by
  have hbits : Word.bit 4 0 = false ∧ Word.bit 4 1 = false ∧ Word.bit 4 2 = true ∧ Word.bit 4 3 = false ∧ Word.bit 4 4 = false ∧
      Word.bit 4 5 = false := by decide
  refine next_congr ((writeCmd_QM_QCTL h q _).trans ?_)
  simp only [State.qctl, State.qctlOps, hbits, Bool.false_and, if_true, Bool.false_eq_true, if_false]

theorem exec_qctlRewind_runs (h : s.runs c opWRITE) : exec (.qctlRewind c q) s = .next ((s.qRewind q).complete c opWRITE stOK) := by
  have hbits : Word.bit 8 0 = false ∧ Word.bit 8 1 = false ∧ Word.bit 8 2 = false ∧ Word.bit 8 3 = true ∧ Word.bit 8 4 = false ∧
      Word.bit 8 5 = false := by decide
  refine next_congr ((writeCmd_QM_QCTL h q _).trans ?_)
  simp only [State.qctl, State.qctlOps, hbits, Bool.false_and, if_true, Bool.false_eq_true, if_false]

/-- A queue in which no transaction stages is flushed (R288, R336). -/
theorem exec_qctlFlush_runs (h : s.runs c opWRITE) (hstage : s.stageHolder q = none) :
    exec (.qctlFlush c q) s = .next ((s.qFlush q).complete c opWRITE stOK) := by
  have hbits : Word.bit 16 0 = false ∧ Word.bit 16 1 = false ∧ Word.bit 16 2 = false ∧ Word.bit 16 3 = false ∧ Word.bit 16 4 = true ∧
      Word.bit 16 5 = false := by decide
  have hask : s.askFlush q = (s.qFlush q, stOK) := by simp only [State.askFlush, hstage]
  refine next_congr ((writeCmd_QM_QCTL h q _).trans ?_)
  simp only [State.qctl, State.qctlOps, hbits, hstage, hask, Bool.and_false, if_true, Bool.false_eq_true, if_false]

theorem exec_qctlClrcnt_runs (h : s.runs c opWRITE) : exec (.qctlClrcnt c q) s =
    .next (((s.setF (F.QM_QSTAT_ORPHANS q) 0).setF (F.QM_QCFG_CORR q) 0).complete c opWRITE stOK) := by
  have hbits : Word.bit 32 0 = false ∧ Word.bit 32 1 = false ∧ Word.bit 32 2 = false ∧ Word.bit 32 3 = false ∧ Word.bit 32 4 = false ∧
      Word.bit 32 5 = true := by decide
  refine next_congr ((writeCmd_QM_QCTL h q _).trans ?_)
  simp only [State.qctl, State.qctlOps, hbits, Bool.false_and, if_true, Bool.false_eq_true, if_false]

end

/-! What each leaves of the queue's words. -/

/-- The words of a queue's descriptor that its operations write differ. -/
theorem queueWords_ne (q : Nat) : F.QM_QRP q ≠ F.QM_QSTAT q ∧ F.QM_QRP q ≠ F.QM_QREL q ∧ F.QM_QRP q ≠ F.QM_QMP q ∧
    F.QM_QMP q ≠ F.QM_QSTAT q ∧ F.QM_QMP q ≠ F.QM_QREL q ∧ F.QM_QREL q ≠ F.QM_QMP q ∧ F.QM_QREL q ≠ F.QM_QSTAT q := by
  unfold F.QM_QRP F.QM_QSTAT F.QM_QREL F.QM_QMP
  omega

section
variable {s : State} (q : Nat)

/-- A pointer takes the value of another pointer whole: all are of 19 bits. -/
theorem State.getF_ptr_mod (f : Fld) (h : f.hi = 18) (h0 : f.lo = 0) : s.getF f % 2 ^ 19 = s.getF f := by
  have hlt := s.getF_lt f
  rw [h, h0] at hlt
  exact Nat.mod_eq_of_lt hlt

theorem qRead_effect (hs : s.sound = true) (r : Nat) : (s.qRead q r).getF (F.QM_QRP_PTR q) = r % 2 ^ 19 ∧
    (s.qRead q r).getF (F.QM_QSTAT_STALE q) = 0 ∧ s.wordsKept (s.qRead q r) [F.QM_QRP q, F.QM_QSTAT q] := by
  unfold State.qRead
  extract_lets late
  have h1 : (s.setQst q { s.qst q with tr := s.ns, late := late }).sound = true := hs
  obtain ⟨hne, -⟩ := queueWords_ne q
  refine ⟨?_, ?_, ?_⟩
  · rw [State.getF_setF_other _ _ _ _ hne, State.getF_setF_same _ _ _ h1 (by simp) (by simp)]
    rfl
  · rw [State.getF_setF_same _ _ _ (State.sound_setF _ _ _ h1) (by simp) (by simp)]; rfl
  · exact State.wordsKept.trans (t := (s.setQst q { s.qst q with tr := s.ns, late := late }).setF (F.QM_QRP_PTR q) r)
      (State.wordsKept_setF (s.setQst q _) (f := F.QM_QRP_PTR q) _ (by simp))
      (State.wordsKept_setF _ (f := F.QM_QSTAT_STALE q) _ (by simp))

theorem qRelease_map : (s.qRelease q).map = ((s.setF (F.QM_QREL_PTR q) (s.qR q)).setF (F.QM_QMP_PTR q) (s.qR q)).map := by
  simp only [State.qRelease, State.mirror_map]
  rfl

theorem qRelease_effect (hs : s.sound = true) : (s.qRelease q).getF (F.QM_QREL_PTR q) = s.getF (F.QM_QRP_PTR q) ∧
    (s.qRelease q).getF (F.QM_QMP_PTR q) = s.getF (F.QM_QRP_PTR q) ∧ s.wordsKept (s.qRelease q) [F.QM_QREL q, F.QM_QMP q] := by
  obtain ⟨-, -, -, -, -, hne, -⟩ := queueWords_ne q
  refine ⟨?_, ?_, ?_⟩
  · rw [State.getF_of_map_eq (qRelease_map q), State.getF_setF_other _ _ _ _ hne,
      State.getF_setF_same _ _ _ hs (by simp) (by simp)]
    exact State.getF_ptr_mod _ rfl rfl
  · rw [State.getF_of_map_eq (qRelease_map q), State.getF_setF_same _ _ _ (State.sound_setF _ _ _ hs) (by simp) (by simp)]
    exact State.getF_ptr_mod _ rfl rfl
  · have hkept := (s.wordsKept_setF (f := F.QM_QREL_PTR q) (s.qR q) (l := [F.QM_QREL q, F.QM_QMP q]) (by simp)).trans
      (State.wordsKept_setF _ (f := F.QM_QMP_PTR q) (s.qR q) (by simp))
    intro a ha
    rw [State.word, qRelease_map]
    exact hkept a ha

/-- R moved back writes the pointer and the queue's own record alone. -/
theorem qBack_frame (r : Nat) : s.qBack q r = { s.setF (F.QM_QRP_PTR q) r with queues := (s.qBack q r).queues } := by
  unfold State.qBack
  dsimp only
  split <;> rfl

/-- A flush with no item open and nothing behind sets the three pointers to W (R288). -/
theorem qFlush_map (hopen : (s.qst q).open_ = none) (hbehind : (s.qst q).behind = []) : (s.qFlush q).map =
    ((((s.setF (F.QM_QRP_PTR q) (s.qW q)).setF (F.QM_QMP_PTR q) (s.qW q)).setF (F.QM_QREL_PTR q) (s.qW q)).setF
      (F.QM_QSTAT_STALE q) 0).map := by
  have hdiscard : s.qDiscardOpen q = s := by simp only [State.qDiscardOpen, hopen]
  unfold State.qFlush
  rw [hdiscard]
  extract_lets _ s2 s3
  have hrec : ((s3.setQst q { s3.qst q with late := none }).pruneRelayed q).qst q = { s.qst q with late := none } := by
    change aget {} (aset s.queues.queues q _) q = _
    rw [aget_aset_same]
    rfl
  have hsettle : ((s3.setQst q { s3.qst q with late := none }).pruneRelayed q).qSettle q =
      (s3.setQst q { s3.qst q with late := none }).pruneRelayed q := by
    rw [State.qSettle, hrec]
    simp [hbehind]
  rw [hsettle]
  rfl

theorem qFlush_pointers (hs : s.sound = true) (hopen : (s.qst q).open_ = none) (hbehind : (s.qst q).behind = []) :
    (s.qFlush q).getF (F.QM_QRP_PTR q) = s.getF (F.QM_QWP_PTR q) ∧ (s.qFlush q).getF (F.QM_QMP_PTR q) = s.getF (F.QM_QWP_PTR q) ∧
      (s.qFlush q).getF (F.QM_QREL_PTR q) = s.getF (F.QM_QWP_PTR q) := by
  have hptr : s.qW q % 2 ^ 19 = s.getF (F.QM_QWP_PTR q) := State.getF_ptr_mod _ rfl rfl
  have hs1 := State.sound_setF s (F.QM_QRP_PTR q) (s.qW q) hs
  have hs2 := State.sound_setF _ (F.QM_QMP_PTR q) (s.qW q) hs1
  obtain ⟨hrs, hrl, hrm, hms, hml, -, hls⟩ := queueWords_ne q
  simp only [State.getF_of_map_eq (qFlush_map q hopen hbehind)]
  refine ⟨?_, ?_, ?_⟩
  · rw [State.getF_setF_other _ _ _ _ hrs, State.getF_setF_other _ _ _ _ hrl,
      State.getF_setF_other _ _ _ _ hrm, State.getF_setF_same _ _ _ hs (by simp) (by simp)]
    exact hptr
  · rw [State.getF_setF_other _ _ _ _ hms, State.getF_setF_other _ _ _ _ hml, State.getF_setF_same _ _ _ hs1 (by simp) (by simp)]
    exact hptr
  · rw [State.getF_setF_other _ _ _ _ hls, State.getF_setF_same _ _ _ hs2 (by simp) (by simp)]
    exact hptr

end

/-! ## The enable of a session's ring (R299, R318) -/

/-- A privileged session enables a disabled session ring that its windows permit: both counts start from zero. -/
theorem exec_ringEnable_session {s z : State} {c : Cmd} {m : Session} {v : Word} (h : s.runs c opWRITE)
    (hpriv : s.privileged c.session = true) (hsize : v.field 3 0 ≤ 8) (hen : v.bit 4 = true) (hoff : s.getF (F.HL_SESS2_EN m) = 0)
    (hm : m.val ≠ 0) (hz : z = (s.setF (F.HL_SESS2_SIZE m) (v.field 3 0)).setF (F.HL_SESS2_PRIV m) (v.field 5 5))
    (hzoff : z.getF (F.HL_SESS2_EN m) = 0) (hok : z.ringOk (.session m) = true) : exec (.ringEnable (.cmd c) (.session m) v) s =
      .next (((z.setWord (F.HL_SESS5 m) 0).setF (F.HL_SESS2_EN m) 1).complete c opWRITE stOK) := by
  have haddr : (RingRef.session m).base + 8 = F.HL_SESS2 m := by
    simp only [RingRef.base, F.HL_SESS0, F.HL_SESS2]; omega
  have hreg : regAt (F.HL_SESS2 m) = some ⟨defHL_SESS2, [m.val]⟩ := regAt_HL_SESS2 m m.isLt
  have hstart : (RingRef.session m).en = F.HL_SESS2_EN m := by rw [RingRef.en, haddr]
  have hfin : Fin.ofNat 16 m.val = m := Fin.ext (Nat.mod_eq_of_lt m.isLt)
  have hfixed : s.movesRing ⟨defHL_SESS2, [m.val]⟩ (F.HL_SESS2 m) v = false := by
    have hring : s.ringOn (.session m) = false := by simp [State.ringOn, State.flag, hstart, hoff]
    simp [State.movesRing, ringOfWord, nthD, hring]
  have haccept : s.wordRefused (s.privileged c.session) (F.HL_SESS2 m) v = none := by
    simp [State.wordRefused, hreg, hpriv, hfixed, FieldDef.accepts, hsize]
  have hwrite : s.writeWord c.session (F.HL_SESS2 m) v = ((z.setWord (F.HL_SESS5 m) 0).setF (F.HL_SESS2_EN m) 1, stOK) := by
    rw [writeWord_of_not_structural hreg rfl]
    simp only [State.writeReg, nthD, List.getD_cons_zero, if_neg hm, hfin, ← hz, hen]
    have hzring : z.ringOn (.session m) = false := by simp [State.ringOn, State.flag, hstart, hzoff]
    simp [State.ringEn, hzring, hok, RingRef.counts, hstart]
  refine next_congr ?_
  change s.srcWrite (.cmd c) ((RingRef.session m).base + 8) v = _
  rw [haddr, srcWrite_cmd_accepted h ?inMap haccept, hwrite]
  · rfl
  case inMap =>
    have hlt := m.isLt
    simp only [inMap, F.HL_SESS2, mapRanges, List.any_cons, Bool.and_eq_true, Bool.or_eq_true, decide_eq_true_eq, beq_iff_eq]
    omega

end Sys2Proof.Machine

namespace Sys2Proof
open Machine

/-- Settles O51: each row's equation under a command that runs, and what the state it names holds. -/
theorem controlWritesComplete : Obligations.ControlWritesComplete := by
  intro c low run q n k l p m e v s z
  refine ⟨exec_fuseProgramDone_busy, fun h => ⟨fun hm ht => ?run, fun hm => ?quiet, fun hm ht => ⟨s.enterShadow 0x09, ?shadow,
    s.enterShadow_mode 0x09⟩, fun hm => ?drain, fun hm => ?ack, exec_fuseArm_runs h, exec_fuseBlow_starts h, fun hmay => ?step,
    fun hr => ?accept, fun hn hpos hahead hs => ⟨_, exec_qctlAdvance_runs h hn hpos hahead, ?advance⟩,
    fun hs => ⟨_, exec_qctlRelease_runs h, qRelease_effect q hs⟩, exec_qctlMark_runs h, ⟨_, exec_qctlRewind_runs h, qBack_frame q _⟩,
    fun hstage hbehind hopen hs => ⟨_, exec_qctlFlush_runs h hstage, qFlush_pointers q hs hopen hbehind⟩, exec_qctlClrcnt_runs h,
    exec_qcfgStaleWrite_runs h q v, fun hs => ⟨_, exec_laneRun_runs h l run, (laneRun_effect hs l run).1⟩,
    fun hs => ⟨_, exec_lpgainWrite_runs h p v, ?rxGain, ?txAtt, wordsKept_lpgainWrite _ _ _ _⟩,
    fun hpriv hsize hen hoff hm hz hzoff hok => exec_ringEnable_session h hpriv hsize hen hoff hm hz hzoff hok,
    fun hs hns hport hcr => ⟨⟨_, exec_epStateActive_runs h e hport hcr, ?active⟩,
      ⟨_, exec_epStateFree_runs h e hport hcr, (epStateFree_effect hs).1⟩⟩⟩⟩
  case run =>
    obtain ⟨z, hz⟩ : ∃ z : State, z = { s with mode := { s.mode with twinOther := low } } := ⟨_, rfl⟩
    have hmode : z.mode.mode = .QUIET := by rw [hz]; exact hm
    have hrole : z.getF F.MD_BOOTCFG_TWIN_ROLE = 0 := by rw [hz]; exact ht
    refine ⟨z.enterRun 0x06, ?_, by rw [State.enterRun_mode]; rfl, ?_⟩
    · rw [exec_reqRun_runs h hz, State.reqRun_of_quiet hmode (.inr hrole)]; rfl
    · rw [State.enterRun_mode]; exact congrArg Mode.num hmode
  case quiet =>
    refine ⟨s.reqQuiet.1, ?_, ?_⟩
    · rw [exec_reqQuiet_runs h, State.reqQuiet_of_run hm]; rfl
    · rw [State.reqQuiet_of_run hm, State.twinSettle_mode, State.changeMode_mode]
      exact ⟨rfl, congrArg Mode.num hm⟩
  case shadow => rw [exec_reqShadow_runs h, State.reqShadow_of_twin hm ht]; rfl
  case drain => rw [exec_reqDrain_runs h, State.reqDrain_of_canDrain hm, State.answer]
  case ack => rw [exec_faultAck_runs h, State.reqFaultAck_of_fault hm]; rfl
  case step =>
    have hn : (s.word F.TB_SETTIME_LO).toNat + (s.word F.TB_SETTIME_HI).toNat * 2 ^ 32 < 2 ^ 64 := by
      have hlo := (s.word F.TB_SETTIME_LO).isLt
      have hhi := (s.word F.TB_SETTIME_HI).isLt
      omega
    have htime := State.ns_frac_of_dt (State.dt_stepTo (s := s) hn)
    have hvalid : (s.stepTo ((s.word F.TB_SETTIME_LO).toNat + (s.word F.TB_SETTIME_HI).toNat * 2 ^ 32)).ref.timeValid = true := by
      rw [State.stepTo_eq hn, State.notice_ref]
    have hset := State.stepSet_permitted (s.mayStep_iff.mpr hmay)
    refine ⟨s.stepSet.1, ?_, ?_⟩
    · rw [exec_stepSet_runs h, hset]
    · rw [hset]
      exact ⟨hvalid, htime.2, htime.1⟩
  case accept => rw [exec_stepAccept_runs h, State.stepAccept_rejected hr]
  case advance => exact qRead_effect q hs _
  case rxGain => rw [lpgainWrite_rxGain _ _ _ _ hs]; exact Nat.mod_mod _ _
  case txAtt => rw [lpgainWrite_txAtt _ _ _ _ hs]; exact Nat.mod_mod _ _
  case active =>
    obtain ⟨hstate, hlast, -⟩ := epStateActive_effect (e := e) (v := v) hs hns
    exact ⟨hstate, hlast⟩

end Sys2Proof

/-! Launched actions (O26): a due entry of its type runs or is stopped, then one section for what each type does. -/

namespace Sys2Proof.Machine
open Sys2Proof

/-! ## The entry of an action (R99, R100) -/

section
variable {s : State} {i type st : Nat} {e : LqEntry} {f : LqEntry → State} (h : s.lqAt i = some e)
include h

theorem State.runAction_runs (ht : leType e.words = type) (hr : s.lqReady e = true) (hstop : s.actionStop e = none) :
    s.runAction i type f = f e := by
  simp [State.runAction, h, ht, hr, hstop]

theorem State.runAction_stopped (ht : leType e.words = type) (hr : s.lqReady e = true) (hstop : s.actionStop e = some st) :
    s.runAction i type f = s.endEntry e st := by
  simp [State.runAction, h, ht, hr, hstop]

/-- An entry not yet due, or of another type, stays. -/
theorem State.runAction_idle (hno : s.lqReady e = false ∨ leType e.words ≠ type) : s.runAction i type f = s := by
  have hskip : leType e.words ≠ type ∨ (!s.lqReady e) = true := hno.symm.imp_right (by simp [·])
  simp only [State.runAction, h, if_pos hskip]

end

section
variable {s : State} {e : LqEntry} {st : Nat}

theorem State.endEntry_plcBand (ht : leType e.words = leTypePLC_BAND) : s.endEntry e st = s.launchDone e st := by
  simp only [State.endEntry, ht]

theorem State.endEntry_marker (ht : leType e.words = leTypeMARKER) : s.endEntry e st = s.launchDone e st := by
  simp only [State.endEntry, ht]

/-- In FAULT, but for the tick of its entry, the queue is stopped (R66). -/
theorem State.actionStop_silent (hm : s.mode.mode = .FAULT) (hb : s.sentBefore = none) : s.actionStop e = some stMODE_SILENT := by
  simp [State.actionStop, State.launchStopped, hm, hb]

/-- An action of a line port whose feeder group is down is stopped (R77). -/
theorem State.actionStop_down (hm : s.mode.mode ≠ .FAULT) (hk : leKind e.words = 0)
    (hd : s.domOn (domOfLine (leIndex e.words)) = false) : s.actionStop e = some stDOMAIN_DOWN := by
  simp [State.actionStop, State.launchStopped, hm, leDomain, hk, hd]

/-! ## PLC_BAND (R161) -/

/-- A bit of a field whose lowest bit is bit 0. -/
theorem Word.field_bit (w : Word) {n b : Nat} (hb : b ≤ n) : w.field n 0 / 2 ^ b % 2 = 1 ↔ w.bit b = true := by
  have h := Nat.testBit_mod_two_pow w.toNat (n + 1) b
  simp only [Nat.testBit_eq_decide_div_mod_eq, show b < n + 1 by omega, decide_true, Bool.true_and, decide_eq_decide] at h
  rw [Word.field_eq_mod _ (Nat.zero_le n), Nat.pow_zero, Nat.div_one, h, Word.bit, Word.field, Nat.add_sub_cancel_left, Nat.pow_one,
    beq_iff_eq]

/-- A mask names a band that BANDS of its port does not. -/
theorem plcBand_outside_iff : ((List.range 4).any fun b => (wordAt e.words 5).field 3 0 / 2 ^ b % 2 = 1 &&
      s.getF (F.SC_LPCFG_BANDS e.port) / 2 ^ b % 2 == 0) = true ↔
    ∃ b < 4, (wordAt e.words 5).bit b = true ∧ s.getF (F.SC_LPCFG_BANDS e.port) / 2 ^ b % 2 = 0 := by
  simp only [List.any_eq_true, List.mem_range, Bool.and_eq_true, decide_eq_true_eq, beq_iff_eq]
  exact exists_congr fun b => and_congr_right fun hb => by rw [Word.field_bit _ (by omega)]

theorem State.plcBand_outside (h : ∃ b < 4, (wordAt e.words 5).bit b = true ∧ s.getF (F.SC_LPCFG_BANDS e.port) / 2 ^ b % 2 = 0) :
    s.plcBand e = s.launchDone e lpBAND_OFF := if_pos (plcBand_outside_iff.mpr h)

theorem State.plcBand_within (h : ∀ b < 4, (wordAt e.words 5).bit b = true → s.getF (F.SC_LPCFG_BANDS e.port) / 2 ^ b % 2 = 1) :
    s.plcBand e = ((s.setF (F.PL_PORTLIVE_LIVE e.port) ((wordAt e.words 5).field 3 0)).rxFollowPort e.port).launchDone e
      (leOK e.words) := by
  refine if_neg fun hout => ?_
  obtain ⟨b, hb, hbit, hoff⟩ := plcBand_outside_iff.mp hout
  have hon := h b hb hbit
  omega

/-! ## Actions of an RF pair (R102, R138) -/

theorem State.linkAction_accepted (hr : e.rfc = 1) : s.linkAction e = (s.rfcApplied
    { pair := leIndex e.words, reg := (rfcOf e.words).1, data := (rfcOf e.words).2, at_ := 0 }).launchDone e (leOK e.words) :=
  if_pos hr

theorem State.linkAction_unanswered (hr : e.rfc = 2) : s.linkAction e =
    (s.launchDone e stRFC_TIMEOUT).bump (F.SC_RFCSTAT_TIMEOUT (leIndex e.words / 2)) := by
  rw [State.linkAction, if_neg (by omega), if_pos hr]

theorem State.linkAction_tune (ht : leType e.words = leTypeRF_TUNE) (hr : e.rfc = 1) : s.linkAction e =
    (s.setF (F.CH_TUNED_FREQ (leIndex e.words)) (wordAt e.words 5).toNat).launchDone e (leOK e.words) := by
  rw [State.linkAction_accepted hr]
  simp only [rfcOf, ht, State.rfcApplied]

theorem State.linkAction_profile (ht : leType e.words = leTypeRF_PROFILE) (hr : e.rfc = 1) : s.linkAction e =
    (s.setF (F.CH_PAIRSTAT_PROFILE (leIndex e.words)) ((wordAt e.words 5).field 3 0)).launchDone e (leOK e.words) := by
  rw [State.linkAction_accepted hr]
  simp only [rfcOf, ht, State.rfcApplied]

theorem State.linkAction_rxGain (ht : leType e.words = leTypeGAIN) (hd : (wordAt e.words 5).bit 7 = false) (hr : e.rfc = 1) :
    s.linkAction e =
      (s.setF (F.CH_PAIRSTAT_RXSTEP (leIndex e.words)) ((wordAt e.words 5).field 5 0)).launchDone e (leOK e.words) := by
  rw [State.linkAction_accepted hr]
  simp only [rfcOf, ht, hd, State.rfcApplied, Bool.false_eq_true, if_false]

/-! ## GAIN (R117, R137) -/

theorem State.gain_pair (hk : leKind e.words ≠ 0) : s.gain e = s.linkAction e := if_pos hk

theorem State.gain_txAtt (hk : leKind e.words = 0) (hd : (wordAt e.words 5).bit 7 = true) : s.gain e =
    (s.setTxAtt (leIndex e.words) ((wordAt e.words 5).field 4 0) (lineAt s.now16)).launchDone e (leOK e.words) := by
  simp [State.gain, hk, hd]

theorem State.gain_rxGain (hk : leKind e.words = 0) (hd : (wordAt e.words 5).bit 7 = false) : s.gain e =
    (s.setRxGain (leIndex e.words) ((wordAt e.words 5).field 4 0) (lineAt s.now16)).launchDone e (leOK e.words) := by
  simp [State.gain, hk, hd]

/-! ## EVENT_EDGE (R110) -/

theorem State.eventEdge_input (hd : s.getF (F.TB_EVTCFG_DIR (leIndex e.words)) = 0) : s.eventEdge e = s.launchDone e stINVALID_VALUE := by
  simp [State.eventEdge, State.flag, hd]

/-- The levels of the output pins after pin `n` is driven. -/
def drivenLevels (l : List Nat) (n : Nat) (v : Bool) : List Nat := if v then n :: l.filter (· != n) else l.filter (· != n)

theorem mem_drivenLevels_same {l : List Nat} {n : Nat} {v : Bool} : n ∈ drivenLevels l n v ↔ v = true := by
  cases v <;> simp [drivenLevels]

theorem mem_drivenLevels_other {l : List Nat} {n m : Nat} {v : Bool} (h : m ≠ n) : m ∈ drivenLevels l n v ↔ m ∈ l := by
  cases v <;> simp [drivenLevels, h]

/-- The pin takes its level, the edge leaves stamped, and no other pin changes. -/
theorem State.eventEdge_output (hd : s.getF (F.TB_EVTCFG_DIR (leIndex e.words)) = 1) : ∃ y : State,
    s.eventEdge e = y.launchDone e (leOK e.words) ∧
    y.out = s.out ++ [.edge (leIndex e.words) ((wordAt e.words 5).bit 0) (s.lqNs e)] ∧
    y.launch.levels = drivenLevels s.launch.levels (leIndex e.words) ((wordAt e.words 5).bit 0) ∧
    y = { s with out := y.out, launch := { s.launch with levels := y.launch.levels } } := by
  refine ⟨State.emitOut { s with launch := { s.launch with
    levels := drivenLevels s.launch.levels (leIndex e.words) ((wordAt e.words 5).bit 0) } }
    (.edge (leIndex e.words) ((wordAt e.words 5).bit 0) (s.lqNs e)), ?_, rfl, rfl, rfl⟩
  simp only [State.eventEdge, State.flag, hd, drivenLevels]
  rfl

/-! ## MARKER (R113) -/

theorem State.marker_line (hk : leKind e.words = 0) : s.marker e = (s.setStream (leIndex e.words) { s.stream (leIndex e.words) with
    marks := (s.stream (leIndex e.words)).marks ++ [(s.lqTime16 e).getD (leTime16 e.words)] }).launchDone e (leOK e.words) := by
  simp only [State.marker, if_pos hk]

theorem State.marker_pair (hk : leKind e.words ≠ 0) : s.marker e = (s.setRfLink (leIndex e.words) { s.rfLink (leIndex e.words) with
    marks := (s.rfLink (leIndex e.words)).marks ++ [(s.lqTime16 e).getD (leTime16 e.words)] }).launchDone e (leOK e.words) := by
  simp only [State.marker, if_neg hk]

end
end Sys2Proof.Machine

namespace Sys2Proof
open Machine

/-- Settles O26: the entry runs, is stopped, or stays; each type has its own equation. -/
theorem launchedActionsTakeEffect : Obligations.LaunchedActionsTakeEffect := by
  intro i s e st h
  refine ⟨fun hr hstop => ?_, fun hr hstop ht => ?_, fun hr hstop ht => ?_, fun hno => ?_, fun hno => ?_, fun hno => ?_, fun hno => ?_,
    fun hno => ?_, fun hno => ?_, fun hm hb => State.actionStop_silent hm hb, fun hm hk hd => State.actionStop_down hm hk hd⟩
  rotate_left
  · exact next_congr ((State.runAction_stopped h ht hr hstop).trans (State.endEntry_plcBand ht))
  · exact next_congr ((State.runAction_stopped h ht hr hstop).trans (State.endEntry_marker ht))
  iterate 6 exact next_congr (State.runAction_idle h hno)
  have hrun {type : Nat} (f : LqEntry → State) (ht : leType e.words = type) : s.runAction i type f = f e :=
    State.runAction_runs h ht hr hstop
  refine ⟨fun ht => ⟨fun hin => ?_, fun hout => ?_⟩, fun ht => ⟨fun hrfc => ?_, fun hrfc => ?_⟩, fun ht hrfc => ?_,
    fun ht hk => ⟨fun hd => ⟨_, rfl, fun hsame => ?_, fun hnew => ?_⟩, fun hd => ?_⟩, fun ht hk hd hrfc => ?_,
    fun ht => ⟨fun hin => ?_, fun hout => ?_⟩,
    fun ht => ⟨fun hk => ⟨_, rfl, ?_⟩, fun hk => ⟨_, rfl, ?_⟩⟩⟩
  · exact next_congr ((hrun _ ht).trans (State.plcBand_within hin))
  · exact next_congr ((hrun _ ht).trans (State.plcBand_outside hout))
  · exact next_congr ((hrun _ ht).trans (State.linkAction_tune ht hrfc))
  · exact next_congr ((hrun _ ht).trans (State.linkAction_unanswered hrfc))
  · exact next_congr ((hrun _ ht).trans (State.linkAction_profile ht hrfc))
  · exact next_congr ((hrun _ ht).trans ((State.gain_txAtt hk hd).trans (by rw [State.setTxAtt, if_pos hsame])))
  · exact next_congr ((hrun _ ht).trans ((State.gain_txAtt hk hd).trans (by rw [State.setTxAtt, if_neg hnew])))
  · exact next_congr ((hrun _ ht).trans (State.gain_rxGain hk hd))
  · exact next_congr ((hrun _ ht).trans ((State.gain_pair (by omega)).trans (State.linkAction_rxGain ht hd hrfc)))
  · exact next_congr ((hrun _ ht).trans (State.eventEdge_input hin))
  · obtain ⟨y, hy, hsent, hlevels, hframe⟩ := s.eventEdge_output hout
    refine ⟨y, next_congr ((hrun _ ht).trans hy), hsent, ?_, fun m hm => ?_, hframe⟩
    · rw [hlevels, mem_drivenLevels_same]
    · rw [hlevels, mem_drivenLevels_other hm]
  · exact next_congr ((hrun _ ht).trans (State.marker_line hk))
  · exact next_congr ((hrun _ ht).trans (State.marker_pair hk))

end Sys2Proof

/-! LAUNCH, LAUNCH_CANCEL and LAUNCH_STAGE (O25): the status of an insert and what it makes of the queue, then a cancel by what its handle
names, then staging. -/

namespace Sys2Proof.Machine
open Sys2Proof

/-! ## LAUNCH (R96 to R98) -/

section
variable {s : State} {c : Cmd} {w l : List Word}

theorem leLead_le (l : List Word) : leLead l ≤ 100000 := by
  unfold leLead
  split
  · exact Nat.le_refl _
  · split <;> try omega
    split <;> omega

/-- What an entry meets that is refused for nothing but its time or for want of room: its target, angle, pin, gain, mode and domain. -/
structure State.LaunchFits (s : State) (l : List Word) : Prop where
  bench : leBench l = false
  target : leTargetOk l = true
  angle : leHasAngle l = true → leAnglePort l < 96
  edge : leType l = leTypeEVENT_EDGE → s.getF (F.TB_EVTCFG_DIR (leIndex l)) = 1
  gain : leType l = leTypeGAIN → leGainOk l = true
  drain : s.mode.mode ≠ .DRAIN
  domain : ∀ d, leDomain l = some d → s.domOn d = true

/-- The status of such an entry: its time, then the room (R98). -/
theorem State.LaunchFits.lqStatus (h : s.LaunchFits l) : s.lqStatus l =
    if leTime16 l < s.now16 + leLead l * 65536 then stLAUNCH_LATE
    else if s.now16 + 2 ^ 48 * 65536 < leTime16 l then stLAUNCH_RANGE
    else if 2048 ≤ s.launch.entries.length then stLAUNCH_FULL else stOK := by
  have hangle : (leHasAngle l && decide (96 ≤ leAnglePort l)) = false := by
    cases ha : leHasAngle l
    · rfl
    · simpa using h.angle ha
  have hedge : (leType l = leTypeEVENT_EDGE && !s.flag (F.TB_EVTCFG_DIR (leIndex l))) = false := by
    by_cases ht : leType l = leTypeEVENT_EDGE
    · simp [State.flag, h.edge ht]
    · simp [ht]
  have hgain : (leType l = leTypeGAIN && !leGainOk l) = false := by
    by_cases ht : leType l = leTypeGAIN
    · simp [h.gain ht]
    · simp [ht]
  unfold State.lqStatus
  simp only [h.target, hangle, h.bench, hedge, hgain, h.drain, Bool.not_true, Bool.false_and, Bool.false_eq_true, if_false]
  refine if_neg ?_
  split
  · rename_i d hd
    simp [h.domain d hd]
  · exact Bool.false_ne_true

theorem State.now16_add (n : Nat) : (s.ns + n) * 65536 + s.frac = s.now16 + n * 65536 := by
  rw [State.now16, Nat.add_mul, Nat.add_right_comm]

theorem State.LaunchFits.late (h : s.LaunchFits l) (ht : leTime16 l < (s.ns + leLead l) * 65536 + s.frac) :
    s.lqStatus l = stLAUNCH_LATE := by
  rw [State.now16_add] at ht
  rw [h.lqStatus]
  exact if_pos ht

theorem State.LaunchFits.range (h : s.LaunchFits l) (ht : (s.ns + 2 ^ 48) * 65536 + s.frac < leTime16 l) :
    s.lqStatus l = stLAUNCH_RANGE := by
  rw [State.now16_add] at ht
  have hlead : leLead l * 65536 ≤ 2 ^ 48 * 65536 := Nat.mul_le_mul_right _ ((leLead_le l).trans (by decide))
  have hlate : ¬leTime16 l < s.now16 + leLead l * 65536 := Nat.not_lt.mpr ((Nat.add_le_add_left hlead _).trans ht.le)
  rw [h.lqStatus]
  exact (if_neg hlate).trans (if_pos ht)

/-- In time, the status turns on the room. -/
theorem State.LaunchFits.inTime (h : s.LaunchFits l) (hlo : (s.ns + leLead l) * 65536 + s.frac ≤ leTime16 l)
    (hhi : leTime16 l ≤ (s.ns + 2 ^ 48) * 65536 + s.frac) :
    s.lqStatus l = if 2048 ≤ s.launch.entries.length then stLAUNCH_FULL else stOK := by
  rw [State.now16_add] at hlo hhi
  rw [h.lqStatus]
  exact (if_neg (Nat.not_lt.mpr hlo)).trans (if_neg (Nat.not_lt.mpr hhi))

theorem State.lqCountRefusal_late : s.lqCountRefusal stLAUNCH_LATE = s.bump F.TB_LQMISS_LATE := if_pos rfl

theorem State.lqCountRefusal_range : s.lqCountRefusal stLAUNCH_RANGE = s :=
  (if_neg (by decide)).trans (if_neg (by decide))

theorem State.lqCountRefusal_full : s.lqCountRefusal stLAUNCH_FULL = s.bump F.TB_LQSTAT_REFUSED :=
  (if_neg (by decide)).trans (if_pos rfl)

theorem State.lqInsert_refused {by_ : Inserter} (h : s.lqStatus l ≠ stOK) :
    s.lqInsert l by_ = (s.lqCountRefusal (s.lqStatus l), s.lqStatus l, 0) := if_neg h

theorem State.lqInsert_accepted {by_ : Inserter} (h : s.lqStatus l = stOK) :
    s.lqInsert l by_ = ((s.lqPut l by_).1, stOK, (s.lqPut l by_).2) := if_pos h

/-- The place freed least recently takes the entry, and its handle names the place and its reuse (R98). -/
theorem State.lqPut_effect {i g : Nat} {p : Pool} {by_ : Inserter} (h : s.launch.pool.take 2048 32 = some (i, g, p)) :
    ∃ t : State, s.lqPut l by_ = (t, i + g * 2048) ∧ t.launch.pool = p ∧ t.launch.seq = s.launch.seq + 1 ∧
      t.launch.entries = s.launch.entries ++ [{ entry := i, gen := g, words := l, inserter := by_, seq := s.launch.seq }] ∧
      t = { s with launch := t.launch, bench := t.bench } := by
  refine ⟨(s.lqPut l by_).1, ?_⟩
  simp only [State.lqPut, h, LqEntry.handle, State.mirror_launch, true_and]
  rw [State.mirror_frame]

/-- A LAUNCH of an entry that names no other device. -/
theorem exec_launch_runs (h : s.runs c opLAUNCH) (hl : l = (List.range 8).map (wordAt w)) (hb : leBench l = false) :
    exec (.launch c w) s = .next ((s.hostInsert l).1.complete c opLAUNCH (s.hostInsert l).2.1
      (if (s.hostInsert l).2.1 = stOK then [BitVec.ofNat 32 (s.hostInsert l).2.2] else [])) := by
  refine next_congr ((command_runs h _).trans ?_)
  simp only [State.launchCmd, ← hl, hb, Bool.false_and, Bool.false_eq_true, if_false]

theorem exec_launch_refused (h : s.runs c opLAUNCH) (hl : l = (List.range 8).map (wordAt w)) (hb : leBench l = false)
    (hform : s.hostForm l = true) {st : Nat} (hst : s.lqStatus l = st) (hno : st ≠ stOK) :
    exec (.launch c w) s = .next ((s.lqCountRefusal st).complete c opLAUNCH st) := by
  have hins : s.hostInsert l = (s.lqCountRefusal st, st, 0) := by
    rw [State.hostInsert, if_pos hform, State.lqInsert_refused (by rw [hst]; exact hno), hst]
  rw [exec_launch_runs h hl hb, hins, if_neg hno]

/-- An entry of a form no host gives (R173, R341). -/
theorem exec_launch_malformed (h : s.runs c opLAUNCH) (hl : l = (List.range 8).map (wordAt w)) (hb : leBench l = false)
    (hform : s.hostForm l = false) : exec (.launch c w) s = .next (s.complete c opLAUNCH stINVALID_VALUE) := by
  have hins : s.hostInsert l = (s, stINVALID_VALUE, 0) := by simp [State.hostInsert, hform]
  rw [exec_launch_runs h hl hb, hins]
  rfl

theorem exec_launch_accepted {i g : Nat} {p : Pool} (h : s.runs c opLAUNCH) (hl : l = (List.range 8).map (wordAt w))
    (hb : leBench l = false) (hform : s.hostForm l = true) (hst : s.lqStatus l = stOK)
    (hp : s.launch.pool.take 2048 32 = some (i, g, p)) : ∃ t : State,
      exec (.launch c w) s = .next (t.complete c opLAUNCH stOK [BitVec.ofNat 32 (i + g * 2048)]) ∧
      t.launch.pool = p ∧ t.launch.seq = s.launch.seq + 1 ∧
      t.launch.entries = s.launch.entries ++ [{ entry := i, gen := g, words := l, inserter := .host, seq := s.launch.seq }] ∧
      t = { s with launch := t.launch, bench := t.bench } := by
  obtain ⟨t, hput, heffect⟩ := State.lqPut_effect (l := l) (by_ := .host) hp
  have hins : s.hostInsert l = (t, stOK, i + g * 2048) := by
    rw [State.hostInsert, if_pos hform, State.lqInsert_accepted hst, hput]
  refine ⟨t, ?_, heffect⟩
  rw [exec_launch_runs h hl hb, hins]
  rfl

/-! ## LAUNCH_CANCEL (R101, R305) -/

variable {h : Nat}

/-- A handle is of 16 bits: its place, and the reuse of the place. -/
theorem handle_place (h : Nat) : h % 65536 % 2048 = h % 2048 ∧ h % 65536 / 2048 % 32 = h / 2048 % 32 := by omega

/-- A cancel of an entry that names no other device. -/
theorem exec_launchCancel_runs (hrun : s.runs c opLAUNCH_CANCEL) (hl : l = (List.range 8).map (wordAt w)) (hb : leBench l = false)
    {t : State} {st : Nat} (hx : s.cancelHandle (h % 65536) (some l) = (t, st)) :
    exec (.launchCancel c w h) s = .next (t.complete c opLAUNCH_CANCEL st) := by
  refine next_congr ((command_runs hrun _).trans ?_)
  simp only [State.launchCancelCmd, ← hl, hx, hb, Bool.false_and, Bool.false_eq_true, if_false]

section
variable {e : LqEntry} (he : s.lqAt (h % 2048) = some e) (hg : e.gen = h / 2048 % 32) (hw : e.words = l)
include he hg hw

theorem State.cancelHandle_tooLate (hlate : s.lqDue e = true ∨ e.outside = true) :
    s.cancelHandle (h % 65536) (some l) = (s, stTOO_LATE) := by
  obtain ⟨hplace, hgen⟩ := handle_place h
  simp [State.cancelHandle, hplace, hgen, he, hg, hw, hlate]

theorem State.cancelHandle_pending (hdue : s.lqDue e = false) (hout : e.outside = false) :
    s.cancelHandle (h % 65536) (some l) = (s.cancelEntry e, stOK) := by
  obtain ⟨hplace, hgen⟩ := handle_place h
  simp [State.cancelHandle, hplace, hgen, he, hg, hw, hdue, hout]

end

theorem State.cancelHandle_unknown (he : s.lqAt (h % 2048) = none) (hp : afind s.launch.past (h % 2048) = none) :
    s.cancelHandle (h % 65536) (some l) = (s, stNOT_FOUND) := by
  obtain ⟨hplace, -⟩ := handle_place h
  simp [State.cancelHandle, hplace, he, hp]

/-- A host entry with no item read and no ramp of its pair: its front-end write is withdrawn, and it ends. -/
theorem State.cancelEntry_host {e : LqEntry} (hins : e.inserter = .host) (hitem : e.item = none)
    (hramp : afind s.chirp.sending e.port = none) : s.cancelEntry e = (s.dropOfs e.entry).launchDone e stCANCELLED := by
  have hunread : s.unread e = s := by simp [State.unread, hitem]
  have hdrop : s.dropRamp e = s := by simp only [State.dropRamp, hramp]
  rw [State.cancelEntry, if_pos hins, hunread, hdrop]

end

/-! ## LAUNCH_STAGE (R100) -/

section
variable {s : State} {k : Nat} {e : LqEntry}

theorem find?_changeFirst {α : Type} {p : α → Bool} {f : α → α} {l : List α} {a : α} (h : l.find? p = some a) (hf : p (f a) = true) :
    (changeFirst p f l).find? p = some (f a) := by
  induction l with
  | nil => cases h
  | cons b l ih =>
    cases hb : p b with
    | true =>
      obtain rfl : b = a := by simpa [hb] using h
      simp [changeFirst, hb, hf]
    | false =>
      have hrest : l.find? p = some a := by simpa [hb] using h
      simp [changeFirst, hb, ih hrest]

/-- The entry at its place after a change that leaves the place. -/
theorem State.lqAt_lqUpdate {f : LqEntry → LqEntry} (h : s.lqAt k = some e) (hf : (f e).entry = e.entry) :
    (s.lqUpdate k f).lqAt k = some (f e) := by
  have hplace : (e.entry == k) = true := List.find?_some (p := fun x : LqEntry => x.entry == k) h
  exact find?_changeFirst h (by rw [hf]; exact hplace)

theorem State.lqTime16_plain (hdue : e.due = none) (ha : leHasAngle e.words = false) : s.lqTime16 e = some (leTime16 e.words) := by
  simp [State.lqTime16, hdue, ha]

variable (he : s.lqAt k = some e) (hdue : e.due = none) (ha : leHasAngle e.words = false)
include he hdue ha

theorem launchStage_near {i : EntryId} (hi : i.val = k) (ht : leTime16 e.words ≤ (s.ns + 2000) * 65536 + s.frac) :
    launchStage i s = s.lqUpdate k fun x => { x with staged := true } := by
  subst hi
  simp only [launchStage, he, State.lqTime16_plain hdue ha, if_pos ht]

theorem launchStage_far {i : EntryId} (hi : i.val = k) (ht : (s.ns + 2000) * 65536 + s.frac < leTime16 e.words) :
    launchStage i s = s := by
  subst hi
  simp only [launchStage, he, State.lqTime16_plain hdue ha, if_neg (Nat.not_le.mpr ht)]

end
end Sys2Proof.Machine

namespace Sys2Proof
open Machine

/-- Settles O25: an insert by its status, a cancel by what its handle names, a staging by the entry's time. -/
theorem launchInsertsAndCancels : Obligations.LaunchInsertsAndCancels := by
  intro c w s i g h k p e l hl hb hangle
  refine ⟨fun hrun hform htarget hedge hgain hdrain hdomain => ?insert, fun hrun ht => ?commit,
    fun hrun he hg hw hins hitem hramp => ⟨fun hlate => ?late, fun hdue hout => ?cancel⟩, fun hrun he hp => ?unknown,
    fun he hdue ha => ⟨fun ht => ?stage, fun ht => next_congr (launchStage_far he hdue ha rfl ht)⟩⟩
  case insert =>
    have hfits : s.LaunchFits l := ⟨hb, htarget, hangle, hedge, hgain, hdrain, hdomain⟩
    refine ⟨fun ht => ?_, fun ht => ?_, fun hlo hhi => ⟨fun hn => ?_, fun hn hp => ?_⟩⟩
    · rw [exec_launch_refused hrun hl hb hform (hfits.late ht) (by decide), State.lqCountRefusal_late]
    · rw [exec_launch_refused hrun hl hb hform (hfits.range ht) (by decide), State.lqCountRefusal_range]
    · rw [exec_launch_refused hrun hl hb hform ((hfits.inTime hlo hhi).trans (if_pos hn)) (by decide), State.lqCountRefusal_full]
    · exact exec_launch_accepted hrun hl hb hform ((hfits.inTime hlo hhi).trans (if_neg (by omega))) hp
  case commit =>
    refine exec_launch_malformed hrun hl hb ?_
    simp [State.hostForm, ht]
  case late => exact exec_launchCancel_runs hrun hl hb (State.cancelHandle_tooLate he hg hw hlate)
  case cancel =>
    rw [exec_launchCancel_runs hrun hl hb (State.cancelHandle_pending he hg hw hdue hout), State.cancelEntry_host hins hitem hramp]
  case unknown => exact exec_launchCancel_runs hrun hl hb (State.cancelHandle_unknown he hp)
  case stage =>
    exact ⟨_, next_congr (launchStage_near he hdue ha rfl ht), State.lqAt_lqUpdate he rfl, rfl⟩

end Sys2Proof


/-! The time reference and the mains trackers (O33): pulses and their phase, sentences, loss and return, time cells, event pins; then the
tracker by its state and its crossings. -/

namespace Sys2Proof.Machine
open Sys2Proof

/-! ## Pulses of the input in use (R86, R87) -/

section
variable {s : State} {i : Nat} {rising : Bool}

/-- An edge of the other direction is no pulse. -/
theorem ppsEdge_other_direction (h : rising = s.flag F.TB_REFCFG_PPS_EDGE) : ppsEdge i rising s = s := by
  refine if_pos ?_
  simp [h]

/-- An unlabelled pulse of PPS_IN[0] in use: its stamp is remembered, then it counts with its cable delay taken off. -/
theorem ppsEdge_unlabelled (hlive : s.struct_.live = true) (hsel : s.refSel = 1) (hedge : rising = !s.flag F.TB_REFCFG_PPS_EDGE)
    (hlabel : afind s.ref.labels 0 = none) : ppsEdge 0 rising s =
      State.refPulse { s with ref := { s.ref with lastStamp := aset s.ref.lastStamp 0 s.ns } }
        ((s.ns : Int) - signed 16 (s.getF F.TB_PPSCOMP_DELAY0)).toNat none := by
  have hnow : s.ppsNow = some 0 := by simp only [State.ppsNow, hsel]
  have hdir : (rising == s.flag F.TB_REFCFG_PPS_EDGE) = false := by subst hedge; cases s.flag F.TB_REFCFG_PPS_EDGE <;> rfl
  unfold ppsEdge
  simp only [hlive, hsel, hdir, hlabel, hnow, beq_self_eq_true, Bool.not_true, Bool.or_self, Bool.false_eq_true, if_false, if_true,
    Option.filter_none, Option.map_none, Option.isSome_none, ite_self, State.ppsStamp]

theorem State.refPulse_free (h : s.ref.state = 0) (n : Nat) : s.refPulse n none = s := if_pos h

theorem State.refPulse_past_free (h : s.ref.state ≠ 0) (n : Nat) : s.refPulse n none = s.refPhase n none := if_neg h

end

/-! ## Phase (R87, R88) -/

section
variable {s : State} {n : Nat} {e : Int}

/-- An unlabelled pulse is taken against the nearest second. -/
theorem State.refPhase_unlabelled (he : e = (n : Int) - nearestSecond n * 1000000000) :
    s.refPhase n none = if s.refuses e then s.refRejected e else s.refAccepted e n := by
  rw [he, State.refPhase, Option.getD_none, ite_self]

section
variable (hvalid : s.ref.timeValid = true) (hrun : s.mode.mode = .RUN) (hacc : s.ref.accepting = false)
include hvalid hrun

/-- In RUN a valid time is not stepped (R83). -/
theorem State.mayStep_run : s.mayStep = false := by simp [State.mayStep, hvalid, hrun]

include hacc

/-- Where no step is permitted, a pulse beyond STEP_LIMIT is rejected. -/
theorem State.refuses_iff : s.refuses e = true ↔ 1000 * s.getF F.TB_HOLDCFG_STEP_LIMIT < e.natAbs := by
  simp [State.refuses, hvalid, hacc, State.mayStep_run hvalid hrun, Nat.mul_comm]

end

theorem State.refRejected_early (hbad : s.ref.bad < 2) :
    s.refRejected e = { s with ref := { s.ref with bad := s.ref.bad + 1, good := 0, phaseErr := e } } :=
  if_pos (by omega)

/-- The third rejection in a row sets REJECTED. -/
theorem State.refRejected_third (hbad : s.ref.bad = 2) : (s.refRejected e).ref.rejected = true := by
  have hthird : ¬ s.ref.bad + 1 ≠ 3 := by omega
  unfold State.refRejected
  dsimp only
  rw [if_neg hthird, State.notice_ref]

/-- An accepted pulse of a LOCKED reference, before the loss deadline, disciplines DT. -/
theorem State.refAccepted_locked (hstate : s.ref.state = 2) (ht : s.ns ≤ s.ref.lastGood + s.lossTime) : s.refAccepted e n =
    State.discipline { s with ref := { s.ref with lastGood := s.ns, phaseErr := e, bad := 0 } } := by
  have hlate : decide (s.ref.lastGood + s.lossTime < s.ns) = false := by simpa using ht
  simp only [State.refAccepted, State.refGood, hstate, hlate, Bool.and_false, Bool.false_eq_true, if_false]

end

/-! ## Sentences (R86) -/

section
variable {s : State} {i sec : Nat} {ch : List Byte}

theorem todSentence_wrong (h : sentenceSecond ch = none) : todSentence i ch s = s := by
  simp [todSentence, h]

/-- With TOD_LABEL next a right sentence labels the pulse to come. -/
theorem todSentence_labels (hlive : s.struct_.live = true) (h : sentenceSecond ch = some sec)
    (hnext : s.getF F.TB_REFCFG_TOD_LABEL = 0) (hcut : s.todCut ch.length = false) : todSentence i ch s =
      { s with ref := { s.ref with labels := aset s.ref.labels i (sec + s.getF F.TB_UTCOFS_OFS, s.ns) } } := by
  simp [todSentence, hlive, hcut, h, State.flag, hnext]

end

/-! ## Loss, holdover and return (R87, R90, R106) -/

section
variable {s : State}

theorem refLoss_early (h : s.ns < s.ref.lastGood + s.lossTime + 2000) : refLoss s = s := by
  refine if_pos (.inr ?_)
  simp [State.expired, h]

section
variable (hsel : s.refSel ≠ 0) (ht : s.ref.lastGood + s.lossTime + 2000 ≤ s.ns)
include hsel ht

theorem State.refLoss_guard : ¬(s.refSel = 0 ∨ (!s.expired (s.ref.lastGood + s.lossTime)) = true) := by
  simp [State.expired, hsel, ht]

theorem refLoss_locked (h : s.ref.state = 2) : refLoss s = s.setRefState 3 :=
  (if_neg (State.refLoss_guard hsel ht)).trans ((if_neg (by simp [h])).trans (if_pos h))

theorem refLoss_acquiring (h : s.ref.state = 1) : refLoss s = s.setRefState 0 :=
  (if_neg (State.refLoss_guard hsel ht)).trans (if_pos h)

theorem refLoss_other (h : s.ref.state = 0 ∨ s.ref.state = 3) : refLoss s = s :=
  (if_neg (State.refLoss_guard hsel ht)).trans
    ((if_neg (by rcases h with h | h <;> simp [h])).trans (if_neg (by rcases h with h | h <;> simp [h])))

end

theorem holdoverExpired_due (hstate : s.ref.state = 3) (hexp : s.ref.expired = false)
    (ht : s.ref.holdSince + 60000000000 * s.getF F.TB_HOLDCFG_LIMIT ≤ s.ns) : holdoverExpired s =
      State.notice { s with ref := { s.ref with expired := true } } ncHOLDOVER_EXPIRED 0 [] :=
  if_pos ⟨hstate, by simp [hexp], by omega⟩

theorem holdoverExpired_early (ht : s.ns < s.ref.holdSince + 60000000000 * s.getF F.TB_HOLDCFG_LIMIT) : holdoverExpired s = s :=
  if_neg fun ⟨_, _, h⟩ => by omega

/-- EXPIRED is reported once. -/
theorem holdoverExpired_again (h : s.ref.expired = true) : holdoverExpired s = s :=
  if_neg fun ⟨_, hno, _⟩ => by simp [h] at hno

theorem pps0Return_due {t : Nat} (hsince : s.ref.pps0Since = some t) (hsel : s.refSel = 3) (hact : s.ref.activePps = 1)
    (hstate : s.ref.state = 2) (hlast : s.ns ≤ s.ref.otherLast + 1500000000) (ht : t + 60000000000 ≤ s.ns) : pps0Return s =
      State.refNotice { s with ref := { s.ref with activePps := 0, pps0Since := none, lastGood := s.ns } } := by
  simp only [pps0Return, hsince]
  exact if_pos ⟨hsel, hact, hstate, ht, hlast⟩

theorem pps0Return_early {t : Nat} (hsince : s.ref.pps0Since = some t) (ht : s.ns < t + 60000000000) : pps0Return s = s := by
  simp only [pps0Return, hsince]
  exact if_neg fun ⟨_, _, _, h, _⟩ => Nat.not_le.mpr ht h

end

/-! ## Time cells (R87, R104, R355, R366) -/

section
variable {s : State} {g : Group} {tc : TimeCell}

/-- A peer's cell sets PF_TIMEOFS where the difference is within its 32 bits. -/
theorem timeCell_peer (hg : 2 ≤ g.val) (hrole : s.benchRole ≠ roleMEMBER) (hup : s.groupUp g = true) {d : Int}
    (hd : d = (tc.dt : Int) + (aget 0 s.bench.delays g / 16 : Nat) - tc.arrival) (hlo : -2147483648 ≤ d) (hhi : d ≤ 2147483647) :
    timeCell g tc s = s.setF (F.PF_TIMEOFS_OFS (g - 2)) (unsignedOf 32 d) := by
  have hclamp : clampInt (-2147483648) 2147483647 d = d := by unfold clampInt; omega
  have hpasses : ¬(s.benchRole = roleMEMBER ∨ (!s.groupUp g) = true) := by simp [hrole, hup]
  simp only [timeCell, if_pos hg, peerTime, if_neg hpasses, ← hd, hclamp]

theorem timeCell_not_member (hg : g.val < 2) (hrole : s.benchRole ≠ roleMEMBER) : timeCell g tc s = s := by
  simp only [timeCell, if_neg (Nat.not_le.mpr hg), memberTime, if_pos (Or.inl hrole)]

/-- The master's cell on a LOCKED member that takes time from the east disciplines DT. -/
theorem timeCell_east (hg : g.val = 0) (hrole : s.benchRole = roleMEMBER) (hsel : s.refSel = 4) (hup : s.groupUp g = true)
    (hgroup : s.timeGroup = some 0) (hstate : s.ref.state = 2) (hside : s.ref.side = 0) (hvalid : s.ref.timeValid = true)
    (hrun : s.mode.mode = .RUN) : timeCell g tc s = ((s.setF F.TB_BENCHDLY_DELAY (aget 0 s.bench.delays 0)).refGood
      (roundDiv ((tc.arrival : Int) * 16 - ((tc.dt : Int) * 16 + (tc.frac / 4096 : Nat) + aget 0 s.bench.delays 0 +
        signed 16 (s.getF F.TB_BENCHASYM_EAST))) 16)).discipline := by
  have htakes : ¬(s.benchRole ≠ roleMEMBER ∨ s.refSel ≠ 4 ∨ (!s.groupUp g) = true ∨ s.timeGroup ≠ some g.val) := by
    rintro (h | h | h | h)
    · exact h hrole
    · exact h hsel
    · simp [hup] at h
    · exact h (by rw [hgroup, hg])
  have href : { s.ref with side := 0 } = s.ref := by rw [← hside]
  have hstays (e : Int) : ((s.setF F.TB_BENCHDLY_DELAY (aget 0 s.bench.delays 0)).refGood e).ref.state = 2 := hstate
  have hsteps : (s.setF F.TB_BENCHDLY_DELAY (aget 0 s.bench.delays 0)).labelSteps = false := by
    simp [State.labelSteps, State.mayStep_run (s := s.setF _ _) hvalid hrun]
  have hfree : ¬s.ref.state = rfFREE := by rw [hstate]; decide
  unfold timeCell memberTime
  rw [if_neg (by omega), if_neg htakes]
  simp only [hg, hside, href, State.setF_ref, hfree, hsteps, hstays, if_true, Bool.false_eq_true, if_false, bne_self_eq_false, Bool.and_false]

end

/-! ## Event pins (R110) -/

section
variable {s : State} {pin : EventPin} {rising : Bool}

theorem eventCapture_selected (hlive : s.struct_.live = true) (hdir : s.getF (F.TB_EVTCFG_DIR pin) = 0)
    (hc : s.getF (F.TB_EVTCFG_CAPTURE pin) = 3 ∨ s.getF (F.TB_EVTCFG_CAPTURE pin) = (if rising then 1 else 2)) :
    eventCapture pin rising s = s.notice ncEVENT_CAPTURED pin [(8, if rising then 0 else 1)] := by
  cases rising <;> rcases hc with hc | hc <;> simp [eventCapture, hlive, State.flag, hdir, hc, boolNat]

theorem eventCapture_unselected (hc : s.getF (F.TB_EVTCFG_CAPTURE pin) = 0) : eventCapture pin rising s = s := by
  simp [eventCapture, hc]

theorem eventCapture_output (hdir : s.getF (F.TB_EVTCFG_DIR pin) = 1) : eventCapture pin rising s = s := by
  simp [eventCapture, State.flag, hdir]

end

/-! ## The trackers before LOCKED (R95) -/

section
variable {t : Tracker} {x a b k : Nat}

theorem Tracker.early_first (h : t.crossings = []) : t.early x =
    { t with state := 1, crossings := [(0, x)], lastCycle := 0, missed := 0, run := 0 } := by
  simp only [Tracker.early, h]

theorem Tracker.early_outside {l : List (Nat × Nat)} (h : t.crossings = (k, a) :: l)
    (hd : (x - a) * 65 < 1000000000 ∨ 1000000000 < (x - a) * 45) : t.early x =
      { t with state := 1, crossings := [(0, x)], lastCycle := 0, missed := 0, run := 0 } := by
  simp only [Tracker.early, h, if_pos hd]

theorem Tracker.early_second (h : t.crossings = [(k, a)]) (hlo : 1000000000 ≤ (x - a) * 65) (hhi : (x - a) * 45 ≤ 1000000000) :
    t.early x = { t with state := 1, crossings := [(k + 1, x), (k, a)], lastCycle := k + 1 } := by
  have hin : ¬((x - a) * 65 < 1000000000 ∨ 1000000000 < (x - a) * 45) := by omega
  simp [Tracker.early, h, if_neg hin]

theorem Tracker.early_third (h : t.crossings = [(k + 1, a), (k, b)]) (hlo : 1000000000 ≤ (x - a) * 65)
    (hhi : (x - a) * 45 ≤ 1000000000) (hsame : (max (x - a) (a - b) - min (x - a) (a - b)) * 1000 ≤ a - b) :
    t.early x = { t with state := 2, crossings := [(k + 2, x), (k + 1, a), (k, b)], lastCycle := k + 2 } := by
  have hin : ¬((x - a) * 65 < 1000000000 ∨ 1000000000 < (x - a) * 45) := by omega
  simp [Tracker.early, h, if_neg hin, hsame]

end

section
variable {s : State} {p : LinePort} {back : Nat}

theorem mainsCrossing_not_tracking (h : s.tracking p = false) : mainsCrossing p back s = s := if_pos (by simp [h])

/-- A crossing of a tracker without a fit: its state and crossings are those `early` gives. -/
theorem mainsCrossing_early {t : Tracker} (h : s.tracking p = true) (ht : t = s.tracker p) (hfit : t.fit = none) : ∃ y : Tracker,
    y.state = (t.early (s.ns - back)).state ∧ y.crossings = (t.early (s.ns - back)).crossings ∧
      mainsCrossing p back s = s.mainsState p y := by
  subst ht
  unfold mainsCrossing
  simp only [h, hfit, Bool.not_true, Bool.false_eq_true, if_false]
  refine ⟨_, ?_, ?_, rfl⟩
  · rfl
  · rfl

/-! ## The trackers with a fit (R93, R95) -/

theorem State.mainsState_same {t : Tracker} (h : (s.tracker p).state = t.state) : s.mainsState p t = s.setTracker p t := if_pos h.symm

theorem State.tracker_setTracker (s : State) (p : Nat) (t : Tracker) : (s.setTracker p t).tracker p = t := by
  simp [State.tracker, State.setTracker]

theorem State.setTracker_setTracker (s : State) (p : Nat) (t u : Tracker) : (s.setTracker p t).setTracker p u = s.setTracker p u := by
  simp only [State.setTracker, aset_aset]

/-- A LOCKED tracker after it takes a crossing of cycle `k` at `x`. -/
def Tracker.taken (t : Tracker) (k x : Nat) : Tracker :=
  { t with state := 2, crossings := ((k, x) :: t.crossings).take 8, missed := 0, run := 0, lastCycle := k }

/-- A crossing near its prediction keeps a LOCKED tracker, where the new fit stays within 45 to 65 Hz. -/
theorem State.lateCrossing_near {t : Tracker} {f : Fit} {x : Nat} (ht : t = s.tracker p) (hstate : t.state = 2)
    (hnear : (max x (f.nearest x).2 - min x (f.nearest x).2) * 16 ≤ f.period)
    (hfit : ∀ g, fitOf ((((f.nearest x).1.toNat, x) :: t.crossings).take 8) = some g → 45000 ≤ g.mHz ∧ g.mHz ≤ 65000) :
    s.lateCrossing p t f x = s.setTracker p (t.taken (f.nearest x).1.toNat x) := by
  have hkeep : s.mainsState p (t.taken (f.nearest x).1.toNat x) = s.setTracker p (t.taken (f.nearest x).1.toNat x) :=
    State.mainsState_same (by rw [← ht, hstate]; rfl)
  have h3 : ¬ t.state = 3 := by omega
  unfold State.lateCrossing
  dsimp only
  rw [if_pos hnear]
  simp only [h3, false_and, if_false]
  split
  · rename_i g hg
    have hrange : ¬(g.mHz < 45000 ∨ 65000 < g.mHz) := by have := hfit g hg; omega
    rw [if_neg hrange]
    exact hkeep
  · exact hkeep

theorem mainsCrossing_near {t : Tracker} {f : Fit} {x : Nat} (htrack : s.tracking p = true) (ht : t = s.tracker p) (hx : x = s.ns - back)
    (hf : t.fit = some f) (hstate : t.state = 2) (hnear : (max x (f.nearest x).2 - min x (f.nearest x).2) * 16 ≤ f.period)
    (hfit : ∀ g, fitOf ((((f.nearest x).1.toNat, x) :: t.crossings).take 8) = some g → 45000 ≤ g.mHz ∧ g.mHz ≤ 65000) :
    ∃ y : Tracker, y.state = 2 ∧ y.crossings = (((f.nearest x).1.toNat, x) :: t.crossings).take 8 ∧ y.missed = 0 ∧
      y.lastCycle = (f.nearest x).1.toNat ∧ mainsCrossing p back s = s.setTracker p y := by
  have hlate := State.lateCrossing_near ht hstate hnear hfit
  unfold mainsCrossing
  simp only [htrack, ← ht, hf, ← hx, hlate, Bool.not_true, Bool.false_eq_true, if_false, State.tracker_setTracker,
    State.setTracker_setTracker]
  split
  · exact ⟨_, rfl, rfl, rfl, rfl, rfl⟩
  · exact ⟨_, rfl, rfl, rfl, rfl, rfl⟩

section
variable {t : Tracker} {f : Fit} (ht : t = s.tracker p) (hf : t.fit = some f)
include ht hf

theorem mainsCrossingMissed_first (hlate : f.crossing (t.lastCycle + 1) * 16 + f.period < s.ns * 16) (hm : t.missed = 0) :
    mainsCrossingMissed p s = s.setTracker p { t with missed := 1, lastCycle := t.lastCycle + 1 } := by
  have hfew : ¬(t.state = 2 ∧ 2 ≤ t.missed + 1) := by omega
  unfold mainsCrossingMissed
  simp only [← ht, hf, Nat.cast_add, Nat.cast_one]
  rw [if_neg (Nat.not_le.mpr hlate), if_neg hfew, hm]

theorem mainsCrossingMissed_second (hlate : f.crossing (t.lastCycle + 1) * 16 + f.period < s.ns * 16) (hstate : t.state = 2)
    (hm : 1 ≤ t.missed) : mainsCrossingMissed p s = s.mainsState p { t with
      state := 3, missed := t.missed + 1, run := 0, lastCycle := t.lastCycle + 1, coastFrom := t.lastCycle + 1 } := by
  have htwo : t.state = 2 ∧ 2 ≤ t.missed + 1 := by omega
  unfold mainsCrossingMissed
  simp only [← ht, hf, Nat.cast_add, Nat.cast_one]
  rw [if_neg (Nat.not_le.mpr hlate), if_pos htwo]

theorem mainsCrossingMissed_early (hearly : s.ns * 16 ≤ f.crossing (t.lastCycle + 1) * 16 + f.period) : mainsCrossingMissed p s = s := by
  unfold mainsCrossingMissed
  simp only [← ht, hf, Nat.cast_add, Nat.cast_one]
  exact if_pos hearly

theorem coastExpiry_due (hstate : t.state = 3) (hend : f.crossing (t.coastFrom + s.getF F.TB_MAINSCFG_COAST) ≤ s.ns) :
    ∃ y : Tracker, y.state = 0 ∧ y.crossings = [] ∧ coastExpiry p s = (s.mainsState p y).anglesLost p := by
  refine ⟨{ accepted := (s.tracker p).accepted }, rfl, rfl, ?_⟩
  unfold coastExpiry
  simp only [← ht, hf]
  exact (if_pos ⟨hstate, hend⟩).trans (by rw [State.unlock, ← ht])

theorem coastExpiry_early (hend : s.ns < f.crossing (t.coastFrom + s.getF F.TB_MAINSCFG_COAST)) : coastExpiry p s = s := by
  unfold coastExpiry
  simp only [← ht, hf]
  exact if_neg fun ⟨_, h⟩ => Nat.not_le.mpr hend h

end

section
variable {t : Tracker} (ht : t = s.tracker p)
include ht

theorem mainsCrossingMissed_no_fit (hf : t.fit = none) : mainsCrossingMissed p s = s := by
  simp only [mainsCrossingMissed, ← ht, hf]

theorem coastExpiry_no_fit (hf : t.fit = none) : coastExpiry p s = s := by
  simp only [coastExpiry, ← ht, hf]

theorem lockingTimeout_due {k a : Nat} {l : List (Nat × Nat)} (hstate : t.state = 1) (hc : t.crossings = (k, a) :: l)
    (hend : a * 45 + 2000000000 ≤ s.ns * 45) :
    ∃ y : Tracker, y.state = 0 ∧ y.crossings = [] ∧ lockingTimeout p s = (s.mainsState p y).anglesLost p := by
  refine ⟨{ accepted := (s.tracker p).accepted }, rfl, rfl, ?_⟩
  simp only [lockingTimeout, ← ht, hc]
  exact (if_pos ⟨hstate, hend⟩).trans (by rw [State.unlock, ← ht])

theorem lockingTimeout_early {k a : Nat} {l : List (Nat × Nat)} (hc : t.crossings = (k, a) :: l)
    (hend : s.ns * 45 < a * 45 + 2000000000) : lockingTimeout p s = s := by
  simp only [lockingTimeout, ← ht, hc]
  exact if_neg fun ⟨_, h⟩ => Nat.not_le.mpr hend h

theorem lockingTimeout_not_locking (hstate : t.state ≠ 1) : lockingTimeout p s = s := by
  simp only [lockingTimeout, ← ht]
  split
  · exact if_neg fun ⟨h, _⟩ => hstate h
  · rfl

end
end
end Sys2Proof.Machine

namespace Sys2Proof
open Machine

/-- Settles O33: the reference's events by its state and times, the trackers' by their state, fit and crossings. -/
theorem timeReferenceAndMainsTrackers : Obligations.TimeReferenceAndMainsTrackers := by
  refine ⟨fun i rising ch sec t0 g tc pin s z hlive => ⟨?pulse, fun h => next_congr (ppsEdge_other_direction h), ?phase,
    fun h => next_congr (todSentence_wrong h), fun h hnext hcut => next_congr (todSentence_labels hlive h hnext hcut), fun hsel => ?loss,
    fun hstate hexp => ⟨fun ht => next_congr (holdoverExpired_due hstate hexp ht), fun ht => next_congr (holdoverExpired_early ht)⟩,
    fun h => next_congr (holdoverExpired_again h), fun hsel hact hstate hsince hlast =>
      ⟨fun ht => next_congr (pps0Return_due hsince hsel hact hstate hlast ht), fun ht => next_congr (pps0Return_early hsince ht)⟩,
    fun hg hrole hup d hd hlo hhi => next_congr (timeCell_peer hg hrole hup hd hlo hhi),
    fun hg hrole => next_congr (timeCell_not_member hg hrole), fun hg hrole hsel hup hgroup hstate hside hvalid hrun =>
      next_congr (timeCell_east hg hrole hsel hup hgroup hstate hside hvalid hrun),
    fun hdir => ⟨fun hc => next_congr (eventCapture_selected hlive hdir hc), fun hc => next_congr (eventCapture_unselected hc)⟩,
    fun hdir => next_congr (eventCapture_output hdir)⟩,
    fun p back x a b k n t f s ht hx => ⟨fun h => next_congr (mainsCrossing_not_tracking h), fun htrack hfit => ?early, fun hf => ?fitted,
      fun hf => ⟨next_congr (mainsCrossingMissed_no_fit ht hf), next_congr (coastExpiry_no_fit ht hf)⟩,
      fun l hstate hc => ⟨fun hend => ?locking, fun hend => next_congr (lockingTimeout_early ht hc hend)⟩,
      fun hstate => next_congr (lockingTimeout_not_locking ht hstate), State.mainsState_same⟩⟩
  case pulse =>
    intro hsel hi hedge hlabel hz
    subst hi hz
    have hpulse := ppsEdge_unlabelled hlive hsel hedge hlabel
    refine ⟨fun h => ?_, fun h => ?_⟩
    · exact (next_congr hpulse).trans (next_congr (State.refPulse_free (by exact h) _))
    · exact (next_congr hpulse).trans (next_congr (State.refPulse_past_free (by exact h) _))
  case phase =>
    intro hvalid hrun hacc n e he
    have hrefuses := State.refuses_iff (e := e) hvalid hrun hacc
    have hphase := State.refPhase_unlabelled (s := s) he
    refine ⟨fun hfar hbad => ?_, fun hfar hbad _ => ?_, fun hnear hstate ht => ?_⟩
    · rw [hphase, if_pos (hrefuses.mpr hfar), State.refRejected_early hbad]
    · rw [hphase, if_pos (hrefuses.mpr hfar), State.refRejected_third hbad]
    · rw [hphase, if_neg (mt hrefuses.mp (Nat.not_lt.mpr hnear)), State.refAccepted_locked hstate ht]
  case loss =>
    exact ⟨fun ht => ⟨fun h => next_congr (refLoss_locked hsel ht h), fun h => next_congr (refLoss_acquiring hsel ht h),
      fun h => next_congr (refLoss_other hsel ht h)⟩, fun ht => next_congr (refLoss_early ht)⟩
  case early =>
    obtain ⟨y, hystate, hycross, hy⟩ := mainsCrossing_early (back := back) htrack ht hfit
    rw [← hx] at hystate hycross
    refine ⟨fun hc => ⟨y, ?_, ?_, next_congr hy⟩, fun hc hlo hhi => ⟨y, ?_, ?_, next_congr hy⟩,
      fun hc hlo hhi hsame => ⟨y, ?_, ?_, next_congr hy⟩, fun l hc hd => ⟨y, ?_, ?_, next_congr hy⟩⟩
    · rw [hystate, Tracker.early_first hc]
    · rw [hycross, Tracker.early_first hc]
    · rw [hystate, Tracker.early_second hc hlo hhi]
    · rw [hycross, Tracker.early_second hc hlo hhi]
    · rw [hystate, Tracker.early_third hc hlo hhi hsame]
    · rw [hycross, Tracker.early_third hc hlo hhi hsame]
    · rw [hystate, Tracker.early_outside hc hd]
    · rw [hycross, Tracker.early_outside hc hd]
  case fitted =>
    refine ⟨fun htrack hstate hnear hfit => ?_, fun hlate => ⟨fun _ hm => next_congr (mainsCrossingMissed_first ht hf hlate hm),
      fun hstate hm => next_congr (mainsCrossingMissed_second ht hf hlate hstate hm)⟩,
      fun hearly => next_congr (mainsCrossingMissed_early ht hf hearly), fun hstate hn => ⟨fun hend => ?_, fun hend => ?_⟩⟩
    · obtain ⟨y, hy2, hyc, hym, hyl, hy⟩ := mainsCrossing_near htrack ht hx hf hstate hnear hfit
      exact ⟨y, hy2, hyc, hym, hyl, next_congr hy⟩
    · obtain ⟨y, hy0, hyc, hy⟩ := coastExpiry_due ht hf hstate (hn ▸ hend)
      exact ⟨y, hy0, hyc, next_congr hy⟩
    · exact next_congr (coastExpiry_early ht hf (hn ▸ hend))
  case locking =>
    obtain ⟨y, hy0, hyc, hy⟩ := lockingTimeout_due ht hstate hc hend
    exact ⟨y, hy0, hyc, next_congr hy⟩

end Sys2Proof

/-! The reference, the mains and launched actions take effect (O54): each by its equation above, a scheduled COMMIT by its checks. -/

namespace Sys2Proof.Machine
open Sys2Proof

/-- The COMMIT entry of a scheduled transaction of one device whose checks pass: every action takes effect. -/
theorem State.commitTick_scheduled {s y : State} {e : LqEntry} {x : Txn} (hphase : x.phase = .scheduled) (hmaster : x.master = none)
    (hmembers : x.members = 0)
    (hy : y = { s.lqRemove e.entry with txn := { (s.lqRemove e.entry).txn with late := (s.lqRemove e.entry).txn.late ++ [x.handle] } })
    (hchecks : y.commitChecks { x with entry := none } y x.here = none) :
    s.commitTick e x = (y.applyAll { x with entry := none }).finishTxn { x with entry := none } { status := stOK } := by
  have hhere : ({ x with entry := none } : Txn).here = x.here := rfl
  unfold State.commitTick
  generalize ({ x with entry := none } : Txn) = u at hchecks hhere ⊢
  simp only [hmaster, hmembers, hphase, hhere, Option.isNone_none, if_true, ← hy, hchecks]

end Sys2Proof.Machine

namespace Sys2Proof
open Machine

/-- Settles O54: the reference and the trackers by the equations of O33, the actions by those of O26. -/
theorem timeAndLaunchEventsComplete : Obligations.TimeAndLaunchEventsComplete := by
  intro i ch sec t0 back n a k g tc pin p en e t f l x s z y ht
  refine ⟨fun hlive hsel hlabel hstate hz => ?pulse, fun hlive h hnext hcut => next_congr (todSentence_labels hlive h hnext hcut),
    fun hg hrole hup d hd hlo hhi => next_congr (timeCell_peer hg hrole hup hd hlo hhi),
    fun hsel hlate hstate => next_congr (refLoss_locked hsel hlate hstate),
    fun hstate hexp hlimit => next_congr (holdoverExpired_due hstate hexp hlimit),
    fun hsel hact hstate hsince hlast hend => next_congr (pps0Return_due hsince hsel hact hstate hlast hend),
    fun htrack hfit hc => ?crossing, fun hf hlate _ hm => next_congr (mainsCrossingMissed_first ht hf hlate hm),
    fun hf hstate hend => ?coast, fun hstate hc hend => ?locking, fun hf hwrap hstate hs => ?boundary, fun h hr hstop => ?action,
    fun hlive hdir hc => ⟨next_congr (eventCapture_selected hlive hdir (Or.inl hc)), next_congr (eventCapture_selected hlive hdir (Or.inl hc))⟩⟩
  case pulse =>
    subst hz
    exact (next_congr (ppsEdge_unlabelled hlive hsel rfl hlabel)).trans (next_congr (State.refPulse_past_free (by exact hstate) _))
  case crossing =>
    obtain ⟨q, hq, hcross, hrun⟩ := mainsCrossing_early (back := back) htrack ht hfit
    exact ⟨q, by rw [hq, Tracker.early_first hc], by rw [hcross, Tracker.early_first hc], next_congr hrun⟩
  case coast =>
    obtain ⟨q, hq, hcross, hrun⟩ := coastExpiry_due ht hf hstate hend
    exact ⟨q, hq, hcross, next_congr hrun⟩
  case locking =>
    obtain ⟨q, hq, hcross, hrun⟩ := lockingTimeout_due ht hstate hc hend
    exact ⟨q, hq, hcross, next_congr hrun⟩
  case boundary =>
    subst ht
    obtain ⟨hflag, -, -, -, hkept⟩ := State.newCycle_effect (p := p) hs hstate (f.cycle s.now16)
    exact ⟨_, next_congr (mainsCycleBoundary_wraps hf hwrap), hflag, hkept⟩
  case action =>
    have hrun {type : Nat} (act : LqEntry → State) (htype : leType e.words = type) : s.runAction en type act = act e :=
      State.runAction_runs h htype hr hstop
    refine ⟨fun ht hslot hphase hmaster hmembers hz hy hchecks => ?_, fun ht hin => ?_, fun ht hrfc => ?_, fun ht hrfc => ?_,
      fun ht hd => ⟨fun hk => ?_, fun hk hrfc => ?_⟩, fun ht hout => ?_, fun ht hk => ⟨_, rfl, ?_⟩⟩
    · subst hz
      refine next_congr ((hrun _ ht).trans ?_)
      simp only [hslot]
      exact State.commitTick_scheduled hphase hmaster hmembers hy hchecks
    · exact next_congr ((hrun _ ht).trans (State.plcBand_within hin))
    · exact next_congr ((hrun _ ht).trans (State.linkAction_tune ht hrfc))
    · exact next_congr ((hrun _ ht).trans (State.linkAction_profile ht hrfc))
    · exact next_congr ((hrun _ ht).trans (State.gain_rxGain hk hd))
    · exact next_congr ((hrun _ ht).trans ((State.gain_pair (by omega)).trans (State.linkAction_rxGain ht hd hrfc)))
    · obtain ⟨q, hq, hsent, -, -⟩ := s.eventEdge_output hout
      exact ⟨q, next_congr ((hrun _ ht).trans hq), hsent⟩
    · exact next_congr ((hrun _ ht).trans (State.marker_line hk))

end Sys2Proof

/-! Transmission on the power line (O35): the launched frame, its end, the acknowledgement awaited and the one owed. -/

namespace Sys2Proof.Machine
open Sys2Proof

/-! ## The launched frame (R163) -/

section
variable {s : State} {i : EntryId} {e : LqEntry}

theorem plcItemRead_early (hi : s.lqAt i = some e) (ht : s.ns + 100000 < s.lqNs e) : plcItemRead i s = s := by
  simp [plcItemRead, hi, ht]

theorem plcFrame_not_due (hi : s.lqAt i = some e) (hr : s.lqReady e = false) : plcFrame i s = s := by
  simp [plcFrame, hi, hr]

theorem plcFrame_stopped {it : List Word} {st : Nat} (hi : s.lqAt i = some e) (hf : leType e.words = leTypePLC_FRAME)
    (hr : s.lqReady e = true) (hitem : e.item = some it) (hstop : s.plcStop? e = some st) : plcFrame i s = s.txFail e st := by
  simp [plcFrame, hi, hf, hr, hitem, hstop]

theorem State.plcStop?_of_silent (h : s.mayTransmit = false) : s.plcStop? e = some stMODE_SILENT := by
  simp [State.plcStop?, h]

end

/-! ## The end of a frame (R163, R174, R177) -/

section
variable {s z : State} {p : LinePort} {b : Band} {t : PlcSending} {a : PlcAttempt}

theorem plcTxDone_early (htx : (s.pchan p b.num).tx = some t) (ht : s.ns < t.end_) : plcTxDone p b s = s := by
  simp [plcTxDone, htx, ht]

/-- An attempt's frame, or one of the device's own, that has left; `z` is the state in which it is counted. -/
theorem plcTxDone_attempt (htx : (s.pchan p b.num).tx = some t) (hend : t.end_ ≤ s.ns)
    (hz : z = (((s.plcStop p b.num t.end_).bump (F.PL_TXCNT_SENT p b.num)).twinSettle).sentReserve p b.num t)
    (hk : t.kind = .attempt p) : plcTxDone p b s = z.attemptSent p p b.num t := by
  simp [plcTxDone, htx, Nat.not_lt.mpr hend, hk, hz]

theorem plcTxDone_own (htx : (s.pchan p b.num).tx = some t) (hend : t.end_ ≤ s.ns)
    (hz : z = (((s.plcStop p b.num t.end_).bump (F.PL_TXCNT_SENT p b.num)).twinSettle).sentReserve p b.num t)
    (hk : t.kind = .ack ∨ t.kind = .beacon) : plcTxDone p b s = z := by
  obtain hk | hk := hk <;> simp [plcTxDone, htx, Nat.not_lt.mpr hend, hk, hz]

/-- The reservation for its ACK after a frame sent. -/
theorem State.sentReserve_reserves (s : State) (p c : Nat) (ha : t.ackReq = true) :
    t.end_ + 680000 + symsDur ((s.sentReserve p c t).ackSyms p c t.mode) ≤ ((s.sentReserve p c t).pchan p c).reservedTo := by
  have hsyms : (s.sentReserve p c t).ackSyms p c t.mode = s.ackSyms p c t.mode := by
    rw [State.sentReserve, if_pos ha]; rfl
  rw [hsyms, State.sentReserve, if_pos ha, State.pchan_setPchan_same]
  exact Nat.le_max_right _ _

theorem State.attemptSent_unasked {c : Nat} (ha : (z.pchan p c).attempt = some a) (hack : t.ackReq = false) :
    z.attemptSent p p c t = z.releaseAttempt p c a.queue := by
  simp [State.attemptSent, ha, hack]

/-- The attempt waits for its ACK; the reservation already made for it stands. -/
theorem State.attemptSent_asked {c : Nat} (ha : (z.pchan p c).attempt = some a) (hack : t.ackReq = true) (hc : c ≠ 2)
    (hres : z.reserveEnd p c t.mode t.end_ ≤ (z.pchan p c).reservedTo) :
    ((z.attemptSent p p c t).pchan p c).attempt = some { a with
      waiting := true, deadline := t.end_ + 680000 + 680000 * z.ackSyms p c t.mode + 150000, seq := psduSeq t.psdu, dst := psduDst t.psdu } ∧
    ((z.attemptSent p p c t).pchan p c).reservedTo = (z.pchan p c).reservedTo ∧
    z.attemptSent p p c t = { z with plc := (z.attemptSent p p c t).plc } := by
  simp only [State.attemptSent, ha, hack, bne_iff_ne.mpr hc, Bool.and_self, if_true, State.sentReserve, State.pchan_setPchan_same]
  exact ⟨trivial, max_eq_left hres, rfl⟩

end

/-! ## The acknowledgement awaited (R174, R179) -/

section
variable {s : State} {p : LinePort} {b : Band} {psdu : List Byte} {a : PlcAttempt}

/-- The ACK awaited with BUSY, on a port whose group has no other attempt. -/
theorem State.plcAckIn_busy {c : Nat} (ha : (s.pchan p c).attempt = some a) (hans : s.ackAnswers p psdu a = true)
    (hother : ∀ j, j / 3 = p.val / 3 → j ≠ p.val → (s.pchan j c).attempt = none) (hbusy : bitAt psdu 5 0 = true) :
    s.plcAckIn p c psdu = s.ackMissed p c a := by
  have hself : 3 * (p.val / 3) + p.val % 3 = p.val := Nat.div_add_mod _ _
  have hheld : ((List.range 3).findSome? fun i => ((s.pchan (3 * (p.val / 3) + i) c).attempt.filter fun a => s.ackAnswers p psdu a).map
      fun a => (3 * (p.val / 3) + i, a)) = some (p.val, a) := by
    refine findSome?_range_unique (k := p.val % 3) (Nat.mod_lt _ (by decide)) ?_ fun i hi hne => ?_
    · simp [hself, ha, hans]
    · rw [hother _ (by omega) (by omega)]; rfl
  simp only [State.plcAckIn, hheld, hbusy]
  rfl

theorem State.ackAnswers_refused (h : psdu.length ≠ 6 ∨ s.toMe (le32 psdu 0) = false ∨ a.waiting = false ∨ a.seq ≠ (psdu.getD 4 0).toNat) :
    s.ackAnswers p psdu a = false := by
  obtain h | h | h | h := h
  · simp [State.ackAnswers, h]
  · simp [State.ackAnswers, h]
  · simp [State.ackAnswers, h]
  · have hseq : ((psdu.getD 4 0).toNat == a.seq) = false := beq_false_of_ne h.symm
    simp only [State.ackAnswers, hseq, Bool.and_false, Bool.false_and]

/-- An ACK no attempt awaits is ignored. -/
theorem State.plcAckIn_ignored {c : Nat} (h : ∀ j x, (s.pchan j c).attempt = some x → s.ackAnswers p psdu x = false) :
    s.plcAckIn p c psdu = s := by
  have hnone (j : Nat) : (s.pchan j c).attempt.filter (fun a => s.ackAnswers p psdu a) = none := by
    rw [Option.filter_eq_none_iff]
    exact fun x hx => by simp [h j x hx]
  simp only [State.plcAckIn, hnone]
  rfl

theorem plcAckExpiry_early (ha : (s.pchan p b.num).attempt = some a) (ht : s.ns < a.deadline + 2000) : plcAckExpiry p b s = s := by
  simp [plcAckExpiry, ha, State.expired, Nat.not_le.mpr ht]

end

/-! ## The acknowledgement owed (R178) -/

section
variable {s : State} {p : LinePort} {b : Band} {k : PlcAckDue} (hk : (s.pchan p b.num).ack = some k)
include hk

theorem plcAckSend_early (ht : s.ns < k.at_) : plcAckSend p b s = s := by
  simp [plcAckSend, hk, ht]

theorem plcAckSend_unverified (ht : k.at_ ≤ s.ns) (hr : k.ready = false) :
    plcAckSend p b s = s.setPchan p b.num { s.pchan p b.num with ack := none } := by
  simp [plcAckSend, hk, Nat.not_lt.mpr ht, hr]

theorem plcAckSend_stopped (hc : s.combines (p / 3) = false) (ht : k.at_ ≤ s.ns) (hr : k.ready = true) (hstop : s.ownStop p b.num = true) :
    plcAckSend p b s = (s.setPchan p b.num { s.pchan p b.num with ack := none }).bump (F.PL_TXCNT_REFUSED p b.num) := by
  have hport : s.ackPort p = p.val := by simp [State.ackPort, hc]
  simp [plcAckSend, hk, Nat.not_lt.mpr ht, hr, hport, hstop]

end
end Sys2Proof.Machine

namespace Sys2Proof
open Machine

/-- Settles O35: the launched frame by what stops it, its end by its kind, an ACK by whether it is awaited or owed. -/
theorem powerLineTransmission : Obligations.PowerLineTransmission := by
  rintro i p b psdu c st it e t a k s z rfl
  refine ⟨fun hi hf => ⟨fun hitem hdue ht => next_congr (plcItemRead_due hi hf hitem hdue ht),
      fun ht => next_congr (plcItemRead_early hi ht), fun hr => next_congr (plcFrame_not_due hi hr),
      fun hr hitem hsec => ⟨fun hstop => next_congr (plcFrame_stopped hi hf hr hitem hstop),
        fun hstop hhost hentry => next_congr (plcFrame_host hi hf hr hitem hsec hstop hhost hentry)⟩⟩,
    fun htx => ⟨fun ht => next_congr (plcTxDone_early htx ht), fun hend hz => ?done⟩,
    fun ha => ⟨fun hwait hlen hme hseq ht hon _ hone hother => ?awaited, fun hwait ht => next_congr (plcAckExpiry_late ha hwait ht),
      fun ht => next_congr (plcAckExpiry_early ha ht)⟩,
    fun h => next_congr (State.plcAckIn_ignored fun j x hx => State.ackAnswers_refused (h.imp_right (Or.imp_right fun hw => hw j x hx))),
    fun hk hc hz => ?owed, State.plcStop?_of_silent⟩
  case done =>
    have hreserve : t.ackReq = true → z.reserveEnd p b.num t.mode t.end_ ≤ (z.pchan p b.num).reservedTo := fun hack => by
      rw [hz]; exact State.sentReserve_reserves _ _ _ hack
    refine ⟨fun hkind => ?_, hreserve, fun hkind ha hack => ?_, fun hkind ha hack hc => ?_, fun hkind => ?_⟩
    · rw [hz]; exact next_congr (plcTxDone_host htx hend hkind)
    · exact next_congr ((plcTxDone_attempt htx hend hz hkind).trans (State.attemptSent_unasked ha hack))
    · exact ⟨_, next_congr (plcTxDone_attempt htx hend hz hkind), State.attemptSent_asked ha hack hc (hreserve hack)⟩
    · exact next_congr (plcTxDone_own htx hend hz hkind)
  case awaited =>
    have hans := State.ackAnswers_own (p := p) hwait hlen hme hseq ht hon hone
    exact ⟨fun hbusy => next_congr (State.plcAckIn_awaited ha hans hother hbusy), fun hbusy => next_congr (State.plcAckIn_busy ha hans hother hbusy)⟩
  case owed =>
    subst hz
    refine ⟨fun ht => next_congr (plcAckSend_early hk ht), fun ht hr => next_congr (plcAckSend_unverified hk ht hr),
      fun ht hr hstop => next_congr (plcAckSend_stopped hk hc ht hr hstop), fun ht hr hstop => ?_⟩
    obtain ⟨x, hx⟩ := plcAckSend_ready hk hc ht hr hstop
    exact ⟨x, next_congr hx⟩

end Sys2Proof

/-! The loader (O28): what is offered, what a read that fails or succeeds makes of the load, and when it is given up. -/

namespace Sys2Proof.Machine
open Sys2Proof

/-! ## The end of a read (R22, R23) -/

section
variable {s : State}

theorem State.benchHeld_of_none (h : s.bench.heldReqs = []) : s.benchHeld = s := by
  simp [State.benchHeld, h]

theorem State.grantReads_frame (n : Nat) : State.grantReads n s =
    { s with tags := (State.grantReads n s).tags, host := (State.grantReads n s).host } := by
  induction n generalizing s with
  | zero => rfl
  | succ n ih =>
    unfold State.grantReads
    split
    · rfl
    · split
      · rfl
      · rw [ih]

/-- While no bench request waits for a tag, the end of a read writes the host link and the tags alone. -/
theorem State.readEnd_frame {k : DmaRead} (h : s.bench.heldReqs = []) : s.readEnd k =
    { s with tags := (s.readEnd k).tags, host := (s.readEnd k).host } := by
  unfold State.readEnd
  split
  · rw [State.freeTag, State.benchHeld_of_none, State.grantReads_frame]
    · rfl
    · rw [State.grantReads_frame]; exact h
  · rfl

theorem State.readEnd_mode {k : DmaRead} (h : s.bench.heldReqs = []) : (s.readEnd k).mode = s.mode := by
  rw [State.readEnd_frame h]

end

/-! ## The offer (R46, R305, R318) -/

section
variable {s : State} {c : Cmd} {host len : Nat}

theorem State.offerImage_refused (h : s.mode.mode ≠ .LOAD ∨ s.hostSource = false ∨ c.session.val ≠ 0) :
    s.offerImage c host len = s.complete c opLOAD_IMAGE stMODE_REFUSED := by
  refine if_pos ?_
  obtain h | h | h := h <;> simp [h]

theorem State.offerImage_taken (hload : s.mode.mode = .LOAD) (hsrc : s.hostSource = true) (hses : c.session.val = 0)
    (hcmd : s.mode.loadCmd = none) (hwin : s.hostOk host len false = true) :
    s.offerImage c host len = State.readIssue { s with mode := { s.mode with loadCmd := some (c, len) } } .image := by
  simp [State.offerImage, hload, hsrc, hses, hcmd, hwin]

end

/-! ## The end of an attempt (R47, R48) -/

section
variable {s : State} {c : Cmd} {len : Nat}

theorem loadAttemptFailed_dma (hload : s.mode.mode = .LOAD) (hcmd : s.mode.loadCmd = some (c, len)) :
    loadAttemptFailed .dmaError s = s.attemptFailed c stDMA_ERROR := by
  simp only [loadAttemptFailed, hload, hcmd]

/-- The loader after one more attempt that failed. -/
def State.waitsAgain (s : State) (c : Cmd) (st : Nat) : State :=
  let x := (s.readEnd .image).complete c opLOAD_IMAGE st
  { x with mode := { x.mode with loadCmd := none, loadFailures := s.mode.loadFailures + 1, loadLimit := s.ns + 10000000000 } }

theorem State.waitsAgain_frame (st : Nat) : s.waitsAgain c st =
    { (s.readEnd .image).complete c opLOAD_IMAGE st with mode := (s.waitsAgain c st).mode } := rfl

theorem State.waitsAgain_mode (h : s.bench.heldReqs = []) (st : Nat) : (s.waitsAgain c st).mode =
    { s.mode with loadCmd := none, loadFailures := s.mode.loadFailures + 1, loadLimit := s.ns + 10000000000 } := by
  simp only [State.waitsAgain, State.complete_mode, State.readEnd_mode h]

theorem State.attemptFailed_early (h : s.mode.loadFailures < 2) (st : Nat) : s.attemptFailed c st = s.waitsAgain c st :=
  if_pos (show s.mode.loadFailures + 1 < 3 by omega)

theorem State.attemptFailed_third (h : 2 ≤ s.mode.loadFailures) (st : Nat) :
    s.attemptFailed c st = (s.waitsAgain c st).loadFail lcNO_IMAGE 0 :=
  if_neg (show ¬ s.mode.loadFailures + 1 < 3 by omega)

/-- The bytes of a host image have been read: its command completes, and they are checked. -/
theorem imageReadDone_host {b : List Byte} (hload : s.mode.mode = .LOAD) (hsrc : s.hostSource = true)
    (hcmd : s.mode.loadCmd = some (c, len)) (htag : s.readTag .image ≠ none) :
    imageReadDone b s = ((s.readEnd .image).complete c opLOAD_IMAGE stOK).checkLoaded (b.take len) len := by
  have hopen : (s.readTag .image).isNone = false := by rwa [Option.isNone_eq_false_iff, Option.isSome_iff_ne_none]
  simp [imageReadDone, hload, hsrc, hcmd, hopen]

theorem State.checkLoaded_refused {b : List Byte} {cause ty : Nat}
    (h : checkImage b len false (s.getF F.MD_ID_STEPPING) s.fusedDigest = .error (cause, ty)) :
    s.checkLoaded b len = s.loadFail cause ty := by
  simp only [State.checkLoaded, h]

theorem State.checkLoaded_loads {b : List Byte} {im : Image}
    (h : checkImage b len false (s.getF F.MD_ID_STEPPING) s.fusedDigest = .ok im) (hcons : (s.built im).inconsistent = none) :
    s.checkLoaded b len = s.loadImage im := by
  simp only [State.checkLoaded, h, hcons]

end

/-! ## A load given up (R46, R48, R49) -/

section
variable {s : State}

theorem loadTimeout_due (hload : s.mode.mode = .LOAD) (hsrc : s.hostSource = true) (hcmd : s.mode.loadCmd = none)
    (ht : s.mode.loadLimit + 2000 ≤ s.ns) : loadTimeout s = s.loadFail lcNO_IMAGE 0 :=
  if_pos ⟨hload, hsrc, hcmd, decide_eq_true ht⟩

theorem loadTimeout_early (ht : s.ns < s.mode.loadLimit + 2000) : loadTimeout s = s :=
  if_neg fun ⟨_, _, _, h⟩ => Nat.not_le.mpr ht (of_decide_eq_true h)

theorem noImage_flash (hload : s.mode.mode = .LOAD) (hsrc : s.hostSource = false) : noImage s = s.loadFail lcNO_IMAGE 0 :=
  if_pos ⟨hload, by simp [hsrc]⟩

theorem State.changeMode_enters (m : Mode) (cause : Nat) : (s.changeMode m cause).mode.mode = m := by
  rw [State.changeMode_mode, ModeState.changed]

/-- A load given up ends in the change to DEFAULTED, its self-test to come (R49, R62). -/
theorem State.loadFail_ends (cause type : Nat) : ∃ y : State,
    s.loadFail cause type = { y with mode := { y.mode with testing := true } } ∧ ∃ x : State, y = x.changeMode .DEFAULTED 0x02 :=
  ⟨_, rfl, _, rfl⟩

/-- An image that loads ends in the change to CHECK (R47). -/
theorem State.loadImage_ends (im : Image) : ∃ x : State, s.loadImage im = x.changeMode .CHECK 0x01 := by
  unfold State.loadImage
  exact ⟨_, rfl⟩

theorem State.loadFail_mode (cause type : Nat) :
    (s.loadFail cause type).mode.mode = .DEFAULTED ∧ (s.loadFail cause type).mode.testing = true := by
  obtain ⟨y, hy, x, hx⟩ := State.loadFail_ends (s := s) cause type
  have hmode : y.mode.mode = .DEFAULTED := by rw [hx, State.changeMode_enters]
  rw [hy]
  exact ⟨hmode, rfl⟩

theorem State.loadImage_mode (im : Image) : (s.loadImage im).mode.mode = .CHECK := by
  obtain ⟨x, hx⟩ := State.loadImage_ends (s := s) im
  rw [hx]
  exact State.changeMode_enters _ _

end
end Sys2Proof.Machine

namespace Sys2Proof
open Machine

/-- Settles O28: an offer by its conditions, a read by how it ends, a load given up by its limit or its source. -/
theorem imagesOfferedReadAndGivenUp : Obligations.ImagesOfferedReadAndGivenUp := by
  rintro c host len cause ty b im s u hheld rfl
  refine ⟨fun hrun => ⟨fun h => ?refused, fun hload hsrc hses hcmd hwin => ?taken⟩, fun hload hsrc hcmd => ⟨fun h => ?again, fun h => ?third,
      fun y htag hy => ?checked⟩,
    fun hload hsrc hcmd => ⟨fun ht => next_congr (loadTimeout_due hload hsrc hcmd ht), fun ht => next_congr (loadTimeout_early ht)⟩,
    fun hload hsrc => next_congr (noImage_flash hload hsrc), (State.loadFail_mode _ _).1, (State.loadFail_mode _ _).2, State.loadImage_mode _⟩
  case refused => exact next_congr ((command_runs hrun _).trans (State.offerImage_refused h))
  case taken => exact next_congr ((command_runs hrun _).trans (State.offerImage_taken hload hsrc hses hcmd hwin))
  case again =>
    exact ⟨s.waitsAgain c stDMA_ERROR, next_congr ((loadAttemptFailed_dma hload hcmd).trans (State.attemptFailed_early h _)),
      State.waitsAgain_mode hheld _, State.waitsAgain_frame _⟩
  case third =>
    exact ⟨s.waitsAgain c stDMA_ERROR, next_congr ((loadAttemptFailed_dma hload hcmd).trans (State.attemptFailed_third h _)),
      State.waitsAgain_frame _⟩
  case checked =>
    have hread := imageReadDone_host (b := b) hload hsrc hcmd htag
    rw [← hy] at hread
    exact ⟨fun herr => next_congr (hread.trans (State.checkLoaded_refused herr)),
      fun hok hcons => next_congr (hread.trans (State.checkLoaded_loads hok hcons))⟩

end Sys2Proof

/-! The bench's commands and requests (O48): who may give a command, what a request meets, and how one ends. -/

namespace Sys2Proof.Machine
open Sys2Proof

/-! ## Commands of the master (R369) -/

section
variable {s y : State} {c : Cmd} {op st : Nat} {f : State}

theorem State.masterCmd_elsewhere (hrun : s.runs c op) (h : s.benchRole ≠ roleMASTER) : s.masterCmd c op f = s.complete c op stNOT_MASTER :=
  (command_runs hrun _).trans (if_neg h)

theorem State.masterCmd_master (hrun : s.runs c op) (h : s.benchRole = roleMASTER) : s.masterCmd c op f = f :=
  (command_runs hrun _).trans (if_pos h)

theorem State.askOrEnd_sent : State.askOrEnd (y, stOK) c op = y := if_pos rfl

theorem State.askOrEnd_refused (h : st ≠ stOK) : State.askOrEnd (y, st) c op = y.complete c op st := if_neg h

end

section
variable {s y : State} {c : Cmd} {m a st : Nat} {w : List Word} {q : BenchContent} {p : BenchPurpose}

/-! ## Requests (R77, R357, R368) -/

theorem State.benchAsk_past_last (h : s.nmemb < m) : s.benchAsk m q p = (s, stNO_MEMBER) := if_pos (Or.inl h)

theorem State.benchAsk_down (hm : m ≤ s.nmemb) (hself : m ≠ s.memberNo) (hd : s.domOn domBPL = false) :
    s.benchAsk m q p = (s, stDOMAIN_DOWN) := by
  simp [State.benchAsk, Nat.not_lt.mpr hm, hself, hd]

theorem State.peerAsk_down (hd : s.domOn domBPL = false) : s.peerAsk a q p = (s, stDOMAIN_DOWN) := by
  simp [State.peerAsk, hd]

theorem State.peerAsk_without_route (hd : s.domOn domBPL = true) (hp : s.peerPort a = none) :
    s.peerAsk a q p = (s.bump F.PF_STAT_NOROUTE, stPEER_UNREACHABLE) := by
  simp [State.peerAsk, hd, hp]

theorem State.peerAsk_routed (hd : s.domOn domBPL = true) (hp : s.peerPort a ≠ none) : s.peerAsk a q p = (s.benchTake 0 q p 2, stOK) := by
  obtain ⟨x, hx⟩ := Option.ne_none_iff_exists'.mp hp
  simp [State.peerAsk, hd, hx]

/-! ## MEMBER_RESET (R369) -/

theorem State.memberReset_malformed (h : (wordAt w 0).bit 0 = true ∨ wordAt w 0 = 0) :
    s.memberReset c (wordAt w 0) = s.complete c opMEMBER_RESET stINVALID_VALUE := by
  obtain h | h := h <;> simp [State.memberReset, h]

/-- The mask of member 1 alone. -/
theorem State.memberReset_one (h : wordAt w 0 = 2) (hask : s.benchAsk 1 (.reset c.f16 c.f17) (.reset c) = (y, st)) :
    s.memberReset c (wordAt w 0) = if st = stOK then y.resetWait c 1 stOK else y.resetWait c 0 st := by
  have hmask : ((List.range 32).filter fun m => (2 : Word).bit m) = [1] := by decide
  have hform : ((2 : Word).bit 0 || (2 : Word) == 0) = false := by decide
  rw [h, State.memberReset, hform, hmask]
  simp only [Bool.false_eq_true, if_false, List.foldl_cons, List.foldl_nil, hask]
  split <;> simp

/-! ## REMOTE_READ, REMOTE_WRITE and HANDOVER (R369) -/

theorem State.remoteRead_malformed (h : rmCount w = 0 ∨ 8 < rmCount w) : s.remoteRead c a w = s.complete c opREMOTE_READ stINVALID_VALUE :=
  if_pos h

theorem State.remoteRead_asks (hlo : 1 ≤ rmCount w) (hhi : rmCount w ≤ 8) : s.remoteRead c a w =
    State.askOrEnd (s.benchAsk (rmMember w) (.read a (rmCount w)) (.read c)) c opREMOTE_READ :=
  if_neg (by omega)

theorem State.remoteWrite_malformed (h : rmCount w = 0 ∨ 13 < rmCount w) :
    s.remoteWrite c a w = s.complete c opREMOTE_WRITE stINVALID_VALUE :=
  if_pos h

theorem State.remoteWrite_asks (hlo : 1 ≤ rmCount w) (hhi : rmCount w ≤ 13) : s.remoteWrite c a w = State.askOrEnd
    (s.benchAsk (rmMember w) (.write a ((List.range (rmCount w)).map fun i => wordAt w (1 + i))) (.write c)) c opREMOTE_WRITE :=
  if_neg (by omega)

theorem State.length_handWords (n : Nat) : (s.handWords n).length = 16 := by simp [State.handWords]

/-- The state and the index word of an entry handed over leave as zero. -/
theorem State.handWords_zeroed (n : Nat) : wordAt (s.handWords n) 1 = 0 ∧ wordAt (s.handWords n) 10 = 0 := ⟨rfl, rfl⟩

end

/-! ## LAUNCH with BENCH (R103) -/

section
variable {s y : State} {c : Cmd} {e w : List Word} {m : Nat}

theorem exec_launch_bench (hrun : s.runs c opLAUNCH) (he : e = (List.range 8).map (wordAt w)) (hb : leBench e = true)
    (hrole : s.benchRole = roleMASTER) : exec (.launch c w) s = .next (s.launchBench c e) := by
  refine next_congr ((command_runs hrun _).trans ?_)
  simp [State.launchCmd, ← he, hb, hrole]

theorem State.launchBench_malformed (h : s.hostForm e = false) :
    s.launchBench c e = (s.lqCountRefusal stINVALID_VALUE).complete c opLAUNCH stINVALID_VALUE := by
  rw [State.launchBench, h]
  rfl

theorem State.launchBench_refused (h : s.hostForm e = true) (hst : s.lqStatus e ≠ stOK) :
    s.launchBench c e = (s.lqCountRefusal (s.lqStatus e)).complete c opLAUNCH (s.lqStatus e) := by
  simp only [State.launchBench, h, if_true]
  exact if_pos hst

/-- The entry goes to the one member it names. -/
theorem State.launchBench_sent (h : s.hostForm e = true) (hst : s.lqStatus e = stOK) (hnamed : s.namedMembers e = [m])
    (hask : s.benchAsk m (.launch e) (.launch c m) = (y, stOK)) :
    s.launchBench c e = y.launchSettle { cmd := c, entry := e, waiting := [m] } := by
  simp [State.launchBench, h, hst, hnamed, hask]

end

/-! ## The end of a request (R22, R357) -/

section
variable {s y : State} {tag st : Nat} {ws : List Word} {r : BenchReq} {c : Cmd}

theorem benchAck_unknown (h : s.requestOf tag = none) : benchAck tag st ws s = s := by simp only [benchAck, h]

theorem benchTimeout_unknown (h : s.requestOf tag = none) : benchTimeout tag s = s := by simp only [benchTimeout, h]

theorem benchAck_in_time (h : s.requestOf tag = some r) (ht : s.ns ≤ r.deadline) : benchAck tag st ws s = s.closeRequest r st ws := by
  simp only [benchAck, h]
  exact if_neg (Nat.not_lt.mpr ht)

theorem benchAck_late (h : s.requestOf tag = some r) (ht : r.deadline < s.ns) : benchAck tag st ws s = s := by
  simp only [benchAck, h]
  exact if_pos ht

theorem benchTimeout_early (h : s.requestOf tag = some r) (ht : s.ns < r.deadline + 2000) : benchTimeout tag s = s := by
  simp [benchTimeout, h, State.expired, Nat.not_le.mpr ht]

theorem benchTimeout_again (h : s.requestOf tag = some r) (ht : r.deadline + 2000 ≤ s.ns) (hring : s.ring = true) (hr : r.retried = false)
    (hp : peerDst r.content = none) : benchTimeout tag s = s.retryRequest r := by
  simp [benchTimeout, h, State.expired, ht, hring, hr, hp]

theorem benchTimeout_ends (h : s.requestOf tag = some r) (ht : r.deadline + 2000 ≤ s.ns)
    (hno : s.ring = false ∨ r.retried = true ∨ peerDst r.content ≠ none) :
    benchTimeout tag s = s.closeRequest r stBENCH_TIMEOUT [] := by
  have hgo : (s.ring && !r.retried && (peerDst r.content).isNone) = false := by
    obtain h | h | h := hno
    · simp [h]
    · simp [h]
    · simp [Option.isNone_eq_false_iff, Option.isSome_iff_ne_none.mpr h]
  simp [benchTimeout, h, State.expired, ht, hgo]

/-- What the end of a request does, once its tag is free. -/
theorem State.closeRequest_ends
    (hy : y = ({ s with bench := { s.bench with reqs := s.bench.reqs.filter (·.tag != r.tag) } } : State).freeTag r.tag) :
    s.closeRequest r st ws = y.requestEnd r st ws := by rw [hy]; rfl

end
end Sys2Proof.Machine

namespace Sys2Proof
open Machine

/-- Settles O48: a command by the device's role and its operands, a request by what it meets, its end by its deadline. -/
theorem benchCommandsRequestsAndBenchLaunches : Obligations.BenchCommandsRequestsAndBenchLaunches := by
  intro c w ws a m n st g tag r e s y
  refine ⟨fun h => ⟨fun hrun => next_congr (State.masterCmd_elsewhere hrun h), fun hrun => next_congr (State.masterCmd_elsewhere hrun h),
      fun hrun => next_congr (State.masterCmd_elsewhere hrun h), fun hrun => next_congr (State.masterCmd_elsewhere hrun h)⟩,
    fun h => ⟨fun hrun => ?reset, fun hn hm => ⟨fun hrun => ?read, fun hrun => ?write⟩, fun hrun hm => ?handover, fun hrun he hb => ?launch⟩,
    fun h => ⟨next_congr (benchAck_unknown h), next_congr (benchTimeout_unknown h)⟩,
    fun h => ⟨fun ht => next_congr (benchAck_in_time h ht), fun ht => next_congr (benchAck_late h ht),
      fun ht => ⟨fun hring hr hp => next_congr (benchTimeout_again h ht hring hr hp), fun hno => next_congr (benchTimeout_ends h ht hno)⟩,
      fun ht => next_congr (benchTimeout_early h ht)⟩, fun hy => ?ends⟩
  case reset =>
    have hmaster {f : State} : s.masterCmd c opMEMBER_RESET f = f := State.masterCmd_master hrun h
    refine ⟨fun hform => next_congr (hmaster.trans (State.memberReset_malformed hform)),
      fun hw hask => next_congr (hmaster.trans ((State.memberReset_one hw hask).trans (if_pos rfl))),
      fun hw hask => next_congr (hmaster.trans ((State.memberReset_one hw hask).trans (if_neg (by decide))))⟩
  case read =>
    have hmaster {f : State} : s.masterCmd c opREMOTE_READ f = f := State.masterCmd_master hrun h
    subst hn hm
    refine ⟨fun hno => next_congr (hmaster.trans (State.remoteRead_malformed hno)), fun hlo hhi => ⟨fun hask => ?_, fun hlast => ?_,
      fun hlast hself hdown => ?_⟩⟩ <;> refine next_congr (hmaster.trans ((State.remoteRead_asks hlo hhi).trans ?_))
    · exact (congrArg (State.askOrEnd · c opREMOTE_READ) hask).trans State.askOrEnd_sent
    · exact (congrArg (State.askOrEnd · c opREMOTE_READ) (State.benchAsk_past_last hlast)).trans (State.askOrEnd_refused (by decide))
    · exact (congrArg (State.askOrEnd · c opREMOTE_READ) (State.benchAsk_down hlast hself hdown)).trans (State.askOrEnd_refused (by decide))
  case write =>
    have hmaster {f : State} : s.masterCmd c opREMOTE_WRITE f = f := State.masterCmd_master hrun h
    subst hn hm
    refine ⟨fun hno => next_congr (hmaster.trans (State.remoteWrite_malformed hno)), fun hlo hhi => ⟨fun hask => ?_, fun hlast => ?_⟩⟩ <;>
      refine next_congr (hmaster.trans ((State.remoteWrite_asks hlo hhi).trans ?_))
    · exact (congrArg (State.askOrEnd · c opREMOTE_WRITE) hask).trans State.askOrEnd_sent
    · exact (congrArg (State.askOrEnd · c opREMOTE_WRITE) (State.benchAsk_past_last hlast)).trans (State.askOrEnd_refused (by decide))
  case handover =>
    have hmaster {f : State} : s.masterCmd c opHANDOVER f = f := State.masterCmd_master hrun h
    subst hm
    refine ⟨fun hd hp => ?_, fun hd => ?_, fun hd hp => ?_, State.length_handWords _, State.handWords_zeroed _⟩ <;>
      refine next_congr (hmaster.trans ?_)
    · exact (congrArg (State.askOrEnd · c opHANDOVER) (State.peerAsk_without_route hd hp)).trans (State.askOrEnd_refused (by decide))
    · exact (congrArg (State.askOrEnd · c opHANDOVER) (State.peerAsk_down hd)).trans (State.askOrEnd_refused (by decide))
    · exact (congrArg (State.askOrEnd · c opHANDOVER) (State.peerAsk_routed hd hp)).trans State.askOrEnd_sent
  case launch =>
    have hbench := exec_launch_bench hrun he hb h
    exact ⟨fun hform => hbench.trans (next_congr (State.launchBench_malformed hform)),
      fun hform hst => hbench.trans (next_congr (State.launchBench_refused hform hst)),
      fun hform hst hnamed hask => hbench.trans (next_congr (State.launchBench_sent hform hst hnamed hask))⟩
  case ends =>
    have hclose := State.closeRequest_ends (st := st) (ws := ws) hy
    refine ⟨fun hp => ?_, fun hp => ?_, fun hp => ?_, fun hp => ?_⟩ <;> simp only [hclose, State.requestEnd, hp]

end Sys2Proof

/-! The host link's events (O52): snapshots and doorbells, a command fetched, a notice written, timers, tokens and spans, then the loss and
the return of the link. -/

namespace Sys2Proof.Machine
open Sys2Proof

/-! ## Snapshots (R108, R109) -/

theorem afind_map_mem {α : Type} {l : List Nat} {g : Nat → α} {v : Nat} (h : v ∈ l) : afind (l.map fun p => (p, g p)) v = some (g v) := by
  induction l with
  | nil => exact absurd h List.not_mem_nil
  | cons p l ih =>
    by_cases hp : p = v
    · simp [afind, hp]
    · have hv : v ∈ l := (List.mem_cons.mp h).resolve_left (Ne.symm hp)
      simpa [afind, hp] using ih hv

theorem afind_filter_same {α : Type} (l : List (Nat × α)) (v : Nat) : afind (l.filter (·.1 != v)) v = none := by
  rw [afind, Option.map_eq_none_iff, List.find?_eq_none]
  intro x hx
  simpa using (List.mem_filter.mp hx).2

section
variable {s : State} {a f req v : Nat}

theorem shadow_find_other (l : List Shadow) (req : Nat) : (l.filter (·.requester != req)).find? (·.requester == req) = none := by
  rw [List.find?_eq_none]
  intro x hx
  simpa using (List.mem_filter.mp hx).2

theorem State.shadowsOf_setShadows (s : State) (a : Nat) (l : List Shadow) : (s.setShadows a l).shadowsOf a = l :=
  aget_aset_same ..

/-- A requester that latches words has them in its shadow. -/
theorem State.shadowWord_latch {ws : List (Nat × Word)} (h : ws ≠ []) : (s.latch a req ws).shadowWord a req v = afind ws v := by
  have hws : ws.isEmpty = false := List.isEmpty_eq_false_iff.mpr h
  have hold := shadow_find_other (s.shadowsOf a) req
  have htail : ((s.shadowsOf a).filter (·.requester != req)).tail.find? (·.requester == req) = none := by
    rw [List.find?_eq_none] at hold ⊢
    exact fun x hx => hold x (List.mem_of_mem_tail hx)
  unfold State.latch
  simp only [hws, Bool.false_eq_true, if_false]
  split
  · have hshadows (t : State) (g : Fld) : (t.bump g).shadowsOf a = t.shadowsOf a := rfl
    simp [State.shadowWord, hshadows, State.shadowsOf_setShadows, htail]
  · simp [State.shadowWord, State.shadowsOf_setShadows, hold]

/-- The first word of a group is returned; its partners stand in the requester's shadow. -/
theorem nowLoRead_latches (h : rsPartners f ≠ []) : (nowLoRead req f false s).host.readData = [s.readWord f] ∧
    ∀ v ∈ rsPartners f, (nowLoRead req f false s).shadowWord f req v = some (s.readWord v) := by
  have hps : ((rsPartners f).map fun p => (p, s.readWord p)) ≠ [] := by simpa using h
  have hrun : nowLoRead req f false s = (s.latch f req ((rsPartners f).map fun p => (p, s.readWord p))).readOut [s.readWord f] :=
    if_neg (by simpa using h)
  rw [hrun]
  exact ⟨rfl, fun v hv => (State.shadowWord_latch hps).trans (afind_map_mem hv)⟩

/-- A partner word read from the requester's shadow is gone from it. -/
theorem rsShadowRead_consumes {w : Nat} {y : Word} (hf : rsFirst w = some f) (hy : s.shadowWord f req w = some y) :
    (rsShadowRead req w s).host.readData = [y] ∧ (rsShadowRead req w s).shadowWord f req w = none := by
  unfold rsShadowRead
  simp only [hf, hy]
  refine ⟨rfl, ?_⟩
  rw [State.shadowWord, Option.bind_eq_none_iff]
  intro x hx
  have hread (t : State) (l : List Word) : (t.readOut l).shadowsOf f = t.shadowsOf f := rfl
  rw [hread, State.shadowsOf_setShadows, List.find?_append, shadow_find_other, Option.none_or] at hx
  obtain ⟨x0, -, rfl⟩ := List.mem_map.mp (List.mem_filter.mp (List.mem_of_find?_eq_some hx)).1
  exact afind_filter_same _ _

end

/-! ## Doorbells (R299 to R301, R315) -/

section
variable {s : State} {x : Nat}

theorem RingRef.base_session (n : Session) : (RingRef.session n).base + 8 = F.HL_SESS2 n := by
  simp only [RingRef.base, F.HL_SESS0, F.HL_SESS2]; omega

theorem RingRef.base_dma (r : RingId) : (RingRef.dma r).base + 8 = F.HL_DRING2 r := by
  simp only [RingRef.base, F.HL_DRING0, F.HL_DRING2]; omega

theorem State.ringOn_of_enabled {r : RingRef} (hen : s.getF r.en = 1) : s.ringOn r = true := by
  rw [State.ringOn, State.flag, hen]; rfl

theorem State.doorbell_session {n : Session} (hen : s.getF (F.HL_SESS2_EN n) = 1)
    (hroom : (x % 65536 + 65536 - s.getF (F.HL_SESS5_CONS n)) % 65536 ≤ 16 * 2 ^ s.getF (F.HL_SESS2_SIZE n)) :
    s.doorbell (.session n) x = (s.setF (F.HL_SESS5_PROD n) (x % 65536), true) := by
  have hon : s.ringOn (.session n) = true := State.ringOn_of_enabled (by rw [RingRef.en, RingRef.base_session, hen])
  have hslots : s.ringSlots (.session n) = 16 * 2 ^ s.getF (F.HL_SESS2_SIZE n) := by rw [State.ringSlots, RingRef.size, RingRef.base_session]
  exact if_neg (by rw [hon, hslots]; exact fun h => h.elim (by decide) (Nat.not_lt.mpr hroom))

theorem State.doorbell_notice (hen : s.getF F.HL_NRING2_EN = 1)
    (hroom : (s.getF F.HL_NRING5_PROD + 65536 - x % 65536) % 65536 ≤ 16 * 2 ^ s.getF F.HL_NRING2_SIZE) :
    s.doorbell .notice x = (s.setF F.HL_NRING5_CONS (x % 65536), true) := by
  have hon : s.ringOn .notice = true := State.ringOn_of_enabled hen
  exact if_neg (by rw [hon]; exact fun h => h.elim (by decide) (Nat.not_lt.mpr hroom))

theorem State.doorbell_dma {r : RingId} (hen : s.getF (F.HL_DRING2_EN r) = 1)
    (hroom : (x % 65536 + 65536 - s.getF (F.HL_DRING3_CONS r)) % 65536 ≤ 16 * 2 ^ s.getF (F.HL_DRING2_SIZE r)) :
    s.doorbell (.dma r) x = (s.setF (F.HL_DRING3_PROD r) (x % 65536), true) := by
  have hon : s.ringOn (.dma r) = true := State.ringOn_of_enabled (by rw [RingRef.en, RingRef.base_dma, hen])
  have hslots : s.ringSlots (.dma r) = 16 * 2 ^ s.getF (F.HL_DRING2_SIZE r) := by rw [State.ringSlots, RingRef.size, RingRef.base_dma]
  exact if_neg (by rw [hon, hslots]; exact fun h => h.elim (by decide) (Nat.not_lt.mpr hroom))

end

/-! ## A command fetched (R300) -/

section
variable {s z : State} {n : Session} {a : Nat} {y : Word} {b : List Byte}

/-- A known command of the session itself takes a slot. -/
theorem State.takeCommand_taken {ws : List Word} (hy : y = wordAt ws 0) (hn : y.field 23 20 = n.val) (hop : opcodeKnown (y.field 31 24) = true) :
    s.takeCommand n ws = { s with host := { s.host with
      lastServed := n.val,
      taken := s.host.taken ++ [{ session := n, opcode := y.field 31 24, tag := y.field 15 0, fence := y.bit 18 }] } } := by
  subst hy
  simp [State.takeCommand, hn, hop]

theorem State.writeWb_ok {r : RingRef} (h : s.hostOk (s.ringWb r) 4 true = true) :
    s.writeWb r = (s.emitOut (.hostWrite (s.ringWb r) (bytesLE 4 (s.getF r.dev))), false) := if_pos h

theorem commandFetch_takes (hlink : s.linkUp = true) (hbme : s.getF F.HL_LINKSTAT_BME = 1) (hroom : s.host.taken.length < 256)
    (hturn : s.nextSession = some n.val) (ha : a = s.getF (F.HL_SESS5_CONS n)) (hok : s.hostOk (s.ringAddr (.session n) a) 64 false = true)
    (hy : y = wordAt (wordsOfBytes b) 0) (hn : y.field 23 20 = n.val) (hop : opcodeKnown (y.field 31 24) = true)
    (hz : z = { s.setF (F.HL_SESS5_CONS n) (a + 1) with host := { s.host with
      lastServed := n.val,
      taken := s.host.taken ++ [{ session := n, opcode := y.field 31 24, tag := y.field 15 0, fence := y.bit 18 }] } })
    (hwb : z.hostOk (z.ringWb (.session n)) 4 true = true) : commandFetch n (.data b) s =
      { z with out := s.out ++ [.hostWrite (z.ringWb (.session n)) (bytesLE 4 (z.getF (F.HL_SESS5_CONS n)))] } := by
  have hflag : s.flag F.HL_LINKSTAT_BME = true := by simp [State.flag, hbme]
  have hgo : ¬(!s.linkUp ∨ !s.flag F.HL_LINKSTAT_BME ∨ 256 ≤ s.host.taken.length ∨ s.nextSession ≠ some n.val) := by
    simp [hlink, hflag, hroom, hturn]
  have hdev : s.getF (RingRef.session n).dev = a := ha.symm
  have htake : (s.setF (RingRef.session n).dev (a + 1)).takeCommand n (wordsOfBytes b) = z :=
    (State.takeCommand_taken hy hn hop).trans hz.symm
  have hout : z.out = s.out := by rw [hz]; rfl
  unfold commandFetch
  simp only [if_neg hgo, hdev, hok, htake, State.writeWb_ok hwb, Bool.not_true, Bool.false_eq_true, if_false, State.emitOut, hout]
  rfl

end

/-! ## A notice written (R301, R313) -/

section
variable {s z : State} {nt : Notice} {rest : List Notice}

theorem State.countDelayed_of_tokens (h : ∀ m ∈ s.notices.buffer, s.hasToken m = true) : s.countDelayed = s := by
  have hlate : (s.notices.buffer.filter fun n => !s.hasToken n && !n.delayed) = [] := by
    rw [List.filter_eq_nil_iff]
    intro m hm
    simp [h m hm]
  simp [State.countDelayed, hlate]

/-- The interrupt rule writes what is pending to be signalled, and what leaves. -/
theorem State.signal_effect (s : State) (v : Nat) :
    (s.signal v).notices = s.notices ∧ (s.signal v).map = s.map ∧ ∃ o, (s.signal v).out = s.out ++ o := by
  unfold State.signal
  split
  · split <;> exact ⟨rfl, rfl, [], (List.append_nil _).symm⟩
  · exact ⟨rfl, rfl, _, rfl⟩

theorem State.noteSignal_effect (s : State) :
    s.noteSignal.notices.buffer = s.notices.buffer ∧ s.noteSignal.map = s.map ∧ ∃ o, s.noteSignal.out = s.out ++ o := by
  unfold State.noteSignal
  dsimp only
  split
  · obtain ⟨hn, hm, hout⟩ := State.signal_effect { s with notices := { s.notices with unsignalled := 0 } } 0
    exact ⟨by rw [hn], hm, hout⟩
  · exact ⟨rfl, rfl, [], (List.append_nil _).symm⟩

theorem State.putNotice_written {p : Nat} (hp : p = s.getF F.HL_NRING5_PROD) (hok : s.hostOk (s.ringAddr .notice p) 64 true = true)
    (hz : z = { s.setF F.HL_NRING5_PROD (p + 1) with out := s.out ++ [.hostWrite (s.ringAddr .notice p) nt.bytes] })
    (hwb : z.hostOk (z.ringWb .notice) 4 true = true) : s.putNotice nt =
      ((z.emitOut (.hostWrite (z.ringWb .notice) (bytesLE 4 (z.getF (RingRef.dev .notice))))).noteSignal, true) := by
  have hdev : s.getF (RingRef.dev .notice) = p := hp.symm
  have hset : (s.emitOut (.hostWrite (s.ringAddr .notice p) nt.bytes)).setF (RingRef.dev .notice) (p + 1) = z := hz.symm
  unfold State.putNotice
  simp only [hdev, hok, hset, State.writeWb_ok hwb, Bool.not_true, Bool.false_eq_true, if_false]

/-- The first notice, which needs no token, is written and leaves the buffer. -/
theorem noticeWrite_first (hbuf : s.notices.buffer = nt :: rest) (hlost : s.notices.lostSince = 0)
    (hfree : ∀ m ∈ nt :: rest, tokenFree m = true) (hroom : s.noticeRoom = true)
    (hok : s.hostOk (s.ringAddr .notice (s.getF F.HL_NRING5_PROD)) 64 true = true)
    (hz : z = { s.setF F.HL_NRING5_PROD (s.getF F.HL_NRING5_PROD + 1) with
      out := s.out ++ [.hostWrite (s.ringAddr .notice (s.getF F.HL_NRING5_PROD)) nt.bytes] })
    (hwb : z.hostOk (z.ringWb .notice) 4 true = true) : ∃ t : State, noticeWrite s = t.freeSlot nt ∧ t.notices.buffer = rest ∧
      t.map = z.map ∧ ∃ o, t.out = z.out ++ o := by
  have htoken : ∀ m ∈ s.notices.buffer, s.hasToken m = true := fun m hm => by
    rw [State.hasToken, hfree m (hbuf ▸ hm)]; rfl
  have hnext : s.nextNotice = some nt := by
    simp [State.nextNotice, hbuf, htoken nt (by simp [hbuf])]
  have hput := State.putNotice_written (nt := nt) rfl hok hz hwb
  obtain ⟨hb, hm, o, ho⟩ := (z.emitOut (.hostWrite (z.ringWb .notice) (bytesLE 4 (z.getF (RingRef.dev .notice))))).noteSignal_effect
  generalize (z.emitOut (.hostWrite (z.ringWb .notice) (bytesLE 4 (z.getF (RingRef.dev .notice))))).noteSignal = x at hput hb hm ho
  have hzbuf : z.notices.buffer = nt :: rest := by rw [hz]; exact hbuf
  refine ⟨{ x with notices := { x.notices with buffer := x.notices.buffer.erase nt } }, ?_, ?_, hm, _, ho.trans (List.append_assoc ..)⟩
  · unfold noticeWrite
    have hspend (t : State) : t.spendToken nt = t := if_pos (by rw [hfree nt List.mem_cons_self]; rfl)
    simp only [State.countDelayed_of_tokens htoken, hroom, hlost, hnext, hput, hspend, Bool.not_true, Bool.false_eq_true, if_false]
    rfl
  · show x.notices.buffer.erase nt = rest
    rw [hb, State.emitOut, hzbuf, List.erase_cons_head]

end

/-! ## Timers, tokens and spans (R301, R313, R384) -/

section
variable {s z : State}

theorem irqTimer_due (htime : s.getF F.HL_NRING6_IRQ_TIME ≠ 0) (hn : s.notices.unsignalled ≠ 0)
    (ht : s.notices.firstUnsignalled + 1000 * s.getF F.HL_NRING6_IRQ_TIME ≤ s.ns) :
    irqTimer s = State.signal { s with notices := { s.notices with unsignalled := 0 } } 0 :=
  if_pos ⟨htime, hn, by rwa [Nat.mul_comm]⟩

theorem aget_map_mem {α : Type} {d : α} {l : List Nat} {g : Nat → α} {v : Nat} (h : v ∈ l) : aget d (l.map fun p => (p, g p)) v = g v := by
  induction l with
  | nil => exact absurd h List.not_mem_nil
  | cons p l ih =>
    by_cases hp : p = v
    · simp [aget, hp]
    · simpa [aget, hp] using ih ((List.mem_cons.mp h).resolve_left (Ne.symm hp))

theorem tokenRefill_fills {a : Nat} (ha : a < 15) (hms : s.notices.lastMs ≤ s.ns / 1000000) :
    (tokenRefill s).notices.lastMs = s.ns / 1000000 ∧
    (tokenRefill s).tokens a = min (s.burst a) (s.tokens a + (s.ns / 1000000 - s.notices.lastMs) * s.rate a) := by
  refine ⟨max_eq_left hms, ?_⟩
  have hfill : aget (s.burst a) (tokenRefill s).notices.tokens a =
      min (s.burst a) (s.tokens a + (s.ns / 1000000 - s.notices.lastMs) * s.rate a) := aget_map_mem (List.mem_range.mpr ha)
  have hburst : (tokenRefill s).burst a = s.burst a := rfl
  rw [State.tokens, hburst, hfill, min_eq_right (min_le_left _ _)]

section
variable {i : Nat} {sp : Span} (hsp : s.notices.spans[i]? = some sp) (ht : sp.due + 2000 ≤ s.ns)
  (hz : z = { s with notices := { s.notices with spans := s.notices.spans.eraseIdx i } })
include hsp ht hz

theorem spanExpiry_empty (hheld : sp.held = none) : spanExpiry i s = z := by
  simp [spanExpiry, hsp, State.expired, ht, hheld, hz]

theorem spanExpiry_hands {nt : Notice} (hheld : sp.held = some nt) : spanExpiry i s = z.hand nt := by
  simp [spanExpiry, hsp, State.expired, ht, hheld, hz]

end

theorem hostLinkState_trains {speed width : Nat} (hdown : s.linkUp = false) (hmode : s.mode.mode ≠ .OFF) : hostLinkState speed width s =
    State.notice { ((s.setF F.HL_LINKSTAT_UP 1).setF F.HL_LINKSTAT_SPEED speed).setF F.HL_LINKSTAT_WIDTH width with
      host := { s.host with lossesSince := 0, discardedSince := 0 } } ncHOST_LINK_STATE 0
      [(16, s.host.lossesSince), (16, s.host.discardedSince)] := by
  have hgo : ¬(s.linkUp = true ∨ s.mode.mode = .OFF) := by simp [hdown, hmode]
  exact if_neg hgo

theorem busMasterEnable_up (hup : s.linkUp = true) : busMasterEnable s = (s.setF F.HL_LINKSTAT_BME 1).sendPending := if_pos hup

end

/-! ## The loss of the link (R296) -/

/-- What the loss of a link keeps while it goes on: the map's canonical form, the losses counted so far, no bench request held. -/
structure State.Losing (n : Nat) (s : State) : Prop where
  sound : s.sound = true
  losses : s.host.lossesSince = n
  held : s.bench.heldReqs = []

/-- A field that is clear once the link is lost, among those the loss clears: no other step of the loss writes its word. -/
structure Fld.LossClears (f : Fld) : Prop where
  range : f.lo ≤ f.hi ∧ f.hi < 32
  place : f.addr % 32 = 8 ∨ f.addr = F.HL_LINKSTAT
  sessions : ∀ i < 16, f.addr ≠ F.HL_SESS2 i ∨ f = F.HL_SESS2_EN i
  rings : ∀ i < 256, f.addr ≠ F.HL_DRING2 i ∨ f = F.HL_DRING2_EN i

section
variable {s : State} {n : Nat} {f g : Fld}

theorem State.grantReads_losses (k : Nat) : (State.grantReads k s).host.lossesSince = s.host.lossesSince := by
  induction k generalizing s with
  | zero => rfl
  | succ k ih =>
    unfold State.grantReads
    split
    · rfl
    · split
      · rfl
      · exact ih

theorem State.readEnd_losses {k : DmaRead} : (s.readEnd k).host.lossesSince = s.host.lossesSince := by
  unfold State.readEnd
  dsimp only
  split
  · rw [State.freeTag, State.benchHeld_host, State.grantReads_losses]
    rfl
  · rfl

theorem State.Losing.setF (h : s.Losing n) (f : Fld) (v : Nat) : (s.setF f v).Losing n :=
  ⟨s.sound_setF f v h.sound, h.losses, h.held⟩

theorem State.Losing.readEnd (h : s.Losing n) (k : DmaRead) : (s.readEnd k).Losing n := by
  refine ⟨?_, State.readEnd_losses.trans h.losses, ?_⟩ <;> rw [State.readEnd_frame h.held]
  exacts [h.sound, h.held]

theorem State.Losing.qRewind (h : s.Losing n) (q : Nat) : (s.qRewind q).Losing n := by
  obtain ⟨hs, hl, hh⟩ := h.setF (F.QM_QRP_PTR q) (s.qM q)
  rw [State.qRewind, qBack_frame]
  exact ⟨hs, hl, hh⟩

theorem State.Losing.dropRun (h : s.Losing n) (r : Nat) : (s.dropRun r).Losing n := by
  unfold State.dropRun
  dsimp only
  split
  · exact ⟨h.sound, h.losses, h.held⟩
  · have hread := h.readEnd (.run r)
    refine State.Losing.setF ?_ _ _
    split
    · obtain ⟨hs, hl, hh⟩ := hread.qRewind _
      exact ⟨hs, hl, hh⟩
    · obtain ⟨hs, hl, hh⟩ := hread
      exact ⟨hs, hl, hh⟩

theorem State.getF_readEnd (h : s.bench.heldReqs = []) (k : DmaRead) : (s.readEnd k).getF f = s.getF f := by
  rw [State.readEnd_frame h]; rfl

theorem State.getF_qRewind (hf : f.addr % 32 = 8 ∨ f.addr = F.HL_LINKSTAT) (q : Nat) : (s.qRewind q).getF f = s.getF f := by
  rw [State.qRewind, qBack_frame]
  refine State.getF_setF_other s (F.QM_QRP_PTR q) f _ ?_
  show f.addr ≠ 0x100000c + 32 * q
  have hstat : F.HL_LINKSTAT = 0x1800230 := rfl
  omega

/-- The descriptor that ends at the loss writes no enable and not the link's state. -/
theorem State.getF_dropRun (h : s.bench.heldReqs = []) (hf : f.addr % 32 = 8 ∨ f.addr = F.HL_LINKSTAT) (r : Nat) :
    (s.dropRun r).getF f = s.getF f := by
  have herr : f.addr ≠ (F.HL_DRING4_ERRORS r).addr := by
    show f.addr ≠ 0x1810010 + 32 * r
    have hstat : F.HL_LINKSTAT = 0x1800230 := rfl
    omega
  have hread : (s.readEnd (.run r)).getF f = s.getF f := State.getF_readEnd h _
  unfold State.dropRun
  dsimp only
  split
  · rfl
  · refine (State.getF_setF_other _ (F.HL_DRING4_ERRORS r) f _ herr).trans ?_
    split
    · exact (State.getF_qRewind hf _).trans hread
    · exact hread

theorem State.getF_cleared (h : s.sound = true) (hr : f.lo ≤ f.hi ∧ f.hi < 32) : (s.setF f 0).getF f = 0 := by
  rw [State.getF_setF_same s f 0 h hr.1 hr.2, Nat.zero_mod]

/-- A clear field of a losing link stays clear under the clearing of an enable. -/
theorem State.getF_clear (h : s.sound = true) (h0 : s.getF f = 0) (hr : f.lo ≤ f.hi ∧ f.hi < 32) (hg : f.addr ≠ g.addr ∨ f = g) :
    (s.setF g 0).getF f = 0 := by
  obtain hg | rfl := hg
  · rw [State.getF_setF_other s g f 0 hg, h0]
  · exact State.getF_cleared h hr

/-- A step of a fold that establishes what every other step keeps. -/
theorem foldl_establishes {α σ : Type} {I P : σ → Prop} {step : σ → α → σ} {l : List α} {k : α} {s : σ} (hk : k ∈ l) (h0 : I s)
    (hI : ∀ a, I a → ∀ x ∈ l, I (step a x)) (hset : ∀ a, I a → P (step a k)) (hkeep : ∀ a, I a → P a → ∀ x ∈ l, P (step a x)) :
    P (l.foldl step s) := by
  obtain ⟨l1, l2, rfl⟩ := List.append_of_mem hk
  rw [List.foldl_append, List.foldl_cons]
  have hbefore : I (l1.foldl step s) :=
    List.foldlRecOn l1 step h0 fun a ha x hx => hI a ha x (List.mem_append_left _ hx)
  have hafter : I (step (l1.foldl step s) k) := hI _ hbefore k hk
  have hboth : ∀ a, I a ∧ P a → ∀ x ∈ l2, I (step a x) ∧ P (step a x) := fun a ha x hx =>
    have hx' : x ∈ l1 ++ k :: l2 := List.mem_append_right _ (List.mem_cons_of_mem _ hx)
    ⟨hI a ha.1 x hx', hkeep a ha.1 ha.2 x hx'⟩
  exact (List.foldlRecOn (motive := fun a => I a ∧ P a) l2 step ⟨hafter, hset _ hbefore⟩ hboth).2

/-- The sessions' rings are disabled. -/
def State.lossSessions (s : State) : State := (List.range 16).foldl (fun a i => a.setF (F.HL_SESS2_EN i) 0) s

/-- The descriptors in progress end, and their rings are disabled. -/
def State.lossRings (s : State) : State := (List.range 256).foldl (fun a r => (a.dropRun r).setF (F.HL_DRING2_EN r) 0) s

theorem State.Losing.lossSessions (h : s.Losing n) : s.lossSessions.Losing n :=
  List.foldlRecOn (List.range 16) _ h fun _ ha _ _ => ha.setF _ _

theorem State.Losing.lossRings (h : s.Losing n) : s.lossRings.Losing n :=
  List.foldlRecOn (List.range 256) _ h fun _ ha _ _ => (ha.dropRun _).setF _ _

theorem State.Losing.reads (h : s.Losing n) (l : List DmaRead) : (l.foldl (fun a k => a.readEnd k) s).Losing n :=
  List.foldlRecOn l _ h fun _ ha k _ => ha.readEnd k

section
variable (hf : f.LossClears)
include hf

theorem State.lossSessions_step {a : State} (ha : a.Losing n) (h0 : a.getF f = 0) {i : Nat} (hi : i < 16) :
    (a.setF (F.HL_SESS2_EN i) 0).getF f = 0 := State.getF_clear ha.sound h0 hf.range (hf.sessions i hi)

theorem State.lossRings_step {a : State} (ha : a.Losing n) (h0 : a.getF f = 0) {r : Nat} (hr : r < 256) :
    ((a.dropRun r).setF (F.HL_DRING2_EN r) 0).getF f = 0 :=
  State.getF_clear (ha.dropRun r).sound ((State.getF_dropRun ha.held hf.place r).trans h0) hf.range (hf.rings r hr)

theorem State.lossSessions_keeps (h : s.Losing n) (h0 : s.getF f = 0) : s.lossSessions.getF f = 0 :=
  (List.foldlRecOn (motive := fun a : State => a.Losing n ∧ a.getF f = 0) (List.range 16) _ ⟨h, h0⟩ fun _ ha _ hi =>
    ⟨ha.1.setF _ _, State.lossSessions_step hf ha.1 ha.2 (List.mem_range.mp hi)⟩).2

theorem State.lossRings_keeps (h : s.Losing n) (h0 : s.getF f = 0) : s.lossRings.getF f = 0 :=
  (List.foldlRecOn (motive := fun a : State => a.Losing n ∧ a.getF f = 0) (List.range 256) _ ⟨h, h0⟩ fun _ ha _ hr =>
    ⟨(ha.1.dropRun _).setF _ _, State.lossRings_step hf ha.1 ha.2 (List.mem_range.mp hr)⟩).2

/-- The field of a session's enable is clear once the sessions are disabled. -/
theorem State.lossSessions_clears (h : s.Losing n) {i : Nat} (hi : i < 16) (hfi : f = F.HL_SESS2_EN i) : s.lossSessions.getF f = 0 :=
  foldl_establishes (I := State.Losing n) (P := fun a : State => a.getF f = 0) (List.mem_range.mpr hi) h (fun _ ha _ _ => ha.setF _ _)
    (fun a ha => by subst hfi; exact State.getF_cleared ha.sound hf.range)
    fun _ ha h0 _ hx => State.lossSessions_step hf ha h0 (List.mem_range.mp hx)

theorem State.lossRings_clears (h : s.Losing n) {r : Nat} (hr : r < 256) (hfr : f = F.HL_DRING2_EN r) : s.lossRings.getF f = 0 :=
  foldl_establishes (I := State.Losing n) (P := fun a : State => a.getF f = 0) (List.mem_range.mpr hr) h (fun _ ha _ _ => (ha.dropRun _).setF _ _)
    (fun a ha => by subst hfr; exact State.getF_cleared (ha.dropRun r).sound hf.range)
    fun _ ha h0 _ hx => State.lossRings_step hf ha h0 (List.mem_range.mp hx)

end

theorem State.getF_reads (h : s.Losing n) (l : List DmaRead) : (l.foldl (fun a k => a.readEnd k) s).getF f = s.getF f :=
  (List.foldlRecOn (motive := fun a : State => a.Losing n ∧ a.getF f = s.getF f) l _ ⟨h, rfl⟩ fun _ ha k _ =>
    ⟨ha.1.readEnd k, (State.getF_readEnd ha.1.held k).trans ha.2⟩).2

theorem lossClears_up : F.HL_LINKSTAT_UP.LossClears :=
  ⟨by decide, .inr rfl, fun i hi => .inl (by show 0x1800230 ≠ 0x1800008 + 32 * i; omega),
    fun i _ => .inl (by show 0x1800230 ≠ 0x1810008 + 32 * i; omega)⟩

theorem lossClears_notices : F.HL_NRING2_EN.LossClears :=
  ⟨by decide, .inl rfl, fun i hi => .inl (by show 0x1800208 ≠ 0x1800008 + 32 * i; omega),
    fun i _ => .inl (by show 0x1800208 ≠ 0x1810008 + 32 * i; omega)⟩

theorem lossClears_session {k : Nat} (hk : k < 16) : (F.HL_SESS2_EN k).LossClears := by
  refine ⟨⟨le_rfl, by show 4 < 32; decide⟩, .inl (by show (0x1800008 + 32 * k) % 32 = 8; omega), fun i _ => ?_,
    fun i _ => .inl (by show 0x1800008 + 32 * k ≠ 0x1810008 + 32 * i; omega)⟩
  obtain rfl | h := eq_or_ne k i
  · exact .inr rfl
  · exact .inl (by show 0x1800008 + 32 * k ≠ 0x1800008 + 32 * i; omega)

theorem lossClears_ring (k : Nat) : (F.HL_DRING2_EN k).LossClears := by
  refine ⟨⟨le_rfl, by show 4 < 32; decide⟩, .inl (by show (0x1810008 + 32 * k) % 32 = 8; omega),
    fun i hi => .inl (by show 0x1810008 + 32 * k ≠ 0x1800008 + 32 * i; omega), fun i _ => ?_⟩
  obtain rfl | h := eq_or_ne k i
  · exact .inr rfl
  · exact .inl (by show 0x1810008 + 32 * k ≠ 0x1810008 + 32 * i; omega)

/-- The link's own registers at its loss. -/
def State.lossRegisters (s : State) : State :=
  (((s.setF F.HL_LINKSTAT_UP 0).setF F.HL_LINKSTAT_BME 0).bump F.HL_LINKSTAT_DOWNS).setF F.HL_NRING2_EN 0

theorem State.Losing.lossRegisters (h : s.Losing n) : s.lossRegisters.Losing n := (((h.setF _ _).setF _ _).setF _ _).setF _ _

theorem State.lossRegisters_up (h : s.Losing n) : s.lossRegisters.getF F.HL_LINKSTAT_UP = 0 := by
  have h1 := h.setF F.HL_LINKSTAT_UP 0
  have h2 := h1.setF F.HL_LINKSTAT_BME 0
  rw [State.lossRegisters, State.getF_setF_other _ _ _ _ (by decide), State.bump,
    State.getF_setF_disjoint _ F.HL_LINKSTAT_DOWNS F.HL_LINKSTAT_UP _ h2.sound rfl (by decide) (by decide) (by decide) (by decide),
    State.getF_setF_disjoint _ F.HL_LINKSTAT_BME F.HL_LINKSTAT_UP _ h1.sound rfl (by decide) (by decide) (by decide) (by decide),
    State.getF_cleared h.sound (by decide)]

theorem State.lossRegisters_notices (h : s.Losing n) : s.lossRegisters.getF F.HL_NRING2_EN = 0 :=
  State.getF_cleared (f := F.HL_NRING2_EN) (((h.setF F.HL_LINKSTAT_UP 0).setF F.HL_LINKSTAT_BME 0).setF F.HL_LINKSTAT_DOWNS _).sound
    (by decide)

/-- A field clear once the rings are disabled is clear after the loss, which counts one more. -/
theorem hostLinkLoss_effect (hup : s.linkUp = true) (h : s.Losing n) : (hostLinkLoss s).host.lossesSince = n + 1 ∧
    ∀ f : Fld, s.lossRegisters.lossSessions.lossRings.getF f = 0 → (hostLinkLoss s).getF f = 0 := by
  unfold hostLinkLoss
  rw [hup]
  simp only [Bool.not_true, Bool.false_eq_true, if_false]
  have hring := h.lossRegisters.lossSessions.lossRings
  exact ⟨congrArg (· + 1) (hring.reads _).losses, fun f h0 => (State.getF_reads hring _).trans h0⟩

end
end Sys2Proof.Machine

namespace Sys2Proof
open Machine

/-- Settles O52: each event by its equation above; DMA's by those of O19. -/
theorem hostLinkEventsComplete : Obligations.HostLinkEventsComplete := by
  intro req f x n a g len w speed width ses r y b i sp nt rest d ds s z u
  refine ⟨fun h => ⟨_, rfl, nowLoRead_latches h⟩, fun hf hy => ⟨_, rfl, rsShadowRead_consumes hf hy⟩,
    fun hen hroom => next_congr (congrArg Prod.fst (State.doorbell_session hen hroom)),
    fun hen hroom => next_congr (congrArg Prod.fst (State.doorbell_notice hen hroom)), fun hen hroom => ?ddb,
    fun hlink hbme => ⟨fun hroom hturn ha hok hy hn hop hz hwb =>
        next_congr (commandFetch_takes hlink hbme hroom hturn ha hok hy hn hop hz hwb),
      fun hbuf hlost hfree hroom hok hz hwb => ?notice, fun ha hds hb hon hring havail hread hok hown hmode href hkind => ?fetch,
      fun hrun hu => ?run⟩,
    fun htime hn ht => next_congr (irqTimer_due htime hn ht), fun ha hms => ⟨_, rfl, tokenRefill_fills ha hms⟩,
    fun hsp ht hz => ⟨fun hheld => next_congr (spanExpiry_empty hsp ht hz hheld), fun hheld => next_congr (spanExpiry_hands hsp ht hz hheld)⟩,
    fun hs hup hheld => ?loss, fun hdown hmode => next_congr (hostLinkState_trains hdown hmode),
    fun hup => next_congr (busMasterEnable_up hup)⟩
  case ddb =>
    refine next_congr ?_
    simp only [hlDdb, State.doorbell_dma hen hroom]
    rfl
  case notice =>
    obtain ⟨t, ht, heffect⟩ := noticeWrite_first hbuf hlost hfree hroom hok hz hwb
    exact ⟨t, next_congr ht, heffect⟩
  case fetch =>
    have hent := descriptorFetch_entry hlink hbme hon hring ha havail hread hds hb hok
    have hup : s.afterRead.linkUp = true := by rw [afterRead_frame]; exact hlink
    have hmode' : s.afterRead.mode = s.mode := by rw [afterRead_frame]
    have hchk : s.afterRead.descRefused r ds = s.descRefused r ds := by rw [afterRead_frame]; rfl
    generalize s.afterRead = v at hent hup hmode' hchk ⊢
    rw [if_pos hown, State.dmaAdvance_starts rfl (x := ⟨a % 65536, ds⟩) (by rwa [hmode']) hup (by rwa [hchk])] at hent
    exact next_congr (hent.trans (if_neg hkind))
  case run =>
    subst hu
    refine ⟨fun hkind hw hlocal htag hmod h4 h512 hb hprod => ?_, fun hkind hw hus hhead hitem hfit hp hz => ?_, fun hkind hw htag =>
      ⟨next_congr (dmaWriteResponse_fromQueue hrun hkind hw htag), next_congr (dmaTimeout_fromQueue hrun hkind hw htag)⟩⟩
    · obtain ⟨v, hv, hto⟩ := dmaToQueue_data hrun hlink hbme hkind hw htag hlocal hmod h4 h512 hb
      rw [hprod] at hv
      subst hv
      exact next_congr hto
    · have hmoves := dmaFromQueue_moves hrun hlink hbme hkind hw hus hhead hitem hfit
      rw [hp, ← hz] at hmoves
      exact next_congr hmoves
  case loss =>
    have h : s.Losing s.host.lossesSince := ⟨hs, rfl, hheld⟩
    have hreg := h.lossRegisters
    have hses := hreg.lossSessions
    obtain ⟨hcount, hclear⟩ := hostLinkLoss_effect hup h
    have hkept {f : Fld} (hf : f.LossClears) (h0 : s.lossRegisters.getF f = 0) : (hostLinkLoss s).getF f = 0 :=
      hclear f (State.lossRings_keeps hf hses (State.lossSessions_keeps hf hreg h0))
    refine ⟨_, rfl, ?_, ?_, hkept lossClears_notices (State.lossRegisters_notices h), ?_, hcount⟩
    · rw [State.linkUp, State.flag, hkept lossClears_up (State.lossRegisters_up h)]
      rfl
    · exact hclear _ (State.lossRings_keeps (lossClears_session ses.isLt) hses
        (State.lossSessions_clears (lossClears_session ses.isLt) hreg ses.isLt rfl))
    · exact hclear _ (State.lossRings_clears (lossClears_ring r) hses r.isLt rfl)

end Sys2Proof
